-- ==== Sys2Proof/Word.lean ====
section
/-! DEFINITION. The word types of the block and the plainest arithmetic over them: 32-bit register
words, 64-bit storage words, bytes, four-state net values, saturation. -/

namespace Sys2Proof

/-- A 32-bit register word (R4, R12). -/
abbrev Word := BitVec 32

/-- A 64-bit storage word: a step word, a bank word, a Deep Store word (R34, R95). -/
abbrev Dword := BitVec 64

/-- A byte. -/
abbrev Byte := BitVec 8

/-- A net value (R23): the pair (v, k). (0,1) is 0, (1,1) is 1, (0,0) is X, (1,0) is Z. -/
structure Nv where
  v : Bool
  k : Bool
deriving DecidableEq, Repr

namespace Nv
/-- Known 0. -/
def zero : Nv := ⟨false, true⟩
/-- Known 1. -/
def one : Nv := ⟨true, true⟩
/-- Unknown. -/
def x : Nv := ⟨false, false⟩
/-- High impedance. -/
def z : Nv := ⟨true, false⟩
/-- A known value. -/
def ofBool (b : Bool) : Nv := ⟨b, true⟩
/-- True exactly on known 1. -/
def isOne (n : Nv) : Bool := n.v && n.k
end Nv

/-- A net value is inhabited by known 0. -/
def natOfBool (b : Bool) : Nat := if b then 1 else 0

/-- `a + b`, saturating at `top` (R58, R75 and every counter that "saturates"). -/
def satAdd (top a b : Nat) : Nat := if a + b ≤ top then a + b else top

/-- Bits `hi:lo` of `n`. -/
def bitsOf (hi lo n : Nat) : Nat := (n / 2 ^ lo) % 2 ^ (hi + 1 - lo)

/-- Bit `i` of `n`. -/
def bitOf (i n : Nat) : Bool := n.testBit i

/-- Round up to a multiple of `m` (`m > 0`). -/
def roundUp (m n : Nat) : Nat := (n + m - 1) / m * m

end Sys2Proof
end

