-- ==== Sys2Proof/Config.lean ====
section
/-! DEFINITION. What is fixed while the machine runs: the shape of a register row, the values the
spec leaves open (opaque: nothing can evaluate them), and the named algorithms the spec uses and
does not spell out. -/

namespace Sys2Proof

/-- A register field: bits `hi:lo`. -/
structure Field where
  hi : Nat
  lo : Nat
deriving DecidableEq, Repr

/-- The field types of R4. -/
inductive FieldType where
  | rw | ro | w1c | w1s | wo | rw1 | cf | rsv
deriving DecidableEq, Repr

/-- A field of a register row: its bits, its type and its reset value. -/
structure RegField where
  hi : Nat
  lo : Nat
  ty : FieldType
  reset : Nat
deriving DecidableEq, Repr

/-- A register row: the name, the BAR0 offset of its first instance, the strides and counts of its
unit numbers (widest stride first), and its fields. -/
structure RegRow where
  name : String
  base : Nat
  dims : List (Nat × Nat)
  fields : List RegField
deriving DecidableEq, Repr

/-- DESIGN CHOICE (log 3): every value the spec leaves open for an effect whose machine goes on is
this constant applied to the counter `State.freeCtr`; it has no body, so nothing is provable of it. -/
opaque Config.freeNat : Nat → Nat

/-- The close step that the peer on a port gives a flit it sends (R142). The peer's frame table holds it, not this
device's image (R91), so an estimate that counts it (R92, R135) has a free part (log 3). -/
opaque Config.peerClose : Nat → Nat → Nat

/-- SHAKE256 (R218, R219, R180, R243): byte `i` of the output over a byte string. Named, not spelt
out, by the spec; opaque (log 4). -/
opaque Config.shake256 : List (BitVec 8) → Nat → BitVec 8

/-- Falcon-1024 verification (R219): public key, signature, message. Opaque (log 4). -/
opaque Config.falconVerify : List (BitVec 8) → List (BitVec 8) → List (BitVec 8) → Bool

/-- AES-256 key unwrap (RFC 3394, R222): KEK, wrapped key; none when the integrity check fails.
Opaque (log 4). -/
opaque Config.keyUnwrap : List (BitVec 8) → List (BitVec 8) → Option (List (BitVec 8))

/-- AES-256-GCM decryption (R223): key, IV, additional data, tag, ciphertext; none when the tag does
not match. Opaque (log 4). -/
opaque Config.gcmDecrypt :
  List (BitVec 8) → List (BitVec 8) → List (BitVec 8) → List (BitVec 8) → List (BitVec 8) →
    Option (List (BitVec 8))

/-- Falcon-1024 key generation (R377): seed to public and private key. Opaque (log 4). -/
opaque Config.falconKeys : List (BitVec 8) → List (BitVec 8) × List (BitVec 8)

/-- A Falcon-1024 signature (R378): private key, message. Opaque (log 4). -/
opaque Config.falconSign : List (BitVec 8) → List (BitVec 8) → List (BitVec 8)

/-- Graivo's PCI vendor ID (R274). The spec gives no number; opaque (log 56). -/
opaque Config.vendorId : BitVec 16

/-- Graivo's JTAG manufacturer identity (R410). The spec gives no number; opaque (log 56). -/
opaque Config.jtagMaker : BitVec 11

/-- Graivo's firmware-key digest, held in the boot ROM (R356). The spec gives no bytes; opaque (log 4). -/
opaque Config.fwKeyDigest : List (BitVec 8)

/-- The boot ROM digest of the attestation report (R378). The spec gives no bytes; opaque (log 4). -/
opaque Config.bootRomDigest : List (BitVec 8)

/-- A configuration register of Rimstone as the frames of a section set it (R208, R217): the unit (bank, or
0xFE), the 128 frames, the BAR0 offset. The spec gives the frames no bit layout; opaque (log 14). -/
opaque Config.rimWord : Nat → List (BitVec 8) → Nat → Nat

/-- The frequency in kHz that an image states for a clock tree not sourced from an oscillator (R190): the
frames of the global region, the tree. Opaque (log 14). -/
opaque Config.rimTreeKhz : List (BitVec 8) → Nat → Nat

/-- The pool signal that a serial port takes as RXD or MISO (R195): the frames of the global region, the port. No register
shows the selection; opaque (log 14). -/
opaque Config.rimSerialIn : List (BitVec 8) → Nat → Nat

/-- One bit of the reflected CRC-32C step (polynomial 0x1EDC6F41). PRESUMED (log 5). -/
def crcBit (c : Nat) : Nat := if c % 2 = 1 then (c / 2) ^^^ 0x82F63B78 else c / 2

/-- One byte of CRC-32C. -/
def crcByte (c : Nat) (b : BitVec 8) : Nat :=
  let c := c ^^^ b.toNat
  crcBit (crcBit (crcBit (crcBit (crcBit (crcBit (crcBit (crcBit c)))))))

/-- CRC-32C over a byte string (R160, R200). PRESUMED (log 5): the usual initial value and final
complement. -/
def crc32c (bs : List (BitVec 8)) : BitVec 32 :=
  BitVec.ofNat 32 (bs.foldl crcByte 0xFFFFFFFF ^^^ 0xFFFFFFFF)

/-- The two steppings that ship (R2, chapter 00). -/
inductive Stepping where
  | a0 | b0
deriving DecidableEq, Repr

/-- Latency profile identifier of a stepping (R14, R69). -/
def Stepping.profile : Stepping → Nat
  | .a0 => 1
  | .b0 => 2

/-- Revision of a stepping (R14). -/
def Stepping.revision : Stepping → Nat
  | .a0 => 0x10
  | .b0 => 0x20

end Sys2Proof
end

