-- ==== Sys2Proof/Syntax.lean ====
section
/-! DEFINITION. The commands the block takes (one constructor of Instr per row of
spec/opcode_table.json) and the types of their operands. -/

namespace Sys2Proof

/-! Units (chapter 00, Numbering of units). -/

/-- A gallery number. -/
abbrev Gal := Fin 64
/-- A global chamber number, 16 per gallery. -/
abbrev Cham := Fin 1024
/-- A global BP index: gallery * 1,024 + chamber * 64 + lane. -/
abbrev Bp := Fin 65536
/-- A Passage port. -/
abbrev PortNo := Fin 16
/-- A Deep Store channel. -/
abbrev Chan := Fin 32
/-- A Rimstone bank. -/
abbrev Bank := Fin 8

/-! Step words (02, R34 to R56). -/

/-- An operand field of a step word: its generation bit and its net address (R34). -/
structure Operand where
  prev : Bool
  addr : BitVec 11
deriving DecidableEq, Repr

/-- The P, S and K bits of a step word (R34, R36). -/
structure Marks where
  p : Bool
  s : Bool
  k : Bool
deriving DecidableEq, Repr

/-- PULL of RESOLVE (R41). -/
inductive Pull where
  | none | down | up
deriving DecidableEq, Repr

/-- ACTION of RESOLVE on contention (R41). -/
inductive BusAction where
  | none | record | interrupt | halt
deriving DecidableEq, Repr

/-- The CONST selector (R56). -/
inductive ConstSel where
  | zero | one | x | z | random | tickBit (n : Fin 64)
deriving DecidableEq, Repr

/-- FN of ASSERT (R52). -/
structure AssertAct where
  xfire : Bool
  halt : Bool
  intr : Bool
  log : Bool
deriving DecidableEq, Repr

/-- What a step word does (R35): its opcode with FN and the operands that the opcode reads. -/
inductive StepOp where
  | nop
  | eval (fn : BitVec 8) (a b c d : Operand)
  | evalx (fn : BitVec 8) (a b c d : Operand)
  /-- The second driver is present exactly when DRV1_ABSENT is 0. -/
  | resolve (start : Bool) (pull : Pull) (act : BusAction) (a b : Operand)
      (drv1 : Option (Operand × Operand))
  | maddr (fn : BitVec 8) (a b c d : Operand)
  | mwdat (fn : BitVec 8) (a b c d : Operand)
  | mrd (en : Operand)
  | mwr (mask : BitVec 8) (en : Operand)
  | matom (swap : Bool) (en : Operand)
  | mdeeprd (en : Operand)
  | mdeepwr (mask : BitVec 8) (en : Operand)
  | pinin (pin : Fin 192)
  | pinout (pin : Fin 192) (a : Operand)
  | assert (act : AssertAct) (a : Operand)
  | trig (leaf : Fin 64) (a : Operand)
  | sync (barrier : Fin 16)
  | const (sel : ConstSel)
deriving DecidableEq, Repr

/-- A decoded step word. -/
structure StepWord where
  op : StepOp
  m : Marks
deriving DecidableEq, Repr

/-- The receive ports of a BP (R65). -/
inductive RxPort where
  | loc | gallery | mesh | memory | pin | link
deriving DecidableEq, Repr

/-- The port code of R65. -/
def RxPort.code : RxPort → Nat
  | .loc => 0 | .gallery => 1 | .mesh => 2 | .memory => 3 | .pin => 4 | .link => 5

/-! Storage (04). -/

/-- One aligned 8-byte access of a bank request (R100, R101). -/
inductive BankOp where
  | read
  | write (mask : BitVec 8) (data : Dword)
  | atomic (swap : Bool) (data : Dword)
deriving DecidableEq, Repr

/-- The claimants of a Deep Store slot (R120). -/
inductive DsClass where
  | schedule | echo | noc | loader | drip
deriving DecidableEq, Repr

/-- A storage location that Drip checks (R373). -/
inductive DripTarget where
  | istore (b : Bp) (i : Fin 1024)
  | net (b : Bp) (i : Fin 2048)
  | ftable (c : Cham) (i : Fin 256)
  | slot (b : Bp) (i : Fin 512)
  | recv (b : Bp) (i : Fin 1024)
  | frame (p : PortNo) (i : Fin 64)
  | landing (p : PortNo) (i : Fin 15360)
  | bank (c : Cham) (w : Fin 8192)
  | deep (block : Fin 536870912)
deriving DecidableEq, Repr

/-- A fault that a march finds (R107, R111): the array, its place, its bit column, and whether the
restarted march found it. -/
structure MarchFault where
  array : Fin 5
  cham : Fin 16
  lane : Fin 64
  addr : Fin 8192
  bit : Fin 72
  again : Bool
deriving DecidableEq, Repr

/-! Rimstone (07). -/

/-- A pin. -/
abbrev Pin := Fin 192
/-- A serial port. -/
abbrev Sp := Fin 4

/-- What a scrub pass meets (R209, R210): frames with a single-bit error, with a multi-bit or CRC error,
golden frames whose CRC fails, how many copies of the region map fail, how many vote copies disagree. -/
structure ScrubFinding where
  single : List (Fin 1152)
  multi : List (Fin 1152)
  golden : List (Fin 1152)
  mapBad : Fin 3
  votes : Fin 16
deriving DecidableEq, Repr

/-! Mailbox commands (09). -/

/-- What every mailbox command carries (R253): its queue, tag and submission slot, INTR, its target tick
when TARGET_VALID is 1, and the device that forwarded it when it came through the tunnel (R259). -/
structure Hdr where
  queue : Fin 16
  tag : BitVec 16
  slot : Fin 1024
  intr : Bool
  target : Option (BitVec 64)
  origin : Option (Fin 512)
deriving DecidableEq, Repr

/-- A host buffer (R253): HOST_LEN, the bytes that the device reads from it, and the offset at which an
access ends in a PCIe error (R260). -/
structure HostBuf where
  len : Nat
  bytes : List Byte
  fault : Option Nat
deriving DecidableEq, Repr

/-- Where the bytes of a stage come from (R224, R261): the chain-in port, or the host buffer, which with `sgl` holds a list
of (address, length) pairs. -/
structure StageSource where
  chain : Bool
  sgl : Bool
  buf : HostBuf
deriving DecidableEq, Repr

/-! The Control NoC and Passage (05, 10). -/

/-- A packet's KIND (R289). -/
inductive PktKind where
  | read | write | posted | atomic | response | message | reserved
deriving DecidableEq, Repr

/-- A Control NoC packet (R289): its header fields, LEN, and the 8-byte words of its data flits. A node is
y + 16·x. -/
structure NocPkt where
  kind : PktKind
  vc : Fin 4
  len : Fin 16
  dest : BitVec 8
  src : BitVec 8
  destDev : Fin 512
  srcDev : Fin 512
  remote : Bool
  tag : BitVec 10
  wseq : BitVec 8
  fence : BitVec 8
  fenceValid : Bool
  status : BitVec 8
  op : BitVec 8
  firstBe : BitVec 8
  lastBe : BitVec 8
  addr : BitVec 40
  operand : Dword
  data : List Dword
deriving DecidableEq, Repr

/-- What a PCIe memory request asks: a read of `len` bytes, or a write of bytes, where `none` is a byte whose enable is
clear (R279). -/
inductive HostOp where
  | read (len : Fin 4097)
  | write (bs : List (Option Byte))
deriving DecidableEq, Repr

/-- How a request arrives (R283): whole, with EP set, or with an ECRC error. -/
inductive ReqState where
  | good | poisoned | ecrc
deriving DecidableEq, Repr

/-- The registers of the configuration space (R274, R277, R284). -/
inductive CfgReg where
  | id | command | revision | bar (n : Fin 6) | subsystem | interrupt | devCap | devCtl | uncStatus | uncMask | uncSeverity
  | corStatus | corMask | aerCtl | headerLog (n : Fin 4) | serial (n : Fin 2)
deriving DecidableEq, Repr

/-- A register that a write names (R4): by its BAR0 offset, the control word of the MSI-X capability (R285), or a register
of the configuration space of function `fn` (R274). -/
inductive RegTarget where
  | bar0 (o : BitVec 26)
  | msixControl
  | config (fn : Fin 8) (r : CfgReg)
deriving DecidableEq, Repr

/-- A TIME flit (R346). CORRECTION is signed. -/
structure TimeFlit where
  sub : BitVec 3
  origin : Fin 512
  seq : BitVec 16
  wrap : BitVec 16
  time : BitVec 48
  corr : BitVec 64
  hops : BitVec 5
deriving DecidableEq, Repr

/-- What FEC finds in a received codeword (R128). -/
inductive Fec where
  | clean | corrected | lost
deriving DecidableEq, Repr

/-- The control fields of a received block (R127), the flits of reserved kind or that break their stream in
it (R131), and whether an IDLE flit's pattern differs (R373). -/
structure BlockIn where
  fec : Fec
  seq : BitVec 8
  ack : BitVec 8
  ackValid : Bool
  nak : Bool
  bad : Fin 20
  pattern : Bool
deriving DecidableEq, Repr

/-- An IDENT flit (R130). -/
structure Ident where
  family : BitVec 16
  revision : BitVec 8
  profile : BitVec 2
  device : Fin 512
  mapped : Bool
  port : PortNo
deriving DecidableEq, Repr

/-- The net block of the commands 0x30 to 0x33 (R262), as the submission entry holds it. -/
structure NetBlock where
  gallery : BitVec 8
  chamber : BitVec 8
  bp : BitVec 8
  kind : BitVec 8
  context : BitVec 8
  value : BitVec 8
  addr : BitVec 16
  count : BitVec 16
deriving DecidableEq, Repr

/-- What a remote device answers to a forwarded command (R254, R259). -/
structure RemoteAnswer where
  status : BitVec 16
  reason : BitVec 8
  result0 : Dword
  result1 : Dword
deriving DecidableEq, Repr

/-! DMA (11). -/

/-- How a request of a DMA channel ends: with data (of a read), or failing with a detail byte (R310). -/
inductive DmaResult where
  | ok (bytes : List Byte)
  | fail (detail : BitVec 8)
deriving DecidableEq, Repr

/-- How the two write-backs of a descriptor end (R306, R312): both done, the first or the CONTROL write fails
with a detail byte. -/
inductive RingWrite where
  | ok
  | first (detail : BitVec 8)
  | control (detail : BitVec 8)
deriving DecidableEq, Repr

/-! Time (13). -/

/-- The encapsulation of a PTP message (R349). -/
inductive PtpTransport where
  | ethernet | udp4 | udp6
deriving DecidableEq, Repr

/-- A PTP message as an Ethernet port carries it: its messageType, domain, correctionField (2^-16 ns, signed),
UDP checksum and the rest of its bytes. -/
structure PtpMsg where
  kind : BitVec 4
  domain : BitVec 8
  transport : PtpTransport
  corr : BitVec 64
  udpSum : BitVec 16
  rest : List Byte
deriving DecidableEq, Repr

/-- Who writes a Timebase register (R340): host software, Lantern firmware, a command core. -/
inductive TbWriter where
  | host | lantern | core
deriving DecidableEq, Repr

/-! Lantern (14). -/

/-- A sensor of R362. -/
abbrev Sensor := Fin 93

/-- Why Lantern turns an MCTP or PLDM message down (R354, R358, R359). -/
inductive LntError where
  | notReady | invalidData | unsupported | alreadyInUpdateMode | notInUpdateMode
deriving DecidableEq, Repr

/-- What Lantern answers to an MCTP control or PLDM message (R359): the data that the spec gives it. -/
inductive LntReply where
  | done
  | error (e : LntError)
  | eid (n : Nat)
  | uuid
  | versions
  | msgTypes (l : List Nat)
  | tid (n : Nat)
  | pldmVersion (type major minor : Nat)
  | pldmTypes (l : List Nat)
  | pldmCommands (type : Nat) (l : List String)
  | reading (sensor value : Nat) (valid warn halt : Bool)
  | thresholds (sensor high low : Nat)
  | thermal (warn halt trip hold : Bool)
  | pdrInfo (records : Nat)
  | numericPdr (sensor : Nat)
  | statePdr
  | identifiers (device : Word) (serial : List Byte)
  | firmware (component active : Nat) (builds : List Nat) (pending : Bool)
  | requestData (offset length : Nat)
  | transferComplete
  | verifyComplete (ok : Bool)
  | applyComplete (ok : Bool)
  | status (phase : Nat)
  | arp | neighbour | echo
deriving DecidableEq, Repr

/-- A management packet on an Ethernet port (R360): ARP, IPv6 neighbour discovery, ICMP echo, an MCTP packet in a UDP
datagram to port 6,565; `v4` tells IPv4 from IPv6. Of PLDM, the messages of type 0 and the read-only ones of type 2;
`other` is any other message. A record of the repository is one of the 93 sensors, or 93 for the state sensor. -/
inductive EthMsg where
  | arp
  | neighbour
  | echo (v4 : Bool)
  | getTid (v4 : Bool)
  | setTid (v4 : Bool) (tid : BitVec 8)
  | getPldmVersion (v4 : Bool) (type : BitVec 8)
  | getPldmTypes (v4 : Bool)
  | getPldmCommands (v4 : Bool) (type : BitVec 8)
  | getSensorReading (v4 : Bool) (i : Sensor)
  | getSensorThresholds (v4 : Bool) (i : Sensor)
  | getStateSensorReadings (v4 : Bool)
  | getPdrRepositoryInfo (v4 : Bool)
  | getPdr (v4 : Bool) (record : Fin 94)
  | other
deriving DecidableEq, Repr

/-! Trace (15). -/

/-- What a trace source executes (R381): a conditional branch, an indirect branch or a return, a trap or interrupt
entry, another instruction; the mode afterwards and the address of the instruction reached. -/
inductive TrcEvent where
  | branch (taken : Bool) (mode : BitVec 2) (next : BitVec 48)
  | indirect (mode : BitVec 2) (next : BitVec 48)
  | trap (mode : BitVec 2) (cause : BitVec 8) (next : BitVec 48)
  | other (mode : BitVec 2) (next : BitVec 48)
deriving DecidableEq, Repr

/-- The mode after an event. -/
def TrcEvent.mode : TrcEvent → BitVec 2
  | .branch _ m _ => m
  | .indirect m _ => m
  | .trap m _ _ => m
  | .other m _ => m

/-- The address reached by an event. -/
def TrcEvent.next : TrcEvent → BitVec 48
  | .branch _ _ n => n
  | .indirect _ n => n
  | .trap _ _ n => n
  | .other _ n => n

/-! Resets (09, R270). -/

/-- What causes a DEVICE reset: PERST# falls, or Lantern takes it. -/
inductive DeviceCause where
  | perst | lantern
deriving DecidableEq, Repr

/-- What causes a HOST reset: a Function Level Reset, a Hot Reset, the link going down. -/
inductive HostCause where
  | flr | hot | linkDown
deriving DecidableEq, Repr

/-- The commands: one constructor per row of spec/opcode_table.json. -/
inductive Instr where
  /-- TICK (R17). -/
  | tick
  /-- STEP_ISSUE (R72). -/
  | stepIssue
  /-- NOP (R35). -/
  | nop (b : Bp) (m : Marks)
  /-- EVAL (R39). -/
  | eval (b : Bp) (fn : BitVec 8) (x y z u : Operand) (m : Marks)
  /-- EVALX (R40). -/
  | evalx (b : Bp) (fn : BitVec 8) (x y z u : Operand) (m : Marks)
  /-- RESOLVE (R42). -/
  | resolve (b : Bp) (start : Bool) (pull : Pull) (act : BusAction) (x y : Operand) (drv1 : Option (Operand × Operand)) (m : Marks)
  /-- MADDR (R44). -/
  | maddr (b : Bp) (fn : BitVec 8) (x y z u : Operand) (m : Marks)
  /-- MWDAT (R44). -/
  | mwdat (b : Bp) (fn : BitVec 8) (x y z u : Operand) (m : Marks)
  /-- MRD (R46). -/
  | mrd (b : Bp) (en : Operand) (m : Marks)
  /-- MWR (R47). -/
  | mwr (b : Bp) (mask : BitVec 8) (en : Operand) (m : Marks)
  /-- MATOM (R48). -/
  | matom (b : Bp) (swap : Bool) (en : Operand) (m : Marks)
  /-- MDEEPRD (R49). -/
  | mdeeprd (b : Bp) (en : Operand) (m : Marks)
  /-- MDEEPWR (R49). -/
  | mdeepwr (b : Bp) (mask : BitVec 8) (en : Operand) (m : Marks)
  /-- DEEP_WRITE_ACCEPT (R121). -/
  | deepWriteAccept (c : Cham)
  /-- PININ (R51). -/
  | pinin (b : Bp) (pin : Fin 192) (m : Marks)
  /-- PINOUT (R51). -/
  | pinout (b : Bp) (pin : Fin 192) (x : Operand) (m : Marks)
  /-- ASSERT (R53). -/
  | assert (b : Bp) (act : AssertAct) (x : Operand) (m : Marks)
  /-- TRIG (R54). -/
  | trig (b : Bp) (leaf : Fin 64) (x : Operand) (m : Marks)
  /-- SYNC (R55). -/
  | sync (b : Bp) (bar : Fin 16) (m : Marks)
  /-- CONST (R56). -/
  | const (b : Bp) (sel : ConstSel) (m : Marks)
  /-- ARRIVAL (R67). -/
  | arrival (b : Bp) (port : RxPort) (step : Fin 1024) (x : Nv)
  /-- HOLD_LIMIT (R76). -/
  | holdLimit
  /-- TURNOVER (R18). -/
  | turnover
  /-- ECHO_RECORD_CLOSE (R159). -/
  | echoRecordClose
  /-- ECHO_RECORD_WRITTEN (R163). -/
  | echoRecordWritten
  /-- GENERATION_FLIP (R25). -/
  | generationFlip
  /-- OVERRUN (R84). -/
  | overrun
  /-- HALT_AT_BOUNDARY (R20). -/
  | haltAtBoundary
  /-- CONTEXT_SWITCH (R89). -/
  | contextSwitch
  /-- TICK_CONFIG_APPLY (R88). -/
  | tickConfigApply
  /-- SEQUENCER_STAGE_COMPLETE (R170). -/
  | sequencerStageComplete
  /-- WINDOW_DONE (R172). -/
  | windowDone
  /-- FORCE_APPLY (R175). -/
  | forceApply
  /-- RELEASE_APPLY (R175). -/
  | releaseApply
  /-- SNAPSHOT_TAKE (R179). -/
  | snapshotTake
  /-- SNAPSHOT_SHADOW_END (R179). -/
  | snapshotShadowEnd
  /-- SNAPSHOT_COPY_END (R179). -/
  | snapshotCopyEnd
  /-- SNAP_DONE (R179). -/
  | snapDone
  /-- SNAPSHOT_ABORT (R181). -/
  | snapshotAbort
  /-- RESTORE_APPLY (R183). -/
  | restoreApply
  /-- PIN_WORD_SEND (R200). -/
  | pinWordSend (retries : Option Nat)
  /-- PIN_WORD_APPLY (R201). -/
  | pinWordApply (late : Bool)
  /-- TICK_STROBE (R203). -/
  | tickStrobe
  /-- INPUT_WORD_SAMPLE (R202). -/
  | inputWordSample
  /-- INPUT_WORD_COMPLETE (R202). -/
  | inputWordComplete (dropped : Bool)
  /-- WIRE_CONTENTION (R207). -/
  | wireContention (b : Bank) (w : Fin 64)
  /-- SCRUB_PASS (R209). -/
  | scrubPass (x : ScrubFinding)
  /-- SCRUB_STALL (R210). -/
  | scrubStall
  /-- OSC_LOCK (R193). -/
  | oscLock (k : Fin 4)
  /-- FABRIC_FLASH_READ (R194). -/
  | fabricFlashRead
  /-- FLASH_DATA_VALID (R194). -/
  | flashDataValid
  /-- UFL_PROGRAM (R194). -/
  | uflProgram
  /-- UFL_ERASE (R194). -/
  | uflErase
  /-- UFL_OP_END (R194). -/
  | uflOpEnd
  /-- SP_DATA_WRITE (R195). -/
  | spDataWrite (p : Sp) (b : Byte)
  /-- SP_DATA_READ (R195). -/
  | spDataRead (p : Sp)
  /-- SERIAL_BYTE_RECEIVE (R195). -/
  | serialByteReceive (p : Sp) (b : Byte)
  /-- SW_RESET (R192). -/
  | swReset (r : Fin 2) (v : Bool)
  /-- IMAGE_STAGE (R224). -/
  | imageStage (h : Hdr) (src : StageSource) (len : BitVec 64) (b14 s14 b15 s15 : BitVec 16)
  /-- HEADER_ARRIVAL (R226). -/
  | headerArrival (bs : List Byte)
  /-- STAGE_SPACE_CHECK (R225). -/
  | stageSpaceCheck (bs : List Byte)
  /-- STAGE_END (R229). -/
  | stageEnd (bs : List Byte)
  /-- STAGE_TIMEOUT (R227). -/
  | stageTimeout
  /-- IMAGE_BURST (R155). -/
  | imageBurst (p : PortNo) (off : BitVec 40) (bs : List Byte)
  /-- IMAGE_VERIFY (R230). -/
  | imageVerify (h : Hdr)
  /-- VERIFY_END (R230). -/
  | verifyEnd (golden : Bool)
  /-- CHAIN_RESULT (R232). -/
  | chainResult (pos : Fin 512) (reason : BitVec 8) (loc : Word)
  /-- CHAIN_TIMEOUT (R232). -/
  | chainTimeout
  /-- IMAGE_COMMIT (R233). -/
  | imageCommit (h : Hdr) (resume : Bool)
  /-- LATTICE_COMMIT (R239). -/
  | latticeCommit (h : Hdr) (resume : Bool)
  /-- COMMIT_APPLY (R235). -/
  | commitApply
  /-- COMMIT_END (R236). -/
  | commitEnd
  /-- COMMIT_AT (R239). -/
  | commitAt (p : PortNo) (origin : Fin 512) (t : BitVec 64) (digest : Word) (resume : Bool)
  /-- COMMIT_REPORT (R240). -/
  | commitReport (pos : Fin 512) (reason : BitVec 8)
  /-- REGION_RELOAD (R243). -/
  | regionReload (h : Hdr) (join : BitVec 64)
  /-- RELOAD_ISOLATE (R243). -/
  | reloadIsolate
  /-- RELOAD_WRITE_END (R243). -/
  | reloadWriteEnd
  /-- REGION_JOIN (R243). -/
  | regionJoin
  /-- MBX_SQ_TAIL_WRITE (R249). -/
  | mbxSqTailWrite (q : Fin 16) (v : BitVec 10)
  /-- MBX_CQ_HEAD_WRITE (R249). -/
  | mbxCqHeadWrite (q : Fin 16) (v : BitVec 10)
  /-- QUEUE_ENABLE (R248). -/
  | queueEnable (q : Fin 16) (size : BitVec 11) (vector : BitVec 8)
  /-- QUEUE_DISABLE (R251). -/
  | queueDisable (q : Fin 16) (size : BitVec 11) (vector : BitVec 8)
  /-- COMMAND_FETCH (R249). -/
  | commandFetch (q : Fin 16) (e : Option (List Byte))
  /-- PROGRESS_ENTRY (R258). -/
  | progressEntry (h : Hdr) (done total : Dword)
  /-- CMD_DEADLINE (R258). -/
  | cmdDeadline (q : Fin 16)
  /-- CORE_FAULT (R252). -/
  | coreFault (k : Fin 4)
  /-- REMOTE_COMMAND (R259). -/
  | remoteCommand (h : Hdr) (e bytes : List Byte) (fault : Option Nat) (ans : Option RemoteAnswer) (back : List Byte)
  /-- GET_INFO (R261). -/
  | getInfo (h : Hdr) (buf : HostBuf)
  /-- GET_READY (R269). -/
  | getReady (h : Hdr) (mask : BitVec 128) (ms : Word)
  /-- GET_READY_COMPLETE (R269). -/
  | getReadyComplete
  /-- GET_READY_TIMEOUT (R269). -/
  | getReadyTimeout
  /-- RUN (R263). -/
  | run (h : Hdr)
  /-- HALT (R263). -/
  | halt (h : Hdr) (cancel : Bool)
  /-- STEP (R263). -/
  | step (h : Hdr) (cycles : Word)
  /-- SET_TICK (R81). -/
  | setTick (h : Hdr) (mode policy realign source : BitVec 8) (ns : Word) (frac : BitVec 16)
  /-- SELECT_CONTEXT (R90). -/
  | selectContext (h : Hdr) (ctx : BitVec 8)
  /-- FORCE (R173). -/
  | force (h : Hdr) (n : NetBlock)
  /-- RELEASE (R175). -/
  | release (h : Hdr) (n : NetBlock)
  /-- DEPOSIT (R175). -/
  | deposit (h : Hdr) (n : NetBlock)
  /-- STATE_DEPOSIT (R176). -/
  | stateDeposit (h : Hdr) (n : NetBlock)
  /-- PEEK (R176). -/
  | peek (h : Hdr) (n : NetBlock) (buf : HostBuf)
  /-- MEM_READ (R415). -/
  | memRead (h : Hdr) (space : BitVec 8) (addr : Dword) (buf : HostBuf)
  /-- MEM_WRITE (R415). -/
  | memWrite (h : Hdr) (space : BitVec 8) (addr : Dword) (buf : HostBuf)
  /-- MEM_ATOMIC (R101). -/
  | memAtomic (h : Hdr) (space : BitVec 8) (addr : Dword) (op : BitVec 8) (d : Dword)
  /-- ECHO_ARM (R164). -/
  | echoArm (h : Hdr) (buf : HostBuf)
  /-- ECHO_ARM_APPLY (R265). -/
  | echoArmApply
  /-- ECHO_DISARM (R164). -/
  | echoDisarm (h : Hdr)
  /-- ECHO_READ (R266). -/
  | echoRead (h : Hdr) (off : BitVec 64) (consume : Bool) (buf : HostBuf)
  /-- ECHO_TRIGGER (R170). -/
  | echoTrigger (h : Hdr) (fire : Bool)
  /-- SNAPSHOT (R178). -/
  | snapshot (h : Hdr) (slot : BitVec 8)
  /-- RESTORE (R182). -/
  | restore (h : Hdr) (addr : BitVec 64) (resume : Bool)
  /-- LATTICE_TRAIN (R132). -/
  | latticeTrain (h : Hdr) (ports : BitVec 16) (width : BitVec 8)
  /-- LATTICE_MAP (R267). -/
  | latticeMap (h : Hdr) (buf : HostBuf)
  /-- RUN_FROM (R264). -/
  | runFrom (h : Hdr)
  /-- HALT_BEFORE (R264). -/
  | haltBefore (h : Hdr)
  /-- BARRIER_REPORT (R264). -/
  | barrierReport (dev : Fin 512) (reason : BitVec 8)
  /-- FW_UPDATE (R357). -/
  | fwUpdate (h : Hdr) (slot flags : BitVec 8) (buf : HostBuf) (readBack : Bool)
  /-- ATTEST (R378). -/
  | attest (h : Hdr) (nonce : BitVec 256) (buf : HostBuf)
  /-- LOG_READ (R367). -/
  | logRead (h : Hdr) (start : Word) (count : BitVec 16) (buf : HostBuf)
  /-- INJECT_STATUS (R370). -/
  | injectStatus (h : Hdr) (det : Word) (unit : BitVec 16)
  /-- INJECT_FAULT (R370). -/
  | injectFault (h : Hdr) (det : Word) (unit : BitVec 16)
  /-- FUSE_SVN (R374). -/
  | fuseSvn (h : Hdr) (index : BitVec 8) (buf : HostBuf)
  /-- OWNER_PROGRAM (R374). -/
  | ownerProgram (h : Hdr) (index : BitVec 8) (buf : HostBuf)
  /-- OWNER_REVOKE (R374). -/
  | ownerRevoke (h : Hdr) (index : BitVec 8) (buf : HostBuf)
  /-- BEDROCK_SELECT (R374). -/
  | bedrockSelect (h : Hdr) (index : BitVec 8) (buf : HostBuf)
  /-- LANE_REVERSAL (R374). -/
  | laneReversal (h : Hdr) (index : BitVec 8) (buf : HostBuf)
  /-- DEBUG_LOCK (R374). -/
  | debugLock (h : Hdr) (index : BitVec 8) (buf : HostBuf)
  /-- STORE_KEK (R374). -/
  | storeKek (h : Hdr) (index : BitVec 8) (buf : HostBuf)
  /-- POWER_ON (R270). -/
  | powerOn (vbat : Bool)
  /-- DEVICE_RESET (R270). -/
  | deviceReset (cause : DeviceCause)
  /-- HOST_RESET (R271). -/
  | hostReset (cause : HostCause)
  /-- PERST_DEASSERT (R272). -/
  | perstDeassert
  /-- LNT_PGOOD_RISE (R394). -/
  | lntPgoodRise
  /-- D2D_TRAIN (R8). -/
  | d2dTrain (ok : Bool)
  /-- DS_CLEAR (R414). -/
  | dsClear (n : Chan)
  /-- STARTUP_MARCH_END (R112). -/
  | startupMarchEnd (g : Gal) (found : List MarchFault)
  /-- MARCH_START (R109). -/
  | marchStart (g : Gal) (w : Word)
  /-- MARCH_END (R108). -/
  | marchEnd (g : Gal) (found : List MarchFault)
  /-- BANK_REQUEST (R100). -/
  | bankRequest (g : Gal) (word : Fin 131072) (ops : List BankOp) (posted : Bool)
  /-- BANK_ATOMIC (R101). -/
  | bankAtomic (g : Gal) (word : Fin 131072) (swap : Bool) (d : Dword)
  /-- BANK_SERVE (R99). -/
  | bankServe (c : Cham)
  /-- STEAL_TIMEOUT (R103). -/
  | stealTimeout (g : Gal)
  /-- DRIP_SCRUB (R373). -/
  | dripScrub (t : DripTarget) (endOfPass : Bool)
  /-- DRIP_WRITE_BACK (R105). -/
  | dripWriteBack (t : DripTarget)
  /-- DS_BURST (R120). -/
  | dsBurst (block : Fin 536870912) (write : Bool) (waiting : List DsClass) (crcFails : Fin 6)
  /-- PSG_TRAIN (R132). -/
  | psgTrain (p : PortNo) (w : Word)
  /-- PSG_DOWN (R156). -/
  | psgDown (p : PortNo) (w : Word)
  /-- LANE_EQUALISED (R132). -/
  | laneEqualised (p : PortNo) (k : Fin 4)
  /-- BLOCK_LOCK (R132). -/
  | blockLock (p : PortNo)
  /-- LATENCY_MEASURED (R134). -/
  | latencyMeasured (p : PortNo) (dmax mean rtt : Word)
  /-- PORT_TRAINED (R132). -/
  | portTrained (p : PortNo)
  /-- TRAINING_FAIL (R132). -/
  | trainingFail (p : PortNo)
  /-- LANE_FAIL (R153). -/
  | laneFail (p : PortNo) (k : Fin 4)
  /-- BLOCK_RECEIVE (R128). -/
  | blockReceive (p : PortNo) (b : BlockIn)
  /-- RETRY_TIMEOUT (R129). -/
  | retryTimeout (p : PortNo)
  /-- SLOT_FLIT (R142). -/
  | slotFlit (p : PortNo) (ctx tag : Fin 8) (flit : Fin 64) (vals : BitVec 240) (close : Fin 1024)
  /-- LINK_TIMEOUT (R152). -/
  | linkTimeout (p : PortNo) (flit : Fin 64) (close : Fin 1024)
  /-- DECISION_POINT (R146). -/
  | decisionPoint
  /-- LATTICE_DONE (R150). -/
  | latticeDone (p : PortNo) (tick : BitVec 64)
  /-- LATTICE_HOLD (R147). -/
  | latticeHold (p : PortNo) (origin : Fin 512) (tick : BitVec 64) (time : BitVec 48) (halt : Bool)
  /-- LATTICE_RELEASE (R147). -/
  | latticeRelease (p : PortNo) (origin : Fin 512) (tick : BitVec 64) (time : BitVec 48)
  /-- LATTICE_FAULT (R147). -/
  | latticeFault (p : PortNo) (origin : Fin 512) (tick : BitVec 64) (time : BitVec 48)
  /-- LATTICE_CREDIT (R154). -/
  | latticeCredit (p : PortNo) (w : Word)
  /-- LATTICE_IDENT (R133). -/
  | latticeIdent (p : PortNo) (x : Ident) (own : Bool)
  /-- BARRIER_TIMEOUT (R151). -/
  | barrierTimeout
  /-- NOC_TUNNEL_PACKET (R154). -/
  | nocTunnelPacket (port : PortNo) (ttl : BitVec 8) (p : NocPkt)
  /-- TIME_FLIT_SEND (R346). -/
  | timeFlitSend
  /-- TIME_FLIT (R347). -/
  | timeFlit (p : PortNo) (f : TimeFlit) (resid : BitVec 32)
  /-- PTM_DIALOG (R340). -/
  | ptmDialog (master : BitVec 64) (delay : BitVec 32)
  /-- HOLDOVER (R342). -/
  | holdover
  /-- DTC_WRAP (R335). -/
  | dtcWrap
  /-- TB_NOW_NS_READ (R336). -/
  | tbNowNsRead
  /-- TB_INCR_WRITE (R337). -/
  | tbIncrWrite (by' : TbWriter) (w : Word)
  /-- TB_STEP_WRITE (R338). -/
  | tbStepWrite (by' : TbWriter) (w : Word)
  /-- TB_SLEW_WRITE (R338). -/
  | tbSlewWrite (by' : TbWriter) (w : Word)
  /-- SLEW_END (R338). -/
  | slewEnd
  /-- TB_CFG_WRITE (R341). -/
  | tbCfgWrite (w : Word)
  /-- TC_FORWARD (R351). -/
  | tcForward (e : Fin 2) (m : PtpMsg) (resid : BitVec 32)
  /-- PTP_MESSAGE (R352). -/
  | ptpMessage (e : Fin 2) (m : PtpMsg) (sample : Option (BitVec 64))
  /-- ETH_LINK_CHANGE (R268). -/
  | ethLinkChange (e : Fin 2) (up : Bool)
  /-- NOC_PACKET (R287). -/
  | nocPacket (p : NocPkt)
  /-- NOC_APPLY (R294). -/
  | nocApply (compat : Bool)
  /-- ROUTER_BARRIER_END (R294). -/
  | routerBarrierEnd
  /-- NOC_BARRIER_SLOW (R295). -/
  | nocBarrierSlow (node : BitVec 8)
  /-- NOC_RSP_STALL (R293). -/
  | nocRspStall (src : BitVec 8)
  /-- NOC_RSP_TIMEOUT (R283). -/
  | nocRspTimeout (addr : BitVec 64)
  /-- BAR0_ACCESS (R12). -/
  | bar0Access (addr : BitVec 64) (op : HostOp) (st : ReqState)
  /-- BAR2_ACCESS (R279). -/
  | bar2Access (addr : BitVec 64) (op : HostOp) (st : ReqState)
  /-- BAR2_BASE_WRITE (R280). -/
  | bar2BaseWrite (w : Word)
  /-- BAR4_ACCESS (R281). -/
  | bar4Access (addr : BitVec 64) (op : HostOp) (st : ReqState)
  /-- NET_STORE_SERVE (R282). -/
  | netStoreServe (g : Gal)
  /-- BAR4_SEL_WRITE (R281). -/
  | bar4SelWrite (a : Fin 16) (w : Word)
  /-- MSIX_SEND (R285). -/
  | msixSend (v : Fin 256)
  /-- D3HOT_ENTRY (R276). -/
  | d3hotEntry
  /-- PCIE_LINK_UP (R275). -/
  | pcieLinkUp (width : Fin 5) (rate : Fin 4) (partnerReversed : Bool)
  /-- KICK (R305). -/
  | kick (n : Fin 32)
  /-- DMA_HALT (R314). -/
  | dmaHalt (n : Fin 32)
  /-- ABORT (R314). -/
  | abort (n : Fin 32)
  /-- DMA_RESUME (R315). -/
  | dmaResume (n : Fin 32)
  /-- CHANNEL_ENABLE (R317). -/
  | channelEnable (n : Fin 32) (w : Word)
  /-- DMA_HEAD_WRITE (R317). -/
  | dmaHeadWrite (n : Fin 32) (i : BitVec 16)
  /-- DESCRIPTOR_FETCH (R305). -/
  | descriptorFetch (n : Fin 32) (r : DmaResult)
  /-- DESCRIPTOR_START (R306). -/
  | descriptorStart (n : Fin 32) (w : RingWrite)
  /-- DMA_READ_COMPLETION (R299). -/
  | dmaReadCompletion (n : Fin 32) (off : Fin 67108864) (r : DmaResult)
  /-- DMA_WRITE_RESPONSE (R299). -/
  | dmaWriteResponse (n : Fin 32) (off : Fin 67108864) (st : BitVec 8)
  /-- READ_BACK (R306). -/
  | readBack (n : Fin 32) (st : BitVec 8) (w : RingWrite)
  /-- CHANNEL_HALT (R313). -/
  | channelHalt (n : Fin 32) (w : RingWrite)
  /-- SOURCE_EVENT (R319). -/
  | sourceEvent (n : Fin 512) (level : Bool)
  /-- CIC_CLAIM (R322). -/
  | cicClaim (ts : BitVec 5)
  /-- HOST_FORWARD (R323). -/
  | hostForward
  /-- CIC_COMPLETE (R324). -/
  | cicComplete (t : Fin 5) (id : BitVec 9) (host : Bool)
  /-- CIC_SW_SET (R320). -/
  | cicSwSet (k : Fin 2) (w : Word)
  /-- CIC_SRC_WRITE (R326). -/
  | cicSrcWrite (n : Fin 512) (w : Word)
  /-- WARDEN_SOURCE_PEND (R329). -/
  | wardenSourcePend (g : Gal) (i : Fin 32)
  /-- NORMAL_ENTRY (R331). -/
  | normalEntry (g : Gal)
  /-- FAST_ENTRY (R330). -/
  | fastEntry (g : Gal)
  /-- NORMAL_EXIT (R333). -/
  | normalExit (g : Gal)
  /-- FAST_EXIT (R333). -/
  | fastExit (g : Gal)
  /-- WARDEN_TIMER (R329). -/
  | wardenTimer (g : Gal)
  /-- SOFT_SET (R329). -/
  | softSet (g : Gal) (w : BitVec 16)
  /-- GALLERY_POWER_REQUEST (R398). -/
  | galleryPowerRequest (k : Fin 4) (w : Word)
  /-- GALLERY_IDLE (R397). -/
  | galleryIdle (g : Gal)
  /-- GALLERY_ON (R397). -/
  | galleryOn (g : Gal)
  /-- GALLERY_POWER_DOWN (R296). -/
  | galleryPowerDown (g : Gal)
  /-- GALLERY_WAKE (R297). -/
  | galleryWake (g : Gal)
  /-- WAKE_CLEAR_END (R113). -/
  | wakeClearEnd (g : Gal) (found : List MarchFault)
  /-- BOOT_ROM (R354). -/
  | bootRom
  /-- WATCHDOG_EXPIRY (R355). -/
  | watchdogExpiry
  /-- FAILURE_COUNT_CLEAR (R355). -/
  | failureCountClear
  /-- SENSOR_SAMPLE (R362). -/
  | sensorSample (i : Sensor) (sample : Option (BitVec 16))
  /-- RAIL_FAULT (R363). -/
  | railFault (rail : Fin 6)
  /-- REFCLK_LOSS (R404). -/
  | refclkLoss
  /-- VAUX_LOSS (R364). -/
  | vauxLoss
  /-- VCORE_REVIEW (R391). -/
  | vcoreReview
  /-- EPOCH (R366). -/
  | epoch
  /-- EVENT_LOG_WRITE (R366). -/
  | eventLogWrite
  /-- DETECTOR_FIRE (R368). -/
  | detectorFire (block code unit : BitVec 8)
  /-- SENSOR_THRESHOLD_WRITE (R361). -/
  | sensorThresholdWrite (i : Sensor) (w : Word)
  /-- SPI_TRANSACTION (R409). -/
  | spiTransaction (cmd : BitVec 8) (off : BitVec 24) (data : Word) (cut : Bool)
  /-- ETH_MGMT_MESSAGE (R360). -/
  | ethMgmtMessage (e : Fin 2) (m : EthMsg)
  /-- SET_ENDPOINT_ID (R359). -/
  | setEndpointId (eid : BitVec 8)
  /-- GET_ENDPOINT_ID (R359). -/
  | getEndpointId
  /-- GET_ENDPOINT_UUID (R359). -/
  | getEndpointUuid
  /-- GET_MCTP_VERSION_SUPPORT (R359). -/
  | getMctpVersionSupport
  /-- GET_MESSAGE_TYPE_SUPPORT (R359). -/
  | getMessageTypeSupport
  /-- GET_TID (R359). -/
  | getTid
  /-- SET_TID (R359). -/
  | setTid (tid : BitVec 8)
  /-- GET_PLDM_VERSION (R359). -/
  | getPldmVersion (type : BitVec 8)
  /-- GET_PLDM_TYPES (R359). -/
  | getPldmTypes
  /-- GET_PLDM_COMMANDS (R359). -/
  | getPldmCommands (type : BitVec 8)
  /-- GET_SENSOR_READING (R359). -/
  | getSensorReading (i : Sensor)
  /-- GET_SENSOR_THRESHOLDS (R359). -/
  | getSensorThresholds (i : Sensor)
  /-- SET_SENSOR_THRESHOLDS (R361). -/
  | setSensorThresholds (i : Sensor) (high low : BitVec 16)
  /-- GET_STATE_SENSOR_READINGS (R359). -/
  | getStateSensorReadings
  /-- GET_PDR_REPOSITORY_INFO (R359). -/
  | getPdrRepositoryInfo
  /-- GET_PDR (R359). -/
  | getPdr (record : Fin 94)
  /-- SET_EVENT_RECEIVER (R359). -/
  | setEventReceiver (eid : Option (BitVec 8))
  /-- QUERY_DEVICE_IDENTIFIERS (R359). -/
  | queryDeviceIdentifiers
  /-- GET_FIRMWARE_PARAMETERS (R359). -/
  | getFirmwareParameters
  /-- REQUEST_UPDATE (R358). -/
  | requestUpdate
  /-- PASS_COMPONENT_TABLE (R359). -/
  | passComponentTable (component : BitVec 16)
  /-- UPDATE_COMPONENT (R359). -/
  | updateComponent (component : BitVec 16) (size : Word)
  /-- TRANSFER_COMPLETE (R359). -/
  | transferComplete (bs : List Byte)
  /-- VERIFY_COMPLETE (R359). -/
  | verifyComplete
  /-- APPLY_COMPLETE (R359). -/
  | applyComplete (readBack : Bool)
  /-- ACTIVATE_FIRMWARE (R359). -/
  | activateFirmware (selfContained : Bool)
  /-- GET_STATUS (R359). -/
  | getStatus
  /-- CANCEL_UPDATE (R359). -/
  | cancelUpdate
  /-- TRACE_SOURCE_ENABLE (R379). -/
  | traceSourceEnable (src : Fin 68) (w : Word)
  /-- COMPARATOR_MATCH (R382). -/
  | comparatorMatch (src : Fin 68) (addr : BitVec 48) (mode : BitVec 2)
  /-- TRACE_PACKET (R383). -/
  | tracePacket
  /-- TRACE_DROP (R384). -/
  | traceDrop (src : Fin 68)
  /-- TRACE_OVERFLOW_PACKET (R384). -/
  | traceOverflowPacket (src : Fin 68)
  /-- TRACE_CLEAR (R389). -/
  | traceClear
  /-- TRACE_CLEAR_END (R389). -/
  | traceClearEnd
  /-- TRACE_WINDOW_READ (R386). -/
  | traceWindowRead (i : Fin 4096)
  /-- ASSERT_POP (R59). -/
  | assertPop (g : Gal)
  /-- GAL_CLR_CE (R38). -/
  | galClrCe (g : Gal)
  /-- GAL_CLR_LOST (R53). -/
  | galClrLost (g : Gal)
  /-- CLR_SLIP (R75). -/
  | clrSlip (g : Gal)
  /-- CLR_DISCARD (R64). -/
  | clrDiscard (g : Gal)
  /-- CLR_SLIP_LAST (R75). -/
  | clrSlipLast (g : Gal)
  /-- CLR_HOLD (R75). -/
  | clrHold
  /-- CLR_SYNC (R75). -/
  | clrSync
  /-- CLR_OVERRUN (R84). -/
  | clrOverrun
  /-- CLR_FEC (R128). -/
  | clrFec (p : PortNo)
  /-- CLR_RETRY (R129). -/
  | clrRetry (p : PortNo)
  /-- CLR_DROP (R154). -/
  | clrDrop (p : PortNo)
  /-- DS_ERR_CLR (R116). -/
  | dsErrClr
  /-- CLR_STRETCH (R166). -/
  | clrStretch
  /-- ECHO_CLR_LOST (R167). -/
  | echoClrLost
  /-- DM_CE_COUNT_CLEAR (R104). -/
  | dmCeCountClear (g : Gal)
  /-- RIM_PW_COUNT_CLEAR (R201). -/
  | rimPwCountClear
  /-- NOC_NOEP_DROP_CLEAR (R10). -/
  | nocNoepDropClear
  /-- NOC_OFF_COUNT_CLEAR (R296). -/
  | nocOffCountClear (g : Gal)
  /-- DONE_COUNT_CLEAR (R306). -/
  | doneCountClear (n : Fin 32)
  /-- CIC_COUNTS_CLEAR (R322). -/
  | cicCountsClear
  /-- WIU_COUNT_CLEAR (R332). -/
  | wiuCountClear (g : Gal)
  /-- ERR_COUNT_CLEAR (R368). -/
  | errCountClear
  /-- TC_FORWARDED_CLEAR (R351). -/
  | tcForwardedClear (e : Fin 2)
  /-- SCHED_BARRIER_RELEASE_WRITE (R80). -/
  | schedBarrierReleaseWrite (flags : BitVec 16)
  /-- REGISTER_WRITE (R4). -/
  | registerWrite (t : RegTarget) (w : Word)
  /-- MACROCELL_CLOCK_EDGE (R189). -/
  | macrocellClockEdge (t : Fin 4) (rising : Bool) (samples : List (Fin 192 × BitVec 16))
  /-- SERIAL_BYTE_TRANSMIT (R195). -/
  | serialByteTransmit (p : Sp)
  /-- RESTORE_END (R183). -/
  | restoreEnd
  /-- D3HOT_EXIT (R276). -/
  | d3hotExit
  /-- LATTICE_COMMIT_TIMEOUT (R240). -/
  | latticeCommitTimeout
  /-- LATTICE_BARRIER_TIMEOUT (R264). -/
  | latticeBarrierTimeout
  /-- ENCODER_PACKET (R381). -/
  | encoderPacket (src : Fin 68) (ev : TrcEvent)
  /-- TIMESTAMP_INTERVAL (R381). -/
  | timestampInterval (src : Fin 68)
  /-- BANK_VIO_CHANGE (R393). -/
  | bankVioChange (b : Bank) (v : Fin 6)
deriving DecidableEq, Repr

end Sys2Proof
end

