-- ==== Sys2Proof/WellFormed.lean ====
section
/-! DEFINITION. What makes a command well-formed beyond the types of its operands: the encodings that the spec reserves,
and operands whose parts shall agree. -/

namespace Sys2Proof

/-- A byte mask of MWR and MDEEPWR: 0 is reserved (R35). -/
def maskOk (m : BitVec 8) : Bool := m != 0

/-- An ASSERT without an action is reserved (R52). -/
def assertOk (a : AssertAct) : Bool := a.halt || a.intr || a.log

/-- A packet's data words fit its data flits, four to a flit (R289). -/
def pktOk (p : NocPkt) : Bool := Nat.ble p.data.length (4 * p.len.val)

/-- A host buffer holds no more bytes than HOST_LEN (R253). -/
def bufOk (b : HostBuf) : Bool := Nat.ble b.bytes.length b.len

/-- A write of the host carries at most one page (R274). -/
def hostOpOk : HostOp → Bool
  | .read _ => true
  | .write bs => Nat.ble bs.length 4096

/-- A write in a bank request enables a byte (R96). -/
def bankOpOk : BankOp → Bool
  | .write m _ => m != 0
  | _ => true

/-- A fault of a march lies in its array (R95, R107): the address bound and the bit column of each array. -/
def faultOk (f : MarchFault) : Bool :=
  match f.array.val with
  | 0 => true
  | 1 => Nat.blt f.addr.val 2048 && f.bit.val == 0
  | 2 => Nat.blt f.addr.val 1024
  | 3 => Nat.blt f.addr.val 2048 && Nat.blt f.bit.val 32
  | _ => Nat.blt f.addr.val 256 && Nat.blt f.bit.val 32

/-- A submission entry has 64 bytes (R253). -/
def entryOk : Option (List Byte) → Bool
  | none => true
  | some bs => bs.length == 64

/-- Is the command well-formed? -/
def Instr.wf : Instr → Bool
  | .mwr _ m _ _ => maskOk m
  | .mdeepwr _ m _ _ => maskOk m
  | .assert _ a _ _ => assertOk a
  | .nocPacket p => pktOk p
  | .nocTunnelPacket _ ttl p => pktOk p && Nat.ble ttl.toNat 16
  | .bankRequest _ _ ops _ => ops.all bankOpOk
  | .bar0Access _ op _ => hostOpOk op
  | .bar2Access _ op _ => hostOpOk op
  | .bar4Access _ op _ => hostOpOk op
  | .startupMarchEnd _ fs => fs.all faultOk
  | .marchEnd _ fs => fs.all faultOk
  | .wakeClearEnd _ fs => fs.all faultOk
  | .commandFetch _ e => entryOk e
  | .getInfo _ b => bufOk b
  | .peek _ _ b => bufOk b
  | .memRead _ _ _ b => bufOk b
  | .memWrite _ _ _ b => bufOk b
  | .echoArm _ b => bufOk b
  | .echoRead _ _ _ b => bufOk b
  | .latticeMap _ b => bufOk b
  | .fwUpdate _ _ _ b _ => bufOk b
  | .attest _ _ b => bufOk b
  | .logRead _ _ _ b => bufOk b
  | .fuseSvn _ _ b => bufOk b
  | .ownerProgram _ _ b => bufOk b
  | .ownerRevoke _ _ b => bufOk b
  | .bedrockSelect _ _ b => bufOk b
  | .laneReversal _ _ b => bufOk b
  | .debugLock _ _ b => bufOk b
  | .storeKek _ _ b => bufOk b
  | _ => true

end Sys2Proof
end

