-- ==== Sys2Proof/Machine/Regs.lean ====
section
/-! DEFINITION. Every register the spec gives the block: its BAR0 offset (R.NAME, a function of
the unit numbers), its fields (F.NAME_FIELD) and the table of register rows with each field's type
(R4) and reset value, transcribed from the register tables of spec/01 to spec/16. -/

namespace Sys2Proof.Machine

/-! BAR0 offsets. -/
/-- 01 R14. -/
def R.DEVICE_ID : Nat := 0x00000000
/-- 01 R15. -/
def R.DEVICE_CAPS : Nat := 0x00000004
/-- 01 R16. -/
def R.DEVICE_STATE : Nat := 0x00000008
/-- 02 R33. -/
def R.GAL_FTABLE (g : Nat) (c : Nat) (i : Nat) : Nat := 0x01001000 + g * 0x10000 + c * 0x400 + i * 0x4
/-- 02 R58. -/
def R.GAL_MODE (g : Nat) : Nat := 0x01000000 + g * 0x10000
/-- 02 R58. -/
def R.GAL_ERR_STATUS (g : Nat) : Nat := 0x01000010 + g * 0x10000
/-- 02 R58. -/
def R.GAL_ERR_ACTION (g : Nat) : Nat := 0x01000014 + g * 0x10000
/-- 02 R58. -/
def R.GAL_ERR_LOC0 (g : Nat) : Nat := 0x01000018 + g * 0x10000
/-- 02 R58. -/
def R.GAL_ERR_LOC1 (g : Nat) : Nat := 0x0100001C + g * 0x10000
/-- 02 R58. -/
def R.GAL_ISTORE_CE_COUNT (g : Nat) : Nat := 0x01000020 + g * 0x10000
/-- 02 R58. -/
def R.GAL_COUNT_CTL (g : Nat) : Nat := 0x01000024 + g * 0x10000
/-- 02 R58. -/
def R.GAL_ASSERT_STATUS (g : Nat) : Nat := 0x01000030 + g * 0x10000
/-- 02 R58. -/
def R.GAL_ASSERT_POP (g : Nat) : Nat := 0x01000034 + g * 0x10000
/-- 02 R58. -/
def R.GAL_ASSERT_REC_LO (g : Nat) : Nat := 0x01000038 + g * 0x10000
/-- 02 R58. -/
def R.GAL_ASSERT_REC_HI (g : Nat) : Nat := 0x0100003C + g * 0x10000
/-- 03 R70. -/
def R.LAT_HDR : Nat := 0x00000100
/-- 03 R70. -/
def R.LAT_FABRIC0 : Nat := 0x00000104
/-- 03 R70. -/
def R.LAT_FABRIC1 : Nat := 0x00000108
/-- 03 R70. -/
def R.LAT_IO : Nat := 0x0000010C
/-- 03 R70. -/
def R.LAT_DEEP : Nat := 0x00000110
/-- 03 R71. -/
def R.LAT_PORT (p : Nat) : Nat := 0x00000180 + p * 0x4
/-- 03 R77. -/
def R.GAL_SLIP_COUNT (g : Nat) : Nat := 0x01000040 + g * 0x10000
/-- 03 R77. -/
def R.GAL_SLIP_LAST (g : Nat) : Nat := 0x01000044 + g * 0x10000
/-- 03 R77. -/
def R.GAL_SCHED_ERR (g : Nat) : Nat := 0x01000048 + g * 0x10000
/-- 03 R77. -/
def R.GAL_SCHED_ACTION (g : Nat) : Nat := 0x0100004C + g * 0x10000
/-- 03 R77. -/
def R.GAL_SCHED_LOC0 (g : Nat) : Nat := 0x01000050 + g * 0x10000
/-- 03 R77. -/
def R.GAL_SCHED_LOC1 (g : Nat) : Nat := 0x01000054 + g * 0x10000
/-- 03 R77. -/
def R.GAL_SCHED_LOC2 (g : Nat) : Nat := 0x01000058 + g * 0x10000
/-- 03 R77. -/
def R.GAL_RX_DISCARD (g : Nat) : Nat := 0x0100005C + g * 0x10000
/-- 03 R77. -/
def R.GAL_SCHED_COUNT_CTL (g : Nat) : Nat := 0x01000060 + g * 0x10000
/-- 03 R88. -/
def R.SCHED_TICK_CFG : Nat := 0x00000200
/-- 03 R88. -/
def R.SCHED_PERIOD_NS : Nat := 0x00000204
/-- 03 R88. -/
def R.SCHED_PERIOD_FRAC : Nat := 0x00000208
/-- 03 R88. -/
def R.SCHED_HOLD_LIMIT : Nat := 0x0000020C
/-- 03 R88. -/
def R.SCHED_HOLD_COUNT : Nat := 0x00000210
/-- 03 R88. -/
def R.SCHED_SYNC_COUNT : Nat := 0x00000214
/-- 03 R88. -/
def R.SCHED_OVERRUN_COUNT : Nat := 0x00000218
/-- 03 R88. -/
def R.SCHED_PEER_STRETCH_COUNT : Nat := 0x0000021C
/-- 03 R88. -/
def R.SCHED_SKIP_COUNT : Nat := 0x00000220
/-- 03 R88. -/
def R.SCHED_STATUS : Nat := 0x00000224
/-- 03 R88. -/
def R.SCHED_BARRIER_RELEASE : Nat := 0x00000228
/-- 03 R88. -/
def R.SCHED_COUNT_CTL : Nat := 0x0000022C
/-- 03 R90. -/
def R.SCHED_CTX_LEN (c : Nat) : Nat := 0x00000240 + c * 0x4
/-- 03 R92. -/
def R.IMG_LAT : Nat := 0x00000120
/-- 03 R92. -/
def R.IMG_SLIP_EST (c : Nat) : Nat := 0x00000140 + c * 0x4
/-- 04 R105. -/
def R.GAL_DM_CFG (g : Nat) : Nat := 0x01000080 + g * 0x10000
/-- 04 R105. -/
def R.GAL_DM_STATUS (g : Nat) : Nat := 0x01000084 + g * 0x10000
/-- 04 R105. -/
def R.GAL_DM_LOC (g : Nat) : Nat := 0x01000088 + g * 0x10000
/-- 04 R105. -/
def R.GAL_DM_CE_COUNT (g : Nat) : Nat := 0x0100008C + g * 0x10000
/-- 04 R106. -/
def R.GAL_DM_LOC_STEP (g : Nat) : Nat := 0x01000094 + g * 0x10000
/-- 04 R106. -/
def R.GAL_DM_LOC_TICK (g : Nat) : Nat := 0x01000098 + g * 0x10000
/-- 04 R110. -/
def R.GAL_MARCH_CTL (g : Nat) : Nat := 0x010000A0 + g * 0x10000
/-- 04 R110. -/
def R.GAL_MARCH_RESULT (g : Nat) : Nat := 0x010000A4 + g * 0x10000
/-- 04 R110. -/
def R.GAL_MARCH_WORD (g : Nat) : Nat := 0x010000A8 + g * 0x10000
/-- 04 R112. -/
def R.GAL_DM_REPAIR (g : Nat) (c : Nat) : Nat := 0x01000100 + g * 0x10000 + c * 0x4
/-- 04 R119. -/
def R.DS_REGION (n : Nat) : Nat := 0x00002000 + n * 0x8
/-- 04 R119. -/
def R.DS_REGION_SIZE (n : Nat) : Nat := 0x00002004 + n * 0x8
/-- 04 R119. -/
def R.GAL_DS_GRANT (g : Nat) : Nat := 0x01000090 + g * 0x10000
/-- 04 R124. -/
def R.DS_CH_ERR (n : Nat) : Nat := 0x00002100 + n * 0x4
/-- 04 R124. -/
def R.DS_ERR_CTL : Nat := 0x00002180
/-- 05 R156. -/
def R.PSG_CTL (p : Nat) : Nat := 0x00080000 + p * 0x1000
/-- 05 R156. -/
def R.PSG_STATUS (p : Nat) : Nat := 0x00080004 + p * 0x1000
/-- 05 R156. -/
def R.PSG_PEER (p : Nat) : Nat := 0x00080008 + p * 0x1000
/-- 05 R156. -/
def R.PSG_RTT (p : Nat) : Nat := 0x0008000C + p * 0x1000
/-- 05 R156. -/
def R.PSG_HELD (p : Nat) : Nat := 0x00080010 + p * 0x1000
/-- 05 R156. -/
def R.PSG_FEC_CE (p : Nat) : Nat := 0x00080014 + p * 0x1000
/-- 05 R156. -/
def R.PSG_FEC_UE (p : Nat) : Nat := 0x00080018 + p * 0x1000
/-- 05 R156. -/
def R.PSG_RETRY_COUNT (p : Nat) : Nat := 0x0008001C + p * 0x1000
/-- 05 R156. -/
def R.PSG_ERR (p : Nat) : Nat := 0x00080020 + p * 0x1000
/-- 05 R156. -/
def R.PSG_ERR_LOC (p : Nat) : Nat := 0x00080024 + p * 0x1000
/-- 05 R156. -/
def R.PSG_FRAME (p : Nat) : Nat := 0x00080028 + p * 0x1000
/-- 05 R156. -/
def R.PSG_TUNNEL_DROP (p : Nat) : Nat := 0x0008002C + p * 0x1000
/-- 05 R156. -/
def R.PSG_COUNT_CTL (p : Nat) : Nat := 0x00080030 + p * 0x1000
/-- 05 R156. -/
def R.LTC_ID : Nat := 0x00000400
/-- 05 R156. -/
def R.LTC_CFG : Nat := 0x00000404
/-- 05 R156. -/
def R.LTC_LINK_TIMEOUT : Nat := 0x00000408
/-- 05 R156. -/
def R.LTC_BARRIER_TIMEOUT : Nat := 0x0000040C
/-- 05 R156. -/
def R.LTC_STATUS : Nat := 0x00000410
/-- 05 R156. -/
def R.LTC_MARK_TICK : Nat := 0x00000414
/-- 05 R156. -/
def R.LTC_ROUTE (i : Nat) : Nat := 0x00000800 + i * 0x4
/-- 06 R184. -/
def R.ECHO_CTL : Nat := 0x00003000
/-- 06 R184. -/
def R.ECHO_STATUS : Nat := 0x00003004
/-- 06 R184. -/
def R.ECHO_WR_PTR : Nat := 0x00003008
/-- 06 R184. -/
def R.ECHO_RD_PTR : Nat := 0x0000300C
/-- 06 R184. -/
def R.ECHO_OLDEST : Nat := 0x00003010
/-- 06 R184. -/
def R.ECHO_REC_MAX : Nat := 0x00003014
/-- 06 R184. -/
def R.ECHO_PRE : Nat := 0x00003018
/-- 06 R184. -/
def R.ECHO_POST : Nat := 0x0000301C
/-- 06 R184. -/
def R.ECHO_TRIG_TICK_LO : Nat := 0x00003020
/-- 06 R184. -/
def R.ECHO_TRIG_TICK_HI : Nat := 0x00003024
/-- 06 R184. -/
def R.ECHO_LOST_COUNT : Nat := 0x00003028
/-- 06 R184. -/
def R.ECHO_STRETCH_COUNT : Nat := 0x0000302C
/-- 06 R184. -/
def R.ECHO_STAGE (s : Nat) : Nat := 0x00003040 + s * 0x4
/-- 06 R184. -/
def R.SNAP_STATUS : Nat := 0x00003060
/-- 06 R184. -/
def R.SNAP_TICK_LO : Nat := 0x00003064
/-- 06 R184. -/
def R.SNAP_TICK_HI : Nat := 0x00003068
/-- 06 R184. -/
def R.ECHO_COUNT_CTL : Nat := 0x00003070
/-- 06 R184. -/
def R.GAL_TRIG_LEAF_LO (g : Nat) : Nat := 0x01000200 + g * 0x10000
/-- 06 R184. -/
def R.GAL_TRIG_LEAF_HI (g : Nat) : Nat := 0x01000204 + g * 0x10000
/-- 06 R184. -/
def R.GAL_TRIG_TERM_LO (g : Nat) (t : Nat) : Nat := 0x01000210 + g * 0x10000 + t * 0x8
/-- 06 R184. -/
def R.GAL_TRIG_TERM_HI (g : Nat) (t : Nat) : Nat := 0x01000214 + g * 0x10000 + t * 0x8
/-- 06 R184. -/
def R.GAL_TRIG_CTL (g : Nat) : Nat := 0x01000230 + g * 0x10000
/-- 06 R184. -/
def R.GAL_ECHO_STATUS (g : Nat) : Nat := 0x01000234 + g * 0x10000
/-- 06 R184. -/
def R.GAL_FORCE_STATUS (g : Nat) : Nat := 0x01000238 + g * 0x10000
/-- 07 R212. -/
def R.RIM_CTL : Nat := 0x00100000
/-- 07 R212. -/
def R.RIM_STATUS : Nat := 0x00100004
/-- 07 R212. -/
def R.RIM_BANK (b : Nat) : Nat := 0x00100010 + b * 0x4
/-- 07 R212. -/
def R.RIM_BANK_VIO (b : Nat) : Nat := 0x00100030 + b * 0x4
/-- 07 R212. -/
def R.RIM_PW_CFG : Nat := 0x00100050
/-- 07 R212. -/
def R.RIM_PW_CTXSEL : Nat := 0x00100054
/-- 07 R212. -/
def R.RIM_PW_STATUS : Nat := 0x00100058
/-- 07 R212. -/
def R.RIM_PW_COUNT : Nat := 0x0010005C
/-- 07 R212. -/
def R.RIM_OSC (k : Nat) : Nat := 0x00100060 + k * 0x4
/-- 07 R212. -/
def R.RIM_CLK (t : Nat) : Nat := 0x00100070 + t * 0x4
/-- 07 R212. -/
def R.RIM_RST (r : Nat) : Nat := 0x00100080 + r * 0x4
/-- 07 R212. -/
def R.RIM_SCRUB_CTL : Nat := 0x00100100
/-- 07 R212. -/
def R.RIM_SCRUB_STATUS : Nat := 0x00100104
/-- 07 R212. -/
def R.RIM_SCRUB_LOC : Nat := 0x00100108
/-- 07 R212. -/
def R.RIM_WIRE_STATUS : Nat := 0x00100120
/-- 07 R212. -/
def R.SP_CTL (s : Nat) : Nat := 0x00100200 + s * 0x10
/-- 07 R212. -/
def R.SP_STATUS (s : Nat) : Nat := 0x00100204 + s * 0x10
/-- 07 R212. -/
def R.SP_DATA (s : Nat) : Nat := 0x00100208 + s * 0x10
/-- 07 R212. -/
def R.UFL_CTL : Nat := 0x00100300
/-- 07 R212. -/
def R.UFL_ADDR : Nat := 0x00100304
/-- 07 R212. -/
def R.UFL_DATA : Nat := 0x00100308
/-- 07 R212. -/
def R.RIM_PIN (p : Nat) : Nat := 0x00101000 + p * 0x4
/-- 07 R212. -/
def R.RIM_PORT_IN (n : Nat) : Nat := 0x00102000 + n * 0x4
/-- 07 R212. -/
def R.BLK_IN (k : Nat) (i : Nat) : Nat := 0x00104000 + k * 0x800 + i * 0x4
/-- 07 R212. -/
def R.BLK_MC (k : Nat) (i : Nat) : Nat := 0x001040C0 + k * 0x800 + i * 0x4
/-- 07 R212. -/
def R.BLK_PT_W0 (k : Nat) (j : Nat) : Nat := 0x00104400 + k * 0x800 + j * 0x10
/-- 07 R212. -/
def R.BLK_PT_W1 (k : Nat) (j : Nat) : Nat := 0x00104404 + k * 0x800 + j * 0x10
/-- 07 R212. -/
def R.BLK_PT_W2 (k : Nat) (j : Nat) : Nat := 0x00104408 + k * 0x800 + j * 0x10
/-- 07 R212. -/
def R.BLK_PT_W3 (k : Nat) (j : Nat) : Nat := 0x0010440C + k * 0x800 + j * 0x10
/-- 08 R246. -/
def R.IMG_STATUS : Nat := 0x00001000
/-- 08 R246. -/
def R.IMG_REASON : Nat := 0x00001004
/-- 08 R246. -/
def R.IMG_LOC : Nat := 0x00001008
/-- 08 R246. -/
def R.IMG_SECTION : Nat := 0x0000100C
/-- 08 R246. -/
def R.IMG_PROGRESS_LO : Nat := 0x00001010
/-- 08 R246. -/
def R.IMG_PROGRESS_HI : Nat := 0x00001014
/-- 08 R246. -/
def R.IMG_CHAIN : Nat := 0x00001018
/-- 08 R246. -/
def R.IMG_DIGEST (k : Nat) : Nat := 0x00001020 + k * 0x4
/-- 08 R246. -/
def R.IMG_BASE (k : Nat) : Nat := 0x00001040 + k * 0x4
/-- 08 R246. -/
def R.IMG_COMMIT_TICK_LO : Nat := 0x00001060
/-- 08 R246. -/
def R.IMG_COMMIT_TICK_HI : Nat := 0x00001064
/-- 08 R246. -/
def R.KEY_STATUS : Nat := 0x00001080
/-- 09 R269. -/
def R.DEVICE_READY0 : Nat := 0x00000010
/-- 09 R269. -/
def R.DEVICE_READY1 : Nat := 0x00000014
/-- 09 R269. -/
def R.DEVICE_READY2 : Nat := 0x00000018
/-- 09 R269. -/
def R.DEVICE_READY3 : Nat := 0x0000001C
/-- 09 R269. -/
def R.MBX_SQ_BASE_LO (q : Nat) : Nat := 0x00040000 + q * 0x40
/-- 09 R269. -/
def R.MBX_SQ_BASE_HI (q : Nat) : Nat := 0x00040004 + q * 0x40
/-- 09 R269. -/
def R.MBX_CQ_BASE_LO (q : Nat) : Nat := 0x00040008 + q * 0x40
/-- 09 R269. -/
def R.MBX_CQ_BASE_HI (q : Nat) : Nat := 0x0004000C + q * 0x40
/-- 09 R269. -/
def R.MBX_Q_CFG (q : Nat) : Nat := 0x00040010 + q * 0x40
/-- 09 R269. -/
def R.MBX_Q_STATUS (q : Nat) : Nat := 0x00040014 + q * 0x40
/-- 09 R269. -/
def R.MBX_SQ_TAIL (q : Nat) : Nat := 0x00040018 + q * 0x40
/-- 09 R269. -/
def R.MBX_CQ_HEAD (q : Nat) : Nat := 0x0004001C + q * 0x40
/-- 09 R269. -/
def R.MBX_SQ_HEAD (q : Nat) : Nat := 0x00040020 + q * 0x40
/-- 09 R269. -/
def R.MBX_VERSION : Nat := 0x00040400
/-- 10 R297. -/
def R.NOC_CTL : Nat := 0x00070000
/-- 10 R297. -/
def R.NOC_CREDIT : Nat := 0x00070004
/-- 10 R297. -/
def R.NOC_STATUS : Nat := 0x00070008
/-- 10 R297. -/
def R.NOC_BARRIER_LIMIT : Nat := 0x0007000C
/-- 10 R297. -/
def R.NOC_STALL_LIMIT : Nat := 0x00070010
/-- 10 R297. -/
def R.NOC_ERR : Nat := 0x00070014
/-- 10 R297. -/
def R.NOC_ERR_LOC : Nat := 0x00070018
/-- 10 R297. -/
def R.NOC_NOEP_DROP : Nat := 0x0007001C
/-- 10 R297. -/
def R.BAR2_BASE : Nat := 0x00070080
/-- 10 R297. -/
def R.HOST_ERR : Nat := 0x00070084
/-- 10 R297. -/
def R.HOST_ERR_ADDR_LO : Nat := 0x00070088
/-- 10 R297. -/
def R.HOST_ERR_ADDR_HI : Nat := 0x0007008C
/-- 10 R297. -/
def R.BAR4_SEL (a : Nat) : Nat := 0x00070100 + a * 0x4
/-- 10 R297. -/
def R.NOC_OFF_COUNT (g : Nat) : Nat := 0x00070200 + g * 0x4
/-- 11 R317. -/
def R.DMA_ACTIVE : Nat := 0x00020000
/-- 11 R317. -/
def R.DMA_HALTED : Nat := 0x00020004
/-- 11 R317. -/
def R.DMA_ENGINE : Nat := 0x00020008
/-- 11 R317. -/
def R.DMA_CH_RING_LO (n : Nat) : Nat := 0x00021000 + n * 0x40
/-- 11 R317. -/
def R.DMA_CH_RING_HI (n : Nat) : Nat := 0x00021004 + n * 0x40
/-- 11 R317. -/
def R.DMA_CH_CFG (n : Nat) : Nat := 0x00021008 + n * 0x40
/-- 11 R317. -/
def R.DMA_CH_CMD (n : Nat) : Nat := 0x0002100C + n * 0x40
/-- 11 R317. -/
def R.DMA_CH_STATUS (n : Nat) : Nat := 0x00021010 + n * 0x40
/-- 11 R317. -/
def R.DMA_CH_HEAD (n : Nat) : Nat := 0x00021014 + n * 0x40
/-- 11 R317. -/
def R.DMA_CH_ERR_ADDR_LO (n : Nat) : Nat := 0x00021018 + n * 0x40
/-- 11 R317. -/
def R.DMA_CH_ERR_ADDR_HI (n : Nat) : Nat := 0x0002101C + n * 0x40
/-- 11 R317. -/
def R.DMA_CH_ERR_INFO (n : Nat) : Nat := 0x00021020 + n * 0x40
/-- 11 R317. -/
def R.DMA_CH_DONE_COUNT (n : Nat) : Nat := 0x00021024 + n * 0x40
/-- 12 R328. -/
def R.CIC_SRC (s : Nat) : Nat := 0x00010000 + s * 0x4
/-- 12 R328. -/
def R.CIC_PENDING (k : Nat) : Nat := 0x00010800 + k * 0x4
/-- 12 R328. -/
def R.CIC_SW_SET (k : Nat) : Nat := 0x00010880 + k * 0x4
/-- 12 R328. -/
def R.CIC_THRESHOLD (t : Nat) : Nat := 0x00011000 + t * 0x100
/-- 12 R328. -/
def R.CIC_CLAIM (t : Nat) : Nat := 0x00011004 + t * 0x100
/-- 12 R328. -/
def R.CIC_COMPLETE (t : Nat) : Nat := 0x00011008 + t * 0x100
/-- 12 R328. -/
def R.CIC_RUNNING (t : Nat) : Nat := 0x0001100C + t * 0x100
/-- 12 R328. -/
def R.CIC_INSERVICE (t : Nat) (k : Nat) : Nat := 0x00011040 + t * 0x100 + k * 0x4
/-- 12 R328. -/
def R.CIC_COUNTS : Nat := 0x00011800
/-- 12 R328. -/
def R.CIC_ORPHAN_LAST : Nat := 0x00011804
/-- 12 R328. -/
def R.CIC_HOST_RUN (v : Nat) : Nat := 0x00012000 + v * 0x4
/-- 12 R334. -/
def R.WIU_PENDING (g : Nat) : Nat := 0x01000300 + g * 0x10000
/-- 12 R334. -/
def R.WIU_ENABLE (g : Nat) : Nat := 0x01000304 + g * 0x10000
/-- 12 R334. -/
def R.WIU_CLASS (g : Nat) : Nat := 0x01000308 + g * 0x10000
/-- 12 R334. -/
def R.WIU_PRIO (g : Nat) (k : Nat) : Nat := 0x01000310 + g * 0x10000 + k * 0x4
/-- 12 R334. -/
def R.WIU_STATUS (g : Nat) : Nat := 0x01000320 + g * 0x10000
/-- 12 R334. -/
def R.WIU_COUNT (g : Nat) : Nat := 0x01000324 + g * 0x10000
/-- 13 R352. -/
def R.TB_NOW_NS : Nat := 0x00030000
/-- 13 R352. -/
def R.TB_NOW_EXT : Nat := 0x00030004
/-- 13 R352. -/
def R.TB_INCR : Nat := 0x00030008
/-- 13 R352. -/
def R.TB_STEP : Nat := 0x0003000C
/-- 13 R352. -/
def R.TB_SLEW : Nat := 0x00030010
/-- 13 R352. -/
def R.TB_CFG : Nat := 0x00030014
/-- 13 R352. -/
def R.TB_STATUS : Nat := 0x00030018
/-- 13 R352. -/
def R.TB_OFFSET : Nat := 0x0003001C
/-- 13 R352. -/
def R.TB_LOCK_THRESH : Nat := 0x00030020
/-- 13 R352. -/
def R.TB_TICK_LO : Nat := 0x00030030
/-- 13 R352. -/
def R.TB_TICK_HI : Nat := 0x00030034
/-- 13 R352. -/
def R.TB_TICK_TIME : Nat := 0x00030038
/-- 13 R352. -/
def R.TB_GRID_NEXT : Nat := 0x0003003C
/-- 13 R352. -/
def R.TB_FRACS : Nat := 0x00030040
/-- 13 R352. -/
def R.ETH_CFG (e : Nat) : Nat := 0x00030100 + e * 0x40
/-- 13 R352. -/
def R.ETH_ASYM (e : Nat) : Nat := 0x00030104 + e * 0x40
/-- 13 R352. -/
def R.ETH_STATUS (e : Nat) : Nat := 0x00030108 + e * 0x40
/-- 13 R352. -/
def R.TB_PSG_ASYM (p : Nat) : Nat := 0x00030200 + p * 0x4
/-- 13 R352. -/
def R.TB_PSG_DELAY (p : Nat) : Nat := 0x00030280 + p * 0x4
/-- 14 R378. -/
def R.ERR_STATUS : Nat := 0x00050000
/-- 14 R378. -/
def R.ERR_COUNT : Nat := 0x00050004
/-- 14 R378. -/
def R.ERR_FIRST : Nat := 0x00050008
/-- 14 R378. -/
def R.ERR_FIRST_TIME : Nat := 0x0005000C
/-- 14 R378. -/
def R.ERR_INJ_LAST : Nat := 0x00050010
/-- 14 R378. -/
def R.LNT_STATUS : Nat := 0x00200000
/-- 14 R378. -/
def R.LNT_CTL : Nat := 0x00200004
/-- 14 R378. -/
def R.LNT_ETH_IP4 (e : Nat) : Nat := 0x00200008 + e * 0x4
/-- 14 R378. -/
def R.LNT_LOG_SEQ : Nat := 0x00200010
/-- 14 R378. -/
def R.DRIP_CTL : Nat := 0x00200100
/-- 14 R378. -/
def R.DRIP_STATUS : Nat := 0x00200104
/-- 14 R378. -/
def R.FUSE_STATE : Nat := 0x00200200
/-- 14 R378. -/
def R.FUSE_JNL (k : Nat) : Nat := 0x00202000 + k * 0x4
/-- 14 R378. -/
def R.SNS_VALUE (i : Nat) : Nat := 0x00201000 + i * 0x4
/-- 14 R378. -/
def R.SNS_LIMIT (i : Nat) : Nat := 0x00201400 + i * 0x4
/-- 15 R389. -/
def R.TRC_CTL : Nat := 0x00060000
/-- 15 R389. -/
def R.TRC_STATUS : Nat := 0x00060004
/-- 15 R389. -/
def R.TRC_WR_PTR : Nat := 0x00060008
/-- 15 R389. -/
def R.TRC_RD_PTR : Nat := 0x0006000C
/-- 15 R389. -/
def R.TRC_WATERMARK : Nat := 0x00060010
/-- 15 R389. -/
def R.TRC_WIN_BASE : Nat := 0x00060014
/-- 15 R389. -/
def R.TRC_SRC_CFG (s : Nat) : Nat := 0x00061000 + s * 0x40
/-- 15 R389. -/
def R.TRC_SRC_STATUS (s : Nat) : Nat := 0x00061004 + s * 0x40
/-- 15 R389. -/
def R.TRC_CMP_CTL (s : Nat) : Nat := 0x00061008 + s * 0x40
/-- 15 R389. -/
def R.TRC_CMP_LO (s : Nat) (k : Nat) : Nat := 0x00061010 + s * 0x40 + k * 0x8
/-- 15 R389. -/
def R.TRC_CMP_HI (s : Nat) (k : Nat) : Nat := 0x00061014 + s * 0x40 + k * 0x8
/-- 16 R413. -/
def R.PWR_STATUS : Nat := 0x00203000
/-- 16 R413. -/
def R.PWR_GAL_REQ (k : Nat) : Nat := 0x00203010 + k * 0x4
/-- 16 R413. -/
def R.PWR_GAL_STATE (k : Nat) : Nat := 0x00203020 + k * 0x4
/-- 16 R413. -/
def R.PWR_EVENT : Nat := 0x00203030

/-! Fields of the registers. -/
abbrev F.DEVICE_ID_FAMILY : Field := ⟨31, 16⟩
abbrev F.DEVICE_ID_REVISION : Field := ⟨15, 8⟩
abbrev F.DEVICE_ID_LAT_PROFILE : Field := ⟨7, 4⟩
abbrev F.DEVICE_CAPS_DS_CHANNELS : Field := ⟨23, 16⟩
abbrev F.DEVICE_CAPS_PASSAGE_PORTS : Field := ⟨15, 8⟩
abbrev F.DEVICE_CAPS_GALLERIES : Field := ⟨7, 0⟩
abbrev F.DEVICE_STATE_CONTEXT : Field := ⟨6, 4⟩
abbrev F.DEVICE_STATE_TICK_MODE : Field := ⟨3, 3⟩
abbrev F.DEVICE_STATE_PROFILE : Field := ⟨2, 2⟩
abbrev F.DEVICE_STATE_RUN_STATE : Field := ⟨1, 0⟩
abbrev F.GAL_FTABLE_TABLE : Field := ⟨31, 0⟩
abbrev F.GAL_MODE_CONTEXTS : Field := ⟨6, 4⟩
abbrev F.GAL_MODE_IN_IMAGE : Field := ⟨1, 1⟩
abbrev F.GAL_MODE_FOUR_STATE : Field := ⟨0, 0⟩
abbrev F.GAL_ERR_STATUS_FT_WRITE_RUNNING : Field := ⟨11, 11⟩
abbrev F.GAL_ERR_STATUS_ASSERT_OVF : Field := ⟨10, 10⟩
abbrev F.GAL_ERR_STATUS_ISTORE_UE : Field := ⟨9, 9⟩
abbrev F.GAL_ERR_STATUS_ISTORE_CE : Field := ⟨8, 8⟩
abbrev F.GAL_ERR_STATUS_FT_PARITY : Field := ⟨7, 7⟩
abbrev F.GAL_ERR_STATUS_NS_PARITY : Field := ⟨6, 6⟩
abbrev F.GAL_ERR_STATUS_BUS_CONTENTION : Field := ⟨5, 5⟩
abbrev F.GAL_ERR_STATUS_MEM_XDATA : Field := ⟨4, 4⟩
abbrev F.GAL_ERR_STATUS_MEM_UNKNOWN : Field := ⟨3, 3⟩
abbrev F.GAL_ERR_STATUS_MEM_RANGE : Field := ⟨2, 2⟩
abbrev F.GAL_ERR_STATUS_BANK_CONFLICT : Field := ⟨1, 1⟩
abbrev F.GAL_ERR_STATUS_FORWARD_READ : Field := ⟨0, 0⟩
abbrev F.GAL_ERR_ACTION_HALT_HI : Field := ⟨10, 6⟩
abbrev F.GAL_ERR_ACTION_HALT_LO : Field := ⟨4, 0⟩
abbrev F.GAL_ERR_LOC0_CODE : Field := ⟨27, 24⟩
abbrev F.GAL_ERR_LOC0_VALID : Field := ⟨23, 23⟩
abbrev F.GAL_ERR_LOC0_CONTEXT : Field := ⟨22, 20⟩
abbrev F.GAL_ERR_LOC0_STEP : Field := ⟨19, 10⟩
abbrev F.GAL_ERR_LOC0_BP : Field := ⟨9, 4⟩
abbrev F.GAL_ERR_LOC0_CHAMBER : Field := ⟨3, 0⟩
abbrev F.GAL_ERR_LOC1_TICK : Field := ⟨31, 0⟩
abbrev F.GAL_ISTORE_CE_COUNT_COUNT : Field := ⟨31, 0⟩
abbrev F.GAL_COUNT_CTL_CLR_LOST : Field := ⟨1, 1⟩
abbrev F.GAL_COUNT_CTL_CLR_CE : Field := ⟨0, 0⟩
abbrev F.GAL_ASSERT_STATUS_LOST : Field := ⟨31, 16⟩
abbrev F.GAL_ASSERT_STATUS_LEVEL : Field := ⟨6, 0⟩
abbrev F.GAL_ASSERT_POP_POP : Field := ⟨0, 0⟩
abbrev F.GAL_ASSERT_REC_LO_VALID : Field := ⟨31, 31⟩
abbrev F.GAL_ASSERT_REC_LO_ACTIONS : Field := ⟨26, 24⟩
abbrev F.GAL_ASSERT_REC_LO_UNKNOWN : Field := ⟨23, 23⟩
abbrev F.GAL_ASSERT_REC_LO_CONTEXT : Field := ⟨22, 20⟩
abbrev F.GAL_ASSERT_REC_LO_STEP : Field := ⟨19, 10⟩
abbrev F.GAL_ASSERT_REC_LO_BP : Field := ⟨9, 4⟩
abbrev F.GAL_ASSERT_REC_LO_CHAMBER : Field := ⟨3, 0⟩
abbrev F.GAL_ASSERT_REC_HI_TICK : Field := ⟨31, 0⟩
abbrev F.LAT_HDR_FORMAT : Field := ⟨15, 8⟩
abbrev F.LAT_HDR_PROFILE : Field := ⟨7, 0⟩
abbrev F.LAT_FABRIC0_MESH_BASE : Field := ⟨31, 24⟩
abbrev F.LAT_FABRIC0_GAL_CROSS : Field := ⟨23, 16⟩
abbrev F.LAT_FABRIC0_GAL_SAME : Field := ⟨15, 8⟩
abbrev F.LAT_FABRIC0_CHAMBER : Field := ⟨7, 0⟩
abbrev F.LAT_FABRIC1_TURNOVER : Field := ⟨31, 24⟩
abbrev F.LAT_FABRIC1_MRD : Field := ⟨23, 16⟩
abbrev F.LAT_FABRIC1_MESH_MAX : Field := ⟨15, 8⟩
abbrev F.LAT_FABRIC1_MESH_HOP : Field := ⟨7, 0⟩
abbrev F.LAT_IO_HOLD_SPREAD : Field := ⟨23, 16⟩
abbrev F.LAT_IO_PININ : Field := ⟨15, 8⟩
abbrev F.LAT_IO_PINOUT : Field := ⟨7, 0⟩
abbrev F.LAT_DEEP_NOMINAL : Field := ⟨15, 0⟩
abbrev F.LAT_PORT_VALID : Field := ⟨31, 31⟩
abbrev F.LAT_PORT_STEPS : Field := ⟨11, 0⟩
abbrev F.GAL_SLIP_COUNT_COUNT : Field := ⟨31, 0⟩
abbrev F.GAL_SLIP_LAST_VALID : Field := ⟨31, 31⟩
abbrev F.GAL_SLIP_LAST_PORT : Field := ⟨30, 28⟩
abbrev F.GAL_SLIP_LAST_CONTEXT : Field := ⟨27, 25⟩
abbrev F.GAL_SLIP_LAST_STEP : Field := ⟨24, 15⟩
abbrev F.GAL_SLIP_LAST_BP : Field := ⟨14, 9⟩
abbrev F.GAL_SLIP_LAST_CHAMBER : Field := ⟨8, 5⟩
abbrev F.GAL_SLIP_LAST_DURATION : Field := ⟨4, 0⟩
abbrev F.GAL_SCHED_ERR_SYNC_TIMEOUT : Field := ⟨5, 5⟩
abbrev F.GAL_SCHED_ERR_RX_PARITY : Field := ⟨4, 4⟩
abbrev F.GAL_SCHED_ERR_SLOT_PARITY : Field := ⟨3, 3⟩
abbrev F.GAL_SCHED_ERR_NO_ARRIVAL : Field := ⟨2, 2⟩
abbrev F.GAL_SCHED_ERR_WRITE_CONFLICT : Field := ⟨1, 1⟩
abbrev F.GAL_SCHED_ERR_ROUTE_COLLISION : Field := ⟨0, 0⟩
abbrev F.GAL_SCHED_ACTION_HALT_SYNC_TIMEOUT : Field := ⟨5, 5⟩
abbrev F.GAL_SCHED_ACTION_HALT_PARITY : Field := ⟨4, 3⟩
abbrev F.GAL_SCHED_ACTION_HALT_NO_ARRIVAL : Field := ⟨2, 2⟩
abbrev F.GAL_SCHED_ACTION_HALT_CONFLICT : Field := ⟨1, 0⟩
abbrev F.GAL_SCHED_LOC0_CODE : Field := ⟨27, 24⟩
abbrev F.GAL_SCHED_LOC0_VALID : Field := ⟨23, 23⟩
abbrev F.GAL_SCHED_LOC0_CONTEXT : Field := ⟨22, 20⟩
abbrev F.GAL_SCHED_LOC0_STEP : Field := ⟨19, 10⟩
abbrev F.GAL_SCHED_LOC0_BP : Field := ⟨9, 4⟩
abbrev F.GAL_SCHED_LOC0_CHAMBER : Field := ⟨3, 0⟩
abbrev F.GAL_SCHED_LOC1_TICK : Field := ⟨31, 0⟩
abbrev F.GAL_SCHED_LOC2_PORT : Field := ⟨12, 10⟩
abbrev F.GAL_SCHED_LOC2_ENTRY : Field := ⟨9, 0⟩
abbrev F.GAL_RX_DISCARD_COUNT : Field := ⟨31, 0⟩
abbrev F.GAL_SCHED_COUNT_CTL_CLR_SLIP_LAST : Field := ⟨2, 2⟩
abbrev F.GAL_SCHED_COUNT_CTL_CLR_DISCARD : Field := ⟨1, 1⟩
abbrev F.GAL_SCHED_COUNT_CTL_CLR_SLIP : Field := ⟨0, 0⟩
abbrev F.SCHED_TICK_CFG_CTX_SOURCE : Field := ⟨5, 4⟩
abbrev F.SCHED_TICK_CFG_REALIGN : Field := ⟨2, 2⟩
abbrev F.SCHED_TICK_CFG_POLICY : Field := ⟨1, 1⟩
abbrev F.SCHED_TICK_CFG_MODE : Field := ⟨0, 0⟩
abbrev F.SCHED_PERIOD_NS_NS : Field := ⟨31, 0⟩
abbrev F.SCHED_PERIOD_FRAC_FRAC : Field := ⟨15, 0⟩
abbrev F.SCHED_HOLD_LIMIT_LIMIT : Field := ⟨31, 0⟩
abbrev F.SCHED_HOLD_COUNT_COUNT : Field := ⟨31, 0⟩
abbrev F.SCHED_SYNC_COUNT_COUNT : Field := ⟨31, 0⟩
abbrev F.SCHED_OVERRUN_COUNT_COUNT : Field := ⟨31, 0⟩
abbrev F.SCHED_PEER_STRETCH_COUNT_COUNT : Field := ⟨31, 0⟩
abbrev F.SCHED_SKIP_COUNT_COUNT : Field := ⟨31, 0⟩
abbrev F.SCHED_STATUS_GAL_SCHED_ANY : Field := ⟨3, 3⟩
abbrev F.SCHED_STATUS_CTX_REJECT : Field := ⟨2, 2⟩
abbrev F.SCHED_STATUS_PEER_STRETCH : Field := ⟨1, 1⟩
abbrev F.SCHED_STATUS_OVERRUN : Field := ⟨0, 0⟩
abbrev F.SCHED_BARRIER_RELEASE_FLAGS : Field := ⟨15, 0⟩
abbrev F.SCHED_COUNT_CTL_CLR_OVERRUN : Field := ⟨2, 2⟩
abbrev F.SCHED_COUNT_CTL_CLR_SYNC : Field := ⟨1, 1⟩
abbrev F.SCHED_COUNT_CTL_CLR_HOLD : Field := ⟨0, 0⟩
abbrev F.SCHED_CTX_LEN_LENGTH : Field := ⟨10, 0⟩
abbrev F.IMG_LAT_MISMATCH : Field := ⟨8, 8⟩
abbrev F.IMG_LAT_IMAGE_PROFILE : Field := ⟨3, 0⟩
abbrev F.IMG_SLIP_EST_EST : Field := ⟨15, 0⟩
abbrev F.GAL_DM_CFG_MARCH_ON_WAKE : Field := ⟨10, 10⟩
abbrev F.GAL_DM_CFG_HALT_DS_UE : Field := ⟨9, 9⟩
abbrev F.GAL_DM_CFG_HALT_DM_UE : Field := ⟨8, 8⟩
abbrev F.GAL_DM_CFG_STEAL_LIMIT : Field := ⟨7, 0⟩
abbrev F.GAL_DM_STATUS_REPAIR_USED : Field := ⟨6, 6⟩
abbrev F.GAL_DM_STATUS_MARCH_FAIL : Field := ⟨5, 5⟩
abbrev F.GAL_DM_STATUS_DS_UE : Field := ⟨4, 4⟩
abbrev F.GAL_DM_STATUS_DS_RANGE : Field := ⟨3, 3⟩
abbrev F.GAL_DM_STATUS_STEAL_TIMEOUT : Field := ⟨2, 2⟩
abbrev F.GAL_DM_STATUS_DM_UE : Field := ⟨1, 1⟩
abbrev F.GAL_DM_STATUS_DM_CE : Field := ⟨0, 0⟩
abbrev F.GAL_DM_LOC_VALID : Field := ⟨31, 31⟩
abbrev F.GAL_DM_LOC_AGENT : Field := ⟨30, 28⟩
abbrev F.GAL_DM_LOC_CODE : Field := ⟨27, 24⟩
abbrev F.GAL_DM_LOC_CHAMBER : Field := ⟨16, 13⟩
abbrev F.GAL_DM_LOC_WORD : Field := ⟨12, 0⟩
abbrev F.GAL_DM_CE_COUNT_COUNT : Field := ⟨31, 0⟩
abbrev F.GAL_DM_LOC_STEP_SCHED : Field := ⟨31, 31⟩
abbrev F.GAL_DM_LOC_STEP_CONTEXT : Field := ⟨18, 16⟩
abbrev F.GAL_DM_LOC_STEP_STEP : Field := ⟨15, 6⟩
abbrev F.GAL_DM_LOC_STEP_BP : Field := ⟨5, 0⟩
abbrev F.GAL_DM_LOC_TICK_TICK : Field := ⟨31, 0⟩
abbrev F.GAL_MARCH_CTL_MODE : Field := ⟨12, 12⟩
abbrev F.GAL_MARCH_CTL_REFUSED : Field := ⟨11, 11⟩
abbrev F.GAL_MARCH_CTL_DONE : Field := ⟨10, 10⟩
abbrev F.GAL_MARCH_CTL_BUSY : Field := ⟨9, 9⟩
abbrev F.GAL_MARCH_CTL_REPAIR : Field := ⟨8, 8⟩
abbrev F.GAL_MARCH_CTL_ARRAYS : Field := ⟨4, 1⟩
abbrev F.GAL_MARCH_CTL_START : Field := ⟨0, 0⟩
abbrev F.GAL_MARCH_RESULT_FAIL : Field := ⟨31, 31⟩
abbrev F.GAL_MARCH_RESULT_ARRAY : Field := ⟨30, 28⟩
abbrev F.GAL_MARCH_RESULT_CHAMBER : Field := ⟨27, 24⟩
abbrev F.GAL_MARCH_RESULT_BP : Field := ⟨23, 18⟩
abbrev F.GAL_MARCH_RESULT_ADDRESS : Field := ⟨17, 7⟩
abbrev F.GAL_MARCH_RESULT_BIT : Field := ⟨6, 0⟩
abbrev F.GAL_MARCH_WORD_WORD : Field := ⟨12, 0⟩
abbrev F.GAL_DM_REPAIR_SPARE1_VALID : Field := ⟨17, 17⟩
abbrev F.GAL_DM_REPAIR_SPARE1_SOFT : Field := ⟨16, 16⟩
abbrev F.GAL_DM_REPAIR_SPARE1_COL : Field := ⟨15, 9⟩
abbrev F.GAL_DM_REPAIR_SPARE0_VALID : Field := ⟨8, 8⟩
abbrev F.GAL_DM_REPAIR_SPARE0_SOFT : Field := ⟨7, 7⟩
abbrev F.GAL_DM_REPAIR_SPARE0_COL : Field := ⟨6, 0⟩
abbrev F.DS_REGION_VALID : Field := ⟨31, 31⟩
abbrev F.DS_REGION_KIND : Field := ⟨30, 28⟩
abbrev F.DS_REGION_BASE : Field := ⟨10, 0⟩
abbrev F.DS_REGION_SIZE_SIZE : Field := ⟨11, 0⟩
abbrev F.GAL_DS_GRANT_EMU : Field := ⟨11, 1⟩
abbrev F.DS_CH_ERR_CE : Field := ⟨31, 20⟩
abbrev F.DS_CH_ERR_CRC_RETRY : Field := ⟨19, 8⟩
abbrev F.DS_CH_ERR_UE : Field := ⟨7, 0⟩
abbrev F.DS_ERR_CTL_CLR : Field := ⟨0, 0⟩
abbrev F.PSG_CTL_WIDTH_REQ : Field := ⟨7, 6⟩
abbrev F.PSG_CTL_LOOPBACK : Field := ⟨5, 5⟩
abbrev F.PSG_CTL_DOWN : Field := ⟨2, 2⟩
abbrev F.PSG_CTL_TRAIN : Field := ⟨1, 1⟩
abbrev F.PSG_CTL_ENABLE : Field := ⟨0, 0⟩
abbrev F.PSG_STATUS_STATE : Field := ⟨15, 12⟩
abbrev F.PSG_STATUS_WIDTH : Field := ⟨11, 10⟩
abbrev F.PSG_STATUS_IN_IMAGE : Field := ⟨9, 9⟩
abbrev F.PSG_STATUS_LOOPBACK_ACTIVE : Field := ⟨8, 8⟩
abbrev F.PSG_STATUS_LANES_OK : Field := ⟨7, 4⟩
abbrev F.PSG_STATUS_FAILS : Field := ⟨3, 0⟩
abbrev F.PSG_PEER_VALID : Field := ⟨31, 31⟩
abbrev F.PSG_PEER_PEER_DEVICE : Field := ⟨24, 16⟩
abbrev F.PSG_PEER_PEER_PORT : Field := ⟨15, 12⟩
abbrev F.PSG_PEER_PEER_PROFILE : Field := ⟨10, 9⟩
abbrev F.PSG_PEER_PEER_NUM_VALID : Field := ⟨8, 8⟩
abbrev F.PSG_PEER_PEER_REV : Field := ⟨7, 0⟩
abbrev F.PSG_RTT_ROUND_TRIP : Field := ⟨31, 0⟩
abbrev F.PSG_HELD_OVER_BUDGET : Field := ⟨31, 31⟩
abbrev F.PSG_HELD_BUDGET : Field := ⟨27, 16⟩
abbrev F.PSG_HELD_HELD : Field := ⟨11, 0⟩
abbrev F.PSG_FEC_CE_COUNT : Field := ⟨31, 0⟩
abbrev F.PSG_FEC_UE_COUNT : Field := ⟨31, 0⟩
abbrev F.PSG_RETRY_COUNT_RETRANSMITS : Field := ⟨31, 16⟩
abbrev F.PSG_RETRY_COUNT_NAKS_SENT : Field := ⟨15, 0⟩
abbrev F.PSG_ERR_HOP_LIMIT : Field := ⟨10, 10⟩
abbrev F.PSG_ERR_PROTO_ERR : Field := ⟨9, 9⟩
abbrev F.PSG_ERR_REC_PARITY : Field := ⟨8, 8⟩
abbrev F.PSG_ERR_PEER_MISMATCH : Field := ⟨7, 7⟩
abbrev F.PSG_ERR_EARLY_OVF : Field := ⟨6, 6⟩
abbrev F.PSG_ERR_LINK_MISSING : Field := ⟨5, 5⟩
abbrev F.PSG_ERR_CTX_SKEW : Field := ⟨4, 4⟩
abbrev F.PSG_ERR_TAG_STALE : Field := ⟨3, 3⟩
abbrev F.PSG_ERR_LANE_FAIL : Field := ⟨2, 2⟩
abbrev F.PSG_ERR_LINK_DOWN : Field := ⟨1, 1⟩
abbrev F.PSG_ERR_RETRY_EXHAUST : Field := ⟨0, 0⟩
abbrev F.PSG_ERR_LOC_VALID : Field := ⟨31, 31⟩
abbrev F.PSG_ERR_LOC_CODE : Field := ⟨30, 27⟩
abbrev F.PSG_ERR_LOC_FLIT : Field := ⟨26, 21⟩
abbrev F.PSG_ERR_LOC_TICK : Field := ⟨15, 0⟩
abbrev F.PSG_FRAME_IN_FLITS : Field := ⟨15, 8⟩
abbrev F.PSG_FRAME_OUT_FLITS : Field := ⟨7, 0⟩
abbrev F.PSG_TUNNEL_DROP_COUNT : Field := ⟨31, 0⟩
abbrev F.PSG_COUNT_CTL_CLR_DROP : Field := ⟨2, 2⟩
abbrev F.PSG_COUNT_CTL_CLR_RETRY : Field := ⟨1, 1⟩
abbrev F.PSG_COUNT_CTL_CLR_FEC : Field := ⟨0, 0⟩
abbrev F.LTC_ID_MAPPED : Field := ⟨31, 31⟩
abbrev F.LTC_ID_DEVICE_NUM : Field := ⟨8, 0⟩
abbrev F.LTC_CFG_MARGIN : Field := ⟨31, 16⟩
abbrev F.LTC_CFG_IN_LATTICE : Field := ⟨0, 0⟩
abbrev F.LTC_LINK_TIMEOUT_PERIODS : Field := ⟨31, 0⟩
abbrev F.LTC_BARRIER_TIMEOUT_PERIODS : Field := ⟨31, 0⟩
abbrev F.LTC_STATUS_TICK_MARKED : Field := ⟨4, 4⟩
abbrev F.LTC_STATUS_LATE_OVERRUN : Field := ⟨3, 3⟩
abbrev F.LTC_STATUS_PEER_FAULT : Field := ⟨2, 2⟩
abbrev F.LTC_STATUS_BARRIER_TIMEOUT : Field := ⟨1, 1⟩
abbrev F.LTC_STATUS_MAP_MISMATCH : Field := ⟨0, 0⟩
abbrev F.LTC_MARK_TICK_TICK : Field := ⟨31, 0⟩
abbrev F.LTC_ROUTE_VALID_3 : Field := ⟨31, 31⟩
abbrev F.LTC_ROUTE_VALID_2 : Field := ⟨23, 23⟩
abbrev F.LTC_ROUTE_VALID_1 : Field := ⟨15, 15⟩
abbrev F.LTC_ROUTE_VALID_0 : Field := ⟨7, 7⟩
abbrev F.LTC_ROUTE_PORT_3 : Field := ⟨27, 24⟩
abbrev F.LTC_ROUTE_PORT_2 : Field := ⟨19, 16⟩
abbrev F.LTC_ROUTE_PORT_1 : Field := ⟨11, 8⟩
abbrev F.LTC_ROUTE_PORT_0 : Field := ⟨3, 0⟩
abbrev F.ECHO_CTL_ARMED : Field := ⟨31, 31⟩
abbrev F.ECHO_CTL_MODE : Field := ⟨30, 30⟩
abbrev F.ECHO_CTL_LOSS : Field := ⟨29, 29⟩
abbrev F.ECHO_CTL_STAGES : Field := ⟨26, 24⟩
abbrev F.ECHO_CTL_COND_ALL : Field := ⟨23, 20⟩
abbrev F.ECHO_CTL_ACTIONS : Field := ⟨19, 16⟩
abbrev F.ECHO_CTL_TRIG_SLOT : Field := ⟨15, 8⟩
abbrev F.ECHO_CTL_SNAP_SLOTS : Field := ⟨7, 0⟩
abbrev F.ECHO_STATUS_ECHO_STALL : Field := ⟨5, 5⟩
abbrev F.ECHO_STATUS_STRETCHED : Field := ⟨4, 4⟩
abbrev F.ECHO_STATUS_LOST : Field := ⟨3, 3⟩
abbrev F.ECHO_STATUS_FROZEN : Field := ⟨2, 2⟩
abbrev F.ECHO_STATUS_WINDOW_DONE : Field := ⟨1, 1⟩
abbrev F.ECHO_STATUS_TRIGGERED : Field := ⟨0, 0⟩
abbrev F.ECHO_WR_PTR_OFFSET : Field := ⟨28, 0⟩
abbrev F.ECHO_RD_PTR_OFFSET : Field := ⟨28, 0⟩
abbrev F.ECHO_OLDEST_OFFSET : Field := ⟨28, 0⟩
abbrev F.ECHO_REC_MAX_UNITS : Field := ⟨12, 0⟩
abbrev F.ECHO_PRE_CYCLES : Field := ⟨31, 0⟩
abbrev F.ECHO_POST_CYCLES : Field := ⟨31, 0⟩
abbrev F.ECHO_TRIG_TICK_LO_TICK : Field := ⟨31, 0⟩
abbrev F.ECHO_TRIG_TICK_HI_TICK : Field := ⟨31, 0⟩
abbrev F.ECHO_LOST_COUNT_COUNT : Field := ⟨31, 0⟩
abbrev F.ECHO_STRETCH_COUNT_COUNT : Field := ⟨31, 0⟩
abbrev F.ECHO_STAGE_COUNT : Field := ⟨31, 16⟩
abbrev F.ECHO_STAGE_CONSECUTIVE : Field := ⟨4, 4⟩
abbrev F.ECHO_STAGE_NEGATE : Field := ⟨3, 3⟩
abbrev F.ECHO_STAGE_COND : Field := ⟨2, 0⟩
abbrev F.SNAP_STATUS_LAST_SLOT : Field := ⟨31, 24⟩
abbrev F.SNAP_STATUS_RESULT : Field := ⟨23, 20⟩
abbrev F.SNAP_STATUS_DRAINING : Field := ⟨2, 2⟩
abbrev F.SNAP_STATUS_COPYING : Field := ⟨1, 1⟩
abbrev F.SNAP_STATUS_SHADOW : Field := ⟨0, 0⟩
abbrev F.SNAP_TICK_LO_TICK : Field := ⟨31, 0⟩
abbrev F.SNAP_TICK_HI_TICK : Field := ⟨31, 0⟩
abbrev F.ECHO_COUNT_CTL_CLR_STRETCH : Field := ⟨1, 1⟩
abbrev F.ECHO_COUNT_CTL_CLR_LOST : Field := ⟨0, 0⟩
abbrev F.GAL_TRIG_LEAF_LO_LEAVES : Field := ⟨31, 0⟩
abbrev F.GAL_TRIG_LEAF_HI_LEAVES : Field := ⟨31, 0⟩
abbrev F.GAL_TRIG_TERM_LO_MASK : Field := ⟨31, 0⟩
abbrev F.GAL_TRIG_TERM_HI_MASK : Field := ⟨31, 0⟩
abbrev F.GAL_TRIG_CTL_ASSERT_T : Field := ⟨11, 8⟩
abbrev F.GAL_TRIG_CTL_ALL_T : Field := ⟨7, 4⟩
abbrev F.GAL_TRIG_CTL_ENABLE_T : Field := ⟨3, 0⟩
abbrev F.GAL_ECHO_STATUS_LOST : Field := ⟨31, 16⟩
abbrev F.GAL_ECHO_STATUS_SEG : Field := ⟨6, 0⟩
abbrev F.GAL_FORCE_STATUS_ENTRIES : Field := ⟨12, 0⟩
abbrev F.RIM_CTL_SW_RESET_1 : Field := ⟨1, 1⟩
abbrev F.RIM_CTL_SW_RESET_0 : Field := ⟨0, 0⟩
abbrev F.RIM_STATUS_SCRUB_FAULT : Field := ⟨9, 9⟩
abbrev F.RIM_STATUS_CONFIGURED : Field := ⟨8, 8⟩
abbrev F.RIM_STATUS_BANK_RUN : Field := ⟨7, 0⟩
abbrev F.RIM_BANK_VIO_OK : Field := ⟨7, 7⟩
abbrev F.RIM_BANK_PULL_SEL : Field := ⟨6, 6⟩
abbrev F.RIM_BANK_STATE : Field := ⟨5, 4⟩
abbrev F.RIM_BANK_IO_CLK : Field := ⟨3, 2⟩
abbrev F.RIM_BANK_VIO_VIO : Field := ⟨2, 0⟩
abbrev F.RIM_PW_CFG_PW_CLK : Field := ⟨31, 30⟩
abbrev F.RIM_PW_CFG_OUT_MODE : Field := ⟨29, 29⟩
abbrev F.RIM_PW_CFG_IN_MODE : Field := ⟨28, 28⟩
abbrev F.RIM_PW_CFG_OUT_OFFSET : Field := ⟨27, 20⟩
abbrev F.RIM_PW_CFG_IN_ARG : Field := ⟨19, 0⟩
abbrev F.RIM_PW_CTXSEL_ENABLE : Field := ⟨28, 28⟩
abbrev F.RIM_PW_CTXSEL_VALID_SRC : Field := ⟨25, 13⟩
abbrev F.RIM_PW_CTXSEL_CTX_BASE : Field := ⟨12, 0⟩
abbrev F.RIM_PW_STATUS_LINK_LOST : Field := ⟨2, 2⟩
abbrev F.RIM_PW_STATUS_OUT_LATE : Field := ⟨1, 1⟩
abbrev F.RIM_PW_STATUS_IN_SEEN : Field := ⟨0, 0⟩
abbrev F.RIM_PW_COUNT_X_OUT : Field := ⟨31, 24⟩
abbrev F.RIM_PW_COUNT_IN_DROP : Field := ⟨23, 16⟩
abbrev F.RIM_PW_COUNT_OUT_DROP : Field := ⟨15, 8⟩
abbrev F.RIM_PW_COUNT_OUT_LATE : Field := ⟨7, 0⟩
abbrev F.RIM_OSC_LOCKED : Field := ⟨31, 31⟩
abbrev F.RIM_OSC_SOURCE : Field := ⟨30, 30⟩
abbrev F.RIM_OSC_ENABLE : Field := ⟨29, 29⟩
abbrev F.RIM_OSC_FREQ_KHZ : Field := ⟨19, 0⟩
abbrev F.RIM_CLK_ENABLE : Field := ⟨31, 31⟩
abbrev F.RIM_CLK_SRC_KIND : Field := ⟨30, 29⟩
abbrev F.RIM_CLK_SRC : Field := ⟨10, 0⟩
abbrev F.RIM_RST_EN_PIN : Field := ⟨31, 31⟩
abbrev F.RIM_RST_EN_MC : Field := ⟨30, 30⟩
abbrev F.RIM_RST_EN_SW : Field := ⟨29, 29⟩
abbrev F.RIM_RST_EN_RESTORE : Field := ⟨28, 28⟩
abbrev F.RIM_RST_EN_COMMIT : Field := ⟨27, 27⟩
abbrev F.RIM_RST_PIN : Field := ⟨26, 19⟩
abbrev F.RIM_RST_MC : Field := ⟨10, 0⟩
abbrev F.RIM_SCRUB_CTL_ENABLE : Field := ⟨10, 10⟩
abbrev F.RIM_SCRUB_CTL_INTERVAL : Field := ⟨9, 0⟩
abbrev F.RIM_SCRUB_STATUS_PASSES : Field := ⟨31, 16⟩
abbrev F.RIM_SCRUB_STATUS_VOTE_FIX : Field := ⟨15, 12⟩
abbrev F.RIM_SCRUB_STATUS_REWRITES : Field := ⟨11, 6⟩
abbrev F.RIM_SCRUB_STATUS_CORRECTED : Field := ⟨5, 0⟩
abbrev F.RIM_SCRUB_LOC_VALID : Field := ⟨31, 31⟩
abbrev F.RIM_SCRUB_LOC_FRAME : Field := ⟨10, 0⟩
abbrev F.RIM_WIRE_STATUS_ACTIVE : Field := ⟨31, 31⟩
abbrev F.RIM_WIRE_STATUS_STUCK : Field := ⟨30, 30⟩
abbrev F.RIM_WIRE_STATUS_SEEN : Field := ⟨29, 29⟩
abbrev F.RIM_WIRE_STATUS_BANK : Field := ⟨8, 6⟩
abbrev F.RIM_WIRE_STATUS_WIRE : Field := ⟨5, 0⟩
abbrev F.SP_CTL_ENABLE : Field := ⟨31, 31⟩
abbrev F.SP_CTL_MODE : Field := ⟨30, 30⟩
abbrev F.SP_CTL_FORMAT : Field := ⟨29, 28⟩
abbrev F.SP_CTL_STOP2 : Field := ⟨27, 27⟩
abbrev F.SP_CTL_DIV : Field := ⟨15, 0⟩
abbrev F.SP_STATUS_RX_OVF : Field := ⟨17, 17⟩
abbrev F.SP_STATUS_TX_OVF : Field := ⟨16, 16⟩
abbrev F.SP_STATUS_RX_LEVEL : Field := ⟨15, 8⟩
abbrev F.SP_STATUS_TX_LEVEL : Field := ⟨7, 0⟩
abbrev F.SP_DATA_DATA : Field := ⟨7, 0⟩
abbrev F.UFL_CTL_BUSY : Field := ⟨2, 2⟩
abbrev F.UFL_CTL_ERASE : Field := ⟨1, 1⟩
abbrev F.UFL_CTL_PROGRAM : Field := ⟨0, 0⟩
abbrev F.UFL_ADDR_WORD : Field := ⟨18, 2⟩
abbrev F.UFL_DATA_DATA : Field := ⟨31, 0⟩
abbrev F.RIM_PIN_RATIO : Field := ⟨31, 29⟩
abbrev F.RIM_PIN_DATA_SRC : Field := ⟨28, 27⟩
abbrev F.RIM_PIN_OE_SRC : Field := ⟨26, 25⟩
abbrev F.RIM_PIN_X_DRIVE : Field := ⟨24, 23⟩
abbrev F.RIM_PIN_PRBS : Field := ⟨22, 21⟩
abbrev F.RIM_PIN_INVERT : Field := ⟨20, 20⟩
abbrev F.RIM_PIN_PATTERN : Field := ⟨15, 0⟩
abbrev F.RIM_PORT_IN_SRC : Field := ⟨12, 0⟩
abbrev F.BLK_IN_SRC : Field := ⟨12, 0⟩
abbrev F.BLK_MC_MODE : Field := ⟨31, 30⟩
abbrev F.BLK_MC_POL : Field := ⟨29, 29⟩
abbrev F.BLK_MC_CLK : Field := ⟨28, 27⟩
abbrev F.BLK_MC_CLK_INV : Field := ⟨26, 26⟩
abbrev F.BLK_MC_RST_SRC : Field := ⟨25, 24⟩
abbrev F.BLK_MC_RST_VAL : Field := ⟨23, 23⟩
abbrev F.BLK_MC_WIRE_EN : Field := ⟨22, 22⟩
abbrev F.BLK_MC_WIRE_SEL : Field := ⟨21, 16⟩
abbrev F.BLK_PT_W0_TRUE_LO : Field := ⟨31, 0⟩
abbrev F.BLK_PT_W1_TRUE_HI : Field := ⟨7, 0⟩
abbrev F.BLK_PT_W1_COMP_LO : Field := ⟨31, 8⟩
abbrev F.BLK_PT_W2_COMP_HI : Field := ⟨15, 0⟩
abbrev F.BLK_PT_W2_OWNER : Field := ⟨19, 16⟩
abbrev F.BLK_PT_W2_ROLE : Field := ⟨21, 20⟩
abbrev F.BLK_PT_W2_ENABLE : Field := ⟨22, 22⟩
abbrev F.IMG_STATUS_UNOWNED : Field := ⟨7, 7⟩
abbrev F.IMG_STATUS_CHAINED : Field := ⟨6, 6⟩
abbrev F.IMG_STATUS_RELOAD : Field := ⟨5, 5⟩
abbrev F.IMG_STATUS_SOURCE : Field := ⟨4, 4⟩
abbrev F.IMG_STATUS_STATE : Field := ⟨3, 0⟩
abbrev F.IMG_REASON_POSITION : Field := ⟨24, 16⟩
abbrev F.IMG_REASON_SECTION_HI : Field := ⟨15, 8⟩
abbrev F.IMG_REASON_CODE : Field := ⟨7, 0⟩
abbrev F.IMG_LOC_VALID : Field := ⟨31, 31⟩
abbrev F.IMG_LOC_GALLERY : Field := ⟨30, 25⟩
abbrev F.IMG_LOC_CHAMBER : Field := ⟨24, 21⟩
abbrev F.IMG_LOC_BP : Field := ⟨20, 15⟩
abbrev F.IMG_LOC_CONTEXT : Field := ⟨14, 12⟩
abbrev F.IMG_LOC_STEP : Field := ⟨9, 0⟩
abbrev F.IMG_SECTION_INDEX_LO : Field := ⟨11, 0⟩
abbrev F.IMG_PROGRESS_LO_BYTES : Field := ⟨31, 0⟩
abbrev F.IMG_PROGRESS_HI_BYTES : Field := ⟨31, 0⟩
abbrev F.IMG_CHAIN_ROLE_STRAP : Field := ⟨28, 28⟩
abbrev F.IMG_CHAIN_OUT_VALID : Field := ⟨27, 27⟩
abbrev F.IMG_CHAIN_IN_VALID : Field := ⟨26, 26⟩
abbrev F.IMG_CHAIN_OUT_PORT : Field := ⟨25, 22⟩
abbrev F.IMG_CHAIN_IN_PORT : Field := ⟨21, 18⟩
abbrev F.IMG_CHAIN_HEAD_DEV : Field := ⟨17, 9⟩
abbrev F.IMG_CHAIN_POSITION : Field := ⟨8, 0⟩
abbrev F.IMG_DIGEST_BYTES : Field := ⟨31, 0⟩
abbrev F.IMG_BASE_BYTES : Field := ⟨31, 0⟩
abbrev F.IMG_COMMIT_TICK_LO_TICK : Field := ⟨31, 0⟩
abbrev F.IMG_COMMIT_TICK_HI_TICK : Field := ⟨31, 0⟩
abbrev F.KEY_STATUS_FUSE_KEK : Field := ⟨25, 25⟩
abbrev F.KEY_STATUS_STORE_VALID : Field := ⟨24, 17⟩
abbrev F.KEY_STATUS_OWNER_REVOKED : Field := ⟨16, 13⟩
abbrev F.KEY_STATUS_OWNER_PROG : Field := ⟨12, 9⟩
abbrev F.KEY_STATUS_DEBUG_LOCK : Field := ⟨8, 7⟩
abbrev F.KEY_STATUS_SVN : Field := ⟨6, 0⟩
abbrev F.DEVICE_READY0_GALLERY_LO : Field := ⟨31, 0⟩
abbrev F.DEVICE_READY1_GALLERY_HI : Field := ⟨31, 0⟩
abbrev F.DEVICE_READY2_DS_CHANNEL : Field := ⟨31, 0⟩
abbrev F.DEVICE_READY3_ETHERNET : Field := ⟨25, 24⟩
abbrev F.DEVICE_READY3_TIME_LOCK : Field := ⟨23, 23⟩
abbrev F.DEVICE_READY3_RIMSTONE : Field := ⟨22, 22⟩
abbrev F.DEVICE_READY3_NOC : Field := ⟨21, 21⟩
abbrev F.DEVICE_READY3_LANTERN : Field := ⟨20, 20⟩
abbrev F.DEVICE_READY3_CORE : Field := ⟨19, 16⟩
abbrev F.DEVICE_READY3_PASSAGE : Field := ⟨15, 0⟩
abbrev F.MBX_SQ_BASE_LO_ADDR : Field := ⟨31, 6⟩
abbrev F.MBX_SQ_BASE_HI_ADDR : Field := ⟨31, 0⟩
abbrev F.MBX_CQ_BASE_LO_ADDR : Field := ⟨31, 5⟩
abbrev F.MBX_CQ_BASE_HI_ADDR : Field := ⟨31, 0⟩
abbrev F.MBX_Q_CFG_ENABLE : Field := ⟨31, 31⟩
abbrev F.MBX_Q_CFG_SIZE : Field := ⟨26, 16⟩
abbrev F.MBX_Q_CFG_VECTOR : Field := ⟨15, 8⟩
abbrev F.MBX_Q_STATUS_IDLE : Field := ⟨31, 31⟩
abbrev F.MBX_Q_STATUS_CFG_ERR : Field := ⟨30, 30⟩
abbrev F.MBX_Q_STATUS_DB_ERR : Field := ⟨29, 29⟩
abbrev F.MBX_Q_STATUS_FETCH_ERR : Field := ⟨28, 28⟩
abbrev F.MBX_Q_STATUS_CORE : Field := ⟨27, 26⟩
abbrev F.MBX_Q_STATUS_OUTSTANDING : Field := ⟨10, 0⟩
abbrev F.MBX_SQ_TAIL_TAIL : Field := ⟨9, 0⟩
abbrev F.MBX_CQ_HEAD_HEAD : Field := ⟨9, 0⟩
abbrev F.MBX_SQ_HEAD_HEAD : Field := ⟨9, 0⟩
abbrev F.MBX_VERSION_BUILD : Field := ⟨31, 16⟩
abbrev F.MBX_VERSION_INTERFACE : Field := ⟨15, 0⟩
abbrev F.NOC_CTL_APPLY : Field := ⟨1, 1⟩
abbrev F.NOC_CTL_COMPAT : Field := ⟨0, 0⟩
abbrev F.NOC_CREDIT_VC3 : Field := ⟨31, 24⟩
abbrev F.NOC_CREDIT_VC2 : Field := ⟨23, 16⟩
abbrev F.NOC_CREDIT_VC1 : Field := ⟨15, 8⟩
abbrev F.NOC_CREDIT_VC0 : Field := ⟨7, 0⟩
abbrev F.NOC_STATUS_COMPAT_ACTIVE : Field := ⟨1, 1⟩
abbrev F.NOC_STATUS_BARRIER_BUSY : Field := ⟨0, 0⟩
abbrev F.NOC_BARRIER_LIMIT_PERIODS : Field := ⟨31, 0⟩
abbrev F.NOC_STALL_LIMIT_PERIODS : Field := ⟨31, 0⟩
abbrev F.NOC_ERR_RSP_TIMEOUT : Field := ⟨4, 4⟩
abbrev F.NOC_ERR_BAD_HEADER : Field := ⟨3, 3⟩
abbrev F.NOC_ERR_NO_ENDPOINT : Field := ⟨2, 2⟩
abbrev F.NOC_ERR_BARRIER_SLOW : Field := ⟨1, 1⟩
abbrev F.NOC_ERR_RSP_STALL : Field := ⟨0, 0⟩
abbrev F.NOC_ERR_LOC_VALID : Field := ⟨31, 31⟩
abbrev F.NOC_ERR_LOC_CODE : Field := ⟨30, 27⟩
abbrev F.NOC_ERR_LOC_NODE : Field := ⟨15, 8⟩
abbrev F.NOC_ERR_LOC_SRC : Field := ⟨7, 0⟩
abbrev F.NOC_NOEP_DROP_COUNT : Field := ⟨31, 0⟩
abbrev F.BAR2_BASE_BASE : Field := ⟨10, 0⟩
abbrev F.HOST_ERR_POISON_RX : Field := ⟨6, 6⟩
abbrev F.HOST_ERR_UE_DATA : Field := ⟨5, 5⟩
abbrev F.HOST_ERR_BAR4_BAD_ACCESS : Field := ⟨4, 4⟩
abbrev F.HOST_ERR_BAR4_REFUSED : Field := ⟨3, 3⟩
abbrev F.HOST_ERR_BAR2_REFUSED : Field := ⟨2, 2⟩
abbrev F.HOST_ERR_BAR0_BAD_ACCESS : Field := ⟨1, 1⟩
abbrev F.HOST_ERR_BAR0_PARTIAL_WRITE : Field := ⟨0, 0⟩
abbrev F.HOST_ERR_ADDR_LO_ADDR : Field := ⟨31, 0⟩
abbrev F.HOST_ERR_ADDR_HI_VALID : Field := ⟨31, 31⟩
abbrev F.HOST_ERR_ADDR_HI_BAR : Field := ⟨30, 28⟩
abbrev F.HOST_ERR_ADDR_HI_ADDR : Field := ⟨27, 0⟩
abbrev F.BAR4_SEL_VALID : Field := ⟨31, 31⟩
abbrev F.BAR4_SEL_SPACE : Field := ⟨8, 8⟩
abbrev F.BAR4_SEL_GALLERY : Field := ⟨5, 0⟩
abbrev F.NOC_OFF_COUNT_REQUESTS : Field := ⟨31, 16⟩
abbrev F.NOC_OFF_COUNT_POSTED : Field := ⟨15, 8⟩
abbrev F.NOC_OFF_COUNT_OTHER : Field := ⟨7, 0⟩
abbrev F.DMA_ACTIVE_CH : Field := ⟨31, 0⟩
abbrev F.DMA_HALTED_CH : Field := ⟨31, 0⟩
abbrev F.DMA_ENGINE_PAGES_FREE : Field := ⟨24, 18⟩
abbrev F.DMA_ENGINE_WRITES_OUT : Field := ⟨17, 9⟩
abbrev F.DMA_ENGINE_READS_OUT : Field := ⟨8, 0⟩
abbrev F.DMA_CH_RING_LO_ADDR : Field := ⟨31, 5⟩
abbrev F.DMA_CH_RING_HI_ADDR : Field := ⟨31, 0⟩
abbrev F.DMA_CH_CFG_ENABLE : Field := ⟨31, 31⟩
abbrev F.DMA_CH_CFG_LOG2_SIZE : Field := ⟨20, 16⟩
abbrev F.DMA_CH_CFG_PRIORITY : Field := ⟨15, 14⟩
abbrev F.DMA_CH_CFG_QUOTA : Field := ⟨6, 0⟩
abbrev F.DMA_CH_CMD_RESUME : Field := ⟨3, 3⟩
abbrev F.DMA_CH_CMD_ABORT : Field := ⟨2, 2⟩
abbrev F.DMA_CH_CMD_HALT : Field := ⟨1, 1⟩
abbrev F.DMA_CH_CMD_KICK : Field := ⟨0, 0⟩
abbrev F.DMA_CH_STATUS_STATE : Field := ⟨31, 29⟩
abbrev F.DMA_CH_STATUS_CFG_ERR : Field := ⟨10, 10⟩
abbrev F.DMA_CH_STATUS_HALT_EVT : Field := ⟨9, 9⟩
abbrev F.DMA_CH_STATUS_DONE_EVT : Field := ⟨8, 8⟩
abbrev F.DMA_CH_STATUS_LAST_CODE : Field := ⟨7, 0⟩
abbrev F.DMA_CH_HEAD_INDEX : Field := ⟨15, 0⟩
abbrev F.DMA_CH_ERR_ADDR_LO_ADDR : Field := ⟨31, 0⟩
abbrev F.DMA_CH_ERR_ADDR_HI_ADDR : Field := ⟨31, 0⟩
abbrev F.DMA_CH_ERR_INFO_INDEX : Field := ⟨31, 16⟩
abbrev F.DMA_CH_ERR_INFO_DETAIL : Field := ⟨15, 8⟩
abbrev F.DMA_CH_ERR_INFO_DIRECTION : Field := ⟨7, 5⟩
abbrev F.DMA_CH_ERR_INFO_REMOTE : Field := ⟨4, 4⟩
abbrev F.DMA_CH_ERR_INFO_SPACE : Field := ⟨3, 2⟩
abbrev F.DMA_CH_ERR_INFO_VALID : Field := ⟨0, 0⟩
abbrev F.DMA_CH_DONE_COUNT_COUNT : Field := ⟨31, 0⟩
abbrev F.CIC_SRC_KIND : Field := ⟨24, 24⟩
abbrev F.CIC_SRC_VECTOR : Field := ⟨23, 16⟩
abbrev F.CIC_SRC_TARGETS : Field := ⟨12, 8⟩
abbrev F.CIC_SRC_PRIORITY : Field := ⟨3, 0⟩
abbrev F.CIC_PENDING_PENDING : Field := ⟨31, 0⟩
abbrev F.CIC_SW_SET_SET : Field := ⟨31, 0⟩
abbrev F.CIC_THRESHOLD_LEVEL : Field := ⟨3, 0⟩
abbrev F.CIC_CLAIM_ID : Field := ⟨8, 0⟩
abbrev F.CIC_COMPLETE_ID : Field := ⟨8, 0⟩
abbrev F.CIC_RUNNING_LEVEL : Field := ⟨3, 0⟩
abbrev F.CIC_INSERVICE_IN_SERVICE : Field := ⟨31, 0⟩
abbrev F.CIC_COUNTS_SPURIOUS : Field := ⟨31, 16⟩
abbrev F.CIC_COUNTS_COMPLETE_ORPHAN : Field := ⟨15, 0⟩
abbrev F.CIC_ORPHAN_LAST_VALID : Field := ⟨31, 31⟩
abbrev F.CIC_ORPHAN_LAST_TARGET : Field := ⟨11, 9⟩
abbrev F.CIC_ORPHAN_LAST_ID : Field := ⟨8, 0⟩
abbrev F.CIC_HOST_RUN_LEVEL : Field := ⟨3, 0⟩
abbrev F.WIU_PENDING_SOFT : Field := ⟨31, 16⟩
abbrev F.WIU_PENDING_HW : Field := ⟨15, 0⟩
abbrev F.WIU_ENABLE_ENABLE : Field := ⟨31, 0⟩
abbrev F.WIU_CLASS_FAST : Field := ⟨31, 0⟩
abbrev F.WIU_PRIO_PRIO_7 : Field := ⟨31, 28⟩
abbrev F.WIU_PRIO_PRIO_6 : Field := ⟨27, 24⟩
abbrev F.WIU_PRIO_PRIO_5 : Field := ⟨23, 20⟩
abbrev F.WIU_PRIO_PRIO_4 : Field := ⟨19, 16⟩
abbrev F.WIU_PRIO_PRIO_3 : Field := ⟨15, 12⟩
abbrev F.WIU_PRIO_PRIO_2 : Field := ⟨11, 8⟩
abbrev F.WIU_PRIO_PRIO_1 : Field := ⟨7, 4⟩
abbrev F.WIU_PRIO_PRIO_0 : Field := ⟨3, 0⟩
abbrev F.WIU_STATUS_FAST_ACTIVE : Field := ⟨31, 31⟩
abbrev F.WIU_STATUS_DEPTH : Field := ⟨30, 28⟩
abbrev F.WIU_STATUS_LEVEL : Field := ⟨27, 24⟩
abbrev F.WIU_STATUS_ACTIVE : Field := ⟨23, 19⟩
abbrev F.WIU_COUNT_ABANDONS : Field := ⟨31, 16⟩
abbrev F.WIU_COUNT_TAIL_CHAINS : Field := ⟨15, 0⟩
abbrev F.TB_NOW_NS_NS : Field := ⟨31, 0⟩
abbrev F.TB_NOW_EXT_WRAP : Field := ⟨31, 16⟩
abbrev F.TB_NOW_EXT_FRAC : Field := ⟨15, 0⟩
abbrev F.TB_INCR_INCR : Field := ⟨31, 0⟩
abbrev F.TB_STEP_NS : Field := ⟨31, 0⟩
abbrev F.TB_SLEW_REMAIN : Field := ⟨31, 0⟩
abbrev F.TB_CFG_DOWN_MASK : Field := ⟨31, 16⟩
abbrev F.TB_CFG_UP_PORT : Field := ⟨15, 12⟩
abbrev F.TB_CFG_LT_LOG2 : Field := ⟨11, 8⟩
abbrev F.TB_CFG_MASTER : Field := ⟨4, 4⟩
abbrev F.TB_CFG_SRC : Field := ⟨1, 0⟩
abbrev F.TB_STATUS_CLAMPED : Field := ⟨6, 6⟩
abbrev F.TB_STATUS_SEQ_GAP : Field := ⟨5, 5⟩
abbrev F.TB_STATUS_LOST_LOCK : Field := ⟨4, 4⟩
abbrev F.TB_STATUS_WRITE_REFUSED : Field := ⟨3, 3⟩
abbrev F.TB_STATUS_SLEW_ACTIVE : Field := ⟨2, 2⟩
abbrev F.TB_STATUS_HOLDOVER : Field := ⟨1, 1⟩
abbrev F.TB_STATUS_LOCKED : Field := ⟨0, 0⟩
abbrev F.TB_OFFSET_PS : Field := ⟨31, 0⟩
abbrev F.TB_LOCK_THRESH_PS : Field := ⟨31, 0⟩
abbrev F.TB_TICK_LO_TICK : Field := ⟨31, 0⟩
abbrev F.TB_TICK_HI_TICK : Field := ⟨31, 0⟩
abbrev F.TB_TICK_TIME_NS : Field := ⟨31, 0⟩
abbrev F.TB_GRID_NEXT_NS : Field := ⟨31, 0⟩
abbrev F.TB_FRACS_GRID_FRAC : Field := ⟨31, 16⟩
abbrev F.TB_FRACS_TICK_FRAC : Field := ⟨15, 0⟩
abbrev F.ETH_CFG_ENABLE : Field := ⟨31, 31⟩
abbrev F.ETH_CFG_SPEED : Field := ⟨30, 30⟩
abbrev F.ETH_CFG_PTP_ROLE : Field := ⟨29, 28⟩
abbrev F.ETH_CFG_ONE_STEP_TX : Field := ⟨27, 27⟩
abbrev F.ETH_CFG_TRANSPORT : Field := ⟨26, 24⟩
abbrev F.ETH_CFG_P2P : Field := ⟨23, 23⟩
abbrev F.ETH_CFG_DOMAIN : Field := ⟨15, 8⟩
abbrev F.ETH_ASYM_ASYM : Field := ⟨31, 0⟩
abbrev F.ETH_STATUS_LINK_UP : Field := ⟨31, 31⟩
abbrev F.ETH_STATUS_TS_VALID : Field := ⟨30, 30⟩
abbrev F.ETH_STATUS_TC_FORWARDED : Field := ⟨15, 0⟩
abbrev F.TB_PSG_ASYM_PS : Field := ⟨31, 0⟩
abbrev F.TB_PSG_DELAY_PS : Field := ⟨31, 0⟩
abbrev F.ERR_STATUS_FATAL : Field := ⟨2, 2⟩
abbrev F.ERR_STATUS_UE : Field := ⟨1, 1⟩
abbrev F.ERR_STATUS_CE : Field := ⟨0, 0⟩
abbrev F.ERR_COUNT_UE : Field := ⟨31, 16⟩
abbrev F.ERR_COUNT_CE : Field := ⟨15, 0⟩
abbrev F.ERR_FIRST_VALID : Field := ⟨31, 31⟩
abbrev F.ERR_FIRST_CLASS : Field := ⟨30, 29⟩
abbrev F.ERR_FIRST_BLOCK : Field := ⟨28, 21⟩
abbrev F.ERR_FIRST_CODE : Field := ⟨20, 13⟩
abbrev F.ERR_FIRST_UNIT : Field := ⟨7, 0⟩
abbrev F.ERR_FIRST_TIME_NS : Field := ⟨31, 0⟩
abbrev F.ERR_INJ_LAST_ARMED : Field := ⟨31, 31⟩
abbrev F.ERR_INJ_LAST_MODE : Field := ⟨30, 30⟩
abbrev F.ERR_INJ_LAST_BLOCK : Field := ⟨23, 16⟩
abbrev F.ERR_INJ_LAST_CODE : Field := ⟨15, 8⟩
abbrev F.ERR_INJ_LAST_UNIT : Field := ⟨7, 0⟩
abbrev F.LNT_STATUS_RUNNING : Field := ⟨31, 30⟩
abbrev F.LNT_STATUS_BOOT_SEL : Field := ⟨29, 29⟩
abbrev F.LNT_STATUS_THERM_HOLD : Field := ⟨28, 28⟩
abbrev F.LNT_STATUS_TRIP : Field := ⟨27, 27⟩
abbrev F.LNT_STATUS_FW_UPDATING : Field := ⟨26, 26⟩
abbrev F.LNT_STATUS_ACTIVATE_PENDING : Field := ⟨25, 25⟩
abbrev F.LNT_CTL_ETH_MGMT_1 : Field := ⟨1, 1⟩
abbrev F.LNT_CTL_ETH_MGMT_0 : Field := ⟨0, 0⟩
abbrev F.LNT_ETH_IP4_ADDR : Field := ⟨31, 0⟩
abbrev F.LNT_LOG_SEQ_NEXT : Field := ⟨31, 0⟩
abbrev F.DRIP_CTL_DS_HOURS : Field := ⟨31, 16⟩
abbrev F.DRIP_CTL_LINK : Field := ⟨5, 5⟩
abbrev F.DRIP_CTL_DS : Field := ⟨4, 4⟩
abbrev F.DRIP_CTL_DM : Field := ⟨3, 3⟩
abbrev F.DRIP_CTL_RECORDS : Field := ⟨2, 2⟩
abbrev F.DRIP_CTL_NETSTORE : Field := ⟨1, 1⟩
abbrev F.DRIP_CTL_ISTORE : Field := ⟨0, 0⟩
abbrev F.DRIP_STATUS_DS_PASSES : Field := ⟨31, 16⟩
abbrev F.DRIP_STATUS_FABRIC_PASSES : Field := ⟨15, 0⟩
abbrev F.FUSE_STATE_JOURNAL_COUNT : Field := ⟨31, 24⟩
abbrev F.FUSE_STATE_BEDROCK_MIB : Field := ⟨23, 20⟩
abbrev F.FUSE_STATE_LANE_REVERSAL : Field := ⟨19, 19⟩
abbrev F.FUSE_STATE_BEDROCK_LEFT : Field := ⟨18, 17⟩
abbrev F.FUSE_STATE_LANE_LEFT : Field := ⟨16, 15⟩
abbrev F.FUSE_STATE_DEBUG_LEFT : Field := ⟨14, 13⟩
abbrev F.FUSE_STATE_SVN_LEFT : Field := ⟨12, 6⟩
abbrev F.FUSE_JNL_VALID : Field := ⟨31, 31⟩
abbrev F.FUSE_JNL_COMPLETE : Field := ⟨30, 30⟩
abbrev F.FUSE_JNL_SIGNER : Field := ⟨27, 24⟩
abbrev F.FUSE_JNL_SETTING : Field := ⟨23, 16⟩
abbrev F.FUSE_JNL_INDEX : Field := ⟨15, 8⟩
abbrev F.FUSE_JNL_VALUE : Field := ⟨7, 0⟩
abbrev F.SNS_VALUE_VALID : Field := ⟨31, 31⟩
abbrev F.SNS_VALUE_WARN : Field := ⟨30, 30⟩
abbrev F.SNS_VALUE_HALT : Field := ⟨29, 29⟩
abbrev F.SNS_VALUE_VALUE : Field := ⟨15, 0⟩
abbrev F.SNS_LIMIT_HIGH : Field := ⟨31, 16⟩
abbrev F.SNS_LIMIT_LOW : Field := ⟨15, 0⟩
abbrev F.TRC_CTL_CLEAR : Field := ⟨2, 2⟩
abbrev F.TRC_CTL_MODE : Field := ⟨1, 1⟩
abbrev F.TRC_CTL_ENABLE : Field := ⟨0, 0⟩
abbrev F.TRC_STATUS_WATERMARK_HIT : Field := ⟨4, 4⟩
abbrev F.TRC_STATUS_OVERFLOW_SEEN : Field := ⟨3, 3⟩
abbrev F.TRC_STATUS_FULL : Field := ⟨2, 2⟩
abbrev F.TRC_STATUS_WRAPPED : Field := ⟨1, 1⟩
abbrev F.TRC_STATUS_IDLE : Field := ⟨0, 0⟩
abbrev F.TRC_WR_PTR_SLOT : Field := ⟨15, 0⟩
abbrev F.TRC_RD_PTR_SLOT : Field := ⟨15, 0⟩
abbrev F.TRC_WATERMARK_LEVEL : Field := ⟨15, 0⟩
abbrev F.TRC_WIN_BASE_WINDOW : Field := ⟨3, 0⟩
abbrev F.TRC_SRC_CFG_ENABLE : Field := ⟨31, 31⟩
abbrev F.TRC_SRC_CFG_RUN_AT_ENABLE : Field := ⟨30, 30⟩
abbrev F.TRC_SRC_CFG_SYNC_LOG2 : Field := ⟨11, 8⟩
abbrev F.TRC_SRC_CFG_TS_LOG2 : Field := ⟨3, 0⟩
abbrev F.TRC_SRC_STATUS_RUNNING : Field := ⟨31, 31⟩
abbrev F.TRC_SRC_STATUS_CLOCKED : Field := ⟨30, 30⟩
abbrev F.TRC_SRC_STATUS_LEVEL : Field := ⟨21, 16⟩
abbrev F.TRC_SRC_STATUS_LOST : Field := ⟨15, 0⟩
abbrev F.TRC_CMP_CTL_RANGE23 : Field := ⟨9, 9⟩
abbrev F.TRC_CMP_CTL_RANGE01 : Field := ⟨8, 8⟩
abbrev F.TRC_CMP_CTL_ACTION_3 : Field := ⟨7, 6⟩
abbrev F.TRC_CMP_CTL_ACTION_2 : Field := ⟨5, 4⟩
abbrev F.TRC_CMP_CTL_ACTION_1 : Field := ⟨3, 2⟩
abbrev F.TRC_CMP_CTL_ACTION_0 : Field := ⟨1, 0⟩
abbrev F.TRC_CMP_LO_ADDR : Field := ⟨31, 2⟩
abbrev F.TRC_CMP_HI_ADDR : Field := ⟨15, 0⟩
abbrev F.PWR_STATUS_PGOOD : Field := ⟨31, 31⟩
abbrev F.PWR_STATUS_VCORE_TARGET : Field := ⟨23, 16⟩
abbrev F.PWR_STATUS_VCORE_BIN : Field := ⟨15, 8⟩
abbrev F.PWR_STATUS_RAIL_OK : Field := ⟨5, 0⟩
abbrev F.PWR_GAL_REQ_REQ_15 : Field := ⟨31, 30⟩
abbrev F.PWR_GAL_REQ_REQ_14 : Field := ⟨29, 28⟩
abbrev F.PWR_GAL_REQ_REQ_13 : Field := ⟨27, 26⟩
abbrev F.PWR_GAL_REQ_REQ_12 : Field := ⟨25, 24⟩
abbrev F.PWR_GAL_REQ_REQ_11 : Field := ⟨23, 22⟩
abbrev F.PWR_GAL_REQ_REQ_10 : Field := ⟨21, 20⟩
abbrev F.PWR_GAL_REQ_REQ_9 : Field := ⟨19, 18⟩
abbrev F.PWR_GAL_REQ_REQ_8 : Field := ⟨17, 16⟩
abbrev F.PWR_GAL_REQ_REQ_7 : Field := ⟨15, 14⟩
abbrev F.PWR_GAL_REQ_REQ_6 : Field := ⟨13, 12⟩
abbrev F.PWR_GAL_REQ_REQ_5 : Field := ⟨11, 10⟩
abbrev F.PWR_GAL_REQ_REQ_4 : Field := ⟨9, 8⟩
abbrev F.PWR_GAL_REQ_REQ_3 : Field := ⟨7, 6⟩
abbrev F.PWR_GAL_REQ_REQ_2 : Field := ⟨5, 4⟩
abbrev F.PWR_GAL_REQ_REQ_1 : Field := ⟨3, 2⟩
abbrev F.PWR_GAL_REQ_REQ_0 : Field := ⟨1, 0⟩
abbrev F.PWR_GAL_STATE_STATE_15 : Field := ⟨31, 30⟩
abbrev F.PWR_GAL_STATE_STATE_14 : Field := ⟨29, 28⟩
abbrev F.PWR_GAL_STATE_STATE_13 : Field := ⟨27, 26⟩
abbrev F.PWR_GAL_STATE_STATE_12 : Field := ⟨25, 24⟩
abbrev F.PWR_GAL_STATE_STATE_11 : Field := ⟨23, 22⟩
abbrev F.PWR_GAL_STATE_STATE_10 : Field := ⟨21, 20⟩
abbrev F.PWR_GAL_STATE_STATE_9 : Field := ⟨19, 18⟩
abbrev F.PWR_GAL_STATE_STATE_8 : Field := ⟨17, 16⟩
abbrev F.PWR_GAL_STATE_STATE_7 : Field := ⟨15, 14⟩
abbrev F.PWR_GAL_STATE_STATE_6 : Field := ⟨13, 12⟩
abbrev F.PWR_GAL_STATE_STATE_5 : Field := ⟨11, 10⟩
abbrev F.PWR_GAL_STATE_STATE_4 : Field := ⟨9, 8⟩
abbrev F.PWR_GAL_STATE_STATE_3 : Field := ⟨7, 6⟩
abbrev F.PWR_GAL_STATE_STATE_2 : Field := ⟨5, 4⟩
abbrev F.PWR_GAL_STATE_STATE_1 : Field := ⟨3, 2⟩
abbrev F.PWR_GAL_STATE_STATE_0 : Field := ⟨1, 0⟩
abbrev F.PWR_EVENT_REFUSED : Field := ⟨8, 8⟩
abbrev F.PWR_EVENT_GALLERY : Field := ⟨5, 0⟩

/-! The register rows, in the order of the chapters. -/
def regRows0 : List RegRow := [
  ⟨"DEVICE_ID", 0x00000000, [],
    [⟨31, 16, .ro, 3685⟩, ⟨15, 8, .ro, 16⟩, ⟨7, 4, .ro, 1⟩, ⟨3, 0, .rsv, 0⟩]⟩,
  ⟨"DEVICE_CAPS", 0x00000004, [],
    [⟨31, 24, .rsv, 0⟩, ⟨23, 16, .ro, 32⟩, ⟨15, 8, .ro, 16⟩, ⟨7, 0, .ro, 64⟩]⟩,
  ⟨"DEVICE_STATE", 0x00000008, [],
    [⟨31, 7, .rsv, 0⟩, ⟨6, 4, .ro, 0⟩, ⟨3, 3, .ro, 0⟩, ⟨2, 2, .ro, 0⟩, ⟨1, 0, .ro, 0⟩]⟩,
  ⟨"GAL_FTABLE", 0x01001000, [(0x10000, 64), (0x400, 16), (0x4, 256)],
    [⟨31, 0, .rw, 0⟩]⟩,
  ⟨"GAL_MODE", 0x01000000, [(0x10000, 64)],
    [⟨31, 7, .rsv, 0⟩, ⟨6, 4, .ro, 0⟩, ⟨3, 2, .rsv, 0⟩, ⟨1, 1, .ro, 0⟩, ⟨0, 0, .ro, 0⟩]⟩,
  ⟨"GAL_ERR_STATUS", 0x01000010, [(0x10000, 64)],
    [⟨31, 12, .rsv, 0⟩, ⟨11, 11, .w1c, 0⟩, ⟨10, 10, .w1c, 0⟩, ⟨9, 9, .w1c, 0⟩, ⟨8, 8, .w1c, 0⟩, ⟨7, 7, .w1c, 0⟩, ⟨6, 6, .w1c, 0⟩, ⟨5, 5, .w1c, 0⟩, ⟨4, 4, .w1c, 0⟩, ⟨3, 3, .w1c, 0⟩, ⟨2, 2, .w1c, 0⟩, ⟨1, 1, .w1c, 0⟩, ⟨0, 0, .w1c, 0⟩]⟩,
  ⟨"GAL_ERR_ACTION", 0x01000014, [(0x10000, 64)],
    [⟨31, 11, .rsv, 0⟩, ⟨10, 6, .rw, 11⟩, ⟨5, 5, .rsv, 0⟩, ⟨4, 0, .rw, 0⟩]⟩,
  ⟨"GAL_ERR_LOC0", 0x01000018, [(0x10000, 64)],
    [⟨31, 28, .rsv, 0⟩, ⟨27, 24, .ro, 0⟩, ⟨23, 23, .w1c, 0⟩, ⟨22, 20, .ro, 0⟩, ⟨19, 10, .ro, 0⟩, ⟨9, 4, .ro, 0⟩, ⟨3, 0, .ro, 0⟩]⟩,
  ⟨"GAL_ERR_LOC1", 0x0100001C, [(0x10000, 64)],
    [⟨31, 0, .ro, 0⟩]⟩,
  ⟨"GAL_ISTORE_CE_COUNT", 0x01000020, [(0x10000, 64)],
    [⟨31, 0, .ro, 0⟩]⟩,
  ⟨"GAL_COUNT_CTL", 0x01000024, [(0x10000, 64)],
    [⟨31, 2, .rsv, 0⟩, ⟨1, 1, .wo, 0⟩, ⟨0, 0, .wo, 0⟩]⟩,
  ⟨"GAL_ASSERT_STATUS", 0x01000030, [(0x10000, 64)],
    [⟨31, 16, .ro, 0⟩, ⟨15, 7, .rsv, 0⟩, ⟨6, 0, .ro, 0⟩]⟩,
  ⟨"GAL_ASSERT_POP", 0x01000034, [(0x10000, 64)],
    [⟨31, 1, .rsv, 0⟩, ⟨0, 0, .wo, 0⟩]⟩,
  ⟨"GAL_ASSERT_REC_LO", 0x01000038, [(0x10000, 64)],
    [⟨31, 31, .ro, 0⟩, ⟨30, 27, .rsv, 0⟩, ⟨26, 24, .ro, 0⟩, ⟨23, 23, .ro, 0⟩, ⟨22, 20, .ro, 0⟩, ⟨19, 10, .ro, 0⟩, ⟨9, 4, .ro, 0⟩, ⟨3, 0, .ro, 0⟩]⟩,
  ⟨"GAL_ASSERT_REC_HI", 0x0100003C, [(0x10000, 64)],
    [⟨31, 0, .ro, 0⟩]⟩,
  ⟨"LAT_HDR", 0x00000100, [],
    [⟨31, 16, .rsv, 0⟩, ⟨15, 8, .ro, 1⟩, ⟨7, 0, .ro, 1⟩]⟩,
  ⟨"LAT_FABRIC0", 0x00000104, [],
    [⟨31, 24, .ro, 6⟩, ⟨23, 16, .ro, 4⟩, ⟨15, 8, .ro, 4⟩, ⟨7, 0, .ro, 2⟩]⟩,
  ⟨"LAT_FABRIC1", 0x00000108, [],
    [⟨31, 24, .ro, 8⟩, ⟨23, 16, .ro, 6⟩, ⟨15, 8, .ro, 20⟩, ⟨7, 0, .ro, 1⟩]⟩,
  ⟨"LAT_IO", 0x0000010C, [],
    [⟨31, 24, .rsv, 0⟩, ⟨23, 16, .ro, 3⟩, ⟨15, 8, .ro, 14⟩, ⟨7, 0, .ro, 12⟩]⟩,
  ⟨"LAT_DEEP", 0x00000110, [],
    [⟨31, 16, .rsv, 0⟩, ⟨15, 0, .ro, 240⟩]⟩]
def regRows1 : List RegRow := [
  ⟨"LAT_PORT", 0x00000180, [(0x4, 16)],
    [⟨31, 31, .ro, 0⟩, ⟨30, 12, .rsv, 0⟩, ⟨11, 0, .ro, 0⟩]⟩,
  ⟨"GAL_SLIP_COUNT", 0x01000040, [(0x10000, 64)],
    [⟨31, 0, .ro, 0⟩]⟩,
  ⟨"GAL_SLIP_LAST", 0x01000044, [(0x10000, 64)],
    [⟨31, 31, .ro, 0⟩, ⟨30, 28, .ro, 0⟩, ⟨27, 25, .ro, 0⟩, ⟨24, 15, .ro, 0⟩, ⟨14, 9, .ro, 0⟩, ⟨8, 5, .ro, 0⟩, ⟨4, 0, .ro, 0⟩]⟩,
  ⟨"GAL_SCHED_ERR", 0x01000048, [(0x10000, 64)],
    [⟨31, 6, .rsv, 0⟩, ⟨5, 5, .w1c, 0⟩, ⟨4, 4, .w1c, 0⟩, ⟨3, 3, .w1c, 0⟩, ⟨2, 2, .w1c, 0⟩, ⟨1, 1, .w1c, 0⟩, ⟨0, 0, .w1c, 0⟩]⟩,
  ⟨"GAL_SCHED_ACTION", 0x0100004C, [(0x10000, 64)],
    [⟨31, 6, .rsv, 0⟩, ⟨5, 5, .ro, 1⟩, ⟨4, 3, .rw, 3⟩, ⟨2, 2, .ro, 1⟩, ⟨1, 0, .rw, 3⟩]⟩,
  ⟨"GAL_SCHED_LOC0", 0x01000050, [(0x10000, 64)],
    [⟨31, 28, .rsv, 0⟩, ⟨27, 24, .ro, 0⟩, ⟨23, 23, .w1c, 0⟩, ⟨22, 20, .ro, 0⟩, ⟨19, 10, .ro, 0⟩, ⟨9, 4, .ro, 0⟩, ⟨3, 0, .ro, 0⟩]⟩,
  ⟨"GAL_SCHED_LOC1", 0x01000054, [(0x10000, 64)],
    [⟨31, 0, .ro, 0⟩]⟩,
  ⟨"GAL_SCHED_LOC2", 0x01000058, [(0x10000, 64)],
    [⟨31, 13, .rsv, 0⟩, ⟨12, 10, .ro, 0⟩, ⟨9, 0, .ro, 0⟩]⟩,
  ⟨"GAL_RX_DISCARD", 0x0100005C, [(0x10000, 64)],
    [⟨31, 0, .ro, 0⟩]⟩,
  ⟨"GAL_SCHED_COUNT_CTL", 0x01000060, [(0x10000, 64)],
    [⟨31, 3, .rsv, 0⟩, ⟨2, 2, .wo, 0⟩, ⟨1, 1, .wo, 0⟩, ⟨0, 0, .wo, 0⟩]⟩,
  ⟨"SCHED_TICK_CFG", 0x00000200, [],
    [⟨31, 6, .rsv, 0⟩, ⟨5, 4, .ro, 0⟩, ⟨3, 3, .rsv, 0⟩, ⟨2, 2, .ro, 0⟩, ⟨1, 1, .ro, 0⟩, ⟨0, 0, .ro, 0⟩]⟩,
  ⟨"SCHED_PERIOD_NS", 0x00000204, [],
    [⟨31, 0, .ro, 0⟩]⟩,
  ⟨"SCHED_PERIOD_FRAC", 0x00000208, [],
    [⟨31, 16, .rsv, 0⟩, ⟨15, 0, .ro, 0⟩]⟩,
  ⟨"SCHED_HOLD_LIMIT", 0x0000020C, [],
    [⟨31, 0, .rw, 65536⟩]⟩,
  ⟨"SCHED_HOLD_COUNT", 0x00000210, [],
    [⟨31, 0, .ro, 0⟩]⟩,
  ⟨"SCHED_SYNC_COUNT", 0x00000214, [],
    [⟨31, 0, .ro, 0⟩]⟩,
  ⟨"SCHED_OVERRUN_COUNT", 0x00000218, [],
    [⟨31, 0, .ro, 0⟩]⟩,
  ⟨"SCHED_PEER_STRETCH_COUNT", 0x0000021C, [],
    [⟨31, 0, .ro, 0⟩]⟩,
  ⟨"SCHED_SKIP_COUNT", 0x00000220, [],
    [⟨31, 0, .ro, 0⟩]⟩,
  ⟨"SCHED_STATUS", 0x00000224, [],
    [⟨31, 4, .rsv, 0⟩, ⟨3, 3, .ro, 0⟩, ⟨2, 2, .w1c, 0⟩, ⟨1, 1, .w1c, 0⟩, ⟨0, 0, .w1c, 0⟩]⟩]
def regRows2 : List RegRow := [
  ⟨"SCHED_BARRIER_RELEASE", 0x00000228, [],
    [⟨31, 16, .rsv, 0⟩, ⟨15, 0, .w1s, 0⟩]⟩,
  ⟨"SCHED_COUNT_CTL", 0x0000022C, [],
    [⟨31, 3, .rsv, 0⟩, ⟨2, 2, .wo, 0⟩, ⟨1, 1, .wo, 0⟩, ⟨0, 0, .wo, 0⟩]⟩,
  ⟨"SCHED_CTX_LEN", 0x00000240, [(0x4, 8)],
    [⟨31, 11, .rsv, 0⟩, ⟨10, 0, .ro, 0⟩]⟩,
  ⟨"IMG_LAT", 0x00000120, [],
    [⟨31, 9, .rsv, 0⟩, ⟨8, 8, .ro, 0⟩, ⟨7, 4, .rsv, 0⟩, ⟨3, 0, .ro, 0⟩]⟩,
  ⟨"IMG_SLIP_EST", 0x00000140, [(0x4, 8)],
    [⟨31, 16, .rsv, 0⟩, ⟨15, 0, .ro, 0⟩]⟩,
  ⟨"GAL_DM_CFG", 0x01000080, [(0x10000, 64)],
    [⟨31, 11, .rsv, 0⟩, ⟨10, 10, .rw, 0⟩, ⟨9, 9, .rw, 1⟩, ⟨8, 8, .rw, 1⟩, ⟨7, 0, .rw, 64⟩]⟩,
  ⟨"GAL_DM_STATUS", 0x01000084, [(0x10000, 64)],
    [⟨31, 7, .rsv, 0⟩, ⟨6, 6, .w1c, 0⟩, ⟨5, 5, .w1c, 0⟩, ⟨4, 4, .w1c, 0⟩, ⟨3, 3, .w1c, 0⟩, ⟨2, 2, .w1c, 0⟩, ⟨1, 1, .w1c, 0⟩, ⟨0, 0, .w1c, 0⟩]⟩,
  ⟨"GAL_DM_LOC", 0x01000088, [(0x10000, 64)],
    [⟨31, 31, .w1c, 0⟩, ⟨30, 28, .ro, 0⟩, ⟨27, 24, .ro, 0⟩, ⟨23, 17, .rsv, 0⟩, ⟨16, 13, .ro, 0⟩, ⟨12, 0, .ro, 0⟩]⟩,
  ⟨"GAL_DM_CE_COUNT", 0x0100008C, [(0x10000, 64)],
    [⟨31, 0, .ro, 0⟩]⟩,
  ⟨"GAL_DM_LOC_STEP", 0x01000094, [(0x10000, 64)],
    [⟨31, 31, .ro, 0⟩, ⟨30, 19, .rsv, 0⟩, ⟨18, 16, .ro, 0⟩, ⟨15, 6, .ro, 0⟩, ⟨5, 0, .ro, 0⟩]⟩,
  ⟨"GAL_DM_LOC_TICK", 0x01000098, [(0x10000, 64)],
    [⟨31, 0, .ro, 0⟩]⟩,
  ⟨"GAL_MARCH_CTL", 0x010000A0, [(0x10000, 64)],
    [⟨31, 13, .rsv, 0⟩, ⟨12, 12, .wo, 0⟩, ⟨11, 11, .w1c, 0⟩, ⟨10, 10, .w1c, 0⟩, ⟨9, 9, .ro, 0⟩, ⟨8, 8, .rw, 1⟩, ⟨7, 5, .rsv, 0⟩, ⟨4, 1, .rw, 15⟩, ⟨0, 0, .wo, 0⟩]⟩,
  ⟨"GAL_MARCH_RESULT", 0x010000A4, [(0x10000, 64)],
    [⟨31, 31, .ro, 0⟩, ⟨30, 28, .ro, 0⟩, ⟨27, 24, .ro, 0⟩, ⟨23, 18, .ro, 0⟩, ⟨17, 7, .ro, 0⟩, ⟨6, 0, .ro, 0⟩]⟩,
  ⟨"GAL_MARCH_WORD", 0x010000A8, [(0x10000, 64)],
    [⟨31, 13, .rsv, 0⟩, ⟨12, 0, .ro, 0⟩]⟩,
  ⟨"GAL_DM_REPAIR", 0x01000100, [(0x10000, 64), (0x4, 16)],
    [⟨31, 18, .rsv, 0⟩, ⟨17, 17, .ro, 0⟩, ⟨16, 16, .ro, 0⟩, ⟨15, 9, .ro, 0⟩, ⟨8, 8, .ro, 0⟩, ⟨7, 7, .ro, 0⟩, ⟨6, 0, .ro, 0⟩]⟩,
  ⟨"DS_REGION", 0x00002000, [(0x8, 16)],
    [⟨31, 31, .ro, 0⟩, ⟨30, 28, .ro, 0⟩, ⟨27, 11, .rsv, 0⟩, ⟨10, 0, .ro, 0⟩]⟩,
  ⟨"DS_REGION_SIZE", 0x00002004, [(0x8, 16)],
    [⟨31, 12, .rsv, 0⟩, ⟨11, 0, .ro, 0⟩]⟩,
  ⟨"GAL_DS_GRANT", 0x01000090, [(0x10000, 64)],
    [⟨31, 12, .rsv, 0⟩, ⟨11, 1, .ro, 0⟩, ⟨0, 0, .rsv, 0⟩]⟩,
  ⟨"DS_CH_ERR", 0x00002100, [(0x4, 32)],
    [⟨31, 20, .ro, 0⟩, ⟨19, 8, .ro, 0⟩, ⟨7, 0, .ro, 0⟩]⟩,
  ⟨"DS_ERR_CTL", 0x00002180, [],
    [⟨31, 1, .rsv, 0⟩, ⟨0, 0, .wo, 0⟩]⟩]
def regRows3 : List RegRow := [
  ⟨"PSG_CTL", 0x00080000, [(0x1000, 16)],
    [⟨31, 8, .rsv, 0⟩, ⟨7, 6, .rw, 0⟩, ⟨5, 5, .rw, 0⟩, ⟨4, 3, .rsv, 0⟩, ⟨2, 2, .wo, 0⟩, ⟨1, 1, .wo, 0⟩, ⟨0, 0, .rw, 0⟩]⟩,
  ⟨"PSG_STATUS", 0x00080004, [(0x1000, 16)],
    [⟨31, 16, .rsv, 0⟩, ⟨15, 12, .ro, 0⟩, ⟨11, 10, .ro, 0⟩, ⟨9, 9, .ro, 0⟩, ⟨8, 8, .ro, 0⟩, ⟨7, 4, .ro, 0⟩, ⟨3, 0, .ro, 0⟩]⟩,
  ⟨"PSG_PEER", 0x00080008, [(0x1000, 16)],
    [⟨31, 31, .ro, 0⟩, ⟨30, 25, .rsv, 0⟩, ⟨24, 16, .ro, 0⟩, ⟨15, 12, .ro, 0⟩, ⟨11, 11, .rsv, 0⟩, ⟨10, 9, .ro, 0⟩, ⟨8, 8, .ro, 0⟩, ⟨7, 0, .ro, 0⟩]⟩,
  ⟨"PSG_RTT", 0x0008000C, [(0x1000, 16)],
    [⟨31, 0, .ro, 0⟩]⟩,
  ⟨"PSG_HELD", 0x00080010, [(0x1000, 16)],
    [⟨31, 31, .ro, 0⟩, ⟨30, 28, .rsv, 0⟩, ⟨27, 16, .ro, 0⟩, ⟨15, 12, .rsv, 0⟩, ⟨11, 0, .ro, 0⟩]⟩,
  ⟨"PSG_FEC_CE", 0x00080014, [(0x1000, 16)],
    [⟨31, 0, .ro, 0⟩]⟩,
  ⟨"PSG_FEC_UE", 0x00080018, [(0x1000, 16)],
    [⟨31, 0, .ro, 0⟩]⟩,
  ⟨"PSG_RETRY_COUNT", 0x0008001C, [(0x1000, 16)],
    [⟨31, 16, .ro, 0⟩, ⟨15, 0, .ro, 0⟩]⟩,
  ⟨"PSG_ERR", 0x00080020, [(0x1000, 16)],
    [⟨31, 11, .rsv, 0⟩, ⟨10, 10, .w1c, 0⟩, ⟨9, 9, .w1c, 0⟩, ⟨8, 8, .w1c, 0⟩, ⟨7, 7, .w1c, 0⟩, ⟨6, 6, .w1c, 0⟩, ⟨5, 5, .w1c, 0⟩, ⟨4, 4, .w1c, 0⟩, ⟨3, 3, .w1c, 0⟩, ⟨2, 2, .w1c, 0⟩, ⟨1, 1, .w1c, 0⟩, ⟨0, 0, .w1c, 0⟩]⟩,
  ⟨"PSG_ERR_LOC", 0x00080024, [(0x1000, 16)],
    [⟨31, 31, .w1c, 0⟩, ⟨30, 27, .ro, 0⟩, ⟨26, 21, .ro, 0⟩, ⟨20, 16, .rsv, 0⟩, ⟨15, 0, .ro, 0⟩]⟩,
  ⟨"PSG_FRAME", 0x00080028, [(0x1000, 16)],
    [⟨31, 16, .rsv, 0⟩, ⟨15, 8, .ro, 0⟩, ⟨7, 0, .ro, 0⟩]⟩,
  ⟨"PSG_TUNNEL_DROP", 0x0008002C, [(0x1000, 16)],
    [⟨31, 0, .ro, 0⟩]⟩,
  ⟨"PSG_COUNT_CTL", 0x00080030, [(0x1000, 16)],
    [⟨31, 3, .rsv, 0⟩, ⟨2, 2, .wo, 0⟩, ⟨1, 1, .wo, 0⟩, ⟨0, 0, .wo, 0⟩]⟩,
  ⟨"LTC_ID", 0x00000400, [],
    [⟨31, 31, .ro, 0⟩, ⟨30, 9, .rsv, 0⟩, ⟨8, 0, .ro, 0⟩]⟩,
  ⟨"LTC_CFG", 0x00000404, [],
    [⟨31, 16, .ro, 0⟩, ⟨15, 1, .rsv, 0⟩, ⟨0, 0, .ro, 0⟩]⟩,
  ⟨"LTC_LINK_TIMEOUT", 0x00000408, [],
    [⟨31, 0, .rw, 65536⟩]⟩,
  ⟨"LTC_BARRIER_TIMEOUT", 0x0000040C, [],
    [⟨31, 0, .rw, 1048576⟩]⟩,
  ⟨"LTC_STATUS", 0x00000410, [],
    [⟨31, 5, .rsv, 0⟩, ⟨4, 4, .w1c, 0⟩, ⟨3, 3, .w1c, 0⟩, ⟨2, 2, .w1c, 0⟩, ⟨1, 1, .w1c, 0⟩, ⟨0, 0, .w1c, 0⟩]⟩,
  ⟨"LTC_MARK_TICK", 0x00000414, [],
    [⟨31, 0, .ro, 0⟩]⟩,
  ⟨"LTC_ROUTE", 0x00000800, [(0x4, 128)],
    [⟨31, 31, .ro, 0⟩, ⟨23, 23, .ro, 0⟩, ⟨15, 15, .ro, 0⟩, ⟨7, 7, .ro, 0⟩, ⟨30, 28, .rsv, 0⟩, ⟨22, 20, .rsv, 0⟩, ⟨14, 12, .rsv, 0⟩, ⟨6, 4, .rsv, 0⟩, ⟨27, 24, .ro, 0⟩, ⟨19, 16, .ro, 0⟩, ⟨11, 8, .ro, 0⟩, ⟨3, 0, .ro, 0⟩]⟩]
def regRows4 : List RegRow := [
  ⟨"ECHO_CTL", 0x00003000, [],
    [⟨31, 31, .ro, 0⟩, ⟨30, 30, .ro, 0⟩, ⟨29, 29, .ro, 0⟩, ⟨28, 27, .rsv, 0⟩, ⟨26, 24, .ro, 0⟩, ⟨23, 20, .ro, 0⟩, ⟨19, 16, .ro, 0⟩, ⟨15, 8, .ro, 0⟩, ⟨7, 0, .ro, 0⟩]⟩,
  ⟨"ECHO_STATUS", 0x00003004, [],
    [⟨31, 6, .rsv, 0⟩, ⟨5, 5, .w1c, 0⟩, ⟨4, 4, .w1c, 0⟩, ⟨3, 3, .w1c, 0⟩, ⟨2, 2, .ro, 0⟩, ⟨1, 1, .w1c, 0⟩, ⟨0, 0, .ro, 0⟩]⟩,
  ⟨"ECHO_WR_PTR", 0x00003008, [],
    [⟨31, 29, .rsv, 0⟩, ⟨28, 0, .ro, 0⟩]⟩,
  ⟨"ECHO_RD_PTR", 0x0000300C, [],
    [⟨31, 29, .rsv, 0⟩, ⟨28, 0, .rw, 0⟩]⟩,
  ⟨"ECHO_OLDEST", 0x00003010, [],
    [⟨31, 29, .rsv, 0⟩, ⟨28, 0, .ro, 0⟩]⟩,
  ⟨"ECHO_REC_MAX", 0x00003014, [],
    [⟨31, 13, .rsv, 0⟩, ⟨12, 0, .ro, 0⟩]⟩,
  ⟨"ECHO_PRE", 0x00003018, [],
    [⟨31, 0, .ro, 0⟩]⟩,
  ⟨"ECHO_POST", 0x0000301C, [],
    [⟨31, 0, .ro, 0⟩]⟩,
  ⟨"ECHO_TRIG_TICK_LO", 0x00003020, [],
    [⟨31, 0, .ro, 0⟩]⟩,
  ⟨"ECHO_TRIG_TICK_HI", 0x00003024, [],
    [⟨31, 0, .ro, 0⟩]⟩,
  ⟨"ECHO_LOST_COUNT", 0x00003028, [],
    [⟨31, 0, .ro, 0⟩]⟩,
  ⟨"ECHO_STRETCH_COUNT", 0x0000302C, [],
    [⟨31, 0, .ro, 0⟩]⟩,
  ⟨"ECHO_STAGE", 0x00003040, [(0x4, 4)],
    [⟨31, 16, .ro, 0⟩, ⟨15, 5, .rsv, 0⟩, ⟨4, 4, .ro, 0⟩, ⟨3, 3, .ro, 0⟩, ⟨2, 0, .ro, 0⟩]⟩,
  ⟨"SNAP_STATUS", 0x00003060, [],
    [⟨31, 24, .ro, 0⟩, ⟨23, 20, .ro, 0⟩, ⟨19, 3, .rsv, 0⟩, ⟨2, 2, .ro, 0⟩, ⟨1, 1, .ro, 0⟩, ⟨0, 0, .ro, 0⟩]⟩,
  ⟨"SNAP_TICK_LO", 0x00003064, [],
    [⟨31, 0, .ro, 0⟩]⟩,
  ⟨"SNAP_TICK_HI", 0x00003068, [],
    [⟨31, 0, .ro, 0⟩]⟩,
  ⟨"ECHO_COUNT_CTL", 0x00003070, [],
    [⟨31, 2, .rsv, 0⟩, ⟨1, 1, .wo, 0⟩, ⟨0, 0, .wo, 0⟩]⟩,
  ⟨"GAL_TRIG_LEAF_LO", 0x01000200, [(0x10000, 64)],
    [⟨31, 0, .ro, 0⟩]⟩,
  ⟨"GAL_TRIG_LEAF_HI", 0x01000204, [(0x10000, 64)],
    [⟨31, 0, .ro, 0⟩]⟩,
  ⟨"GAL_TRIG_TERM_LO", 0x01000210, [(0x10000, 64), (0x8, 4)],
    [⟨31, 0, .ro, 0⟩]⟩]
def regRows5 : List RegRow := [
  ⟨"GAL_TRIG_TERM_HI", 0x01000214, [(0x10000, 64), (0x8, 4)],
    [⟨31, 0, .ro, 0⟩]⟩,
  ⟨"GAL_TRIG_CTL", 0x01000230, [(0x10000, 64)],
    [⟨31, 12, .rsv, 0⟩, ⟨11, 8, .ro, 0⟩, ⟨7, 4, .ro, 0⟩, ⟨3, 0, .ro, 0⟩]⟩,
  ⟨"GAL_ECHO_STATUS", 0x01000234, [(0x10000, 64)],
    [⟨31, 16, .ro, 0⟩, ⟨15, 7, .rsv, 0⟩, ⟨6, 0, .ro, 0⟩]⟩,
  ⟨"GAL_FORCE_STATUS", 0x01000238, [(0x10000, 64)],
    [⟨31, 13, .rsv, 0⟩, ⟨12, 0, .ro, 0⟩]⟩,
  ⟨"RIM_CTL", 0x00100000, [],
    [⟨31, 2, .rsv, 0⟩, ⟨1, 1, .rw, 0⟩, ⟨0, 0, .rw, 0⟩]⟩,
  ⟨"RIM_STATUS", 0x00100004, [],
    [⟨31, 10, .rsv, 0⟩, ⟨9, 9, .w1c, 0⟩, ⟨8, 8, .ro, 0⟩, ⟨7, 0, .ro, 0⟩]⟩,
  ⟨"RIM_BANK", 0x00100010, [(0x4, 8)],
    [⟨31, 8, .rsv, 0⟩, ⟨7, 7, .ro, 0⟩, ⟨6, 6, .ro, 0⟩, ⟨5, 4, .ro, 0⟩, ⟨3, 2, .ro, 0⟩, ⟨1, 0, .rsv, 0⟩]⟩,
  ⟨"RIM_BANK_VIO", 0x00100030, [(0x4, 8)],
    [⟨31, 3, .rsv, 0⟩, ⟨2, 0, .ro, 0⟩]⟩,
  ⟨"RIM_PW_CFG", 0x00100050, [],
    [⟨31, 30, .ro, 0⟩, ⟨29, 29, .ro, 0⟩, ⟨28, 28, .ro, 0⟩, ⟨27, 20, .ro, 0⟩, ⟨19, 0, .ro, 0⟩]⟩,
  ⟨"RIM_PW_CTXSEL", 0x00100054, [],
    [⟨31, 29, .rsv, 0⟩, ⟨28, 28, .ro, 0⟩, ⟨27, 26, .rsv, 0⟩, ⟨25, 13, .ro, 0⟩, ⟨12, 0, .ro, 0⟩]⟩,
  ⟨"RIM_PW_STATUS", 0x00100058, [],
    [⟨31, 3, .rsv, 0⟩, ⟨2, 2, .w1c, 0⟩, ⟨1, 1, .w1c, 0⟩, ⟨0, 0, .ro, 0⟩]⟩,
  ⟨"RIM_PW_COUNT", 0x0010005C, [],
    [⟨31, 24, .ro, 0⟩, ⟨23, 16, .ro, 0⟩, ⟨15, 8, .ro, 0⟩, ⟨7, 0, .ro, 0⟩]⟩,
  ⟨"RIM_OSC", 0x00100060, [(0x4, 4)],
    [⟨31, 31, .ro, 0⟩, ⟨30, 30, .ro, 0⟩, ⟨29, 29, .ro, 0⟩, ⟨28, 20, .rsv, 0⟩, ⟨19, 0, .ro, 0⟩]⟩,
  ⟨"RIM_CLK", 0x00100070, [(0x4, 4)],
    [⟨31, 31, .ro, 0⟩, ⟨30, 29, .ro, 0⟩, ⟨28, 11, .rsv, 0⟩, ⟨10, 0, .ro, 0⟩]⟩,
  ⟨"RIM_RST", 0x00100080, [(0x4, 2)],
    [⟨31, 31, .ro, 0⟩, ⟨30, 30, .ro, 0⟩, ⟨29, 29, .ro, 0⟩, ⟨28, 28, .ro, 0⟩, ⟨27, 27, .ro, 0⟩, ⟨26, 19, .ro, 0⟩, ⟨18, 11, .rsv, 0⟩, ⟨10, 0, .ro, 0⟩]⟩,
  ⟨"RIM_SCRUB_CTL", 0x00100100, [],
    [⟨31, 11, .rsv, 0⟩, ⟨10, 10, .rw, 1⟩, ⟨9, 0, .rw, 10⟩]⟩,
  ⟨"RIM_SCRUB_STATUS", 0x00100104, [],
    [⟨31, 16, .ro, 0⟩, ⟨15, 12, .ro, 0⟩, ⟨11, 6, .ro, 0⟩, ⟨5, 0, .ro, 0⟩]⟩,
  ⟨"RIM_SCRUB_LOC", 0x00100108, [],
    [⟨31, 31, .w1c, 0⟩, ⟨30, 11, .rsv, 0⟩, ⟨10, 0, .ro, 0⟩]⟩,
  ⟨"RIM_WIRE_STATUS", 0x00100120, [],
    [⟨31, 31, .ro, 0⟩, ⟨30, 30, .w1c, 0⟩, ⟨29, 29, .w1c, 0⟩, ⟨28, 9, .rsv, 0⟩, ⟨8, 6, .ro, 0⟩, ⟨5, 0, .ro, 0⟩]⟩,
  ⟨"SP_CTL", 0x00100200, [(0x10, 4)],
    [⟨31, 31, .rw, 0⟩, ⟨30, 30, .rw, 0⟩, ⟨29, 28, .rw, 0⟩, ⟨27, 27, .rw, 0⟩, ⟨26, 16, .rsv, 0⟩, ⟨15, 0, .rw, 0⟩]⟩]
def regRows6 : List RegRow := [
  ⟨"SP_STATUS", 0x00100204, [(0x10, 4)],
    [⟨31, 18, .rsv, 0⟩, ⟨17, 17, .w1c, 0⟩, ⟨16, 16, .w1c, 0⟩, ⟨15, 8, .ro, 0⟩, ⟨7, 0, .ro, 0⟩]⟩,
  ⟨"SP_DATA", 0x00100208, [(0x10, 4)],
    [⟨31, 8, .rsv, 0⟩, ⟨7, 0, .rw, 0⟩]⟩,
  ⟨"UFL_CTL", 0x00100300, [],
    [⟨31, 3, .rsv, 0⟩, ⟨2, 2, .ro, 0⟩, ⟨1, 1, .wo, 0⟩, ⟨0, 0, .wo, 0⟩]⟩,
  ⟨"UFL_ADDR", 0x00100304, [],
    [⟨31, 19, .rsv, 0⟩, ⟨18, 2, .rw, 0⟩, ⟨1, 0, .rsv, 0⟩]⟩,
  ⟨"UFL_DATA", 0x00100308, [],
    [⟨31, 0, .rw, 0⟩]⟩,
  ⟨"RIM_PIN", 0x00101000, [(0x4, 192)],
    [⟨31, 29, .ro, 0⟩, ⟨28, 27, .ro, 0⟩, ⟨26, 25, .ro, 0⟩, ⟨24, 23, .ro, 0⟩, ⟨22, 21, .ro, 0⟩, ⟨20, 20, .ro, 0⟩, ⟨19, 16, .rsv, 0⟩, ⟨15, 0, .ro, 0⟩]⟩,
  ⟨"RIM_PORT_IN", 0x00102000, [(0x4, 192)],
    [⟨31, 13, .rsv, 0⟩, ⟨12, 0, .ro, 5249⟩]⟩,
  ⟨"BLK_IN", 0x00104000, [(0x800, 96), (0x4, 40)],
    [⟨31, 13, .rsv, 0⟩, ⟨12, 0, .ro, 5249⟩]⟩,
  ⟨"BLK_MC", 0x001040C0, [(0x800, 96), (0x4, 16)],
    [⟨31, 30, .ro, 0⟩, ⟨29, 29, .ro, 0⟩, ⟨28, 27, .ro, 0⟩, ⟨26, 26, .ro, 0⟩, ⟨25, 24, .ro, 0⟩, ⟨23, 23, .ro, 0⟩, ⟨22, 22, .ro, 0⟩, ⟨21, 16, .ro, 0⟩, ⟨15, 0, .rsv, 0⟩]⟩,
  ⟨"BLK_PT_W0", 0x00104400, [(0x800, 96), (0x10, 64)],
    [⟨31, 0, .ro, 0⟩]⟩,
  ⟨"BLK_PT_W1", 0x00104404, [(0x800, 96), (0x10, 64)],
    [⟨7, 0, .ro, 0⟩, ⟨31, 8, .ro, 0⟩]⟩,
  ⟨"BLK_PT_W2", 0x00104408, [(0x800, 96), (0x10, 64)],
    [⟨15, 0, .ro, 0⟩, ⟨19, 16, .ro, 0⟩, ⟨21, 20, .ro, 0⟩, ⟨22, 22, .ro, 0⟩, ⟨31, 23, .rsv, 0⟩]⟩,
  ⟨"BLK_PT_W3", 0x0010440C, [(0x800, 96), (0x10, 64)],
    [⟨31, 0, .rsv, 0⟩]⟩,
  ⟨"IMG_STATUS", 0x00001000, [],
    [⟨31, 8, .rsv, 0⟩, ⟨7, 7, .ro, 0⟩, ⟨6, 6, .ro, 0⟩, ⟨5, 5, .ro, 0⟩, ⟨4, 4, .ro, 0⟩, ⟨3, 0, .ro, 0⟩]⟩,
  ⟨"IMG_REASON", 0x00001004, [],
    [⟨31, 25, .rsv, 0⟩, ⟨24, 16, .ro, 0⟩, ⟨15, 8, .ro, 0⟩, ⟨7, 0, .ro, 0⟩]⟩,
  ⟨"IMG_LOC", 0x00001008, [],
    [⟨31, 31, .ro, 0⟩, ⟨30, 25, .ro, 0⟩, ⟨24, 21, .ro, 0⟩, ⟨20, 15, .ro, 0⟩, ⟨14, 12, .ro, 0⟩, ⟨11, 10, .rsv, 0⟩, ⟨9, 0, .ro, 0⟩]⟩,
  ⟨"IMG_SECTION", 0x0000100C, [],
    [⟨31, 12, .rsv, 0⟩, ⟨11, 0, .ro, 0⟩]⟩,
  ⟨"IMG_PROGRESS_LO", 0x00001010, [],
    [⟨31, 0, .ro, 0⟩]⟩,
  ⟨"IMG_PROGRESS_HI", 0x00001014, [],
    [⟨31, 0, .ro, 0⟩]⟩,
  ⟨"IMG_CHAIN", 0x00001018, [],
    [⟨31, 29, .rsv, 0⟩, ⟨28, 28, .ro, 0⟩, ⟨27, 27, .ro, 0⟩, ⟨26, 26, .ro, 0⟩, ⟨25, 22, .ro, 0⟩, ⟨21, 18, .ro, 0⟩, ⟨17, 9, .ro, 0⟩, ⟨8, 0, .ro, 0⟩]⟩]
def regRows7 : List RegRow := [
  ⟨"IMG_DIGEST", 0x00001020, [(0x4, 8)],
    [⟨31, 0, .ro, 0⟩]⟩,
  ⟨"IMG_BASE", 0x00001040, [(0x4, 8)],
    [⟨31, 0, .ro, 0⟩]⟩,
  ⟨"IMG_COMMIT_TICK_LO", 0x00001060, [],
    [⟨31, 0, .ro, 0⟩]⟩,
  ⟨"IMG_COMMIT_TICK_HI", 0x00001064, [],
    [⟨31, 0, .ro, 0⟩]⟩,
  ⟨"KEY_STATUS", 0x00001080, [],
    [⟨31, 26, .rsv, 0⟩, ⟨25, 25, .ro, 0⟩, ⟨24, 17, .ro, 0⟩, ⟨16, 13, .cf, 0⟩, ⟨12, 9, .cf, 0⟩, ⟨8, 7, .cf, 0⟩, ⟨6, 0, .cf, 0⟩]⟩,
  ⟨"DEVICE_READY0", 0x00000010, [],
    [⟨31, 0, .ro, 0⟩]⟩,
  ⟨"DEVICE_READY1", 0x00000014, [],
    [⟨31, 0, .ro, 0⟩]⟩,
  ⟨"DEVICE_READY2", 0x00000018, [],
    [⟨31, 0, .ro, 0⟩]⟩,
  ⟨"DEVICE_READY3", 0x0000001C, [],
    [⟨31, 26, .rsv, 0⟩, ⟨25, 24, .ro, 0⟩, ⟨23, 23, .ro, 0⟩, ⟨22, 22, .ro, 0⟩, ⟨21, 21, .ro, 0⟩, ⟨20, 20, .ro, 0⟩, ⟨19, 16, .ro, 0⟩, ⟨15, 0, .ro, 0⟩]⟩,
  ⟨"MBX_SQ_BASE_LO", 0x00040000, [(0x40, 16)],
    [⟨31, 6, .rw, 0⟩, ⟨5, 0, .rsv, 0⟩]⟩,
  ⟨"MBX_SQ_BASE_HI", 0x00040004, [(0x40, 16)],
    [⟨31, 0, .rw, 0⟩]⟩,
  ⟨"MBX_CQ_BASE_LO", 0x00040008, [(0x40, 16)],
    [⟨31, 5, .rw, 0⟩, ⟨4, 0, .rsv, 0⟩]⟩,
  ⟨"MBX_CQ_BASE_HI", 0x0004000C, [(0x40, 16)],
    [⟨31, 0, .rw, 0⟩]⟩,
  ⟨"MBX_Q_CFG", 0x00040010, [(0x40, 16)],
    [⟨31, 31, .rw, 0⟩, ⟨30, 27, .rsv, 0⟩, ⟨26, 16, .rw, 0⟩, ⟨15, 8, .rw, 0⟩, ⟨7, 0, .rsv, 0⟩]⟩,
  ⟨"MBX_Q_STATUS", 0x00040014, [(0x40, 16)],
    [⟨31, 31, .ro, 1⟩, ⟨30, 30, .w1c, 0⟩, ⟨29, 29, .w1c, 0⟩, ⟨28, 28, .w1c, 0⟩, ⟨27, 26, .ro, 0⟩, ⟨25, 11, .rsv, 0⟩, ⟨10, 0, .ro, 0⟩]⟩,
  ⟨"MBX_SQ_TAIL", 0x00040018, [(0x40, 16)],
    [⟨31, 10, .rsv, 0⟩, ⟨9, 0, .rw, 0⟩]⟩,
  ⟨"MBX_CQ_HEAD", 0x0004001C, [(0x40, 16)],
    [⟨31, 10, .rsv, 0⟩, ⟨9, 0, .rw, 0⟩]⟩,
  ⟨"MBX_SQ_HEAD", 0x00040020, [(0x40, 16)],
    [⟨31, 10, .rsv, 0⟩, ⟨9, 0, .ro, 0⟩]⟩,
  ⟨"MBX_VERSION", 0x00040400, [],
    [⟨31, 16, .ro, 0⟩, ⟨15, 0, .ro, 3⟩]⟩,
  ⟨"NOC_CTL", 0x00070000, [],
    [⟨31, 2, .rsv, 0⟩, ⟨1, 1, .wo, 0⟩, ⟨0, 0, .rw, 0⟩]⟩]
def regRows8 : List RegRow := [
  ⟨"NOC_CREDIT", 0x00070004, [],
    [⟨31, 24, .rw, 8⟩, ⟨23, 16, .rw, 8⟩, ⟨15, 8, .rw, 8⟩, ⟨7, 0, .rw, 8⟩]⟩,
  ⟨"NOC_STATUS", 0x00070008, [],
    [⟨31, 2, .rsv, 0⟩, ⟨1, 1, .ro, 0⟩, ⟨0, 0, .ro, 0⟩]⟩,
  ⟨"NOC_BARRIER_LIMIT", 0x0007000C, [],
    [⟨31, 0, .rw, 4096⟩]⟩,
  ⟨"NOC_STALL_LIMIT", 0x00070010, [],
    [⟨31, 0, .rw, 65536⟩]⟩,
  ⟨"NOC_ERR", 0x00070014, [],
    [⟨31, 5, .rsv, 0⟩, ⟨4, 4, .w1c, 0⟩, ⟨3, 3, .w1c, 0⟩, ⟨2, 2, .w1c, 0⟩, ⟨1, 1, .w1c, 0⟩, ⟨0, 0, .w1c, 0⟩]⟩,
  ⟨"NOC_ERR_LOC", 0x00070018, [],
    [⟨31, 31, .w1c, 0⟩, ⟨30, 27, .ro, 0⟩, ⟨26, 16, .rsv, 0⟩, ⟨15, 8, .ro, 0⟩, ⟨7, 0, .ro, 0⟩]⟩,
  ⟨"NOC_NOEP_DROP", 0x0007001C, [],
    [⟨31, 0, .ro, 0⟩]⟩,
  ⟨"BAR2_BASE", 0x00070080, [],
    [⟨31, 11, .rsv, 0⟩, ⟨10, 0, .rw, 0⟩]⟩,
  ⟨"HOST_ERR", 0x00070084, [],
    [⟨31, 7, .rsv, 0⟩, ⟨6, 6, .w1c, 0⟩, ⟨5, 5, .w1c, 0⟩, ⟨4, 4, .w1c, 0⟩, ⟨3, 3, .w1c, 0⟩, ⟨2, 2, .w1c, 0⟩, ⟨1, 1, .w1c, 0⟩, ⟨0, 0, .w1c, 0⟩]⟩,
  ⟨"HOST_ERR_ADDR_LO", 0x00070088, [],
    [⟨31, 0, .ro, 0⟩]⟩,
  ⟨"HOST_ERR_ADDR_HI", 0x0007008C, [],
    [⟨31, 31, .w1c, 0⟩, ⟨30, 28, .ro, 0⟩, ⟨27, 0, .ro, 0⟩]⟩,
  ⟨"BAR4_SEL", 0x00070100, [(0x4, 16)],
    [⟨31, 31, .rw, 0⟩, ⟨30, 9, .rsv, 0⟩, ⟨8, 8, .rw, 0⟩, ⟨7, 6, .rsv, 0⟩, ⟨5, 0, .rw, 0⟩]⟩,
  ⟨"NOC_OFF_COUNT", 0x00070200, [(0x4, 64)],
    [⟨31, 16, .ro, 0⟩, ⟨15, 8, .ro, 0⟩, ⟨7, 0, .ro, 0⟩]⟩,
  ⟨"DMA_ACTIVE", 0x00020000, [],
    [⟨31, 0, .ro, 0⟩]⟩,
  ⟨"DMA_HALTED", 0x00020004, [],
    [⟨31, 0, .ro, 0⟩]⟩,
  ⟨"DMA_ENGINE", 0x00020008, [],
    [⟨31, 25, .rsv, 0⟩, ⟨24, 18, .ro, 64⟩, ⟨17, 9, .ro, 0⟩, ⟨8, 0, .ro, 0⟩]⟩,
  ⟨"DMA_CH_RING_LO", 0x00021000, [(0x40, 32)],
    [⟨31, 5, .rw, 0⟩, ⟨4, 0, .rsv, 0⟩]⟩,
  ⟨"DMA_CH_RING_HI", 0x00021004, [(0x40, 32)],
    [⟨31, 0, .rw, 0⟩]⟩,
  ⟨"DMA_CH_CFG", 0x00021008, [(0x40, 32)],
    [⟨31, 31, .rw, 0⟩, ⟨30, 21, .rsv, 0⟩, ⟨20, 16, .rw, 0⟩, ⟨15, 14, .rw, 0⟩, ⟨13, 7, .rsv, 0⟩, ⟨6, 0, .rw, 2⟩]⟩,
  ⟨"DMA_CH_CMD", 0x0002100C, [(0x40, 32)],
    [⟨31, 4, .rsv, 0⟩, ⟨3, 3, .wo, 0⟩, ⟨2, 2, .wo, 0⟩, ⟨1, 1, .wo, 0⟩, ⟨0, 0, .wo, 0⟩]⟩]
def regRows9 : List RegRow := [
  ⟨"DMA_CH_STATUS", 0x00021010, [(0x40, 32)],
    [⟨31, 29, .ro, 0⟩, ⟨28, 11, .rsv, 0⟩, ⟨10, 10, .w1c, 0⟩, ⟨9, 9, .w1c, 0⟩, ⟨8, 8, .w1c, 0⟩, ⟨7, 0, .ro, 0⟩]⟩,
  ⟨"DMA_CH_HEAD", 0x00021014, [(0x40, 32)],
    [⟨31, 16, .rsv, 0⟩, ⟨15, 0, .rw, 0⟩]⟩,
  ⟨"DMA_CH_ERR_ADDR_LO", 0x00021018, [(0x40, 32)],
    [⟨31, 0, .ro, 0⟩]⟩,
  ⟨"DMA_CH_ERR_ADDR_HI", 0x0002101C, [(0x40, 32)],
    [⟨31, 0, .ro, 0⟩]⟩,
  ⟨"DMA_CH_ERR_INFO", 0x00021020, [(0x40, 32)],
    [⟨31, 16, .ro, 0⟩, ⟨15, 8, .ro, 0⟩, ⟨7, 5, .ro, 0⟩, ⟨4, 4, .ro, 0⟩, ⟨3, 2, .ro, 0⟩, ⟨1, 1, .rsv, 0⟩, ⟨0, 0, .w1c, 0⟩]⟩,
  ⟨"DMA_CH_DONE_COUNT", 0x00021024, [(0x40, 32)],
    [⟨31, 0, .ro, 0⟩]⟩,
  ⟨"CIC_SRC", 0x00010000, [(0x4, 512)],
    [⟨31, 25, .rsv, 0⟩, ⟨24, 24, .ro, 0⟩, ⟨23, 16, .rw, 0⟩, ⟨15, 13, .rsv, 0⟩, ⟨12, 8, .rw, 0⟩, ⟨7, 4, .rsv, 0⟩, ⟨3, 0, .rw, 0⟩]⟩,
  ⟨"CIC_PENDING", 0x00010800, [(0x4, 16)],
    [⟨31, 0, .ro, 0⟩]⟩,
  ⟨"CIC_SW_SET", 0x00010880, [(0x4, 2)],
    [⟨31, 0, .w1s, 0⟩]⟩,
  ⟨"CIC_THRESHOLD", 0x00011000, [(0x100, 5)],
    [⟨31, 4, .rsv, 0⟩, ⟨3, 0, .rw, 0⟩]⟩,
  ⟨"CIC_CLAIM", 0x00011004, [(0x100, 4)],
    [⟨31, 9, .rsv, 0⟩, ⟨8, 0, .ro, 0⟩]⟩,
  ⟨"CIC_COMPLETE", 0x00011008, [(0x100, 5)],
    [⟨31, 9, .rsv, 0⟩, ⟨8, 0, .wo, 0⟩]⟩,
  ⟨"CIC_RUNNING", 0x0001100C, [(0x100, 5)],
    [⟨31, 4, .rsv, 0⟩, ⟨3, 0, .ro, 0⟩]⟩,
  ⟨"CIC_INSERVICE", 0x00011040, [(0x100, 5), (0x4, 16)],
    [⟨31, 0, .ro, 0⟩]⟩,
  ⟨"CIC_COUNTS", 0x00011800, [],
    [⟨31, 16, .ro, 0⟩, ⟨15, 0, .ro, 0⟩]⟩,
  ⟨"CIC_ORPHAN_LAST", 0x00011804, [],
    [⟨31, 31, .w1c, 0⟩, ⟨30, 12, .rsv, 0⟩, ⟨11, 9, .ro, 0⟩, ⟨8, 0, .ro, 0⟩]⟩,
  ⟨"CIC_HOST_RUN", 0x00012000, [(0x4, 256)],
    [⟨31, 4, .rsv, 0⟩, ⟨3, 0, .ro, 0⟩]⟩,
  ⟨"WIU_PENDING", 0x01000300, [(0x10000, 64)],
    [⟨31, 16, .w1s, 0⟩, ⟨15, 0, .ro, 0⟩]⟩,
  ⟨"WIU_ENABLE", 0x01000304, [(0x10000, 64)],
    [⟨31, 0, .rw, 0⟩]⟩,
  ⟨"WIU_CLASS", 0x01000308, [(0x10000, 64)],
    [⟨31, 0, .rw, 0⟩]⟩]
def regRows10 : List RegRow := [
  ⟨"WIU_PRIO", 0x01000310, [(0x10000, 64), (0x4, 4)],
    [⟨31, 28, .rw, 1⟩, ⟨27, 24, .rw, 1⟩, ⟨23, 20, .rw, 1⟩, ⟨19, 16, .rw, 1⟩, ⟨15, 12, .rw, 1⟩, ⟨11, 8, .rw, 1⟩, ⟨7, 4, .rw, 1⟩, ⟨3, 0, .rw, 1⟩]⟩,
  ⟨"WIU_STATUS", 0x01000320, [(0x10000, 64)],
    [⟨31, 31, .ro, 0⟩, ⟨30, 28, .ro, 0⟩, ⟨27, 24, .ro, 0⟩, ⟨23, 19, .ro, 0⟩, ⟨18, 0, .rsv, 0⟩]⟩,
  ⟨"WIU_COUNT", 0x01000324, [(0x10000, 64)],
    [⟨31, 16, .ro, 0⟩, ⟨15, 0, .ro, 0⟩]⟩,
  ⟨"TB_NOW_NS", 0x00030000, [],
    [⟨31, 0, .ro, 0⟩]⟩,
  ⟨"TB_NOW_EXT", 0x00030004, [],
    [⟨31, 16, .ro, 0⟩, ⟨15, 0, .ro, 0⟩]⟩,
  ⟨"TB_INCR", 0x00030008, [],
    [⟨31, 0, .rw, 2863311530⟩]⟩,
  ⟨"TB_STEP", 0x0003000C, [],
    [⟨31, 0, .wo, 0⟩]⟩,
  ⟨"TB_SLEW", 0x00030010, [],
    [⟨31, 0, .rw, 0⟩]⟩,
  ⟨"TB_CFG", 0x00030014, [],
    [⟨31, 16, .rw, 0⟩, ⟨15, 12, .rw, 0⟩, ⟨11, 8, .rw, 7⟩, ⟨7, 5, .rsv, 0⟩, ⟨4, 4, .rw, 0⟩, ⟨3, 2, .rsv, 0⟩, ⟨1, 0, .rw, 0⟩]⟩,
  ⟨"TB_STATUS", 0x00030018, [],
    [⟨31, 7, .rsv, 0⟩, ⟨6, 6, .w1c, 0⟩, ⟨5, 5, .w1c, 0⟩, ⟨4, 4, .w1c, 0⟩, ⟨3, 3, .w1c, 0⟩, ⟨2, 2, .ro, 0⟩, ⟨1, 1, .ro, 0⟩, ⟨0, 0, .ro, 1⟩]⟩,
  ⟨"TB_OFFSET", 0x0003001C, [],
    [⟨31, 0, .ro, 0⟩]⟩,
  ⟨"TB_LOCK_THRESH", 0x00030020, [],
    [⟨31, 0, .rw, 1000⟩]⟩,
  ⟨"TB_TICK_LO", 0x00030030, [],
    [⟨31, 0, .ro, 0⟩]⟩,
  ⟨"TB_TICK_HI", 0x00030034, [],
    [⟨31, 0, .ro, 0⟩]⟩,
  ⟨"TB_TICK_TIME", 0x00030038, [],
    [⟨31, 0, .ro, 0⟩]⟩,
  ⟨"TB_GRID_NEXT", 0x0003003C, [],
    [⟨31, 0, .ro, 0⟩]⟩,
  ⟨"TB_FRACS", 0x00030040, [],
    [⟨31, 16, .ro, 0⟩, ⟨15, 0, .ro, 0⟩]⟩,
  ⟨"ETH_CFG", 0x00030100, [(0x40, 2)],
    [⟨31, 31, .rw, 0⟩, ⟨30, 30, .rw, 0⟩, ⟨29, 28, .rw, 0⟩, ⟨27, 27, .rw, 0⟩, ⟨26, 24, .rw, 0⟩, ⟨23, 23, .rw, 0⟩, ⟨22, 16, .rsv, 0⟩, ⟨15, 8, .rw, 0⟩, ⟨7, 0, .rsv, 0⟩]⟩,
  ⟨"ETH_ASYM", 0x00030104, [(0x40, 2)],
    [⟨31, 0, .rw, 0⟩]⟩,
  ⟨"ETH_STATUS", 0x00030108, [(0x40, 2)],
    [⟨31, 31, .ro, 0⟩, ⟨30, 30, .ro, 0⟩, ⟨29, 16, .rsv, 0⟩, ⟨15, 0, .ro, 0⟩]⟩]
def regRows11 : List RegRow := [
  ⟨"TB_PSG_ASYM", 0x00030200, [(0x4, 16)],
    [⟨31, 0, .rw, 0⟩]⟩,
  ⟨"TB_PSG_DELAY", 0x00030280, [(0x4, 16)],
    [⟨31, 0, .ro, 0⟩]⟩,
  ⟨"ERR_STATUS", 0x00050000, [],
    [⟨31, 3, .rsv, 0⟩, ⟨2, 2, .w1c, 0⟩, ⟨1, 1, .w1c, 0⟩, ⟨0, 0, .w1c, 0⟩]⟩,
  ⟨"ERR_COUNT", 0x00050004, [],
    [⟨31, 16, .ro, 0⟩, ⟨15, 0, .ro, 0⟩]⟩,
  ⟨"ERR_FIRST", 0x00050008, [],
    [⟨31, 31, .w1c, 0⟩, ⟨30, 29, .ro, 0⟩, ⟨28, 21, .ro, 0⟩, ⟨20, 13, .ro, 0⟩, ⟨12, 8, .rsv, 0⟩, ⟨7, 0, .ro, 0⟩]⟩,
  ⟨"ERR_FIRST_TIME", 0x0005000C, [],
    [⟨31, 0, .ro, 0⟩]⟩,
  ⟨"ERR_INJ_LAST", 0x00050010, [],
    [⟨31, 31, .ro, 0⟩, ⟨30, 30, .ro, 0⟩, ⟨29, 24, .rsv, 0⟩, ⟨23, 16, .ro, 0⟩, ⟨15, 8, .ro, 0⟩, ⟨7, 0, .ro, 0⟩]⟩,
  ⟨"LNT_STATUS", 0x00200000, [],
    [⟨31, 30, .ro, 0⟩, ⟨29, 29, .ro, 0⟩, ⟨28, 28, .ro, 0⟩, ⟨27, 27, .ro, 0⟩, ⟨26, 26, .ro, 0⟩, ⟨25, 25, .ro, 0⟩, ⟨24, 0, .rsv, 0⟩]⟩,
  ⟨"LNT_CTL", 0x00200004, [],
    [⟨31, 2, .rsv, 0⟩, ⟨1, 1, .rw, 0⟩, ⟨0, 0, .rw, 0⟩]⟩,
  ⟨"LNT_ETH_IP4", 0x00200008, [(0x4, 2)],
    [⟨31, 0, .rw, 0⟩]⟩,
  ⟨"LNT_LOG_SEQ", 0x00200010, [],
    [⟨31, 0, .ro, 0⟩]⟩,
  ⟨"DRIP_CTL", 0x00200100, [],
    [⟨31, 16, .rw, 24⟩, ⟨15, 6, .rsv, 0⟩, ⟨5, 5, .rw, 1⟩, ⟨4, 4, .rw, 1⟩, ⟨3, 3, .rw, 1⟩, ⟨2, 2, .rw, 1⟩, ⟨1, 1, .rw, 1⟩, ⟨0, 0, .rw, 1⟩]⟩,
  ⟨"DRIP_STATUS", 0x00200104, [],
    [⟨31, 16, .ro, 0⟩, ⟨15, 0, .ro, 0⟩]⟩,
  ⟨"FUSE_STATE", 0x00200200, [],
    [⟨31, 24, .cf, 0⟩, ⟨23, 20, .cf, 0⟩, ⟨19, 19, .cf, 0⟩, ⟨18, 17, .cf, 0⟩, ⟨16, 15, .cf, 0⟩, ⟨14, 13, .cf, 0⟩, ⟨12, 6, .cf, 0⟩, ⟨5, 0, .rsv, 0⟩]⟩,
  ⟨"FUSE_JNL", 0x00202000, [(0x4, 128)],
    [⟨31, 31, .cf, 0⟩, ⟨30, 30, .cf, 0⟩, ⟨29, 28, .rsv, 0⟩, ⟨27, 24, .cf, 0⟩, ⟨23, 16, .cf, 0⟩, ⟨15, 8, .cf, 0⟩, ⟨7, 0, .cf, 0⟩]⟩,
  ⟨"SNS_VALUE", 0x00201000, [(0x4, 93)],
    [⟨31, 31, .ro, 0⟩, ⟨30, 30, .ro, 0⟩, ⟨29, 29, .ro, 0⟩, ⟨28, 16, .rsv, 0⟩, ⟨15, 0, .ro, 0⟩]⟩,
  ⟨"SNS_LIMIT", 0x00201400, [(0x4, 93)],
    [⟨31, 16, .rw, 0⟩, ⟨15, 0, .rw, 0⟩]⟩,
  ⟨"TRC_CTL", 0x00060000, [],
    [⟨31, 3, .rsv, 0⟩, ⟨2, 2, .wo, 0⟩, ⟨1, 1, .rw, 0⟩, ⟨0, 0, .rw, 0⟩]⟩,
  ⟨"TRC_STATUS", 0x00060004, [],
    [⟨31, 5, .rsv, 0⟩, ⟨4, 4, .w1c, 0⟩, ⟨3, 3, .w1c, 0⟩, ⟨2, 2, .ro, 0⟩, ⟨1, 1, .ro, 0⟩, ⟨0, 0, .ro, 1⟩]⟩,
  ⟨"TRC_WR_PTR", 0x00060008, [],
    [⟨31, 16, .rsv, 0⟩, ⟨15, 0, .ro, 0⟩]⟩]
def regRows12 : List RegRow := [
  ⟨"TRC_RD_PTR", 0x0006000C, [],
    [⟨31, 16, .rsv, 0⟩, ⟨15, 0, .rw, 0⟩]⟩,
  ⟨"TRC_WATERMARK", 0x00060010, [],
    [⟨31, 16, .rsv, 0⟩, ⟨15, 0, .rw, 49152⟩]⟩,
  ⟨"TRC_WIN_BASE", 0x00060014, [],
    [⟨31, 4, .rsv, 0⟩, ⟨3, 0, .rw, 0⟩]⟩,
  ⟨"TRC_SRC_CFG", 0x00061000, [(0x40, 68)],
    [⟨31, 31, .rw, 0⟩, ⟨30, 30, .rw, 1⟩, ⟨29, 12, .rsv, 0⟩, ⟨11, 8, .rw, 10⟩, ⟨7, 4, .rsv, 0⟩, ⟨3, 0, .rw, 6⟩]⟩,
  ⟨"TRC_SRC_STATUS", 0x00061004, [(0x40, 68)],
    [⟨31, 31, .ro, 0⟩, ⟨30, 30, .ro, 0⟩, ⟨29, 22, .rsv, 0⟩, ⟨21, 16, .ro, 0⟩, ⟨15, 0, .ro, 0⟩]⟩,
  ⟨"TRC_CMP_CTL", 0x00061008, [(0x40, 68)],
    [⟨9, 9, .rw, 0⟩, ⟨8, 8, .rw, 0⟩, ⟨7, 6, .rw, 0⟩, ⟨5, 4, .rw, 0⟩, ⟨3, 2, .rw, 0⟩, ⟨1, 0, .rw, 0⟩, ⟨31, 10, .rsv, 0⟩]⟩,
  ⟨"TRC_CMP_LO", 0x00061010, [(0x40, 68), (0x8, 4)],
    [⟨31, 2, .rw, 0⟩, ⟨1, 0, .rsv, 0⟩]⟩,
  ⟨"TRC_CMP_HI", 0x00061014, [(0x40, 68), (0x8, 4)],
    [⟨31, 16, .rsv, 0⟩, ⟨15, 0, .rw, 0⟩]⟩,
  ⟨"PWR_STATUS", 0x00203000, [],
    [⟨31, 31, .ro, 0⟩, ⟨30, 24, .rsv, 0⟩, ⟨23, 16, .ro, 160⟩, ⟨15, 8, .ro, 0⟩, ⟨7, 6, .rsv, 0⟩, ⟨5, 0, .ro, 0⟩]⟩,
  ⟨"PWR_GAL_REQ", 0x00203010, [(0x4, 4)],
    [⟨31, 30, .rw, 0⟩, ⟨29, 28, .rw, 0⟩, ⟨27, 26, .rw, 0⟩, ⟨25, 24, .rw, 0⟩, ⟨23, 22, .rw, 0⟩, ⟨21, 20, .rw, 0⟩, ⟨19, 18, .rw, 0⟩, ⟨17, 16, .rw, 0⟩, ⟨15, 14, .rw, 0⟩, ⟨13, 12, .rw, 0⟩, ⟨11, 10, .rw, 0⟩, ⟨9, 8, .rw, 0⟩, ⟨7, 6, .rw, 0⟩, ⟨5, 4, .rw, 0⟩, ⟨3, 2, .rw, 0⟩, ⟨1, 0, .rw, 0⟩]⟩,
  ⟨"PWR_GAL_STATE", 0x00203020, [(0x4, 4)],
    [⟨31, 30, .ro, 0⟩, ⟨29, 28, .ro, 0⟩, ⟨27, 26, .ro, 0⟩, ⟨25, 24, .ro, 0⟩, ⟨23, 22, .ro, 0⟩, ⟨21, 20, .ro, 0⟩, ⟨19, 18, .ro, 0⟩, ⟨17, 16, .ro, 0⟩, ⟨15, 14, .ro, 0⟩, ⟨13, 12, .ro, 0⟩, ⟨11, 10, .ro, 0⟩, ⟨9, 8, .ro, 0⟩, ⟨7, 6, .ro, 0⟩, ⟨5, 4, .ro, 0⟩, ⟨3, 2, .ro, 0⟩, ⟨1, 0, .ro, 0⟩]⟩,
  ⟨"PWR_EVENT", 0x00203030, [],
    [⟨31, 9, .rsv, 0⟩, ⟨8, 8, .w1c, 0⟩, ⟨7, 6, .rsv, 0⟩, ⟨5, 0, .ro, 0⟩]⟩]
/-- All register rows. -/
def regRows : List RegRow :=
  regRows0 ++ regRows1 ++ regRows2 ++ regRows3 ++ regRows4 ++ regRows5 ++ regRows6 ++ regRows7 ++ regRows8 ++ regRows9 ++ regRows10 ++ regRows11 ++ regRows12

end Sys2Proof.Machine
end

