-- ==== Sys2Proof/Machine/NMap.lean ====
section
/-! DEFINITION. Sparse stores: a list of (key, value) pairs, keys strictly rising, no entry equal to
what an unlisted key reads as (the default function). Every addressed store of the block is one. -/

namespace Sys2Proof.Machine

/-- A sparse store keyed by natural numbers. -/
abbrev NMap (α : Type) := List (Nat × α)

/-- The value at key `k`; an unlisted key reads as `d k`. -/
def NMap.get {α : Type} (d : Nat → α) : NMap α → Nat → α
  | [], k => d k
  | (k', v) :: t, k => if k = k' then v else if k < k' then d k else NMap.get d t k

/-- Store `v` at `k`, keeping the canonical form: a default value leaves no entry. -/
def NMap.set {α : Type} [DecidableEq α] (d : Nat → α) : NMap α → Nat → α → NMap α
  | [], k, v => if v = d k then [] else [(k, v)]
  | (k', v') :: t, k, v =>
    if k < k' then (if v = d k then (k', v') :: t else (k, v) :: (k', v') :: t)
    else if k = k' then (if v = d k then t else (k, v) :: t)
    else (k', v') :: NMap.set d t k v

/-- The canonical form: keys strictly rising and no entry equal to the default. -/
def NMap.wf {α : Type} [DecidableEq α] (d : Nat → α) : NMap α → Bool
  | [] => true
  | [(k, v)] => v ≠ d k
  | (k, v) :: (k', v') :: t => (v ≠ d k) && (k < k') && NMap.wf d ((k', v') :: t)

/-- Store every pair of a list, in order. -/
def NMap.setAll {α : Type} [DecidableEq α] (d : Nat → α) (m : NMap α) (l : List (Nat × α)) : NMap α :=
  l.foldl (fun m p => NMap.set d m p.1 p.2) m

/-- Keep only the entries whose key satisfies `p`; the others read as the default. -/
def NMap.keep {α : Type} (m : NMap α) (p : Nat → Bool) : NMap α := m.filter (fun e => p e.1)

end Sys2Proof.Machine
end

