-- ==== Sys2Proof/Machine/State.lean ====
section
/-! DEFINITION. The state of the block: every register, store, FIFO, queue and pin the spec names, and
the queue of waiting commands. Plain data. Registers live in one sparse store keyed by BAR0 offset
(Machine/Regs.lean gives each its offset, fields and reset value); what follows beside it is the state
the spec gives the block that no register holds. -/

namespace Sys2Proof.Machine

/-- Why the block stops (log 2). -/
inductive Fault where
  /-- Raised by a step word of an encoding, or of an opcode in a kind of gallery, that R37 rejects at
  load: the device never executes such a word, and the spec gives it no effect. Safe. -/
  | rejectedWord
deriving DecidableEq, Repr

/-- Why a command is refused. -/
inductive Refusal where
  /-- Raised by a Dispatch arm whose command has no meaning yet. Safe. -/
  | notModelled (mnemonic : String)
deriving DecidableEq, Repr

/-- What is wrong with a SECDED-protected word: nothing, one flipped bit, two flipped bits (R38, R104,
R116). The stored value is the word as it reads with the error; `single` reads as corrected. -/
inductive EccMark where
  | good | single | double
deriving DecidableEq, Repr

/-- A command's identity in its mailbox queue (R253, R254). -/
structure CmdId where
  queue : Nat
  tag : BitVec 16
  sqIndex : Nat
  intr : Bool
  remote : Bool
  origin : Option Nat := none
deriving DecidableEq, Repr

/-- An arrival on its way to a receive port (R61, R65): `due` is the period in which it lands at the
earliest; a LINK value also waits for step `minStep` of this device (R142). -/
structure Arrival where
  bp : Nat
  port : RxPort
  step : Nat
  val : Nv
  due : Nat
  minStep : Nat := 0
deriving DecidableEq, Repr

/-- A value on its way through the merge points of the Schedule Network (R60, R68): the merge points ahead, each with
the periods from it to the next one or to the port; the period in which it reaches the next; where it then lands. -/
structure Flight where
  ahead : List (List Nat × Nat)
  due : Nat
  port : RxPort
  step : Nat
  dests : List Nat
  val : Nv
deriving DecidableEq, Repr

/-- A deep operation a chamber has outstanding (R121, R122). -/
structure DeepOp where
  cham : Nat
  lane : Nat
  step : Nat
  word : Nat
  write : Bool
  mask : BitVec 8
  data : Dword
  tick : BitVec 64
deriving DecidableEq, Repr

/-- A record of a gallery's ASSERT FIFO (R58, GAL_ASSERT_REC). -/
structure AssertRec where
  actions : Nat
  unknown : Bool
  ctx : Nat
  step : Nat
  bp : Nat
  cham : Nat
  tick : Nat
deriving DecidableEq, Repr

/-- What a force entry names (R173). -/
inductive ForceTarget where
  | step (ctx step : Nat)
  | entry (off : Nat)
deriving DecidableEq, Repr

/-- A change of a force entry from tick `tick` on: a value, or a release; and the command that waits for
that tick (R175, R257). -/
structure ForceChange where
  tick : BitVec 64
  val : Option Nv
  cmd : Option CmdId
  free : Bool
deriving DecidableEq, Repr

/-- A force entry of a BP (R173, R175): the changes of a force in order of their ticks, or the one cycle of
a deposit. -/
structure ForceEntry where
  bp : Nat
  target : ForceTarget
  deposit : Bool
  changes : List ForceChange
deriving DecidableEq, Repr

/-- What the replay of an isolated region needs (R244, R245): the step words and slot tables that the region had, the last
values sent, and its ISOLATION entries. -/
structure IsoTables where
  four : List Nat
  istore : NMap Dword
  slot : NMap Word
  slotBase : NMap Nat
  last : NMap Nv
  sent : NMap Bool
  iso : NMap Word
deriving DecidableEq, Repr

/-- No region is isolated. -/
def IsoTables.none : IsoTables := ⟨[], [], [], [], [], [], []⟩

/-- The Emulation Fabric and the Schedule Network (02, 03). Keys: net entries bp·2048 + entry,
instruction words bp·1024 + index, slot records bp·512 + index, receive records bp·1024 + index,
slot bases bp·8 + context, truth tables chamber·256 + index, trigger leaves gallery·65 + leaf. -/
structure Fabric where
  nsPrev : NMap Bool
  nsCur : NMap Bool
  nsTag : NMap Bool
  nsPrevTag : NMap Bool
  nsBad : NMap Bool
  chain : NMap Nv
  prng : NMap Word
  addrV : NMap Word
  addrX : NMap Word
  wordV : NMap Dword
  wordX : NMap Dword
  istore : NMap Dword
  istoreEcc : NMap EccMark
  slot : NMap Word
  slotBad : NMap Bool
  slotBase : NMap Nat
  recv : NMap Word
  recvBad : NMap Bool
  ftBad : NMap Bool
  barriers : NMap Word
  flights : List Flight
  inflight : List Arrival
  landed : List (Nat × Nat × Nat)
  ended : List (Nat × Nat)
  asserts : NMap (List AssertRec)
  leaves : NMap Bool
  memOps : List Nat
  bankUse : List Nat
  deep : List DeepOp
  capture : NMap (List Bool)
  forces : List ForceEntry
  iso : NMap Word
  lastSend : NMap Nv
  sent : NMap Bool
  assertPushed : NMap Nat
  assertDropped : NMap Nat
  isolated : List Nat
  region : IsoTables
deriving DecidableEq, Repr

/-- A change of the tick configuration that waits for its boundary (R88). -/
structure TickCfg where
  free : Bool
  policy : Nat
  realign : Nat
  ctxSource : Nat
  ns : Nat
  frac : Nat
deriving DecidableEq, Repr

/-- A tick-boundary action that waits for its T5 (R20, R257). -/
inductive BoundaryAct where
  | snapshot (slot : Nat) (emu : Bool)
  | commit (resume lattice : Bool)
  | reload (join : BitVec 64)
  | joinRegion
  | restore (addr : Nat) (resume : Bool)
  | context (c : Nat)
  | tickCfg (c : TickCfg)
  | halt (cancel : Bool)
  | arm (block : List Byte)
  | disarm
deriving DecidableEq, Repr

/-- A waiting boundary action, its target tick (none: the next boundary) and the command that asked; `now`
marks one that is due while the device stands halted at a boundary (R178, R257, R265). -/
structure Pending where
  act : BoundaryAct
  target : Option (BitVec 64)
  cmd : Option CmdId
  now : Bool := false
deriving DecidableEq, Repr

/-- Where the device is in an emulated cycle (R18). -/
inductive Phase where
  /-- Between cycles: T7 has completed or no cycle has begun. -/
  | between
  /-- The scheduled steps; `Sched.step` is the next to issue. -/
  | steps
  /-- T0 and T1 have passed; T2 is due. -/
  | t2
  /-- T2 has passed; T3 is due. -/
  | t3
  /-- T3 and T4 have passed; actions are due at T5. -/
  | t5
deriving DecidableEq, Repr

/-- A gallery's part of the present hold (R75, GAL_SLIP_LAST): the port code, the first waiting
operand's BP, the step that waits and the periods so far. -/
structure SlipRec where
  gal : Nat
  port : Nat
  bp : Nat
  step : Nat
  len : Nat
deriving DecidableEq, Repr

/-- Ticks, holds and boundary actions (01, 03, 13). `dtc` is the Device Time Counter in units of
2^-32 ns with its wrap count above: bits 79:64 wrap, 63:32 ns, 31:0 fraction (R335). `backlog` is the
merge points and receive ports whose queues hold issue in this period, `counted` those that this period's count names
(R68). `holdMax` is the hold limit that the present hold began under (R88); `flagsSet` is one more than the period of
each host flag's last write (R80); `runWaits` is the run commands that wait for a content-preserving march, with the
cycles of a STEP (R109). -/
structure Sched where
  now : Nat
  dtc : Nat
  phase : Phase
  step : Nat
  ctx : Nat
  curTick : BitVec 64
  nextTick : BitVec 64
  tickPeriod : Nat
  tickTime : Nat
  nextGrid : Nat
  holdLen : Nat
  holdMax : Nat
  holdOver : Bool
  cycleHolds : Nat
  backlog : List (List Nat)
  counted : List (List Nat)
  slips : List SlipRec
  pending : List Pending
  haltPending : Bool
  overrun : Bool
  running : Bool
  stepsLeft : Option Nat
  stepCmd : Option CmdId
  runWaits : List (CmdId × Option Nat)
  flagsAt : NMap Nat
  flagsSet : NMap Nat
  flagsUsed : List Nat
  pinFreshAt : Option Nat
  tickHeld : Bool
  holdsAt : NMap Nat
  restored : Bool
  engine : Bool
  restoreCmd : Option CmdId
  restoreResume : Bool
  restoreBusy : Bool
  resume : Bool
  pinSampled : Bool
deriving DecidableEq, Repr

/-- Who waits for a bank request's answer: a Control NoC node (and whether it takes a response), a Control NoC packet,
a BAR4
request of the host with its PCIe address, byte offset and length, a mailbox command (`op` 0 reads `len`
bytes from byte `lo` of the first word, 1 writes them, 2 is an atomic; 3 and 4 are a read and a write that end in
HOST_FAULT), a DMA channel with the offset of its piece. -/
inductive Requester where
  | noc (reply : Bool)
  | pkt (p : NocPkt)
  | host (addr lo len : Nat) (read : Bool) (born : Nat)
  | cmd (c : CmdId) (op lo len : Nat)
  | dma (chan off : Nat)
deriving DecidableEq, Repr

/-- A bank request of a gallery (R99 to R103): the words it still has to touch, from gallery word `word`
(chamber·8,192 + word) upward; `since` is the period the gallery accepted it in. -/
structure BankReq where
  gal : Nat
  word : Nat
  left : List BankOp
  since : Option Nat
  data : List Dword
  status : Nat
  who : Requester
deriving DecidableEq, Repr

/-- An answer of the block to a Control NoC requester: a status (R289) and data. -/
structure NocAnswer where
  status : Nat
  addr : Nat
  data : List Dword
deriving DecidableEq, Repr

/-- A march in progress (R107 to R111). -/
structure March where
  gal : Nat
  keep : Bool
  arrays : Nat
  wake : Bool
  start : Bool
deriving DecidableEq, Repr

/-- Design Memory and the Deep Store (04). Bank words are keyed chamber·8,192 + word, Deep Store bytes
by byte address; an unlisted word or byte reads as 0 (R113, R414). -/
structure Mem where
  dm : NMap Dword
  dmEcc : NMap EccMark
  ds : List Host.Cell
  dsEcc : NMap EccMark
  bankQ : List BankReq
  answers : List NocAnswer
  marches : List March
  drip : List (Nat × Nat)
  dripBack : List (Nat × Nat)
  dsSlot : NMap Nat
  dsServed : NMap Nat
  dsUnread : List Nat
  dsDrop : List Nat
  dsBack : List Nat
deriving DecidableEq, Repr

/-- A snapshot in progress (R177 to R181): what it captured when it was taken, and its phase 1 to 3. -/
structure SnapJob where
  phase : Nat
  slot : Nat
  emu : Bool
  cmd : Option CmdId
  ns : NMap Bool
  prng : NMap Word
  dm : NMap Dword
  emuBytes : NMap Byte
  nextTick : BitVec 64
  time : Nat
  ctx : Nat
  forces : Bool
  dmUe : Bool
  base : Nat
  emuLen : Nat
  units : Nat
  mask : Nat
  gals : Nat
  four : Nat
  pace : Bool
  dev : Nat
  digest : List Byte
deriving DecidableEq, Repr

/-- A capture record closed and queued for its ring (R159 to R162): its ring offset and length in 64-byte
units, the header fields of R160, its segments' bytes and their length per gallery. -/
structure EchoRec where
  off : Nat
  units : Nat
  pad : Bool
  flags : Nat
  tick : BitVec 64
  time : Nat
  ctx : Nat
  holds : Nat
  seq : Nat
  present : Nat
  lost : Nat
  conds : Nat
  stage : Nat
  body : List Byte
  segs : List (Nat × Nat)
deriving DecidableEq, Repr

/-- Echo (06). `tail` is the ring offset of the next record to close; `held` lists the complete
records of an OVERWRITE ring, oldest first; `buffered` is the bytes each gallery's buffer holds. -/
structure Echo where
  seq : Nat
  tail : Nat
  recs : List EchoRec
  held : List (Nat × Nat × Bool)
  buffered : NMap Nat
  stage : Nat
  count : Nat
  fired : Bool
  postLeft : Nat
  hostTrig : Bool
  stretched : Bool
  forced : Bool
  deposited : Bool
  asserted : Bool
  slotUnits : Nat
  emuMask : Nat
  conds : Nat
  snap : Option SnapJob
  disarming : Bool
  disarmCmds : List CmdId
  restored : Bool
  capturing : Bool
  stageDue : Bool
  windowDue : Bool
deriving DecidableEq, Repr

/-- An outgoing pin word (R200, R201): the 64 bytes that left, the period from which on it is at Rimstone, the count of
pin-word clocks at the TICK strobe of a later cycle, the count at the first edge after its arrival. -/
structure PinWord where
  tick : BitVec 64
  vals : NMap Nv
  bytes : List Byte := []
  arrives : Nat := 0
  strobe : Option Nat := none
  seen : Option Nat := none
deriving DecidableEq, Repr

/-- A completed or travelling input pin word (R202, R204). -/
structure InWord where
  vals : NMap Bool
  ctxValid : Bool
  ctx : Nat
  sampledAt : Nat
deriving DecidableEq, Repr

/-- What the user flash does (R194). -/
inductive UflOp where
  | idle
  | erase (sector : Nat)
  | program (word : Nat) (data : Word)
deriving DecidableEq, Repr

/-- Rimstone (07). The pin ports' pool values (`portV`; `portX` is the complement of the k bit), macrocell
registers and latches, wire keepers, disabled wires with the passes they have waited, the measured VIO
of each bank, pin levels from outside, what the serializers send and the deserializers delivered, reset
holds and pulses, the pin words under assembly and in flight, the user flash, the serial FIFOs, upset
configuration frames. -/
structure Rim where
  portV : NMap Bool
  portX : NMap Bool
  mc : NMap Bool
  latched : NMap Bool
  keeper : NMap Bool
  wiresOff : List (Nat × Nat)
  vio : NMap Nat
  pinExt : NMap Nv
  sync : NMap Nat
  pinOut : NMap Word
  pinOe : NMap Bool
  lastDriven : NMap Bool
  deser : NMap Word
  prbs : NMap Word
  rot : NMap Nat
  clkHigh : List Nat
  rstHeld : NMap Nat
  commitPulse : Nat
  restorePulse : Nat
  outVals : NMap Nv
  lastPinout : Option Nat
  outQ : List PinWord
  inFlight : List InWord
  inWord : Option InWord
  pwCount : Nat
  strobeEdge : Nat
  streamNext : Option Nat
  strobe : Bool
  strobeDue : Bool
  sendQ : List (Nat × PinWord)
  inSampled : Bool
  ufl : NMap Word
  uflOp : UflOp
  uflRead : Option Nat
  uflOut : Word
  uflValid : Bool
  uflStrobe : Bool
  tx : NMap (List Byte)
  rx : NMap (List Byte)
  txClk : NMap Nat
  rxClk : NMap Nat
  rxBits : NMap Nat
  rxDone : NMap (List Byte)
  spDefer : List (Nat × Word)
  frameBad : NMap EccMark
  extraDriver : NMap Nat
  scrubDev : List Word
  scrubAt : Nat
deriving DecidableEq, Repr

/-- A SLOT flit (R130, R138): the values of its 240 positions. -/
structure SlotFlit where
  port : Nat
  ctx : Nat
  tick : Nat
  flit : Nat
  vals : List Bool
deriving DecidableEq, Repr

/-- A LATTICE flit's contents (R130). -/
structure LatFlit where
  sub : Nat
  origin : Nat
  tick : BitVec 64
  time : Nat
  low : Nat
deriving DecidableEq, Repr

/-- A flit, or a stream packet of flits, that a port is to send. -/
inductive TxFlit where
  | slot (f : SlotFlit)
  | lattice (port : Nat) (f : LatFlit)
  | time (port : Nat) (f : TimeFlit)
  | noc (port ttl : Nat) (k : NocPkt)
  | image (port offset : Nat) (bytes : List Byte)
deriving DecidableEq, Repr

/-- A flit position of a block (R127): its SELF_MAP bit and the 256 bits. -/
structure BlockFlit where
  own : Bool
  bits : BitVec 256
deriving DecidableEq, Repr

/-- A block held for resending (R129): its flits, the times it was resent, the period it last left. -/
structure RetryBlock where
  port : Nat
  seq : Nat
  resent : Nat
  since : Nat
  flits : List BlockFlit
deriving DecidableEq, Repr

/-- A block that has left a port (R127): an output of the device. -/
structure TxBlock where
  port : Nat
  seq : Nat
  ack : Nat
  ackValid : Bool
  nak : Bool
  flits : List BlockFlit
deriving DecidableEq, Repr

/-- Passage and the lattice (05). `out` is what the ports are to send, `stream` the rest of a stream packet that has
begun to leave, `nakDue` the ports whose next block carries NAK, `blocks` what has left. -/
structure Passage where
  retry : List RetryBlock
  stream : NMap (List (BitVec 256))
  nakDue : List Nat
  blocks : List TxBlock
  txSeq : NMap Nat
  rxSeq : NMap Nat
  discarding : List Nat
  creditUsed : NMap Nat
  frame : NMap Word
  landing : NMap Word
  frameBad : NMap Bool
  landingBad : NMap Bool
  txVals : NMap Bool
  closed : List (Nat × Nat)
  got : List (Nat × Nat)
  early : List (SlotFlit × Nat)
  expect : NMap Nat
  out : List TxFlit
  doneFrom : List (Nat × BitVec 64)
  holdsSent : List (BitVec 64)
  holds : List (Nat × BitVec 64)
  releases : List (Nat × BitVec 64 × Nat)
  seen : List (Nat × Nat × BitVec 64)
  barrierWait : Nat
  haltBefore : Option (BitVec 64)
  reports : List (Nat × Nat)
  reportsOut : List (Nat × Nat)
  barrierSince : Nat
  barrierRun : Bool
  holdFrom : Option (Nat × BitVec 64)
  origin : Option CmdId
  startAt : Option Nat
  stageRegs : List Nat
  training : Option CmdId
  trainPorts : List Nat
  trainDone : List (Nat × Bool)
  marked : Bool
  forwards : List (Nat × SlotFlit)
  decided : Option (BitVec 64)
deriving DecidableEq, Repr

/-- The Image Loader (08). `bytes` is what has arrived of the staged image, by image offset (the spec keeps
the device's own part in region 14 and passes the rest through the measurement); `toHead` the results sent
to the head of the chain: 0 stage, 1 verify, 2 commit, with the reason and the location word; `results` and
`commitReports` what the head has received, by chain position. `stream` is the next byte and the end of the stream that
the head forwards, `hostLeft` the bytes of the host's buffers not read yet, `written` how far region 14 is written.
`commitDue` says that a commit waits for galleries that wake; `commitCmd`, `commitResume` and `commitLattice` belong to the commit that applies, `latCmd` to `commitReports` to the
head's lattice commit until its command completes. -/
structure Loader where
  bytes : NMap Byte
  received : Nat
  length : Nat
  declared : Nat
  headerOk : Bool
  spaceOk : Bool
  cmd : Option CmdId
  measurement : List Byte
  nextOff : Nat
  lastBurst : Nat
  toHead : List (Nat × Nat × Word)
  stream : Option (Nat × Nat)
  written : Nat
  hostLeft : Nat
  commitDue : Bool
  waiting : Bool
  results : List (Nat × Nat × Word)
  verifyCmd : Option CmdId
  verifyAt : Nat
  commitCmd : Option CmdId
  commitResume : Bool
  commitLattice : Bool
  latCmd : Option CmdId
  latResume : Bool
  latSpan : Nat × Nat
  commitSince : Option Nat
  commitReports : List (Nat × Nat)
  reloadCmd : Option CmdId
  reloadJoin : BitVec 64
  reloadGals : List Nat
  reloadBanks : List Nat
  reloadWritten : Bool
  profile : Nat
  svn : Nat
  committedMap : List Byte
  golden : Nat
  rimFrames : List Byte
deriving DecidableEq, Repr

/-- The class of a mailbox command (R258). -/
inductive CmdClass where
  | prompt | normal | long
deriving DecidableEq, Repr

/-- A command that has started (R256, R258): its class, the period it started in, the period of its next progress entry. -/
structure Started where
  cmd : CmdId
  cls : CmdClass
  since : Nat
  next : Nat
deriving DecidableEq, Repr

/-- A completion entry the device writes (R254). -/
structure CqEntry where
  queue : Nat
  index : Nat
  tag : BitVec 16
  sqIndex : Nat
  status : Nat
  reason : Nat
  phase : Bool
  progress : Bool
  remote : Bool
  result0 : Dword
  result1 : Dword
  time : Nat
deriving DecidableEq, Repr

/-- A GET_READY that waits (R269). -/
structure ReadyWait where
  cmd : CmdId
  mask : BitVec 128
  timeout : Nat
deriving DecidableEq, Repr

/-- The mailbox (09): the completion entries written, the outstanding commands with the core that
serves them, each queue's write index, phase and unreleased entries. -/
structure Mailbox where
  cq : List CqEntry
  cqOut : List (Nat × List Byte)
  outstanding : List (CmdId × Nat)
  entries : List (CmdId × List Byte)
  unstarted : List CmdId
  started : List Started
  cqIndex : NMap Nat
  cqPhase : NMap Bool
  cqUsed : NMap Nat
  waits : List ReadyWait
  hostOut : List (CmdId × List Byte)
  forwarded : List (CmdId × Nat)
  remoteOut : List (Nat × CqEntry)
  barriers : List CmdId
deriving DecidableEq, Repr

/-- What waits in the mesh (R291, R296): a packet, or a BAR0 request of the host with its PCIe address. -/
inductive Held where
  | pkt (p : NocPkt)
  | bar0 (addr : BitVec 64) (op : HostOp) (born : Nat)
deriving DecidableEq, Repr

/-- The Control NoC (10): the last posted-write sequence number applied per source and destination
plus 1 ((source device·256 + source)·256 + destination; 0 for none), the credits in force, the barrier under way and the NOC_CREDIT written meanwhile,
what waits at a fence or at a port that lets nothing in, packets that wait for tunnel credit (port, TTL), and the
packets endpoints have sent: an output. -/
structure Noc where
  wseq : NMap Nat
  creditActive : Word
  compatSince : Nat
  barrierSince : Option Nat
  heldCredit : Option Word
  waiting : List Held
  tunnelQ : List (Nat × Nat × NocPkt)
  out : List NocPkt
deriving DecidableEq, Repr

/-- A PCIe outcome given to the host (R283): an output of the block. -/
inductive HostReply where
  | data (ws : List Word)
  | bytes (bs : List Byte)
  | poisoned (n : Nat)
  | abort
  | unsupported
  | accepted
deriving DecidableEq, Repr

/-- A BAR4 access of a net store on its way (R281, R282): the gallery, its PCIe address, the next byte offset in
the aperture, the bytes still to read or to write, those read, whether the gallery has accepted it, and the period in which
it came. -/
structure NetReq where
  gal : Nat
  addr : Nat
  off : Nat
  left : Nat
  write : Option (List (Option Byte))
  got : List Byte
  taken : Bool
  born : Nat
deriving DecidableEq, Repr

/-- The writable registers of the PCIe configuration space (R274, R277, R284). -/
structure Pcie where
  command : Word
  bars : NMap Word
  devCtl : Word
  uncStatus : Word
  uncMask : Word
  uncSeverity : Word
  corStatus : Word
  corMask : Word
  aerCtl : Word
  headerLog : List Word
deriving DecidableEq, Repr

/-- The uncorrectable errors that requests meet (R284). -/
inductive UncErr where
  | poisoned | timeout | completerAbort | malformed | ecrc | unsupported
deriving DecidableEq, Repr

/-- The configuration space after a reset. PRESUMED (log 56): the reset values of PCI Express. -/
def Pcie.reset : Pcie where
  command := 0
  bars := []
  devCtl := 0x2810
  uncStatus := 0
  uncMask := 0x00400000
  uncSeverity := 0x00462030
  corStatus := 0
  corMask := 0x0000E000
  aerCtl := 0
  headerLog := [0, 0, 0, 0]

/-- The PCIe endpoint (10): its configuration space, power state, the trained link (its width, rate, whether its lanes are reversed),
MSI-X control, table and pending bits, the level of PERST#, net-store accesses that wait, and the replies and
messages sent: outputs. -/
structure HostLink where
  cfg : Pcie
  d3hot : Bool
  linkUp : Bool
  width : Nat
  rate : Nat
  reversed : Bool
  msixEnable : Bool
  msixFnMask : Bool
  msixAddr : NMap Dword
  msixData : NMap Word
  msixMask : NMap Bool
  msixPend : NMap Bool
  perstHigh : Bool
  netQ : List NetReq
  sent : List (Nat × Dword × Word)
  replies : List HostReply
deriving DecidableEq, Repr

/-- A DMA descriptor (R303). -/
structure Desc where
  own : Bool
  intr : Bool
  relaxed : Bool
  ido : Bool
  len : Nat
  srcSpace : Nat
  srcRemote : Bool
  dstSpace : Nat
  dstRemote : Bool
  controlSet : Bool
  reservedSet : Bool
  src : Nat
  dst : Nat
  srcDev : Nat
  dstDev : Nat
deriving DecidableEq, Repr

/-- What a channel writes into its ring (R306, R311): status, detail, DONE_LEN, OWN cleared. -/
structure WriteBack where
  chan : Nat
  index : Nat
  code : Nat
  detail : Nat
  done : Nat
  ownCleared : Bool
deriving DecidableEq, Repr

/-- A completed write of a channel into its ring (R3, R303, R306): the host address and the bytes. -/
abbrev RingBytes := Nat × List Byte

/-- A failing DMA request (R311): its address, DIRECTION, detail, space, whether its side is REMOTE. -/
structure DmaError where
  addr : Nat
  dir : Nat
  detail : Nat
  space : Nat
  remote : Bool
deriving DecidableEq, Repr

/-- A channel's work on the descriptor at HEAD (R305 to R311). Pieces are named by their offset in the
descriptor: `next` is the first byte no read has been issued for; `reads` are outstanding reads (offset,
length); `buffer` is what has been read and waits for the write engine; `writes` the WRITEs outstanding;
`done` the pieces written with OK. `limited` is the side and address of a RANGE. -/
structure DmaJob where
  desc : Desc
  total : Nat
  limited : Option (Nat × Nat)
  next : Nat
  reads : List (Nat × Nat)
  buffer : List (Nat × List Byte)
  writes : List (Nat × List Byte)
  done : List (Nat × Nat)
  error : Option DmaError
  aborted : Bool
deriving DecidableEq, Repr

/-- The DMA engine (11): `answers` are responses of local banks on their way back (channel, offset, status,
words); `last` and `turns` are the round-robin state of the read engine (0) and the write engine (1). -/
structure Dma where
  kicked : NMap Bool
  desc : List (Nat × Desc)
  jobs : List (Nat × DmaJob)
  haltReq : List Nat
  writeBacks : List WriteBack
  ringOut : List RingBytes
  hostOut : List (Nat × Nat × List Byte)
  answers : List (Nat × Nat × Nat × List Dword)
  last : NMap Nat
  turns : NMap Nat
deriving DecidableEq, Repr

/-- A source in service at a CIC target (R322 to R324). -/
structure Service where
  target : Nat
  src : Nat
  prio : Nat
  vector : Nat
deriving DecidableEq, Repr

/-- The CIC (12): pending bits of EDGE sources, sources in service, cores whose threshold is held at 15
(R328), serial ports whose FIFO event drives their source, what claiming reads returned (target, ID): an output; and the
configuration registers written in period `priorAt` as they were, which are in force for that period still (R326). -/
structure Cic where
  prior : List (Nat × Word)
  priorAt : Nat
  edge : NMap Bool
  service : List Service
  held : List Nat
  fifo : List Nat
  claimed : List (Nat × Nat)
deriving DecidableEq, Repr

/-- An entry of the event log, or an event that waits to be written (R365, R366); `born` is the period of its
first occurrence. -/
structure LogEvent where
  time : Nat
  seq : Nat
  source : Nat
  code : Nat
  unit : Nat
  cls : Nat
  injected : Bool
  coalesced : Bool
  isLocal : Bool
  repeats : Nat
  data : List Byte
  born : Nat
deriving DecidableEq, Repr

/-- An armed fault-injection point (R370). -/
structure ArmedPoint where
  block : Nat
  code : Nat
  unit : Nat
  used : Bool
deriving DecidableEq, Repr

/-- A handler a Warden has entered (R329 to R333): the source, its level, whether it is the Fast class, and
the period in which its stacked entry ends. -/
structure WardenFrame where
  src : Nat
  level : Nat
  fast : Bool
  ends : Nat
deriving DecidableEq, Repr

/-- The Wardens' interrupt units (12): pending EDGE sources (gallery·32 + source), each gallery's stack of
handlers, innermost first, and its message queue. -/
structure Warden where
  pend : NMap Bool
  stack : NMap (List WardenFrame)
  msgs : NMap (List NocPkt)
deriving DecidableEq, Repr

/-- A PTP message on an Ethernet port with its stamp (none while TS_VALID is 0 or for a general message), on
its way to Lantern firmware. -/
structure PtpIn where
  port : Nat
  msg : PtpMsg
  stamp : Option Nat
deriving DecidableEq, Repr

/-- The Timebase (13): the servo's integral in units of 2^-16 ps, whether its next sample is the first,
counters of consecutive samples, the sequence number and origin of the last TIME flit, the sequence number of
the next one sent, the slew remainder in units of 2^-32 ns, PTP messages for firmware and copies sent. -/
structure Timebase where
  integ : Int
  first : Bool
  good : Nat
  bad : Nat
  seq : Option Nat
  origin : Option Nat
  txSeq : Nat
  slew : Int
  stepDue : Int
  lastSample : Nat
  lastSync : Option Nat
  lastPtm : Option Nat
  ptpIn : List PtpIn
  ptpOut : List (Nat × PtpMsg)
deriving DecidableEq, Repr

/-- Where a PLDM firmware update stands (R358, R359, DSP0267). -/
inductive UpdPhase where
  | idle | learn | ready | download | verify | apply
deriving DecidableEq, Repr

/-- A PLDM firmware update (R359): its phase, the slot it writes, the image received, whether it has been
verified and applied. -/
structure Update where
  phase : UpdPhase
  slot : Nat
  image : List Byte
  verified : Bool
  applied : Bool
deriving DecidableEq, Repr

/-- Lantern (14): the event log, oldest entry first, and the events that wait; armed injection points; how many
sample periods each sensor has missed; whether Lantern is in its boot ROM; the build of the firmware that runs
and the firmware the command cores run; a thermal halt not yet cooled down; its MCTP and PLDM identities; the
update under way; platform events not yet taken and answers sent; the extension of the DTC (R336); from when the next EPOCH is
due (R366) and when the running firmware started (R355); the device identity key, public and private (R377). -/
structure Lantern where
  log : List LogEvent
  logQueue : List LogEvent
  logDropped : Nat
  armed : List ArmedPoint
  missed : NMap Nat
  inRom : Bool
  build : Nat
  coreFw : Nat
  halted : Bool
  eid : Nat
  tid : Nat
  receiver : Option Nat
  upd : Update
  events : List (Nat × Nat × Nat)
  replies : List LntReply
  epoch : Nat
  lastWrap : Nat
  epochDue : Nat
  startedAt : Nat
  identity : List Byte × List Byte
deriving DecidableEq, Repr

/-- A golden area of the embedded flash (R208): the frames of each region by its unit, and the two copies of the region
map, which lists the flash address of each region and ends in a CRC-32C. -/
structure GoldenArea where
  frames : NMap (List Byte)
  maps : List (List Byte)
deriving DecidableEq, Repr

/-- The embedded flash (R353, R354): ACTIVE and the failure counts of the boot record; the bytes of slots A (0)
and B (1) and of the Bedrock copies (12 to 15); the board configuration, the PCI subsystem IDs (R274) and the sensor
calibration. -/
structure Flash where
  golden : List GoldenArea
  active : Nat
  fails : NMap Nat
  images : NMap (List Byte)
  board : List Byte
  subsystem : Word
  calib : List Byte
deriving DecidableEq, Repr

/-- The key store (08, 14). -/
structure KeyStore where
  keks : NMap (List Byte)
deriving DecidableEq, Repr

/-- Core and Warden trace (15): the buffer's slots, each encoder's FIFO, its collected branch outcomes (oldest
first), packets since its last SYNC, packets lost and not yet reported, the payload a SYNC would carry; the
source served last; the latched upper half of a slot; whether the watermark has been raised; a clear under
way; the period in which the buffer last accepted packets, and how many; the interval of each source's last
TIMESTAMP. -/
structure Trace where
  buf : NMap Dword
  fifo : NMap (List Dword)
  outcomes : NMap (List Bool)
  count : NMap Nat
  lost : NMap Nat
  addr : NMap Nat
  last : Nat
  latch : Option (Nat × Word)
  marked : Bool
  clearing : Bool
  took : Nat × Nat
  stamps : NMap Nat
deriving DecidableEq, Repr

/-- Power and the die-to-die link (16, R8): is VAUX present; is the VCORE target raised by 15 mV, and from which
target it moves since when (R391); since when every main rail has been within its operating range (R394), and absent
(R364); the link's rate in GT/s (0 while down) and its failed attempts. -/
structure Power where
  vaux : Bool
  boost : Bool
  vcoreFrom : Nat × Nat
  railsOk : Option Nat
  railsGone : Option Nat
  d2dRate : Nat
  d2dFails : Nat
deriving DecidableEq, Repr

/-- What is fixed at manufacture or by straps and fuses, the device secret among them (R377), and what the counted fuses
hold (R374 to R376). -/
structure Part where
  stepping : Stepping
  chainRole : Bool
  pullSel : List Nat
  bootSel : Bool
  serial : List Byte
  secret : List Byte
  vcoreBin : Nat
  svn : Nat
  debugLock : Nat
  laneReversal : Bool
  bedrock : Nat
  ownerDigest : NMap (List Byte)
  ownerRevoked : List Nat
  fuseKek : Option (List Byte)
  journal : List Word
  fuseRepair : NMap Nat
  flashRepair : NMap Nat
  used : NMap Nat
deriving DecidableEq, Repr

/-- The block's whole state. `raised` holds, by register offset, the bits that hardware has set in the present
period: a software write of that period does not clear them (R6). -/
structure State where
  pending : List Instr
  regs : NMap Word
  raised : NMap Word
  freeCtr : Nat
  part : Part
  fab : Fabric
  sched : Sched
  mem : Mem
  echo : Echo
  rim : Rim
  psg : Passage
  img : Loader
  mbx : Mailbox
  noc : Noc
  host : HostLink
  dma : Dma
  cic : Cic
  wiu : Warden
  tb : Timebase
  lnt : Lantern
  flash : Flash
  key : KeyStore
  trc : Trace
  pwr : Power
deriving DecidableEq, Repr

/-! The state right after reset. Each component is at the value the spec gives; where it gives none, at
the value logs 1 and 6 name. -/

/-- Fabric at reset. -/
def Fabric.reset : Fabric where
  nsPrev := []
  nsCur := []
  nsTag := []
  nsPrevTag := []
  nsBad := []
  chain := []
  prng := []
  addrV := []
  addrX := []
  wordV := []
  wordX := []
  istore := []
  istoreEcc := []
  slot := []
  slotBad := []
  slotBase := []
  recv := []
  recvBad := []
  ftBad := []
  barriers := []
  flights := []
  inflight := []
  landed := []
  ended := []
  asserts := []
  leaves := []
  memOps := []
  bankUse := []
  deep := []
  capture := []
  forces := []
  iso := []
  lastSend := []
  sent := []
  assertPushed := []
  assertDropped := []
  isolated := []
  region := IsoTables.none

/-- Sched at reset. -/
def Sched.reset : Sched where
  now := 0
  dtc := 0
  phase := .between
  step := 0
  ctx := 0
  curTick := 0
  nextTick := 0
  tickPeriod := 0
  tickTime := 0
  nextGrid := 0
  holdLen := 0
  holdMax := 0
  holdOver := false
  cycleHolds := 0
  backlog := []
  counted := []
  slips := []
  pending := []
  haltPending := false
  overrun := false
  running := false
  stepsLeft := none
  stepCmd := none
  runWaits := []
  flagsAt := []
  flagsSet := []
  flagsUsed := []
  pinFreshAt := none
  tickHeld := false
  holdsAt := []
  restored := false
  engine := false
  restoreCmd := none
  restoreResume := false
  restoreBusy := false
  resume := false
  pinSampled := false

/-- Mem at reset. -/
def Mem.reset : Mem where
  dm := []
  dmEcc := []
  ds := []
  dsEcc := []
  bankQ := []
  answers := []
  marches := []
  drip := []
  dripBack := []
  dsSlot := []
  dsServed := []
  dsUnread := []
  dsDrop := []
  dsBack := []

/-- Echo at reset. -/
def Echo.reset : Echo where
  seq := 0
  tail := 0
  recs := []
  held := []
  buffered := []
  stage := 0
  count := 0
  fired := false
  postLeft := 0
  hostTrig := false
  stretched := false
  forced := false
  deposited := false
  asserted := false
  slotUnits := 0
  emuMask := 0
  conds := 0
  snap := none
  disarming := false
  disarmCmds := []
  restored := false
  capturing := false
  stageDue := false
  windowDue := false

/-- Rim at reset. -/
def Rim.reset : Rim where
  portV := []
  portX := []
  mc := []
  latched := []
  keeper := []
  wiresOff := []
  vio := []
  pinExt := []
  sync := []
  pinOut := []
  pinOe := []
  lastDriven := []
  deser := []
  prbs := []
  rot := []
  clkHigh := []
  rstHeld := []
  commitPulse := 0
  restorePulse := 0
  outVals := []
  lastPinout := none
  outQ := []
  inFlight := []
  inWord := none
  pwCount := 0
  strobeEdge := 0
  streamNext := none
  strobe := false
  strobeDue := false
  sendQ := []
  inSampled := true
  ufl := []
  uflOp := .idle
  uflRead := none
  uflOut := 0
  uflValid := false
  uflStrobe := false
  tx := []
  rx := []
  txClk := []
  rxClk := []
  rxBits := []
  rxDone := []
  spDefer := []
  frameBad := []
  extraDriver := []
  scrubDev := [0, 0, 0]
  scrubAt := 0

/-- Passage at reset. -/
def Passage.reset : Passage where
  retry := []
  stream := []
  nakDue := []
  blocks := []
  txSeq := []
  rxSeq := []
  discarding := []
  creditUsed := []
  frame := []
  landing := []
  frameBad := []
  landingBad := []
  txVals := []
  closed := []
  got := []
  early := []
  expect := []
  out := []
  doneFrom := []
  holdsSent := []
  holds := []
  releases := []
  seen := []
  barrierWait := 0
  haltBefore := none
  reports := []
  reportsOut := []
  barrierSince := 0
  barrierRun := false
  holdFrom := none
  origin := none
  startAt := none
  stageRegs := []
  training := none
  trainPorts := []
  trainDone := []
  marked := false
  forwards := []
  decided := none

/-- Loader at reset. -/
def Loader.reset : Loader where
  bytes := []
  received := 0
  length := 0
  declared := 0
  headerOk := false
  spaceOk := false
  cmd := none
  measurement := []
  nextOff := 0
  lastBurst := 0
  toHead := []
  stream := none
  written := 0
  hostLeft := 0
  commitDue := false
  waiting := false
  results := []
  verifyCmd := none
  verifyAt := 0
  commitCmd := none
  commitResume := false
  commitLattice := false
  latCmd := none
  latResume := false
  latSpan := (0, 0)
  commitSince := none
  commitReports := []
  reloadCmd := none
  reloadJoin := 0
  reloadGals := []
  reloadBanks := []
  reloadWritten := false
  profile := 0
  svn := 0
  committedMap := []
  golden := 0
  rimFrames := []

/-- Mailbox at reset. -/
def Mailbox.reset : Mailbox where
  cq := []
  cqOut := []
  outstanding := []
  entries := []
  unstarted := []
  started := []
  cqIndex := []
  cqPhase := []
  cqUsed := []
  waits := []
  hostOut := []
  forwarded := []
  remoteOut := []
  barriers := []

/-- Noc at reset. -/
def Noc.reset : Noc where
  wseq := []
  creditActive := 0x08080808#32
  compatSince := 0
  barrierSince := none
  heldCredit := none
  waiting := []
  tunnelQ := []
  out := []

/-- HostLink at reset. -/
def HostLink.reset : HostLink where
  cfg := Pcie.reset
  d3hot := false
  linkUp := false
  width := 0
  rate := 0
  reversed := false
  msixEnable := false
  msixFnMask := false
  msixAddr := []
  msixData := []
  msixMask := []
  msixPend := []
  perstHigh := false
  netQ := []
  sent := []
  replies := []

/-- Dma at reset. -/
def Dma.reset : Dma where
  kicked := []
  desc := []
  jobs := []
  haltReq := []
  writeBacks := []
  ringOut := []
  hostOut := []
  answers := []
  last := []
  turns := []

/-- Cic at reset. -/
def Cic.reset : Cic where
  prior := []
  priorAt := 0
  edge := []
  service := []
  held := []
  fifo := []
  claimed := []

/-- Warden at reset. -/
def Warden.reset : Warden where
  pend := []
  stack := []
  msgs := []

/-- Timebase at reset. -/
def Timebase.reset : Timebase where
  integ := 0
  first := true
  good := 0
  bad := 0
  seq := none
  origin := none
  txSeq := 0
  slew := 0
  stepDue := 0
  lastSample := 0
  lastSync := none
  lastPtm := none
  ptpIn := []
  ptpOut := []

/-- Update at reset. -/
def Update.reset : Update where
  phase := .idle
  slot := 0
  image := []
  verified := false
  applied := false

/-- Lantern at reset. -/
def Lantern.reset : Lantern where
  log := []
  logQueue := []
  logDropped := 0
  armed := []
  missed := []
  inRom := true
  build := 0
  coreFw := 0
  halted := false
  eid := 0
  tid := 0
  receiver := none
  upd := Update.reset
  events := []
  replies := []
  epoch := 0
  lastWrap := 0
  epochDue := 0
  startedAt := 0
  identity := ([], [])

/-- Flash at reset. -/
def Flash.reset : Flash where
  golden := [⟨[], []⟩, ⟨[], []⟩]
  active := 0
  fails := []
  images := []
  board := []
  subsystem := 0
  calib := []

/-- KeyStore at reset. -/
def KeyStore.reset : KeyStore where
  keks := []

/-- Trace at reset. -/
def Trace.reset : Trace where
  buf := []
  fifo := []
  outcomes := []
  count := []
  lost := []
  addr := []
  last := 0
  latch := none
  marked := false
  clearing := false
  took := (0, 0)
  stamps := []

/-- Power at reset. -/
def Power.reset : Power where
  vaux := true
  boost := false
  vcoreFrom := (0xA0, 0)
  railsOk := none
  railsGone := none
  d2dRate := 0
  d2dFails := 0

/-- Part at reset. -/
def Part.reset : Part where
  stepping := .a0
  chainRole := false
  pullSel := []
  bootSel := false
  serial := List.replicate 16 0
  secret := List.replicate 32 0
  vcoreBin := 0xA0
  svn := 0
  debugLock := 0
  laneReversal := false
  bedrock := 0xF
  ownerDigest := []
  ownerRevoked := []
  fuseKek := none
  journal := []
  fuseRepair := []
  flashRepair := []
  used := []

/-- The device identity key (R377), public and private: from the SHAKE256 output over the device secret. -/
def identityOf (secret : List Byte) : List Byte × List Byte := Config.falconKeys ((List.range 32).map (Config.shake256 secret))

/-- The block right after reset (R270): every register at its reset value (no entry), every store
empty, no command waiting. -/
def State.reset : State where
  pending := []
  regs := []
  raised := []
  freeCtr := 0
  part := Part.reset
  fab := Fabric.reset
  sched := Sched.reset
  mem := Mem.reset
  echo := Echo.reset
  rim := Rim.reset
  psg := Passage.reset
  img := Loader.reset
  mbx := Mailbox.reset
  noc := Noc.reset
  host := HostLink.reset
  dma := Dma.reset
  cic := Cic.reset
  wiu := Warden.reset
  tb := Timebase.reset
  lnt := { Lantern.reset with identity := identityOf Part.reset.secret }
  flash := Flash.reset
  key := KeyStore.reset
  trc := Trace.reset
  pwr := Power.reset

end Sys2Proof.Machine
end

