-- ==== Sys2Proof/Machine/RegFile.lean ====
section
/-! DEFINITION. The register file: reset values, field access, and the typed write of R4 to R6. -/

namespace Sys2Proof.Machine

/-- Does an offset from a row's base name one of the row's instances? -/
def matchDims : List (Nat × Nat) → Nat → Bool
  | [], d => d == 0
  | (stride, count) :: r, d => Nat.blt (d / stride) count && matchDims r (d % stride)

/-- Is `off` an instance of the row? -/
def rowHas (r : RegRow) (off : Nat) : Bool := Nat.ble r.base off && matchDims r.dims (off - r.base)

/-- The row of a BAR0 offset; none where no register lies (R11). -/
def regRow (off : Nat) : Option RegRow := regRows.find? (fun r => rowHas r off)

/-- The word a list of fields makes. -/
def resetWord (fs : List RegField) : Word :=
  BitVec.ofNat 32 (fs.foldl (fun n f => n + f.reset * 2 ^ f.lo) 0)

/-- CIC_SRC_s as a word: KIND, VECTOR, TARGETS, PRIORITY (R328). -/
def cicWord (edge : Bool) (vector targets prio : Nat) : Word :=
  BitVec.ofNat 32 (natOfBool edge * 0x1000000 + vector * 0x10000 + targets * 0x100 + prio)

/-- The reset configuration of CIC source `s` (R320); 0 for a reserved source. -/
def cicReset (s : Nat) : Word :=
  if 1 ≤ s ∧ s ≤ 16 then cicWord true 0 (2 ^ ((s - 1) % 4)) 8
  else if s = 17 then cicWord false 16 0x10 15
  else if s = 18 then cicWord false 17 0x11 14
  else if s = 19 then cicWord false 18 0x10 6
  else if 24 ≤ s ∧ s ≤ 27 then cicWord true (20 + (s - 24)) 0x10 10
  else if 32 ≤ s ∧ s ≤ 34 then cicWord false (24 + (s - 32)) 0x10 7
  else if 35 ≤ s ∧ s ≤ 38 then cicWord false (27 + (s - 35)) 0x10 7
  else if s = 40 then cicWord true 0 0x01 8
  else if 48 ≤ s ∧ s ≤ 63 then cicWord false (32 + (s - 48)) 0x11 9
  else if 64 ≤ s ∧ s ≤ 95 then cicWord false (48 + (s - 64)) 0x10 8
  else if s = 96 then cicWord false 19 0x01 4
  else if s = 97 then cicWord false 19 0x11 12
  else if s = 98 then cicWord false 19 0x1F 15
  else if s = 99 then cicWord false 19 0x10 11
  else if s = 100 then cicWord false 19 0x10 11
  else if s = 101 then cicWord false 19 0x11 13
  else if s = 102 then cicWord true 31 0x10 9
  else if 128 ≤ s ∧ s ≤ 191 then cicWord true (80 + (s - 128)) 0x10 14
  else if 192 ≤ s ∧ s ≤ 255 then cicWord false (144 + (s - 192)) 0x10 12
  else if 256 ≤ s ∧ s ≤ 319 then cicWord true (208 + (s - 256) / 8) 0x10 10
  else if 320 ≤ s ∧ s ≤ 383 then cicWord true 0 (2 ^ ((s - 320) % 4)) 8
  else if s = 384 ∨ s = 385 then cicWord true 0 0x01 5
  else if 448 ≤ s ∧ s ≤ 511 then cicWord true 0 0 0
  else 0

/-- Is `s` a source of R320? -/
def cicListed (s : Nat) : Bool :=
  (1 ≤ s ∧ s ≤ 19) ∨ (24 ≤ s ∧ s ≤ 27) ∨ (32 ≤ s ∧ s ≤ 38) ∨ s = 40 ∨ (48 ≤ s ∧ s ≤ 102) ∨
    (128 ≤ s ∧ s ≤ 385) ∨ (448 ≤ s ∧ s ≤ 511)

/-- The reset warn limits of sensor `i` (R362): HIGH, then LOW. -/
def snsReset (i : Nat) : Word :=
  let w (h l : Nat) : Word := BitVec.ofNat 32 (h * 0x10000 + l)
  if i ≤ 67 then w 0x05F0 0x8000 else if i ≤ 75 then w 0x0580 0x8000
  else if i = 76 then w 870 630 else if i = 77 then w 2700 0 else if i = 78 then w 788 713
  else if i = 79 then w 1155 1045 else if i = 80 then w 945 855 else if i = 81 then w 1260 1140
  else if i = 82 then w 840 760 else if i = 83 then w 5500 2800 else if i = 84 then w 3700 2200
  else 0

/-- The reset value of the register at a BAR0 offset (R7); 0 where no register lies (R11). Region 0 of
the Deep Store is FIRMWARE from reset (R119). -/
def regReset (off : Nat) : Word :=
  if 0x10000 ≤ off ∧ off < 0x10800 then cicReset ((off - 0x10000) / 4)
  else if 0x201400 ≤ off ∧ off < 0x201400 + 93 * 4 then snsReset ((off - 0x201400) / 4)
  else if off = R.DS_REGION 0 then 0x900007F0
  else if off = R.DS_REGION_SIZE 0 then 0x00000010
  else match regRow off with
    | some r => resetWord r.fields
    | none => 0

end Sys2Proof.Machine

namespace Sys2Proof

/-- The number of values a field holds. -/
def Field.size (f : Field) : Nat := 2 ^ (f.hi + 1 - f.lo)

/-- The value of a field in a register word. -/
def Field.of (f : Field) (w : Word) : Nat := w.toNat / 2 ^ f.lo % f.size

/-- A register word with a field replaced. -/
def Field.put (f : Field) (w : Word) (n : Nat) : Word :=
  BitVec.ofNat 32 (w.toNat % 2 ^ f.lo + (n % f.size) * 2 ^ f.lo + w.toNat / 2 ^ (f.hi + 1) * 2 ^ (f.hi + 1))

end Sys2Proof

namespace Sys2Proof.Machine

/-- The register at a BAR0 offset. -/
def State.reg (s : State) (off : Nat) : Word := NMap.get regReset s.regs off

/-- Store a register word. -/
def State.setReg (s : State) (off : Nat) (w : Word) : State :=
  { s with regs := NMap.set regReset s.regs off w }

/-- A register field. -/
def State.fld (s : State) (off : Nat) (f : Field) : Nat := f.of (s.reg off)

/-- Store a register field; the register's other bits stay. -/
def State.put (s : State) (off : Nat) (f : Field) (n : Nat) : State := s.setReg off (f.put (s.reg off) n)

/-- A one-bit field as a truth value. -/
def State.bit (s : State) (off : Nat) (f : Field) : Bool := s.fld off f == 1

/-- Hardware sets a one-bit field to 1; the bit counts as set in this period (R6). -/
def State.raise (s : State) (off : Nat) (f : Field) : State :=
  { s.put off f 1 with
    raised := NMap.set (fun _ => 0) s.raised off (f.put (NMap.get (fun _ => 0) s.raised off) 1) }

/-- Add to a saturating counter field. -/
def State.bump (s : State) (off : Nat) (f : Field) (n : Nat := 1) : State :=
  s.put off f (satAdd (f.size - 1) (s.fld off f) n)

/-- What a software write stores into a register (R4, R6): each field by its type. RW1 fields store as
RW; the caller keeps their one write. -/
def typedWrite (fs : List RegField) (old new : Word) : Word :=
  fs.foldl (fun w f =>
    let g : Field := ⟨f.hi, f.lo⟩
    match f.ty with
    | .rw | .rw1 => g.put w (g.of new)
    | .w1c => g.put w (g.of old &&& ((g.size - 1) ^^^ g.of new))
    | .w1s => g.put w (g.of old ||| g.of new)
    | .ro | .wo | .cf | .rsv => w) old

/-- The W1C and W1S fields of a register as a mask. -/
def eventMask (fs : List RegField) : Word :=
  fs.foldl (fun w f =>
    match f.ty with
    | .w1c | .w1s => Field.put ⟨f.hi, f.lo⟩ w (Field.size ⟨f.hi, f.lo⟩ - 1)
    | _ => w) 0

/-- The word of the register at `o` after a software write (R4, R6): a W1C or W1S bit that hardware has set in this
period ends set. -/
def State.written (s : State) (o : Nat) (fs : List RegField) (w : Word) : Word :=
  typedWrite fs (s.reg o) w ||| (s.reg o &&& NMap.get (fun _ => 0) s.raised o &&& eventMask fs)

/-- What a register reads as from its stored word (R4): WO and RSV fields read zero. -/
def typedRead (fs : List RegField) (w : Word) : Word :=
  fs.foldl (fun w f =>
    match f.ty with
    | .wo | .rsv => Field.put ⟨f.hi, f.lo⟩ w 0
    | _ => w) w

end Sys2Proof.Machine
end

