-- ==== Sys2Proof/Machine/Ops.lean ====
section
/-! DEFINITION. The named operations every family shares: free values, reporting a detected condition
(R58, R368), interrupt events, the event log, completions of mailbox commands, halts, bank words, Deep
Store bytes and time. -/

namespace Sys2Proof.Machine

/-- The outcome type of a meaning. -/
abbrev Out := Host.Outcome State Fault Refusal

/-! Free values (log 3). -/

/-- The next free value below `2^w`. -/
def State.freeVal (s : State) (w : Nat) : Nat := Config.freeNat s.freeCtr % 2 ^ w

/-- The state after a free value has been used. -/
def State.used (s : State) : State := { s with freeCtr := s.freeCtr + 1 }

/-! Time. -/

/-- DTC nanoseconds, 32 bits (R335). -/
def State.ns (s : State) : Nat := s.sched.dtc / 2 ^ 32 % 2 ^ 32

/-- DTC visible fraction, 16 bits (R335). -/
def State.frac16 (s : State) : Nat := s.sched.dtc / 2 ^ 16 % 2 ^ 16

/-- The wrap count (R335). -/
def State.wrap (s : State) : Nat := s.sched.dtc / 2 ^ 64 % 2 ^ 16

/-- The DTC in units of 2^-16 ns: 32 bits of ns above 16 of fraction (R130, R160). -/
def State.time48 (s : State) : Nat := s.sched.dtc / 2 ^ 16 % 2 ^ 48

/-- Tick count bits 31:0 of the present cycle, as location registers capture it (R58). -/
def State.tick32 (s : State) : Nat := s.sched.curTick.toNat % 2 ^ 32

/-! Device state (R16). -/

/-- DEVICE_STATE.RUN_STATE. -/
def State.runState (s : State) : Nat := s.fld R.DEVICE_STATE F.DEVICE_STATE_RUN_STATE

/-- Is an image committed? -/
def State.hasImage (s : State) : Bool := s.runState != 0

/-- Is the device halted at a tick boundary? -/
def State.halted (s : State) : Bool := s.runState == 1

/-- Is the device running, with or without a partial reload? -/
def State.isRunning (s : State) : Bool := s.runState == 2 || s.runState == 3

/-- The Pace profile (R1). -/
def State.pace (s : State) : Bool := s.bit R.DEVICE_STATE F.DEVICE_STATE_PROFILE

/-- Does the committed image use gallery `g`? -/
def State.inImage (s : State) (g : Nat) : Bool := s.bit (R.GAL_MODE g) F.GAL_MODE_IN_IMAGE

/-- Is gallery `g` four-state (R23)? -/
def State.four (s : State) (g : Nat) : Bool := s.bit (R.GAL_MODE g) F.GAL_MODE_FOUR_STATE

/-- PWR_GAL_STATE of gallery `g`: 0 On, 1 Idle, 2 Off, 3 in transition. -/
def State.galPower (s : State) (g : Nat) : Nat :=
  s.fld (R.PWR_GAL_STATE (g / 16)) ⟨2 * (g % 16) + 1, 2 * (g % 16)⟩

/-- Store PWR_GAL_STATE of gallery `g`. -/
def State.setGalPower (s : State) (g n : Nat) : State :=
  s.put (R.PWR_GAL_STATE (g / 16)) ⟨2 * (g % 16) + 1, 2 * (g % 16)⟩ n

/-- Is gallery `g` Off? -/
def State.isOff (s : State) (g : Nat) : Bool := s.galPower g == 2

/-- Does gallery `g` take steps (R17)? -/
def State.takesSteps (s : State) (g : Nat) : Bool := s.inImage g && !s.fab.isolated.contains g

/-- Halt at the end of the tick: R20 action 6. -/
def State.haltAtEnd (s : State) : State := { s with sched := { s.sched with haltPending := true } }

/-! Interrupt events (R319). -/

/-- KIND of CIC source `n`: is it EDGE? -/
def State.cicIsEdge (s : State) (n : Nat) : Bool := s.bit (R.CIC_SRC n) F.CIC_SRC_KIND

/-- An event on CIC source `n`: an EDGE source pends; a LEVEL source follows its input and stores
nothing; a reserved source never pends. -/
def State.cicEvent (s : State) (n : Nat) : State :=
  if cicListed n && s.cicIsEdge n then
    { s with cic := { s.cic with edge := NMap.set (fun _ => false) s.cic.edge n true } }
  else s

/-! The event log (R365, R366) and the error registry (R368, R369). -/

/-- The class of a detector (R369): 0 I, 1 C, 2 U, 3 F. -/
def detClass (block code : Nat) : Nat :=
  match block with
  | 0x01 => if code = 8 then 1 else if code = 11 then 0 else 2
  | 0x02 => 2
  | 0x03 => if code = 0 ∨ code = 6 then 1 else 2
  | 0x04 => if code ≤ 1 then 1 else 2
  | 0x05 => if code = 0x10 then 1 else if code = 0x12 then 0 else 2
  | 0x06 => 2
  | 0x07 => if code = 0 then 2 else 0
  | 0x08 => if code = 1 then 0 else 2
  | 0x09 => if code = 0x10 then 1 else 2
  | 0x0A => 2
  | 0x0B => if code = 2 ∨ code = 3 ∨ code = 7 then 1 else if code = 8 then 0 else 2
  | 0x0C => if code = 3 then 0 else if code = 4 then 3 else 2
  | 0x0D => 0
  | 0x0E => if code = 4 then 2 else 0
  | 0x0F => if code ≤ 1 then 1 else 3
  | _ =>
    if code = 0 ∨ code = 0x0A ∨ code = 0x0C ∨ code = 0x0D ∨ code = 0x10 then 0
    else if code = 1 ∨ code = 4 ∨ code = 6 ∨ code = 8 then 1
    else if code = 3 ∨ code = 5 then 3 else 2

/-- `n` little-endian bytes of a number (R3). -/
def leBytes : Nat → Nat → List Byte
  | 0, _ => []
  | n + 1, v => BitVec.ofNat 8 v :: leBytes n (v / 256)

/-- The bytes of registers, as an event's DATA holds them (R365). -/
def State.regBytes (s : State) (offs : List Nat) : List Byte := offs.flatMap (fun o => leBytes 4 (s.reg o).toNat)

/-- A log entry at the present time (R365, R366): while the fabric die is held in reset Lantern stamps it with
its own counter, whose value is free (log 3), and sets LOCAL. -/
def State.newEvent (s : State) (source code unit cls : Nat) (inj : Bool) (data : List Byte) : LogEvent :=
  let fabric := s.bit R.PWR_STATUS F.PWR_STATUS_PGOOD
  { time := if fabric then s.ns else s.freeVal 32, seq := 0, source := source, code := code, unit := unit,
    cls := cls, injected := inj, coalesced := false, isLocal := !fabric, repeats := 0, data := data,
    born := s.sched.now }

/-- Queue an event for Lantern to write (R366): beyond 256 waiting events it is dropped and counted. -/
def State.queueEvent (s : State) (e : LogEvent) : State :=
  let s := if e.isLocal then s.used else s
  if s.lnt.logQueue.length < 256 then { s with lnt := { s.lnt with logQueue := s.lnt.logQueue ++ [e] } }
  else { s with lnt := { s.lnt with logDropped := s.lnt.logDropped + 1 } }

/-- An event of a listed detector. -/
def State.logEvent (s : State) (source code unit : Nat) (inj : Bool := false) (data : List Byte := []) : State :=
  s.queueEvent (s.newEvent source code unit (detClass source code) inj data)

/-- Is a used injection point of this detector and unit waiting for its first detection (R370)? -/
def State.injectedHere (s : State) (block code unit : Nat) : Bool :=
  s.lnt.armed.any (fun a => a.block == block && a.code == code && a.unit == unit && a.used)

/-- Lantern sends a PlatformEventMessage when an event receiver is set (R359): it waits for the receiver. -/
def State.platformEvent (s : State) (block code unit : Nat) : State :=
  if s.lnt.receiver.isSome then { s with lnt := { s.lnt with events := s.lnt.events ++ [(block, code, unit)] } } else s

/-- A detector fires (R368): the class summary, the first-error capture for U and F, the counts, the
log entry; class F of ALL_CORES_FAULT and D2D_FAIL halts at the next T5. -/
def State.detect (s : State) (block code unit : Nat) (data : List Byte := []) : State :=
  let cls := detClass block code
  let inj := s.injectedHere block code unit
  let s := s.logEvent block code unit inj data
  let rest := s.lnt.armed.filter (fun a => !(a.block == block && a.code == code && a.unit == unit && a.used))
  let s := if inj then { s with lnt := { s.lnt with armed := rest } } else s
  let s := match cls with
    | 1 => (s.raise R.ERR_STATUS F.ERR_STATUS_CE).bump R.ERR_COUNT F.ERR_COUNT_CE
    | 2 => (s.raise R.ERR_STATUS F.ERR_STATUS_UE).bump R.ERR_COUNT F.ERR_COUNT_UE
    | 3 => (s.raise R.ERR_STATUS F.ERR_STATUS_FATAL).platformEvent block code unit
    | _ => s
  let s := if 2 ≤ cls ∧ s.bit R.ERR_FIRST F.ERR_FIRST_VALID = false then
      (((((s.put R.ERR_FIRST F.ERR_FIRST_CLASS cls).put R.ERR_FIRST F.ERR_FIRST_BLOCK block).put
        R.ERR_FIRST F.ERR_FIRST_CODE code).put R.ERR_FIRST F.ERR_FIRST_UNIT unit).raise
        R.ERR_FIRST F.ERR_FIRST_VALID).put R.ERR_FIRST_TIME F.ERR_FIRST_TIME_NS s.ns
    else s
  if (block = 0x0C ∧ code = 4) ∨ (block = 0x0F ∧ code = 2) then s.haltAtEnd else s

/-! Recording a condition (R58, R77, R104). -/

/-- The place a condition is recorded at: context, step, lane, chamber of the gallery. -/
structure Loc where
  ctx : Nat
  step : Nat
  bp : Nat
  cham : Nat
deriving DecidableEq, Repr

/-- The location of BP index `b` at the present step. -/
def State.locOf (s : State) (b : Nat) : Loc := ⟨s.sched.ctx, s.sched.step, b % 64, b / 64 % 16⟩

/-- R58: record condition `n` of GAL_ERR_STATUS in gallery `g`. -/
def State.record (s : State) (g n : Nat) (l : Loc) : State :=
  let s := s.raise (R.GAL_ERR_STATUS g) ⟨n, n⟩
  let s := if s.bit (R.GAL_ERR_LOC0 g) F.GAL_ERR_LOC0_VALID then s else
    ((((((s.put (R.GAL_ERR_LOC0 g) F.GAL_ERR_LOC0_CODE n).put
      (R.GAL_ERR_LOC0 g) F.GAL_ERR_LOC0_CONTEXT l.ctx).put
      (R.GAL_ERR_LOC0 g) F.GAL_ERR_LOC0_STEP l.step).put
      (R.GAL_ERR_LOC0 g) F.GAL_ERR_LOC0_BP l.bp).put
      (R.GAL_ERR_LOC0 g) F.GAL_ERR_LOC0_CHAMBER l.cham).raise
      (R.GAL_ERR_LOC0 g) F.GAL_ERR_LOC0_VALID).put (R.GAL_ERR_LOC1 g) F.GAL_ERR_LOC1_TICK s.tick32
  let s := s.detect 0x01 n g (s.regBytes [R.GAL_ERR_LOC0 g, R.GAL_ERR_LOC1 g])
  if n ≤ 10 ∧ n ≠ 5 ∧ s.fld (R.GAL_ERR_ACTION g) ⟨n, n⟩ = 1 then s.haltAtEnd else s

/-- R77: record schedule condition `n` in gallery `g`; `port` and `entry` are those of a NO_ARRIVAL and
0 otherwise. -/
def State.recordSched (s : State) (g n : Nat) (l : Loc) (port : Nat := 0) (entry : Nat := 0) : State :=
  let s := s.raise (R.GAL_SCHED_ERR g) ⟨n, n⟩
  let s := if s.bit (R.GAL_SCHED_LOC0 g) F.GAL_SCHED_LOC0_VALID then s else
    ((((((((s.put (R.GAL_SCHED_LOC0 g) F.GAL_SCHED_LOC0_CODE n).put
      (R.GAL_SCHED_LOC0 g) F.GAL_SCHED_LOC0_CONTEXT l.ctx).put
      (R.GAL_SCHED_LOC0 g) F.GAL_SCHED_LOC0_STEP l.step).put
      (R.GAL_SCHED_LOC0 g) F.GAL_SCHED_LOC0_BP l.bp).put
      (R.GAL_SCHED_LOC0 g) F.GAL_SCHED_LOC0_CHAMBER l.cham).raise
      (R.GAL_SCHED_LOC0 g) F.GAL_SCHED_LOC0_VALID).put
      (R.GAL_SCHED_LOC1 g) F.GAL_SCHED_LOC1_TICK s.tick32).put
      (R.GAL_SCHED_LOC2 g) F.GAL_SCHED_LOC2_PORT port).put
      (R.GAL_SCHED_LOC2 g) F.GAL_SCHED_LOC2_ENTRY entry
  let s := s.detect 0x02 n g (s.regBytes [R.GAL_SCHED_LOC0 g, R.GAL_SCHED_LOC1 g, R.GAL_SCHED_LOC2 g])
  if s.fld (R.GAL_SCHED_ACTION g) ⟨n, n⟩ = 1 then s.haltAtEnd else s

/-- The agents of GAL_DM_LOC.AGENT (R105). -/
inductive DmAgent where
  | schedule (lane : Nat) | noc | drip | engine | march
deriving DecidableEq, Repr

/-- The AGENT code of R105. -/
def DmAgent.code : DmAgent → Nat
  | .schedule _ => 0 | .noc => 1 | .drip => 2 | .engine => 3 | .march => 4

/-- R104, R106: record condition `n` of GAL_DM_STATUS in gallery `g`; DM_UE (1), STEAL_TIMEOUT (2) and
DS_UE (4) capture the location. -/
def State.recordDm (s : State) (g n : Nat) (a : DmAgent) (cham word step : Nat) : State :=
  let s := s.raise (R.GAL_DM_STATUS g) ⟨n, n⟩
  let s := if (n = 1 ∨ n = 2 ∨ n = 4) ∧ s.bit (R.GAL_DM_LOC g) F.GAL_DM_LOC_VALID = false then
      let s := ((((s.put (R.GAL_DM_LOC g) F.GAL_DM_LOC_AGENT a.code).put
        (R.GAL_DM_LOC g) F.GAL_DM_LOC_CODE n).put (R.GAL_DM_LOC g) F.GAL_DM_LOC_CHAMBER cham).put
        (R.GAL_DM_LOC g) F.GAL_DM_LOC_WORD word).raise (R.GAL_DM_LOC g) F.GAL_DM_LOC_VALID
      match a with
      | .schedule lane =>
        ((((s.setReg (R.GAL_DM_LOC_STEP g) 0).raise (R.GAL_DM_LOC_STEP g) F.GAL_DM_LOC_STEP_SCHED).put
          (R.GAL_DM_LOC_STEP g) F.GAL_DM_LOC_STEP_CONTEXT s.sched.ctx).put
          (R.GAL_DM_LOC_STEP g) F.GAL_DM_LOC_STEP_STEP step).put
          (R.GAL_DM_LOC_STEP g) F.GAL_DM_LOC_STEP_BP lane |>.put
          (R.GAL_DM_LOC_TICK g) F.GAL_DM_LOC_TICK_TICK s.tick32
      | _ => (s.setReg (R.GAL_DM_LOC_STEP g) 0).setReg (R.GAL_DM_LOC_TICK g) 0
    else s
  let s := s.detect 0x03 n g (s.regBytes [R.GAL_DM_LOC g, R.GAL_DM_LOC_STEP g, R.GAL_DM_LOC_TICK g])
  match a with
  | .schedule _ =>
    if (n = 1 ∧ s.bit (R.GAL_DM_CFG g) F.GAL_DM_CFG_HALT_DM_UE) ∨
       (n = 4 ∧ s.bit (R.GAL_DM_CFG g) F.GAL_DM_CFG_HALT_DS_UE) then s.haltAtEnd else s
  | _ => s

/-! Completions (R254, R258). -/

/-- SIZE of queue `q`. -/
def State.qSize (s : State) (q : Nat) : Nat := s.fld (R.MBX_Q_CFG q) F.MBX_Q_CFG_SIZE

/-- A completion entry as 32 bytes (R254), little-endian (R3). -/
def CqEntry.bytes (e : CqEntry) : List Byte :=
  leBytes 2 e.tag.toNat ++ leBytes 2 (e.sqIndex % 1024) ++ leBytes 2 e.status ++ leBytes 1 e.reason ++
  leBytes 1 (natOfBool e.phase + 2 * natOfBool e.progress + 4 * natOfBool e.remote) ++ leBytes 8 e.result0.toNat ++
  leBytes 8 e.result1.toNat ++ leBytes 4 e.time ++ leBytes 4 0

/-- The host address of completion entry `i` of queue `q` (R254). -/
def State.cqAddr (s : State) (q i : Nat) : Nat :=
  (s.reg (R.MBX_CQ_BASE_LO q)).toNat + (s.reg (R.MBX_CQ_BASE_HI q)).toNat * 2 ^ 32 + 32 * i

/-- Write one completion entry to its place in the ring: the write index advances modulo SIZE and the phase inverts at each
wrap. -/
def State.writeCq (s : State) (c : CmdId) (status reason : Nat) (progress : Bool) (r0 r1 : Dword) : State :=
  let i := NMap.get (fun _ => 0) s.mbx.cqIndex c.queue
  let ph := NMap.get (fun _ => true) s.mbx.cqPhase c.queue
  let i' := if s.qSize c.queue ≤ i + 1 then 0 else i + 1
  let e : CqEntry :=
    { queue := c.queue, index := i, tag := c.tag, sqIndex := c.sqIndex, status := status,
      reason := reason, phase := ph, progress := progress, remote := c.remote, result0 := r0,
      result1 := r1, time := s.ns }
  let used := NMap.get (fun _ => 0) s.mbx.cqUsed c.queue + 1
  { s with mbx := { s.mbx with
      cq := s.mbx.cq ++ [e],
      cqOut := s.mbx.cqOut ++ [(s.cqAddr c.queue i, e.bytes)],
      cqIndex := NMap.set (fun _ => 0) s.mbx.cqIndex c.queue i',
      cqPhase := NMap.set (fun _ => true) s.mbx.cqPhase c.queue (if i' = 0 then !ph else ph),
      cqUsed := NMap.set (fun _ => 0) s.mbx.cqUsed c.queue used } }

/-- An interrupt is due on MSI-X vector `v` (R285): its pending bit is set; MSIX_SEND sends it. -/
def State.msixDue (s : State) (v : Nat) : State :=
  { s with host := { s.host with msixPend := NMap.set (fun _ => false) s.host.msixPend v true } }

/-- The number of outstanding commands of queue `q` (R249). -/
def State.outstanding (s : State) (q : Nat) : Nat :=
  (s.mbx.outstanding.filter (fun p => p.1.queue == q)).length

/-- A queue's OUTSTANDING and IDLE fields follow its commands (R251). -/
def State.queueStatus (s : State) (q : Nat) : State :=
  let s := s.put (R.MBX_Q_STATUS q) F.MBX_Q_STATUS_OUTSTANDING (s.outstanding q)
  s.put (R.MBX_Q_STATUS q) F.MBX_Q_STATUS_IDLE
    (natOfBool (s.outstanding q == 0 && !s.bit (R.MBX_Q_CFG q) F.MBX_Q_CFG_ENABLE))

/-- Is the command outstanding (R249)? -/
def State.isOut (s : State) (c : CmdId) : Bool := s.mbx.outstanding.any (fun p => p.1 == c)

/-- A command completes (R254, R255): the entry, the interrupt when INTR is set, no longer outstanding. The
completion of a command that came through the tunnel goes back to its device (R259). A command that is no longer
outstanding, because a HOST reset or a core fault ended it, writes nothing (R252, R271). -/
def State.complete (s : State) (c : CmdId) (status : Nat) (r0 : Dword := 0) (r1 : Dword := 0)
    (reason : Nat := 0) : State :=
  if s.isOut c = false then s else
  let drop (s : State) : State :=
    { s with mbx := { s.mbx with
        outstanding := s.mbx.outstanding.filter (fun p => p.1 != c), entries := s.mbx.entries.filter (fun p => p.1 != c),
        unstarted := s.mbx.unstarted.filter (fun x => x != c), started := s.mbx.started.filter (fun x => x.cmd != c) } }
  match c.origin with
  | some d =>
    let e : CqEntry :=
      { queue := c.queue, index := 0, tag := c.tag, sqIndex := c.sqIndex, status := status, reason := reason,
        phase := false, progress := false, remote := true, result0 := r0, result1 := r1, time := s.ns }
    let s := drop s
    { s with mbx := { s.mbx with remoteOut := s.mbx.remoteOut ++ [(d, e)] } }
  | none =>
    let s := (drop (s.writeCq c status reason false r0 r1)).queueStatus c.queue
    if c.intr then s.msixDue (s.fld (R.MBX_Q_CFG c.queue) F.MBX_Q_CFG_VECTOR) else s

/-- Complete the command of an action when it has one. -/
def State.completeOpt (s : State) (c : Option CmdId) (status : Nat) (r0 : Dword := 0) (r1 : Dword := 0)
    (reason : Nat := 0) : State :=
  match c with
  | some c => s.complete c status r0 r1 reason
  | none => s

/-- Count an access that the DOMAIN_OFF proxy answers (R296): REQUESTS, POSTED or OTHER. -/
def State.countOff (s : State) (g : Nat) (posted : Bool) : State :=
  if posted then s.bump (R.NOC_OFF_COUNT g) F.NOC_OFF_COUNT_POSTED
  else s.bump (R.NOC_OFF_COUNT g) F.NOC_OFF_COUNT_REQUESTS

/-- A write in the register window of gallery `g` (R13): dropped and counted while the gallery is Off. -/
def State.window (s : State) (g : Nat) (f : State → State) : Out := .next (if s.isOff g then s.countOff g true else f s)

/-! Stores. -/

/-- The default of every two-valued store. -/
def dFalse (_ : Nat) : Bool := false
/-- The default of masks that are set at reset. -/
def dTrue (_ : Nat) : Bool := true
/-- The default of 64-bit stores. -/
def dZero64 (_ : Nat) : Dword := 0
/-- The default of 32-bit stores. -/
def dZero32 (_ : Nat) : Word := 0
/-- The default of counters. -/
def dZero (_ : Nat) : Nat := 0
/-- The default of error marks. -/
def dGood (_ : Nat) : EccMark := .good
/-- The default of net values: known 0. -/
def dNv (_ : Nat) : Nv := Nv.zero
/-- The default of byte stores. -/
def dByte (_ : Nat) : Byte := 0

/-- Bank word `w` of chamber `c` as stored (R95: an unlisted word is zero). -/
def State.dmWord (s : State) (c w : Nat) : Dword := NMap.get dZero64 s.mem.dm (c * 8192 + w)

/-- The error mark of a bank word. -/
def State.dmMark (s : State) (c w : Nat) : EccMark := NMap.get dGood s.mem.dmEcc (c * 8192 + w)

/-- Store a bank word with fresh check bits. -/
def State.dmStore (s : State) (c w : Nat) (d : Dword) : State :=
  { s with mem := { s.mem with dm := NMap.set dZero64 s.mem.dm (c * 8192 + w) d,
                               dmEcc := NMap.set dGood s.mem.dmEcc (c * 8192 + w) .good } }

/-- Merge the enabled bytes of `new` into `old`: mask bit j selects bits 8j+7:8j (R47). -/
def mergeBytes (mask : BitVec 8) (old new : Dword) : Dword :=
  (List.range 8).foldl (fun w j =>
    if mask.getLsbD j then
      (w &&& ~~~(0xFF#64 <<< (8 * j))) ||| (new &&& (0xFF#64 <<< (8 * j)))
    else w) old

/-- A Deep Store byte (R414: an unlisted byte reads 0). -/
def State.dsByte (s : State) (a : Nat) : Byte := NMap.get dByte s.mem.ds a

/-- Store a Deep Store byte. -/
def State.dsPut (s : State) (a : Nat) (b : Byte) : State :=
  { s with mem := { s.mem with ds := NMap.set dByte s.mem.ds a b } }

/-- Store a run of Deep Store bytes. -/
def State.dsPutAll (s : State) (a : Nat) : List Byte → State
  | [] => s
  | b :: bs => State.dsPutAll (s.dsPut a b) (a + 1) bs

/-- `n` Deep Store bytes from `a`. -/
def State.dsBytes (s : State) (a n : Nat) : List Byte := (List.range n).map (fun i => s.dsByte (a + i))

/-- Little-endian bits of a list as a number. -/
def bitsNat : List Bool → Nat
  | [] => 0
  | b :: bs => natOfBool b + 2 * bitsNat bs

/-- A little-endian number from bytes (R3). -/
def leNat : List Byte → Nat
  | [] => 0
  | b :: bs => b.toNat + 256 * leNat bs

/-- The 64-bit Deep Store word at word address `w` (R114). -/
def State.dsWord (s : State) (w : Nat) : Dword := BitVec.ofNat 64 (leNat (s.dsBytes (w * 8) 8))

/-- Store the enabled bytes of a 64-bit Deep Store word. -/
def State.dsWordPut (s : State) (w : Nat) (mask : BitVec 8) (d : Dword) : State :=
  s.dsPutAll (w * 8) (leBytes 8 (mergeBytes mask (s.dsWord w) d).toNat)

/-- The error mark of a Deep Store word. -/
def State.dsMark (s : State) (w : Nat) : EccMark := NMap.get dGood s.mem.dsEcc w

/-- The channel of a Deep Store byte address (R114). -/
def dsChannel (a : Nat) : Nat := (a / 2 ^ 8 % 32) ^^^ (a / 2 ^ 13 % 32)

/-- Is channel `n` ready (R268)? -/
def State.chanReady (s : State) (n : Nat) : Bool := s.fld R.DEVICE_READY2 ⟨n, n⟩ == 1

/-- The channels that `n` Deep Store bytes from `a` use, in address order. -/
def dsChannels (a n : Nat) : List Nat :=
  if n = 0 then [] else
  ((List.range ((a + n - 1) / 256 + 1 - a / 256)).map (fun i => dsChannel ((a / 256 + i) * 256))).eraseDups

/-- Are all the channels of a Deep Store range ready (R124)? -/
def State.rangeReady (s : State) (a n : Nat) : Bool := (dsChannels a n).all s.chanReady

/-- Is gallery `g` ready? -/
def State.galReady (s : State) (g : Nat) : Bool :=
  if g < 32 then s.fld R.DEVICE_READY0 ⟨g, g⟩ == 1 else s.fld R.DEVICE_READY1 ⟨g - 32, g - 32⟩ == 1

/-- Set or clear gallery `g`'s DEVICE_READY bit. -/
def State.setGalReady (s : State) (g : Nat) (v : Bool) : State :=
  if g < 32 then s.put R.DEVICE_READY0 ⟨g, g⟩ (natOfBool v)
  else s.put R.DEVICE_READY1 ⟨g - 32, g - 32⟩ (natOfBool v)

/-- Are all 32 Deep Store channels ready? -/
def State.allChannels (s : State) : Bool := s.reg R.DEVICE_READY2 == 0xFFFFFFFF

/-! Deep Store regions (R117 to R119). -/

/-- Base, in bytes, of region `n`. -/
def State.regionBase (s : State) (n : Nat) : Nat := s.fld (R.DS_REGION n) F.DS_REGION_BASE * 2 ^ 24

/-- Size, in bytes, of region `n`; 0 when it is not valid. -/
def State.regionSize (s : State) (n : Nat) : Nat :=
  if s.bit (R.DS_REGION n) F.DS_REGION_VALID then s.fld (R.DS_REGION_SIZE n) F.DS_REGION_SIZE_SIZE * 2 ^ 24
  else 0

/-- Does region `n` hold byte address `a`? -/
def State.inRegion (s : State) (n a : Nat) : Bool :=
  Nat.ble (s.regionBase n) a && Nat.blt a (s.regionBase n + s.regionSize n)

/-- The kind of the region that holds byte address `a` (R117); 0 is FREE. -/
def State.kindAt (s : State) (a : Nat) : Nat :=
  match (List.range 16).find? (fun n => s.inRegion n a) with
  | some n => s.fld (R.DS_REGION n) F.DS_REGION_KIND
  | none => 0

/-- May BAR2, DMA or a command core read the address (R117)? -/
def State.hostMayRead (s : State) (a : Nat) : Bool := [0, 2, 3].contains (s.kindAt a)

/-- May BAR2, DMA or a command core write the address (R117)? -/
def State.hostMayWrite (s : State) (a : Nat) : Bool := [0, 2].contains (s.kindAt a)

/-- Would a region of `size` units at `base` overlap a valid region other than those in `skip`
(R118)? -/
def State.overlaps (s : State) (base size : Nat) (skip : List Nat) : Bool :=
  (List.range 16).any (fun n =>
    !skip.contains n && s.bit (R.DS_REGION n) F.DS_REGION_VALID &&
    Nat.blt base (s.fld (R.DS_REGION n) F.DS_REGION_BASE + s.fld (R.DS_REGION_SIZE n) F.DS_REGION_SIZE_SIZE) &&
    Nat.blt (s.fld (R.DS_REGION n) F.DS_REGION_BASE) (base + size))

/-- Assign region `n`. -/
def State.assignRegion (s : State) (n kind base size : Nat) : State :=
  ((((s.setReg (R.DS_REGION n) 0).put (R.DS_REGION n) F.DS_REGION_KIND kind).put
    (R.DS_REGION n) F.DS_REGION_BASE base).raise (R.DS_REGION n) F.DS_REGION_VALID).put
    (R.DS_REGION_SIZE n) F.DS_REGION_SIZE_SIZE size

/-- Release region `n`. -/
def State.releaseRegion (s : State) (n : Nat) : State :=
  (s.setReg (R.DS_REGION n) 0).setReg (R.DS_REGION_SIZE n) 0

/-! Passage conditions (R153, R156). -/

/-- Record condition `n` of PSG_ERR on port `p`, with the flit index where one applies. -/
def State.recordPsg (s : State) (p n : Nat) (flit : Nat := 0) : State :=
  let s := s.raise (R.PSG_ERR p) ⟨n, n⟩
  let s := if s.bit (R.PSG_ERR_LOC p) F.PSG_ERR_LOC_VALID then s else
    (((s.put (R.PSG_ERR_LOC p) F.PSG_ERR_LOC_CODE n).put (R.PSG_ERR_LOC p) F.PSG_ERR_LOC_FLIT flit).put
      (R.PSG_ERR_LOC p) F.PSG_ERR_LOC_TICK s.tick32).raise (R.PSG_ERR_LOC p) F.PSG_ERR_LOC_VALID
  s.detect 0x05 n p (s.regBytes [R.PSG_ERR_LOC p])

/-- Set bit `n` of LTC_STATUS. -/
def State.recordLtc (s : State) (n : Nat) : State :=
  (s.raise R.LTC_STATUS ⟨n, n⟩).detect 0x06 n 0

end Sys2Proof.Machine
end

