-- ==== Sys2Proof/Machine/Intr.lean ====
section
/-! DEFINITION. What raises a Warden's EDGE sources (12, R329), and the sensor readings as Lantern acts on
them (14, R362, R363). -/

namespace Sys2Proof.Machine

/-- An EDGE source of gallery `g`'s Warden pends (R329); 12 to 15 are reserved; an Off gallery's unit has no
state (R334). -/
def State.wardenPend (s : State) (g i : Nat) : State :=
  if s.isOff g ∨ (12 ≤ i ∧ i ≤ 15) ∨ 32 ≤ i then s
  else { s with wiu := { s.wiu with pend := NMap.set dFalse s.wiu.pend (g * 32 + i) true } }

/-- The same source of several galleries. -/
def State.wardenPendAll (s : State) (gs : List Nat) (i : Nat) : State :=
  gs.foldl (fun s g => s.wardenPend g i) s

/-! Sensors (R362). -/

/-- A 16-bit reading as a temperature: signed, in 1/16 °C. -/
def asTemp (w : Nat) : Int := if w < 32768 then (w : Int) else (w : Int) - 65536

/-- Does sensor `i` give a valid sample? -/
def State.snsValid (s : State) (i : Nat) : Bool := s.bit (R.SNS_VALUE i) F.SNS_VALUE_VALID

/-- The temperature sensor `i` reads. -/
def State.temp (s : State) (i : Nat) : Int := asTemp (s.fld (R.SNS_VALUE i) F.SNS_VALUE_VALUE)

/-- The highest temperature of the valid sensors of a list; none when there is none. -/
def State.hottest (s : State) (is : List Nat) : Option Int :=
  (is.filter s.snsValid).foldl (fun m i =>
    match m with
    | some t => if t < s.temp i then some (s.temp i) else some t
    | none => some (s.temp i)) none

/-- The sensors of galleries, of the service die, of DRAM dies. -/
def galSensors : List Nat := List.range 64
/-- Service-die sensors. -/
def svcSensors : List Nat := [64, 65, 66, 67]
/-- DRAM sensors. -/
def dramSensors : List Nat := [68, 69, 70, 71, 72, 73, 74, 75]

/-- Has sensor `i` failed: ten periods in a row without a valid sample (R362)? -/
def State.snsFailed (s : State) (i : Nat) : Bool := Nat.ble 10 (NMap.get dZero s.lnt.missed i)

/-- The temperature Lantern acts on (R362): a failed gallery or DRAM sensor reads as the highest of the
others. -/
def State.reading (s : State) (i : Nat) : Option Int :=
  if s.snsValid i then some (s.temp i)
  else if s.snsFailed i && Nat.blt i 64 then s.hottest galSensors
  else if s.snsFailed i && Nat.ble 68 i then s.hottest dramSensors
  else none

/-- Is thermal sensor `i` at or above its HIGH warn limit (R363)? -/
def State.snsHot (s : State) (i : Nat) : Bool :=
  match s.reading i with
  | some t => decide (asTemp (s.fld (R.SNS_LIMIT i) F.SNS_LIMIT_HIGH) ≤ t)
  | none => false

/-- The THERMAL input of the CIC (R320, R363): a gallery, service-die or DRAM sensor at or above HIGH warn. -/
def State.thermalAlert (s : State) : Bool := (List.range 76).any s.snsHot

end Sys2Proof.Machine
end

