-- ==== Sys2Proof/Machine/TrcOps.lean ====
section
/-! DEFINITION. Trace encoders and their buffer: what every trace command and every clock or power change
shares (15, R379 to R389). -/

namespace Sys2Proof.Machine

/-! Packets (R380). -/

/-- A packet: SOURCE, TYPE, payload. -/
def trcWord (src ty payload : Nat) : Dword := BitVec.ofNat 64 (src * 2 ^ 57 + ty * 2 ^ 53 + payload % 2 ^ 53)

/-- The payload of TIMESTAMP, POWER_DOWN and SOURCE_OFF: wrap count bits 4:0, ns, fraction. -/
def State.trcTime (s : State) : Nat := s.wrap % 32 * 2 ^ 48 + s.time48

/-- The default of FIFO stores. -/
def dFifo (_ : Nat) : List Dword := []
/-- The default of outcome stores. -/
def dOutcomes (_ : Nat) : List Bool := []

/-- The FIFO of source `k`. -/
def State.trcFifo (s : State) (k : Nat) : List Dword := NMap.get dFifo s.trc.fifo k

/-- Store a FIFO; TRC_SRC_STATUS.LEVEL and TRC_STATUS.IDLE follow. -/
def State.setFifo (s : State) (k : Nat) (l : List Dword) : State :=
  let s := { s with trc := { s.trc with fifo := NMap.set dFifo s.trc.fifo k l } }
  (s.put (R.TRC_SRC_STATUS k) F.TRC_SRC_STATUS_LEVEL l.length).put R.TRC_STATUS F.TRC_STATUS_IDLE
    (natOfBool (!s.bit R.TRC_CTL F.TRC_CTL_ENABLE && s.trc.fifo.isEmpty))

/-- Store the count of lost packets; LOST saturates at 0xFFFF. -/
def State.setLost (s : State) (k n : Nat) : State :=
  { s with trc := { s.trc with lost := NMap.set dZero s.trc.lost k n } }.put (R.TRC_SRC_STATUS k) F.TRC_SRC_STATUS_LOST
    (satAdd 0xFFFF n 0)

/-- A packet is lost (R384): LOST counts it; the first since OVERFLOW_SEEN was cleared raises
TRACE_OVERFLOW. -/
def State.dropPacket (s : State) (k : Nat) : State :=
  let s := s.setLost k (NMap.get dZero s.trc.lost k + 1)
  if s.bit R.TRC_STATUS F.TRC_STATUS_OVERFLOW_SEEN then s
  else (s.raise R.TRC_STATUS F.TRC_STATUS_OVERFLOW_SEEN).cicEvent 385

/-- Put a packet into the FIFO of source `k` (R383, R384): 30 of its 32 slots take any packet, the last two
only POWER_DOWN, SOURCE_OFF and OVERFLOW. -/
def State.pushPacket (s : State) (k ty payload : Nat) : State :=
  let l := s.trcFifo k
  if l.length < (if ty = 6 ∨ ty = 8 ∨ ty = 9 then 32 else 30) then
    let s := s.setFifo k (l ++ [trcWord k ty payload])
    { s with trc := { s.trc with count := NMap.set dZero s.trc.count k (NMap.get dZero s.trc.count k + 1) } }
  else s.dropPacket k

/-! What an encoder writes (R379, R381). -/

/-- Is source `k` traced: TRC_CTL.ENABLE, its ENABLE and the state RUNNING (R379, R382)? -/
def State.tracing (s : State) (k : Nat) : Bool :=
  s.bit R.TRC_CTL F.TRC_CTL_ENABLE && s.bit (R.TRC_SRC_CFG k) F.TRC_SRC_CFG_ENABLE &&
    s.bit (R.TRC_SRC_STATUS k) F.TRC_SRC_STATUS_RUNNING

/-- The collected outcomes of source `k`. -/
def State.trcOutcomes (s : State) (k : Nat) : List Bool := NMap.get dOutcomes s.trc.outcomes k

/-- Store the collected outcomes. -/
def State.setOutcomes (s : State) (k : Nat) (l : List Bool) : State :=
  { s with trc := { s.trc with outcomes := NMap.set dOutcomes s.trc.outcomes k l } }

/-- The BRANCH payload of the collected outcomes: COUNT and the outcomes, bit 0 oldest. -/
def branchPayload (l : List Bool) : Nat :=
  l.length * 2 ^ 47 + l.foldr (fun b n => natOfBool b + 2 * n) 0

/-- Write BRANCH when outcomes are collected (R381). -/
def State.flushBranch (s : State) (k : Nat) : State :=
  let l := s.trcOutcomes k
  if l.isEmpty then s else (s.setOutcomes k []).pushPacket k 2 (branchPayload l)

/-- SYNC then TIMESTAMP; the count of packets since SYNC begins again (R381). -/
def State.syncPackets (s : State) (k : Nat) : State :=
  let s := (s.pushPacket k 1 (NMap.get dZero s.trc.addr k)).pushPacket k 5 s.trcTime
  { s with trc := { s.trc with count := NMap.set dZero s.trc.count k 0 } }

/-- The interval of 2^TS_LOG2 µs of DTC time (R381; TS_LOG2 above 10 acts as 10) in which the counter stands. -/
def State.stampAt (s : State) (k : Nat) : Nat :=
  (s.wrap * 2 ^ 32 + s.ns) / (1000 * 2 ^ Nat.min 10 (s.fld (R.TRC_SRC_CFG k) F.TRC_SRC_CFG_TS_LOG2))

/-- The interval's TIMESTAMP has been written. -/
def State.stamped (s : State) (k : Nat) : State :=
  { s with trc := { s.trc with stamps := NMap.set dZero s.trc.stamps k (s.stampAt k) } }

/-- The trace of source `k` starts: SYNC, TIMESTAMP (R381). -/
def State.startPackets (s : State) (k : Nat) : State := (s.syncPackets k).stamped k

/-- Packets of a source between SYNCs: SYNC_LOG2, below 6 as 6, above 14 as 14. -/
def State.syncEvery (s : State) (k : Nat) : Nat :=
  let n := s.fld (R.TRC_SRC_CFG k) F.TRC_SRC_CFG_SYNC_LOG2
  2 ^ (if n < 6 then 6 else if 14 < n then 14 else n)

/-- SYNC and TIMESTAMP when they are due (R381). -/
def State.syncDue (s : State) (k : Nat) : State :=
  if s.syncEvery k ≤ NMap.get dZero s.trc.count k then s.syncPackets k else s

/-- Write one packet: BRANCH first, SYNC and TIMESTAMP when they are due (R381). -/
def State.packet (s : State) (k ty payload : Nat) : State := ((s.flushBranch k).pushPacket k ty payload).syncDue k

/-- The SYNC payload: MODE and address bits 47:2; a Warden's addresses are 32 bits. -/
def syncPayload (k mode addr : Nat) : Nat :=
  mode % 4 * 2 ^ 51 + (if k < 4 then addr % 2 ^ 46 else addr % 2 ^ 30)

/-- The instruction that source `k` executes next. -/
def State.setTrcAddr (s : State) (k mode addr : Nat) : State :=
  { s with trc := { s.trc with addr := NMap.set dZero s.trc.addr k (syncPayload k mode addr) } }

/-! The buffer (R383, R385). -/

/-- The level of FILL mode. -/
def State.trcLevel (s : State) : Nat :=
  (s.fld R.TRC_WR_PTR F.TRC_WR_PTR_SLOT + 65536 - s.fld R.TRC_RD_PTR F.TRC_RD_PTR_SLOT) % 65536

/-- FULL and the watermark follow the level (R385): raised once when it rises to TRC_WATERMARK, again only after
it has fallen below. -/
def State.trcMark (s : State) : State :=
  if s.bit R.TRC_CTL F.TRC_CTL_MODE = false then s.put R.TRC_STATUS F.TRC_STATUS_FULL 0
  else
    let n := s.trcLevel
    let w := s.fld R.TRC_WATERMARK F.TRC_WATERMARK_LEVEL
    let s := s.put R.TRC_STATUS F.TRC_STATUS_FULL (natOfBool (n == 65535))
    if n < w then { s with trc := { s.trc with marked := false } }
    else if w = 0 ∨ s.trc.marked then s
    else ({ s with trc := { s.trc with marked := true } }.raise R.TRC_STATUS F.TRC_STATUS_WATERMARK_HIT).cicEvent 384

/-- May the buffer accept a packet (R385)? -/
def State.trcRoom (s : State) : Bool := !s.bit R.TRC_CTL F.TRC_CTL_MODE || Nat.blt s.trcLevel 65535

/-- The buffer takes the oldest packet of source `k` into slot TRC_WR_PTR. -/
def State.acceptPacket (s : State) (k : Nat) : State :=
  match s.trcFifo k with
  | [] => s
  | w :: r =>
    let i := s.fld R.TRC_WR_PTR F.TRC_WR_PTR_SLOT
    let s := s.setFifo k r
    let s := { s with trc := { s.trc with buf := NMap.set dZero64 s.trc.buf i w, last := k } }
    let s := s.put R.TRC_WR_PTR F.TRC_WR_PTR_SLOT (i + 1)
    let s := if i = 65535 ∧ s.bit R.TRC_CTL F.TRC_CTL_MODE = false then s.raise R.TRC_STATUS F.TRC_STATUS_WRAPPED else s
    s.trcMark

/-! Clock stop, power-off and reset (R387, R388). -/

/-- The clock of source `k` stops (R387): BRANCH, POWER_DOWN. -/
def State.trcStop (s : State) (k : Nat) : State :=
  let s := if s.tracing k then (s.flushBranch k).pushPacket k 6 s.trcTime else s
  s.put (R.TRC_SRC_STATUS k) F.TRC_SRC_STATUS_CLOCKED 0

/-- Source `k` runs again (R387, R388): POWER_UP with its KIND, SYNC, TIMESTAMP. -/
def State.trcStart (s : State) (k kind : Nat) : State :=
  let s := s.raise (R.TRC_SRC_STATUS k) F.TRC_SRC_STATUS_CLOCKED
  if s.tracing k then (s.pushPacket k 7 kind).startPackets k else s

/-- Drain the FIFO of source `k` into the buffer while it has room. -/
def State.drainFifo (s : State) (k : Nat) : Nat → State
  | 0 => s
  | n + 1 => if s.trcRoom then State.drainFifo (s.acceptPacket k) k n else s

/-- Source `k` loses power or enters reset (R388): BRANCH and SOURCE_OFF, then the FIFO drains; what is left is
discarded and counted, and OVERFLOW and SOURCE_OFF are written. -/
def State.trcOff (s : State) (k : Nat) : State :=
  if s.tracing k = false then s.put (R.TRC_SRC_STATUS k) F.TRC_SRC_STATUS_CLOCKED 0
  else
    let t := s.trcTime
    let s := State.drainFifo ((s.flushBranch k).pushPacket k 8 t) k 32
    let n := (s.trcFifo k).length
    let s := if n = 0 then s else
      let lost := NMap.get dZero s.trc.lost k + n
      ((s.setFifo k []).setLost k 0).pushPacket k 9 (satAdd 0xFFFFFFFF lost 0) |>.pushPacket k 8 t
    s.put (R.TRC_SRC_STATUS k) F.TRC_SRC_STATUS_CLOCKED 0

/-- A source that restarts does so at its reset vector, which the spec does not state (log 3). -/
def State.trcReset (s : State) (k kind : Nat) : State :=
  (s.setTrcAddr k (if k < 4 then 2 else 0) (s.freeVal 46)).used.trcStart k kind

/-- An Idle gallery's clock resumes (R397): its Warden's POWER source pends and its encoder writes POWER_UP. -/
def State.galleryOn (s : State) (g : Nat) : State :=
  ((s.wardenPend g 10).setGalPower g 0).trcStart (4 + g) 0

/-- A gallery that was Off is On and its Warden fetches from its reset vector (R388). -/
def State.wardenUp (s : State) (g : Nat) : State := (s.setGalPower g 0).trcReset (4 + g) 1

end Sys2Proof.Machine
end

