-- ==== Sys2Proof/Machine/Flags.lean ====
section
/-! DEFINITION. The value computations of the step words: the truth table index, exact X propagation,
the tri-state driver and combine tables, the pseudo-random generator (02, R32 to R57). -/

namespace Sys2Proof.Machine

/-- The index of R32: E·16 + A·8 + B·4 + C·2 + D. -/
def ttIndex (e a b c d : Bool) : Nat :=
  natOfBool e * 16 + natOfBool a * 8 + natOfBool b * 4 + natOfBool c * 2 + natOfBool d

/-- Truth-table bit `i` (R32). -/
def ttBit (t : Word) (i : Nat) : Bool := t.getLsbD i

/-- EVAL (R39): the table bit at the v bits; always known. -/
def evalBit (t : Word) (e a b c d : Nv) : Nv := Nv.ofBool (ttBit t (ttIndex e.v a.v b.v c.v d.v))

/-- The values an input may take (R40): its v when known, both when unknown. -/
def completions (n : Nv) : List Bool := if n.k then [n.v] else [false, true]

/-- Every table bit at an index consistent with the known inputs (R40). -/
def evalxBits (t : Word) (e a b c d : Nv) : List Bool :=
  (completions e).flatMap fun e' => (completions a).flatMap fun a' => (completions b).flatMap fun b' =>
    (completions c).flatMap fun c' => (completions d).map fun d' => ttBit t (ttIndex e' a' b' c' d')

/-- EVALX (R40): (t, 1) when every consistent index gives t, otherwise X. -/
def evalx (t : Word) (e a b c d : Nv) : Nv :=
  let bs := evalxBits t e a b c d
  if bs.all (fun x => x) then Nv.one else if bs.all (fun x => !x) then Nv.zero else Nv.x

/-- The driver table of R42: data, enable. -/
def driver (data enable : Nv) : Nv :=
  if enable.k then (if enable.v then (if data.k then data else Nv.x) else Nv.z) else Nv.x

/-- The combine table of R42: the merged value, and whether a known 0 met a known 1. -/
def combine (a b : Nv) : Nv × Bool :=
  if a = Nv.z then (b, false)
  else if b = Nv.z then (a, false)
  else if a.k && b.k then (if a.v = b.v then (a, false) else (Nv.x, true))
  else (Nv.x, false)

/-- The pull of R42. -/
def pulled (p : Pull) (n : Nv) : Nv :=
  if n = Nv.z then (match p with | .none => n | .down => Nv.zero | .up => Nv.one) else n

/-- RESOLVE (R42): the bus value and whether contention occurred. -/
def resolveBus (incoming d0 : Nv) (d1 : Option Nv) (p : Pull) : Nv × Bool :=
  let x := combine incoming d0
  let y := match d1 with | some d => combine x.1 d | none => (x.1, false)
  (pulled p y.1, x.2 || y.2)

/-- One advance of the pseudo-random generator (R57): the bit, the next state. -/
def prngNext (s : Word) : Bool × Word :=
  let e := s.getLsbD 0
  (e, if e then (s >>> 1) ^^^ 0x80200003#32 else s >>> 1)

/-- MATOM and ATOMIC (R48, R101): the word stored. -/
def atomicResult (swap : Bool) (old new : Dword) : Dword := if swap then new else old + new

end Sys2Proof.Machine
end

