-- ==== Sys2Proof/Machine/Operands.lean ====
section
/-! DEFINITION. Step words as bits (R34, R35, R41, R52, R56) and every operand form: net addresses,
generations, tags, the outcome of a read (R23 to R30), truth-table reads (R33). -/

namespace Sys2Proof.Machine

/-! Step-word decode and encode. -/

/-- The operand field whose G bit is bit `g` and whose address is the 11 bits below it. -/
def opndAt (w : Nat) (g : Nat) : Operand := ⟨w.testBit g, BitVec.ofNat 11 (w / 2 ^ (g - 11))⟩

/-- Operand A: G at 50, address 49:39. -/
def opndA (w : Nat) : Operand := opndAt w 50
/-- Operand B: G at 38, address 37:27. -/
def opndB (w : Nat) : Operand := opndAt w 38
/-- Operand C: G at 26, address 25:15. -/
def opndC (w : Nat) : Operand := opndAt w 26
/-- Operand D: G at 14, address 13:3. -/
def opndD (w : Nat) : Operand := opndAt w 14

/-- The bits of an operand field placed with its G bit at `g`. -/
def opndBits (o : Operand) (g : Nat) : Nat := natOfBool o.prev * 2 ^ g + o.addr.toNat * 2 ^ (g - 11)

/-- The absent operand: G and address zero. -/
def noOpnd : Operand := ⟨false, 0⟩

/-- PULL of R41; 0b11 is reserved. -/
def pullOf : Nat → Option Pull
  | 0 => some .none | 1 => some .down | 2 => some .up | _ => none

/-- The code of a PULL. -/
def pullCode : Pull → Nat
  | .none => 0 | .down => 1 | .up => 2

/-- ACTION of R41. -/
def busActionOf : Nat → BusAction
  | 0 => .none | 1 => .record | 2 => .interrupt | _ => .halt

/-- The code of an ACTION. -/
def busActionCode : BusAction → Nat
  | .none => 0 | .record => 1 | .interrupt => 2 | .halt => 3

/-- The CONST selector of R56; every other value is reserved. -/
def constOf (fn : Nat) : Option ConstSel :=
  if fn = 0 then some .zero else if fn = 1 then some .one else if fn = 2 then some .x
  else if fn = 3 then some .z else if fn = 8 then some .random
  else if h : fn - 0x40 < 64 then (if 0x40 ≤ fn then some (.tickBit ⟨fn - 0x40, h⟩) else none) else none

/-- The FN value of a CONST selector. -/
def constCode : ConstSel → Nat
  | .zero => 0 | .one => 1 | .x => 2 | .z => 3 | .random => 8 | .tickBit n => 0x40 + n.val

/-- ASSERT's FN (R52). -/
def assertOf (fn : Nat) : AssertAct := ⟨fn.testBit 3, fn.testBit 2, fn.testBit 1, fn.testBit 0⟩

/-- The FN value of an ASSERT action. -/
def assertCode (a : AssertAct) : Nat :=
  natOfBool a.xfire * 8 + natOfBool a.halt * 4 + natOfBool a.intr * 2 + natOfBool a.log

/-- Bits 49:3 with the G bits: the operand part of a word. -/
def opndPart (w : Nat) : Nat := bitsOf 50 3 w

/-- The operand part below operand A. -/
def belowA (w : Nat) : Nat := bitsOf 38 3 w

/-- The operand part below operand B. -/
def belowB (w : Nat) : Nat := bitsOf 26 3 w

/-- The operation a step word names (R35, R41, R52, R56); none where a field or an encoding is
reserved (R37). -/
def decodeOp (op fn w : Nat) : Option StepOp :=
  let f := BitVec.ofNat 8 fn
  let a := opndA w
  match op with
  | 0x00 => if fn = 0 ∧ opndPart w = 0 then some .nop else none
  | 0x01 => some (.eval f a (opndB w) (opndC w) (opndD w))
  | 0x02 => some (.evalx f a (opndB w) (opndC w) (opndD w))
  | 0x03 =>
    match pullOf (bitsOf 3 2 fn) with
    | none => none
    | some p =>
      if fn / 64 ≠ 0 then none
      else if fn.testBit 4 then
        (if belowB w = 0 then
          some (.resolve (fn.testBit 5) p (busActionOf (bitsOf 1 0 fn)) a (opndB w) none) else none)
      else some (.resolve (fn.testBit 5) p (busActionOf (bitsOf 1 0 fn)) a (opndB w)
        (some (opndC w, opndD w)))
  | 0x04 => some (.maddr f a (opndB w) (opndC w) (opndD w))
  | 0x05 => some (.mwdat f a (opndB w) (opndC w) (opndD w))
  | 0x06 => if fn = 0 ∧ belowA w = 0 then some (.mrd a) else none
  | 0x07 => if fn ≠ 0 ∧ belowA w = 0 then some (.mwr f a) else none
  | 0x08 => if fn ≤ 1 ∧ belowA w = 0 then some (.matom (fn == 1) a) else none
  | 0x09 => if fn = 0 ∧ belowA w = 0 then some (.mdeeprd a) else none
  | 0x0A => if fn ≠ 0 ∧ belowA w = 0 then some (.mdeepwr f a) else none
  | 0x0B => if h : fn < 192 then (if opndPart w = 0 then some (.pinin ⟨fn, h⟩) else none) else none
  | 0x0C => if h : fn < 192 then (if belowA w = 0 then some (.pinout ⟨fn, h⟩ a) else none) else none
  | 0x0D => if fn / 16 = 0 ∧ fn % 8 ≠ 0 ∧ belowA w = 0 then some (.assert (assertOf fn) a) else none
  | 0x0E => if h : fn < 64 then (if belowA w = 0 then some (.trig ⟨fn, h⟩ a) else none) else none
  | 0x0F => if h : fn < 16 then (if opndPart w = 0 then some (.sync ⟨fn, h⟩) else none) else none
  | 0x10 =>
    match constOf fn with
    | some c => if opndPart w = 0 then some (.const c) else none
    | none => none
  | _ => none

/-- Decode a 64-bit step word (R34). -/
def decodeStepWord (w : Dword) : Option StepWord :=
  let n := w.toNat
  match decodeOp (bitsOf 63 59 n) (bitsOf 58 51 n) n with
  | some op => some ⟨op, ⟨n.testBit 2, n.testBit 1, n.testBit 0⟩⟩
  | none => none

/-- Opcode, FN and operand bits of an operation (R34, R35). -/
def encodeOp : StepOp → Nat × Nat × Nat
  | .nop => (0x00, 0, 0)
  | .eval f a b c d => (0x01, f.toNat, opndBits a 50 + opndBits b 38 + opndBits c 26 + opndBits d 14)
  | .evalx f a b c d => (0x02, f.toNat, opndBits a 50 + opndBits b 38 + opndBits c 26 + opndBits d 14)
  | .resolve st p act a b none =>
    (0x03, natOfBool st * 32 + 16 + pullCode p * 4 + busActionCode act, opndBits a 50 + opndBits b 38)
  | .resolve st p act a b (some (c, d)) =>
    (0x03, natOfBool st * 32 + pullCode p * 4 + busActionCode act,
      opndBits a 50 + opndBits b 38 + opndBits c 26 + opndBits d 14)
  | .maddr f a b c d => (0x04, f.toNat, opndBits a 50 + opndBits b 38 + opndBits c 26 + opndBits d 14)
  | .mwdat f a b c d => (0x05, f.toNat, opndBits a 50 + opndBits b 38 + opndBits c 26 + opndBits d 14)
  | .mrd a => (0x06, 0, opndBits a 50)
  | .mwr m a => (0x07, m.toNat, opndBits a 50)
  | .matom sw a => (0x08, natOfBool sw, opndBits a 50)
  | .mdeeprd a => (0x09, 0, opndBits a 50)
  | .mdeepwr m a => (0x0A, m.toNat, opndBits a 50)
  | .pinin p => (0x0B, p.val, 0)
  | .pinout p a => (0x0C, p.val, opndBits a 50)
  | .assert x a => (0x0D, assertCode x, opndBits a 50)
  | .trig l a => (0x0E, l.val, opndBits a 50)
  | .sync b => (0x0F, b.val, 0)
  | .const c => (0x10, constCode c, 0)

/-- Encode a step word (R34). -/
def encodeStepWord (i : StepWord) : Dword :=
  let e := encodeOp i.op
  BitVec.ofNat 64 (e.1 * 2 ^ 59 + e.2.1 * 2 ^ 51 + e.2.2 +
    natOfBool i.m.p * 4 + natOfBool i.m.s * 2 + natOfBool i.m.k)

/-- The encodings R35 and R52 reserve: an empty byte mask, an ASSERT with no action. -/
def StepOpWf : StepOp → Bool
  | .mwr m _ => m != 0
  | .mdeepwr m _ => m != 0
  | .assert a _ => a.halt || a.intr || a.log
  | _ => true

/-- The operands an operation reads (R35). -/
def operandsOf : StepOp → List Operand
  | .eval _ a b c d | .evalx _ a b c d | .maddr _ a b c d | .mwdat _ a b c d => [a, b, c, d]
  | .resolve _ _ _ a b none => [a, b]
  | .resolve _ _ _ a b (some (c, d)) => [a, b, c, d]
  | .mrd a | .mwr _ a | .matom _ a | .mdeeprd a | .mdeepwr _ a | .pinout _ a | .assert _ a | .trig _ a => [a]
  | .nop | .pinin _ | .sync _ | .const _ => []

/-- May a word of this operation run in a gallery of this kind, in this lane (R35, R37)? -/
def legalIn (four : Bool) (lane : Nat) (op : StepOp) : Bool :=
  StepOpWf op &&
  (operandsOf op).all (fun o => !four || Nat.blt o.addr.toNat 1024) &&
  match op with
  | .evalx .. | .resolve .. => four
  | .maddr .. => Nat.blt lane 32
  | .assert a _ => four || !a.xfire
  | .const .x | .const .z => four
  | _ => true

/-! The net store (R23, R24). -/

/-- The gallery of a BP index. -/
def galOf (b : Nat) : Nat := b / 1024

/-- The first net address of the receive area (R24). -/
def rxBase (four : Bool) : Nat := if four then 512 else 1024

/-- The physical entry of net `n` that holds its v bit (R23). -/
def physV (four : Bool) (n : Nat) : Nat := if four then 2 * n else n

/-- The value of net `n` of BP `b` in a generation's store. -/
def netGet (m : NMap Bool) (four : Bool) (b n : Nat) : Nv :=
  if four then ⟨NMap.get dFalse m (b * 2048 + 2 * n), NMap.get dFalse m (b * 2048 + 2 * n + 1)⟩
  else ⟨NMap.get dFalse m (b * 2048 + n), true⟩

/-- Store the value of net `n` of BP `b`. -/
def netPut (m : NMap Bool) (four : Bool) (b n : Nat) (x : Nv) : NMap Bool :=
  if four then NMap.set dFalse (NMap.set dFalse m (b * 2048 + 2 * n) x.v) (b * 2048 + 2 * n + 1) x.k
  else NMap.set dFalse m (b * 2048 + n) x.v

/-- The tag of net `n` of BP `b`. -/
def tagGet (m : NMap Bool) (four : Bool) (b n : Nat) : Bool := NMap.get dFalse m (b * 2048 + physV four n)

/-- Set the tag of net `n` of BP `b`, on every physical entry of the net. -/
def tagSet (m : NMap Bool) (four : Bool) (b n : Nat) : NMap Bool :=
  if four then NMap.set dFalse (NMap.set dFalse m (b * 2048 + 2 * n) true) (b * 2048 + 2 * n + 1) true
  else NMap.set dFalse m (b * 2048 + n) true

/-- The value of a read that has none: 0, or X in a four-state gallery (R30, R76). -/
def absent (four : Bool) : Nv := if four then Nv.x else Nv.zero

/-- Write the current generation and set the tag (R36, R67). -/
def State.writeCur (s : State) (b n : Nat) (x : Nv) : State :=
  let f := s.four (galOf b)
  { s with fab := { s.fab with nsCur := netPut s.fab.nsCur f b n x, nsTag := tagSet s.fab.nsTag f b n } }

/-- Write the previous generation (R27, R176). -/
def State.writePrev (s : State) (b n : Nat) (x : Nv) : State :=
  { s with fab := { s.fab with nsPrev := netPut s.fab.nsPrev (s.four (galOf b)) b n x } }

/-- The previous-generation value of net `n` of BP `b`. -/
def State.prevNet (s : State) (b n : Nat) : Nv := netGet s.fab.nsPrev (s.four (galOf b)) b n

/-- The chain register of BP `b` (R29): 0 at step 0. -/
def State.chainOf (s : State) (b : Nat) : Nv := if s.sched.step = 0 then Nv.zero else NMap.get dNv s.fab.chain b

/-! Injection points (R370). -/

/-- Is a FAULT point armed and not yet used? -/
def State.isArmed (s : State) (block code unit : Nat) : Bool :=
  s.lnt.armed.any (fun a => a.block == block && a.code == code && a.unit == unit && !a.used)

/-- Use a FAULT point: it disarms; the first detection after the use carries INJECTED. -/
def State.useArmed (s : State) (block code unit : Nat) : State :=
  let mark (a : ArmedPoint) : ArmedPoint :=
    if a.block == block && a.code == code && a.unit == unit then { a with used := true } else a
  let s := { s with lnt := { s.lnt with armed := s.lnt.armed.map mark } }
  if s.fld R.ERR_INJ_LAST F.ERR_INJ_LAST_BLOCK = block ∧ s.fld R.ERR_INJ_LAST F.ERR_INJ_LAST_CODE = code ∧
     s.fld R.ERR_INJ_LAST F.ERR_INJ_LAST_UNIT = unit then s.put R.ERR_INJ_LAST F.ERR_INJ_LAST_ARMED 0 else s

/-! Operand reads (R28, R30). -/

/-- Does a read of operand `o` by BP `b` still wait for its arrival (R30, R72)? -/
def State.awaits (s : State) (b : Nat) (o : Operand) : Bool :=
  let f := s.four (galOf b)
  let n := o.addr.toNat
  !o.prev && Nat.ble (rxBase f) n && !tagGet s.fab.nsTag f b n &&
    !s.fab.ended.contains (b, n - rxBase f)

/-- R28: a parity mismatch of the entry read is recorded as NS_PARITY (6) and the parity rewritten. -/
def State.parityCheck (s : State) (b n : Nat) : State :=
  let g := galOf b
  let f := s.four g
  let armed := s.isArmed 0x01 6 g
  let s := if armed then s.useArmed 0x01 6 g else s
  let bad (p : Nat) : Bool := NMap.get dFalse s.fab.nsBad (b * 2048 + p)
  let p := physV f n
  if armed || bad p || (f && bad (p + 1)) then
    let m := NMap.set dFalse s.fab.nsBad (b * 2048 + p) false
    let m := if f then NMap.set dFalse m (b * 2048 + p + 1) false else m
    { s with fab := { s.fab with nsBad := m } }.record g 6 (s.locOf b)
  else s

/-- The value BP `b` reads for operand `o`, and what the read records (R30): FORWARD_READ (0) for a
current read of a result address not written in the cycle. -/
def State.readOpnd (s : State) (b : Nat) (o : Operand) : Nv × State :=
  let g := galOf b
  let f := s.four g
  let n := o.addr.toNat
  let s := s.parityCheck b n
  if o.prev then (netGet s.fab.nsPrev f b n, s)
  else if tagGet s.fab.nsTag f b n then (netGet s.fab.nsCur f b n, s)
  else if n < rxBase f then (absent f, s.record g 0 (s.locOf b))
  else (absent f, s)

/-- Read a list of operands in order. -/
def State.readAll (s : State) (b : Nat) : List Operand → List Nv × State
  | [] => ([], s)
  | o :: os =>
    let r := s.readOpnd b o
    let rs := State.readAll r.2 b os
    (r.1 :: rs.1, rs.2)

/-- Truth table `fn` of BP `b`'s chamber, with the parity check of R33: FT_PARITY is bit 7. -/
def State.readTable (s : State) (b : Nat) (fn : BitVec 8) : Word × State :=
  let g := galOf b
  let c := b / 64 % 16
  let armed := s.isArmed 0x01 7 g
  let s := if armed then s.useArmed 0x01 7 g else s
  let t := s.reg (R.GAL_FTABLE g c fn.toNat)
  if armed || NMap.get dFalse s.fab.ftBad (b / 64 * 256 + fn.toNat) then (t, s.record g 7 (s.locOf b)) else (t, s)

end Sys2Proof.Machine
end

