-- ==== Sys2Proof/Machine/DeepStore.lean ====
section
/-! DEFINITION. Checked reads and writes of Deep Store words (04, R115, R116) and of byte ranges. -/

namespace Sys2Proof.Machine

/-- Count an uncorrectable word of channel `ch` (R116). -/
def State.dsUe (s : State) (ch : Nat) : State := (s.bump (R.DS_CH_ERR ch) F.DS_CH_ERR_UE).detect 0x04 2 ch

/-- The abandoned bursts of words `w` to `w + n - 1` are over (R115): the next write of their blocks is made. -/
def State.writeDone (s : State) (w n : Nat) : State :=
  { s with mem := { s.mem with dsDrop := s.mem.dsDrop.filter (fun b => Nat.blt b (w / 8) || Nat.ble (w + n) (b * 8)) } }

/-- The uncorrectable bursts of words `w` to `w + n - 1` are over (R115): the next read of their blocks is good. -/
def State.readDone (s : State) (w n : Nat) : State :=
  { s with mem := { s.mem with dsUnread := s.mem.dsUnread.filter (fun b => Nat.blt b (w / 8) || Nat.ble (w + n) (b * 8)) } }

/-- Check one word of a burst that is read (R115, R116): the word, whether it is uncorrectable, the counts. A
single-bit error is corrected and written back. -/
def State.dsCheck (s : State) (w : Nat) : Dword × Bool × State :=
  let ch := dsChannel (w * 8)
  if s.mem.dsUnread.contains (w / 8) then (s.dsWord w, true, s.dsUe ch)
  else match s.dsMark w with
    | .good => (s.dsWord w, false, s)
    | .single =>
      (s.dsWord w, false,
        ({ s with mem := { s.mem with dsEcc := NMap.set dGood s.mem.dsEcc w .good } }.bump
          (R.DS_CH_ERR ch) F.DS_CH_ERR_CE).detect 0x04 0 ch)
    | .double => (s.dsWord w, true, s.dsUe ch)

/-- Read a Deep Store word (R115, R116). -/
def State.dsRead (s : State) (w : Nat) : Dword × Bool × State :=
  let r := s.dsCheck w
  (r.1, r.2.1, r.2.2.readDone w 1)

/-- Store into a Deep Store word with fresh check bits; an armed CE or UE point of the channel flips bits
of the word (R370). A scrub write-back of the word is abandoned (R373). -/
def State.dsCommit (s : State) (w : Nat) (mask : BitVec 8) (d : Dword) : State :=
  let ch := dsChannel (w * 8)
  let s := { s with mem := { s.mem with dsBack := s.mem.dsBack.filter (fun b => b != w) } }
  if s.isArmed 0x04 2 ch then
    let s := (s.dsWordPut w mask (d ^^^ 3)).useArmed 0x04 2 ch
    { s with mem := { s.mem with dsEcc := NMap.set dGood s.mem.dsEcc w .double } }
  else if s.isArmed 0x04 0 ch then
    let s := (s.dsWordPut w mask d).useArmed 0x04 0 ch
    { s with mem := { s.mem with dsEcc := NMap.set dGood s.mem.dsEcc w .single } }
  else
    let s := s.dsWordPut w mask d
    { s with mem := { s.mem with dsEcc := NMap.set dGood s.mem.dsEcc w .good } }

/-- Write one word of a burst under a byte mask (R116): a part of a word reads first and is not written
over a double-bit error; a burst that is abandoned (R115) writes nothing. -/
def State.dsPutWord (s : State) (w : Nat) (mask : BitVec 8) (d : Dword) : State :=
  if s.mem.dsDrop.contains (w / 8) then s
  else if mask = 0xFF then s.dsCommit w mask d
  else
    let r := s.dsCheck w
    if r.2.1 then r.2.2 else r.2.2.dsCommit w mask d

/-- Write a Deep Store word under a byte mask (R116). -/
def State.dsWrite (s : State) (w : Nat) (mask : BitVec 8) (d : Dword) : State := (s.dsPutWord w mask d).writeDone w 1

/-- Check `n` words from word address `w`: their bytes, whether one is uncorrectable. -/
def State.dsReadWords (s : State) (w : Nat) : Nat → List Byte × Bool × State
  | 0 => ([], false, s)
  | n + 1 =>
    let r := s.dsCheck w
    let t := State.dsReadWords r.2.2 (w + 1) n
    (leBytes 8 r.1.toNat ++ t.1, r.2.1 || t.2.1, t.2.2)

/-- Read `n` bytes from byte address `a` (the words they lie in). -/
def State.dsReadBytes (s : State) (a n : Nat) : List Byte × Bool × State :=
  let w := a / 8
  let k := (a + n + 7) / 8 - w
  let r := s.dsReadWords w k
  ((r.1.drop (a % 8)).take n, r.2.1, r.2.2.readDone w k)

/-- Write whole and part words from word address `w` (R116). -/
def State.dsWriteWords (s : State) (w : Nat) : List (BitVec 8 × Dword) → State
  | [] => s
  | (m, d) :: t => State.dsWriteWords (if m = 0 then s else s.dsPutWord w m d) (w + 1) t

/-- Cut bytes with enables into masked words. -/
def maskedWords : Nat → List (Option Byte) → List (BitVec 8 × Dword)
  | 0, _ => []
  | n + 1, l =>
    let h := l.take 8
    let m := (List.range 8).foldl (fun m i => match (h[i]?).join with | some _ => m + 2 ^ i | none => m) 0
    let d := leNat (h.map (fun b => b.getD 0))
    (BitVec.ofNat 8 m, BitVec.ofNat 64 d) :: maskedWords n (l.drop 8)

/-- Write at byte address `a` the bytes whose enable is set (R116). -/
def State.dsWriteSome (s : State) (a : Nat) (bs : List (Option Byte)) : State :=
  let l := List.replicate (a % 8) none ++ bs
  (s.dsWriteWords (a / 8) (maskedWords ((l.length + 7) / 8) l)).writeDone (a / 8) ((l.length + 7) / 8)

/-- Write `bs` at byte address `a`. -/
def State.dsWriteBytes (s : State) (a : Nat) (bs : List Byte) : State := s.dsWriteSome a (bs.map some)

/-- Clear the bytes `lo` to `hi - 1` with valid check bits (R414). -/
def State.dsZero (s : State) (lo hi : Nat) : State :=
  { s with mem := { s.mem with
      ds := NMap.keep s.mem.ds (fun a => Nat.blt a lo || Nat.ble hi a),
      dsEcc := NMap.keep s.mem.dsEcc (fun w => Nat.blt (w * 8) lo || Nat.ble hi (w * 8)) } }

end Sys2Proof.Machine
end

