-- ==== Sys2Proof/Machine/Network.lean ====
section
/-! DEFINITION. The Schedule Network and the passage of periods: latencies, sends, arrivals, receive
queues, held periods (03, R60 to R77). -/

namespace Sys2Proof.Machine

/-! Forces (R173 to R175). -/

/-- The value an entry gives in tick `t`: a deposit in its one cycle; a force from its last change at or
before `t`, none when that is a release. -/
def forceAt (e : ForceEntry) (t : BitVec 64) : Option Nv :=
  if e.deposit then (e.changes.find? (fun c => c.tick == t)).bind (fun c => c.val)
  else ((e.changes.filter (fun c => c.tick.ule t)).getLast?).bind (fun c => c.val)

/-- The force or deposit on a target of BP `b` in tick `t`: a force goes before a deposit. -/
def State.forceOn (s : State) (b : Nat) (tg : ForceTarget) (t : BitVec 64) : Option (Bool × Nv) :=
  let es := s.fab.forces.filter (fun e => e.bp == b && e.target == tg)
  match es.findSome? (fun e => if e.deposit then none else forceAt e t) with
  | some v => some (false, v)
  | none => (es.findSome? (fun e => if e.deposit then forceAt e t else none)).map (fun v => (true, v))

/-- A value as a force or deposit replaces it, with Echo's FORCED and DEPOSIT marks (R160). -/
def State.applyForce (s : State) (b : Nat) (t : ForceTarget) (x : Nv) : Nv × State :=
  match s.forceOn b t s.sched.curTick with
  | some (dep, v) =>
    (v, { s with echo := { s.echo with forced := s.echo.forced || !dep, deposited := s.echo.deposited || dep } })
  | none => (x, s)

/-! Arrivals (R64 to R67). -/

/-- Does receive record `w` match an arrival (R66, R67)? -/
def recvMatches (w : Word) (port step ctx : Nat) : Bool :=
  w.getLsbD 31 && bitsOf 30 28 w.toNat == port && bitsOf 19 10 w.toNat == step && w.getLsbD (20 + ctx)

/-- The receive record of BP `b` that an arrival matches: its index and word. -/
def State.recvFor (s : State) (b port step : Nat) : Option (Nat × Word) :=
  s.fab.recv.find? (fun e => e.1 / 1024 == b && recvMatches e.2 port step s.sched.ctx)

/-- Count an arrival discarded (R64, R76). -/
def State.rxDiscard (s : State) (g : Nat) : State := s.bump (R.GAL_RX_DISCARD g) F.GAL_RX_DISCARD_COUNT

/-- RX_PARITY (4): the record is used as stored (R77). -/
def State.recvParity (s : State) (b i : Nat) : State :=
  let g := galOf b
  let armed := s.isArmed 0x02 4 g
  let s := if armed then s.useArmed 0x02 4 g else s
  if armed || NMap.get dFalse s.fab.recvBad i then s.recordSched g 4 (s.locOf b) else s

/-- Land a value on a receive port of BP `b` (R67). A region in isolation discards it uncounted (R244). -/
def State.land (s : State) (b : Nat) (port : RxPort) (step : Nat) (x : Nv) : State :=
  let g := galOf b
  if s.fab.isolated.contains g then s else
  match s.recvFor b port.code step with
  | none => s.rxDiscard g
  | some (i, w) =>
    let s := s.recvParity b i
    let off := w.toNat % 1024
    let n := rxBase (s.four g) + off
    if s.fab.landed.contains (b, port.code, step) then s.recordSched g 0 (s.locOf b)
    else
      let s := { s with fab := { s.fab with landed := (b, port.code, step) :: s.fab.landed } }
      if s.fab.ended.contains (b, off) then s.rxDiscard g
      else if tagGet s.fab.nsTag (s.four g) b n then s.recordSched g 1 (s.locOf b)
      else
        let r := s.applyForce b (.entry off) x
        r.2.writeCur b n r.1

/-- Put an arrival in flight, in order of its landing period. -/
def insertArrival (a : Arrival) : List Arrival → List Arrival
  | [] => [a]
  | x :: xs => if a.due < x.due then a :: x :: xs else x :: insertArrival a xs

/-- Send an arrival that lands in `lat` periods. -/
def State.launch (s : State) (b : Nat) (port : RxPort) (step lat : Nat) (x : Nv) : State :=
  { s with fab := { s.fab with inflight := insertArrival ⟨b, port, step, x, s.sched.now + lat, 0⟩ s.fab.inflight } }

/-- Has this device reached step `m` of the cycle (R142)? In a hold and in turnover the count goes on by periods
(DEDUCED, log 13). -/
def State.reached (s : State) (m : Nat) : Bool :=
  Nat.ble m (s.sched.step + s.sched.holdLen) ||
    (s.sched.phase != .steps && Nat.ble (s.sched.tickPeriod + m + s.sched.cycleHolds) (s.sched.now + s.sched.holdLen))

/-- May one more value land in this period beside those in `used` (R60, R68, R143): one per port of a
BP; for LINK also 4 per chamber and 64 per gallery? -/
def portFree (used : List (Nat × Nat)) (a : Arrival) : Bool :=
  !used.contains (a.bp, a.port.code) &&
  (a.port != .link ||
    (Nat.blt (used.filter (fun u => u.2 == 5 && u.1 / 64 == a.bp / 64)).length 4 &&
     Nat.blt (used.filter (fun u => u.2 == 5 && u.1 / 1024 == a.bp / 1024)).length 64))

/-- Land what is due, at most one value per receive port and period (R68); answer what stays in
flight. -/
def landDue : List Arrival → List (Nat × Nat) → State → State × List Arrival
  | [], _, s => (s, [])
  | a :: as, used, s =>
    if a.due ≤ s.sched.now ∧ s.reached a.minStep ∧ portFree used a then
      landDue as ((a.bp, a.port.code) :: used) (s.land a.bp a.port a.step a.val)
    else
      let r := landDue as used s
      (r.1, a :: r.2)

/-! Merge points (R60, R68). A merge point is named by numbers: 1 the up-lanes of a chamber, 2 the down-lanes of a
chamber, 3 the injection lanes of a gallery, 4 a mesh link from one gallery to the next, 5 the ejection lanes of a
gallery, 6 the mesh-in lanes of a chamber; 0 is a receive port, of a BP by its code. -/

/-- How many values a merge point passes in a period (R60). -/
def mergeCapacity : List Nat → Nat
  | 0 :: _ => 1
  | 1 :: _ | 2 :: _ => 16
  | 6 :: _ => 8
  | _ => 32

/-- The gallery that holds a merge point, and the first BP behind it (R75). -/
def mergeBp : List Nat → Nat
  | 0 :: b :: _ => b
  | 1 :: c :: _ | 2 :: c :: _ | 6 :: c :: _ => c * 64
  | _ :: g :: _ => g * 1024
  | _ => 0

/-- Values that have passed their last merge point are on their way to their ports. -/
def spreadOut (f : Flight) (due : Nat) (q : List Arrival) : List Arrival :=
  f.dests.foldl (fun q d => insertArrival ⟨d, f.port, f.step, f.val, due, 0⟩ q) q

/-- Put a value in line by the period in which it reaches its next merge point. -/
def insertFlight (f : Flight) : List Flight → List Flight
  | [] => [f]
  | x :: xs => if f.due < x.due then f :: x :: xs else x :: insertFlight f xs

/-- Period `now` at the merge points (R68): each passes as many values as it has lanes, in order of their coming;
answer the values that stay, those that have gone on, and the arrivals at ports. -/
def passMerges (now : Nat) : List Flight → List (List Nat) → List Arrival → List Flight × List Flight × List Arrival
  | [], _, q => ([], [], q)
  | f :: fs, used, q =>
    match f.ahead with
    | [] => passMerges now fs used (spreadOut f f.due q)
    | (k, gap) :: rest =>
      if f.due ≤ now ∧ used.count k < mergeCapacity k then
        let r := passMerges now fs (k :: used) (if rest = [] then spreadOut f (now + gap) q else q)
        (r.1, if rest = [] then r.2.1 else insertFlight { f with ahead := rest, due := now + gap } r.2.1, r.2.2)
      else
        let r := passMerges now fs used q
        (f :: r.1, r.2.1, r.2.2)

/-- The values that wait at merge points and receive ports in period `now` beyond what has passed, by their queue. -/
def waitingAt (now : Nat) (reached : Nat → Bool) (fs : List Flight) (as : List Arrival) : List (List Nat) :=
  fs.filterMap (fun f => if f.due ≤ now then (f.ahead.head?).map (fun k => k.1) else none) ++
  as.filterMap (fun a => if a.due ≤ now ∧ reached a.minStep then some [0, a.bp, a.port.code] else none)

/-- The queues that hold issue by a count (R68): one joins at 6 values and leaves at 4. -/
def fullQueues (late old : List (List Nat)) : List (List Nat) :=
  late.eraseDups.filter (fun k => Nat.ble 6 (late.count k) || (old.contains k && Nat.ble 5 (late.count k)))

/-- The queues that hold issue in the next period by the count of this period (R68). -/
def State.queuesAfter (s : State) : List (List Nat) :=
  fullQueues (waitingAt s.sched.now s.reached s.fab.flights s.fab.inflight) s.sched.counted

/-! Time (R335, R338). DTC values have 80 bits in units of 2^-32 ns. -/

/-- Has DTC value `a` reached `b`? -/
def dtcReached (a b : Nat) : Bool := Nat.blt ((a + 2 ^ 80 - b % 2 ^ 80) % 2 ^ 80) (2 ^ 79)

/-- The DTC and the slew remainder after one period. -/
def dtcAfter (dtc incr : Nat) (slew : Int) : Nat × Int :=
  let d := incr / 2048
  let a : Int := if slew < 0 then -(min (d : Int) (-slew)) else min (d : Int) slew
  (((dtc + incr : Int) + a).toNat % 2 ^ 80, slew - a)

/-- One step-clock period passes: time advances, a step of the DTC takes effect (R338), values pass merge points and arrivals land. -/
def State.elapse (s : State) : State :=
  let t := dtcAfter s.sched.dtc (s.reg R.TB_INCR).toNat s.tb.slew
  let s := { s with sched := { s.sched with now := s.sched.now + 1, dtc := (((t.1 : Int) + s.tb.stepDue) % 2 ^ 80).toNat },
                    tb := { s.tb with slew := t.2, stepDue := 0 },
                    fab := { s.fab with bankUse := [] }, raised := [] }
  let s := s.put R.TB_STATUS F.TB_STATUS_SLEW_ACTIVE (natOfBool (s.tb.slew != 0))
  let s := s.setReg R.TB_SLEW (BitVec.ofInt 32 (s.tb.slew / 2 ^ 16))
  let m := passMerges s.sched.now s.fab.flights [] s.fab.inflight
  let s := { s with fab := { s.fab with flights := m.2.1.foldl (fun q f => insertFlight f q) m.1 } }
  let r := landDue m.2.2 [] s
  let s := { r.1 with fab := { r.1.fab with inflight := r.2 } }
  { s with sched := { s.sched with backlog := s.sched.counted, counted := s.queuesAfter } }

/-- `n` periods pass. -/
def State.elapseN : Nat → State → State
  | 0, s => s
  | n + 1, s => State.elapseN n s.elapse

/-! Held periods (R74, R75). -/

/-- Who waits in a held period: gallery, port code, BP, step. -/
structure Waiter where
  gal : Nat
  port : Nat
  bp : Nat
  step : Nat
deriving DecidableEq, Repr

/-- Count one more held period for the galleries that wait. -/
def countSlip (rs : List SlipRec) (w : Waiter) : List SlipRec :=
  if rs.any (fun r => r.gal == w.gal) then
    rs.map (fun r => if r.gal == w.gal then { r with len := r.len + 1 } else r)
  else rs ++ [⟨w.gal, w.port, w.bp, w.step, 1⟩]

/-- Keep the first waiter of each gallery. -/
def firstWaiters (ws : List Waiter) : List Waiter :=
  ws.foldl (fun acc w => if acc.any (fun a => a.gal == w.gal) then acc else acc ++ [w]) []

/-- SCHED_HOLD_LIMIT in force (R88): values below 0x1000 act as 0x1000. -/
def State.holdLimit (s : State) : Nat :=
  let l := s.fld R.SCHED_HOLD_LIMIT F.SCHED_HOLD_LIMIT_LIMIT
  if l < 0x1000 then 0x1000 else l

/-- One held period: SCHED_HOLD_COUNT, the SLIP_COUNT of each waiting gallery, SCHED_SYNC_COUNT when a
SYNC waits; the first period of a hold takes the hold limit (R88); the periods held at each step are kept for R152; then
the period passes. -/
def State.hold (s : State) (ws : List Waiter) (sync : Bool) : State :=
  let ws := firstWaiters ws
  let s := s.bump R.SCHED_HOLD_COUNT F.SCHED_HOLD_COUNT_COUNT
  let s := ws.foldl (fun s w => s.bump (R.GAL_SLIP_COUNT w.gal) F.GAL_SLIP_COUNT_COUNT) s
  let s := if sync then s.bump R.SCHED_SYNC_COUNT F.SCHED_SYNC_COUNT_COUNT else s
  let s := { s with sched := { s.sched with holdLen := s.sched.holdLen + 1,
                                            holdMax := if s.sched.holdLen = 0 then s.holdLimit else s.sched.holdMax,
                                            cycleHolds := s.sched.cycleHolds + 1,
                                            holdsAt := NMap.set dZero s.sched.holdsAt s.sched.step (NMap.get dZero s.sched.holdsAt s.sched.step + 1),
                                            slips := ws.foldl countSlip s.sched.slips } }
  s.elapse

/-- GAL_SLIP_LAST of one gallery (R75, R77), an event of its Warden (R329). -/
def State.slipLast (s : State) (r : SlipRec) : State :=
  ((((((((s.setReg (R.GAL_SLIP_LAST r.gal) 0).raise (R.GAL_SLIP_LAST r.gal) F.GAL_SLIP_LAST_VALID).put
    (R.GAL_SLIP_LAST r.gal) F.GAL_SLIP_LAST_PORT r.port).put
    (R.GAL_SLIP_LAST r.gal) F.GAL_SLIP_LAST_CONTEXT s.sched.ctx).put
    (R.GAL_SLIP_LAST r.gal) F.GAL_SLIP_LAST_STEP r.step).put
    (R.GAL_SLIP_LAST r.gal) F.GAL_SLIP_LAST_BP (r.bp % 64)).put
    (R.GAL_SLIP_LAST r.gal) F.GAL_SLIP_LAST_CHAMBER (r.bp / 64 % 16)).put
    (R.GAL_SLIP_LAST r.gal) F.GAL_SLIP_LAST_DURATION (if r.len < 31 then r.len else 31)).wardenPend r.gal 7

/-- A hold ends: GAL_SLIP_LAST of each gallery whose SLIP_COUNT rose. -/
def State.endHold (s : State) : State :=
  let s := s.sched.slips.foldl State.slipLast s
  { s with sched := { s.sched with holdLen := 0, slips := [], holdOver := false } }

/-! Sends (R61 to R64, R69). -/

/-- Result base of the active context (R26). -/
def State.resultBase (s : State) : Nat := if s.pace then 128 * s.sched.ctx else 0

/-- Index of the step word of BP `b` at step `t` in the instruction store (R89). -/
def State.wordAt (s : State) (b t : Nat) : Nat := b * 1024 + s.resultBase + t

/-- How many step words before step `t` of the active context have S set (R62). -/
def State.sendsBefore (s : State) (b t : Nat) : Nat :=
  ((List.range t).filter (fun i => (NMap.get dZero64 s.fab.istore (s.wordAt b i)).getLsbD 1)).length

/-- The slot record index of a send by BP `b` at step `t` (R62). -/
def State.slotIndex (s : State) (b t : Nat) : Nat :=
  NMap.get dZero s.fab.slotBase (b * 8 + s.sched.ctx) + s.sendsBefore b t

/-- The BPs of a fan-out in a chamber (R63): `cham` is global. -/
def fanOut (cham span bp : Nat) : List Nat :=
  let n := match span with | 0 => 1 | 1 => 4 | 2 => 16 | _ => 64
  (List.range n).map (fun i => cham * 64 + bp / n * n + i)

/-- GALLERY latency between two chambers of a gallery (R69). -/
def galleryLatency (st : Stepping) (c d : Nat) : Nat :=
  if c / 8 = d / 8 then 4 else match st with | .a0 => 4 | .b0 => 5

/-- Manhattan distance between two galleries. -/
def hops (g h : Nat) : Nat :=
  let d (a b : Nat) : Nat := if a ≤ b then b - a else a - b
  d (g % 8) (h % 8) + d (g / 8) (h / 8)

/-- The path of a slot record from BP `b`: receive port, latency, receiving BPs (R63, R69). LINK has
none. -/
def route (st : Stepping) (b : Nat) (r : Word) : Option (RxPort × Nat × List Nat) :=
  let n := r.toNat
  let span := bitsOf 19 18 n
  let db := bitsOf 17 12 n
  let dc := bitsOf 23 20 n
  let dg := bitsOf 29 24 n
  match bitsOf 31 30 n with
  | 0 => some (.loc, 2, fanOut (b / 64) span db)
  | 1 => some (.gallery, galleryLatency st (b / 64 % 16) dc, fanOut (b / 1024 * 16 + dc) span db)
  | 2 => some (.mesh, 6 + hops (b / 1024) dg, fanOut (dg * 16 + dc) span db)
  | _ => none

/-- The galleries of a mesh path, X first (R60). -/
def meshPath (g d : Nat) : List Nat :=
  let x := g % 8
  let y := g / 8
  let dx := d % 8
  let dy := d / 8
  let xs := if x ≤ dx then (List.range (dx - x + 1)).map (fun i => y * 8 + (x + i))
    else (List.range (x - dx + 1)).map (fun i => y * 8 + (x - i))
  let ys := if y ≤ dy then (List.range (dy - y)).map (fun i => (y + 1 + i) * 8 + dx)
    else (List.range (y - dy)).map (fun i => (y - 1 - i) * 8 + dx)
  xs ++ ys

/-- The merge points of a path from BP `b`, each with its period after the send (DEDUCED, log 15: lanes near the
sender come first, one period each; the destination's lanes come in the last periods before the landing). -/
def lanesOf (b : Nat) (p : RxPort × Nat × List Nat) : List (List Nat × Nat) :=
  let dc := p.2.2.headD 0 / 64
  match p.1 with
  | .gallery => [([1, b / 64], 1), ([2, dc], p.2.1 - 1)]
  | .mesh =>
    let path := meshPath (b / 1024) (dc / 16)
    ([3, b / 1024], 1) :: (path.zip (path.drop 1)).zipIdx.map (fun l => ([4, l.1.1, l.1.2], l.2 + 2)) ++
      [([5, dc / 16], p.2.1 - 2), ([6, dc], p.2.1 - 1)]
  | _ => []

/-- Periods after the send turned into periods from each merge point to the next, the last to the port. -/
def gapsOf (lat : Nat) : List (List Nat × Nat) → List (List Nat × Nat)
  | [] => []
  | [x] => [(x.1, lat - x.2)]
  | x :: y :: r => (x.1, y.2 - x.2) :: gapsOf lat (y :: r)

/-- A value sent in period `now` along a path: through its merge points, or straight to its ports. -/
def flightOf (now b step : Nat) (p : RxPort × Nat × List Nat) (x : Nv) : Flight :=
  let ls := lanesOf b p
  { ahead := gapsOf p.2.1 ls, due := now + (ls.head?.map (fun l => l.2)).getD p.2.1, port := p.1, step := step,
    dests := p.2.2, val := x }

/-- Place a value into its frame position (R139); a four-state value fills two positions. -/
def State.linkPlace (s : State) (four : Bool) (r : Word) (x : Nv) : State :=
  let n := r.toNat
  let k := (bitsOf 29 26 n * 64 + bitsOf 25 20 n) * 240 + bitsOf 19 12 n
  let m := NMap.set dFalse s.psg.txVals k x.v
  { s with psg := { s.psg with txVals := if four then NMap.set dFalse m (k + 1) x.k else m } }

/-- SLOT_PARITY (3): the record is used as stored (R77). -/
def State.slotParity (s : State) (b i : Nat) : State :=
  let g := galOf b
  let armed := s.isArmed 0x02 3 g
  let s := if armed then s.useArmed 0x02 3 g else s
  if armed || NMap.get dFalse s.fab.slotBad (b * 512 + i) then s.recordSched g 3 (s.locOf b) else s

/-- Send `x` along slot record `r` of BP `b` (R61, R64). -/
def State.sendRec (s : State) (b : Nat) (r : Word) (x : Nv) : State :=
  match route s.part.stepping b r with
  | some p =>
    let f := flightOf s.sched.now b s.sched.step p x
    if f.ahead = [] then { s with fab := { s.fab with inflight := spreadOut f f.due s.fab.inflight } }
    else { s with fab := { s.fab with flights := insertFlight f s.fab.flights } }
  | none => s.linkPlace (s.four (galOf b)) r x

/-- Send `x` along slot record `i` of BP `b`. -/
def State.sendOn (s : State) (b i : Nat) (x : Nv) : State := s.sendRec b (NMap.get dZero32 s.fab.slot (b * 512 + i)) x

/-- SEND (R61): the result of BP `b` at the present step goes out on its slot; the value is kept for
HOLD isolation (R245). -/
def State.send (s : State) (b : Nat) (x : Nv) : State :=
  let i := s.slotIndex b s.sched.step
  let s := s.slotParity b i
  let s := { s with fab := { s.fab with lastSend := NMap.set dNv s.fab.lastSend (b * 512 + i) x,
                                        sent := NMap.set dFalse s.fab.sent (b * 512 + i) true } }
  s.sendOn b i x

/-- The value an isolated send carries (R244, R245): its CONST value, or the last value sent. -/
def State.isoValue (s : State) (b i : Nat) : Nv :=
  let e := NMap.get dZero32 s.fab.iso (b * 512 + i)
  if bitsOf 6 5 e.toNat = 1 then ⟨e.getLsbD 1, e.getLsbD 0⟩
  else if NMap.get dFalse s.fab.sent (b * 512 + i) then NMap.get dNv s.fab.lastSend (b * 512 + i)
  else absent (s.four (galOf b))

/-- The fabric with the tables that the isolated region had when its isolation began, and the ISOLATION entries of its
reload. -/
def State.isoView (s : State) : State :=
  let r := s.fab.region
  let s := s.fab.isolated.foldl (fun s g => s.put (R.GAL_MODE g) F.GAL_MODE_FOUR_STATE (natOfBool (r.four.contains g))) s
  { s with fab := { s.fab with istore := r.istore, slot := r.slot, slotBase := r.slotBase, lastSend := r.last, sent := r.sent,
                               iso := r.iso, istoreEcc := [] } }

/-- ISOLATION_REPLAY (R244): a send of an isolated region to a BP outside it, over MESH or LINK,
carries its isolation value. -/
def State.replay (s : State) (b : Nat) : State :=
  let v := s.isoView
  let i := v.slotIndex b s.sched.step
  let r := NMap.get dZero32 v.fab.slot (b * 512 + i)
  if bitsOf 31 30 r.toNat ≤ 1 then s
  else if bitsOf 31 30 r.toNat = 2 ∧ s.fab.isolated.contains (bitsOf 29 24 r.toNat) then s
  else s.sendRec b r (v.isoValue b i)

end Sys2Proof.Machine
end

