-- ==== Sys2Proof/Machine/BpOps.lean ====
section
/-! DEFINITION. What each opcode of the step word does in its BP, chamber and gallery (02, R35 to R57;
bank accesses by R96 to R106, deep operations by R121 to R124), and the meanings of the rows NOP to
CONST: one step word of one BP at the present step. -/

namespace Sys2Proof.Machine

/-! Bank accesses (R95, R96, R104). -/

/-- Read a bank word (R104): the word, whether it is uncorrectable, and what the check records: DM_CE
(0) is counted and queued for Drip, DM_UE (1) is recorded. -/
def State.dmRead (s : State) (c w : Nat) (a : DmAgent) (step : Nat) : Dword × Bool × State :=
  let g := c / 16
  match s.dmMark c w with
  | .good => (s.dmWord c w, false, s)
  | .single =>
    let s' := (s.bump (R.GAL_DM_CE_COUNT g) F.GAL_DM_CE_COUNT_COUNT).recordDm g 0 a (c % 16) w step
    let q := if s'.mem.drip.contains (c, w) then s'.mem.drip else s'.mem.drip ++ [(c, w)]
    (s.dmWord c w, false, { s' with mem := { s'.mem with drip := q } })
  | .double => (s.dmWord c w, true, s.recordDm g 1 a (c % 16) w step)

/-- Store a bank word; an armed DM_CE or DM_UE point flips its bits (R370); a pending scrub write-back
of the word is abandoned (R105). -/
def State.dmCommit (s : State) (c w : Nat) (d : Dword) : State :=
  let g := c / 16
  let s := { s with mem := { s.mem with dripBack := s.mem.dripBack.filter (fun e => e != (c, w)) } }
  if s.isArmed 0x03 1 g then
    let s := (s.dmStore c w (d ^^^ 3)).useArmed 0x03 1 g
    { s with mem := { s.mem with dmEcc := NMap.set dGood s.mem.dmEcc (c * 8192 + w) .double } }
  else if s.isArmed 0x03 0 g then
    let s := (s.dmStore c w d).useArmed 0x03 0 g
    { s with mem := { s.mem with dmEcc := NMap.set dGood s.mem.dmEcc (c * 8192 + w) .single } }
  else s.dmStore c w d

/-- Write a bank word under a byte mask (R47, R96, R104): a mask other than 0xFF reads first and does
not write over a double-bit error. -/
def State.dmWrite (s : State) (c w : Nat) (mask : BitVec 8) (d : Dword) (a : DmAgent) (step : Nat) : State :=
  if mask = 0xFF then s.dmCommit c w d
  else
    let r := s.dmRead c w a step
    if r.2.1 then r.2.2 else r.2.2.dmCommit c w (mergeBytes mask r.1 d)

/-- An atomic on a bank word (R48, R101, R104): the old word, whether it was uncorrectable. -/
def State.dmAtomic (s : State) (c w : Nat) (swap : Bool) (d : Dword) (a : DmAgent) (step : Nat) :
    Dword × Bool × State :=
  let r := s.dmRead c w a step
  (r.1, r.2.1, if r.2.1 then r.2.2 else r.2.2.dmCommit c w (atomicResult swap r.1 d))

/-! Memory operations of the schedule (R44 to R50). -/

/-- The address staging register of a chamber, and its unknown bits. -/
def State.stagedAddr (s : State) (c : Nat) : Nat × Nat :=
  ((NMap.get dZero32 s.fab.addrV c).toNat, (NMap.get dZero32 s.fab.addrX c).toNat)

/-- What the enable and the address of a memory operation lead to (R45). -/
inductive Access where
  /-- The enable is 0. -/
  | disabled
  /-- Refused: MEM_UNKNOWN or MEM_RANGE. -/
  | refused
  /-- The access is made at this word. -/
  | at (word : Nat)
  /-- The channel is not ready (R124). -/
  | down
deriving DecidableEq, Repr

/-- The first granted EMU region of gallery `g` that holds a byte address (R119). -/
def State.granted (s : State) (g a : Nat) : Bool :=
  (List.range 11).any (fun i =>
    (s.fld (R.GAL_DS_GRANT g) F.GAL_DS_GRANT_EMU).testBit i && s.inRegion (i + 1) a)

/-- R45, R119, R124: check a memory operation by BP `b` with enable `en`. DESIGN CHOICE (log 50): an address with an
unknown bit gives MEM_UNKNOWN alone, whatever its known bits are. -/
def State.checkAccess (s : State) (b : Nat) (deep : Bool) (en : Nv) : Access × State :=
  let g := galOf b
  let l := s.locOf b
  if en.k = false then (.refused, s.record g 3 l)
  else if en.v = false then (.disabled, s)
  else
    let a := s.stagedAddr (b / 64)
    if a.2 ≠ 0 then (.refused, s.record g 3 l)
    else if deep then
      if s.granted g (a.1 * 8) = false then
        (.refused, (s.record g 2 l).recordDm g 3 (.schedule (b % 64)) (b / 64 % 16) 0 s.sched.step)
      else if s.chanReady (dsChannel (a.1 * 8)) then (.at a.1, s)
      else (.down, s.record g 2 l)
    else if a.1 ≥ 8192 then (.refused, s.record g 2 l)
    else (.at a.1, s)

/-- Deliver a word to the 64 lanes of a chamber (R46). -/
def State.deliver (s : State) (c step lat : Nat) (f : Nat → Nv) : State :=
  (List.range 64).foldl (fun s i => s.launch (c * 64 + i) .memory step lat (f i)) s

/-- What lane `i` receives from a memory return: the bit, or 0, or X (R46). -/
def laneBit (d : Dword) (i : Nat) : Nv := Nv.ofBool (d.getLsbD i)

/-- A chamber's second memory operation in a step records BANK_CONFLICT (1) and makes no access
(DEDUCED, log 12), and a second read delivers 0 (R46); otherwise the operation is marked as the chamber's. -/
def State.claimChamber (s : State) (b : Nat) (bank : Bool) : Bool × State :=
  let c := b / 64
  if s.fab.memOps.contains c then (false, s.record (galOf b) 1 (s.locOf b))
  else (true, { s with fab := { s.fab with memOps := c :: s.fab.memOps,
                                           bankUse := if bank then c :: s.fab.bankUse else s.fab.bankUse } })

/-- The word staging register with unknown bits as 0, and whether a bit of the enabled bytes is
unknown. -/
def State.stagedWord (s : State) (c : Nat) (mask : BitVec 8) : Dword × Bool :=
  let x := NMap.get dZero64 s.fab.wordX c
  (NMap.get dZero64 s.fab.wordV c &&& ~~~x, mergeBytes mask 0 x != 0)

/-- Record MEM_XDATA (4) when `x`. -/
def State.xdata (s : State) (b : Nat) (x : Bool) : State :=
  if x then s.record (galOf b) 4 (s.locOf b) else s

/-- MRD (R46): a bank read, or 0 or X, delivered at t + 6. -/
def opMrd (s : State) (b : Nat) (en : Nv) : State :=
  let r := s.claimChamber b true
  let c := b / 64
  if r.1 = false then r.2.deliver c s.sched.step 6 (fun _ => Nv.zero) else
  let a := r.2.checkAccess b false en
  match a.1 with
  | .at w =>
    let d := a.2.dmRead c w (.schedule (b % 64)) s.sched.step
    d.2.2.deliver c s.sched.step 6 (laneBit d.1)
  | .refused => a.2.deliver c s.sched.step 6 (fun _ => absent (s.four (galOf b)))
  | _ => a.2.deliver c s.sched.step 6 (fun _ => Nv.zero)

/-- MWR (R47). -/
def opMwr (s : State) (b : Nat) (mask : BitVec 8) (en : Nv) : State :=
  let r := s.claimChamber b true
  if r.1 = false then r.2 else
  let a := r.2.checkAccess b false en
  match a.1 with
  | .at w =>
    let d := a.2.stagedWord (b / 64) mask
    (a.2.xdata b d.2).dmWrite (b / 64) w mask d.1 (.schedule (b % 64)) s.sched.step
  | _ => a.2

/-- MATOM (R48). -/
def opMatom (s : State) (b : Nat) (swap : Bool) (en : Nv) : State :=
  let r := s.claimChamber b true
  let c := b / 64
  if r.1 = false then r.2.deliver c s.sched.step 6 (fun _ => Nv.zero) else
  let a := r.2.checkAccess b false en
  match a.1 with
  | .at w =>
    let d := a.2.stagedWord c 0xFF
    let o := (a.2.xdata b d.2).dmAtomic c w swap d.1 (.schedule (b % 64)) s.sched.step
    o.2.2.deliver c s.sched.step 6 (laneBit o.1)
  | .refused => a.2.deliver c s.sched.step 6 (fun _ => absent (s.four (galOf b)))
  | _ => a.2.deliver c s.sched.step 6 (fun _ => Nv.zero)

/-- A Deep Store word under the writes of chamber `c` to it among `ops`, in issue order (R122). -/
def State.deepMerge (s : State) (c w : Nat) (ops : List DeepOp) : Dword :=
  (ops.filter (fun o => o.cham == c && o.write && o.word == w)).foldl
    (fun d o => mergeBytes o.mask d o.data) (s.dsWord w)

/-- A Deep Store word as a chamber sees it: memory with the chamber's own outstanding writes (R122). -/
def State.deepView (s : State) (c w : Nat) : Dword := s.deepMerge c w s.fab.deep

/-- MDEEPRD (R49, R121, R122): outstanding until it lands; disabled or refused, it delivers at t + 6. -/
def opMdeeprd (s : State) (b : Nat) (en : Nv) : State :=
  let r := s.claimChamber b false
  let c := b / 64
  if r.1 = false then r.2.deliver c s.sched.step 6 (fun _ => Nv.zero) else
  let a := r.2.checkAccess b true en
  match a.1 with
  | .at w =>
    { a.2 with fab := { a.2.fab with deep := a.2.fab.deep ++
      [{ cham := c, lane := b % 64, step := s.sched.step, word := w, write := false, mask := 0,
         data := a.2.deepView c w, tick := s.sched.curTick }] } }
  | .refused => a.2.deliver c s.sched.step 6 (fun _ => absent (s.four (galOf b)))
  | _ => a.2.deliver c s.sched.step 6 (fun _ => Nv.zero)

/-- MDEEPWR (R49, R121): outstanding until its channel accepts it. -/
def opMdeepwr (s : State) (b : Nat) (mask : BitVec 8) (en : Nv) : State :=
  let r := s.claimChamber b false
  if r.1 = false then r.2 else
  let a := r.2.checkAccess b true en
  let c := b / 64
  match a.1 with
  | .at w =>
    let d := a.2.stagedWord c mask
    let t := a.2.xdata b d.2
    { t with fab := { t.fab with deep := t.fab.deep ++
      [{ cham := c, lane := b % 64, step := s.sched.step, word := w, write := true, mask := mask,
         data := d.1, tick := s.sched.curTick }] } }
  | _ => a.2

/-! Pins, events, constants (R51 to R57). -/

/-- PINOUT (R51): the value goes into the outgoing pin word. -/
def opPinout (s : State) (pin : Nat) (a : Nv) : State :=
  { s with rim := { s.rim with outVals := NMap.set dNv s.rim.outVals pin a,
                               lastPinout := some s.sched.now } }

/-- The pin bit a PININ takes (R51): from the latest completed input word; 0 when there is none. -/
def State.pinBit (s : State) (pin : Nat) : Bool :=
  match s.rim.inWord with
  | some w => NMap.get dFalse w.vals pin
  | none => false

/-- PININ (R51): the bit lands 14 steps later. -/
def opPinin (s : State) (b pin : Nat) : State := s.launch b .pin s.sched.step 14 (Nv.ofBool (s.pinBit pin))

/-- Does an ASSERT fire (R53)? -/
def assertFires (act : AssertAct) (a : Nv) : Bool := a.isOne || (act.xfire && !a.k)

/-- Push an ASSERT record (R53): into a full FIFO it is dropped, counted and recorded as ASSERT_OVF
(10). -/
def State.pushAssert (s : State) (b : Nat) (act : AssertAct) (a : Nv) : State :=
  let g := galOf b
  let q := NMap.get (fun _ => []) s.fab.asserts g
  let r : AssertRec :=
    { actions := assertCode act % 8, unknown := !a.k, ctx := s.sched.ctx, step := s.sched.step,
      bp := b % 64, cham := b / 64 % 16, tick := s.tick32 }
  if q.length < 64 then
    { s with fab := { s.fab with
        asserts := NMap.set (fun _ => []) s.fab.asserts g (q ++ [r]),
        assertPushed := NMap.set dZero s.fab.assertPushed g (NMap.get dZero s.fab.assertPushed g + 1) } }
  else
    let s := s.bump (R.GAL_ASSERT_STATUS g) F.GAL_ASSERT_STATUS_LOST
    let s := { s with fab := { s.fab with
      assertDropped := NMap.set dZero s.fab.assertDropped g (NMap.get dZero s.fab.assertDropped g + 1) } }
    s.record g 10 (s.locOf b)

/-- ASSERT (R53, R168): every action of FN, and the gallery's ASSERT leaf. -/
def opAssert (s : State) (b : Nat) (act : AssertAct) (a : Nv) : State :=
  if assertFires act a then
    let g := galOf b
    let s := { s with fab := { s.fab with leaves := NMap.set dFalse s.fab.leaves (g * 65 + 64) true },
                      echo := { s.echo with asserted := true } }
    let s := if act.log then s.pushAssert b act a else s
    let s := if act.intr then s.cicEvent (128 + g) else s
    if act.halt then s.haltAtEnd else s
  else s

/-- TRIG (R54): a known 1 sets the leaf for the cycle. -/
def opTrig (s : State) (b leaf : Nat) (a : Nv) : State :=
  if a.isOne then
    { s with fab := { s.fab with leaves := NMap.set dFalse s.fab.leaves (galOf b * 65 + leaf) true } }
  else s

/-- The default pseudo-random state (R57). -/
def dPrng (_ : Nat) : Word := 1

/-- CONST (R56, R57): the value, and the advance of the pseudo-random state. -/
def opConst (s : State) (b : Nat) (c : ConstSel) : Nv × State :=
  match c with
  | .zero => (Nv.zero, s)
  | .one => (Nv.one, s)
  | .x => (Nv.x, s)
  | .z => (Nv.z, s)
  | .random =>
    let r := prngNext (NMap.get dPrng s.fab.prng b)
    (Nv.ofBool r.1, { s with fab := { s.fab with prng := NMap.set dPrng s.fab.prng b r.2 } })
  | .tickBit n => (Nv.ofBool (s.sched.curTick.getLsbD n.val), s)

/-- BUS_CONTENTION (5) by the ACTION of a RESOLVE (R43). -/
def State.contention (s : State) (b : Nat) (act : BusAction) (hit : Bool) : State :=
  if hit then
    match act with
    | .none => s
    | .record => s.record (galOf b) 5 (s.locOf b)
    | .interrupt => ((s.record (galOf b) 5 (s.locOf b)).cicEvent (256 + galOf b)).wardenPend (galOf b) 5
    | .halt => (s.record (galOf b) 5 (s.locOf b)).haltAtEnd
  else s

/-! One operation: its result and its side effect (R35). -/

/-- The truth-table operations: read the table, then the operands. -/
def State.evalWith (s : State) (b : Nat) (fn : BitVec 8) (os : List Operand) (exact : Bool) : Nv × State :=
  let t := s.readTable b fn
  let r := t.2.readAll b os
  let e := s.chainOf b
  match r.1 with
  | [x, y, z, u] => (if exact then evalx t.1 e x y z u else evalBit t.1 e x y z u, r.2)
  | _ => (Nv.zero, r.2)

/-- RESOLVE (R42, R43). -/
def State.opResolve (s : State) (b : Nat) (start : Bool) (p : Pull) (act : BusAction) (x y : Operand)
    (d1 : Option (Operand × Operand)) : Nv × State :=
  let inc := if start then Nv.z else s.chainOf b
  let rx := s.readOpnd b x
  let ry := rx.2.readOpnd b y
  match d1 with
  | none =>
    let r := resolveBus inc (driver rx.1 ry.1) none p
    (r.1, ry.2.contention b act r.2)
  | some (z, u) =>
    let rz := ry.2.readOpnd b z
    let ru := rz.2.readOpnd b u
    let r := resolveBus inc (driver rx.1 ry.1) (some (driver rz.1 ru.1)) p
    (r.1, ru.2.contention b act r.2)

/-- The operations that pass operand A and act on it. -/
def State.withA (s : State) (b : Nat) (a : Operand) (f : State → Nv → State) : Nv × State :=
  let r := s.readOpnd b a
  (r.1, f r.2 r.1)

/-- The result of an operation of BP `b` at the present step, before forces, and its side effects. -/
def State.runOp (s : State) (b : Nat) (op : StepOp) : Nv × State :=
  match op with
  | .nop => (s.chainOf b, s)
  | .eval fn a x y z => s.evalWith b fn [a, x, y, z] false
  | .evalx fn a x y z => s.evalWith b fn [a, x, y, z] true
  | .resolve st p act a x d1 => s.opResolve b st p act a x d1
  | .maddr fn a x y z => s.evalWith b fn [a, x, y, z] (s.four (galOf b))
  | .mwdat fn a x y z => s.evalWith b fn [a, x, y, z] (s.four (galOf b))
  | .mrd a => s.withA b a (fun s v => opMrd s b v)
  | .mwr m a => s.withA b a (fun s v => opMwr s b m v)
  | .matom sw a => s.withA b a (fun s v => opMatom s b sw v)
  | .mdeeprd a => s.withA b a (fun s v => opMdeeprd s b v)
  | .mdeepwr m a => s.withA b a (fun s v => opMdeepwr s b m v)
  | .pinin p => (s.chainOf b, opPinin s b p.val)
  | .pinout p a => s.withA b a (fun s v => opPinout s p.val v)
  | .assert act a => s.withA b a (fun s v => opAssert s b act v)
  | .trig l a => s.withA b a (fun s v => opTrig s b l.val v)
  | .sync _ => (s.chainOf b, s)
  | .const c => opConst s b c

/-- The staging deposit of MADDR and MWDAT (R44). -/
def State.deposit (s : State) (b : Nat) (op : StepOp) (r : Nv) : State :=
  let c := b / 64
  let l := b % 64
  match op with
  | .maddr .. =>
    { s with fab := { s.fab with
        addrV := NMap.set dZero32 s.fab.addrV c (Field.put ⟨l, l⟩ (NMap.get dZero32 s.fab.addrV c) (natOfBool r.v)),
        addrX := NMap.set dZero32 s.fab.addrX c (Field.put ⟨l, l⟩ (NMap.get dZero32 s.fab.addrX c) (natOfBool !r.k)) } }
  | .mwdat .. =>
    let put (d : Dword) (v : Bool) : Dword := if v then d ||| (1#64 <<< l) else d &&& ~~~(1#64 <<< l)
    { s with fab := { s.fab with
        wordV := NMap.set dZero64 s.fab.wordV c (put (NMap.get dZero64 s.fab.wordV c) r.v),
        wordX := NMap.set dZero64 s.fab.wordX c (put (NMap.get dZero64 s.fab.wordX c) (!r.k)) } }
  | _ => s

/-- Fill the capture register of BP `b` (R158): v, and k in a four-state gallery. -/
def State.captureBit (s : State) (b : Nat) (r : Nv) : State :=
  let old := NMap.get (fun _ => []) s.fab.capture b
  let new := if s.four (galOf b) then [r.v, r.k] else [r.v]
  { s with fab := { s.fab with capture := NMap.set (fun _ => []) s.fab.capture b (old ++ new) } }

/-- The end of a step word (R36, R29, R44, R173): force, chain, deposit, capture, send, K write. -/
def State.finish (s : State) (b : Nat) (w : StepWord) (r : Nv) : State :=
  let f := s.applyForce b (.step s.sched.ctx s.sched.step) r
  let s := { f.2 with fab := { f.2.fab with chain := NMap.set dNv f.2.fab.chain b f.1 } }
  let s := s.deposit b w.op f.1
  let s := if w.m.p then s.captureBit b f.1 else s
  let s := if w.m.s then s.send b f.1 else s
  if w.m.k then s.writeCur b (s.resultBase + s.sched.step) f.1 else s

/-- One step word of BP `b` at the present step. -/
def State.runWord (s : State) (b : Nat) (w : StepWord) : State :=
  let r := s.runOp b w.op
  r.2.finish b w r.1

/-! SYNC barriers (R78 to R80, R73). -/

/-- Does a barrier's scope seen from BP `b` cover chamber `c` (R78)? -/
def scopeCovers (scope b c : Nat) : Bool :=
  match scope with
  | 0 => c == b / 64
  | 1 => c / 16 == b / 1024
  | _ => true

/-- An event outside the schedule lets a step issue three periods later (R73). -/
def State.spread (s : State) (at_ : Option Nat) : Bool :=
  match at_ with
  | none => false
  | some p => Nat.ble (p + 3) s.sched.now

/-- The flit indices of the active context on a port (R138). -/
def State.ctxFlit (s : State) (f : Nat) : Bool :=
  if s.pace then
    let n := if (List.range 64).any (fun g => s.inImage g && s.four g) then 16 else 8
    f / n == s.sched.ctx
  else true

/-- Does a value of flit `f` of port `p` land in this device (R141)? -/
def State.flitLands (s : State) (p f : Nat) : Bool := s.psg.landing.any (fun e => e.1 / 240 == p * 64 + f && e.2.getLsbD 31)

/-- Is flit `f` expected on port `p` in a tick of the active context (R138, R142)? -/
def State.flitExpected (s : State) (p f : Nat) : Bool :=
  s.ctxFlit f &&
  (s.flitLands p f ||
   s.psg.frame.any (fun e => e.2.getLsbD 31 && e.2.getLsbD 30 &&
     bitsOf 29 26 e.2.toNat == p && bitsOf 25 20 e.2.toNat == f))

/-- Is barrier `n` satisfied for BP `b` (R78)? -/
def State.barrierOk (s : State) (b n : Nat) : Bool :=
  let d := (NMap.get dZero32 s.fab.barriers n).toNat
  let scope := bitsOf 27 26 d
  match bitsOf 30 28 d with
  | 1 => !s.fab.deep.any (fun o => o.write && o.tick == s.sched.curTick && scopeCovers scope b o.cham)
  | 2 => !s.fab.deep.any (fun o => !o.write && o.tick == s.sched.curTick && scopeCovers scope b o.cham)
  | 3 => (List.range 16).all (fun p => (List.range 64).all (fun f =>
      !(s.ctxFlit f && s.flitLands p f) || s.psg.got.contains (p, f))) && !s.fab.inflight.any (fun a => a.port == .link)
  | 4 => s.spread s.sched.pinFreshAt
  | 5 =>
    dtcReached s.sched.dtc (s.sched.tickTime + bitsOf 15 0 d * 2 ^ 32 + 1 + 3 * (s.reg R.TB_INCR).toNat)
  | 6 => s.fld R.SCHED_BARRIER_RELEASE ⟨d % 16, d % 16⟩ == 1 &&
      s.spread (some (NMap.get dZero s.sched.flagsAt (d % 16)))
  | _ => true
end Sys2Proof.Machine
end

