-- ==== Sys2Proof/Machine/BpRows.lean ====
section
/-! DEFINITION. Step words as commands: the rows NOP to CONST, and the issue of a whole step, its holds
and the hold limit (02; 03, R72 to R76). -/

namespace Sys2Proof.Machine

/-- Is BP `b`'s chamber at its limit of 16 outstanding deep operations (R121)? -/
def State.deepFull (s : State) (b : Nat) : Bool :=
  Nat.ble 16 (s.fab.deep.filter (fun o => o.cham == b / 64)).length

/-- Must the word wait on the deep limit (R121)? The hold limit ends that wait too (R76; log 25). -/
def State.deepWaits (s : State) (b : Nat) (op : StepOp) : Bool :=
  match op with
  | .mdeeprd _ | .mdeepwr _ _ => !s.sched.holdOver && s.deepFull b
  | _ => false

/-- KIND of barrier `n` (R78). -/
def State.barrierKind (s : State) (n : Nat) : Nat := bitsOf 30 28 (NMap.get dZero32 s.fab.barriers n).toNat

/-- Does the word wait on its barrier (R55, R79)? A hold the limit ended waits no longer, but for a TIME barrier,
which the limit never ends (R76). -/
def State.syncWaits (s : State) (b : Nat) (op : StepOp) : Bool :=
  match op with
  | .sync n => (!s.sched.holdOver || s.barrierKind n.val == 5) && !s.barrierOk b n.val
  | _ => false

/-- Does the word wait on a barrier that the hold limit ends (R76)? -/
def State.syncEnds (s : State) (b : Nat) (op : StepOp) : Bool :=
  match op with
  | .sync n => s.barrierKind n.val != 5 && s.syncWaits b op
  | _ => false

/-- The port code of the receive record that fills an entry of BP `b` in the active context. -/
def State.portOfEntry (s : State) (b off : Nat) : Nat :=
  match s.fab.recv.find? (fun e => e.1 / 1024 == b && e.2.getLsbD 31 && e.2.toNat % 1024 == off &&
      e.2.getLsbD (20 + s.sched.ctx)) with
  | some e => bitsOf 30 28 e.2.toNat
  | none => 0

/-- The operands of a word that still wait, as entry offsets. -/
def State.waitingEntries (s : State) (b : Nat) (op : StepOp) : List Nat :=
  ((operandsOf op).filter (fun o => s.awaits b o)).map (fun o => o.addr.toNat - rxBase (s.four (galOf b)))

/-- The waiters of one word (R75): its awaited operands, or BACKPRESSURE (7) of the deep limit. -/
def State.waitersOf (s : State) (b : Nat) (op : StepOp) : List Waiter :=
  (s.waitingEntries b op).map (fun off => ⟨galOf b, s.portOfEntry b off, b, s.sched.step⟩) ++
  (if s.deepWaits b op then [⟨galOf b, 7, b, s.sched.step⟩] else [])

/-- Does a word hold the chip (R72, R79, R121)? -/
def State.wordWaits (s : State) (b : Nat) (op : StepOp) : Bool :=
  (operandsOf op).any (fun o => s.awaits b o) || s.syncWaits b op || s.deepWaits b op

/-- The flag that has satisfied a SYNC of BP `b` on a HOST barrier (R80); one that the hold limit ended used none. -/
def State.useFlag (s : State) (b : Nat) (op : StepOp) : State :=
  match op with
  | .sync n =>
    if s.barrierKind n.val = 6 ∧ s.barrierOk b n.val then
      { s with sched := { s.sched with flagsUsed := (NMap.get dZero32 s.fab.barriers n.val).toNat % 16 :: s.sched.flagsUsed } }
    else s
  | _ => s

/-- Length N of the active context (R90). -/
def State.schedLen (s : State) : Nat := s.fld (R.SCHED_CTX_LEN s.sched.ctx) F.SCHED_CTX_LEN_LENGTH

/-- Is a scheduled step due (R18)? Between cycles and in turnover no step word issues. -/
def State.stepDue (s : State) : Bool := s.sched.phase == .steps && Nat.blt s.sched.step s.schedLen

/-- One step word of one BP at the present step (R35, R36): a word of an image's gallery that waits
holds a period; one that R37 rejects is never executed; none issues outside the scheduled steps (R18). -/
def State.oneWord (s : State) (b : Nat) (op : StepOp) (m : Marks) : Out :=
  if s.takesSteps (galOf b) = false ∨ s.stepDue = false then .next s
  else if legalIn (s.four (galOf b)) (b % 64) op = false then .fault .rejectedWord
  else if s.wordWaits b op then .next (s.hold (s.waitersOf b op) (s.syncWaits b op))
  else .next ((s.runWord b ⟨op, m⟩).useFlag b op)

/-- NOP: the result is the chain input. -/
def execNop (b : Bp) (m : Marks) (s : State) : Out := s.oneWord b .nop m
/-- EVAL (R39). -/
def execEval (b : Bp) (fn : BitVec 8) (x y z u : Operand) (m : Marks) (s : State) : Out :=
  s.oneWord b (.eval fn x y z u) m
/-- EVALX (R40). -/
def execEvalx (b : Bp) (fn : BitVec 8) (x y z u : Operand) (m : Marks) (s : State) : Out :=
  s.oneWord b (.evalx fn x y z u) m
/-- RESOLVE (R41 to R43). -/
def execResolve (b : Bp) (st : Bool) (p : Pull) (act : BusAction) (x y : Operand)
    (d1 : Option (Operand × Operand)) (m : Marks) (s : State) : Out :=
  s.oneWord b (.resolve st p act x y d1) m
/-- MADDR (R44). -/
def execMaddr (b : Bp) (fn : BitVec 8) (x y z u : Operand) (m : Marks) (s : State) : Out :=
  s.oneWord b (.maddr fn x y z u) m
/-- MWDAT (R44). -/
def execMwdat (b : Bp) (fn : BitVec 8) (x y z u : Operand) (m : Marks) (s : State) : Out :=
  s.oneWord b (.mwdat fn x y z u) m
/-- MRD (R46). -/
def execMrd (b : Bp) (en : Operand) (m : Marks) (s : State) : Out := s.oneWord b (.mrd en) m
/-- MWR (R47). -/
def execMwr (b : Bp) (mask : BitVec 8) (en : Operand) (m : Marks) (s : State) : Out :=
  s.oneWord b (.mwr mask en) m
/-- MATOM (R48). -/
def execMatom (b : Bp) (swap : Bool) (en : Operand) (m : Marks) (s : State) : Out :=
  s.oneWord b (.matom swap en) m
/-- MDEEPRD (R49). -/
def execMdeeprd (b : Bp) (en : Operand) (m : Marks) (s : State) : Out := s.oneWord b (.mdeeprd en) m
/-- MDEEPWR (R49). -/
def execMdeepwr (b : Bp) (mask : BitVec 8) (en : Operand) (m : Marks) (s : State) : Out :=
  s.oneWord b (.mdeepwr mask en) m
/-- PININ (R51). -/
def execPinin (b : Bp) (pin : Fin 192) (m : Marks) (s : State) : Out := s.oneWord b (.pinin pin) m
/-- PINOUT (R51). -/
def execPinout (b : Bp) (pin : Fin 192) (x : Operand) (m : Marks) (s : State) : Out :=
  s.oneWord b (.pinout pin x) m
/-- ASSERT (R53). -/
def execAssert (b : Bp) (act : AssertAct) (x : Operand) (m : Marks) (s : State) : Out :=
  s.oneWord b (.assert act x) m
/-- TRIG (R54). -/
def execTrig (b : Bp) (leaf : Fin 64) (x : Operand) (m : Marks) (s : State) : Out :=
  s.oneWord b (.trig leaf x) m
/-- SYNC (R55). -/
def execSync (b : Bp) (bar : Fin 16) (m : Marks) (s : State) : Out := s.oneWord b (.sync bar) m
/-- CONST (R56). -/
def execConst (b : Bp) (sel : ConstSel) (m : Marks) (s : State) : Out := s.oneWord b (.const sel) m

/-! A whole step (R72 to R75). -/

/-- A fetched step word: its BP, the word, its error mark. -/
structure Fetched where
  bp : Nat
  raw : Dword
  mark : EccMark
deriving DecidableEq, Repr

/-- Does an armed injection point wait for the next word of gallery `g`'s chamber 0, BP 0 (R369)? -/
def State.fetchArmed (s : State) (g : Nat) : Bool := s.isArmed 0x01 9 g || s.isArmed 0x01 8 g

/-- The BPs whose fetch of the present step does something: its word is not all zero or carries an error (R38), an
injection point waits for it, or a force or deposit names the step (R173). Every other BP executes an all-zero word,
a NOP that keeps the chain. -/
def State.fetchBps (s : State) (isolated : Bool) : List Nat :=
  let idx := s.resultBase + s.sched.step
  let ks := (s.fab.istore.filter (fun e => e.1 % 1024 == idx)).map (fun e => e.1 / 1024) ++
    (s.fab.istoreEcc.filter (fun e => e.1 % 1024 == idx)).map (fun e => e.1 / 1024) ++
    ((List.range 64).filter s.fetchArmed).map (fun g => g * 1024) ++
    (s.fab.forces.filter (fun e => e.target == .step s.sched.ctx s.sched.step)).map (fun e => e.bp)
  let ok (b : Nat) : Bool := if isolated then s.fab.isolated.contains (b / 1024) else s.takesSteps (b / 1024)
  (NMap.setAll dFalse [] ((ks.filter ok).map (fun b => (b, true)))).map (fun e => e.1)

/-- The words that those BPs fetch at the present step (R17). -/
def State.fetchStep (s : State) (isolated : Bool) : List Fetched :=
  let idx := s.resultBase + s.sched.step
  (s.fetchBps isolated).map (fun b =>
    ⟨b, NMap.get dZero64 s.fab.istore (b * 1024 + idx), NMap.get dGood s.fab.istoreEcc (b * 1024 + idx)⟩)

/-- The injection point of a fetch (R369): the next word fetched by chamber 0, BP 0 of a gallery. -/
def State.fetchMark (s : State) (f : Fetched) : EccMark :=
  if f.bp % 1024 = 0 ∧ s.isArmed 0x01 9 (galOf f.bp) then .double
  else if f.bp % 1024 = 0 ∧ s.isArmed 0x01 8 (galOf f.bp) then .single
  else f.mark

/-- Does the word execute as all zero (R38)? -/
def State.zeroed (s : State) (f : Fetched) : Bool := s.fetchMark f == .double

/-- What a fetch records (R38): ISTORE_CE (8) with its count, ISTORE_UE (9). -/
def State.recordFetch (s : State) (f : Fetched) : State :=
  let g := galOf f.bp
  let m := s.fetchMark f
  let s := if f.bp % 1024 = 0 ∧ s.isArmed 0x01 9 g then s.useArmed 0x01 9 g
    else if f.bp % 1024 = 0 ∧ s.isArmed 0x01 8 g then s.useArmed 0x01 8 g else s
  match m with
  | .good => s
  | .single =>
    ((s.bump (R.GAL_ISTORE_CE_COUNT g) F.GAL_ISTORE_CE_COUNT_COUNT).record g 8 (s.locOf f.bp))
  | .double => s.record g 9 (s.locOf f.bp)

/-- The all-zero word: a NOP with P, S and K clear (R38). -/
def zeroWord : StepWord := ⟨.nop, ⟨false, false, false⟩⟩

/-- Decode the words that execute; none when one is a word R37 rejects. An uncorrectable word executes as all zero. -/
def State.decodeFetched (s : State) : List Fetched → Option (List (Nat × StepWord))
  | [] => some []
  | f :: fs =>
    if s.zeroed f then (State.decodeFetched s fs).map (fun ws => (f.bp, zeroWord) :: ws)
    else match decodeStepWord f.raw, State.decodeFetched s fs with
      | some w, some ws =>
        if legalIn (s.four (galOf f.bp)) (f.bp % 64) w.op then some ((f.bp, w) :: ws) else none
      | _, _ => none

/-- Is the word a staging deposit? Deposits take effect at the end of the step (R44). -/
def isDeposit (op : StepOp) : Bool :=
  match op with
  | .maddr .. | .mwdat .. => true
  | _ => false

/-- Words of a step in execution order: deposits last (R44). -/
def issueOrder (ws : List (Nat × StepWord)) : List (Nat × StepWord) :=
  ws.filter (fun w => !isDeposit w.2.op) ++ ws.filter (fun w => isDeposit w.2.op)

/-- The profile-dependent flit value bits of an outgoing frame position range. -/
def State.frameBits (s : State) (p f : Nat) : List Bool :=
  (List.range 240).map (fun i => NMap.get dFalse s.psg.txVals ((p * 64 + f) * 240 + i))

/-- Is REC_PARITY (8) found in a frame entry? The entry is used as stored (R153). -/
def State.frameParity (s : State) (p f : Nat) : State :=
  if NMap.get dFalse s.psg.frameBad (p * 64 + f) then s.recordPsg p 8 f else s

/-- SLOT_FLIT_DEPART (R140): the local flits, and the forwarded copies that wait, whose CLOSE is the present
step leave. -/
def State.departFlits (s : State) : State :=
  let due := s.psg.frame.filter (fun e => e.2.getLsbD 31 && !e.2.getLsbD 30 &&
    e.2.toNat % 1024 == s.sched.step && s.ctxFlit (e.1 % 64) &&
    s.bit (R.PSG_STATUS (e.1 / 64)) F.PSG_STATUS_IN_IMAGE)
  let s := due.foldl (fun s e =>
    let p := e.1 / 64
    let f := e.1 % 64
    let s := s.frameParity p f
    let x : SlotFlit := ⟨p, s.sched.ctx, s.sched.curTick.toNat % 8, f, s.frameBits p f⟩
    { s with psg := { s.psg with out := s.psg.out ++ [.slot x], closed := (p, f) :: s.psg.closed } }) s
  let go := s.psg.forwards.filter (fun x => x.1 == s.sched.step)
  { s with psg := { s.psg with out := s.psg.out ++ go.map (fun x => .slot x.2),
                               forwards := s.psg.forwards.filter (fun x => x.1 != s.sched.step) } }

/-- Waiters of a whole step: words, and the queues that hold issue (R68). -/
def State.stepWaiters (s : State) (ws : List (Nat × StepWord)) : List Waiter :=
  ws.flatMap (fun w => s.waitersOf w.1 w.2.op) ++
  s.sched.backlog.map (fun k => ⟨galOf (mergeBp k), 7, mergeBp k, s.sched.step⟩)

/-- Do full queues hold issue (R68)? The hold limit ends that too (R76; log 25). -/
def State.backPressure (s : State) : Bool := !s.sched.holdOver && !s.sched.backlog.isEmpty

/-- The step issues. DESIGN CHOICE (log 50): of several conditions in one step GAL_ERR_LOC0 captures the first of this
order. Fetch records, every word, the isolated regions' replays, departing flits; the
step number advances and the period passes. -/
def State.issueStep (s : State) (fs : List Fetched) (ws : List (Nat × StepWord)) : State :=
  let s := if s.sched.holdLen = 0 then s else s.endHold
  let s := { s with fab := { s.fab with memOps := [] } }
  let s := fs.foldl State.recordFetch s
  let s := (issueOrder ws).foldl (fun s w => (s.runWord w.1 w.2).useFlag w.1 w.2.op) s
  let s := (s.isoView.fetchStep true).foldl (fun s f => if f.raw.getLsbD 1 then s.replay f.bp else s) s
  let s := s.departFlits
  State.elapse { s with sched := { s.sched with step := s.sched.step + 1 } }

/-- STEP_ISSUE (R72): one period of the scheduled steps: the step issues, or the period is held. -/
def execStepIssue (s : State) : Out :=
  if s.stepDue = false then .next s
  else
    let fs := s.fetchStep false
    match s.decodeFetched fs with
    | none => .fault .rejectedWord
    | some ws =>
      if ws.any (fun w => s.wordWaits w.1 w.2.op) || s.backPressure then
        .next (s.hold (s.stepWaiters ws) (ws.any (fun w => s.syncWaits w.1 w.2.op)))
      else .next (s.issueStep fs ws)

/-! The hold limit (R76). -/

/-- End one awaited operand: NO_ARRIVAL (2) with its port and entry. -/
def State.endWait (s : State) (b off port : Nat) : State :=
  let s := s.recordSched (galOf b) 2 (s.locOf b) port off
  { s with fab := { s.fab with ended := (b, off) :: s.fab.ended } }

/-- Record SYNC_TIMEOUT (5) for a word whose barrier still waits; a TIME barrier waits on. -/
def State.endSync (s : State) (w : Nat × StepWord) : State :=
  if s.syncEnds w.1 w.2.op then s.recordSched (galOf w.1) 5 (s.locOf w.1) else s

/-- End the waits of a step's words. -/
def State.endStepWaits (s : State) (ws : List (Nat × StepWord)) : State :=
  ws.foldl (fun s w =>
    let es := s.waitingEntries w.1 w.2.op
    (es.foldl (fun s off => s.endWait w.1 off (s.portOfEntry w.1 off)) s).endSync w) s

/-- The entry an arrival in flight would land in. -/
def State.entryOf (s : State) (a : Arrival) : Option Nat :=
  match s.recvFor a.bp a.port.code a.step with
  | some r => some (r.2.toNat % 1024)
  | none => none

/-- Does the committed image use port `p`? -/
def State.portInImage (s : State) (p : Nat) : Bool := s.bit (R.PSG_STATUS p) F.PSG_STATUS_IN_IMAGE

/-- The ports the committed image uses. -/
def State.imagePorts (s : State) : List Nat := (List.range 16).filter s.portInImage

/-- The landing entry of position `i` of flit `f` on port `p`. -/
def State.landEntry (s : State) (p f i : Nat) : Word := NMap.get dZero32 s.psg.landing ((p * 64 + f) * 240 + i)

/-- The destination BP of a landing entry. -/
def landBp (w : Word) : Nat := bitsOf 29 24 w.toNat * 1024 + bitsOf 23 20 w.toNat * 64 + bitsOf 19 14 w.toNat

/-- The expected flits of this tick that have not come (R142). -/
def State.missingFlits (s : State) : List (Nat × Nat) :=
  s.imagePorts.flatMap (fun p => (List.range 64).flatMap (fun f =>
    if s.flitExpected p f && !s.psg.got.contains (p, f) then [(p, f)] else []))

/-- The receive entries that flit `f` of port `p` lands in, in the active context (R141). -/
def State.flitEntries (s : State) (p f : Nat) : List (Nat × Nat) :=
  (List.range 240).filterMap (fun i =>
    let w := s.landEntry p f i
    if w.getLsbD 31 then (s.recvFor (landBp w) 5 (w.toNat % 1024)).map (fun r => (landBp w, r.2.toNat % 1024)) else none)

/-- End the waits for the entries of a flit that `only` names. -/
def State.endFlit (s : State) (p f : Nat) (only : Nat × Nat → Bool) : State :=
  ((s.flitEntries p f).filter only).foldl (fun s e => s.endWait e.1 e.2 5) s

/-- Does T3 wait (R19, R142, R179)? The hold limit ends the wait (R76). -/
def State.flipWaits (s : State) : Bool :=
  !s.sched.holdOver && (!s.fab.inflight.isEmpty || !s.fab.flights.isEmpty ||
    s.fab.deep.any (fun o => !o.write) || !s.missingFlits.isEmpty ||
    (match s.echo.snap with | some j => j.phase == 1 | none => false))

/-- The arrivals that values at merge points and outstanding deep reads still make (R65). -/
def State.comingArrivals (s : State) : List Arrival :=
  s.fab.flights.flatMap (fun f => spreadOut f f.due []) ++
  (s.fab.deep.filter (fun o => !o.write)).flatMap (fun o =>
    (List.range 64).map (fun i => ⟨o.cham * 64 + i, .memory, o.step, Nv.zero, 0, 0⟩))

/-- End the waits of a T3 flip: what is on its way, and the flits that have not come. DESIGN CHOICE (log 49): STEP of
such a NO_ARRIVAL is N, the step count of turnover. -/
def State.endFlipWaits (s : State) : State :=
  let s := (s.fab.inflight ++ s.comingArrivals).foldl (fun s a =>
    match s.entryOf a with
    | some off => s.endWait a.bp off a.port.code
    | none => s) s
  s.missingFlits.foldl (fun s x => s.endFlit x.1 x.2 (fun _ => true)) s

/-- Does nothing but TIME barriers hold the step? Their hold never meets the limit (R76). -/
def State.onlyTimeWaits (s : State) (ws : List (Nat × StepWord)) : Bool :=
  !s.backPressure && !ws.any (fun w => !(s.waitingEntries w.1 w.2.op).isEmpty || s.deepWaits w.1 w.2.op || s.syncEnds w.1 w.2.op)

/-- HOLD_LIMIT (R76): a hold that has lasted the limit it began under ends; the device halts at the end of the tick.
A shorter hold, and one for TIME barriers alone, is not changed. -/
def execHoldLimit (s : State) : Out :=
  if s.sched.holdLen = 0 ∨ s.sched.holdLen < s.sched.holdMax then .next s
  else
    let ended (s : State) : Out := .next { s.haltAtEnd with sched := { s.haltAtEnd.sched with holdOver := true } }
    match s.sched.phase with
    | .steps =>
      (match s.decodeFetched (s.fetchStep false) with
      | some ws => if s.onlyTimeWaits ws then .next s else ended (s.endStepWaits ws)
      | none => ended s)
    | .t3 => ended s.endFlipWaits
    | _ => ended s

/-! Arrivals (R64 to R68, R121, R122). -/

/-- The free choice between the old and the new contents of each byte of a deep read (R122). -/
def freeBytes (choice : Nat) (old new : Dword) : Dword := mergeBytes (BitVec.ofNat 8 choice) old new

/-- A deep read lands on its chamber's lanes (R122): own writes issued before it, in issue order; of other writes not
ordered by a barrier each byte is old or new; a double-bit error is DS_UE (4). -/
def State.landDeep (s : State) (o : DeepOp) : State :=
  let c := s.dsRead o.word
  let s := c.2.2
  let now := s.deepMerge o.cham o.word (s.fab.deep.takeWhile (fun p => p != o))
  let d := if now = o.data then now else freeBytes (s.freeVal 8) o.data now
  let s := if now = o.data then s else s.used
  let g := o.cham / 16
  let ue := c.2.1
  let s := if ue then s.recordDm g 4 (.schedule o.lane) (o.cham % 16) 0 o.step else s
  let s := { s with fab := { s.fab with deep := s.fab.deep.erase o } }
  (List.range 64).foldl (fun s i =>
    s.land (o.cham * 64 + i) .memory o.step (if ue && s.four g then Nv.x else laneBit d i)) s

/-- ARRIVAL (R64 to R67): a value reaches a receive port of BP `b`. A memory return whose tag step names
an outstanding deep read of the chamber is that read's data, for every lane (R121, R122). -/
def execArrival (b : Bp) (port : RxPort) (step : Fin 1024) (x : Nv) (s : State) : Out :=
  match (if port = .memory then s.fab.deep.find? (fun o => !o.write && o.cham == b.val / 64 && o.step == step.val) else none) with
  | some o => .next (s.landDeep o)
  | none => .next (s.land b port step x)

/-- The oldest outstanding deep write of chamber `c` that no earlier operation on its word precedes
(R121, R122). -/
def State.nextDeepWrite (s : State) (c : Nat) : Option DeepOp :=
  match s.fab.deep.find? (fun o => o.cham == c && o.write) with
  | some o =>
    match s.fab.deep.find? (fun p => p.cham == c && p.word == o.word) with
    | some p => if p = o then some o else none
    | none => none
  | none => none

/-- DEEP_WRITE_ACCEPT (R116, R121): the channel accepts the chamber's oldest deep write, which is then no
longer outstanding; a part-word write over a double-bit error is not made. -/
def execDeepWriteAccept (c : Cham) (s : State) : Out :=
  match s.nextDeepWrite c.val with
  | none => .next s
  | some o =>
    .next ({ s with fab := { s.fab with deep := s.fab.deep.erase o } }.dsWrite o.word o.mask o.data)

end Sys2Proof.Machine
end

