-- ==== Sys2Proof/Machine/Answers.lean ====
section
/-! DEFINITION. How a Control NoC status reaches its requester (10, R283, R289, R290): outcomes at the PCIe
host, statuses of mailbox commands. -/

namespace Sys2Proof.Machine

/-- Record a HOST_ERR condition (R283): bit `n`, the first address; the event holds the address registers and the status
`st`. DEDUCED (log 56): the status stands in the byte after the address. -/
def State.hostErr (s : State) (n bar addr : Nat) (st : Nat := 0) : State :=
  let s := s.raise R.HOST_ERR ⟨n, n⟩
  let s := if s.bit R.HOST_ERR_ADDR_HI F.HOST_ERR_ADDR_HI_VALID then s else
    (((s.put R.HOST_ERR_ADDR_LO F.HOST_ERR_ADDR_LO_ADDR addr).put R.HOST_ERR_ADDR_HI F.HOST_ERR_ADDR_HI_BAR bar).put
      R.HOST_ERR_ADDR_HI F.HOST_ERR_ADDR_HI_ADDR (addr / 2 ^ 32)).raise R.HOST_ERR_ADDR_HI F.HOST_ERR_ADDR_HI_VALID
  s.detect 0x09 n 0 (s.regBytes [R.HOST_ERR_ADDR_LO, R.HOST_ERR_ADDR_HI] ++ [BitVec.ofNat 8 st])

/-- Give the host an outcome. -/
def State.reply (s : State) (r : HostReply) : State := { s with host := { s.host with replies := s.host.replies ++ [r] } }

/-! AER (R284). PRESUMED (log 56): the bit numbers and the header layout of PCI Express. -/

/-- The bit of an uncorrectable error. -/
def UncErr.bit : UncErr → Nat
  | .poisoned => 12 | .timeout => 14 | .completerAbort => 15 | .malformed => 18 | .ecrc => 19 | .unsupported => 20

/-- The first 4 DW of a memory request of `len` bytes: the requester's ID and tag, and what follows a short header, are
free. -/
def State.tlpHeader (s : State) (write ep : Bool) (addr len : Nat) : List Word :=
  let w (n : Nat) : Word := BitVec.ofNat 32 n
  let long := Nat.ble (2 ^ 32) addr
  let first := natOfBool write * 0x40000000 + natOfBool long * 0x20000000 + natOfBool ep * 0x4000 + (addr % 4 + len + 3) / 4 % 1024
  let ids := w (Config.freeNat s.freeCtr)
  if long then [w first, ids, w (addr / 2 ^ 32), w (addr / 4 * 4)] else [w first, ids, w (addr / 4 * 4), w (Config.freeNat (s.freeCtr + 1))]

/-- A correctable error of the link or of AER itself: its bit, and an event of the log. -/
def State.aerCor (s : State) (n : Nat) : State :=
  let c := s.host.cfg
  { s with host := { s.host with cfg := { c with corStatus := c.corStatus ||| BitVec.ofNat 32 (2 ^ n) } } }.detect 0x09 0x10 0

/-- An uncorrectable error: its bit, the header of the first one that no mask holds back, Header Log Overflow (15) for a
later one, and an event of the log. -/
def State.aer (s : State) (k : UncErr) (hdr : List Word) : State :=
  let c := s.host.cfg
  let b : Word := BitVec.ofNat 32 (2 ^ k.bit)
  let logs := (c.uncMask &&& b) == 0
  let first := (c.uncStatus &&& ~~~c.uncMask) == 0
  let c := { c with uncStatus := c.uncStatus ||| b, headerLog := if logs && first then hdr else c.headerLog,
                    aerCtl := if logs && first then c.aerCtl / 32 * 32 + BitVec.ofNat 32 k.bit else c.aerCtl }
  let s := ({ s with host := { s.host with cfg := c } }.used.used).detect 0x09 0x11 0
  if logs && !first then s.aerCor 15 else s

/-- Max Payload Size in bytes (R274): 128 to 512. -/
def State.maxPayload (s : State) : Nat := 128 * 2 ^ bitsOf 7 5 s.host.cfg.devCtl.toNat

/-- Max Read Request Size in bytes (R274): 128 to 4,096. -/
def State.maxRead (s : State) : Nat := 128 * 2 ^ bitsOf 14 12 s.host.cfg.devCtl.toNat

/-- A host read of the device ends with an error (R284, R310): 0x82 a poisoned completion, 0x83 a completion timeout. The
completion's header is free. -/
def State.hostReadErr (s : State) (e : Nat) : State :=
  let hdr := (List.range 4).map (fun i => BitVec.ofNat 32 (Config.freeNat (s.freeCtr + i)))
  if e = 0x82 then (s.aer .poisoned hdr).used.used
  else if e = 0x83 then (s.aer .timeout hdr).used.used
  else s

/-- A read of `len` bytes completes with Completer Abort (R283, R284). -/
def State.abortRead (s : State) (addr len : Nat) : State :=
  (s.aer .completerAbort (s.tlpHeader false false addr len)).reply .abort

/-- `n` bytes 0xFF. -/
def allOnes (n : Nat) : List Byte := List.replicate n 0xFF

/-- The refusal bit of a BAR (R283): BAR4_REFUSED or BAR2_REFUSED; BAR0 has none. -/
def State.refusedBit (s : State) (bar addr st : Nat) : State :=
  if bar = 4 then s.hostErr 3 bar addr st else if bar = 2 then s.hostErr 2 bar addr st else s

/-- The PCIe outcome of a host access (R283) with status `st`: `bs` is the data of a read. -/
def State.hostAnswer (s : State) (bar addr len : Nat) (read : Bool) (st : Nat) (bs : List Byte) : State :=
  if st = 0 then (if read then s.reply (.bytes bs) else s)
  else if st = 0x0B then (if read then s.reply (.bytes (List.replicate len 0)) else s)
  else if st = 0x06 ∨ st = 0x07 then
    (if read then (s.hostErr 5 bar addr st).reply (.poisoned len) else s.hostErr 5 bar addr st)
  else if st = 0x0C then
    let s := s.hostErr (if bar = 4 then 4 else if bar = 2 then 2 else 1) bar addr st
    (if read then s.abortRead addr len else s)
  else if st = 0x01 then (if read then s.abortRead addr len else s)
  else
    let s := s.refusedBit bar addr st
    (if read then s.reply (.bytes (allOnes len)) else s)

/-- The completion status of a mailbox command for a Control NoC status (R260, R290). -/
def cmdStatus (st : Nat) : Nat :=
  match st with
  | 0x00 => 0x00 | 0x02 => 0x20 | 0x03 => 0x1D | 0x04 => 0x1E | 0x05 => 0x1F | 0x06 => 0x21
  | 0x07 => 0x22 | 0x08 => 0x23 | 0x09 => 0x24 | 0x0A => 0x2A | _ => 0x02

/-- The bytes of a list of words. -/
def wordsBytes (ws : List Dword) : List Byte := ws.flatMap (fun w => leBytes 8 w.toNat)

/-- Write bytes to the host buffer of a command: an output of the block. -/
def State.toHost (s : State) (c : CmdId) (bs : List Byte) : State :=
  { s with mbx := { s.mbx with hostOut := s.mbx.hostOut ++ [(c, bs)] } }

/-- The words of a READ's response (R289, R292): LEN data flits of four words, or one word when LAST_BE is 0. -/
def readWords (p : NocPkt) : Nat := if p.len.val = 0 then 0 else if p.lastBe = 0 then 1 else 4 * p.len.val

/-- Are reads refused with this status answered with all ones: DOMAIN_OFF, BANK_TESTING, REGION_RELOAD (R110, R244,
R296)? -/
def onesStatus (st : Nat) : Bool := st == 2 || st == 4 || st == 5

/-- The RESPONSE to a packet (R289, R292): back to its source on VC 1 with the status; a READ's data, LEN flits, all
ones where the banks or the gallery refuse it; an ATOMIC's old word. -/
def respond (p : NocPkt) (st : Nat) (data : List Dword) : NocPkt :=
  let read := p.kind == .read
  let ws : List Dword := if read then (if st = 0 then data else if onesStatus st then List.replicate (readWords p) (-1) else []) else []
  { p with kind := .response, vc := 1, len := if read then p.len else 0, dest := p.src, src := p.dest,
           destDev := p.srcDev, srcDev := p.destDev, status := BitVec.ofNat 8 st, fenceValid := false,
           operand := if p.kind = PktKind.atomic then data.headD 0 else 0, data := ws }

/-- The key of the posted writes of a packet's source to its destination. -/
def wseqKey (p : NocPkt) : Nat := (p.srcDev.val * 256 + p.src.toNat) * 256 + p.dest.toNat

/-- This device's number (R136). -/
def State.devNum (s : State) : Nat := s.fld R.LTC_ID F.LTC_ID_DEVICE_NUM

/-- The port toward device `d`; none without a valid route (R154). -/
def State.routePort (s : State) (d : Nat) : Option Nat :=
  let w := (s.reg (R.LTC_ROUTE (d / 4))).toNat / 2 ^ (8 * (d % 4)) % 256
  if 128 ≤ w then some (w % 16) else none

/-- A RESPONSE leaves its node. One to another device goes by the port of its route with TTL 16 (R154); without a route
it is dropped. -/
def State.sendResponse (s : State) (p : NocPkt) : State :=
  if p.remote = false ∨ p.destDev.val = s.devNum then { s with noc := { s.noc with out := s.noc.out ++ [p] } }
  else match s.routePort p.destDev.val with
    | some port => { s with noc := { s.noc with tunnelQ := s.noc.tunnelQ ++ [(port, 16, p)] } }
    | none => s

/-- A packet has been served: a posted write is applied in its sequence and takes no answer (R291); another has its
RESPONSE. -/
def State.answerPkt (s : State) (p : NocPkt) (st : Nat) (data : List Dword) : State :=
  if p.kind = PktKind.posted then { s with noc := { s.noc with wseq := NMap.set dZero s.noc.wseq (wseqKey p) (p.wseq.toNat + 1) } }
  else s.sendResponse (respond p st data)

/-- Is it a read? -/
def BankOp.isRead : BankOp → Bool
  | .read => true
  | _ => false

/-- The data of an answer to a Control NoC node: what has been read, or all ones for each word of a refused read. -/
def answerData (r : BankReq) (st : Nat) : List Dword :=
  if st = 0 then r.data
  else if onesStatus st then List.replicate (r.data.length + (r.left.filter BankOp.isRead).length) (-1) else []

/-- Answer a bank request that has ended with status `st` (R101, R103, R104, R110); BANK_BUSY names the first word not
served (R103). -/
def State.answerBank (s : State) (r : BankReq) (st : Nat) : State :=
  match r.who with
  | .pkt p => s.answerPkt (if st = 3 then { p with addr := BitVec.ofNat 40 (r.word * 8) } else p) st r.data
  | .noc reply =>
    if reply then
      { s with mem := { s.mem with answers := s.mem.answers ++ [⟨st, r.word * 8, answerData r st⟩] } }
    else s
  | .host addr lo len read _ =>
    s.hostAnswer 4 addr len read st (((wordsBytes r.data).drop lo).take len)
  | .cmd c op lo len =>
    let bs := ((wordsBytes r.data).drop lo).take len
    if st ≠ 0 then s.complete c (cmdStatus st)
    else match op with
      | 0 => (s.toHost c bs).complete c 0 (BitVec.ofNat 64 len)
      | 1 => s.complete c 0 (BitVec.ofNat 64 len)
      | 3 => (s.toHost c bs).complete c 0x33
      | 4 => s.complete c 0x33
      | _ => s.complete c 0 (r.data.headD 0)
  | .dma n off => { s with dma := { s.dma with answers := s.dma.answers ++ [(n, off, st, r.data)] } }

end Sys2Proof.Machine
end

