-- ==== Sys2Proof/Machine/EchoOps.lean ====
section
/-! DEFINITION. The named operations of Echo: capture records and their ring, the trigger tree, the end of
an arming, snapshots in progress (06, R157 to R181). -/

namespace Sys2Proof.Machine

/-! Segments (R157, R158, R161). -/

/-- Schedule length of context `c`. -/
def State.ctxLen (s : State) (c : Nat) : Nat := s.fld (R.SCHED_CTX_LEN c) F.SCHED_CTX_LEN_LENGTH

/-- The BPs of gallery `g` that hold probes in context `c`, one mention per probe, ascending. -/
def State.probes (s : State) (g c : Nat) : List Nat :=
  let base := if s.pace then 128 * c else 0
  (s.fab.istore.filter (fun e => e.1 / 1024 / 1024 == g && Nat.ble base (e.1 % 1024) &&
    Nat.blt (e.1 % 1024) (base + s.ctxLen c) && e.2.getLsbD 2)).map (fun e => e.1 / 1024)

/-- Bits per probe: one, or v and then k (R157). -/
def State.probeWidth (s : State) (g : Nat) : Nat := if s.four g then 2 else 1

/-- Segment length of gallery `g` in context `c`, in 64-byte units (R161). -/
def State.segUnits (s : State) (g c : Nat) : Nat := ((s.probes g c).length * s.probeWidth g + 511) / 512

/-- Eight bits as a byte. -/
def byteOfBits (l : List Bool) : Byte :=
  BitVec.ofNat 8 (l.zipIdx.foldl (fun n x => n + natOfBool x.1 * 2 ^ x.2) 0)

/-- Bits packed into `n` bytes, bit 0 of each first. -/
def packBits : Nat → List Bool → List Byte
  | 0, _ => []
  | n + 1, l => byteOfBits (l.take 8) :: packBits n (l.drop 8)

/-- The segment of gallery `g` for the active context (R161). -/
def State.segment (s : State) (g : Nat) : List Byte :=
  let ps := s.probes g s.sched.ctx
  let bits := ps.eraseDups.flatMap (fun b =>
    let n := (ps.filter (fun x => x == b)).length * s.probeWidth g
    (NMap.get (fun _ => []) s.fab.capture b ++ List.replicate n false).take n)
  packBits (s.segUnits g s.sched.ctx * 64) bits

/-- The galleries that hold probes in the active context, in the image and not under reload (R159). -/
def State.echoGals (s : State) : List Nat :=
  (List.range 64).filter (fun g => s.takesSteps g && Nat.blt 0 (s.segUnits g s.sched.ctx))

/-- REC_MAX in 64-byte units: the largest record among the resident contexts (R164). -/
def State.recMax (s : State) : Nat :=
  ((List.range 8).filter (fun c => Nat.blt 0 (s.ctxLen c))).foldl (fun m c =>
    let u := 1 + ((List.range 64).filter (fun g => s.inImage g)).foldl (fun n g => n + s.segUnits g c) 0
    if m < u then u else m) 1

/-! The ring (R162, R163). -/

/-- Is Echo armed? -/
def State.armed (s : State) : Bool := s.bit R.ECHO_CTL F.ECHO_CTL_ARMED

/-- STREAM mode? -/
def State.stream (s : State) : Bool := s.bit R.ECHO_CTL F.ECHO_CTL_MODE

/-- The DROP policy? -/
def State.dropLoss (s : State) : Bool := s.bit R.ECHO_CTL F.ECHO_CTL_LOSS

/-- Ring size in 64-byte units. -/
def State.ringUnits (s : State) : Nat := s.regionSize 12 / 64

/-- The place of a record of `u` units: a PAD first when it does not fit before the ring's end; none
when a STREAM ring is full (R162, R163). -/
def State.ringPlace (s : State) (u : Nat) : Option (Bool × Nat) :=
  let ring := s.ringUnits
  let t := s.echo.tail
  let wrap := Nat.blt ring (t + u)
  let need := if wrap then ring - t + u else u
  let rd := s.fld R.ECHO_RD_PTR F.ECHO_RD_PTR_OFFSET
  let used := (t + ring - rd) % ring
  if s.stream && Nat.ble ring (used + need) then none else some (wrap, if wrap then 0 else t)

/-- Can the buffer of gallery `g` take its segment (R166)? -/
def State.bufferFits (s : State) (g : Nat) : Bool :=
  Nat.ble (NMap.get dZero s.echo.buffered g + s.segUnits g s.sched.ctx * 64) 65536

/-- A bit set over gallery numbers. -/
def bitSet (l : List Nat) : Nat := l.foldl (fun n g => n + 2 ^ g) 0

/-- The PAD record that fills the ring's end (R162). -/
def padRec (off units : Nat) : EchoRec :=
  { off := off, units := units, pad := true, flags := 0, tick := 0, time := 0, ctx := 0, holds := 0, seq := 0,
    present := 0, lost := 0, conds := 0, stage := 0, body := [], segs := [] }

/-- Is the cycle one of the POST cycles (R160, R172)? -/
def State.isPost (s : State) : Bool := s.echo.fired && Nat.blt 0 s.echo.postLeft

/-- FLAGS known when the record closes (R160). -/
def State.recFlags (s : State) (lost : Bool) : Nat :=
  natOfBool s.isPost * 2 + natOfBool lost * 4 + natOfBool s.echo.stretched * 8 + natOfBool s.psg.marked * 16 +
  natOfBool s.echo.forced * 32 + natOfBool s.echo.asserted * 64 + natOfBool s.echo.restored * 256 +
  natOfBool s.echo.deposited * 512

/-- FLAGS of the cycle's record that what lands or times out in the T3 wait still sets (R160). -/
def State.lateFlags (s : State) : Nat :=
  natOfBool s.psg.marked * 16 + natOfBool s.echo.forced * 32 + natOfBool s.echo.deposited * 512

/-- Queue the cycle's record: the segments of `keep`, the galleries of `lost`, at `place` (R159 to
R162). -/
def State.pushRecord (s : State) (keep lost : List Nat) (place : Bool × Nat) : State :=
  let segs := keep.map (fun g => (g, s.segUnits g s.sched.ctx * 64))
  let units := 1 + segs.foldl (fun n x => n + x.2 / 64) 0
  let r : EchoRec :=
    { off := place.2, units := units, pad := false, flags := s.recFlags (!lost.isEmpty), tick := s.sched.curTick,
      time := s.sched.tickTime / 2 ^ 16 % 2 ^ 48, ctx := s.sched.ctx, holds := s.sched.cycleHolds, seq := s.echo.seq,
      present := bitSet keep, lost := bitSet lost, conds := 0, stage := 0,
      body := keep.flatMap s.segment, segs := segs }
  let pads := if place.1 then [padRec s.echo.tail (s.ringUnits - s.echo.tail)] else []
  let next := place.2 + units
  { s with echo := { s.echo with
      recs := s.echo.recs ++ pads ++ [r],
      seq := (s.echo.seq + 1) % 2 ^ 32,
      tail := if next = s.ringUnits then 0 else next,
      buffered := segs.foldl (fun m x => NMap.set dZero m x.1 (NMap.get dZero m x.1 + x.2)) s.echo.buffered } }

/-- Count the cycle's loss (R167): ECHO_LOST_COUNT, each gallery's LOST, the status bit, and ECHO_LOSS once
until that bit is cleared. -/
def State.countLoss (s : State) (gs : List Nat) : State :=
  let first := !s.bit R.ECHO_STATUS F.ECHO_STATUS_LOST
  let s := (s.bump R.ECHO_LOST_COUNT F.ECHO_LOST_COUNT_COUNT).raise R.ECHO_STATUS F.ECHO_STATUS_LOST
  let s := gs.foldl (fun s g => (s.bump (R.GAL_ECHO_STATUS g) F.GAL_ECHO_STATUS_LOST).wardenPend g 11) s
  if first then s.cicEvent 26 else s

/-- Close the cycle's record with nothing lost, when every buffer and the ring take it. -/
def State.closeWhole (s : State) : Option State :=
  let gs := s.echoGals
  if gs.all s.bufferFits then
    match s.ringPlace (1 + gs.foldl (fun n g => n + s.segUnits g s.sched.ctx) 0) with
    | some p => some (s.pushRecord gs [] p)
    | none => none
  else none

/-- Does T2 wait under STRETCH, while a buffer or the ring is full (R166)? The hold limit ends the wait (R76). -/
def State.stretchWaits (s : State) : Bool :=
  s.echo.capturing && s.closeWhole.isNone && !s.dropLoss && !s.sched.holdOver

/-- Close the cycle's record under DROP (R167): segments that do not fit are dropped; into a full STREAM
ring the whole record is dropped and SEQ skips its number. -/
def State.closeDropping (s : State) : State :=
  let gs := s.echoGals
  let keep := gs.filter s.bufferFits
  let lost := gs.filter (fun g => !s.bufferFits g)
  match s.ringPlace (1 + keep.foldl (fun n g => n + s.segUnits g s.sched.ctx) 0) with
  | some p => let s := s.pushRecord keep lost p
              if lost.isEmpty then s else s.countLoss lost
  | none => ({ s with echo := { s.echo with seq := (s.echo.seq + 1) % 2 ^ 32 } }).countLoss gs

/-- The window after a record closes (R172): one POST cycle less; the last one of an OVERWRITE ring ends
the window and halts with HALT_END. -/
def State.windowStep (s : State) : State :=
  if s.isPost then
    let n := s.echo.postLeft - 1
    let s := { s with echo := { s.echo with postLeft := n } }
    if n = 0 ∧ s.stream = false then
      let s := { s with echo := { s.echo with windowDue := true } }
      if (s.fld R.ECHO_CTL F.ECHO_CTL_ACTIONS).testBit 3 then s.haltAtEnd else s
    else s
  else s

/-! Record bytes (R160). -/

/-- The first 60 bytes of a record header. -/
def echoHead (r : EchoRec) : List Byte :=
  leBytes 2 (if r.pad then 2 else 1) ++ leBytes 2 r.flags ++ leBytes 4 (r.units * 64) ++ leBytes 8 r.tick.toNat ++
  leBytes 8 r.time ++ leBytes 1 r.ctx ++ leBytes 1 0 ++ leBytes 2 (if r.holds < 0x10000 then r.holds else 0xFFFF) ++
  leBytes 4 r.seq ++ leBytes 8 r.present ++ leBytes 8 r.lost ++ leBytes 4 (r.conds + r.stage * 16) ++ leBytes 4 0 ++
  leBytes 4 (if r.body = [] then 0 else (crc32c r.body).toNat)

/-- A record's bytes: the header with its HEADER_CRC, then the segments (R160 to R162). -/
def echoBytes (r : EchoRec) : List Byte :=
  let h := echoHead r
  h ++ leBytes 4 (crc32c h).toNat ++ r.body

/-- Does a held record overlap ring units `[off, off + units)`? -/
def recOverlaps (off units : Nat) (h : Nat × Nat × Bool) : Bool := Nat.blt h.1 (off + units) && Nat.blt off (h.1 + h.2.1)

/-- ECHO_OLDEST (R163): the oldest complete CYCLE record. -/
def State.setOldest (s : State) : State :=
  match s.echo.held.find? (fun h => !h.2.2) with
  | some h => s.put R.ECHO_OLDEST F.ECHO_OLDEST_OFFSET h.1
  | none => s

/-- Echo writes bytes to its region (R124): those of a channel that is not ready are refused. -/
def State.dsWriteUp (s : State) (a : Nat) (bs : List Byte) : State :=
  s.dsWriteSome a (bs.zipIdx.map (fun x => if s.chanReady (dsChannel (a + x.2)) then some x.1 else none))

/-- Every byte of the oldest queued record is in the Deep Store (R163): ECHO_WR_PTR advances, the
galleries' buffers free, an OVERWRITE ring gives up what the record replaced. -/
def State.recordWritten (s : State) (r : EchoRec) : State :=
  let s := s.dsWriteUp (s.regionBase 12 + r.off * 64) (echoBytes r)
  let wr := if s.ringUnits ≤ r.off + r.units then 0 else r.off + r.units
  let s := s.put R.ECHO_WR_PTR F.ECHO_WR_PTR_OFFSET wr
  let s := { s with echo := { s.echo with
      recs := s.echo.recs.tail,
      held := s.echo.held.filter (fun h => !recOverlaps r.off r.units h) ++ [(r.off, r.units, r.pad)],
      buffered := r.segs.foldl (fun m x => NMap.set dZero m x.1 (NMap.get dZero m x.1 - x.2)) s.echo.buffered } }
  if s.stream then s else s.setOldest

/-! The trigger tree (R168 to R170). -/

/-- Term `t` of gallery `g` (R168). -/
def State.term (s : State) (g t : Nat) : Bool :=
  let mask := (s.reg (R.GAL_TRIG_TERM_LO g t)).toNat + (s.reg (R.GAL_TRIG_TERM_HI g t)).toNat * 2 ^ 32
  let all := (s.fld (R.GAL_TRIG_CTL g) F.GAL_TRIG_CTL_ALL_T).testBit t
  let useA := (s.fld (R.GAL_TRIG_CTL g) F.GAL_TRIG_CTL_ASSERT_T).testBit t
  let leaf (i : Nat) : Bool := NMap.get dFalse s.fab.leaves (g * 65 + i)
  let used := (List.range 64).filter (fun i => mask.testBit i) ++ (if useA then [64] else [])
  if used = [] then false else if all then used.all leaf else used.any leaf

/-- Device condition `k` (R169). -/
def State.condition (s : State) (k : Nat) : Bool :=
  let gs := (List.range 64).filter (fun g => (s.fld (R.GAL_TRIG_CTL g) F.GAL_TRIG_CTL_ENABLE_T).testBit k)
  if gs = [] then false
  else if (s.fld R.ECHO_CTL F.ECHO_CTL_COND_ALL).testBit k then gs.all (fun g => s.term g k)
  else gs.any (fun g => s.term g k)

/-- The input of stage `n` (R170): a condition or HOST, inverted when NEGATE is 1. -/
def State.stageInput (s : State) (n : Nat) : Bool :=
  let c := s.fld (R.ECHO_STAGE n) F.ECHO_STAGE_COND
  let v := if c = 4 then s.echo.hostTrig else if c < 4 then s.condition c else false
  v != s.bit (R.ECHO_STAGE n) F.ECHO_STAGE_NEGATE

/-- COUNT of stage `n`; 0 acts as 1. -/
def State.stageCount (s : State) (n : Nat) : Nat :=
  let c := s.fld (R.ECHO_STAGE n) F.ECHO_STAGE_COUNT
  if c = 0 then 1 else c

/-- STAGES. -/
def State.stages (s : State) : Nat := s.fld R.ECHO_CTL F.ECHO_CTL_STAGES

/-- A change to the cycle's own record, when Echo captured one. -/
def State.onRecord (s : State) (f : EchoRec → EchoRec) : State :=
  { s with echo := { s.echo with
      recs := s.echo.recs.map (fun r => if !r.pad && r.tick == s.sched.curTick then f r else r) } }

/-- The stage number a record shows (R160). -/
def State.shownStage (s : State) : Nat :=
  if s.stages = 0 then 0 else if s.echo.fired then s.stages - 1 else s.echo.stage

/-- T4 of the trigger tree (R168 to R171): the leaves are latched, the conditions formed, the present stage
counts; a stage that reaches COUNT is due to complete. -/
def State.triggerTree (s : State) : State :=
  let latch (s : State) (g : Nat) : State :=
    let bit (i : Nat) : Nat := natOfBool (NMap.get dFalse s.fab.leaves (g * 65 + i)) * 2 ^ (i % 32)
    let lo := (List.range 32).foldl (fun n i => n + bit i) 0
    let hi := (List.range 32).foldl (fun n i => n + bit (32 + i)) 0
    (s.setReg (R.GAL_TRIG_LEAF_LO g) (BitVec.ofNat 32 lo)).setReg (R.GAL_TRIG_LEAF_HI g) (BitVec.ofNat 32 hi)
  let s := ((List.range 64).filter s.inImage).foldl latch s
  let conds := (List.range 4).foldl (fun n k => n + natOfBool (s.condition k) * 2 ^ k) 0
  let counting := s.armed && s.echo.capturing && Nat.blt 0 s.stages && !s.echo.fired &&
    Nat.blt s.echo.stage s.stages
  let input := counting && s.stageInput s.echo.stage
  let count := if input then s.echo.count + 1
    else if counting && s.bit (R.ECHO_STAGE s.echo.stage) F.ECHO_STAGE_CONSECUTIVE then 0 else s.echo.count
  let due := input && Nat.ble (s.stageCount s.echo.stage) count
  let s := { s with echo := { s.echo with conds := conds, count := count, stageDue := due, hostTrig := false } }
  s.onRecord (fun r => { r with
    conds := conds, stage := s.shownStage, holds := s.sched.cycleHolds, flags := r.flags ||| s.lateFlags })

/-! Snapshots in progress (R179, R181). -/

/-- SLOT_SIZE in bytes (R178). -/
def State.slotBytes (s : State) : Nat := s.echo.slotUnits * 2 ^ 24

/-- The Deep Store address of a snapshot slot in region 13. -/
def State.slotBase (s : State) (slot : Nat) : Nat := s.regionBase 13 + slot * s.slotBytes

/-- SNAP_STATUS after a snapshot ends with RESULT `r`. -/
def State.snapEnded (s : State) (slot r : Nat) : State :=
  ((s.setReg R.SNAP_STATUS 0).put R.SNAP_STATUS F.SNAP_STATUS_LAST_SLOT slot).put R.SNAP_STATUS F.SNAP_STATUS_RESULT r

/-- Abort the snapshot in progress (R181): ABORTED, its command CANCELLED. -/
def State.abortSnap (s : State) : State :=
  match s.echo.snap with
  | some j =>
    let s := { s with echo := { s.echo with snap := none } }
    (s.snapEnded j.slot 2).completeOpt j.cmd 0x2B
  | none => s

/-- A power-down, march or reload aborts a snapshot in phase 2 (R181). -/
def State.abortSnapPhase2 (s : State) : State :=
  match s.echo.snap with
  | some j => if j.phase = 2 then s.abortSnap else s
  | none => s

/-! Disarming (R164, R235). -/

/-- The gallery trigger registers return to reset. -/
def State.clearTrig (s : State) (g : Nat) : State :=
  let s := (List.range 4).foldl (fun s t => (s.setReg (R.GAL_TRIG_TERM_LO g t) 0).setReg (R.GAL_TRIG_TERM_HI g t) 0) s
  s.setReg (R.GAL_TRIG_CTL g) 0

/-- Echo disarms: its RO configuration fields return to reset, TRIGGERED and FROZEN clear, the ECHO regions
are released. -/
def State.disarm (s : State) : State :=
  let s := [R.ECHO_CTL, R.ECHO_REC_MAX, R.ECHO_PRE, R.ECHO_POST, R.ECHO_STAGE 0, R.ECHO_STAGE 1, R.ECHO_STAGE 2,
    R.ECHO_STAGE 3].foldl (fun s o => s.setReg o (regReset o)) s
  let s := (List.range 64).foldl State.clearTrig s
  let s := (s.put R.ECHO_STATUS F.ECHO_STATUS_TRIGGERED 0).put R.ECHO_STATUS F.ECHO_STATUS_FROZEN 0
  let s := (s.releaseRegion 12).releaseRegion 13
  { s with echo := { s.echo with recs := [], held := [], buffered := [], stage := 0, count := 0, fired := false,
                                 postLeft := 0, hostTrig := false, slotUnits := 0, emuMask := 0, disarming := false,
                                 disarmCmds := [], capturing := false, stageDue := false, windowDue := false } }

/-- A disarm asked for ends once no record is left to write (R164); each of its commands returns REC_MAX (R261). -/
def State.disarmIfIdle (s : State) : State :=
  if s.echo.disarming && s.echo.recs.isEmpty && s.echo.snap.isNone && (s.sched.phase == .between || !s.echo.capturing) then
    let cs := s.echo.disarmCmds
    let n := s.fld R.ECHO_REC_MAX F.ECHO_REC_MAX_UNITS * 64
    cs.foldl (fun s c => s.complete c 0 (BitVec.ofNat 64 n)) s.disarm
  else s

/-! Use of the tick-boundary engine (R98, R99). -/

/-- Does the tick-boundary engine use the banks (a snapshot's copy, a commit, a restore)? -/
def State.engineBusy (s : State) : Bool :=
  s.sched.engine || (match s.echo.snap with | some j => j.phase == 2 | none => false)

end Sys2Proof.Machine
end

