-- ==== Sys2Proof/Machine/Storage.lean ====
section
/-! DEFINITION. Design Memory banks and the Deep Store beside the schedule: bank requests and idle periods,
marches and repair, scrubbing, channel slots (04, R97 to R120; 14, R372, R373), and the meanings of those
rows. -/

namespace Sys2Proof.Machine

/-! Idle periods (R97, R98). -/

/-- Does a step word of chamber `c` use its bank? -/
def usesBank (c : Nat) (w : Nat × StepWord) : Bool :=
  w.1 / 64 == c && (match w.2.op with | .mrd _ | .mwr _ _ | .matom _ _ => true | _ => false)

/-- Will the present step issue in this period, and do any of its words use bank `c`? -/
def State.stepUsesBank (s : State) (c : Nat) : Bool :=
  match s.decodeFetched (s.fetchStep false) with
  | some ws =>
    !(ws.any (fun w => s.wordWaits w.1 w.2.op) || s.backPressure) && ws.any (usesBank c)
  | none => false

/-- Is the present period an idle period of bank `c` that nothing has used (R97, R98)? -/
def State.bankIdle (s : State) (c : Nat) : Bool :=
  !s.fab.bankUse.contains c &&
  (match s.sched.phase with
   | .steps => Nat.blt s.sched.step s.schedLen && !s.stepUsesBank c
   | .t2 => s.stretchWaits
   | .t3 => s.flipWaits
   | .t5 => false
   | .between => !s.sched.running || !s.bit R.SCHED_TICK_CFG F.SCHED_TICK_CFG_MODE || s.sched.tickHeld || s.sched.engine)

/-- A period of turnover in which turnover advances and the engine leaves bank `c` unused (R98): Drip may take it. -/
def State.turnoverFree (s : State) (c : Nat) : Bool :=
  !s.fab.bankUse.contains c && (s.sched.phase == .t2 || s.sched.phase == .t3 || s.sched.phase == .t5)

/-- Mark bank `c` as used in this period. -/
def State.useBank (s : State) (c : Nat) : State := { s with fab := { s.fab with bankUse := c :: s.fab.bankUse } }

/-! Requests (R99 to R103, R110). -/

/-- Does a march or a wake clear run on gallery `g` (R110, R113)? -/
def State.testing (s : State) (g : Nat) : Bool := s.mem.marches.any (fun m => m.gal == g)

/-! Does a gallery take requests (R296, R398)? -/

/-- The field of gallery `g` in PWR_GAL_REQ. -/
def reqField (g : Nat) : Field := ⟨2 * (g % 16) + 1, 2 * (g % 16)⟩

/-- The state requested of gallery `g`: 0 On, 1 Idle, 2 Off. -/
def State.galReq (s : State) (g : Nat) : Nat := s.fld (R.PWR_GAL_REQ (g / 16)) (reqField g)

/-- Is a request deferred: the gallery is clearing, marching or under region reload (R398)? -/
def State.galBusy (s : State) (g : Nat) : Bool := s.testing g || s.fab.isolated.contains g

/-- Is a request refused (R398)? -/
def State.galRefuses (s : State) (g r : Nat) : Bool :=
  s.inImage g && (r == 2 || (r == 1 && s.isRunning))

/-- Does gallery `g`'s local port let in no more requests: it is going Off (R296)? -/
def State.portCloses (s : State) (g : Nat) : Bool :=
  s.galReq g == 2 && Nat.ble (s.galPower g) 1 && !s.galBusy g && !s.galRefuses g 2

/-- Requests of gallery `g` that the gallery has accepted (R99). -/
def State.accepted (s : State) (g : Nat) : List BankReq :=
  s.mem.bankQ.filter (fun r => r.gal == g && r.since.isSome)

/-- Accept the waiting requests of gallery `g` in arrival order while its queue of 32 has room (R99). -/
def acceptReqs (g now : Nat) : Nat → List BankReq → List BankReq
  | _, [] => []
  | n, r :: rs =>
    if r.gal = g ∧ r.since = none then
      (if n < 32 then { r with since := some now } :: acceptReqs g now (n + 1) rs else r :: acceptReqs g now n rs)
    else r :: acceptReqs g now n rs

/-- Fill gallery `g`'s queue; while its local port is closed the others wait (R296). -/
def State.fillQueue (s : State) (g : Nat) : State :=
  if s.portCloses g then s else { s with mem := { s.mem with bankQ := acceptReqs g s.sched.now (s.accepted g).length s.mem.bankQ } }

/-- Does the requester take no response? -/
def Requester.posted : Requester → Bool
  | .noc reply => !reply
  | .pkt p => p.kind == .posted
  | .host _ _ _ read _ => !read
  | .cmd .. => false
  | .dma .. => false

/-- A bank request arrives at gallery `g` (R99, R100, R110, R244, R296). -/
def State.bankRequest (s : State) (r : BankReq) : State :=
  if s.isOff r.gal then (s.countOff r.gal r.who.posted).answerBank { r with data := [] } 2
  else if s.testing r.gal then s.answerBank { r with data := [] } 4
  else if s.fab.isolated.contains r.gal then s.answerBank { r with data := [] } 5
  else if r.left = [] then s.answerBank r 0
  else ({ s with mem := { s.mem with bankQ := s.mem.bankQ ++ [r] } }).fillQueue r.gal

/-- A request of a Control NoC node. -/
def nocReq (g word : Nat) (ops : List BankOp) (reply : Bool) : BankReq :=
  { gal := g, word := word, left := ops, since := none, data := [], status := 0, who := .noc reply }

/-- BANK_REQUEST (R99, R100): a request names words of gallery `g` from word index chamber·8,192 + word; it
shall stay inside the gallery's Design Memory (else BAD_ADDRESS, R290). -/
def execBankRequest (g : Gal) (word : Fin 131072) (ops : List BankOp) (posted : Bool) (s : State) : Out :=
  let r := nocReq g.val word.val ops (!posted)
  if 131072 < word.val + ops.length then .next (s.answerBank r 0x0B) else .next (s.bankRequest r)

/-- BANK_ATOMIC (R101). -/
def execBankAtomic (g : Gal) (word : Fin 131072) (swap : Bool) (d : Dword) (s : State) : Out :=
  .next (s.bankRequest (nocReq g.val word.val [.atomic swap d] true))

/-- Touch one word for a request (R96, R100, R101, R104): the status, the word returned, the state. -/
def State.serveOp (s : State) (c w : Nat) (op : BankOp) : Nat × List Dword × State :=
  match op with
  | .read =>
    let r := s.dmRead c w .noc 0
    (if r.2.1 then 6 else 0, [r.1], r.2.2)
  | .write m d =>
    let bad := m != 0xFF && s.dmMark c w == .double
    (if bad then 6 else 0, [], s.dmWrite c w m d .noc 0)
  | .atomic sw d =>
    let r := s.dmAtomic c w sw d .noc 0
    (if r.2.1 then 6 else 0, [r.1], r.2.2)

/-- Is it a read of the host, which waits for the posted writes the host sent to the gallery before (R291)? -/
def Requester.hostRead : Requester → Bool
  | .host _ _ _ read _ => read
  | _ => false

/-- Is it a posted write of the host? -/
def Requester.hostWrite : Requester → Bool
  | .host _ _ _ read _ => !read
  | _ => false

/-- The first request for bank `c` of a list, none while its fence holds it (R99, R291); `wrote`: a posted write of
the host comes before. -/
def firstReq (c : Nat) : Bool → List BankReq → Option BankReq
  | _, [] => none
  | wrote, r :: rs =>
    if r.gal * 16 + r.word / 8192 = c then (if wrote && r.who.hostRead then none else some r)
    else firstReq c (wrote || r.who.hostWrite) rs

/-- The oldest accepted request whose next word lies in bank `c` (R99). -/
def State.nextReq (s : State) (c : Nat) : Option BankReq := firstReq c false (s.accepted (c / 16))

/-- Replace the first occurrence of a request. -/
def replaceReq (old : BankReq) (new : Option BankReq) : List BankReq → List BankReq
  | [] => []
  | r :: rs => if r = old then (match new with | some n => n :: rs | none => rs) else r :: replaceReq old new rs

/-- BANK_SERVE (R97 to R104): in an idle period bank `c` serves one access; while a boundary action is in
progress the tick-boundary engine goes first. -/
def execBankServe (c : Cham) (s : State) : Out :=
  if s.bankIdle c.val = false then .next s
  else if s.engineBusy then .next (s.useBank c.val)
  else match s.nextReq c.val with
  | none => .next s
  | some r =>
    match r.left with
    | [] => .next s
    | op :: rest =>
      let t := (s.useBank c.val).serveOp c.val (r.word % 8192) op
      let st := if r.status = 0 then t.1 else r.status
      let r' : BankReq := { r with word := r.word + 1, left := rest, data := r.data ++ t.2.1, status := st }
      if rest = [] then
        let s := t.2.2
        let s := { s with mem := { s.mem with bankQ := replaceReq r none s.mem.bankQ } }
        .next ((s.fillQueue r.gal).answerBank { r' with word := r.word } st)
      else
        let s := t.2.2
        .next { s with mem := { s.mem with bankQ := replaceReq r (some r') s.mem.bankQ } }

/-- STEAL_LIMIT in periods; 0 acts as 1 (R103). -/
def State.stealLimit (s : State) (g : Nat) : Nat :=
  let l := s.fld (R.GAL_DM_CFG g) F.GAL_DM_CFG_STEAL_LIMIT
  (if l = 0 then 1 else l) * 1024

/-- STEAL_TIMEOUT (R103): the oldest accepted request of gallery `g` that has waited its limit is
withdrawn with BANK_BUSY; the response names the first word not served. -/
def execStealTimeout (g : Gal) (s : State) : Out :=
  match (s.accepted g.val).find? (fun r => match r.since with
      | some p => Nat.ble (p + s.stealLimit g.val) s.sched.now
      | none => false) with
  | none => .next s
  | some r =>
    let s := { s with mem := { s.mem with bankQ := replaceReq r none s.mem.bankQ } }
    let s := s.recordDm g.val 2 .noc (r.word / 8192) (r.word % 8192) 0
    .next ((s.fillQueue g.val).answerBank r 3)

/-! Marches (R107 to R113). -/

/-- Zero the arrays a destructive march tests (R107, GAL_MARCH_CTL.ARRAYS as bits 0 to 3: banks, net stores,
instruction stores, records and function tables). -/
def State.zeroArrays (s : State) (g arrays : Nat) : State :=
  let keep {α : Type} (m : NMap α) (n : Nat) : NMap α := NMap.keep m (fun k => k / n != g)
  let s := if arrays.testBit 0 then
      { s with mem := { s.mem with dm := keep s.mem.dm (16 * 8192), dmEcc := keep s.mem.dmEcc (16 * 8192),
                                   drip := s.mem.drip.filter (fun e => e.1 / 16 != g),
                                   dripBack := s.mem.dripBack.filter (fun e => e.1 / 16 != g) } } else s
  let s := if arrays.testBit 1 then
      { s with fab := { s.fab with nsPrev := keep s.fab.nsPrev (1024 * 2048), nsCur := keep s.fab.nsCur (1024 * 2048),
                                   nsTag := keep s.fab.nsTag (1024 * 2048),
                                   nsPrevTag := keep s.fab.nsPrevTag (1024 * 2048), nsBad := keep s.fab.nsBad (1024 * 2048) } } else s
  let s := if arrays.testBit 2 then
      { s with fab := { s.fab with istore := keep s.fab.istore (1024 * 1024), istoreEcc := keep s.fab.istoreEcc (1024 * 1024) } } else s
  if arrays.testBit 3 then
    { s with fab := { s.fab with slot := keep s.fab.slot (1024 * 512), slotBad := keep s.fab.slotBad (1024 * 512),
                                 recv := keep s.fab.recv (1024 * 1024), recvBad := keep s.fab.recvBad (1024 * 1024),
                                 ftBad := keep s.fab.ftBad (16 * 256) },
             regs := NMap.keep s.regs (fun o => !(Nat.ble (R.GAL_FTABLE g 0 0) o && Nat.blt o (R.GAL_FTABLE g 16 0))) }
  else s

/-- The field of a spare's repair entry: valid, soft, column (GAL_DM_REPAIR_c). -/
def spareField (spare : Nat) : Field × Field × Field :=
  if spare = 0 then (F.GAL_DM_REPAIR_SPARE0_VALID, F.GAL_DM_REPAIR_SPARE0_SOFT, F.GAL_DM_REPAIR_SPARE0_COL)
  else (F.GAL_DM_REPAIR_SPARE1_VALID, F.GAL_DM_REPAIR_SPARE1_SOFT, F.GAL_DM_REPAIR_SPARE1_COL)

/-- Load a repair entry. -/
def State.loadSpare (s : State) (c spare col : Nat) (soft : Bool) : State :=
  let f := spareField spare
  let o := R.GAL_DM_REPAIR (c / 16) (c % 16)
  ((s.put o f.1 1).put o f.2.1 (natOfBool soft)).put o f.2.2 col

/-- Repair entries of gallery `g` as they load at a reset or a wake (R111): fuse entries, then the soft
entries of the flash list where no fuse holds the entry. Keys: chamber·2 + spare, value column + 1. -/
def State.loadRepair (s : State) (g : Nat) : State :=
  let s := (List.range 16).foldl (fun s c => s.setReg (R.GAL_DM_REPAIR g c) 0) s
  let put (soft : Bool) (s : State) (e : Nat × Nat) : State :=
    if e.1 / 32 = g then s.loadSpare (e.1 / 2) (e.1 % 2) (e.2 - 1) soft else s
  let s := s.part.fuseRepair.foldl (put false) s
  (s.part.flashRepair.filter (fun e => NMap.get dZero s.part.fuseRepair e.1 == 0)).foldl (put true) s

/-- A free spare of chamber `c`, if there is one. -/
def State.freeSpare (s : State) (c : Nat) : Option Nat :=
  [0, 1].find? (fun k => !s.bit (R.GAL_DM_REPAIR (c / 16) (c % 16)) (spareField k).1)

/-- Can a march repair this fault (R111)? -/
def State.repairable (s : State) (g : Nat) (f : MarchFault) : Bool :=
  f.array.val == 0 && !f.again && s.bit (R.GAL_MARCH_CTL g) F.GAL_MARCH_CTL_REPAIR &&
    (s.freeSpare (g * 16 + f.cham.val)).isSome

/-- Give a faulty column a spare (R111): a soft entry, REPAIR_USED, the flash list and its log entry. -/
def State.repair (s : State) (g : Nat) (f : MarchFault) : State :=
  let c := g * 16 + f.cham.val
  match s.freeSpare c with
  | some k =>
    let s := s.loadSpare c k f.bit.val true
    let s := { s with part := { s.part with flashRepair := NMap.set dZero s.part.flashRepair (c * 2 + k) (f.bit.val + 1) } }
    (s.recordDm g 6 .march f.cham.val 0 0).detect 0x10 0x0D 0
  | none => s

/-- Is the faulty column already replaced? -/
def State.isRepaired (s : State) (g : Nat) (f : MarchFault) : Bool :=
  f.array.val == 0 && !f.again && [0, 1].any (fun k =>
    let o := R.GAL_DM_REPAIR g f.cham.val
    s.bit o (spareField k).1 && s.fld o (spareField k).2.2 == f.bit.val)

/-- Go through the faults a march found (R111): repair what can be repaired; answer the first that could
not be. -/
def State.judge (s : State) (g : Nat) (repair : Bool) : List MarchFault → Option MarchFault × State
  | [] => (none, s)
  | f :: fs =>
    if repair && s.isRepaired g f then s.judge g repair fs
    else if repair && s.repairable g f then (s.repair g f).judge g repair fs
    else (some f, (s.judge g repair fs).2)

/-- GAL_MARCH_RESULT and GAL_MARCH_WORD (R108). -/
def State.marchResult (s : State) (g : Nat) (f : Option MarchFault) : State :=
  let o := R.GAL_MARCH_RESULT g
  let s := (s.setReg o 0).setReg (R.GAL_MARCH_WORD g) 0
  match f with
  | none => s
  | some f =>
    let s := (((s.put o F.GAL_MARCH_RESULT_FAIL 1).put o F.GAL_MARCH_RESULT_ARRAY f.array.val).put o
      F.GAL_MARCH_RESULT_CHAMBER f.cham.val).put o F.GAL_MARCH_RESULT_BIT f.bit.val
    let s := s.put o F.GAL_MARCH_RESULT_BP (if f.array.val = 0 ∨ f.array.val = 4 then 0 else f.lane.val)
    if f.array.val = 0 then s.put (R.GAL_MARCH_WORD g) F.GAL_MARCH_WORD_WORD f.addr.val
    else s.put o F.GAL_MARCH_RESULT_ADDRESS f.addr.val

/-- Does a march test an array (R107, GAL_MARCH_CTL.ARRAYS)? A content-preserving one tests the banks. -/
def March.tests (m : March) (array : Nat) : Bool :=
  if m.keep then array == 0 else m.arrays.testBit (if array = 4 then 3 else array)

/-- The faults a march finds, array after array in the order of R108. -/
def March.inOrder (m : March) (found : List MarchFault) : List MarchFault :=
  ((List.range 5).filter m.tests).flatMap (fun a => found.filter (fun f => f.array.val == a))

/-- A march of gallery `g` ends (R107, R108, R111): zeroed arrays, repairs, result, DONE; answers whether it
passed. -/
def State.finishMarch (s : State) (m : March) (found : List MarchFault) : Bool × State :=
  let g := m.gal
  let s := if m.keep then s else s.zeroArrays g m.arrays
  let r := s.judge g (!m.keep) (m.inOrder found)
  let s := r.2.marchResult g r.1
  let s := if r.1.isSome then s.recordDm g 5 .march 0 0 0 else s
  let s := (s.put (R.GAL_MARCH_CTL g) F.GAL_MARCH_CTL_BUSY 0).raise (R.GAL_MARCH_CTL g) F.GAL_MARCH_CTL_DONE
  (r.1.isNone, { s with mem := { s.mem with marches := s.mem.marches.filter (fun x => x.gal != g) } })

/-- Does a content-preserving march run, which a run command waits for (R109)? -/
def State.keepMarch (s : State) : Bool := s.mem.marches.any (fun m => m.keep)

/-- Is the mode of a march allowed (R109)? -/
def State.marchAllowed (s : State) (g : Nat) (keep : Bool) : Bool :=
  !s.inImage g || s.runState == 0 || (keep && s.runState == 1)

/-- Withdraw what waits at a gallery's banks with status `st` (R110, R296). -/
def State.flushQueue (s : State) (g st : Nat) : State :=
  let gone := s.mem.bankQ.filter (fun r => r.gal == g)
  let s := { s with mem := { s.mem with bankQ := s.mem.bankQ.filter (fun r => r.gal != g) } }
  gone.foldl (fun s r =>
    (if st = 2 then s.countOff g r.who.posted else s).answerBank r st) s

/-- The Control NoC node of gallery `g` (R9), x in the high half. -/
def galNode (g : Nat) : Nat := (g % 8 + 1) * 16 + (g / 8 + 1)

/-- What the proxy of gallery `g` does with a packet (R296). -/
def State.proxyPkt (s : State) (g : Nat) (p : NocPkt) : State :=
  match p.kind with
  | .response | .message | .reserved => s.bump (R.NOC_OFF_COUNT g) F.NOC_OFF_COUNT_OTHER
  | k => (s.countOff g (k == .posted)).answerPkt p 2 []

/-- The 32-bit accesses of a BAR0 request (R12). -/
def halfCount (n : Nat) : Nat := if 4 < n then 2 else 1

/-- What the proxy of gallery `g` does with a BAR0 request (R13): each 32-bit access is counted. -/
def State.proxyBar0 (s : State) (g : Nat) (addr : BitVec 64) (op : HostOp) : State :=
  match op with
  | .read n => ((List.range (halfCount n.val)).foldl (fun s _ => s.countOff g false) s).hostAnswer 0 addr.toNat n.val true 2 []
  | .write bs => (List.range (halfCount bs.length)).foldl (fun s _ => s.countOff g true) s

/-- The BAR0 offset of a PCIe address (R277). -/
def bar0Off (addr : BitVec 64) : Nat := addr.toNat % 2 ^ 26

/-- Does it wait for gallery `g`? -/
def heldFor (g : Nat) : Held → Bool
  | .pkt p => p.dest.toNat == galNode g
  | .bar0 addr _ _ => bar0Off addr / 0x10000 == 0x100 + g

/-- What waits in the mesh for a gallery gone Off reaches its proxy (R296), and so do the waiting net-store accesses. -/
def State.flushNet (s : State) (g : Nat) : State :=
  let gone := s.host.netQ.filter (fun r => r.gal == g)
  let held := s.noc.waiting.filter (heldFor g)
  let s := { s with host := { s.host with netQ := s.host.netQ.filter (fun r => r.gal != g) },
                    noc := { s.noc with waiting := s.noc.waiting.filter (fun h => !heldFor g h) } }
  let s := gone.foldl (fun s r =>
    (s.countOff g r.write.isSome).hostAnswer 4 r.addr (r.got.length + r.left) r.write.isNone 2 []) s
  held.foldl (fun s h => match h with
    | .pkt p => s.proxyPkt g p
    | .bar0 addr op _ => s.proxyBar0 g addr op) s

/-- MARCH_START (R13, R109, R110): a write of GAL_MARCH_CTL of gallery `g`. -/
def execMarchStart (g : Gal) (w : Word) (s : State) : Out :=
  if s.isOff g.val then .next (s.countOff g.val true) else
  let o := R.GAL_MARCH_CTL g.val
  let s := s.setReg o (s.written o (match regRow o with | some r => r.fields | none => []) w)
  if F.GAL_MARCH_CTL_START.of w = 0 then .next s
  else
    let keep := F.GAL_MARCH_CTL_MODE.of w == 1
    if s.bit o F.GAL_MARCH_CTL_BUSY ∨ s.testing g.val ∨ s.marchAllowed g.val keep = false then
      .next (s.raise o F.GAL_MARCH_CTL_REFUSED)
    else
      let m : March := { gal := g.val, keep := keep, arrays := s.fld o F.GAL_MARCH_CTL_ARRAYS, wake := false, start := false }
      let s := s.raise o F.GAL_MARCH_CTL_BUSY
      let s := s.abortSnapPhase2.flushQueue g.val 4
      let s := if keep then s else s.put (R.GAL_MODE g.val) F.GAL_MODE_IN_IMAGE 0
      .next { s with mem := { s.mem with marches := s.mem.marches ++ [m] } }

/-- STARTUP_MARCH_END (R112, R272): the start-up march of every array of gallery `g` ends; a failure leaves
its DEVICE_READY bit clear. -/
def execStartupMarchEnd (g : Gal) (found : List MarchFault) (s : State) : Out :=
  let r := s.finishMarch { gal := g.val, keep := false, arrays := 15, wake := false, start := true } found
  .next (r.2.setGalReady g.val r.1)

/-- Power returns to an Off gallery (R397, R113): its repair entries load and its clear, or its march, begins. -/
def State.startWake (s : State) (g : Nat) : State :=
  let m : March := { gal := g, keep := false, wake := true, start := false,
                     arrays := if s.bit (R.GAL_DM_CFG g) F.GAL_DM_CFG_MARCH_ON_WAKE then 15 else 3 }
  let s := (s.loadRepair g).setGalPower g 3
  let s := if m.arrays = 15 then s.raise (R.GAL_MARCH_CTL g) F.GAL_MARCH_CTL_BUSY else s
  { s with mem := { s.mem with marches := s.mem.marches ++ [m] } }

/-- The wake clear or march `m` ends (R113, R388): DEVICE_READY is set when it passed, the gallery is On and its Warden
fetches. -/
def State.wakeEnd (s : State) (m : March) (found : List MarchFault) : State :=
  let g := m.gal
  if m.arrays = 15 then
    let r := s.finishMarch m found
    (r.2.setGalReady g r.1).wardenUp g
  else
    let s := s.zeroArrays g 0b0011
    let s := { s with regs := NMap.keep s.regs (fun o =>
      !(Nat.ble (R.GAL_FTABLE g 0 0) o && Nat.blt o (R.GAL_FTABLE g 16 0))) }
    let s := { s with mem := { s.mem with marches := s.mem.marches.filter (fun x => x.gal != g) } }
    (s.setGalReady g true).wardenUp g

/-- Does one of the galleries `gs` still wake? -/
def State.waking (s : State) (gs : List Nat) : Bool := s.mem.marches.any (fun m => m.wake && gs.contains m.gal)

/-! Deep Store channels (R114, R115, R120, R414). -/

/-- DS_CLEAR (R414): channel `n` has cleared its 1 GiB and is ready. -/
def execDsClear (n : Chan) (s : State) : Out :=
  let s := { s with mem := { s.mem with
      ds := NMap.keep s.mem.ds (fun a => dsChannel a != n.val),
      dsEcc := NMap.keep s.mem.dsEcc (fun w => dsChannel (w * 8) != n.val),
      dsUnread := s.mem.dsUnread.filter (fun b => dsChannel (b * 64) != n.val),
      dsDrop := s.mem.dsDrop.filter (fun b => dsChannel (b * 64) != n.val) } }
  .next (s.put R.DEVICE_READY2 ⟨n.val, n.val⟩ 1)

/-- The number of a claimant class (R120). -/
def dsClassCode : DsClass → Nat
  | .schedule => 0 | .echo => 1 | .noc => 2 | .loader => 3 | .drip => 4

/-- The claimants in the order of a slot of a window (R120). -/
def slotOrder (slot : Nat) : List DsClass :=
  if slot < 4 then [.echo, .schedule, .noc, .loader, .drip] else [.schedule, .echo, .noc, .loader, .drip]

/-- DS_BURST (R115, R120): a slot of the channel that holds `block` serves the first of the claimants that
have work; `crcFails` transfers of the burst fail their CRC. After four repeats a write is abandoned and
a read is uncorrectable. -/
def execDsBurst (block : Fin 536870912) (write : Bool) (waiting : List DsClass) (crcFails : Fin 6) (s : State) : Out :=
  let ch := dsChannel (block.val * 64)
  let slot := NMap.get dZero s.mem.dsSlot ch
  let s := { s with mem := { s.mem with dsSlot := NMap.set dZero s.mem.dsSlot ch ((slot + 1) % 10) } }
  match (slotOrder slot).find? (fun c => waiting.contains c) with
  | none => .next s
  | some c =>
    let s := { s with mem := { s.mem with dsServed := NMap.set dZero s.mem.dsServed ch (dsClassCode c + 1) } }
    let inj5 := s.isArmed 0x04 3 ch
    let inj1 := s.isArmed 0x04 1 ch
    let s := if inj5 then s.useArmed 0x04 3 ch else if inj1 then s.useArmed 0x04 1 ch else s
    let fails := if inj5 then 5 else if inj1 && crcFails.val = 0 then 1 else crcFails.val
    let repeats := if fails < 4 then fails else 4
    let s := if repeats = 0 then s else
      (s.bump (R.DS_CH_ERR ch) F.DS_CH_ERR_CRC_RETRY repeats).detect 0x04 1 ch
    if fails < 5 then .next s
    else if write then
      let s := (s.bump (R.DS_CH_ERR ch) F.DS_CH_ERR_UE).detect 0x04 3 ch
      .next { s with mem := { s.mem with dsDrop := block.val :: s.mem.dsDrop } }
    else .next { s with mem := { s.mem with dsUnread := block.val :: s.mem.dsUnread } }

/-- DS_ERR_CLR (R116): a write of DS_ERR_CTL.CLR clears every DS_CH_ERR_n. -/
def execDsErrClr (s : State) : Out :=
  .next ((List.range 32).foldl (fun s n => s.setReg (R.DS_CH_ERR n) 0) s)

/-- DM_CE_COUNT_CLEAR (R13, R104): a write of any value. -/
def execDmCeCountClear (g : Gal) (s : State) : Out := s.window g.val (fun s => s.setReg (R.GAL_DM_CE_COUNT g.val) 0)

/-! Drip (R105, R372, R373). -/

/-- May Drip use a period of gallery `g` (R372)? -/
def State.dripPeriod (s : State) (g : Nat) : Bool :=
  !s.testing g && !s.sched.engine && !s.fab.isolated.contains g &&
  !(match s.echo.snap with | some j => j.phase == 1 | none => false) &&
  (!s.inImage g || !s.sched.running || s.sched.phase != .steps || Nat.blt 0 s.sched.holdLen)

/-- Record a condition of step storage found by Drip: the location is the index (R373). -/
def State.dripRecord (s : State) (b n step : Nat) : State :=
  s.record (galOf b) n ⟨0, step, b % 64, b / 64 % 16⟩

/-- An instruction word (R373): a single-bit error is rewritten, a double-bit error is recorded. -/
def State.dripIstore (s : State) (b i : Nat) : State :=
  let k := b * 1024 + i
  match NMap.get dGood s.fab.istoreEcc k with
  | .good => s
  | .single =>
    let s := { s with fab := { s.fab with istoreEcc := NMap.set dGood s.fab.istoreEcc k .good } }
    (s.bump (R.GAL_ISTORE_CE_COUNT (galOf b)) F.GAL_ISTORE_CE_COUNT_COUNT).dripRecord b 8 i
  | .double => s.dripRecord b 9 i

/-- A net-store entry (R373): its parity is rewritten and NS_PARITY recorded. -/
def State.dripNet (s : State) (b i : Nat) : State :=
  if NMap.get dFalse s.fab.nsBad (b * 2048 + i) then
    { s with fab := { s.fab with nsBad := NMap.set dFalse s.fab.nsBad (b * 2048 + i) false } }.dripRecord b 6 0
  else s

/-- A bank word (R104, R105): a word with a single-bit error waits for its write-back. -/
def State.dripBank (s : State) (c w : Nat) : State :=
  let single := s.dmMark c w == .single
  let s := (s.dmRead c w .drip 0).2.2
  let s := { s with mem := { s.mem with drip := s.mem.drip.filter (fun e => e != (c, w)) } }
  if single then { s with mem := { s.mem with dripBack := s.mem.dripBack.filter (fun e => e != (c, w)) ++ [(c, w)] } } else s

/-- A Deep Store burst of 8 words (R373): single-bit words wait for their write-back, double-bit words are
counted. -/
def State.dripDeep (s : State) (block : Nat) : State :=
  let ch := dsChannel (block * 64)
  (List.range 8).foldl (fun s i =>
    let w := block * 8 + i
    match s.dsMark w with
    | .good => s
    | .single =>
      let s := (s.bump (R.DS_CH_ERR ch) F.DS_CH_ERR_CE).detect 0x04 0 ch
      { s with mem := { s.mem with dsBack := s.mem.dsBack.filter (fun x => x != w) ++ [w] } }
    | .double => s.dsUe ch) s

/-- Does a Control NoC request wait for bank `c`, accepted or not, fenced or not (R99)? -/
def State.bankWanted (s : State) (c : Nat) : Bool := s.mem.bankQ.any (fun r => r.gal * 16 + r.word / 8192 == c)

/-- Is Drip's check of this target enabled and allowed in this period (R99, R372, R373)? -/
def State.dripMay (s : State) (t : DripTarget) : Bool :=
  let on (f : Field) : Bool := s.bit R.DRIP_CTL f
  match t with
  | .istore b _ => on F.DRIP_CTL_ISTORE && s.dripPeriod (galOf b.val)
  | .net b _ => on F.DRIP_CTL_NETSTORE && s.dripPeriod (galOf b.val)
  | .ftable c _ => on F.DRIP_CTL_RECORDS && s.dripPeriod (c.val / 16)
  | .slot b _ | .recv b _ => on F.DRIP_CTL_RECORDS && s.dripPeriod (galOf b.val)
  | .frame _ _ | .landing _ _ => on F.DRIP_CTL_RECORDS && !s.sched.engine
  | .bank c _ => on F.DRIP_CTL_DM && !s.engineBusy && !s.testing (c.val / 16) &&
      (s.turnoverFree c.val || (s.bankIdle c.val && !s.bankWanted c.val))
  | .deep b => on F.DRIP_CTL_DS && s.chanReady (dsChannel (b.val * 64))

/-- One work item of Drip (R373). -/
def State.drip (s : State) (t : DripTarget) : State :=
  match t with
  | .istore b i => s.dripIstore b.val i.val
  | .net b i => s.dripNet b.val i.val
  | .ftable c i =>
    if NMap.get dFalse s.fab.ftBad (c.val * 256 + i.val) then s.record (c.val / 16) 7 ⟨0, 0, 0, c.val % 16⟩ else s
  | .slot b i =>
    if NMap.get dFalse s.fab.slotBad (b.val * 512 + i.val) then
      s.recordSched (galOf b.val) 3 ⟨0, 0, b.val % 64, b.val / 64 % 16⟩ else s
  | .recv b i =>
    if NMap.get dFalse s.fab.recvBad (b.val * 1024 + i.val) then
      s.recordSched (galOf b.val) 4 ⟨0, 0, b.val % 64, b.val / 64 % 16⟩ else s
  | .frame p i => if NMap.get dFalse s.psg.frameBad (p.val * 64 + i.val) then s.recordPsg p.val 8 i.val else s
  | .landing p i =>
    if NMap.get dFalse s.psg.landingBad (p.val * 15360 + i.val) then s.recordPsg p.val 8 (i.val / 240) else s
  | .bank c w => (s.useBank c.val).dripBank c.val w.val
  | .deep b => s.dripDeep b.val

/-- DRIP_SCRUB (R105, R372, R373): Drip checks one target; `endOfPass` marks the last item of a pass over
the fabric or over the Deep Store. -/
def execDripScrub (t : DripTarget) (endOfPass : Bool) (s : State) : Out :=
  if s.dripMay t = false then .next s
  else
    let s := s.drip t
    if endOfPass = false then .next s
    else match t with
      | .deep _ => .next (s.bump R.DRIP_STATUS F.DRIP_STATUS_DS_PASSES)
      | _ => .next (s.bump R.DRIP_STATUS F.DRIP_STATUS_FABRIC_PASSES)

/-- DRIP_WRITE_BACK (R105, R373): Drip writes the corrected word back, unless another agent has written it
since the scrub read. -/
def execDripWriteBack (t : DripTarget) (s : State) : Out :=
  match t with
  | .bank c w =>
    if s.mem.dripBack.contains (c.val, w.val) && s.dripMay t then
      let s := (s.useBank c.val).dmStore c.val w.val (s.dmWord c.val w.val)
      .next { s with mem := { s.mem with dripBack := s.mem.dripBack.filter (fun e => e != (c.val, w.val)) } }
    else .next s
  | .deep b =>
    let here := s.mem.dsBack.filter (fun w => w / 8 == b.val)
    let s := here.foldl (fun s w => { s with mem := { s.mem with dsEcc := NMap.set dGood s.mem.dsEcc w .good } }) s
    .next { s with mem := { s.mem with dsBack := s.mem.dsBack.filter (fun w => w / 8 != b.val) } }
  | _ => .next s

end Sys2Proof.Machine
end

