-- ==== Sys2Proof/Machine/Cic.lean ====
section
/-! DEFINITION. The Central Interrupt Controller as commands (12, R318 to R328). -/

namespace Sys2Proof.Machine

/-! Inputs and pending bits (R319, R320). -/

/-- The input of LEVEL source `n` (R320). The FIFO event of a serial port is the level that SOURCE_EVENT
drives. -/
def State.cicInput (s : State) (n : Nat) : Bool :=
  if n = 17 then s.bit R.SCHED_STATUS F.SCHED_STATUS_OVERRUN
  else if n = 18 then s.reg R.LTC_STATUS != 0
  else if n = 19 then s.fld R.SCHED_STATUS ⟨2, 1⟩ != 0
  else if n = 32 then s.bit R.RIM_WIRE_STATUS F.RIM_WIRE_STATUS_SEEN
  else if n = 33 then s.bit R.RIM_STATUS F.RIM_STATUS_SCRUB_FAULT
  else if n = 34 then s.bit R.RIM_PW_STATUS F.RIM_PW_STATUS_OUT_LATE
  else if 35 ≤ n ∧ n ≤ 38 then s.fld (R.SP_STATUS (n - 35)) ⟨17, 16⟩ != 0 || s.cic.fifo.contains (n - 35)
  else if 48 ≤ n ∧ n ≤ 63 then s.reg (R.PSG_ERR (n - 48)) != 0
  else if 64 ≤ n ∧ n ≤ 95 then
    s.bit (R.DMA_CH_STATUS (n - 64)) F.DMA_CH_STATUS_DONE_EVT || s.bit (R.DMA_CH_STATUS (n - 64)) F.DMA_CH_STATUS_HALT_EVT
  else if n = 96 then s.bit R.ERR_STATUS F.ERR_STATUS_CE
  else if n = 97 then s.bit R.ERR_STATUS F.ERR_STATUS_UE
  else if n = 98 then s.bit R.ERR_STATUS F.ERR_STATUS_FATAL
  else if n = 99 then s.reg R.NOC_ERR != 0
  else if n = 100 then s.reg R.HOST_ERR != 0
  else if n = 101 then s.thermalAlert
  else if 192 ≤ n ∧ n ≤ 255 then
    s.reg (R.GAL_ERR_STATUS (n - 192)) != 0 || s.reg (R.GAL_SCHED_ERR (n - 192)) != 0 ||
      s.reg (R.GAL_DM_STATUS (n - 192)) != 0
  else false

/-- Is source `n` in service at any target? -/
def State.inService (s : State) (n : Nat) : Bool := s.cic.service.any (fun v => v.src == n)

/-- The pending bit of source `n` (R319): stored for an EDGE source; the input, while not in service, for a
LEVEL source. -/
def State.cicPending (s : State) (n : Nat) : Bool :=
  cicListed n && (if s.cicIsEdge n then NMap.get dFalse s.cic.edge n else s.cicInput n && !s.inService n)

/-! Eligibility (R321). -/

/-- A configuration register as it is in force: a write acts from the next period on (R326). -/
def State.cicWord (s : State) (o : Nat) : Word :=
  if s.cic.priorAt = s.sched.now then
    (match s.cic.prior.find? (fun x => x.1 == o) with | some x => x.2 | none => s.reg o)
  else s.reg o

/-- A field of a configuration register in force. -/
def State.cicFld (s : State) (o : Nat) (f : Field) : Nat := f.of (s.cicWord o)

/-- Note what a configuration register holds before a write (R326). -/
def State.cicKeep (s : State) (o : Nat) : State :=
  let n := s.sched.now
  let old := if s.cic.priorAt = n then s.cic.prior else []
  if old.any (fun x => x.1 == o) then s
  else { s with cic := { s.cic with prior := (o, s.reg o) :: old, priorAt := n } }

/-- The threshold in force at target `t` (R328): 15 while its core is not ready. -/
def State.cicThreshold (s : State) (t : Nat) : Nat :=
  if s.cic.held.contains t then 15 else s.cicFld (R.CIC_THRESHOLD t) F.CIC_THRESHOLD_LEVEL

/-- The highest priority of a list of services; 0 when empty. -/
def topPrio (l : List Service) : Nat := l.foldl (fun m v => if m < v.prio then v.prio else m) 0

/-- CIC_RUNNING_t: for target 4 the highest CIC_HOST_RUN_v. -/
def State.cicRunning (s : State) (t : Nat) : Nat := topPrio (s.cic.service.filter (fun v => v.target == t))

/-- CIC_HOST_RUN_v. -/
def State.hostRun (s : State) (v : Nat) : Nat :=
  topPrio (s.cic.service.filter (fun x => x.target == 4 && x.vector == v))

/-- The running priority that applies to source `n` at target `t`. -/
def State.runningFor (s : State) (t n : Nat) : Nat :=
  if t = 4 then s.hostRun (s.cicFld (R.CIC_SRC n) F.CIC_SRC_VECTOR) else s.cicRunning t

/-- Is source `n` eligible at target `t` (R321)? -/
def State.eligible (s : State) (t n : Nat) : Bool :=
  let p := s.cicFld (R.CIC_SRC n) F.CIC_SRC_PRIORITY
  s.cicPending n && (s.cicFld (R.CIC_SRC n) F.CIC_SRC_TARGETS).testBit t && Nat.blt (s.cicThreshold t) p &&
    Nat.blt (s.runningFor t n) p

/-- The eligible source of highest priority at target `t`, the lowest number among equals (R322); 0 for
none. -/
def State.best (s : State) (t : Nat) : Nat :=
  ((List.range 512).foldl (fun (m : Nat × Nat) n =>
    if s.eligible t n && Nat.blt m.2 (s.cicFld (R.CIC_SRC n) F.CIC_SRC_PRIORITY) then
      (n, s.cicFld (R.CIC_SRC n) F.CIC_SRC_PRIORITY) else m) (0, 0)).1

/-! Claiming (R322, R323). -/

/-- Target `t` takes source `n`: the pending bit clears and the source is in service with its present priority
and vector. -/
def State.take (s : State) (t n : Nat) : State :=
  let v : Service := ⟨t, n, s.cicFld (R.CIC_SRC n) F.CIC_SRC_PRIORITY, s.cicFld (R.CIC_SRC n) F.CIC_SRC_VECTOR⟩
  let s := { s with cic := { s.cic with edge := NMap.set dFalse s.cic.edge n false, service := s.cic.service ++ [v] } }
  if t = 4 then s.msixDue v.vector else s

/-- One claim of a period: what the target chose, whether a lower target took it. -/
def State.claimOne (s : State) (t n : Nat) (lost : Bool) : State :=
  let got := if lost then 0 else n
  let s := if got = 0 then s.bump R.CIC_COUNTS F.CIC_COUNTS_SPURIOUS else s.take t got
  if t = 4 then s else { s with cic := { s.cic with claimed := s.cic.claimed ++ [(t, got)] } }

/-- The claims of one period, target by target; `taken` are the sources that lower targets received. -/
def State.claimAll (s : State) (taken : List Nat) : List (Nat × Nat) → State
  | [] => s
  | (t, n) :: r => State.claimAll (s.claimOne t n (taken.contains n)) (n :: taken) r

/-- CIC_CLAIM (R322): the targets of `ts` claim in one period (bit 4 is the forwarding engine). Each chooses
from the same pending bits; the lowest-numbered of those that chose one source receives it. -/
def execCicClaim (ts : BitVec 5) (s : State) : Out :=
  .next (s.claimAll [] (((List.range 5).filter (fun t => ts.getLsbD t)).map (fun t => (t, s.best t))))

/-- HOST_FORWARD (R323): the forwarding engine claims a source eligible at target 4, and its MSI-X message is
due. -/
def execHostForward (s : State) : Out :=
  if s.best 4 = 0 then .next s else .next (s.take 4 (s.best 4))

/-! Completion (R324, R325, R327). -/

/-- CIC_COMPLETE (R324, R327): a write of `id` to CIC_COMPLETE_t; a PCIe write reaches only target 4. -/
def execCicComplete (t : Fin 5) (id : BitVec 9) (host : Bool) (s : State) : Out :=
  let n := id.toNat
  if (host ∧ t.val ≠ 4) ∨ n = 0 then .next s
  else if s.cic.service.any (fun v => v.target == t.val && v.src == n) then
    .next { s with cic := { s.cic with
      service := s.cic.service.filter (fun v => !(v.target == t.val && v.src == n)) } }
  else if s.cicPending n then .next s
  else
    let s := s.bump R.CIC_COUNTS F.CIC_COUNTS_COMPLETE_ORPHAN
    .next (((s.put R.CIC_ORPHAN_LAST F.CIC_ORPHAN_LAST_TARGET t.val).put R.CIC_ORPHAN_LAST F.CIC_ORPHAN_LAST_ID
      n).raise R.CIC_ORPHAN_LAST F.CIC_ORPHAN_LAST_VALID)

/-! Events and configuration (R319, R320, R326). -/

/-- SOURCE_EVENT (R319): the condition of source `n`: an EDGE source pends; the FIFO event of a serial port
drives its LEVEL source; the other LEVEL sources follow their registers. -/
def execSourceEvent (n : Fin 512) (level : Bool) (s : State) : Out :=
  if 35 ≤ n.val ∧ n.val ≤ 38 then
    let rest := s.cic.fifo.filter (fun k => k != n.val - 35)
    .next { s with cic := { s.cic with fifo := if level then (n.val - 35) :: rest else rest } }
  else .next (s.cicEvent n.val)

/-- CIC_SW_SET (R320): bit i of a write to CIC_SW_SET_k is an event on source 448 + 32k + i. -/
def execCicSwSet (k : Fin 2) (w : Word) (s : State) : Out :=
  .next ((List.range 32).foldl (fun s i => if w.getLsbD i then s.cicEvent (448 + 32 * k.val + i) else s) s)

/-- CIC_SRC_WRITE (R320, R326): priority, targets and vector of a listed source. -/
def execCicSrcWrite (n : Fin 512) (w : Word) (s : State) : Out :=
  if cicListed n.val then
    .next ((((s.cicKeep (R.CIC_SRC n.val)).put (R.CIC_SRC n.val) F.CIC_SRC_VECTOR (F.CIC_SRC_VECTOR.of w)).put (R.CIC_SRC n.val)
      F.CIC_SRC_TARGETS (F.CIC_SRC_TARGETS.of w)).put (R.CIC_SRC n.val) F.CIC_SRC_PRIORITY (F.CIC_SRC_PRIORITY.of w))
  else .next s

/-- CIC_COUNTS_CLEAR: a write of any value clears CIC_COUNTS. -/
def execCicCountsClear (s : State) : Out := .next (s.setReg R.CIC_COUNTS 0)

/-! Resets (R328). -/

/-- A core leaves the ready state (R328): its services end and its threshold is held at 15. -/
def State.cicCoreDown (s : State) (t : Nat) : State :=
  { s with cic := { s.cic with service := s.cic.service.filter (fun v => v.target != t),
                               held := t :: s.cic.held.filter (fun k => k != t) } }

/-- A core is ready again: its threshold is the last value written. -/
def State.cicCoreUp (s : State) (t : Nat) : State :=
  { s with cic := { s.cic with held := s.cic.held.filter (fun k => k != t) } }

/-- A HOST reset (R328): target 4's services end and its threshold resets. -/
def State.cicHostReset (s : State) : State :=
  { s with cic := { s.cic with service := s.cic.service.filter (fun v => v.target != 4) } }.setReg (R.CIC_THRESHOLD 4) 0

end Sys2Proof.Machine
end

