-- ==== Sys2Proof/Machine/LatOps.lean ====
section
/-! DEFINITION. What a port sends to the lattice: LATTICE flits, floods, IDENT (05, R130, R133, R144, R146). -/

namespace Sys2Proof.Machine

/-- LTC_CFG.IN_LATTICE. -/
def State.inLattice (s : State) : Bool := s.bit R.LTC_CFG F.LTC_CFG_IN_LATTICE

/-- STATE of port `p`. -/
def State.portState (s : State) (p : Nat) : Nat := s.fld (R.PSG_STATUS p) F.PSG_STATUS_STATE

/-- Is port `p` trained? -/
def State.trained (s : State) (p : Nat) : Bool := s.portState p == 5

/-- Does port `p` take the flits that come? Those of a discarded block it discards (R128). -/
def State.receives (s : State) (p : Nat) : Bool := s.trained p && !s.psg.discarding.contains p

/-- Hand a flit to its port, which sends it in a block (R127). -/
def State.tx (s : State) (f : TxFlit) : State := { s with psg := { s.psg with out := s.psg.out ++ [f] } }

/-- A LATTICE flit of this device (R130). -/
def State.latFlit (s : State) (sub : Nat) (tick : BitVec 64) (low : Nat := 0) : LatFlit :=
  { sub := sub, origin := s.devNum, tick := tick, time := s.time48, low := low }

/-- What tells notices apart (R146): kind, origin and tick. A RELEASE and a HOLD of LATTICE_BARRIER may follow one of the same
origin and tick whose start was called off, so theirs holds the time as well (log 55). -/
def noticeKey (f : LatFlit) : Nat × Nat × BitVec 64 :=
  (if f.sub = 3 ∨ f.sub = 2 ∧ f.low = 1 then f.sub + 16 * f.time else f.sub, f.origin, f.tick)

/-- Has this notice passed here? -/
def State.heard (s : State) (f : LatFlit) : Bool := s.psg.seen.contains (noticeKey f)

/-- Send a notice on each of `ports` but `except`; each notice once per origin and tick (R146). -/
def State.floodOn (s : State) (ports : List Nat) (f : LatFlit) (except : Option Nat) : State :=
  if s.heard f then s else
  let s := { s with psg := { s.psg with seen := noticeKey f :: s.psg.seen } }
  (ports.filter (fun p => some p != except)).foldl (fun s p => s.tx (.lattice p f)) s

/-- Flood a notice on every port of the image (R146). -/
def State.flood (s : State) (f : LatFlit) (except : Option Nat := none) : State :=
  s.floodOn s.imagePorts f except

/-- The profile this device reports (R144): that of its VERIFIED staged image, else of its committed image,
else none: 0 none, 1 Reach, 2 Pace. -/
def State.ownProfile (s : State) : Nat :=
  if s.fld R.IMG_STATUS F.IMG_STATUS_STATE = 4 then 1 + (NMap.get dByte s.img.bytes 0x15).toNat
  else if s.hasImage then 1 + natOfBool s.pace else 0

/-- The SUB-dependent bits of an IDENT flit on port `p` (R130). -/
def State.identBits (s : State) (p : Nat) : Nat :=
  0x0E65 + s.part.stepping.revision * 2 ^ 16 + s.ownProfile * 2 ^ 24 + s.devNum * 2 ^ 26 +
  s.fld R.LTC_ID F.LTC_ID_MAPPED * 2 ^ 35 + p * 2 ^ 36

/-- Send IDENT on port `p`. -/
def State.sendIdent (s : State) (p : Nat) : State := s.tx (.lattice p (s.latFlit 6 0 (s.identBits p)))

/-- Repeat IDENT on every trained port (R136, R144). -/
def State.sendIdents (s : State) : State :=
  ((List.range 16).filter s.trained).foldl State.sendIdent s

/-- Flood FAULT naming tick `t` (R146, R148, R151, R152). -/
def State.floodFault (s : State) (t : BitVec 64) : State := s.flood (s.latFlit 4 t)

end Sys2Proof.Machine
end

