-- ==== Sys2Proof/Machine/LinkOps.lean ====
section
/-! DEFINITION. Slot flits between devices: landing, forwarding, and the notices of the lattice barrier (05,
R138 to R153). -/

namespace Sys2Proof.Machine

/-! Slot flits (R138 to R144, R153). -/

/-- REC_PARITY (8) of a landing entry: used as stored (R153). -/
def State.landParity (s : State) (p f i : Nat) : State :=
  if NMap.get dFalse s.psg.landingBad ((p * 64 + f) * 240 + i) then s.recordPsg p 8 f else s

/-- One position of an expected flit goes to its BP: readable from step CLOSE + HELD (R142). -/
def State.landPosition (s : State) (p f close : Nat) (vals : List Bool) (i : Nat) : State :=
  let w := s.landEntry p f i
  if w.getLsbD 31 = false then s
  else
    let s := s.landParity p f i
    let b := landBp w
    let x : Nv := if s.four (galOf b) then ⟨vals.getD i false, vals.getD (i + 1) false⟩ else Nv.ofBool (vals.getD i false)
    let a : Arrival :=
      { bp := b, port := .link, step := w.toNat % 1024, val := x, due := s.sched.now,
        minStep := close + s.fld (R.PSG_HELD p) F.PSG_HELD_HELD }
    { s with fab := { s.fab with inflight := insertArrival a s.fab.inflight } }

/-- The frame entries that forward flit `f` of port `p` (R140): port and index of the copy, CLOSE. -/
def State.forwardsOf (s : State) (p f : Nat) : List (Nat × Nat × Nat) :=
  (s.psg.frame.filter (fun e => e.2.getLsbD 31 && e.2.getLsbD 30 && bitsOf 29 26 e.2.toNat == p &&
    bitsOf 25 20 e.2.toNat == f && s.portInImage (e.1 / 64))).map (fun e => (e.1 / 64, e.1 % 64, e.2.toNat % 1024))

/-- A forwarded copy leaves at its CLOSE step or now, whichever is later (R140). -/
def State.forwardFlit (s : State) (x : SlotFlit) (d : Nat × Nat × Nat) : State :=
  let s := s.frameParity d.1 d.2.1
  let y : SlotFlit := { x with port := d.1, flit := d.2.1 }
  if s.sched.phase = .steps ∧ s.sched.step ≤ d.2.2 then
    { s with psg := { s.psg with forwards := s.psg.forwards ++ [(d.2.2, y)] } }
  else s.tx (.slot y)

/-- A flit of the current tick (R142, R153): of another context it is discarded with CTX_SKEW (4);
otherwise it is got, its values land and its copies leave. -/
def State.takeFlit (s : State) (x : SlotFlit) (close : Nat) : State :=
  let p := x.port
  if x.ctx ≠ s.sched.ctx then s.recordPsg p 4 x.flit
  else if s.psg.got.contains (p, x.flit) then s
  else
    let s := { s with psg := { s.psg with got := (p, x.flit) :: s.psg.got } }
    let s := (List.range 240).foldl (fun s i => s.landPosition p x.flit close x.vals i) s
    (s.forwardsOf p x.flit).foldl (fun s d => s.forwardFlit x d) s

/-- The flits that came one tick ahead are those of the tick that begins, by their TICKTAG (R150, R153). -/
def State.takeEarly (s : State) : State :=
  let fs := s.psg.early.filter (fun x => x.1.tick == s.sched.curTick.toNat % 8)
  let s := { s with psg := { s.psg with early := [] } }
  fs.foldl (fun s x => s.takeFlit x.1 x.2) s

/-! Times in LATTICE flits (R130): 48 bits of the Device Time Counter. -/

/-- The DTC value nearest the present one whose bits are those of a 48-bit time. -/
def State.dtcNear (s : State) (t : Nat) : Nat :=
  let d := s.sched.dtc
  let v := d / 2 ^ 64 * 2 ^ 64 + t % 2 ^ 48 * 2 ^ 16
  if v + 2 ^ 63 < d then (v + 2 ^ 64) % 2 ^ 80
  else if d + 2 ^ 63 < v ∧ 2 ^ 64 ≤ v then v - 2 ^ 64
  else v

/-- The DTC `n` periods from now at the present rate. -/
def State.dtcIn (s : State) (n : Nat) : Nat := (s.sched.dtc + n * (s.reg R.TB_INCR).toNat) % 2 ^ 80

/-- LTC_CFG.MARGIN. -/
def State.margin (s : State) : Nat := s.fld R.LTC_CFG F.LTC_CFG_MARGIN

/-! Holds and releases of a tick (R146, R147). -/

/-- The devices that hold tick `t`. -/
def State.holdersOf (s : State) (t : BitVec 64) : List Nat :=
  (s.psg.holds.filter (fun h => h.2 == t)).map (fun h => h.1)

/-- Has every holder of tick `t` released it? -/
def State.allReleased (s : State) (t : BitVec 64) : Bool :=
  (s.holdersOf t).all (fun d => s.psg.releases.any (fun r => r.1 == d && r.2.1 == t))

/-- The later of two DTC values. -/
def laterOf (a b : Nat) : Nat := if dtcReached a b then a else b

/-- The latest start time released for tick `t`, `d` when none. -/
def State.releaseTime (s : State) (t : BitVec 64) (d : Nat) : Nat :=
  ((s.psg.releases.filter (fun r => r.2.1 == t)).map (fun r => r.2.2)).foldl laterOf d

/-- Forget the notices of ticks before `t`. -/
def State.pruneNotices (s : State) (t : BitVec 64) : State :=
  let new (x : BitVec 64) : Bool := t.ule x
  { s with psg := { s.psg with
      holds := s.psg.holds.filter (fun h => new h.2), releases := s.psg.releases.filter (fun r => new r.2.1),
      holdsSent := s.psg.holdsSent.filter new, seen := s.psg.seen.filter (fun x => new x.2.2),
      doneFrom := s.psg.doneFrom.filter (fun d => new (d.2 + 1)) } }

/-- Does the FREE barrier of tick `t` stand open (R150): DONE of the tick before on every port of the
image? -/
def State.barrierOpen (s : State) (t : BitVec 64) : Bool :=
  s.imagePorts.all (fun p => s.psg.doneFrom.any (fun d => d.1 == p && d.2 + 1 == t))

/-! Routes and the reports of a lattice barrier (R136, R154, R264). -/

/-- The other devices with a valid route. -/
def State.routed (s : State) : List Nat :=
  (List.range 512).filter (fun d => (s.routePort d).isSome && d != s.devNum)

/-- The origin stays halted: a start that has not begun is off. -/
def State.stopStart (s : State) : State :=
  if s.psg.startAt.isNone then s
  else { s with psg := { s.psg with startAt := none }, sched := { s.sched with running := false } }.put R.DEVICE_STATE
    F.DEVICE_STATE_RUN_STATE 1

/-- No device starts (R264). DESIGN CHOICE (log 55): the origin of a RUN_FROM calls a start off that has not begun with a HOLD
whose bit 0 is set. -/
def State.revokeStart (s : State) : State :=
  if s.psg.barrierRun = false ∨ s.psg.startAt.isNone then s
  else (s.flood (s.latFlit 2 s.sched.nextTick 1)).stopStart

/-- The origin's command completes; RESULT0 is the number of devices that reported. -/
def State.endBarrier (s : State) (st : Nat) : State :=
  let n := s.psg.reports.length
  let s := if st ≠ 0 then s.revokeStart else s
  { s with psg := { s.psg with origin := none, reports := [] } }.completeOpt s.psg.origin st (BitVec.ofNat 64 n)

/-- When every device has reported, the barrier ends: with success, or with what the first report says that is none; such a
report stops every start (R264). -/
def State.judgeBarrier (s : State) : State :=
  if s.psg.origin.isNone then s
  else
    let bad := s.psg.reports.find? (fun r => r.2 != 0)
    let s := if bad.isSome then s.revokeStart else s
    if (s.devNum :: s.routed).all (fun d => s.psg.reports.any (fun r => r.1 == d)) then
      s.endBarrier ((bad.map (fun r => r.2)).getD 0)
    else s

/-- Report to the origin `d` of a lattice barrier: 0 or TICK_MISMATCH. -/
def State.reportTo (s : State) (d reason : Nat) : State :=
  if d = s.devNum then { s with psg := { s.psg with reports := s.psg.reports ++ [(d, reason)] } }.judgeBarrier
  else { s with psg := { s.psg with reportsOut := s.psg.reportsOut ++ [(d, reason)] } }

/-- A device that halts before the tick of a HALT_BEFORE reports. -/
def State.reportHalt (s : State) : State :=
  match s.psg.holdFrom with
  | some x => if x.2 = s.sched.nextTick then { s with psg := { s.psg with holdFrom := none } }.reportTo x.1 0 else s
  | none => s

/-! The tunnel of the Control NoC (R154). -/

/-- The flits of a packet (R289). -/
def pktFlits (p : NocPkt) : Nat := p.len.val + 1

/-- Has VC `v` of port `p` credit for `n` flits (R154)? -/
def State.hasCredit (s : State) (p v n : Nat) : Bool := Nat.ble (NMap.get dZero s.psg.creditUsed (p * 4 + v) + n) 64

/-- Send a tunnelled packet on port `p`, on credit. -/
def State.sendTunnel (s : State) (p ttl : Nat) (k : NocPkt) : State :=
  let c := p * 4 + k.vc.val
  { s with psg := { s.psg with
      out := s.psg.out ++ [.noc p ttl k],
      creditUsed := NMap.set dZero s.psg.creditUsed c (NMap.get dZero s.psg.creditUsed c + pktFlits k) } }

/-- Send what waits for tunnel credit, in order per port and VC; `kept` waits on. -/
def drainTunnel : List (Nat × Nat × NocPkt) → List (Nat × Nat × NocPkt) → State → State
  | [], kept, s => { s with noc := { s.noc with tunnelQ := kept } }
  | e :: t, kept, s =>
    if s.trained e.1 && s.hasCredit e.1 e.2.2.vc.val (pktFlits e.2.2) &&
        !kept.any (fun x => x.1 == e.1 && x.2.2.vc == e.2.2.vc) then
      drainTunnel t kept (s.sendTunnel e.1 e.2.1 e.2.2)
    else drainTunnel t (kept ++ [e]) s

/-- Send on what has credit now. -/
def State.drained (s : State) : State := drainTunnel s.noc.tunnelQ [] s

/-- A packet for port `p` (R154): it goes when its VC has credit. -/
def State.tunnel (s : State) (p ttl : Nat) (k : NocPkt) : State :=
  { s with noc := { s.noc with tunnelQ := s.noc.tunnelQ ++ [(p, ttl, k)] } }.drained

/-- Return credit for a packet received on port `p` (R154): a CREDIT flit. -/
def State.giveCredit (s : State) (p : Nat) (k : NocPkt) : State :=
  s.tx (.lattice p (s.latFlit 5 0 (pktFlits k * 2 ^ (8 * k.vc.val))))

end Sys2Proof.Machine
end

