-- ==== Sys2Proof/Machine/Entry.lean ====
section
/-! DEFINITION. Submission entries (09, R253, R261, R262): their fields and the command that each spells. -/

namespace Sys2Proof.Machine

/-- Bytes `a` to `a + n - 1` of a submission entry as a number. -/
def entryNat (e : List Byte) (a n : Nat) : Nat := leNat ((e.drop a).take n)

/-- OPCODE of an entry. -/
def entryOp (e : List Byte) : Nat := entryNat e 0 1
/-- HOST_LEN of an entry. -/
def entryLen (e : List Byte) : Nat := entryNat e 0x10 4
/-- TARGET_DEV of an entry. -/
def entryDev (e : List Byte) : Nat := entryNat e 4 2 % 512
/-- Bit `n` of FLAGS. -/
def entryFlag (e : List Byte) (n : Nat) : Bool := (entryNat e 1 1).testBit n
/-- A field of PARAM as bits. -/
def entryBits (w : Nat) (e : List Byte) (a : Nat) : BitVec w := BitVec.ofNat w (entryNat e a (w / 8))
/-- Bit 0 of a byte of PARAM. -/
def entryBit (e : List Byte) (a : Nat) : Bool := (entryNat e a 1).testBit 0

/-- The header that an entry of queue `h.queue` in slot `h.slot` spells. -/
def entryHdr (h : Hdr) (e : List Byte) : Hdr :=
  { queue := h.queue, tag := entryBits 16 e 2, slot := h.slot, intr := entryFlag e 1,
    target := if entryFlag e 3 then some (entryBits 64 e 0x38) else none, origin := none }

/-- The net block of an entry (R262). -/
def entryNet (e : List Byte) : NetBlock :=
  { gallery := entryBits 8 e 0x18, chamber := entryBits 8 e 0x19, bp := entryBits 8 e 0x1A, kind := entryBits 8 e 0x1B,
    context := entryBits 8 e 0x1C, value := entryBits 8 e 0x1D, addr := entryBits 16 e 0x1E, count := entryBits 16 e 0x20 }

/-- FUSE_WRITE by its SETTING (R374). -/
def entryFuse (h : Hdr) (e : List Byte) (b : HostBuf) : Option Instr :=
  let i := entryBits 8 e 0x19
  match entryNat e 0x18 1 with
  | 1 => some (.fuseSvn h i b)
  | 2 => some (.ownerProgram h i b)
  | 3 => some (.ownerRevoke h i b)
  | 4 => some (.bedrockSelect h i b)
  | 5 => some (.laneReversal h i b)
  | 6 => some (.debugLock h i b)
  | 0x10 => some (.storeKek h i b)
  | _ => none

/-- The command that an entry spells (R253, R261), with what the host buffer gives the device; `ok` is what a flash's
read-back finds (R357). -/
def decodeEntry (h : Hdr) (e : List Byte) (buf : HostBuf) (ok : Bool) : Option Instr :=
  let h := entryHdr h e
  let b := { buf with len := entryLen e }
  match entryOp e with
  | 0x01 => some (.getInfo h b)
  | 0x02 => some (.getReady h (entryBits 128 e 0x18) (entryBits 32 e 0x28))
  | 0x10 => some (.imageStage h ⟨entryBit e 0x18, entryBit e 0x19, b⟩ (entryBits 64 e 0x20) (entryBits 16 e 0x28)
      (entryBits 16 e 0x2A) (entryBits 16 e 0x2C) (entryBits 16 e 0x2E))
  | 0x11 => some (.imageVerify h)
  | 0x12 => if (entryNat e 0x18 1).testBit 1 then some (.latticeCommit h (entryBit e 0x18))
      else some (.imageCommit h (entryBit e 0x18))
  | 0x13 => some (.regionReload h (entryBits 64 e 0x18))
  | 0x20 => some (.run h)
  | 0x21 => some (.halt h (entryBit e 0x18))
  | 0x22 => some (.step h (entryBits 32 e 0x18))
  | 0x23 => some (.setTick h (entryBits 8 e 0x18) (entryBits 8 e 0x19) (entryBits 8 e 0x1A) (entryBits 8 e 0x1B)
      (entryBits 32 e 0x1C) (entryBits 16 e 0x20))
  | 0x24 => some (.selectContext h (entryBits 8 e 0x18))
  | 0x30 => some (.force h (entryNet e))
  | 0x31 => some (.release h (entryNet e))
  | 0x32 => if entryNat e 0x1B 1 = 2 then some (.stateDeposit h (entryNet e)) else some (.deposit h (entryNet e))
  | 0x33 => some (.peek h (entryNet e) b)
  | 0x40 => some (.memRead h (entryBits 8 e 0x18) (entryBits 64 e 0x20) b)
  | 0x41 => some (.memWrite h (entryBits 8 e 0x18) (entryBits 64 e 0x20) b)
  | 0x42 => some (.memAtomic h (entryBits 8 e 0x18) (entryBits 64 e 0x20) (entryBits 8 e 0x28) (entryBits 64 e 0x30))
  | 0x50 => if entryNat e 0x18 1 = 0 then some (.echoArm h b) else some (.echoDisarm h)
  | 0x51 => some (.echoRead h (entryBits 64 e 0x20) (entryBit e 0x18) b)
  | 0x52 => some (.echoTrigger h (entryBit e 0x18))
  | 0x60 => some (.snapshot h (entryBits 8 e 0x18))
  | 0x61 => some (.restore h (entryBits 64 e 0x20) (entryBit e 0x18))
  | 0x70 => some (.latticeTrain h (entryBits 16 e 0x18) (entryBits 8 e 0x1A))
  | 0x71 => some (.latticeMap h b)
  | 0x72 => if entryNat e 0x18 1 = 0 then some (.runFrom h) else some (.haltBefore h)
  | 0x80 => some (.fwUpdate h (entryBits 8 e 0x18) (entryBits 8 e 0x19) b ok)
  | 0x81 => some (.attest h (entryBits 256 e 0x18) b)
  | 0x90 => some (.logRead h (entryBits 32 e 0x18) (entryBits 16 e 0x1C) b)
  | 0xA0 => if entryNat e 0x1E 1 = 0 then some (.injectStatus h (entryBits 32 e 0x18) (entryBits 16 e 0x1C))
      else some (.injectFault h (entryBits 32 e 0x18) (entryBits 16 e 0x1C))
  | 0xB0 => entryFuse h e b
  | _ => none

/-- The identity of the command in a fetched entry. -/
def fetchedId (q slot : Nat) (e : List Byte) : CmdId :=
  { queue := q, tag := entryBits 16 e 2, sqIndex := slot, intr := entryFlag e 1, remote := entryFlag e 2 }

/-- A command's identity. -/
def cmdOf (h : Hdr) : CmdId :=
  { queue := h.queue.val, tag := h.tag, sqIndex := h.slot.val, intr := h.intr, remote := false,
    origin := h.origin.map (fun d => d.val) }

/-- The entry of a fetched command. -/
def State.fetchedEntry (s : State) (c : CmdId) : Option (List Byte) :=
  (s.mbx.entries.find? (fun f => f.1 == c)).map (fun f => f.2)

/-- May the command `i` with header `h` run as the command it names (R253)? What was fetched under that identity runs as
its entry spells it; a command of the tunnel has no entry here. -/
def State.spelled (s : State) (h : Hdr) (i : Instr) (buf : HostBuf) (ok : Bool) : Bool :=
  match s.fetchedEntry (cmdOf h) with
  | some e => decodeEntry h e buf ok == some i
  | none => true

end Sys2Proof.Machine
end

