-- ==== Sys2Proof/Machine/MbxOps.lean ====
section
/-! DEFINITION. What every mailbox command shares: its identity, its start, the functions it needs, targets
and waiting boundary actions; leaving the halted state (09, R249 to R269; 03, R82; 13, R343; 16, R398). -/

namespace Sys2Proof.Machine

/-! Starting a command (R249, R252, R269). -/

/-- The lowest-numbered command core that is ready. -/
def State.lowestCore (s : State) : Option Nat :=
  [0, 1, 2, 3].find? (fun c => (s.fld R.DEVICE_READY3 F.DEVICE_READY3_CORE).testBit c)

/-- The core that serves queue `q` (R252). -/
def State.coreFor (s : State) (q : Nat) : Nat :=
  if (s.fld R.DEVICE_READY3 F.DEVICE_READY3_CORE).testBit (q % 4) then q % 4 else s.lowestCore.getD 0

/-- The serving core of every enabled queue shows in MBX_Q_STATUS (R252). -/
def State.showCores (s : State) : State :=
  (List.range 16).foldl (fun s q =>
    if s.bit (R.MBX_Q_CFG q) F.MBX_Q_CFG_ENABLE then s.put (R.MBX_Q_STATUS q) F.MBX_Q_STATUS_CORE (s.coreFor q) else s) s

/-- A command is outstanding from its fetch on (R249). -/
def State.start (s : State) (c : CmdId) : State :=
  if s.mbx.outstanding.any (fun p => p.1 == c) then s
  else ({ s with mbx := { s.mbx with outstanding := s.mbx.outstanding ++ [(c, s.coreFor c.queue)] } }).queueStatus c.queue

/-- A command starts (R256, R258): the first progress entry of a Long one is due after 10 ms. -/
def State.begin (s : State) (c : CmdId) (cls : CmdClass) : State :=
  let s := s.start c
  let n := s.sched.now
  { s with mbx := { s.mbx with
      unstarted := s.mbx.unstarted.filter (fun x => x != c),
      started := s.mbx.started.filter (fun x => x.cmd != c) ++ [⟨c, cls, n, n + 15000000⟩] } }

/-- Bit `n` of DEVICE_READY (R268, R269). -/
def State.readyBit (s : State) (n : Nat) : Bool := s.fld (R.DEVICE_READY0 + n / 32 * 4) ⟨n % 32, n % 32⟩ == 1

/-- Set or clear bit `n` of DEVICE_READY. -/
def State.setReady (s : State) (n : Nat) (v : Bool) : State :=
  s.put (R.DEVICE_READY0 + n / 32 * 4) ⟨n % 32, n % 32⟩ (natOfBool v)

/-- Bit numbers of the functions (R268). -/
def chanBits : List Nat := (List.range 32).map (fun n => 64 + n)
/-- The bit of a Passage port. -/
def portBit (p : Nat) : Nat := 96 + p
/-- The bit of command core 0. -/
def coreBit : Nat := 112
/-- The bit of Lantern. -/
def lanternBit : Nat := 116
/-- The bit of time lock. -/
def timeBit : Nat := 119

/-- The first function that a command needs and that is not ready (R269): one ready command core, then the
listed ones. -/
def State.firstUnready (s : State) (needs : List Nat) : Option Nat :=
  if s.lowestCore.isNone then some coreBit else needs.find? (fun n => !s.readyBit n)

/-- May a command not start yet (R256)? Earlier fetched commands of its queue start first, but for BARRIER commands that
wait; a BARRIER command waits until every earlier one has completed. -/
def State.barred (s : State) (c : CmdId) : Bool :=
  (s.mbx.unstarted.contains c && (s.mbx.unstarted.takeWhile (fun x => x != c)).any (fun x =>
    x.queue == c.queue && !s.mbx.barriers.contains x)) ||
  (s.mbx.barriers.contains c &&
    (s.mbx.outstanding.takeWhile (fun p => p.1 != c)).any (fun p => p.1.queue == c.queue))

/-- Run the command `row` (R253, R256, R260, R269): a fetched one only as its entry spells it; a BARRIER command waits for the
earlier ones; it is outstanding; a target on a command that takes none is BAD_PARAM; a function that is not ready is
NOT_READY with its number; otherwise `f`. Bedrock firmware serves only the commands with `always` (caution of R354); the status of the others
is not stated (log 3). -/
def State.command (s : State) (h : Hdr) (row : Instr) (takesTarget : Bool) (needs : List Nat) (f : CmdId → State → State)
    (always : Bool := false) (cls : CmdClass := .normal) (buf : HostBuf := ⟨0, [], none⟩) (ok : Bool := false) : Out :=
  let c := cmdOf h
  if s.barred c || !s.spelled h row buf ok then .next s else
  let s := s.begin c cls
  if s.lnt.coreFw = 2 ∧ always = false then .next (s.used.complete c (s.freeVal 16)) else
  if h.target.isSome && !takesTarget then .next (s.complete c 2)
  else match s.firstUnready needs with
    | some n => .next (s.complete c 3 (BitVec.ofNat 64 n))
    | none => .next (f c s)

/-- What a command's host buffer of `n` bytes allows: its bytes, or the status that ends the command. -/
def hostBytes (buf : HostBuf) (n : Nat) : Nat ⊕ List Byte :=
  if buf.len < n then .inl 2 else if buf.fault.any (fun a => Nat.blt a n) then .inl 0x33 else .inr (buf.bytes.take n)

/-! Targets and boundary actions (R20, R233, R257). -/

/-- Has the boundary of target tick `t` passed (R257, R261)? While the device is halted with next tick count
T, the boundary of T has not. -/
def State.passed (s : State) (t : BitVec 64) : Bool :=
  t.ult s.sched.nextTick ||
  (t == s.sched.nextTick && s.isRunning && (s.sched.phase == .between || s.sched.phase == .t5))

/-- Queue a boundary action: at the next T5 or at its target's; at once while the device does not run
and the target is none or the next tick. -/
def State.await (s : State) (act : BoundaryAct) (target : Option (BitVec 64)) (c : Option CmdId) : State :=
  let now := !s.isRunning && (target.isNone || target == some s.sched.nextTick)
  let target := if s.isRunning && target.isNone && s.sched.phase == .t5 then some (s.sched.nextTick + 1) else target
  { s with sched := { s.sched with pending := s.sched.pending ++ [{ act := act, target := target, cmd := c, now := now }] } }

/-- Is a waiting action due (R20)? -/
def State.isDue (s : State) (p : Pending) : Bool :=
  p.now || (s.sched.phase == .t5 && (p.target.isNone || p.target == some s.sched.nextTick))

/-- The place of an action in the order of R20; arming and disarming come first. -/
def BoundaryAct.rank : BoundaryAct → Nat
  | .arm _ => 0 | .disarm => 0
  | .snapshot .. => 1
  | .commit .. => 2 | .reload .. => 2 | .joinRegion => 2
  | .restore .. => 3
  | .context _ => 4
  | .tickCfg _ => 5
  | .halt _ => 6

/-- The first due action in the order of R20. -/
def State.nextDue (s : State) : Option Pending :=
  (List.range 7).findSome? (fun r => s.sched.pending.find? (fun p => s.isDue p && p.act.rank == r))

/-- Remove one waiting action. -/
def State.dropPending (s : State) (p : Pending) : State :=
  { s with sched := { s.sched with pending := s.sched.pending.erase p } }

/-- A command that takes a target waits for its boundary; LATE when it has passed. -/
def State.awaitCmd (s : State) (act : BoundaryAct) (target : Option (BitVec 64)) (c : CmdId) : State :=
  match target with
  | some t => if s.passed t then s.complete c 5 else s.await act target (some c)
  | none => s.await act none (some c)

/-! The LOCKED grid (R81, R82, R343). Times are DTC values of 80 bits in units of 2^-32 ns. -/

/-- The LOCKED period as the registers hold it. -/
def State.period (s : State) : Nat :=
  (s.reg R.SCHED_PERIOD_NS).toNat * 2 ^ 32 + s.fld R.SCHED_PERIOD_FRAC F.SCHED_PERIOD_FRAC_FRAC * 2 ^ 16

/-- FREE mode? -/
def State.free (s : State) : Bool := s.bit R.SCHED_TICK_CFG F.SCHED_TICK_CFG_MODE

/-- The first instant of the grid `g + k·p` that DTC value `t` has not passed (R263, R343). -/
def gridAfter (g p t : Nat) : Nat :=
  if p = 0 ∨ !dtcReached t g then g
  else
    let d := (t + 2 ^ 80 - g % 2 ^ 80) % 2 ^ 80
    (g + (d + p - 1) / p * p) % 2 ^ 80

/-- The next grid instant is the first at or after now. -/
def State.regrid (s : State) : State :=
  if s.free then s
  else { s with sched := { s.sched with nextGrid := gridAfter s.sched.nextGrid s.period s.sched.dtc } }

/-! Leaving the halted state (R263, R398). -/

/-- Bring On the Idle galleries of the image (R398). -/
def State.wakeIdle (s : State) : State :=
  ((List.range 64).filter (fun g => s.inImage g && s.galPower g == 1)).foldl (fun s g => s.galleryOn g) s

/-- RUN_STATE while the device runs: 0b11 while a region is isolated (R16). -/
def State.runCode (s : State) : Nat := if s.fab.isolated.isEmpty then 2 else 3

/-- The device leaves the halted state (R263): Idle galleries come On, ticking starts, in LOCKED mode at
the first grid instant from now. DESIGN CHOICE (log 51): RUN_STATE shows running from that moment, not from the next
T5. -/
def State.goRunning (s : State) : State :=
  let s := s.wakeIdle.regrid
  { s with sched := { s.sched with running := true, phase := .between, step := 0, tickHeld := false } }.put
    R.DEVICE_STATE F.DEVICE_STATE_RUN_STATE s.runCode

/-- Complete with CANCELLED every command that waits for a boundary and satisfies `p`, in submission
order. -/
def State.cancelPending (s : State) (p : Pending → Bool) : State :=
  let gone := s.sched.pending.filter p
  let s := { s with sched := { s.sched with pending := s.sched.pending.filter (fun x => !p x) } }
  gone.foldl (fun s x => s.completeOpt x.cmd 0x2B) s


end Sys2Proof.Machine
end

