-- ==== Sys2Proof/Machine/RimOps.lean ====
section
/-! DEFINITION. The named operations of the Rimstone pin fabric: the signal pool, product terms,
macrocells, wires, resets, serializers (07, R185 to R199, R206, R207, R212). -/

namespace Sys2Proof.Machine

/-- Free bit number `i` of this instant (log 3). -/
def State.freeBit (s : State) (i : Nat) : Bool := Config.freeNat (s.freeCtr + i) % 2 == 1

/-- The state after a range of free values has been used. -/
def State.usedN (s : State) (n : Nat) : State := { s with freeCtr := s.freeCtr + n }

/-- Is the global region committed? -/
def State.rimOn (s : State) : Bool := s.bit R.RIM_STATUS F.RIM_STATUS_CONFIGURED

/-- STATE of bank `b`: 0 UNCONFIGURED, 1 LOADING, 2 running. -/
def State.bankState (s : State) (b : Nat) : Nat := s.fld (R.RIM_BANK b) F.RIM_BANK_STATE

/-- Does bank `b` run with its VIO present (R212)? -/
def State.bankRuns (s : State) (b : Nat) : Bool := s.bankState b == 2 && NMap.get dZero s.rim.vio b != 0

/-- The net value of an external pin; an undriven pin is Z. -/
def dPin (_ : Nat) : Nv := Nv.z

/-- RATIO of pin `p`. -/
def State.ratio (s : State) (p : Nat) : Nat := 2 ^ s.fld (R.RIM_PIN p) F.RIM_PIN_RATIO

/-- The logic level of pin `p` (R197, R199, R212): what drives it from outside, what the pin drives, the pull of a bank
that does not run, or a free value. -/
def State.pinLevel (s : State) (p : Nat) : Bool :=
  let n := NMap.get dPin s.rim.pinExt p
  let b := p / 24
  if n.k then n.v
  else if NMap.get dFalse s.rim.pinOe p then (NMap.get dZero32 s.rim.pinOut p).getLsbD (s.ratio p - 1)
  else if s.bankState b != 2 && NMap.get dZero s.rim.vio b != 0 then s.bit (R.RIM_BANK b) F.RIM_BANK_PULL_SEL
  else s.freeBit p

/-! Product terms (R187, R188). `rd` reads the pool. -/

/-- The true literals of PT `j` of block `k`, a 40-bit set. -/
def State.ptTrue (s : State) (k j : Nat) : Nat :=
  s.fld (R.BLK_PT_W0 k j) F.BLK_PT_W0_TRUE_LO + s.fld (R.BLK_PT_W1 k j) F.BLK_PT_W1_TRUE_HI * 2 ^ 32

/-- The complemented literals of PT `j` of block `k`. -/
def State.ptComp (s : State) (k j : Nat) : Nat :=
  s.fld (R.BLK_PT_W1 k j) F.BLK_PT_W1_COMP_LO + s.fld (R.BLK_PT_W2 k j) F.BLK_PT_W2_COMP_HI * 2 ^ 24

/-- Input `i` of block `k`. -/
def State.blkIn (s : State) (rd : Nat → Bool) (k i : Nat) : Bool := rd (s.fld (R.BLK_IN k i) F.BLK_IN_SRC)

/-- The value of PT `j` of block `k` (R187). -/
def State.ptValue (s : State) (rd : Nat → Bool) (k j : Nat) : Bool :=
  let t := s.ptTrue k j
  let c := s.ptComp k j
  (List.range 40).all (fun i => (!t.testBit i || s.blkIn rd k i) && (!c.testBit i || !s.blkIn rd k i))

/-- The enabled PTs of a macrocell in a role (R188): 0 SUM, 1 CE, 2 LRST, 3 OE. -/
def State.ptsOf (s : State) (m role : Nat) : List Nat :=
  (List.range 64).filter (fun j =>
    s.bit (R.BLK_PT_W2 (m / 16) j) F.BLK_PT_W2_ENABLE &&
    s.fld (R.BLK_PT_W2 (m / 16) j) F.BLK_PT_W2_OWNER == m % 16 &&
    s.fld (R.BLK_PT_W2 (m / 16) j) F.BLK_PT_W2_ROLE == role)

/-- The OR of a macrocell's PTs in a role. -/
def State.orPts (s : State) (rd : Nat → Bool) (m role : Nat) : Bool :=
  (s.ptsOf m role).any (fun j => s.ptValue rd (m / 16) j)

/-- The register offset of macrocell `m`. -/
def mcOff (m : Nat) : Nat := R.BLK_MC (m / 16) (m % 16)

/-- s = sum XOR POL (R189). -/
def State.mcSum (s : State) (rd : Nat → Bool) (m : Nat) : Bool :=
  s.orPts rd m 0 != s.bit (mcOff m) F.BLK_MC_POL

/-- The clock enable: 1 with no CE PT. -/
def State.mcCe (s : State) (rd : Nat → Bool) (m : Nat) : Bool := (s.ptsOf m 1).isEmpty || s.orPts rd m 1

/-- The drive enable: 1 with no OE PT. -/
def State.mcOe (s : State) (rd : Nat → Bool) (m : Nat) : Bool := (s.ptsOf m 3).isEmpty || s.orPts rd m 3

/-- MODE of macrocell `m`: 0 COMB, 1 D, 2 T, 3 LATCH. -/
def State.mcMode (s : State) (m : Nat) : Nat := s.fld (mcOff m) F.BLK_MC_MODE

/-- Is reset tree `r` asserted (R192)? -/
def State.treeReset (s : State) (rd : Nat → Bool) (r : Nat) : Bool :=
  let o := R.RIM_RST r
  (s.bit o F.RIM_RST_EN_PIN && !s.pinLevel (s.fld o F.RIM_RST_PIN)) ||
  (s.bit o F.RIM_RST_EN_MC && rd (s.fld o F.RIM_RST_MC)) ||
  (s.bit o F.RIM_RST_EN_SW && s.fld R.RIM_CTL ⟨r, r⟩ == 1) ||
  (s.bit o F.RIM_RST_EN_RESTORE && Nat.blt 0 s.rim.restorePulse) ||
  (s.bit o F.RIM_RST_EN_COMMIT && Nat.blt 0 s.rim.commitPulse)

/-- Is macrocell `m`'s reset source asserted (R189)? -/
def State.mcReset (s : State) (rd : Nat → Bool) (m : Nat) : Bool :=
  match s.fld (mcOff m) F.BLK_MC_RST_SRC with
  | 1 => s.treeReset rd 0
  | 2 => s.treeReset rd 1
  | 3 => s.orPts rd m 2
  | _ => false

/-- Is the latch of macrocell `m` transparent? -/
def State.latchOpen (s : State) (m : Nat) : Bool :=
  s.rim.clkHigh.contains (s.fld (mcOff m) F.BLK_MC_CLK) != s.bit (mcOff m) F.BLK_MC_CLK_INV

/-- The output of macrocell `m` to the pool (R189, R212). -/
def State.mcOut (s : State) (rd : Nat → Bool) (m : Nat) : Bool :=
  let rv := s.bit (mcOff m) F.BLK_MC_RST_VAL
  let mode := s.mcMode m
  if s.bankRuns (m / 192) = false then s.bankState (m / 192) == 1 && mode != 0 && rv
  else if mode = 0 then s.mcSum rd m
  else if Nat.blt 0 (NMap.get dZero s.rim.rstHeld m) || s.mcReset rd m then rv
  else if mode = 3 ∧ s.latchOpen m then s.mcSum rd m
  else if mode = 3 then NMap.get dFalse s.rim.latched m
  else NMap.get dFalse s.rim.mc m

/-- The macrocell whose configuration drives wire `w` of bank `b`. -/
def State.wireDriver (s : State) (b w : Nat) : Option Nat :=
  (List.range 192).find? (fun i => s.bit (mcOff (b * 192 + i)) F.BLK_MC_WIRE_EN &&
    s.fld (mcOff (b * 192 + i)) F.BLK_MC_WIRE_SEL == w) |>.map (fun i => b * 192 + i)

/-- Bank wire `w` of bank `b` (R206, R207, R212): its driver's value, or its keeper. -/
def State.wireValue (s : State) (rd : Nat → Bool) (b w : Nat) : Bool :=
  if s.bankRuns b = false then false
  else if s.rim.wiresOff.any (fun x => x.1 == b * 64 + w) then NMap.get dFalse s.rim.keeper (b * 64 + w)
  else match s.wireDriver b w with
    | some m => if s.mcOe rd m then rd m else NMap.get dFalse s.rim.keeper (b * 64 + w)
    | none => NMap.get dFalse s.rim.keeper (b * 64 + w)

/-! Serial ports (R195). PRESUMED (log 8): the usual UART frame, SPI bytes most significant bit first. -/

/-- Clocks of tree 0 per bit of serial port `p`. -/
def State.spBitClocks (s : State) (p : Nat) : Nat :=
  let d := s.fld (R.SP_CTL p) F.SP_CTL_DIV + 1
  if s.bit (R.SP_CTL p) F.SP_CTL_MODE then 2 * d else 16 * d

/-- The bits of a byte's frame on the wire: eight for SPI; start, data, parity and stop bits for a UART. -/
def State.spFrame (s : State) (p : Nat) : Nat :=
  let ctl := R.SP_CTL p
  if s.bit ctl F.SP_CTL_MODE then 8
  else 9 + (if s.fld ctl F.SP_CTL_FORMAT = 0 then 0 else 1) + (if s.bit ctl F.SP_CTL_STOP2 then 2 else 1)

/-- Has serial port `p` shifted out its oldest byte? -/
def State.spSent (s : State) (p : Nat) : Bool :=
  Nat.ble (s.spFrame p * s.spBitClocks p) (NMap.get dZero s.rim.txClk p)

/-- Parity of a byte. -/
def byteParity (b : Byte) : Bool := (List.range 8).foldl (fun x i => x != b.getLsbD i) false

/-- Output `o` of serial port `p` (R186): TXD or MOSI, SCK, CS_N, the interrupt. -/
def State.spOut (s : State) (p o : Nat) : Bool :=
  let ctl := R.SP_CTL p
  let spi := s.bit ctl F.SP_CTL_MODE
  let fmt := s.fld ctl F.SP_CTL_FORMAT
  let on := s.bit ctl F.SP_CTL_ENABLE
  let q := NMap.get (fun _ => []) s.rim.tx p
  let clk := NMap.get dZero s.rim.txClk p
  let bit := clk / s.spBitClocks p
  match o with
  | 0 =>
    (match on, q with
     | true, b :: _ =>
       if spi then b.getLsbD (7 - bit % 8)
       else if bit = 0 then false
       else if bit ≤ 8 then b.getLsbD (bit - 1)
       else if bit = 9 ∧ fmt = 1 then byteParity b
       else if bit = 9 ∧ fmt = 2 then !byteParity b
       else true
     | _, _ => !spi)
  | 1 => spi && ((fmt / 2 == 1) != (on && !q.isEmpty && !s.spSent p &&
      (Nat.ble (s.fld ctl F.SP_CTL_DIV + 1) (clk % s.spBitClocks p) != (fmt % 2 == 1))))
  | 2 => !(spi && on && !q.isEmpty)
  | _ => !(NMap.get (fun _ => []) s.rim.rx p).isEmpty || s.bit (R.SP_STATUS p) F.SP_STATUS_RX_OVF ||
      s.bit (R.SP_STATUS p) F.SP_STATUS_TX_OVF

/-! The pool (R186). -/

/-- The pool signals that no macrocell or wire makes. -/
def State.poolFixed (s : State) (i : Nat) : Bool :=
  if 0x600 ≤ i ∧ i < 0x6C0 then NMap.get dFalse s.rim.portV (i - 0x600)
  else if 0x700 ≤ i ∧ i < 0x7C0 then !NMap.get dFalse s.rim.portX (i - 0x700)
  else if 0x800 ≤ i ∧ i < 0x1400 then
    s.bankRuns ((i - 0x800) / 16 / 24) && (NMap.get dZero32 s.rim.deser ((i - 0x800) / 16)).getLsbD ((i - 0x800) % 16)
  else if 0x1400 ≤ i ∧ i < 0x1420 then s.rim.uflOut.getLsbD (i - 0x1400)
  else if i = 0x1420 then s.rim.uflValid
  else if 0x1424 ≤ i ∧ i < 0x1434 then s.spOut ((i - 0x1424) / 4) ((i - 0x1424) % 4)
  else if i = 0x1480 then s.rim.strobe
  else i == 0x1482

/-- Pool signal `i`. The fuel bounds chains of combinational macrocells and wires; a loop longer than
that settles at no value the spec states, and is free (log 3). -/
def State.poolF (s : State) : Nat → Nat → Bool
  | 0, i => s.freeBit i
  | n + 1, i =>
    if i < 0x600 then s.mcOut (State.poolF s n) i
    else if 0x1500 ≤ i ∧ i < 0x1700 then s.wireValue (State.poolF s n) ((i - 0x1500) / 64) ((i - 0x1500) % 64)
    else s.poolFixed i

/-- Pool signal `i` (R186). -/
def State.pool (s : State) (i : Nat) : Bool := s.poolF 2048 i

/-! What follows from a change of the pool. -/

/-- The macrocells whose configuration is not the reset one. -/
def State.mcs (s : State) : List Nat :=
  (s.regs.filter (fun e => Nat.ble (R.BLK_MC 0 0) e.1 && Nat.blt e.1 (R.BLK_MC 96 0) &&
    Nat.blt ((e.1 - R.BLK_MC 0 0) % 0x800) 0x40)).map
    (fun e => (e.1 - R.BLK_MC 0 0) / 0x800 * 16 + (e.1 - R.BLK_MC 0 0) % 0x800 / 4)

/-- An asserted reset forces RST_VAL at once and is left at the second selected edge after it ends (R189). DESIGN CHOICE
(log 53): so too where the COMMIT pulse is the source, for which R211 names the first edge after the pulse. -/
def State.settleReset (s0 s : State) (m : Nat) : State :=
  if s0.mcMode m ≠ 0 ∧ s0.bankRuns (m / 192) ∧ s0.mcReset s0.pool m then
    let v := s0.bit (mcOff m) F.BLK_MC_RST_VAL
    { s with rim := { s.rim with rstHeld := NMap.set dZero s.rim.rstHeld m 2,
                                 mc := NMap.set dFalse s.rim.mc m v, latched := NMap.set dFalse s.rim.latched m v } }
  else s

/-- A driven wire sets its keeper (R207). -/
def State.settleWire (s0 s : State) (m : Nat) : State :=
  let o := mcOff m
  let w := m / 192 * 64 + s0.fld o F.BLK_MC_WIRE_SEL
  if s0.bit o F.BLK_MC_WIRE_EN && s0.bankRuns (m / 192) && s0.mcOe s0.pool m &&
     !s0.rim.wiresOff.any (fun x => x.1 == w) then
    { s with rim := { s.rim with keeper := NMap.set dFalse s.rim.keeper w (s0.pool m) } }
  else s

/-- After a change: resets act, keepers follow, the flash's read strobe re-arms when it is low (R194). -/
def State.settle (s : State) : State :=
  let ms := s.mcs
  let s := ms.foldl (State.settleReset s) s
  let s := ms.foldl (State.settleWire s) s
  if s.blkIn s.pool 95 17 then s else { s with rim := { s.rim with uflStrobe := false } }

/-! Pins (R197 to R199). -/

/-- The first macrocell of pin `p`'s group (R185). -/
def pinGroup (p : Nat) : Nat := p / 2 * 16 + p % 2 * 8

/-- The applied value of pin port `p`. -/
def State.portValue (s : State) (p : Nat) : Nv :=
  ⟨NMap.get dFalse s.rim.portV p, !NMap.get dFalse s.rim.portX p⟩

/-- One advance of a PRBS register (log 8): PRBS7, PRBS15 or PRBS31. -/
def prbsNext (kind : Nat) (w : Word) : Bool × Word :=
  let (a, b) := match kind with | 0 => (6, 5) | 1 => (14, 13) | _ => (30, 27)
  let bit := w.getLsbD a != w.getLsbD b
  (bit, (w <<< 1) ||| (if bit then 1 else 0))

/-- `n` bits of a PRBS: the bits as a number, the register. -/
def prbsBits (kind : Nat) : Nat → Nat → Word → Nat × Word
  | 0, _, w => (0, w)
  | n + 1, i, w =>
    let r := prbsNext kind w
    let t := prbsBits kind n (i + 1) r.2
    (natOfBool r.1 * 2 ^ i + t.1, t.2)

/-- The PRBS register's value where nothing is stored: all ones (log 1). -/
def dPrbs (_ : Nat) : Word := 0x7FFFFFFF

/-- What pin `p` drives at a clock of its serializer (R197 to R199): whether it drives, and its RATIO bits. -/
def State.pinDrive (s : State) (p : Nat) : Bool × Nat :=
  let o := R.RIM_PIN p
  let n := s.ratio p
  let base := if n = 16 then p / 2 * 16 else pinGroup p
  let mcBits := (List.range n).foldl (fun a j => a + natOfBool (s.pool (base + j)) * 2 ^ j) 0
  let v := s.portValue p
  let oeSrc := s.fld o F.RIM_PIN_OE_SRC
  let enabled := match oeSrc with
    | 0 => false | 1 => true | 2 => s.mcOe s.pool (pinGroup p) | _ => v != Nv.z
  let last := natOfBool (NMap.get dFalse s.rim.lastDriven p)
  match s.fld o F.RIM_PIN_DATA_SRC with
  | 0 => (enabled, mcBits)
  | 1 =>
    if v.k then (enabled, natOfBool v.v)
    else match s.fld o F.RIM_PIN_X_DRIVE with
      | 0 => (enabled, 0) | 1 => (enabled, 1) | 2 => (false, 0) | _ => (enabled, last)
  | 2 =>
    let pat := s.fld o F.RIM_PIN_PATTERN
    let r := NMap.get dZero s.rim.rot p
    (enabled, (List.range n).foldl (fun a j => a + natOfBool (pat.testBit ((r + j) % 16)) * 2 ^ j) 0)
  | _ => (enabled, (prbsBits (s.fld o F.RIM_PIN_PRBS) n 0 (NMap.get dPrbs s.rim.prbs p)).1)

/-- One IO clock of pin `p` (R197): the serializer's bits go out, the deserializer delivers what the pin
saw: the bits of an external driver, its own, or free bits. -/
def State.clockPin (s0 s : State) (samples : List (Fin 192 × BitVec 16)) (p : Nat) : State :=
  let n := s0.ratio p
  let o := R.RIM_PIN p
  let inv := if s0.bit o F.RIM_PIN_INVERT then 2 ^ n - 1 else 0
  let d := s0.pinDrive p
  let out := (d.2 ^^^ inv) % 2 ^ n
  let ext := samples.find? (fun x => x.1.val == p)
  let seen := match ext with
    | some x => x.2.toNat % 2 ^ n
    | none => if d.1 then out else Config.freeNat (s0.freeCtr + 1024 + p) % 2 ^ n
  let r := s0.rim
  let level : Nv := match ext with
    | some x => Nv.ofBool (x.2.getLsbD (n - 1))
    | none => Nv.z
  let prbs := if s0.fld o F.RIM_PIN_DATA_SRC = 3
    then (prbsBits (s0.fld o F.RIM_PIN_PRBS) n 0 (NMap.get dPrbs r.prbs p)).2 else NMap.get dPrbs r.prbs p
  { s with rim := { s.rim with
      pinOut := NMap.set dZero32 s.rim.pinOut p (BitVec.ofNat 32 out),
      pinOe := NMap.set dFalse s.rim.pinOe p d.1,
      lastDriven := if d.1 then NMap.set dFalse s.rim.lastDriven p (d.2.testBit (n - 1)) else s.rim.lastDriven,
      pinExt := NMap.set dPin s.rim.pinExt p level,
      deser := NMap.set dZero32 s.rim.deser p (BitVec.ofNat 32 (seen ^^^ inv)),
      prbs := NMap.set dPrbs s.rim.prbs p prbs,
      rot := if s0.fld o F.RIM_PIN_DATA_SRC = 2
        then NMap.set dZero s.rim.rot p ((NMap.get dZero s.rim.rot p + n) % 16) else s.rim.rot } }

/-- What outside drives onto the pins of `samples` last (R197). -/
def State.takeSamples (s : State) (samples : List (Fin 192 × BitVec 16)) : State :=
  { s with rim := { s.rim with pinExt := samples.foldl (fun m x =>
      NMap.set dPin m x.1.val (Nv.ofBool (x.2.getLsbD (s.ratio x.1.val - 1)))) s.rim.pinExt } }

/-- Does pin `p` sample by tree 0: RATIO 1 and no clock tree, its bank's IO clock tree being disabled (R197; log 54)? -/
def State.syncPin (s : State) (p : Nat) : Bool :=
  s.bankRuns (p / 24) && s.ratio p == 1 &&
  !s.bit (R.RIM_CLK (s.fld (R.RIM_BANK (p / 24)) F.RIM_BANK_IO_CLK)) F.RIM_CLK_ENABLE

/-- One clock of tree 0 of such a pin: two synchronising stages, then its bit 0. -/
def State.stepSync (s0 s : State) (p : Nat) : State :=
  let old := NMap.get dZero s0.rim.sync p % 2
  { s with rim := { s.rim with
      sync := NMap.set dZero s.rim.sync p (natOfBool (s0.pinLevel p) + 2 * old),
      deser := NMap.set dZero32 s.rim.deser p (if (old == 1) != s0.bit (R.RIM_PIN p) F.RIM_PIN_INVERT then 1 else 0) } }

/-! Release and hold of banks (R211, R212). -/

/-- The wires and registers of bank `b` go to 0 and its pins are undriven. -/
def State.clearBank (s : State) (b : Nat) : State :=
  let notB {α : Type} (m : NMap α) (n : Nat) : NMap α := NMap.keep m (fun k => k / n != b)
  { s with rim := { s.rim with
      mc := notB s.rim.mc 192, sync := notB s.rim.sync 24, latched := notB s.rim.latched 192, rstHeld := notB s.rim.rstHeld 192,
      keeper := notB s.rim.keeper 64, pinOut := notB s.rim.pinOut 24, pinOe := notB s.rim.pinOe 24,
      deser := notB s.rim.deser 24, lastDriven := notB s.rim.lastDriven 24, rot := notB s.rim.rot 24,
      wiresOff := s.rim.wiresOff.filter (fun w => w.1 / 64 != b),
      extraDriver := notB s.rim.extraDriver 64 } }

/-- VIO_OK of bank `b` (R196): the measured VIO is the declared one. -/
def State.setVioOk (s : State) (b : Nat) : State :=
  let v := NMap.get dZero s.rim.vio b
  s.put (R.RIM_BANK b) F.RIM_BANK_VIO_OK
    (natOfBool (v != 0 && v == s.fld (R.RIM_BANK_VIO b) F.RIM_BANK_VIO_VIO))

/-- The mV of a declared VIO code (RIM_BANK_VIO). -/
def vioMv (v : Nat) : Nat := [0, 1200, 1500, 1800, 2500, 3300].getD v 0

/-- The warn limits of a bank's VIO sensor at commit (R362): the declared VIO ± 5 %. -/
def State.vioLimits (s : State) (b : Nat) : State :=
  let n := vioMv (s.fld (R.RIM_BANK_VIO b) F.RIM_BANK_VIO_VIO)
  s.setReg (R.SNS_LIMIT (85 + b)) (BitVec.ofNat 32 (n * 105 / 100 * 65536 + n * 95 / 100))

/-- Bank `b` is released (R211): it runs, every register at RST_VAL until its first edge after the COMMIT
pulse. -/
def State.releaseBank (s : State) (b : Nat) : State :=
  let s := (s.put (R.RIM_BANK b) F.RIM_BANK_STATE 2).put R.RIM_STATUS ⟨b, b⟩ 1
  let s := (s.mcs.filter (fun m => m / 192 == b && s.mcMode m != 0)).foldl (fun s m =>
    let v := s.bit (mcOff m) F.BLK_MC_RST_VAL
    { s with rim := { s.rim with rstHeld := NMap.set dZero s.rim.rstHeld m 1,
                                 mc := NMap.set dFalse s.rim.mc m v, latched := NMap.set dFalse s.rim.latched m v } }) s
  (s.setVioOk b).vioLimits b

end Sys2Proof.Machine
end

