-- ==== Sys2Proof/Machine/Boundary.lean ====
section
/-! DEFINITION. The tick boundary (01, R16 to R20; 03, R80 to R90; 06, R173 to R176): forces that come due,
overruns, the pin context request, and the end of turnover. -/

namespace Sys2Proof.Machine

/-! Forces (R175). -/

/-- Complete the commands of an entry whose tick `t` has come; a deposit on a forced target is
OVERRIDDEN (0x14). -/
def State.settleEntry (s : State) (t : BitVec 64) (dep : Bool) (e : ForceEntry) : State :=
  let now (c : ForceChange) : Bool := c.tick.ule t && c.val.isSome == !dep
  let due := e.changes.filter (fun c => now c && c.cmd.isSome)
  let past (c : ForceChange) : Bool := e.deposit && (s.forceOn e.bp e.target c.tick).any (fun r => !r.1)
  due.foldl (fun s c => s.completeOpt c.cmd (if past c then 0x14 else 0) (BitVec.ofNat 64 c.tick.toNat)) s

/-- Forces and deposits take effect from step 0 of tick `t` (R175). -/
def State.settleForces (s : State) (t : BitVec 64) : State :=
  let s := s.fab.forces.foldl (fun s e => s.settleEntry t false e) s
  let done (c : ForceChange) : ForceChange := if c.tick.ule t ∧ c.val.isSome then { c with cmd := none } else c
  { s with fab := { s.fab with forces := s.fab.forces.map (fun e => { e with changes := e.changes.map done }) } }

/-- Releases take effect from step 0 of tick `t`; an entry whose last change is one of them is free
(R175). -/
def State.settleReleases (s : State) (t : BitVec 64) : State :=
  let s := s.fab.forces.foldl (fun s e => s.settleEntry t true e) s
  let past (e : ForceEntry) : Bool :=
    match e.changes.getLast? with
    | some c => c.val.isNone && c.tick.ule t
    | none => true
  let done (c : ForceChange) : ForceChange := if c.tick.ule t ∧ c.val.isNone then { c with cmd := none } else c
  { s with fab := { s.fab with forces :=
      (s.fab.forces.filter (fun e => !past e)).map (fun e => { e with changes := e.changes.map done }) } }

/-- A deposit frees its entry at T4 of its cycle (R175). -/
def State.freeDeposits (s : State) : State :=
  let past (e : ForceEntry) : Bool := e.deposit && e.changes.all (fun c => c.tick.ule s.sched.curTick)
  { s with fab := { s.fab with forces := s.fab.forces.filter (fun e => !past e) } }

/-- Complete with CANCELLED the commands of entries that go. -/
def State.cancelForces (s : State) (es : List ForceEntry) : State :=
  (es.flatMap (fun e => e.changes)).foldl (fun s c => s.completeOpt c.cmd 0x2B) s

/-- CANCEL of a HALT (R257): the commands that `own` names and that wait for a boundary after this one, boundary actions
and changes of forces, complete with CANCELLED in submission order. -/
def State.cancelWaits (s : State) (own : Option CmdId → Bool) : State :=
  let act (p : Pending) : Bool := !s.isDue p && p.act != .joinRegion && own p.cmd
  let out (c : ForceChange) : Bool := own c.cmd && s.sched.nextTick.ult c.tick
  let gone := (s.sched.pending.filter act).filterMap (fun p => p.cmd) ++
    (s.fab.forces.flatMap (fun e => e.changes.filter out)).filterMap (fun c => c.cmd)
  let kept (e : ForceEntry) : ForceEntry := { e with changes := e.changes.filter (fun c => !out c) }
  let s := { s with
    sched := { s.sched with pending := s.sched.pending.filter (fun p => !act p) },
    fab := { s.fab with forces := (s.fab.forces.map kept).filter (fun e => !e.changes.isEmpty) } }
  ((s.mbx.outstanding.map (fun x => x.1)).filter gone.contains).foldl (fun s c => s.complete c 0x2B) s

/-- Clear the force entries of the BPs that `p` names (R175, R235, R243). -/
def State.clearForces (s : State) (p : Nat → Bool) : State :=
  let s := s.cancelForces (s.fab.forces.filter (fun e => p e.bp))
  { s with fab := { s.fab with forces := s.fab.forces.filter (fun e => !p e.bp) } }

/-! Overruns (R84 to R87). -/

/-- Take an overrun (R84): counted, raised, logged with the tick count and SCHED_HOLD_COUNT; under FAULT the
device halts at T5. -/
def State.takeOverrun (s : State) : State :=
  let s := (s.bump R.SCHED_OVERRUN_COUNT F.SCHED_OVERRUN_COUNT_COUNT).raise R.SCHED_STATUS F.SCHED_STATUS_OVERRUN
  let s := (s.cicEvent 17).detect 0x07 0 0
    (leBytes 8 s.sched.curTick.toNat ++ leBytes 4 (s.reg R.SCHED_HOLD_COUNT).toNat)
  let s := { s with sched := { s.sched with overrun := true } }
  if s.bit R.SCHED_TICK_CFG F.SCHED_TICK_CFG_POLICY then s.haltAtEnd else s

/-- Is the LOCKED grid running? -/
def State.locked (s : State) : Bool := !s.free && s.period != 0

/-- Will T7, `n` periods from now, complete after the tick boundary (R84)? -/
def State.missesGrid (s : State) (n : Nat) : Bool := s.locked && dtcReached (s.dtcIn n) s.sched.nextGrid

/-- T5 of a single device: the overrun of a T7 that will complete after the tick boundary. -/
def State.overrunAtT5 (s : State) : State :=
  if !s.inLattice && s.sched.running && !s.sched.overrun && s.missesGrid 2 then s.takeOverrun else s

/-- The grid instants from `a` up to `g`. -/
def gridsPassed (a g p : Nat) : Nat := (g + 2 ^ 80 - a % 2 ^ 80) % 2 ^ 80 / p

/-- T7 of an overrun under STRETCH has completed (R85): SHIFT begins the tick now, SKIP at the next grid
instant, counting those passed. -/
def State.realign (s : State) : State :=
  if s.sched.overrun = false ∨ s.locked = false then s
  else
    let s := { s with sched := { s.sched with overrun := false } }
    if s.inLattice then s
    else if s.bit R.SCHED_TICK_CFG F.SCHED_TICK_CFG_REALIGN then
      let g := gridAfter s.sched.nextGrid s.period s.sched.dtc
      { s.bump R.SCHED_SKIP_COUNT F.SCHED_SKIP_COUNT_COUNT (gridsPassed s.sched.nextGrid g s.period) with sched := { s.sched with nextGrid := g } }
    else { s with sched := { s.sched with nextGrid := s.sched.dtc } }

/-- A device that holds the next tick releases it when its T7 completes (R147). -/
def State.sendRelease (s : State) : State :=
  let t := s.sched.nextTick
  if s.psg.holdsSent.contains t = false then s
  else
    let m := s.dtcIn s.margin
    let g := if s.bit R.SCHED_TICK_CFG F.SCHED_TICK_CFG_REALIGN then gridAfter s.sched.nextGrid s.period m else m
    let s := { s with psg := { s.psg with holdsSent := s.psg.holdsSent.filter (fun x => x != t),
                                          releases := (s.devNum, t, g) :: s.psg.releases } }
    s.flood { s.latFlit 3 t with time := g / 2 ^ 16 % 2 ^ 48 }

/-! The pin context request (R90, R204). -/

/-- Is context `c` resident? -/
def State.resident (s : State) (c : Nat) : Bool := Nat.blt c 8 && s.ctxLen c != 0

/-- Select the context of the next tick (R89); a snapshot of this boundary holds it (R180). -/
def State.select (s : State) (c : Nat) : State :=
  let s := { s with sched := { s.sched with ctx := c } }.put R.DEVICE_STATE F.DEVICE_STATE_CONTEXT c
  match s.echo.snap with
  | some j => if j.phase = 1 then { s with echo := { s.echo with snap := some { j with ctx := c } } } else s
  | none => s

/-- At T5 with CTX_SOURCE PIN the request of the latest completed word is taken: a resident context is
selected, another sets CTX_REJECT. Reach refuses every selection (R89). -/
def State.pinContext (s : State) : State :=
  if s.sched.pinSampled then s
  else
    let s := { s with sched := { s.sched with pinSampled := true } }
    match s.rim.inWord with
    | some w =>
      if s.fld R.SCHED_TICK_CFG F.SCHED_TICK_CFG_CTX_SOURCE ≠ 1 ∨ w.ctxValid = false then s
      else if s.pace && s.resident w.ctx then s.select w.ctx
      else (s.raise R.SCHED_STATUS F.SCHED_STATUS_CTX_REJECT).detect 0x07 2 0
    | none => s

/-! The end of turnover (R18, R80). -/

/-- Host flags that satisfied a SYNC in the cycle clear; one that software sets in this period stays set (R6, R80). -/
def State.clearFlags (s : State) : State :=
  (s.sched.flagsUsed.filter (fun n => NMap.get dZero s.sched.flagsSet n != s.sched.now + 1)).foldl
    (fun s n => s.put R.SCHED_BARRIER_RELEASE ⟨n, n⟩ 0) s

/-- DEVICE_STATE at T5 (R16). -/
def State.showState (s : State) : State :=
  let s := if s.sched.running then s.put R.DEVICE_STATE F.DEVICE_STATE_RUN_STATE s.runCode else s
  (s.put R.DEVICE_STATE F.DEVICE_STATE_CONTEXT s.sched.ctx).put R.DEVICE_STATE F.DEVICE_STATE_TICK_MODE (natOfBool s.free)

/-- T6: DONE for the ending cycle on every port of the image (R18, R145). -/
def State.postDone (s : State) : State :=
  if s.inLattice then s.imagePorts.foldl (fun s p => s.tx (.lattice p (s.latFlit 1 s.sched.curTick))) s else s

/-- T5 to T7 with nothing left to apply: the state is shown, flags clear, DONE leaves, T7 completes. -/
def State.wrapUp (s : State) : State :=
  let s := s.pinContext.showState.clearFlags.elapse
  let s := State.elapseN 2 s.postDone
  let s := { s with sched := { s.sched with phase := .between, step := 0, pinSampled := false, flagsUsed := [] } }
  s.sendRelease.realign.disarmIfIdle

/-- A commit, restore or reload that names RESUME runs on when its halt ends, after a content-preserving march (R109). -/
def State.resumeIf (s : State) : State :=
  if s.sched.resume && s.halted && !s.keepMarch then { s with sched := { s.sched with resume := false } }.goRunning else s

/-- After an action at a boundary: when nothing more is due there, the boundary ends. -/
def State.afterBoundary (s : State) : State :=
  if s.sched.engine || s.nextDue.isSome then s
  else match s.sched.phase with
    | .t5 => if s.echo.stageDue || s.sched.haltPending then s else s.wrapUp.resumeIf
    | .between => s.resumeIf
    | _ => s

/-- Halt at the boundary (R20 action 6): ticking stops, a STEP ends. -/
def State.haltNow (s : State) : State :=
  let s := { s with sched := { s.sched with running := false, haltPending := false, resume := false, overrun := false,
                                            stepsLeft := none, stepCmd := none } }.completeOpt s.sched.stepCmd 0
    (BitVec.ofNat 64 s.sched.nextTick.toNat)
  (if s.hasImage then s.put R.DEVICE_STATE F.DEVICE_STATE_RUN_STATE 1 else s).reportHalt

/-- Halt before tick `t`: now between cycles, else at T5 of the cycle before it. -/
def State.stopBefore (s : State) (t : BitVec 64) : State :=
  if s.sched.running = false then s
  else if s.sched.nextTick = t then (if s.sched.phase = .between then s.haltNow else s.haltAtEnd)
  else
    let t := match s.psg.haltBefore with
      | some u => if u.ult t then u else t
      | none => t
    { s with psg := { s.psg with haltBefore := some t } }

/-- A late overrun (R148): LATE_OVERRUN (3), FAULT naming tick `t`, a halt at the boundary after it. -/
def State.lateOverrun (s : State) (t : BitVec 64) : State := ((s.recordLtc 3).floodFault t).stopBefore (t + 1)

end Sys2Proof.Machine
end

