-- ==== Sys2Proof/Machine/Cycle.lean ====
section
/-! DEFINITION. The emulated cycle as commands: the tick, turnover, the generation flip, overruns, the halt and
the configuration changes at its boundary (01, R17 to R20; 03, R80 to R90; 06, R159 to R176). -/

namespace Sys2Proof.Machine

/-! The tick (R17, R57, R82, R83, R344). -/

/-- Must the next tick still wait: for a start time, for a hold of another device, for the lattice barrier
in FREE mode, for the grid instant in LOCKED mode? -/
def State.tickWaits (s : State) : Bool :=
  let t := s.sched.nextTick
  match s.psg.startAt with
  | some g => !dtcReached s.sched.dtc g
  | none =>
    if s.inLattice && !(s.holdersOf t).isEmpty then
      !s.allReleased t || !dtcReached s.sched.dtc (s.releaseTime t s.sched.dtc)
    else if s.free then s.inLattice && !s.barrierOpen t
    else !dtcReached s.sched.dtc s.sched.nextGrid

/-- Does the tick wait for a notice (R151): for RELEASE after a HOLD, or for DONE in FREE mode? -/
def State.awaitsNotice (s : State) : Bool :=
  let t := s.sched.nextTick
  s.inLattice && s.psg.startAt.isNone &&
    (if (s.holdersOf t).isEmpty then s.free && !s.barrierOpen t else !s.allReleased t)

/-- A tick that a device held (R85, R87, R147): the grid runs from the start time, under SKIP the grid instants passed
are counted, a device that did not hold counts the tick. -/
def State.heldTick (s : State) : State :=
  let t := s.sched.nextTick
  let ds := s.holdersOf t
  if !s.inLattice || ds.isEmpty then s
  else
    let g := s.releaseTime t s.sched.nextGrid
    let s := if s.bit R.SCHED_TICK_CFG F.SCHED_TICK_CFG_REALIGN then
        s.bump R.SCHED_SKIP_COUNT F.SCHED_SKIP_COUNT_COUNT (gridsPassed s.sched.nextGrid g s.period)
      else s
    let s := { s with sched := { s.sched with nextGrid := g } }
    if ds.contains s.devNum then s
    else ((s.bump R.SCHED_PEER_STRETCH_COUNT F.SCHED_PEER_STRETCH_COUNT_COUNT).raise R.SCHED_STATUS
      F.SCHED_STATUS_PEER_STRETCH).detect 0x07 1 0

/-- The stamps of the tick period (R344). -/
def State.stampTick (s : State) : State :=
  let n := s.sched.curTick.toNat
  let s := ((s.put R.TB_TICK_LO F.TB_TICK_LO_TICK n).put R.TB_TICK_HI F.TB_TICK_HI_TICK (n / 2 ^ 32)).put
    R.TB_TICK_TIME F.TB_TICK_TIME_NS s.ns |>.put R.TB_FRACS F.TB_FRACS_TICK_FRAC s.frac16
  if s.free then s
  else (s.put R.TB_GRID_NEXT F.TB_GRID_NEXT_NS (s.sched.nextGrid / 2 ^ 32)).put R.TB_FRACS F.TB_FRACS_GRID_FRAC
    (s.sched.nextGrid / 2 ^ 16)

/-- The next tick begins: every BP is at step 0 of the active context. -/
def State.beginTick (s : State) : State :=
  let s := (s.settleForces s.sched.nextTick).settleReleases s.sched.nextTick
  let s := s.heldTick
  let t := s.sched.nextTick
  let s := { s with
    sched := { s.sched with
      curTick := t, nextTick := t + 1, phase := .steps, step := 0, tickPeriod := s.sched.now,
      tickTime := s.sched.dtc, tickHeld := false, holdsAt := [], cycleHolds := 0, flagsUsed := [], pinFreshAt := none,
      overrun := false, restored := false,
      nextGrid := if s.free then s.sched.nextGrid else (s.sched.nextGrid + s.period) % 2 ^ 80 },
    fab := { s.fab with chain := [], leaves := [] },
    rim := { s.rim with strobeDue := true },
    psg := { s.psg with startAt := none, barrierWait := 0, marked := false },
    echo := { s.echo with
      restored := s.sched.restored, stretched := false, forced := false, deposited := false, asserted := false,
      capturing := s.armed && !s.bit R.ECHO_STATUS F.ECHO_STATUS_FROZEN && !s.echo.windowDue && !s.echo.disarming } }
  (s.stampTick.pruneNotices t).takeEarly

/-- TICK (R17): a running device between cycles begins the next one when its tick period has come;
otherwise a period passes. Nothing happens while the device does not run or an action at the boundary
is not done. -/
def execTick (s : State) : Out :=
  if s.sched.phase ≠ .between ∨ s.sched.running = false ∨ s.hasImage = false ∨ s.sched.engine ∨
     s.nextDue.isSome then .next s
  else if s.tickWaits then
    .next (State.elapse { s with sched := { s.sched with tickHeld := true },
                                 psg := { s.psg with barrierWait := s.psg.barrierWait + natOfBool s.awaitsNotice } })
  else .next s.beginTick

/-! Turnover (R18, R19). -/

/-- TURNOVER (R18): after step N - 1, T0 and T1 pass. A pin word of the cycle not yet sent stays due
twelve periods after its last PINOUT (R200). -/
def execTurnover (s : State) : Out :=
  if s.sched.phase ≠ .steps ∨ s.sched.step < s.schedLen then .next s
  else
    let s := if s.sched.holdLen = 0 then s else s.endHold
    let s := match s.rim.lastPinout with
      | some p => { s with rim := { s.rim with
          lastPinout := none, sendQ := s.rim.sendQ ++ [(p + 12, { tick := s.sched.curTick, vals := s.rim.outVals })] } }
      | none => s
    let s := State.elapseN 2 s
    .next { s with sched := { s.sched with phase := .t2 } }

/-- T2 has passed. -/
def State.toT3 (s : State) : State :=
  let s := if s.sched.holdLen = 0 then s else s.endHold
  let s := s.elapse
  { s with sched := { s.sched with phase := .t3 } }

/-- ECHO_RECORD_CLOSE (R159, R166, R167): T2. Echo closes the cycle's record; under STRETCH T2 waits while a
buffer or the ring is full, until the hold limit drops the segments. -/
def execEchoRecordClose (s : State) : Out :=
  if s.sched.phase ≠ .t2 then .next s
  else if s.echo.capturing = false then .next s.toT3
  else match s.closeWhole with
    | some s' => .next s'.windowStep.toT3
    | none =>
      if s.dropLoss = false ∧ s.sched.holdOver = false then
        let s := { s with echo := { s.echo with stretched := true } }
        .next (((s.bump R.ECHO_STRETCH_COUNT F.ECHO_STRETCH_COUNT_COUNT).raise R.ECHO_STATUS
          F.ECHO_STATUS_STRETCHED).hold [] false)
      else
        let s := if s.dropLoss then s else s.raise R.ECHO_STATUS F.ECHO_STATUS_ECHO_STALL
        .next s.closeDropping.windowStep.toT3

/-- ECHO_RECORD_WRITTEN (R163): the oldest closed record is in the Deep Store. A record of the cycle in
turnover waits for the header fields of T4 and T5. -/
def execEchoRecordWritten (s : State) : Out :=
  match s.echo.recs with
  | [] => .next s
  | r :: _ =>
    let turning := s.sched.phase == .t2 || s.sched.phase == .t3 || s.sched.phase == .t5
    if turning ∧ r.tick = s.sched.curTick ∧ r.pad = false then .next s
    else .next (s.recordWritten r).disarmIfIdle

/-- The arrivals that T3 waits for (R19, R142). -/
def State.flipWaiters (s : State) : List Waiter :=
  let w (b : Nat) : Waiter := ⟨galOf b, 6, b, s.sched.step⟩
  s.fab.inflight.map (fun a => w a.bp) ++ (s.fab.flights.flatMap (fun f => f.dests)).map w ++
  (s.fab.deep.filter (fun o => !o.write)).map (fun o => w (o.cham * 64)) ++
  s.missingFlits.flatMap (fun x => ((List.range 240).filter (fun i => (s.landEntry x.1 x.2 i).getLsbD 31)).map
    (fun i => w (landBp (s.landEntry x.1 x.2 i))))

/-- What the hold limit left outstanding is discarded, counted where a record matches (R76; log 25). -/
def State.dropLate (s : State) : State :=
  let s := (s.fab.inflight ++ s.comingArrivals).foldl (fun s a => if (s.entryOf a).isSome then s.rxDiscard (galOf a.bp) else s) s
  { s with fab := { s.fab with inflight := [], flights := [], deep := s.fab.deep.filter (fun o => o.write) } }

/-- The net-store entries whose current tag is set: both entries of a four-state net (R23). -/
def State.taggedKeys (s : State) : List Nat := (s.fab.nsTag.filter (fun e => e.2)).map (fun e => e.1)

/-- T3 and T4 (R25, R158): current becomes previous where the tag is set; the tags, the staging and
capture registers clear. -/
def State.flip (s : State) : State :=
  let f := s.fab
  let prev := s.taggedKeys.foldl (fun m k => NMap.set dFalse m k (NMap.get dFalse f.nsCur k)) f.nsPrev
  { s with
    fab := { f with nsPrev := prev, nsPrevTag := f.nsTag, nsTag := [], addrV := [], addrX := [], wordV := [],
                    wordX := [], capture := [], landed := [], ended := [] },
    psg := { s.psg with got := [], closed := [], txVals := [] } }

/-- The ASSERT entry of each gallery that pushed or dropped records in the cycle (R53, R365): the tick count, the
records pushed, the records dropped. -/
def State.logAsserts (s : State) : State :=
  let cnt (m : NMap Nat) (g : Nat) : Nat := NMap.get dZero m g
  let byte (n : Nat) : List Byte := leBytes 1 (min n 255)
  let s := ((List.range 64).filter (fun g => cnt s.fab.assertPushed g + cnt s.fab.assertDropped g != 0)).foldl (fun s g =>
    s.detect 0x07 0x0A g (leBytes 8 s.sched.curTick.toNat ++ byte (cnt s.fab.assertPushed g) ++ byte (cnt s.fab.assertDropped g))) s
  { s with fab := { s.fab with assertPushed := [], assertDropped := [] } }

/-- T5: the cycle's ASSERT entries; the TICK event of every Warden (R329); while THERM_HOLD is 1 the device halts
again (R363). -/
def State.t5Events (s : State) : State :=
  let s := s.logAsserts.wardenPendAll (List.range 64) 6
  if s.bit R.LNT_STATUS F.LNT_STATUS_THERM_HOLD then s.haltAtEnd else s

/-- The last cycle of a STEP halts; the others count down. -/
def State.stepEnds (s : State) : State :=
  match s.sched.stepsLeft with
  | some n => if n ≤ 1 then s.haltAtEnd else { s with sched := { s.sched with stepsLeft := some (n - 1) } }
  | none => s

/-- A halt that names the next tick is due (R264). -/
def State.haltNames (s : State) : State :=
  if s.psg.haltBefore = some s.sched.nextTick then
    { s with psg := { s.psg with haltBefore := none } }.haltAtEnd else s

/-- The phase of the cycle. -/
def State.setPhase (s : State) (p : Phase) : State := { s with sched := { s.sched with phase := p } }

/-- T5 begins: an overrun is judged, the last cycle of a STEP and a halt that names the next tick are due. -/
def State.enterT5 (s : State) : State := (s.setPhase .t5).t5Events.stepEnds.haltNames.overrunAtT5.afterBoundary

/-- GENERATION_FLIP (R18, R19, R25): T3 waits for what the cycle sent; then the generations flip, T4 clears, the
trigger tree settles, deposits end, and T5 begins. -/
def execGenerationFlip (s : State) : Out :=
  if s.sched.phase ≠ .t3 then .next s
  else if s.flipWaits then .next (s.hold s.flipWaiters false)
  else
    let s := if s.sched.holdLen = 0 ∧ s.sched.holdOver = false then s else s.endHold
    let s := s.dropLate.flip.freeDeposits.triggerTree
    .next (State.elapseN 2 s).enterT5

/-! Overrun (R84, R148). -/

/-- OVERRUN (R84): the tick boundary of the grid instant arrives before T7 of the running cycle. A device of a
lattice that gave no notice finds a late overrun and runs the next tick before it halts (R148). -/
def execOverrun (s : State) : Out :=
  if s.sched.running = false ∨ s.sched.phase = .between ∨ s.sched.overrun ∨ s.missesGrid 0 = false then .next s
  else if s.inLattice then
    let due := s.sched.haltPending
    let s := s.takeOverrun
    .next ({ s with sched := { s.sched with haltPending := due } }.lateOverrun s.sched.nextTick)
  else .next s.takeOverrun

/-! Boundary actions (R20). -/

/-- Is the action the one whose turn it is, with no engine at work and no trigger still due (R171)? -/
def State.turn (s : State) (p : BoundaryAct → Bool) : Option Pending :=
  if s.sched.engine ∨ (s.echo.stageDue ∧ s.sched.phase = .t5) then none
  else match s.nextDue with
    | some x => if p x.act then some x else none
    | none => none

/-- CONTEXT_SWITCH (R89, R90): a due selection applies. -/
def execContextSwitch (s : State) : Out :=
  match s.turn (fun a => match a with | .context _ => true | _ => false) with
  | some p =>
    match p.act with
    | .context c =>
      .next ((((s.dropPending p).select c).completeOpt p.cmd 0 (BitVec.ofNat 64 s.sched.nextTick.toNat)).afterBoundary)
    | _ => .next s
  | none => .next s

/-- The tick configuration takes effect (R88, R343): taking LOCKED mode or a new period sets the grid's anchor
to the step boundary after T7, or to now on a halted device. -/
def State.setTickCfg (s : State) (c : TickCfg) : State :=
  let old := s.period
  let wasFree := s.free
  let p := c.ns * 2 ^ 32 + c.frac * 2 ^ 16
  let ns := if c.free then 0 else c.ns
  let frac := if c.free then 0 else c.frac
  let o := R.SCHED_TICK_CFG
  let s := (((s.put o F.SCHED_TICK_CFG_MODE (natOfBool c.free)).put o F.SCHED_TICK_CFG_POLICY c.policy).put o
    F.SCHED_TICK_CFG_REALIGN c.realign).put o F.SCHED_TICK_CFG_CTX_SOURCE c.ctxSource
  let s := (s.put R.SCHED_PERIOD_NS F.SCHED_PERIOD_NS_NS ns).put R.SCHED_PERIOD_FRAC F.SCHED_PERIOD_FRAC_FRAC frac
  let s := s.put R.DEVICE_STATE F.DEVICE_STATE_TICK_MODE (natOfBool c.free)
  if !c.free && (wasFree || p != old) then
    let a := if s.sched.phase = .t5 then s.dtcIn 3 else s.sched.dtc
    { s with sched := { s.sched with nextGrid := a, overrun := false } }
  else s

/-- TICK_CONFIG_APPLY (R88): a due change of the tick configuration applies. The pin request of the boundary
is sampled before it. -/
def execTickConfigApply (s : State) : Out :=
  match s.turn (fun a => match a with | .tickCfg _ => true | _ => false) with
  | some p =>
    match p.act with
    | .tickCfg c =>
      let s := if s.sched.phase = .t5 then s.pinContext else s
      .next (((s.dropPending p).setTickCfg c).completeOpt p.cmd 0 (BitVec.ofNat 64 s.sched.nextTick.toNat)).afterBoundary
    | _ => .next s
  | none => .next s

/-- Is the action a halt? -/
def isHalt (a : BoundaryAct) : Bool :=
  match a with
  | .halt _ => true
  | _ => false

/-- Complete the HALT commands that are due: one with CANCEL first cancels the waits of its own queue for
later boundaries (R257). -/
def State.finishHalt (s : State) (p : Pending) : State :=
  let s := s.dropPending p
  let cancel := match p.act with | .halt c => c | _ => false
  let own (c : Option CmdId) : Bool := match c, p.cmd with | some a, some b => a.queue == b.queue | _, _ => false
  let s := if cancel then s.cancelWaits own else s
  s.completeOpt p.cmd 0 (BitVec.ofNat 64 s.sched.nextTick.toNat)

/-- HALT_AT_BOUNDARY (R20 action 6): the last action of a boundary. -/
def execHaltAtBoundary (s : State) : Out :=
  let hs := s.sched.pending.filter (fun p => s.isDue p && isHalt p.act)
  let rest := s.sched.pending.any (fun p => s.isDue p && !isHalt p.act)
  if s.sched.engine ∨ rest ∨ s.echo.stageDue ∨ (s.sched.phase ≠ .t5 ∧ s.sched.running) then .next s
  else if hs = [] ∧ (s.sched.haltPending = false ∨ s.sched.phase ≠ .t5) then .next s
  else
    let s := if s.sched.phase = .t5 then s.pinContext.haltNow else s
    .next (hs.foldl State.finishHalt s).afterBoundary

/-! Forces (R175). -/

/-- Is the device at a boundary, before the tick at which forces take effect? -/
def State.atBoundary (s : State) : Bool := s.sched.phase == .between || s.sched.phase == .t5

/-- FORCE_APPLY (R175): forces and deposits of the next tick take effect. -/
def execForceApply (s : State) : Out := if s.atBoundary then .next (s.settleForces s.sched.nextTick) else .next s

/-- RELEASE_APPLY (R175): releases of the next tick take effect and free their entries. -/
def execReleaseApply (s : State) : Out := if s.atBoundary then .next (s.settleReleases s.sched.nextTick) else .next s

/-! Host flags and counters (R6, R58, R75, R80, R84). -/

/-- SCHED_BARRIER_RELEASE_WRITE (R80): host flags are set; a flag written in the period that clears it stays set. -/
def execSchedBarrierReleaseWrite (flags : BitVec 16) (s : State) : Out :=
  let named := (List.range 16).filter (fun n => flags.getLsbD n)
  let new := named.filter (fun n => s.fld R.SCHED_BARRIER_RELEASE ⟨n, n⟩ == 0)
  let s := { s with sched := { s.sched with
    flagsAt := NMap.setAll dZero s.sched.flagsAt (new.map (fun n => (n, s.sched.now))),
    flagsSet := NMap.setAll dZero s.sched.flagsSet (named.map (fun n => (n, s.sched.now + 1))) } }
  .next (new.foldl (fun s n => s.put R.SCHED_BARRIER_RELEASE ⟨n, n⟩ 1) s)

/-- CLR_HOLD (R75). -/
def execClrHold (s : State) : Out := .next (s.setReg R.SCHED_HOLD_COUNT 0)
/-- CLR_SYNC (R75). -/
def execClrSync (s : State) : Out := .next (s.setReg R.SCHED_SYNC_COUNT 0)
/-- CLR_OVERRUN (R84, R88). -/
def execClrOverrun (s : State) : Out :=
  .next (((s.setReg R.SCHED_OVERRUN_COUNT 0).setReg R.SCHED_PEER_STRETCH_COUNT 0).setReg R.SCHED_SKIP_COUNT 0)
/-- CLR_SLIP (R75). -/
def execClrSlip (g : Gal) (s : State) : Out := s.window g.val (fun s => s.setReg (R.GAL_SLIP_COUNT g.val) 0)
/-- CLR_DISCARD (R64). -/
def execClrDiscard (g : Gal) (s : State) : Out := s.window g.val (fun s => s.setReg (R.GAL_RX_DISCARD g.val) 0)
/-- CLR_SLIP_LAST (R75). -/
def execClrSlipLast (g : Gal) (s : State) : Out := s.window g.val (fun s => s.setReg (R.GAL_SLIP_LAST g.val) 0)
/-- GAL_CLR_CE (R38). -/
def execGalClrCe (g : Gal) (s : State) : Out := s.window g.val (fun s => s.setReg (R.GAL_ISTORE_CE_COUNT g.val) 0)
/-- GAL_CLR_LOST (R53). -/
def execGalClrLost (g : Gal) (s : State) : Out := s.window g.val (fun s => s.put (R.GAL_ASSERT_STATUS g.val) F.GAL_ASSERT_STATUS_LOST 0)

/-- ASSERT_POP (R59): the oldest record is discarded; on an empty FIFO nothing happens. -/
def execAssertPop (g : Gal) (s : State) : Out :=
  s.window g.val (fun s =>
    let q := NMap.get (fun _ => []) s.fab.asserts g.val
    { s with fab := { s.fab with asserts := NMap.set (fun _ => []) s.fab.asserts g.val q.tail } })

end Sys2Proof.Machine
end

