-- ==== Sys2Proof/Machine/ImgForm.lean ====
section
/-! DEFINITION. The Fyzer image as bytes: header, region map, key and section tables, layout checks, keys and
decryption (08, R213 to R223, R230 steps 1 to 3). -/

namespace Sys2Proof.Machine

/-- A failure of an image (R232): its reason, the section and the place where one applies. -/
structure ImgFail where
  reason : Nat
  sec : Nat := 0
  loc : Option (Nat × Nat × Nat × Nat × Nat) := none
deriving DecidableEq, Repr

/-! Bytes of the staged image. -/

/-- Byte `a` of the staged image. -/
def State.imgByte (s : State) (a : Nat) : Byte := NMap.get dByte s.img.bytes a

/-- `n` bytes of the staged image from `a`. -/
def State.imgBytes (s : State) (a n : Nat) : List Byte := (List.range n).map (fun i => s.imgByte (a + i))

/-- The little-endian number of `n` bytes at `a`. -/
def State.imgNat (s : State) (a n : Nat) : Nat := leNat (s.imgBytes a n)

/-- Are `n` bytes at `a` zero? -/
def State.imgZero (s : State) (a n : Nat) : Bool := s.imgNat a n == 0

/-! The header (R214). -/

/-- IMAGE_LENGTH. -/
def State.hLength (s : State) : Nat := s.imgNat 0x08 8
/-- FLAGS.RELOAD. -/
def State.hReload (s : State) : Bool := (s.imgNat 0x06 2).testBit 0
/-- FLAGS.CHAINED. -/
def State.hChained (s : State) : Bool := (s.imgNat 0x06 2).testBit 1
/-- LAT_PROFILE. -/
def State.hLat (s : State) : Nat := s.imgNat 0x14 1
/-- PROFILE. -/
def State.hProfile (s : State) : Nat := s.imgNat 0x15 1
/-- SVN. -/
def State.hSvn (s : State) : Nat := s.imgNat 0x16 1
/-- SIGN_SLOT. -/
def State.hSlot (s : State) : Nat := s.imgNat 0x17 1
/-- CHAIN_FIRST. -/
def State.hFirst (s : State) : Nat := s.imgNat 0x18 2
/-- CHAIN_COUNT. -/
def State.hCount (s : State) : Nat := s.imgNat 0x1A 2
/-- KEY_COUNT. -/
def State.hKeys (s : State) : Nat := s.imgNat 0x1C 4
/-- SECTION_COUNT. -/
def State.hSecs (s : State) : Nat := s.imgNat 0x20 4
/-- BASE_DIGEST. -/
def State.hBase (s : State) : List Byte := s.imgBytes 0x48 32
/-- KEY_OFFSET as R213 places it. -/
def State.keyOff (s : State) : Nat := 0x100 + s.hCount * 256
/-- SECTION_OFFSET as R213 places it. -/
def State.secOff (s : State) : Nat := s.keyOff + s.hKeys * 64
/-- The end of the section table. -/
def State.tabEnd (s : State) : Nat := s.secOff + s.hSecs * 64
/-- SIG_OFFSET as R213 places it. -/
def State.sigOff (s : State) : Nat := s.hLength - 4096

/-- The chain position of this device (R224). -/
def State.chainPos (s : State) : Nat := s.fld R.IMG_CHAIN F.IMG_CHAIN_POSITION

/-- Is owner key slot `i` programmed? -/
def State.ownerSet (s : State) (i : Nat) : Bool := s.part.ownerDigest.any (fun e => e.1 == i)

/-- Is any owner key slot programmed? -/
def State.anyOwner (s : State) : Bool := [0, 1, 2, 3].any s.ownerSet

/-- Does SIGN_SLOT fail with KEY_SLOT (R220)? -/
def State.slotRefused (s : State) : Bool :=
  if s.anyOwner then !(Nat.blt s.hSlot 4 && s.ownerSet s.hSlot && !s.part.ownerRevoked.contains s.hSlot)
  else s.hSlot != 0xFF

/-- The header checks of R226 in order: the reason of the first failure. -/
def State.headerFail (s : State) : Option Nat :=
  let mask := s.imgNat 0x12 2
  if s.imgNat 0 4 ≠ 0x525A5946 then some 0x01
  else if s.imgNat 0x04 2 ≠ 1 ∨ s.imgNat 0x06 2 / 4 ≠ 0 ∨ s.imgZero 0x24 4 = false ∨ s.imgZero 0x80 128 = false ∨
      mask = 0 ∨ 3 < mask ∨ s.hLat = 0 ∨ 2 < s.hLat ∨ 1 < s.hProfile ∨ 64 < s.hSvn ∨
      (3 < s.hSlot ∧ s.hSlot ≠ 0xFF) ∨ 511 < s.hFirst ∨ s.hCount = 0 ∨ 512 < s.hFirst + s.hCount ∨
      4096 < s.hKeys ∨ s.hSecs = 0 ∨ 1048576 < s.hSecs ∨ s.hLength % 64 ≠ 0 ∨ s.imgNat 0x28 8 ≠ 0x100 then some 0x02
  else if s.imgNat 0x10 2 ≠ 0x0E65 then some 0x04
  else if mask.testBit (match s.part.stepping with | .a0 => 0 | .b0 => 1) = false then some 0x05
  else if s.chainPos < s.hFirst ∨ s.hFirst + s.hCount ≤ s.chainPos then some 0x06
  else if s.slotRefused then some 0x0B
  else if s.hSvn < s.part.svn then some 0x0D
  else none

/-! The region map of this device (R215). -/

/-- The offset of this device's region map. -/
def State.mapOff (s : State) : Nat := 0x100 + (s.chainPos - s.hFirst) * 256

/-- This device's region map. -/
def State.stagedMap (s : State) : List Byte := s.imgBytes s.mapOff 256

/-- A field of a region map. -/
def mapNat (m : List Byte) (a n : Nat) : Nat := leNat ((m.drop a).take n)

/-- GALLERY_KIND of gallery `g`. -/
def mapKind (m : List Byte) (g : Nat) : Nat := mapNat m g 1
/-- The galleries that a map names. -/
def mapGals (m : List Byte) : List Nat := (List.range 64).filter (fun g => mapKind m g != 0)
/-- BANKS. -/
def mapBanks (m : List Byte) : Nat := mapNat m 0x40 1
/-- RIM_GLOBAL. -/
def mapGlobal (m : List Byte) : Bool := mapNat m 0x41 1 == 1
/-- PORTS. -/
def mapPorts (m : List Byte) : Nat := mapNat m 0x42 2
/-- CONTEXTS. -/
def mapCtxs (m : List Byte) : Nat := mapNat m 0x44 1
/-- BUDGET_p. -/
def mapBudget (m : List Byte) (p : Nat) : Nat := mapNat m (0x48 + 2 * p) 2
/-- BASE of EMU region `n` (1 to 11). -/
def mapEmuBase (m : List Byte) (n : Nat) : Nat := mapNat m (0x70 + 12 * (n - 1)) 2
/-- SIZE of EMU region `n`. -/
def mapEmuSize (m : List Byte) (n : Nat) : Nat := mapNat m (0x72 + 12 * (n - 1)) 2
/-- GRANT of EMU region `n`. -/
def mapGrant (m : List Byte) (n : Nat) : Nat := mapNat m (0x74 + 12 * (n - 1)) 8
/-- The EMU regions 1 to 11. -/
def emuRegions : List Nat := (List.range 11).map (fun i => i + 1)

/-- Reserved bytes and values of a region map, and CONTEXTS of 1 to 8 (R215): BAD_FORMAT (DEDUCED, log 19). -/
def mapBad (m : List Byte) : Bool :=
  (List.range 64).any (fun g => Nat.blt 2 (mapKind m g)) || Nat.blt 1 (mapNat m 0x41 1) ||
  mapCtxs m == 0 || Nat.blt 8 (mapCtxs m) || mapNat m 0x45 3 != 0 || mapNat m 0x68 8 != 0 || mapNat m 0xF4 12 != 0

/-! The section and key tables (R216, R217). -/

/-- A section-table entry. -/
structure Sec where
  idx : Nat
  kind : Nat
  enc : Bool
  pos : Nat
  unit : Nat
  off : Nat
  len : Nat
  key : Nat
deriving DecidableEq, Repr

/-- The offset of section-table entry `i`. -/
def State.secAddr (s : State) (i : Nat) : Nat := s.secOff + 64 * i

/-- Section-table entry `i`. -/
def State.sec (s : State) (i : Nat) : Sec :=
  let a := s.secAddr i
  { idx := i, kind := s.imgNat a 2, enc := (s.imgNat (a + 2) 2).testBit 0, pos := s.imgNat (a + 4) 2,
    unit := s.imgNat (a + 6) 1, off := s.imgNat (a + 8) 8, len := s.imgNat (a + 0x10) 4, key := s.imgNat (a + 0x14) 2 }

/-- Every section. -/
def State.secs (s : State) : List Sec := (List.range s.hSecs).map s.sec

/-- Does a section belong to this device (R217)? -/
def State.ownSec (s : State) (x : Sec) : Bool := x.pos == s.chainPos || x.pos == 0xFFFF

/-- This device's sections in table order. -/
def State.ownSecs (s : State) : List Sec := s.secs.filter s.ownSec

/-- KEY_SOURCE, STORE_SLOT and CHAIN_POS of key entry `k`. -/
def State.keyEnt (s : State) (k : Nat) : Nat × Nat × Nat :=
  let a := s.keyOff + 64 * k
  (s.imgNat a 1, s.imgNat (a + 1) 1, s.imgNat (a + 2) 2)

/-- Are reserved bytes of the section table entry, or of the key entry, nonzero (BAD_FORMAT; DEDUCED, log 19)? -/
def State.secReserved (s : State) (i : Nat) : Bool :=
  let a := s.secAddr i
  Nat.blt 1 (s.imgNat (a + 2) 2) || !s.imgZero (a + 7) 1 || !s.imgZero (a + 0x16) 2 || !s.imgZero (a + 0x24) 12

/-- Reserved bytes and values of key entry `k`. -/
def State.keyReserved (s : State) (k : Nat) : Bool :=
  let a := s.keyOff + 64 * k
  let src := s.imgNat a 1
  Nat.blt 2 src || Nat.blt 7 (s.imgNat (a + 1) 1) || (src != 2 && !s.imgZero (a + 1) 1) || !s.imgZero (a + 4) 4 ||
  !s.imgZero (a + 0x30) 16 || (src == 0 && !s.imgZero (a + 8) 40)

/-- The body length that a kind's layout fixes (R217); none where the body states its own, or the kind is
opaque. -/
def fixedLen : Nat → Option Nat
  | 0x0002 => some 16384
  | 0x0005 => some 262144
  | 0x0006 => some 4096
  | 0x0007 => some 1048576
  | 0x0008 => some 80
  | 0x0009 => some 256
  | 0x000A => some 61440
  | 0x000D => some 16384
  | _ => none

/-- Is a kind listed (R217)? -/
def kindListed (k : Nat) : Bool := (Nat.ble 1 k && Nat.ble k 0x0D) || k == 0xFF

/-- Is UNIT one that the kind requires (R217)? -/
def unitFits (k u : Nat) : Bool :=
  if k = 0x08 then u == 0xFF
  else if k = 0x09 ∨ k = 0x0A then Nat.blt u 16
  else if k = 0x0C then Nat.ble 1 u && Nat.ble u 11
  else if k = 0x0D then Nat.blt u 8 || u == 0xFE
  else if k = 0xFF then true
  else Nat.blt u 64

/-- Do two sections share kind, unit and position (R217)? -/
def sameSec (x y : Sec) : Bool :=
  x.kind == y.kind && x.unit == y.unit && (x.pos == y.pos || x.pos == 0xFFFF || y.pos == 0xFFFF)

/-- Does a body's length differ from the fixed one? -/
def badLen (x : Sec) : Bool := match fixedLen x.kind with | some n => n != x.len | none => false

/-- The first layout failure of section `x`, where the bodies before it end at `low` (R213, R217). -/
def State.secFail (s : State) (low : Nat) (before : List Sec) (x : Sec) : Option Nat :=
  let own := s.ownSec x
  if s.sigOff < x.off + x.len then some 0x09
  else if x.off % 64 ≠ 0 ∨ x.off < low then some 0x08
  else if s.secReserved x.idx then some 0x02
  else if kindListed x.kind = false ∨ unitFits x.kind x.unit = false ∨ before.any (sameSec x) ∨
      badLen x then some 0x0A
  else if own ∧ x.enc ∧ (s.hKeys ≤ x.key ∨
      ((s.keyEnt x.key).2.2 ≠ 0xFFFF ∧ (s.keyEnt x.key).2.2 ≠ s.chainPos)) then some 0x08
  else none

/-- The first failing section of the table. -/
def State.secsFail (s : State) : Nat → List Sec → List Sec → Option ImgFail
  | _, _, [] => none
  | low, before, x :: xs =>
    match s.secFail low before x with
    | some r => some { reason := r, sec := x.idx }
    | none => s.secsFail (x.off + x.len) (before ++ [x]) xs

/-- Does this device have a section of the kind and unit? -/
def State.hasSec (s : State) (kind unit : Nat) : Bool := s.ownSecs.any (fun x => x.kind == kind && x.unit == unit)

/-- A gallery of the map without ISTORE, FTABLE, SLOT or RECV, a whole image without a DEVICE section, an
EMU_INIT of an unused region, an EMU region beyond the Deep Store (R118, R217): LAYOUT. -/
def State.mapFail (s : State) : Option ImgFail :=
  let m := s.stagedMap
  if (List.range s.hCount).any (fun i => mapBad (s.imgBytes (0x100 + 256 * i) 256)) then some { reason := 0x02 }
  else if (mapGals m).any (fun g => !([1, 2, 3, 4].all (fun k => s.hasSec k g))) then some { reason := 0x08 }
  else if s.hReload = false ∧ s.hasSec 8 0xFF = false then some { reason := 0x08 }
  else if emuRegions.any (fun n => Nat.blt 2048 (mapEmuBase m n + mapEmuSize m n) && mapEmuSize m n != 0) then
    some { reason := 0x08 }
  else match s.ownSecs.find? (fun x => x.kind == 0x0C && mapEmuSize m x.unit == 0) with
    | some x => some { reason := 0x08, sec := x.idx }
    | none => none

/-- Step 1 of R230. -/
def State.layoutFail (s : State) : Option ImgFail :=
  if s.imgNat 0x30 8 ≠ s.keyOff ∨ s.imgNat 0x38 8 ≠ s.secOff ∨ s.imgNat 0x40 8 ≠ s.sigOff ∨ s.hLength < 4096 + s.tabEnd then
    some { reason := 0x08 }
  else if (List.range s.hKeys).any s.keyReserved then some { reason := 0x02 }
  else match s.secsFail s.tabEnd [] s.secs with
    | some f => some f
    | none => s.mapFail

/-! Measurement and signature (R218 to R220). -/

/-- The 64-byte SHAKE256 output over bytes. -/
def shake64 (bs : List Byte) : List Byte := (List.range 64).map (Config.shake256 bs)

/-- The 256-bit SHAKE256 output over bytes. -/
def shake32 (bs : List Byte) : List Byte := (List.range 32).map (Config.shake256 bs)

/-- The measurement of the staged image (R218). -/
def State.measure (s : State) : List Byte := shake64 (s.imgBytes 0 s.sigOff)

/-- The digest of owner slot `i`. -/
def State.ownerDigestOf (s : State) (i : Nat) : List Byte :=
  match s.part.ownerDigest.find? (fun e => e.1 == i) with | some e => e.2 | none => []

/-- Step 2 of R230 (R219, R220). -/
def State.signFail (s : State) : Option ImgFail :=
  let a := s.sigOff
  let pub := s.imgBytes a 1793
  if s.anyOwner ∧ shake32 pub ≠ s.ownerDigestOf s.hSlot then some { reason := 0x0C }
  else if s.imgZero (a + 0x701) 255 = false ∨ s.imgZero (a + 0xD00) 768 = false ∨
      Config.falconVerify pub s.measure (s.imgBytes (a + 0x800) 1280) = false then some { reason := 0x0E }
  else none

/-! Keys and decryption (R222, R223). -/

/-- The key-encryption key of key entry `k`; none when it is absent. -/
def State.kekOf (s : State) (k : Nat) : Option (List Byte) :=
  let e := s.keyEnt k
  if e.1 = 1 then s.part.fuseKek
  else if e.1 = 2 then (s.key.keks.find? (fun x => x.1 == e.2.1)).map (fun x => x.2)
  else none

/-- The plain body of section `x`, or its failure (R222, R223). -/
def State.plainSec (s : State) (x : Sec) : ImgFail ⊕ List Byte :=
  let body := s.imgBytes x.off x.len
  if x.enc then
    match s.kekOf x.key with
    | none => .inl { reason := 0x0F, sec := x.idx }
    | some kek =>
      match Config.keyUnwrap kek (s.imgBytes (s.keyOff + 64 * x.key + 8) 40) with
      | none => .inl { reason := 0x10, sec := x.idx }
      | some key =>
        let a := s.secAddr x.idx
        match Config.gcmDecrypt key (s.imgBytes (a + 0x18) 12) (s.imgBytes a 0x30) (s.imgBytes (a + 0x30) 16) body with
        | none => .inl { reason := 0x11, sec := x.idx }
        | some p => .inr p
  else if x.kind ≠ 0xFF ∧ s.part.debugLock ≠ 0 then .inl { reason := 0x0F, sec := x.idx }
  else .inr body

/-- Step 3 of R230: the plain bodies in table order up to the first failure, and that failure. -/
def State.plainSecs (s : State) : List Sec → List (Sec × List Byte) × Option ImgFail
  | [] => ([], none)
  | x :: xs =>
    match s.plainSec x with
    | .inl f => ([], some f)
    | .inr b => ((x, b) :: (s.plainSecs xs).1, (s.plainSecs xs).2)

/-- The own sections in clear, whose bodies step 1 of R230 already sees. -/
def State.clearSecs (s : State) : List (Sec × List Byte) :=
  (s.ownSecs.filter (fun x => !x.enc)).map (fun x => (x, s.imgBytes x.off x.len))

end Sys2Proof.Machine
end

