-- ==== Sys2Proof/Machine/ImgLoad.lean ====
section
/-! DEFINITION. The bodies of image sections and what a commit or a reload writes from them (08, R217, R235,
R243, R245; 02, R27; 05, R135; 07, R211). -/

namespace Sys2Proof.Machine

/-! Bodies. -/

/-- Cut `k` numbers of `n` bytes. -/
def chunks (n : Nat) : Nat → List Byte → List Nat
  | 0, _ => []
  | k + 1, l => leNat (l.take n) :: chunks n k (l.drop n)

/-- A SLOT body: per BP its slot bases and its records; none when its length does not fit. -/
def parseSlots : Nat → List Byte → Option (List (List Nat × List Nat))
  | 0, l => if l = [] then some [] else none
  | n + 1, l =>
    let cnt := leNat ((l.drop 16).take 2)
    let r := l.drop 18
    if l.length < 18 ∨ 512 < cnt ∨ r.length < 4 * cnt then none
    else (parseSlots n (r.drop (4 * cnt))).map (fun t => (chunks 2 8 l, chunks 4 cnt r) :: t)

/-- A RECV body: per BP its records. -/
def parseRecvs : Nat → List Byte → Option (List (List Nat))
  | 0, l => if l = [] then some [] else none
  | n + 1, l =>
    let cnt := leNat (l.take 2)
    let r := l.drop 2
    if l.length < 2 ∨ 1024 < cnt ∨ r.length < 4 * cnt then none
    else (parseRecvs n (r.drop (4 * cnt))).map (fun t => chunks 4 cnt r :: t)

/-- Schedule lengths N(0) to N(7): of the DEVICE section of a whole image, of the device for a reload. -/
def State.imgLens (s : State) (bodies : List (Sec × List Byte)) : List Nat :=
  match bodies.find? (fun x => x.1.kind == 8) with
  | some x => chunks 2 8 x.2
  | none => (List.range 8).map (fun c => s.fld (R.SCHED_CTX_LEN c) F.SCHED_CTX_LEN_LENGTH)

/-- Instruction-store indices of one BP in body order (R89, R217). -/
def storeIndices (pace : Bool) (lens : List Nat) : List Nat :=
  lens.zipIdx.flatMap (fun x => (List.range x.1).map (fun t => (if pace then 128 * x.2 else 0) + t))

/-- Does a body whose kind states its own length have another (R217): SECTION_KIND; or an isolation table a
fault (R245): LAYOUT? -/
def bodyFail (lens : List Nat) (m : List Byte) (x : Sec × List Byte) : Option ImgFail :=
  let bad (r : Nat) : Option ImgFail := some { reason := r, sec := x.1.idx }
  match x.1.kind with
  | 0x01 => if x.2.length = 8192 * lens.sum then none else bad 0x0A
  | 0x03 => if (parseSlots 1024 x.2).isSome then none else bad 0x0A
  | 0x04 => if (parseRecvs 1024 x.2).isSome then none else bad 0x0A
  | 0x0B =>
    let n := leNat (x.2.take 4)
    let es := chunks 4 n (x.2.drop 4)
    let two := mapKind m x.1.unit == 1
    if x.2.length ≠ 4 + 4 * n then bad 0x0A
    else if es.any (fun e => e / 2 ^ 16 / 1024 != x.1.unit || Nat.blt 1 (bitsOf 6 5 e) || bitsOf 4 2 e != 0 ||
        (two && bitsOf 6 5 e == 1 && !bitOf 0 e)) then bad 0x08
    else if (es.map (fun e => e / 2 ^ 7)).eraseDups.length < n then bad 0x08
    else none
  | 0x0C =>
    if x.2.length < 8 ∨ mapEmuSize m x.1.unit * 2 ^ 24 < leNat (x.2.take 8) + (x.2.length - 8) then bad 0x0A else none
  | _ => none

/-- The lengths of bodies in clear (R217, R230 step 1); an ISTORE body waits for the N(c) of a DEVICE section that is
encrypted. -/
def State.clearFail (s : State) : Option ImgFail :=
  let xs := s.clearSecs
  let known := s.hReload || xs.any (fun x => x.1.kind == 8)
  xs.findSome? (fun x => if x.1.kind = 1 ∧ known = false then none else bodyFail (s.imgLens xs) s.stagedMap x)

/-! Galleries (R27, R235 item 4). -/

/-- Drop the entries of gallery `g`, `n` keys per gallery. -/
def notGal {α : Type} (m : NMap α) (n g : Nat) : NMap α := NMap.keep m (fun k => k / n != g)

/-- Gallery `g` without contents: the state of R27 with no initial values, empty tables, zero banks. A
two-state entry reads 0 and a four-state entry X, both all-zero physical entries. -/
def State.clearGal (s : State) (g : Nat) : State :=
  let f := s.fab
  { s with
    fab := { f with
      nsPrev := notGal f.nsPrev 2097152 g, nsCur := notGal f.nsCur 2097152 g, nsTag := notGal f.nsTag 2097152 g,
      nsPrevTag := notGal f.nsPrevTag 2097152 g, nsBad := notGal f.nsBad 2097152 g,
      chain := notGal f.chain 1024 g, prng := notGal f.prng 1024 g, capture := notGal f.capture 1024 g,
      addrV := notGal f.addrV 16 g, addrX := notGal f.addrX 16 g, wordV := notGal f.wordV 16 g, wordX := notGal f.wordX 16 g,
      istore := notGal f.istore 1048576 g, istoreEcc := notGal f.istoreEcc 1048576 g,
      slot := notGal f.slot 524288 g, slotBad := notGal f.slotBad 524288 g, slotBase := notGal f.slotBase 8192 g,
      recv := notGal f.recv 1048576 g, recvBad := notGal f.recvBad 1048576 g, ftBad := notGal f.ftBad 4096 g,
      iso := notGal f.iso 524288 g, lastSend := notGal f.lastSend 524288 g, sent := notGal f.sent 524288 g,
      leaves := notGal f.leaves 65 g },
    mem := { s.mem with dm := notGal s.mem.dm 131072 g, dmEcc := notGal s.mem.dmEcc 131072 g,
                        drip := s.mem.drip.filter (fun e => e.1 / 16 != g),
                        dripBack := s.mem.dripBack.filter (fun e => e.1 / 16 != g) },
    regs := NMap.keep s.regs (fun o => !(Nat.ble (R.GAL_FTABLE g 0 0) o && Nat.blt o (R.GAL_FTABLE g 16 0))) }

/-- Number the items of a list from `k`. -/
def keyed {α : Type} (k : Nat) (l : List α) : List (Nat × α) := l.zipIdx.map (fun x => (k + x.2, x.1))

/-- Number the lists of a list: item `j` of list `i` has key (base + i)·n + j. -/
def keyed2 {α : Type} (base n : Nat) (l : List (List α)) : List (Nat × α) :=
  (keyed base l).flatMap (fun x => keyed (x.1 * n) x.2)

/-- GAL_MODE of a gallery of the map. -/
def State.setMode (s : State) (g kind ctxs : Nat) : State :=
  (s.put (R.GAL_MODE g) F.GAL_MODE_FOUR_STATE (natOfBool (kind == 2))).put (R.GAL_MODE g) F.GAL_MODE_CONTEXTS (ctxs - 1)

/-- The entries of an ISOLATION body by BP·512 + slot (R245). -/
def isoEntries (b : List Byte) : List (Nat × Word) :=
  (chunks 4 (leNat (b.take 4)) (b.drop 4)).map (fun e => (e / 2 ^ 16 * 512 + bitsOf 15 7 e, BitVec.ofNat 32 (e % 128)))

/-- Write one gallery section. -/
def State.loadGalSec (s : State) (pace : Bool) (lens : List Nat) (kind g : Nat) (b : List Byte) : State :=
  let f := s.fab
  match kind with
  | 0x01 =>
    let idx := storeIndices pace lens
    let ws := chunks 8 (1024 * idx.length) b
    let keys := (List.range 1024).flatMap (fun i => idx.map (fun k => (g * 1024 + i) * 1024 + k))
    { s with fab := { f with istore := NMap.setAll dZero64 f.istore (keys.zip (ws.map (BitVec.ofNat 64))) } }
  | 0x02 => (keyed 0 (chunks 4 4096 b)).foldl (fun s x => s.setReg (R.GAL_FTABLE g 0 0 + 4 * x.1) (BitVec.ofNat 32 x.2)) s
  | 0x03 =>
    let l := (parseSlots 1024 b).getD []
    { s with fab := { f with
        slotBase := NMap.setAll dZero f.slotBase (keyed2 (g * 1024) 8 (l.map (fun x => x.1))),
        slot := NMap.setAll dZero32 f.slot (keyed2 (g * 1024) 512 (l.map (fun x => x.2.map (BitVec.ofNat 32)))) } }
  | 0x04 =>
    let l := (parseRecvs 1024 b).getD []
    { s with fab := { f with recv := NMap.setAll dZero32 f.recv (keyed2 (g * 1024) 1024 (l.map (fun x => x.map (BitVec.ofNat 32)))) } }
  | 0x05 =>
    let bits := b.flatMap (fun x => (List.range 8).map x.getLsbD)
    { s with fab := { f with nsPrev := NMap.setAll dFalse f.nsPrev (keyed (g * 2097152) bits) } }
  | 0x06 =>
    let seeds := (chunks 4 1024 b).map (fun n => if n = 0 then 1#32 else BitVec.ofNat 32 n)
    { s with fab := { f with prng := NMap.setAll dPrng f.prng (keyed (g * 1024) seeds) } }
  | 0x07 =>
    { s with mem := { s.mem with dm := NMap.setAll dZero64 s.mem.dm (keyed (g * 131072) ((chunks 8 131072 b).map (BitVec.ofNat 64))) } }
  | 0x0B => { s with fab := { f with iso := NMap.setAll dZero32 f.iso (isoEntries b) } }
  | _ => s

/-! Rimstone (R208, R211). -/

/-- The configuration registers that a section of bank `b`, or of the global region (0xFE), sets. -/
def rimOffsets (unit : Nat) : List Nat :=
  if unit = 0xFE then
    [R.RIM_PW_CFG, R.RIM_PW_CTXSEL] ++ (List.range 4).map R.RIM_OSC ++ (List.range 4).map R.RIM_CLK ++
    (List.range 2).map R.RIM_RST ++ (List.range 192).map R.RIM_PORT_IN
  else
    R.RIM_BANK_VIO unit :: (List.range 24).map (fun i => R.RIM_PIN (24 * unit + i)) ++
    (List.range 12).flatMap (fun j =>
      let k := 12 * unit + j
      (List.range 40).map (R.BLK_IN k) ++ (List.range 16).map (R.BLK_MC k) ++
      (List.range 64).flatMap (fun t => [R.BLK_PT_W0 k t, R.BLK_PT_W1 k t, R.BLK_PT_W2 k t]))

/-- The configuration registers of a unit return to reset. -/
def State.clearRim (s : State) (unit : Nat) : State :=
  let s := (rimOffsets unit).foldl (fun s o => s.setReg o (regReset o)) s
  if unit = 0xFE then s else s.put (R.RIM_BANK unit) F.RIM_BANK_IO_CLK 0

/-- The defined bits of a register word. -/
def definedBits (off : Nat) (w : Word) : Word :=
  match regRow off with | some r => typedRead r.fields w | none => w

/-- Write the frames of a unit. -/
def State.writeFrames (s : State) (unit : Nat) (b : List Byte) : State :=
  let s := (rimOffsets unit).foldl (fun s o =>
    s.setReg o (definedBits o (BitVec.ofNat 32 (Config.rimWord unit b o)))) s
  if unit = 0xFE then
    [0, 1, 2, 3].foldl (fun s k => s.put (R.RIM_OSC k) F.RIM_OSC_LOCKED 0) s
  else s.put (R.RIM_BANK unit) F.RIM_BANK_IO_CLK (Config.rimWord unit b (R.RIM_BANK unit) / 4)

/-- Bank `b` stops and enters LOADING or UNCONFIGURED (R211). -/
def State.stopBank (s : State) (b st : Nat) : State :=
  ((s.clearBank b).put (R.RIM_BANK b) F.RIM_BANK_STATE st).put R.RIM_STATUS ⟨b, b⟩ 0

/-- Frames of a unit no longer carry an upset. -/
def State.freshFrames (s : State) (unit : Nat) : State :=
  let keep (f : Nat) : Bool := if unit = 0xFE then Nat.ble 128 f else Nat.blt f 128 || (f - 128) / 128 != unit
  { s with rim := { s.rim with frameBad := NMap.keep s.rim.frameBad keep } }

/-! Ports (R135, R140, R141). -/

/-- HELD_p (R135): the larger of the trained latency and the budget; 0 when untrained. -/
def State.setHeld (s : State) (p : Nat) : State :=
  let o := R.PSG_HELD p
  let lat := s.fld (R.LAT_PORT p) F.LAT_PORT_STEPS
  let bud := s.fld o F.PSG_HELD_BUDGET
  if s.bit (R.LAT_PORT p) F.LAT_PORT_VALID = false then
    (s.put o F.PSG_HELD_HELD 0).put o F.PSG_HELD_OVER_BUDGET 0
  else (s.put o F.PSG_HELD_HELD (if lat < bud then bud else lat)).put o F.PSG_HELD_OVER_BUDGET
    (natOfBool (bud != 0 && Nat.blt bud lat))

/-- The budget of a port at a commit, with LINK_OVER_BUDGET logged (R135). -/
def State.setBudget (s : State) (p n : Nat) : State :=
  let s := (s.put (R.PSG_HELD p) F.PSG_HELD_BUDGET n).setHeld p
  if s.bit (R.PSG_HELD p) F.PSG_HELD_OVER_BUDGET then s.detect 0x07 0x09 p else s

/-- Write one section that is no gallery's: DEVICE, FRAME, LANDING, EMU_INIT. A length above what SCHED_CTX_LEN holds is
above every limit of R1 and keeps its refusal (R91). -/
def State.loadDevSec (s : State) (kind unit : Nat) (b : List Byte) : State :=
  match kind with
  | 0x08 =>
    let s := (keyed 0 (chunks 2 8 b)).foldl (fun s x => s.put (R.SCHED_CTX_LEN x.1) F.SCHED_CTX_LEN_LENGTH (min x.2 2047)) s
    { s with fab := { s.fab with barriers := NMap.setAll dZero32 [] (keyed 0 ((chunks 4 16 (b.drop 16)).map (BitVec.ofNat 32))) } }
  | 0x09 =>
    { s with psg := { s.psg with frame := NMap.setAll dZero32 s.psg.frame (keyed (unit * 64) ((chunks 4 64 b).map (BitVec.ofNat 32))) } }
  | 0x0A =>
    { s with psg := { s.psg with landing := NMap.setAll dZero32 s.psg.landing (keyed (unit * 15360) ((chunks 4 15360 b).map (BitVec.ofNat 32))) } }
  | 0x0C => s.dsWriteBytes (s.regionBase unit + leNat (b.take 8)) (b.drop 8)
  | _ => s

/-- Empty the Passage tables of every port. -/
def State.clearPorts (s : State) : State :=
  { s with psg := { s.psg with frame := [], landing := [], frameBad := [], landingBad := [], txVals := [],
                               closed := [], got := [], early := [] } }

/-- The schedule parts of a set of sections, as the device would hold them: galleries, tables, DEVICE. `lens` are the
schedule lengths of the image. -/
def State.loadTables (s : State) (pace : Bool) (lens : List Nat) (m : List Byte) (bodies : List (Sec × List Byte)) : State :=
  let s := (mapGals m).foldl (fun s g => (s.clearGal g).setMode g (mapKind m g) (mapCtxs m)) s
  bodies.foldl (fun s x =>
    if (mapGals m).contains x.1.unit ∧ x.1.kind ≤ 0x0B ∧ x.1.kind ≠ 8 ∧ x.1.kind ≠ 9 ∧ x.1.kind ≠ 0x0A then
      s.loadGalSec pace lens x.1.kind x.1.unit x.2
    else if x.1.kind = 8 ∨ x.1.kind = 9 ∨ x.1.kind = 0x0A then s.loadDevSec x.1.kind x.1.unit x.2
    else s) s

end Sys2Proof.Machine
end

