-- ==== Sys2Proof/Machine/ImgChecks.lean ====
section
/-! DEFINITION. The content checks of verification, made on the device as the image would leave it (02, R37, R62;
03, R91, R92; 05, R144; 06, R157, R164; 08, R230 step 4). -/

namespace Sys2Proof.Machine

/-! The device as the image would leave it. -/

/-- No committed image: no tables, no gallery in the image, no port, no context. -/
def State.bare (s : State) : State :=
  let s := (List.range 64).foldl (fun s g => (s.clearGal g).setReg (R.GAL_MODE g) 0) s
  let s := (List.range 8).foldl (fun s c => s.setReg (R.SCHED_CTX_LEN c) 0) s
  let s := (List.range 16).foldl (fun s p => s.put (R.PSG_STATUS p) F.PSG_STATUS_IN_IMAGE 0) s
  { s.clearPorts with fab := { s.clearPorts.fab with barriers := [] } }

/-- The tables as the image would leave them: a whole image over a bare device, a reload over the committed
one. -/
def State.candidate (s : State) (m : List Byte) (bodies : List (Sec × List Byte)) : State :=
  let s := if s.hReload then s else
    (List.range 16).foldl (fun t p => t.put (R.PSG_STATUS p) F.PSG_STATUS_IN_IMAGE (natOfBool ((mapPorts m).testBit p))) s.bare
  let s := if s.hReload then s else s.put R.DEVICE_STATE F.DEVICE_STATE_PROFILE s.hProfile
  let s := s.loadTables s.pace (s.imgLens bodies) m bodies
  (mapGals m).foldl (fun s g => s.put (R.GAL_MODE g) F.GAL_MODE_IN_IMAGE 1) s

/-! Step words in place. -/

/-- The resident contexts. -/
def State.residents (s : State) : List Nat := (List.range 8).filter (fun c => s.ctxLen c != 0)

/-- A step word in its place. -/
structure Placed where
  bp : Nat
  ctx : Nat
  step : Nat
  word : StepWord
deriving DecidableEq, Repr

/-- Context and step of instruction-store index `i`. -/
def State.placeOf (s : State) (i : Nat) : Nat × Nat := if s.pace then (i / 128, i % 128) else (0, i)

/-- IMG_LOC's place of a BP, context and step. -/
def placeLoc (b c t : Nat) : Nat × Nat × Nat × Nat × Nat := (b / 1024, b / 64 % 16, b % 64, c, t)

/-- A failure at a place. -/
def failAt (r b c t : Nat) : ImgFail := { reason := r, loc := some (placeLoc b c t) }

/-- Every step word that is not all zero and decodes, in its place. -/
def State.placed (s : State) : List Placed :=
  s.fab.istore.filterMap (fun e =>
    if s.inImage (e.1 / 1048576) then
      (decodeStepWord e.2).map (fun w =>
        { bp := e.1 / 1024, ctx := (s.placeOf (e.1 % 1024)).1, step := (s.placeOf (e.1 % 1024)).2, word := w })
    else none)

/-- Is an operation one of the five memory operations? -/
def isMemOp : StepOp → Bool
  | .mrd _ | .mwr _ _ | .matom _ _ | .mdeeprd _ | .mdeepwr _ _ => true
  | _ => false

/-- R37: the first offending word in gallery, chamber, BP, context and step order. `mem` holds the memory
operations met (chamber, index), `pins` the PINOUTs met (context, pin). -/
def State.wordsFail (s : State) : List (Nat × Dword) → List (Nat × Nat) → List (Nat × Nat) → Option ImgFail
  | [], _, _ => none
  | e :: es, mem, pins =>
    let b := e.1 / 1024
    let p := s.placeOf (e.1 % 1024)
    if s.inImage (b / 1024) = false then s.wordsFail es mem pins
    else match decodeStepWord e.2 with
      | none => some (failAt 0x20 b p.1 p.2)
      | some w =>
        if legalIn (s.four (b / 1024)) (b % 64) w.op = false ∨ s.ctxLen p.1 ≤ p.2 then some (failAt 0x20 b p.1 p.2)
        else if isMemOp w.op ∧ mem.contains (b / 64, e.1 % 1024) then some (failAt 0x3B b p.1 p.2)
        else match w.op with
          | .pinout pin _ =>
            if pins.contains (p.1, pin.val) then some (failAt 0x20 b p.1 p.2)
            else s.wordsFail es mem ((p.1, pin.val) :: pins)
          | _ => s.wordsFail es (if isMemOp w.op then (b / 64, e.1 % 1024) :: mem else mem) pins

/-! Sends (R61 to R63, R91). -/

/-- A send in its place, with its slot record. -/
structure SendAt where
  bp : Nat
  ctx : Nat
  step : Nat
  idx : Nat
  rcd : Word
deriving DecidableEq, Repr

/-- The machine with context `c` active. -/
def State.atCtx (s : State) (c : Nat) : State := { s with sched := { s.sched with ctx := c } }

/-- Every send. -/
def State.sends (s : State) : List SendAt :=
  (s.placed.filter (fun p => p.word.m.s)).map (fun p =>
    let i := (s.atCtx p.ctx).slotIndex p.bp p.step
    { bp := p.bp, ctx := p.ctx, step := p.step, idx := i, rcd := NMap.get dZero32 s.fab.slot (p.bp * 512 + i) })

/-- The latencies of the image's profile. -/
def State.hStepping (s : State) : Stepping := if s.hLat = 2 then .b0 else .a0

/-- R1, R89: a context too long, or too many contexts (SCHED_LENGTH). DESIGN CHOICE (log 49): a number of nonzero N(c)
other than the region map's CONTEXTS fails with SCHED_LENGTH too. -/
def State.lengthFail (s : State) (m : List Byte) : Option ImgFail :=
  let four := (List.range 64).any (fun g => s.inImage g && s.four g)
  let top := if s.pace then 128 else if four then 512 else 1024
  let n := if s.pace then (if four then 4 else 8) else 1
  match s.residents.find? (fun c => Nat.blt top (s.ctxLen c) || Nat.ble n c) with
  | some c => some { reason := 0x21, loc := some (0, 0, 0, c, 0) }
  | none => if s.residents.length ≠ mapCtxs m then some { reason := 0x21 } else none

/-- Fields of a slot record against its kind (R63, R139). -/
def slotOk (b : Nat) (r : Word) : Bool :=
  let n := r.toNat
  bitsOf 11 0 n == 0 &&
  match bitsOf 31 30 n with
  | 0 => bitsOf 29 20 n == 0
  | 1 => bitsOf 29 24 n == 0 && bitsOf 23 20 n != b / 64 % 16
  | 2 => bitsOf 29 24 n != b / 1024
  | _ => true

/-- Does BP `b` hold a valid receive record for an arrival (R66)? -/
def State.hasRecv (s : State) (b port step ctx : Nat) : Bool :=
  s.fab.recv.any (fun e => e.1 / 1024 == b && recvMatches e.2 port step ctx)

/-- SCHED_SLOT of one send: `cnt` is the number of records its BP holds. -/
def State.slotFail (s : State) (cnt : Nat) (x : SendAt) : Bool :=
  Nat.ble cnt x.idx || !slotOk x.bp x.rcd ||
  (match route s.hStepping x.bp x.rcd with
   | some (port, _, [d]) => !s.hasRecv d port.code x.step x.ctx
   | _ => false)

/-- Do two contexts of a BP share slot records (R62)? -/
def slotOverlap (xs : List SendAt) (x : SendAt) : Bool :=
  xs.any (fun y => y.bp == x.bp && y.ctx != x.ctx && y.idx == x.idx)

/-! Capacities (R60, R143). A path's resources are listed as numbers: the kind first, the period last. -/

/-- The lanes and ports that a send uses, each with its period (DEDUCED, log 15). -/
def usesOf (st : Stepping) (x : SendAt) : List (List Nat) :=
  match route st x.bp x.rcd with
  | none => [[7, x.bp / 1024, x.step]]
  | some p => (lanesOf x.bp p).map (fun l => l.1 ++ [x.step + l.2]) ++ p.2.2.map (fun d => [0, d, p.1.code, x.step + p.2.1])

/-- The capacity of a resource by its kind (R60, R143). -/
def capacityOf (k : List Nat) : Nat := if k.head? = some 7 then 64 else mergeCapacity k

/-- ROUTE_COLLISION of sends in one context. -/
def collisionFail (st : Stepping) (xs : List SendAt) : Option ImgFail :=
  let all := xs.flatMap (usesOf st)
  (xs.find? (fun x => (usesOf st x).any (fun u => Nat.blt (capacityOf u) (all.count u)))).map
    (fun x => failAt 0x23 x.bp x.ctx x.step)

/-! Receive records (R66, R91). -/

/-- PORT of a receive record. -/
def recvPort (w : Word) : Nat := bitsOf 30 28 w.toNat
/-- CTX_MASK. -/
def recvMask (w : Word) : Nat := bitsOf 27 20 w.toNat
/-- The lowest context of CTX_MASK; 0 where it is empty. -/
def recvCtx (w : Word) : Nat := ((List.range 8).find? (fun c => (recvMask w).testBit c)).getD 0
/-- STEP. -/
def recvStep (w : Word) : Nat := bitsOf 19 10 w.toNat
/-- ENTRY. -/
def recvEntry (w : Word) : Nat := w.toNat % 1024

/-- The valid receive records of galleries in the image: BP and word. -/
def State.recvs (s : State) : List (Nat × Word) :=
  (s.fab.recv.filter (fun e => e.2.getLsbD 31 && s.inImage (e.1 / 1048576))).map (fun e => (e.1 / 1024, e.2))

/-- Is flit index `f` one of context `c` (R138)? -/
def State.flitOf (s : State) (c f : Nat) : Bool := (s.atCtx c).ctxFlit f && s.ctxLen c != 0

/-- Does an operation return a word to its chamber's lanes? -/
def returnsWord : StepOp → Bool
  | .mrd _ | .matom _ _ | .mdeeprd _ => true
  | _ => false

/-- Has the arrival that a record names a sender in context `c` (R65, R91)? -/
def State.hasSender (s : State) (ps : List Placed) (xs : List SendAt) (b : Nat) (w : Word) (c : Nat) : Bool :=
  let t := recvStep w
  match recvPort w with
  | 3 => ps.any (fun p => p.bp / 64 == b / 64 && p.ctx == c && p.step == t && returnsWord p.word.op)
  | 4 => ps.any (fun p => p.bp == b && p.ctx == c && p.step == t &&
      (match p.word.op with | .pinin _ => true | _ => false))
  | 5 => s.psg.landing.any (fun e =>
      let n := e.2.toNat
      s.portInImage (e.1 / 15360) && bitOf 31 n && bitsOf 29 14 n == b && n % 1024 == t &&
      s.flitOf c (e.1 % 15360 / 240))
  | k => xs.any (fun x => x.ctx == c && x.step == t &&
      (match route s.hStepping x.bp x.rcd with
       | some (port, _, ds) => port.code == k && ds.contains b
       | none => false))

/-- Does record `w` of BP `b` fill its entry in context `c`? -/
def State.fills (s : State) (ps : List Placed) (xs : List SendAt) (b : Nat) (w : Word) (c : Nat) : Bool :=
  (recvMask w).testBit c && s.hasSender ps xs b w c

/-- SCHED_RX of one record among `rs`. -/
def State.recvFail (s : State) (ps : List Placed) (xs : List SendAt) (rs : List (Nat × Word)) (r : Nat × Word) : Bool :=
  Nat.blt 1 (rs.filter (fun q => q.1 == r.1 && recvPort q.2 == recvPort r.2 && recvStep q.2 == recvStep r.2 &&
    (recvMask q.2 &&& recvMask r.2) != 0)).length ||
  (s.four (r.1 / 1024) && Nat.ble 512 (recvEntry r.2)) || Nat.blt 5 (recvPort r.2) ||
  (!s.pace && Nat.blt 1 (recvMask r.2)) || !(s.residents.any (s.fills ps xs r.1 r.2))

/-- The receive-area entries that a word reads with G = 0 (R30). -/
def State.rxReads (s : State) (p : Placed) : List Nat :=
  let base := rxBase (s.four (p.bp / 1024))
  ((operandsOf p.word.op).filter (fun o => !o.prev && Nat.ble base o.addr.toNat)).map (fun o => o.addr.toNat - base)

/-- SCHED_NO_SOURCE of one word. -/
def State.readFail (s : State) (ps : List Placed) (xs : List SendAt) (rs : List (Nat × Word)) (p : Placed) : Bool :=
  (s.rxReads p).any (fun off => !(rs.any (fun r => r.1 == p.bp && recvEntry r.2 == off && s.fills ps xs r.1 r.2 p.ctx &&
    (recvPort r.2 == 5 || Nat.blt (recvStep r.2) p.step))))

/-- WRITE_CONFLICT of one record among `rs`. DESIGN CHOICE (log 49): a record fills its entry in every context of its
CTX_MASK, whether or not a sender exists there. -/
def entryShared (rs : List (Nat × Word)) (r : Nat × Word) : Bool :=
  Nat.blt 1 (rs.filter (fun q => q.1 == r.1 && recvEntry q.2 == recvEntry r.2 &&
    (recvMask q.2 &&& recvMask r.2) != 0)).length

/-! Barriers (R78, R91). -/

/-- Is a barrier definition one the device refuses? -/
def barrierBad (rim : Bool) (w : Word) : Bool :=
  let k := bitsOf 30 28 w.toNat
  let sc := bitsOf 27 26 w.toNat
  w.getLsbD 31 && (k == 0 || k == 7 || sc == 3 || (Nat.ble 3 k && sc != 2) || (k == 4 && !rim))

/-- SCHED_BARRIER: a SYNC that names an undefined or refused barrier, in its place; a refused definition that
no SYNC names has no place. -/
def State.barrierFail (s : State) (rim : Bool) (ps : List Placed) : Option ImgFail :=
  match ps.find? (fun p => match p.word.op with
      | .sync n =>
        let w := NMap.get dZero32 s.fab.barriers n.val
        !w.getLsbD 31 || barrierBad rim w
      | _ => false) with
  | some p => some (failAt 0x27 p.bp p.ctx p.step)
  | none => if s.fab.barriers.any (fun e => barrierBad rim e.2) then some { reason := 0x27 } else none

/-! Links (R138 to R144). -/

/-- The context of a flit index (R138). -/
def State.ctxOfFlit (s : State) (f : Nat) : Nat :=
  if s.pace then f / (if (List.range 64).any (fun g => s.inImage g && s.four g) then 16 else 8) else 0

/-- The LINK sends. -/
def linkSends (xs : List SendAt) : List SendAt := xs.filter (fun x => bitsOf 31 30 x.rcd.toNat == 3)

/-- Port, flit and position of a LINK record (R139). -/
def linkPos (w : Word) : Nat × Nat × Nat := (bitsOf 29 26 w.toNat, bitsOf 25 20 w.toNat, bitsOf 19 12 w.toNat)

/-- Do two LINK sends fill one position? A four-state value fills two (R139). -/
def State.linkMeets (s : State) (x y : SendAt) : Bool :=
  let p := linkPos x.rcd
  let q := linkPos y.rcd
  let four (z : SendAt) : Bool := s.four (z.bp / 1024)
  p.1 == q.1 && p.2.1 == q.2.1 &&
    (p.2.2 == q.2.2 || (four x && p.2.2 + 1 == q.2.2) || (four y && q.2.2 + 1 == p.2.2))

/-- LINK_FRAME, LINK_LATE or ROUTE_COLLISION of one LINK send among `ls` (R144). -/
def State.linkFail (s : State) (ls : List SendAt) (x : SendAt) : Option Nat :=
  let p := linkPos x.rcd
  let e := NMap.get dZero32 s.psg.frame (p.1 * 64 + p.2.1)
  if s.flitOf x.ctx p.2.1 = false ∨ (s.four (x.bp / 1024) ∧ p.2.2 % 2 = 1) ∨ 239 < p.2.2 then some 0x28
  else if e.getLsbD 31 ∧ e.getLsbD 30 = false ∧ e.toNat % 1024 < x.step + 8 then some 0x29
  else if 1 < (ls.filter (fun y => y.ctx == x.ctx && s.linkMeets x y)).length then some 0x23
  else none

/-- LINK_FRAME, LINK_FWD or ROUTE_COLLISION of a frame entry. -/
def State.frameFail (s : State) (e : Nat × Word) : Option Nat :=
  let n := e.2.toNat
  let c := s.ctxOfFlit (e.1 % 64)
  if !e.2.getLsbD 31 then none
  else if s.ctxLen c ≤ n % 1024 then some 0x28
  else if e.2.getLsbD 30 ∧ s.portInImage (bitsOf 29 26 n) = false then some 0x2B
  else if !e.2.getLsbD 30 && Nat.blt 1 (s.psg.frame.filter (fun f => f.1 / 64 == e.1 / 64 && f.2.getLsbD 31 &&
      !f.2.getLsbD 30 && s.ctxOfFlit (f.1 % 64) == c && f.2.toNat % 1024 == n % 1024)).length then some 0x23
  else none

/-- LINK_FRAME or LINK_LAND of a landing entry: a record matches an arrival of the flit's context (R141). -/
def State.landFail (s : State) (e : Nat × Word) : Option Nat :=
  let n := e.2.toNat
  let b := bitsOf 29 14 n
  let f := e.1 % 15360 / 240
  if !e.2.getLsbD 31 then none
  else if s.ctxLen (s.ctxOfFlit f) = 0 then some 0x28
  else if (s.four (b / 1024) ∧ e.1 % 2 = 1) ∨
      s.recvs.any (fun r => r.1 == b && recvPort r.2 == 5 && recvStep r.2 == n % 1024 && (recvMask r.2).testBit (s.ctxOfFlit f)) = false then some 0x2A
  else none

/-- The step count at which a value of a landing entry lands (R142): the peer's CLOSE, which the device does not know at
load (R91; log 3), and BUDGET_p, or the trained latency where the map states 0 (R135). -/
def State.landStep (s : State) (m : List Byte) (e : Nat × Word) : Nat :=
  let p := e.1 / 15360
  let b := mapBudget m p
  Config.peerClose p (e.1 % 15360 / 240) + (if b = 0 then s.fld (R.LAT_PORT p) F.LAT_PORT_STEPS else b)

/-- The gallery, the chamber and the BP that a landing entry uses (R143), each with its context and landing step. -/
def State.landUses (s : State) (m : List Byte) (e : Nat × Word) : List (List Nat) :=
  let b := landBp e.2
  let at_ : List Nat := [s.ctxOfFlit (e.1 % 15360 / 240), s.landStep m e]
  [[64, b / 1024] ++ at_, [4, b / 64] ++ at_, [1, b] ++ at_]

/-- ROUTE_COLLISION of landing entries: more than 64 values of a gallery, 4 of a chamber or one of a BP land in one period
(R143, R144). -/
def State.landMeets (s : State) (m : List Byte) : Option ImgFail :=
  let es := s.psg.landing.filter (fun e => e.2.getLsbD 31 && s.portInImage (e.1 / 15360))
  let all := es.flatMap (s.landUses m)
  (es.find? (fun e => (s.landUses m e).any (fun u => Nat.blt (u.headD 0) (all.count u)))).map (fun e =>
    failAt 0x23 (landBp e.2) (s.ctxOfFlit (e.1 % 15360 / 240)) (e.2.toNat % 1024))

/-! Probes (R157, R164). -/

/-- The first BP and context with more than 32 probe bits. -/
def State.probeFail (s : State) (ps : List Placed) : Option ImgFail :=
  (ps.find? (fun p => p.word.m.p && Nat.blt 32 ((ps.filter (fun q => q.bp == p.bp && q.ctx == p.ctx && q.word.m.p)).length *
    s.probeWidth (p.bp / 1024)))).map (fun p => failAt 0x2D p.bp p.ctx p.step)

/-- Would arming be refused with the largest record of this state (R164)? -/
def State.windowRefused (s : State) (stream : Bool) (pre post ring : Nat) : Bool :=
  let m := s.recMax
  if stream then Nat.blt ring (2 * m) else Nat.blt ring ((pre + post + 2) * m)

/-! All of them, in the order of R230 step 4. -/

/-- The first of several failures. -/
def firstOf (l : List (Option ImgFail)) : Option ImgFail := l.findSome? (fun x => x)

/-- The checks of the schedule, of the links and of the probes on the candidate state; `cnt` gives the number
of slot records of a BP of the image, `rim` whether Rimstone has a global region. -/
def State.tablesFail (s : State) (m : List Byte) (rim : Bool) (cnt : NMap Nat) : Option ImgFail :=
  let ps := s.placed
  let xs := s.sends
  let rs := s.recvs
  let ls := linkSends xs
  let at_ (r : Nat) (x : Option SendAt) : Option ImgFail := x.map (fun x => failAt r x.bp x.ctx x.step)
  let rec_ (r : Nat) (x : Option (Nat × Word)) : Option ImgFail := x.map (fun x => failAt r x.1 (recvCtx x.2) (recvStep x.2))
  firstOf [
    s.wordsFail s.fab.istore [] [],
    at_ 0x22 (xs.find? (fun x => Nat.blt 511 x.idx || slotOverlap xs x)),
    s.lengthFail m,
    at_ 0x22 (xs.find? (fun x => s.slotFail (NMap.get (fun _ => 512) cnt x.bp) x)),
    firstOf (s.residents.map (fun c => collisionFail s.hStepping (xs.filter (fun x => x.ctx == c)))),
    rec_ 0x24 (rs.find? (s.recvFail ps xs rs)),
    (ps.find? (s.readFail ps xs rs)).map (fun p => failAt 0x25 p.bp p.ctx p.step),
    rec_ 0x26 (rs.find? (entryShared rs)),
    s.barrierFail rim ps,
    ls.findSome? (fun x => (s.linkFail ls x).map (fun r => failAt r x.bp x.ctx x.step)),
    s.psg.frame.findSome? (fun e => if s.portInImage (e.1 / 64) then (s.frameFail e).map (fun r => { reason := r }) else none),
    s.psg.landing.findSome? (fun e => if s.portInImage (e.1 / 15360) then (s.landFail e).map (fun r => { reason := r }) else none),
    s.landMeets m,
    s.probeFail ps,
    if s.armed && s.windowRefused s.stream (s.reg R.ECHO_PRE).toNat (s.reg R.ECHO_POST).toNat s.ringUnits then
      some { reason := 0x2E } else none]

/-! The slip estimate (R92). -/

/-- An estimate in progress: the period, the next step, the periods that the step or the flip has waited, the values on
their way, the entries filled, the queues that hold issue, the held periods. -/
structure SlipRun where
  period : Nat
  step : Nat
  wait : Nat
  flights : List Flight
  fly : List Arrival
  filled : List (Nat × Nat)
  queued : List (List Nat)
  counted : List (List Nat)
  held : Nat
deriving DecidableEq, Repr

/-- Has the estimate's own step count come to step `m` (R142)? -/
def SlipRun.reached (r : SlipRun) (m : Nat) : Bool := Nat.ble m (r.step + r.wait)

/-- The entry that an arrival fills in context `c`; an arrival that no record takes fills none. -/
def slipEntry (rs : List (Nat × Word)) (c : Nat) (a : Arrival) : List (Nat × Nat) :=
  match rs.find? (fun r => r.1 == a.bp && recvMatches r.2 a.port.code a.step c) with
  | some r => [(a.bp, recvEntry r.2)]
  | none => []

/-- Land what is due as the ports allow (R68, R143): what stays in flight, the entries filled. -/
def slipLand (rs : List (Nat × Word)) (c now : Nat) (reached : Nat → Bool) : List Arrival → List (Nat × Nat) →
    List (Nat × Nat) → List Arrival × List (Nat × Nat)
  | [], _, filled => ([], filled)
  | a :: as, used, filled =>
    if a.due ≤ now ∧ reached a.minStep ∧ portFree used a then
      slipLand rs c now reached as ((a.bp, a.port.code) :: used) (slipEntry rs c a ++ filled)
    else
      let r := slipLand rs c now reached as used filled
      (a :: r.1, r.2)

/-- What step `t` of context `c` sends in period `now` under the device's own table: values for the merge points, and
arrivals on their way to ports (R69). -/
def State.slipSends (s : State) (ps : List Placed) (xs : List SendAt) (c t now : Nat) : List Flight × List Arrival :=
  let nets := (xs.filter (fun x => x.ctx == c && x.step == t)).filterMap (fun x =>
    (route s.part.stepping x.bp x.rcd).map (fun p => flightOf now x.bp t p Nv.zero))
  let mems := (ps.filter (fun p => p.ctx == c && p.step == t && returnsWord p.word.op)).flatMap (fun p =>
    let lat := match p.word.op with | .mdeeprd _ => 240 | _ => 6
    (List.range 64).map (fun i => (⟨p.bp / 64 * 64 + i, .memory, t, Nv.zero, now + lat, 0⟩ : Arrival)))
  let pins := (ps.filter (fun p => p.ctx == c && p.step == t && (match p.word.op with | .pinin _ => true | _ => false))).map
    (fun p => (⟨p.bp, .pin, t, Nv.zero, now + 14, 0⟩ : Arrival))
  (nets.filter (fun f => f.ahead != []), (nets.filter (fun f => f.ahead == [])).flatMap (fun f => spreadOut f f.due []) ++ mems ++ pins)

/-- The LINK arrivals of context `c` at their nominal steps (R92, R135): the peer's close step plus BUDGET_p. -/
def State.slipLinks (s : State) (c : Nat) : List Arrival :=
  (s.psg.landing.filter (fun e => e.2.getLsbD 31 && s.portInImage (e.1 / 15360) && s.flitOf c (e.1 % 15360 / 240))).map (fun e =>
    let p := e.1 / 15360
    ⟨landBp e.2, .link, e.2.toNat % 1024, Nv.zero, 0,
      Config.peerClose p (e.1 % 15360 / 240) + s.fld (R.PSG_HELD p) F.PSG_HELD_BUDGET⟩)

/-- Does step `t` wait for an entry that a record with a sender fills? -/
def State.slipWaits (s : State) (ps : List Placed) (rs : List (Nat × Word)) (c t : Nat) (filled : List (Nat × Nat)) : Bool :=
  (ps.filter (fun p => p.ctx == c && p.step == t)).any (fun p =>
    (s.rxReads p).any (fun off => !filled.contains (p.bp, off) &&
      rs.any (fun r => r.1 == p.bp && recvEntry r.2 == off && (recvMask r.2).testBit c)))

/-- One period of the estimate. -/
def State.slipPeriod (s : State) (ps : List Placed) (xs : List SendAt) (rs : List (Nat × Word)) (c : Nat) (r : SlipRun) :
    SlipRun :=
  let n := s.ctxLen c
  let go := Nat.blt r.step n && !(s.slipWaits ps rs c r.step r.filled) && r.queued.isEmpty
  let new := if go then s.slipSends ps xs c r.step r.period else ([], [])
  let now := r.period + 1
  let r' := { r with period := now, step := if go then r.step + 1 else r.step, wait := if go then 0 else r.wait + 1 }
  let m := passMerges now (new.1.foldl (fun q f => insertFlight f q) r.flights) []
    (new.2.foldl (fun q a => insertArrival a q) r.fly)
  let fs := m.2.1.foldl (fun q f => insertFlight f q) m.1
  let l := slipLand rs c now r'.reached m.2.2 [] r.filled
  { r' with flights := fs, fly := l.1, filled := l.2, queued := r.counted,
            counted := fullQueues (waitingAt now r'.reached fs l.1) r.counted,
            held := if go || Nat.ble n r.step then r.held else r.held + 1 }

/-- Run until the steps have issued and every arrival has landed, at most `fuel` periods: the held periods,
with those of the flip after T0 to T2 (R19). -/
def State.slipLoop (s : State) (ps : List Placed) (xs : List SendAt) (rs : List (Nat × Word)) (c : Nat) :
    Nat → Nat → SlipRun → Nat
  | 0, _, r => r.held
  | k + 1, t, r =>
    if s.ctxLen c ≤ r.step ∧ r.fly = [] ∧ r.flights = [] then r.held + (t - 3)
    else s.slipLoop ps xs rs c k (if s.ctxLen c ≤ r.step then t + 1 else t) (s.slipPeriod ps xs rs c r)

/-- IMG_SLIP_EST of context `c` (R92). -/
def State.slipEst (s : State) (c : Nat) : Nat :=
  if s.ctxLen c = 0 then 0 else
  let e := s.slipLoop s.placed s.sends s.recvs c 70000 0
    { period := 0, step := 0, wait := 0, flights := [], fly := s.slipLinks c, filled := [], queued := [], counted := [],
      held := 0 }
  if e < 0xFFFF then e else 0xFFFF

end Sys2Proof.Machine
end

