-- ==== Sys2Proof/Machine/Echo.lean ====
section
/-! DEFINITION. Echo's commands and events: arming, the sequencer, the window, snapshots and restores (06, R164 to
R184; 09, R265, R266). -/

namespace Sys2Proof.Machine

/-! The sequencer and the window (R170 to R172). -/

/-- SNAP of the trigger (R171, R181): a snapshot at this boundary, or SKIPPED while Echo is busy. -/
def State.triggerSnap (s : State) : State :=
  if s.echo.snap.isSome then s.put R.SNAP_STATUS F.SNAP_STATUS_RESULT 3
  else
    let p : Pending :=
      { act := .snapshot (s.fld R.ECHO_CTL F.ECHO_CTL_TRIG_SLOT) (s.echo.emuMask != 0), target := some s.sched.nextTick,
        cmd := none }
    { s with sched := { s.sched with pending := s.sched.pending ++ [p] } }

/-- T5 of the trigger cycle (R171, R172). -/
def State.fire (s : State) : State :=
  let acts := s.fld R.ECHO_CTL F.ECHO_CTL_ACTIONS
  let n := s.sched.curTick.toNat
  let s := { s with echo := { s.echo with fired := true, postLeft := (s.reg R.ECHO_POST).toNat } }
  let s := ((s.raise R.ECHO_STATUS F.ECHO_STATUS_TRIGGERED).put R.ECHO_TRIG_TICK_LO F.ECHO_TRIG_TICK_LO_TICK n).put
    R.ECHO_TRIG_TICK_HI F.ECHO_TRIG_TICK_HI_TICK (n / 2 ^ 32)
  let s := s.onRecord (fun r => { r with flags := r.flags ||| 1 })
  let s := if acts.testBit 0 then s.cicEvent 24 else s
  let s := if acts.testBit 1 then s.triggerSnap else s
  let s := if acts.testBit 2 then s.haltAtEnd else s
  if !s.stream && s.echo.postLeft = 0 then
    let s := { s with echo := { s.echo with windowDue := true } }
    if acts.testBit 3 then s.haltAtEnd else s
  else s

/-- SEQUENCER_STAGE_COMPLETE (R170, R171): the stage whose input has been 1 in COUNT cycles completes; the last
one fires. -/
def execSequencerStageComplete (s : State) : Out :=
  if s.echo.stageDue = false ∨ s.sched.phase ≠ .t5 then .next s
  else
    let last := Nat.ble s.stages (s.echo.stage + 1)
    let s := { s with echo := { s.echo with stageDue := false, count := 0,
                                            stage := if last then s.echo.stage else s.echo.stage + 1 } }
    let s := if last then s.fire else s
    .next (s.onRecord (fun r => { r with stage := s.shownStage })).afterBoundary

/-- WINDOW_DONE (R172): the records of the window are written; the ring freezes. -/
def execWindowDone (s : State) : Out :=
  if s.echo.windowDue = false ∨ s.echo.recs.isEmpty = false then .next s
  else
    let s := { s with echo := { s.echo with windowDue := false } }
    .next (((s.raise R.ECHO_STATUS F.ECHO_STATUS_FROZEN).raise R.ECHO_STATUS F.ECHO_STATUS_WINDOW_DONE).cicEvent 25)

/-! Arming (R164, R265). -/

/-- A field of an arm block. -/
def armNat (b : List Byte) (a n : Nat) : Nat := leNat ((b.drop a).take n)

/-- The EMU regions of a mask. -/
def emuOf (mask : Nat) : List Nat := emuRegions.filter (fun n => mask.testBit n)

/-- SLOT_SIZE in units of 16 MiB (R178). -/
def State.slotUnitsOf (s : State) (mask : Nat) : Nat :=
  6 + (emuOf mask).foldl (fun n r => n + s.fld (R.DS_REGION_SIZE r) F.DS_REGION_SIZE_SIZE) 0

/-- Are the reserved parts of an arm block zero and its fields in range? -/
def armWf (b : List Byte) : Bool :=
  let zero (a n : Nat) : Bool := armNat b a n == 0
  let stage (i : Nat) : Bool :=
    let w := armNat b (0x18 + 4 * i) 4
    bitsOf 15 5 w == 0 && Nat.ble (w % 8) 4
  let gal (g : Nat) : Bool := zero (0x40 + 48 * g + 36) 12 && Nat.blt (armNat b (0x40 + 48 * g + 32) 4) 4096
  Nat.ble (armNat b 0 1) 1 && Nat.ble (armNat b 1 1) 1 && Nat.ble (armNat b 2 1) 4 && Nat.blt (armNat b 3 1) 16 &&
  Nat.blt (armNat b 4 1) 16 && zero 7 1 && [0, 1, 2, 3].all stage && zero 0x2A 22 && (List.range 64).all gal

/-- Why an arm is refused, as a completion status; none when it may apply (R118, R164, R178, R265). -/
def State.armFail (s : State) (b : List Byte) : Option Nat :=
  let slots := armNat b 6 1
  let b12 := armNat b 8 2
  let s12 := armNat b 0x0A 2
  let b13 := armNat b 0x0C 2
  let s13 := armNat b 0x0E 2
  let mask := armNat b 0x28 2
  let snap := (armNat b 4 1).testBit 1
  if s.armed then some 4
  else if !armWf b then some 2
  else if s12 = 0 ∨ 2048 < b12 + s12 ∨ (slots = 0 ∧ s13 ≠ 0) ∨ (s13 ≠ 0 ∧ 2048 < b13 + s13) then some 2
  else if !((List.range 16).all (fun n => !mask.testBit n || (emuRegions.contains n &&
      s.bit (R.DS_REGION n) F.DS_REGION_VALID))) then some 2
  else if s13 < slots * s.slotUnitsOf mask ∨ (snap ∧ slots ≤ armNat b 5 1) then some 2
  else if s.overlaps b12 s12 [] ∨ (s13 ≠ 0 ∧ (s.overlaps b13 s13 [] ∨ (b12 < b13 + s13 ∧ b13 < b12 + s12))) then some 0x18
  else if s.windowRefused (armNat b 0 1 == 1) (armNat b 0x10 4) (armNat b 0x14 4) (s12 * 2 ^ 18) then some 0x16
  else none

/-- The trigger registers of gallery `g` from an arm block. -/
def State.armGal (s : State) (b : List Byte) (g : Nat) : State :=
  let a := 0x40 + 48 * g
  let s := (List.range 4).foldl (fun s t =>
    (s.setReg (R.GAL_TRIG_TERM_LO g t) (BitVec.ofNat 32 (armNat b (a + 8 * t) 4))).setReg (R.GAL_TRIG_TERM_HI g t)
      (BitVec.ofNat 32 (armNat b (a + 8 * t + 4) 4))) s
  s.setReg (R.GAL_TRIG_CTL g) (BitVec.ofNat 32 (armNat b (a + 32) 4))

/-- Echo arms (R164, R265): its registers and regions take the block, the ring and the sequencer start. -/
def State.arm (s : State) (b : List Byte) : State :=
  let o := R.ECHO_CTL
  let s := ((((((((s.setReg o 0).raise o F.ECHO_CTL_ARMED).put o F.ECHO_CTL_MODE (armNat b 0 1)).put o F.ECHO_CTL_LOSS
    (armNat b 1 1)).put o F.ECHO_CTL_STAGES (armNat b 2 1)).put o F.ECHO_CTL_COND_ALL (armNat b 3 1)).put o
    F.ECHO_CTL_ACTIONS (armNat b 4 1)).put o F.ECHO_CTL_TRIG_SLOT (armNat b 5 1)).put o F.ECHO_CTL_SNAP_SLOTS (armNat b 6 1)
  let s := s.put R.ECHO_REC_MAX F.ECHO_REC_MAX_UNITS s.recMax
  let s := (s.setReg R.ECHO_PRE (BitVec.ofNat 32 (armNat b 0x10 4))).setReg R.ECHO_POST (BitVec.ofNat 32 (armNat b 0x14 4))
  let s := (List.range 4).foldl (fun s i => s.setReg (R.ECHO_STAGE i) (BitVec.ofNat 32 (armNat b (0x18 + 4 * i) 4))) s
  let s := (List.range 64).foldl (fun s g => s.armGal b g) s
  let mask := armNat b 0x28 2
  let units := s.slotUnitsOf mask
  let s := s.assignRegion 12 3 (armNat b 8 2) (armNat b 0x0A 2)
  let s := if armNat b 0x0E 2 = 0 then s else s.assignRegion 13 3 (armNat b 0x0C 2) (armNat b 0x0E 2)
  let s := ((s.setReg R.ECHO_WR_PTR 0).setReg R.ECHO_RD_PTR 0).setReg R.ECHO_OLDEST 0
  { s with echo := { s.echo with
      seq := 0, tail := 0, recs := [], held := [], buffered := [], stage := 0, count := 0, fired := false,
      postLeft := 0, hostTrig := false, slotUnits := units, emuMask := mask, disarming := false, disarmCmds := [],
      capturing := false, stageDue := false, windowDue := false } }

/-- ECHO_ARM with OP ARM (R164, R265): checked, then due at the next or the targeted T5. -/
def execEchoArm (h : Hdr) (buf : HostBuf) (s : State) : Out :=
  s.command (buf := buf) h (.echoArm h buf) true chanBits (fun c s =>
    if s.armed then s.complete c 4
    else match hostBytes buf 3136 with
      | .inl st => s.complete c st
      | .inr b =>
        match s.armFail b with
        | some st => s.complete c st
        | none => s.awaitCmd (.arm b) h.target c)

/-- A disarm begins (R164, R181): a snapshot is aborted, capture stops after the record in progress. -/
def State.beginDisarm (s : State) (c : Option CmdId) : State :=
  if s.armed = false then s.completeOpt c 0x17
  else
    let s := s.abortSnap
    { s with echo := { s.echo with disarming := true, disarmCmds := s.echo.disarmCmds ++ c.toList } }.disarmIfIdle

/-- ECHO_ARM_APPLY (R265): a due arm, or a due disarm that names a target, applies. -/
def execEchoArmApply (s : State) : Out :=
  match s.turn (fun a => match a with | .arm _ | .disarm => true | _ => false) with
  | some p =>
    let s := s.dropPending p
    match p.act with
    | .arm b =>
      match s.armFail b with
      | some st => .next (s.completeOpt p.cmd st).afterBoundary
      | none => .next ((s.arm b).completeOpt p.cmd 0 (BitVec.ofNat 64 (s.recMax * 64))).afterBoundary
    | _ => .next (s.beginDisarm p.cmd).afterBoundary
  | none => .next s

/-- ECHO_ARM with OP DISARM (R164). -/
def execEchoDisarm (h : Hdr) (s : State) : Out :=
  s.command h (.echoDisarm h) true chanBits (fun c s =>
    if s.armed = false then s.complete c 0x17
    else if h.target.isSome then s.awaitCmd .disarm h.target c
    else s.beginDisarm (some c))

/-- `n` ring bytes from offset `a`, wrapping at the ring's end; whether one is uncorrectable. -/
def State.ringBytes (s : State) (a n : Nat) : List Byte × Bool × State :=
  let base := s.regionBase 12
  let ring := s.regionSize 12
  let k := if ring < a + n then ring - a else n
  let r := s.dsReadBytes (base + a) k
  let t := r.2.2.dsReadBytes base (n - k)
  (r.1 ++ t.1, r.2.1 || t.2.1, t.2.2)

/-- Do the ring bytes of `n` bytes from offset `a` lie in channels that are ready (R124)? -/
def State.ringReady (s : State) (a n : Nat) : Bool :=
  let base := s.regionBase 12
  let ring := s.regionSize 12
  let k := if ring < a + n then ring - a else n
  s.rangeReady (base + a) k && s.rangeReady base (n - k)

/-- ECHO_READ (R266): copies ring bytes to the host buffer; in STREAM mode CONSUME, whose end shall lie on a multiple of
64 bytes, then advances ECHO_RD_PTR. A channel that is not ready is DS_CHANNEL_DOWN (R124). -/
def execEchoRead (h : Hdr) (off : BitVec 64) (consume : Bool) (buf : HostBuf) (s : State) : Out :=
  s.command (buf := buf) h (.echoRead h off consume buf) false [] (fun c s =>
    let a := off.toNat
    let ring := s.regionSize 12
    let n := buf.len
    if s.armed = false then s.complete c 0x17
    else if a % 64 ≠ 0 ∨ ring ≤ a ∨ 2 ^ 20 < n ∨ ring < n ∨ (consume ∧ s.stream ∧ n % 64 ≠ 0) then s.complete c 2
    else if s.ringReady a n = false then s.complete c 0x24
    else if buf.fault.any (fun f => Nat.blt f n) then s.complete c 0x33
    else
      let r := s.ringBytes a n
      let s := r.2.2
      if r.2.1 then s.complete c 0x22
      else
        let s := s.toHost c r.1
        let s := if consume && s.stream then s.put R.ECHO_RD_PTR F.ECHO_RD_PTR_OFFSET ((a + n) % ring / 64) else s
        s.complete c 0 (BitVec.ofNat 64 (s.reg R.ECHO_WR_PTR).toNat))

/-- ECHO_TRIGGER (R170): reports; FIRE makes the HOST input 1 for the first cycle whose T4 follows. -/
def execEchoTrigger (h : Hdr) (fire : Bool) (s : State) : Out :=
  s.command (cls := .prompt) h (.echoTrigger h fire) false [] (fun c s =>
    if s.armed = false then s.complete c 0x17
    else
      let s := if fire then { s with echo := { s.echo with hostTrig := true } } else s
      let tick := (s.reg R.ECHO_TRIG_TICK_LO).toNat + (s.reg R.ECHO_TRIG_TICK_HI).toNat * 2 ^ 32
      s.complete c 0 (BitVec.ofNat 64 ((s.reg R.ECHO_STATUS).toNat + s.shownStage * 2 ^ 32)) (BitVec.ofNat 64 tick))

/-- CLR_STRETCH (R166). -/
def execClrStretch (s : State) : Out := .next (s.setReg R.ECHO_STRETCH_COUNT 0)

/-- ECHO_CLR_LOST (R167): ECHO_LOST_COUNT and every gallery's LOST. -/
def execEchoClrLost (s : State) : Out :=
  .next ((List.range 64).foldl (fun s g => s.put (R.GAL_ECHO_STATUS g) F.GAL_ECHO_STATUS_LOST 0) (s.setReg R.ECHO_LOST_COUNT 0))

/-! Snapshots (R177 to R181). -/

/-- SNAPSHOT (R178, R181): due at the next or the targeted boundary, at once while halted. -/
def execSnapshot (h : Hdr) (slot : BitVec 8) (s : State) : Out :=
  s.command (cls := .long) h (.snapshot h slot) true chanBits (fun c s =>
    if s.armed = false then s.complete c 0x17
    else if s.fld R.ECHO_CTL F.ECHO_CTL_SNAP_SLOTS ≤ slot.toNat then s.complete c 0x19
    else if s.echo.snap.isSome then s.complete c 4
    else s.awaitCmd (.snapshot slot.toNat (s.echo.emuMask != 0)) h.target c)

/-- The galleries of the image. -/
def State.imageGals (s : State) : List Nat := (List.range 64).filter s.inImage

/-- IMAGE_DIGEST as bytes. -/
def State.imageDigest (s : State) : List Byte := (List.range 8).flatMap (fun k => leBytes 4 (s.reg (R.IMG_DIGEST k)).toNat)

/-- FOUR_STATE over the galleries of the image. -/
def State.fourSet (s : State) : Nat := bitSet (s.imageGals.filter s.four)

/-- The EMU regions of the snapshot mask as bytes in slot order. -/
def State.emuBytes (s : State) : NMap Byte :=
  (emuOf s.echo.emuMask).foldl (fun (acc : NMap Byte × Nat) n =>
    let lo := s.regionBase n
    let hi := lo + s.regionSize n
    (acc.1 ++ (s.mem.ds.filter (fun e => Nat.ble lo e.1 && Nat.blt e.1 hi)).map (fun e => (e.1 - lo + acc.2, e.2)),
      acc.2 + (hi - lo))) ([], 0) |>.1

/-- The bytes of the EMU regions named at arming. -/
def State.emuLen (s : State) : Nat := (emuOf s.echo.emuMask).foldl (fun n r => n + s.regionSize r) 0

/-- The pseudo-random states of the galleries of the image; the others read zero. -/
def State.imagePrng (s : State) : NMap Word :=
  NMap.setAll dZero32 [] ((s.imageGals.flatMap (fun g => (List.range 1024).map (fun i => g * 1024 + i))).map
    (fun b => (b, NMap.get dPrng s.fab.prng b)))

/-- Write zero over MAGIC and FLAGS of the slot at `a` (R179). -/
def State.clearMagic (s : State) (a : Nat) : State :=
  (s.dsWriteBytes a (List.replicate 4 0)).dsWriteBytes (a + 6) (List.replicate 2 0)

/-- What a snapshot captures is the state at this boundary, and what its header names of it; phase 1 begins (R177, R179,
R180). -/
def State.captureSnap (s : State) (slot : Nat) (emu : Bool) (c : Option CmdId) : State :=
  let job : SnapJob :=
    { phase := 1, slot := slot, emu := emu, cmd := c,
      ns := NMap.keep s.fab.nsPrev (fun k => s.inImage (k / 2097152)),
      prng := s.imagePrng,
      dm := NMap.keep s.mem.dm (fun k => s.inImage (k / 131072)),
      emuBytes := if emu then s.emuBytes else [],
      nextTick := s.sched.nextTick, time := s.time48, ctx := s.sched.ctx, forces := !s.fab.forces.isEmpty, dmUe := false,
      base := s.slotBase slot, emuLen := if emu then s.emuLen else 0, units := s.echo.slotUnits,
      mask := if emu then s.echo.emuMask else 0, gals := bitSet s.imageGals, four := s.fourSet, pace := s.pace,
      dev := s.devNum + s.fld R.LTC_ID F.LTC_ID_MAPPED * 2 ^ 15, digest := s.imageDigest }
  let s := { s with echo := { s.echo with snap := some job } }
  let s := s.onRecord (fun r => { r with flags := r.flags ||| 128 })
  let s := s.raise R.SNAP_STATUS F.SNAP_STATUS_SHADOW
  if emu && s.sched.running then s.haltAtEnd else s

/-- A snapshot is taken (R179): the slot's MAGIC and FLAGS become zero first. -/
def State.takeSnap (s : State) (slot : Nat) (emu : Bool) (c : Option CmdId) : State :=
  (s.clearMagic (s.slotBase slot)).captureSnap slot emu c

/-- SNAPSHOT_TAKE (R179, R181): a due snapshot is taken, unless an earlier one is in progress or Echo has
disarmed. -/
def execSnapshotTake (s : State) : Out :=
  match s.turn (fun a => match a with | .snapshot .. => true | _ => false) with
  | some p =>
    let s := s.dropPending p
    match p.act with
    | .snapshot slot emu =>
      if s.armed = false then .next (s.completeOpt p.cmd 0x17).afterBoundary
      else if s.echo.snap.isSome then
        .next (match p.cmd with
          | some c => s.complete c 4
          | none => s.put R.SNAP_STATUS F.SNAP_STATUS_RESULT 3).afterBoundary
      else .next (s.takeSnap slot emu p.cmd).afterBoundary
    | _ => .next s
  | none => .next s

/-- Change the snapshot in progress. -/
def State.setSnap (s : State) (j : SnapJob) : State := { s with echo := { s.echo with snap := some j } }

/-- SNAPSHOT_SHADOW_END (R179, R181): phase 1 ends; a reload in progress aborts what follows. -/
def execSnapshotShadowEnd (s : State) : Out :=
  match s.echo.snap with
  | some j =>
    if j.phase ≠ 1 then .next s
    else if s.fab.isolated.isEmpty = false then .next s.abortSnap
    else .next (((s.setSnap { j with phase := 2 }).put R.SNAP_STATUS F.SNAP_STATUS_SHADOW 0).raise R.SNAP_STATUS
      F.SNAP_STATUS_COPYING)
  | none => .next s

/-- What the engine's copy of the banks finds (R104): words with errors, uncorrectable ones copied as
stored. -/
def State.copyErrors (s : State) : Bool × State :=
  (s.mem.dmEcc.filter (fun e => s.inImage (e.1 / 131072))).foldl (fun acc e =>
    let r := acc.2.dmRead (e.1 / 8192) (e.1 % 8192) .engine 0
    (acc.1 || r.2.1, r.2.2)) (false, s)

/-- Phase 2 of snapshot `j` ends. -/
def State.copyEnd (s : State) (j : SnapJob) : State :=
  let r := s.copyErrors
  (((r.2.setSnap { j with phase := 3, dmUe := r.1 }).put R.SNAP_STATUS F.SNAP_STATUS_SHADOW 0).put R.SNAP_STATUS
    F.SNAP_STATUS_COPYING 0).raise R.SNAP_STATUS F.SNAP_STATUS_DRAINING

/-- SNAPSHOT_COPY_END (R179): phase 2 ends. -/
def execSnapshotCopyEnd (s : State) : Out :=
  match s.echo.snap with
  | some j => if j.phase ≠ 2 then .next s else .next (s.copyEnd j)
  | none => .next s

/-- A whole commit finishes the copy of a snapshot before it writes (R235 item 2). -/
def State.finishCopy (s : State) : State :=
  match s.echo.snap with
  | some j => if j.phase = 3 then s else s.copyEnd j
  | none => s

/-- The sections of a slot that CONTENT_DIGEST covers, as sparse bytes by offset in the slot (R180). -/
def snapSections (j : SnapJob) : NMap Byte :=
  let byteKeys := (j.ns.map (fun e => e.1 / 8)).eraseDups
  byteKeys.map (fun k => (0x10000 + k, byteOfBits ((List.range 8).map (fun i => NMap.get dFalse j.ns (8 * k + i))))) ++
  j.prng.flatMap (fun e => keyed (0x1010000 + 4 * e.1) (leBytes 4 e.2.toNat)) ++
  j.dm.flatMap (fun e => keyed (0x2000000 + 8 * e.1) (leBytes 8 e.2.toNat)) ++
  j.emuBytes.map (fun e => (0x6000000 + e.1, e.2))

/-- The covered ranges of a slot (R180): offset and length. -/
def coveredRanges (emuLen : Nat) : List (Nat × Nat) :=
  [(0x10000, 0x1000000), (0x1010000, 0x40000), (0x2000000, 0x4000000), (0x6000000, emuLen)]

/-- The covered bytes of the slot at `a`. -/
def State.covered (s : State) (a emuLen : Nat) : List Byte :=
  (coveredRanges emuLen).flatMap (fun r => s.dsBytes (a + r.1) r.2)

/-- The first 128 header bytes (R180). -/
def snapHeader (j : SnapJob) (digest : List Byte) : List Byte :=
  leBytes 4 0x534E4150 ++ leBytes 2 1 ++
  leBytes 2 (natOfBool j.emu + 2 + natOfBool j.forces * 4 + natOfBool j.dmUe * 8) ++
  leBytes 8 j.nextTick.toNat ++ leBytes 8 j.time ++ leBytes 1 j.ctx ++ leBytes 1 (natOfBool j.pace) ++
  leBytes 2 j.dev ++ leBytes 4 j.units ++ leBytes 8 j.gals ++ leBytes 8 j.four ++ j.digest ++ leBytes 2 j.mask ++ List.replicate 14 0 ++ digest

/-- SNAP_DONE (R179): the drain and digest end; the header is written last, with COMPLETE. -/
def execSnapDone (s : State) : Out :=
  match s.echo.snap with
  | some j =>
    if j.phase ≠ 3 then .next s
    else
      let a := j.base
      let len := j.emuLen
      let s := s.dsZero a (a + 0x6000000 + len)
      let s := (snapSections j).foldl (fun s e => s.dsPut (a + e.1) e.2) s
      let s := s.dsWriteUp a (snapHeader j (shake32 (s.covered a len)))
      let s := { s with echo := { s.echo with snap := none } }.snapEnded j.slot 1
      let s := (s.put R.SNAP_TICK_LO F.SNAP_TICK_LO_TICK j.nextTick.toNat).put R.SNAP_TICK_HI F.SNAP_TICK_HI_TICK
        (j.nextTick.toNat / 2 ^ 32)
      .next ((s.cicEvent 27).completeOpt j.cmd 0 (BitVec.ofNat 64 j.nextTick.toNat)).disarmIfIdle
  | none => .next s

/-- SNAPSHOT_ABORT (R181): a gallery powers down, begins a march or a reload during phase 2. -/
def execSnapshotAbort (s : State) : Out := .next s.abortSnapPhase2

/-! Restore (R182, R183). -/

/-- RESTORE (R182, R183): due at the next or the targeted boundary. The address lies in region 13 or in FREE
space. -/
def execRestore (h : Hdr) (addr : BitVec 64) (resume : Bool) (s : State) : Out :=
  s.command h (.restore h addr resume) true chanBits (fun c s =>
    let a := addr.toNat
    if s.hasImage = false then s.complete c 6
    else if a % 2 ^ 24 ≠ 0 ∨ 2 ^ 35 ≤ a ∨ !(s.inRegion 13 a || s.kindAt a == 0) then s.complete c 2
    else s.awaitCmd (.restore a resume) h.target c)

/-- What reading the snapshot finds (R116): each uncorrectable word is counted. -/
def State.readErrors (s : State) (a len : Nat) : State :=
  (s.mem.dsEcc.filter (fun e => Nat.ble a (e.1 * 8) && Nat.blt (e.1 * 8) (a + 0x6000000 + len))).foldl
    (fun s e => (s.dsRead e.1).2.2) s

/-- The EMU regions of a snapshot's mask, with its flag. -/
def snapEmu (hd : List Byte) : Nat := if (armNat hd 6 2).testBit 0 then armNat hd 0x50 2 else 0

/-- The EMU bytes of a snapshot (R178, R180): what SIZE counts beyond 96 MiB. -/
def snapEmuLen (hd : List Byte) : Nat := if (armNat hd 6 2).testBit 0 then (armNat hd 0x1C 4 - 6) * 2 ^ 24 else 0

/-- Why a snapshot at `a` cannot be restored (R182): a completion status. -/
def State.restoreFail (s : State) (a : Nat) : Option Nat :=
  let hd := s.dsBytes a 128
  let mask := snapEmu hd
  if armNat hd 0 4 ≠ 0x534E4150 ∨ armNat hd 4 2 ≠ 1 ∨ (armNat hd 6 2).testBit 1 = false then some 0x1A
  else if shake32 (s.covered a (snapEmuLen hd)) ≠ (hd.drop 0x60).take 32 then some 0x1B
  else if (hd.drop 0x30).take 32 ≠ s.imageDigest ∨ armNat hd 0x19 1 ≠ natOfBool s.pace ∨
      armNat hd 0x20 8 ≠ bitSet s.imageGals ∨ armNat hd 0x28 8 ≠ s.fourSet ∨
      (s.bit R.LTC_ID F.LTC_ID_MAPPED ∧ armNat hd 0x1A 2 ≠ s.devNum + 2 ^ 15) ∨
      !((List.range 16).all (fun n => !mask.testBit n || (emuRegions.contains n && s.bit (R.DS_REGION n) F.DS_REGION_VALID)))
    then some 0x1C
  else none

/-- A Deep Store range as sparse words of `n` bytes, by index. -/
def State.dsWords (s : State) (a len n : Nat) : List (Nat × Nat) :=
  (((s.mem.ds.filter (fun e => Nat.ble a e.1 && Nat.blt e.1 (a + len))).map (fun e => (e.1 - a) / n)).eraseDups).map
    (fun i => (i, leNat (s.dsBytes (a + i * n) n)))

/-- Load EMU region `n` from the snapshot bytes at `a`. -/
def State.loadEmu (s : State) (a n : Nat) : State :=
  let lo := s.regionBase n
  let len := s.regionSize n
  let bs := s.mem.ds.filter (fun e => Nat.ble a e.1 && Nat.blt e.1 (a + len))
  bs.foldl (fun s e => s.dsPut (lo + (e.1 - a)) e.2) (s.dsZero lo (lo + len))

/-- Restore steps 2 and 3 (R183): banks with fresh check bits, net stores, pseudo-random states, EMU regions. -/
def State.loadSnap (s : State) (a : Nat) : State :=
  let mine (n k : Nat) : Bool := !s.inImage (k / n)
  let ns := (s.dsWords (a + 0x10000) 0x1000000 1).flatMap (fun e => keyed (8 * e.1) ((List.range 8).map e.2.testBit))
  let pr := (List.range 65536).map (fun b => (b, BitVec.ofNat 32 (leNat (s.dsBytes (a + 0x1010000 + 4 * b) 4))))
  let dm := (s.dsWords (a + 0x2000000) 0x4000000 8).map (fun e => (e.1, BitVec.ofNat 64 e.2))
  let own {α : Type} (n : Nat) (l : List (Nat × α)) : List (Nat × α) := l.filter (fun e => s.inImage (e.1 / n))
  let mask := snapEmu (s.dsBytes a 128)
  let s := { s with
    fab := { s.fab with
      nsPrev := NMap.setAll dFalse (NMap.keep s.fab.nsPrev (mine 2097152)) (own 2097152 ns),
      nsCur := [], nsTag := [], nsPrevTag := [], nsBad := NMap.keep s.fab.nsBad (mine 2097152),
      prng := NMap.setAll dPrng s.fab.prng (own 1024 pr), chain := [] },
    mem := { s.mem with
      dm := NMap.setAll dZero64 (NMap.keep s.mem.dm (mine 131072)) (own 131072 dm),
      dmEcc := NMap.keep s.mem.dmEcc (mine 131072),
      drip := s.mem.drip.filter (fun e => !s.inImage (e.1 / 16)),
      dripBack := s.mem.dripBack.filter (fun e => !s.inImage (e.1 / 16)) } }
  ((emuOf mask).foldl (fun (acc : State × Nat) n =>
    (acc.1.loadEmu (a + 0x6000000 + acc.2) n, acc.2 + acc.1.regionSize n)) (s, 0)).1

/-- Forces against the restored tick count (R175, R183): those in force stay in force, one that named a tick already past
is cancelled, one without a target keeps its distance from the boundary; deposits are discarded. -/
def State.restoreForces (s : State) (old new : BitVec 64) : State :=
  let s := s.cancelForces (s.fab.forces.filter (fun e => e.deposit))
  let es := s.fab.forces.filter (fun e => !e.deposit)
  let moved (c : ForceChange) : ForceChange := if c.free && !c.tick.ule old then { c with tick := new + (c.tick - old) } else c
  let lost (c : ForceChange) : Bool := !c.free && !c.tick.ule old && c.tick.ult new
  let s := (es.flatMap (fun e => e.changes.filter lost)).foldl (fun s c => s.completeOpt c.cmd 0x2B) s
  let keep (e : ForceEntry) : ForceEntry :=
    { e with changes :=
        (match (e.changes.filter (fun c => c.tick.ule old)).getLast? with | some c => [{ c with tick := 0 }] | none => []) ++
        (e.changes.filter (fun c => !c.tick.ule old && !lost c)).map moved }
  { s with fab := { s.fab with forces := (es.map keep).filter (fun e => !e.changes.isEmpty) } }

/-- Pending targeted actions against the restored tick count (R183). -/
def State.restoreTargets (s : State) (new : BitVec 64) : State :=
  let settle (p : Pending) : Pending :=
    if s.isDue p ∨ p.target = some new then { p with now := true, target := none }
    else if p.act == .joinRegion && p.target.any (fun t => t.ult new) then { p with target := none }
    else p
  let s := { s with sched := { s.sched with pending := s.sched.pending.map settle } }
  s.cancelPending (fun p => !p.now && (match p.target with | some t => t.ult new | none => false))

/-- The lattice records of the abandoned run go with a restore. DESIGN CHOICE (log 52): buffered slot flits, DONE, HOLD,
RELEASE, flood records and the pending late halt are forgotten, so that no value of another tick lands (R153). -/
def State.dropRun (s : State) : State :=
  { s with psg := { s.psg with
      early := [], got := [], closed := [], txVals := [], forwards := [], doneFrom := [], holds := [], holdsSent := [],
      releases := [], seen := [], decided := none, haltBefore := none, startAt := none, marked := false } }

/-- RESTORE_APPLY (R182, R183): a due restore halts the device, verifies the snapshot and loads it; a snapshot
that fails leaves the device halted and unchanged. -/
def execRestoreApply (s : State) : Out :=
  match s.turn (fun a => match a with | .restore .. => true | _ => false) with
  | some p =>
    match p.act with
    | .restore a resume =>
      let s := s.dropPending p
      let s := if s.sched.running then s.haltNow else s
      if s.hasImage = false then .next (s.completeOpt p.cmd 6).afterBoundary
      else
        let s := s.readErrors a (snapEmuLen (s.dsBytes a 128))
        match s.restoreFail a with
        | some st => .next (s.completeOpt p.cmd st).afterBoundary
        | none =>
          let hd := s.dsBytes a 128
          let new := BitVec.ofNat 64 (armNat hd 8 8)
          let old := s.sched.nextTick
          let s := ((s.loadSnap a).restoreForces old new).restoreTargets new |>.dropRun
          let s := s.put R.DEVICE_STATE F.DEVICE_STATE_CONTEXT (armNat hd 0x18 1)
          let again := !s.bit R.ECHO_STATUS F.ECHO_STATUS_FROZEN
          .next { s with
            sched := { s.sched with
              nextTick := new, ctx := armNat hd 0x18 1, restored := true, engine := true, restoreCmd := p.cmd,
              restoreResume := resume, restoreBusy := true },
            echo := { s.echo with stage := if again then 0 else s.echo.stage, count := if again then 0 else s.echo.count,
                                  stageDue := s.echo.stageDue && !again },
            rim := { s.rim with restorePulse := 4 } }
    | _ => .next s
  | none => .next s

/-- RESTORE_END (R183): the restore's halt ends; with RESUME the device runs as on a run command, which a
device of a lattice refuses (R263). -/
def execRestoreEnd (s : State) : Out :=
  if s.sched.restoreBusy = false then .next s
  else
    let s := s.completeOpt s.sched.restoreCmd 0 (BitVec.ofNat 64 s.sched.nextTick.toNat)
    .next ({ s with
      sched := { s.sched with engine := false, restoreBusy := false, restoreCmd := none, restoreResume := false,
                              resume := s.sched.resume || (s.sched.restoreResume && !s.inLattice) } }).afterBoundary

end Sys2Proof.Machine
end

