-- ==== Sys2Proof/Machine/RimChecks.lean ====
section
/-! DEFINITION. The Rimstone rules of verification, made on the configuration as the image would leave it (07,
R186 to R206, R211; 08, R230 step 4). -/

namespace Sys2Proof.Machine

/-- Is a pool index listed (R186)? -/
def poolListed (i : Nat) : Bool :=
  Nat.blt i 0x6C0 || (Nat.ble 0x700 i && Nat.blt i 0x7C0) || (Nat.ble 0x800 i && Nat.ble i 0x1420) ||
  (Nat.ble 0x1424 i && Nat.blt i 0x1434) || (Nat.ble 0x1480 i && Nat.ble i 0x1482) ||
  (Nat.ble 0x1500 i && Nat.blt i 0x1700)

/-- The banks that RIM_BANK would run: those of `banks`. -/
def bankList (banks : Nat) : List Nat := (List.range 8).filter (fun b => banks.testBit b)

/-- RIM_POOL. -/
def State.poolFail (s : State) (banks : List Nat) (global : Bool) (frames : List Byte) : Bool :=
  banks.any (fun b => (List.range 12).any (fun j => (List.range 40).any (fun i =>
    !poolListed (s.fld (R.BLK_IN (12 * b + j) i) F.BLK_IN_SRC)))) ||
  (global && ((List.range 4).any (fun p => !poolListed (Config.rimSerialIn frames p)) || (List.range 192).any (fun n => !poolListed (s.fld (R.RIM_PORT_IN n) F.RIM_PORT_IN_SRC)) ||
    (s.bit R.RIM_PW_CTXSEL F.RIM_PW_CTXSEL_ENABLE &&
      (!poolListed (s.fld R.RIM_PW_CTXSEL F.RIM_PW_CTXSEL_VALID_SRC) ||
       [0, 1, 2].any (fun i => !poolListed (s.fld R.RIM_PW_CTXSEL F.RIM_PW_CTXSEL_CTX_BASE + i))))))

/-- Frequency of clock tree `t` in kHz: its oscillator's, or the one that the image states; 0 when it does not
run. -/
def State.treeKhz (s : State) (frames : List Byte) (t : Nat) : Nat :=
  let o := R.RIM_CLK t
  if s.bit o F.RIM_CLK_ENABLE = false then 0
  else if s.fld o F.RIM_CLK_SRC_KIND = 0 then s.fld (R.RIM_OSC (s.fld o F.RIM_CLK_SRC)) F.RIM_OSC_FREQ_KHZ
  else Config.rimTreeKhz frames t

/-- The macrocells whose output a block of the pool signal reads: a macrocell, or the drivers of a wire. -/
def State.feeders (s : State) (sig : Nat) : List Nat :=
  if sig < 0x600 then [sig]
  else if 0x1500 ≤ sig ∧ sig < 0x1700 then
    match s.wireDriver ((sig - 0x1500) / 64) ((sig - 0x1500) % 64) with | some m => [m] | none => []
  else []

/-- The inputs that the PTs of macrocell `m` name. -/
def State.inputsOf (s : State) (m : Nat) : List Nat :=
  let k := m / 16
  let js := (List.range 64).filter (fun j => s.bit (R.BLK_PT_W2 k j) F.BLK_PT_W2_ENABLE &&
    s.fld (R.BLK_PT_W2 k j) F.BLK_PT_W2_OWNER == m % 16)
  ((List.range 40).filter (fun i => js.any (fun j => (s.ptTrue k j).testBit i || (s.ptComp k j).testBit i))).map
    (fun i => s.fld (R.BLK_IN k i) F.BLK_IN_SRC)

/-- COMB macrocells on the longest path into macrocell `m`; a combinational loop has no longest path and
counts the fuel. -/
def State.combDepth (s : State) : Nat → Nat → Nat
  | 0, _ => 0
  | n + 1, m =>
    ((s.inputsOf m).flatMap s.feeders).foldl (fun d f =>
      let e := if s.mcMode f = 0 then 1 + State.combDepth s n f else 0
      if d < e then e else d) 0

/-- RIM_TIMING (R190): a period of at least 1.6 ns for each of the d + 1 blocks of a path. -/
def State.timingFail (s : State) (frames : List Byte) : Bool :=
  s.mcs.any (fun m => s.mcMode m != 0 &&
    Nat.blt 625000 (s.treeKhz frames (s.fld (mcOff m) F.BLK_MC_CLK) * (s.combDepth 1537 m + 1)))

/-- Is pin `p` an output? -/
def State.pinIsOut (s : State) (p : Nat) : Bool := s.fld (R.RIM_PIN p) F.RIM_PIN_OE_SRC != 0

/-- RIM_CLOCK (R191, R211): a tree above 625 MHz, sourced from an output pin, or of a source that does not
exist (DEDUCED, log 54). -/
def State.clockFail (s : State) (frames : List Byte) : Bool :=
  (List.range 4).any (fun t =>
    let o := R.RIM_CLK t
    let src := s.fld o F.RIM_CLK_SRC
    s.bit o F.RIM_CLK_ENABLE &&
    (Nat.blt 625000 (s.treeKhz frames t) ||
     (match s.fld o F.RIM_CLK_SRC_KIND with
      | 0 => Nat.blt 3 src
      | 1 => Nat.ble 192 src || Nat.blt 1 (src % 24) || s.pinIsOut src
      | 2 => Nat.ble 1536 src
      | _ => true)))

/-- The largest pin rate at a VIO, in Mb/s (R196). -/
def vioRate : Nat → Nat
  | 1 => 10000 | 2 => 5000 | 3 => 2500 | 4 => 1250 | 5 => 625 | _ => 0

/-- RIM_RATE of a pin that is configured. -/
def State.rateFail (s : State) (frames : List Byte) (p : Nat) : Bool :=
  let b := p / 24
  let khz := s.treeKhz frames (s.fld (R.RIM_BANK b) F.RIM_BANK_IO_CLK)
  Nat.blt 4 (s.fld (R.RIM_PIN p) F.RIM_PIN_RATIO) ||
  Nat.blt (vioRate (s.fld (R.RIM_BANK_VIO b) F.RIM_BANK_VIO_VIO) * 1000) (s.ratio p * khz)

/-- RIM_VIO of bank `b` (R196). -/
def State.vioFail (s : State) (b : Nat) : Bool :=
  s.fld (R.RIM_BANK_VIO b) F.RIM_BANK_VIO_VIO != NMap.get dZero s.rim.vio b

/-- RIM_PAIR of pin `p` (R198). -/
def State.pairFail (s : State) (p : Nat) : Bool :=
  let o := R.RIM_PIN p
  let q := p / 2 * 2 + (1 - p % 2)
  (s.fld o F.RIM_PIN_DATA_SRC == 1 && Nat.blt 1 (s.ratio p)) ||
  (s.fld o F.RIM_PIN_DATA_SRC == 0 && s.ratio p == 16 && s.pinIsOut q && s.fld (R.RIM_PIN q) F.RIM_PIN_DATA_SRC == 0)

/-- RIM_INTERVAL (R202): a STREAM interval shorter than 12.8 ns. -/
def State.intervalFail (s : State) (frames : List Byte) : Bool :=
  s.bit R.RIM_PW_CFG F.RIM_PW_CFG_IN_MODE &&
  Nat.blt (s.fld R.RIM_PW_CFG F.RIM_PW_CFG_IN_ARG * 10000000)
    (128 * s.treeKhz frames (s.fld R.RIM_PW_CFG F.RIM_PW_CFG_PW_CLK))

/-- RIM_WIRE_DRIVERS (R206). -/
def State.wireFail (s : State) (b : Nat) : Bool :=
  (List.range 64).any (fun w => Nat.blt 1 ((List.range 192).filter (fun i =>
    s.bit (mcOff (b * 192 + i)) F.BLK_MC_WIRE_EN && s.fld (mcOff (b * 192 + i)) F.BLK_MC_WIRE_SEL == w)).length)

/-- The Rimstone rules in order, on a configuration with `banks` to run; `frames` are those of the global
region. -/
def State.rimFail (s : State) (banks : Nat) (global : Bool) (frames : List Byte) : Option ImgFail :=
  let bs := bankList banks
  let pins := bs.flatMap (fun b => (List.range 24).map (fun i => 24 * b + i))
  let say (r : Nat) (x : Bool) : Option ImgFail := if x then some { reason := r } else none
  firstOf [
    say 0x30 (s.poolFail bs global frames),
    say 0x31 (s.timingFail frames),
    say 0x32 ((!bs.isEmpty && !global) || s.clockFail frames),
    say 0x33 (pins.any (s.rateFail frames)),
    say 0x34 (bs.any s.vioFail),
    say 0x35 (pins.any s.pairFail),
    say 0x36 (global && s.intervalFail frames),
    say 0x37 (bs.any s.wireFail)]

/-- The Rimstone sections of a set of bodies. -/
def rimSecs (bodies : List (Sec × List Byte)) : List (Sec × List Byte) := bodies.filter (fun x => x.1.kind == 0x0D)

/-- The frames of the global region. -/
def globalFrames (bodies : List (Sec × List Byte)) : List Byte :=
  match bodies.find? (fun x => x.1.kind == 0x0D && x.1.unit == 0xFE) with | some x => x.2 | none => []

/-- The configuration as the image would leave it. -/
def State.rimCandidate (s : State) (bodies : List (Sec × List Byte)) : State :=
  let s := if s.hReload then s else (0xFE :: List.range 8).foldl State.clearRim s
  (rimSecs bodies).foldl (fun s x => s.writeFrames x.1.unit x.2) s

end Sys2Proof.Machine
end

