-- ==== Sys2Proof/Machine/Rimstone.lean ====
section
/-! DEFINITION. The meanings of the Rimstone rows: clock edges, pin words, contention, scrubbing, hard
blocks, serial ports, bank supplies (07, R189 to R212; 16, R393). -/

namespace Sys2Proof.Machine

/-! Clock edges (R189, R191, R197). -/

/-- Does clock tree `t` run (R191, R193, R211)? -/
def State.treeRuns (s : State) (t : Nat) : Bool :=
  let o := R.RIM_CLK t
  s.rimOn && s.bit o F.RIM_CLK_ENABLE &&
  (s.fld o F.RIM_CLK_SRC_KIND != 0 || s.bit (R.RIM_OSC (s.fld o F.RIM_CLK_SRC)) F.RIM_OSC_LOCKED)

/-- A register's edge (R189): after a reset it leaves reset at its count's end; D loads, T toggles. -/
def State.clockMc (s0 s : State) (m : Nat) : State :=
  let held := NMap.get dZero s0.rim.rstHeld m
  let rd := s0.pool
  if s0.mcReset rd m ∨ Nat.blt 0 s0.rim.commitPulse then s
  else if 0 < held then { s with rim := { s.rim with rstHeld := NMap.set dZero s.rim.rstHeld m (held - 1) } }
  else if s0.mcCe rd m then
    let old := NMap.get dFalse s0.rim.mc m
    let new := if s0.mcMode m = 1 then s0.mcSum rd m else (old != s0.mcSum rd m)
    { s with rim := { s.rim with mc := NMap.set dFalse s.rim.mc m new } }
  else s

/-- A latch closes (R189): it keeps what it showed. A reset hold counts down at its closing edge. -/
def State.closeLatch (s0 s : State) (m : Nat) : State :=
  let held := NMap.get dZero s0.rim.rstHeld m
  if s0.mcReset s0.pool m ∨ Nat.blt 0 s0.rim.commitPulse then s
  else if 0 < held then { s with rim := { s.rim with rstHeld := NMap.set dZero s.rim.rstHeld m (held - 1) } }
  else { s with rim := { s.rim with latched := NMap.set dFalse s.rim.latched m (s0.mcSum s0.pool m) } }

/-- Does tree `t` have this edge (R191)? A tree sourced from a pin or a macrocell follows its level. -/
def State.treeEdge (s : State) (t : Nat) (rising : Bool) : Bool :=
  let o := R.RIM_CLK t
  let src := s.fld o F.RIM_CLK_SRC
  let moves (level : Bool) : Bool := level == rising && s.rim.clkHigh.contains t != rising
  s.treeRuns t && (match s.fld o F.RIM_CLK_SRC_KIND with
    | 1 => moves (s.pinLevel src)
    | 2 => moves (s.pool src)
    | _ => true)

/-- The receiver of serial port `p` has a whole byte. -/
def State.rxByte (s : State) (p n : Nat) : State :=
  { s with rim := { s.rim with
      rxClk := NMap.set dZero s.rim.rxClk p 0, rxBits := NMap.set dZero s.rim.rxBits p 0,
      rxDone := NMap.set (fun _ => []) s.rim.rxDone p
        (NMap.get (fun _ => []) s.rim.rxDone p ++ [BitVec.ofNat 8 n]) } }

/-- One clock of tree 0 for the receiver of serial port `p` (R195): RXD or MISO comes from the pool. PRESUMED (log 8): a
UART samples in the middle of each bit, an SPI controller at the edge of SCK in the middle of each bit. -/
def State.spReceive (s0 s : State) (p : Nat) : State :=
  let ctl := R.SP_CTL p
  let line := natOfBool (s0.pool (Config.rimSerialIn s0.img.rimFrames p))
  let bits := s0.spBitClocks p
  let got := NMap.get dZero s0.rim.rxBits p
  let count (s : State) (n : Nat) : State := { s with rim := { s.rim with rxClk := NMap.set dZero s.rim.rxClk p n } }
  let take (s : State) (n : Nat) : State := { s with rim := { s.rim with rxBits := NMap.set dZero s.rim.rxBits p n } }
  if s0.bit ctl F.SP_CTL_MODE then
    let n := NMap.get dZero s0.rim.txClk p
    if (NMap.get (fun _ => []) s0.rim.tx p).isEmpty ∨ s0.spSent p ∨ n % bits ≠ bits / 2 then s
    else if n / bits = 7 then s.rxByte p (got * 2 + line)
    else take s (got * 2 + line)
  else
    let n := NMap.get dZero s0.rim.rxClk p
    let k := n / bits
    if n = 0 then (if line = 0 then count s 1 else s)
    else if n % bits ≠ bits / 2 then count s (n + 1)
    else if k = 0 then count s (if line = 1 then 0 else n + 1)
    else if k ≤ 8 then count (take s (got + line * 2 ^ (k - 1))) (n + 1)
    else if k = 9 ∧ s0.fld ctl F.SP_CTL_FORMAT ≠ 0 then count s (n + 1)
    else s.rxByte p got

/-- One clock of tree 0 for serial port `p`. -/
def State.spClock (s0 s : State) (p : Nat) : State :=
  if s0.bit (R.SP_CTL p) F.SP_CTL_ENABLE = false then s
  else
    let s := State.spReceive s0 s p
    if (NMap.get (fun _ => []) s0.rim.tx p).isEmpty ∨ s0.spSent p then s
    else { s with rim := { s.rim with txClk := NMap.set dZero s.rim.txClk p (NMap.get dZero s0.rim.txClk p + 1) } }

/-- One clock of tree 0: serial ports, pins without a clock tree, the pulses (R192, R195, R197). -/
def State.tree0Tick (s0 s : State) : State :=
  let s := [0, 1, 2, 3].foldl (State.spClock s0) s
  let s := ((List.range 192).filter s0.syncPin).foldl (State.stepSync s0) s
  { s with rim := { s.rim with commitPulse := s.rim.commitPulse - 1, restorePulse := s.rim.restorePulse - 1 } }

/-- One clock of the pin-word tree (R201, R202): it is counted, words that have arrived see their first edge, the strobe
ends; the STREAM sequence starts at the first edge after the COMMIT pulse. -/
def State.pwEdge (s : State) : State :=
  let n := s.rim.pwCount + 1
  let see (w : PinWord) : PinWord :=
    if w.seen.isNone && Nat.ble w.arrives s.sched.now then { w with seen := some n } else w
  let stream := s.bit R.RIM_PW_CFG F.RIM_PW_CFG_IN_MODE && s.rim.streamNext.isNone && s.rim.commitPulse == 0
  { s with rim := { s.rim with
      pwCount := n, outQ := s.rim.outQ.map see, strobe := false,
      streamNext := if stream then some (n + s.fld R.RIM_PW_CFG F.RIM_PW_CFG_IN_ARG) else s.rim.streamNext } }

/-- The edge itself (R189, R197). -/
def State.clockTree (s : State) (t : Nat) (rising : Bool) (samples : List (Fin 192 × BitVec 16)) : State :=
  let s0 := s
  let on (m : Nat) : Bool := s0.bankRuns (m / 192) && s0.fld (mcOff m) F.BLK_MC_CLK == t
  let mine := s0.mcs.filter (fun m => on m && rising != s0.bit (mcOff m) F.BLK_MC_CLK_INV)
  let opens := s0.mcs.filter (fun m => on m && rising == s0.bit (mcOff m) F.BLK_MC_CLK_INV && s0.mcMode m == 3)
  let s := (mine.filter (fun m => s0.mcMode m == 1 || s0.mcMode m == 2)).foldl (State.clockMc s0) s
  let s := opens.foldl (State.closeLatch s0) s
  let pins := if rising then (List.range 192).filter (fun p => s0.bankRuns (p / 24) &&
    s0.fld (R.RIM_BANK (p / 24)) F.RIM_BANK_IO_CLK == t) else []
  let s := pins.foldl (fun s p => State.clockPin s0 s samples p) s
  let s := if s0.fld R.RIM_PW_CFG F.RIM_PW_CFG_PW_CLK == t && rising then s.pwEdge else s
  let s := if t = 0 ∧ rising then State.tree0Tick s0 s else s
  let high := s.rim.clkHigh.filter (fun x => x != t)
  ({ s with rim := { s.rim with clkHigh := if rising then t :: high else high } }.usedN 4096).settle

/-- MACROCELL_CLOCK_EDGE (R189, R191, R192, R197): `samples` are the bits that outside drivers put on pins, which act at
once; then tree `t` has its edge, where its source makes one. -/
def execMacrocellClockEdge (t : Fin 4) (rising : Bool) (samples : List (Fin 192 × BitVec 16)) (s : State) : Out :=
  let s := if samples = [] then s else ((s.takeSamples samples).usedN 4096).settle
  if s.treeEdge t.val rising = false then .next s else .next (s.clockTree t.val rising samples)

/-! Pin words (R200 to R204). -/

/-- Has the last PINOUT step of the active context issued in this cycle (R200)? -/
def State.pinoutsDone (s : State) : Bool :=
  s.sched.phase != .steps ||
  !(s.fab.istore.any (fun e => s.takesSteps (e.1 / 1024 / 1024) &&
    Nat.ble (s.resultBase + s.sched.step) (e.1 % 1024) && Nat.blt (e.1 % 1024) (s.resultBase + s.schedLen) &&
    bitsOf 63 59 e.2.toNat == 0x0C))

/-- A pin word lost on the die-to-die link (R203). -/
def State.pwLost (s : State) (f : Field) : State :=
  ((s.bump R.RIM_PW_COUNT f).raise R.RIM_PW_STATUS F.RIM_PW_STATUS_LINK_LOST).detect 0x0B 9 0xFF

/-- A pin word as 64 bytes (R200): a header with tick count bits 15:0 and a CRC-32C, then v and k of each port. DESIGN
CHOICE (log 54): the header's places, which the spec does not give. -/
def pinWordBytes (tick : BitVec 64) (vals : NMap Nv) : List Byte :=
  let body := (List.range 48).map (fun i => byteOfBits ((List.range 4).flatMap (fun j =>
    let v := NMap.get dNv vals (4 * i + j)
    [v.v, v.k])))
  let head := leBytes 2 (tick.toNat % 65536) ++ leBytes 10 0
  head ++ leBytes 4 (crc32c (head ++ body)).toNat ++ body

/-- A pin word leaves, unless the link drops it (no `retries`) or is down (R200, R203, R212). It is at Rimstone after the
time of R203 and the periods of its retries, after every earlier word. -/
def State.leaveWord (s : State) (w : PinWord) (retries : Option Nat) : State :=
  match retries with
  | none => s.pwLost F.RIM_PW_COUNT_OUT_DROP
  | some delay =>
    if s.pwr.d2dRate = 0 then s.pwLost F.RIM_PW_COUNT_OUT_DROP else
    let due := s.sched.now + (if s.pwr.d2dRate = 32 then 48 else 60) + delay
    { s with rim := { s.rim with outQ := s.rim.outQ ++ [{ w with
        bytes := pinWordBytes w.tick w.vals,
        arrives := s.rim.outQ.foldl (fun n x => max n x.arrives) due,
        strobe := if w.tick != s.sched.curTick && !s.rim.strobeDue then some s.rim.strobeEdge else none }] } }

/-- PIN_WORD_SEND (R200, R203, R205): twelve periods after the last PINOUT step the outgoing word leaves;
`retries`: the periods that its retries take, none when the link drops it. -/
def execPinWordSend (retries : Option Nat) (s : State) : Out :=
  match s.rim.sendQ with
  | (ready, w) :: rest =>
    if s.sched.now < ready then .next s
    else .next ({ s with rim := { s.rim with sendQ := rest } }.leaveWord w retries)
  | [] =>
    match s.rim.lastPinout with
    | none => .next s
    | some p =>
      if s.pinoutsDone = false ∨ s.sched.now < p + 12 then .next s
      else .next ({ s with rim := { s.rim with lastPinout := none } }.leaveWord
        { tick := s.sched.curTick, vals := s.rim.outVals } retries)

/-- How many pins apply an X of this word (R199): DATA_SRC PORT, X, or a Z that OE_SRC does not release. -/
def State.countX (s : State) (vals : NMap Nv) : Nat :=
  ((List.range 192).filter (fun p =>
    let v := NMap.get dNv vals p
    s.fld (R.RIM_PIN p) F.RIM_PIN_DATA_SRC == 1 && s.bankRuns (p / 24) && !v.k &&
    !(v == Nv.z && s.fld (R.RIM_PIN p) F.RIM_PIN_OE_SRC == 3))).length

/-- The pin-word clock at which a word is applied, and whether an AT_TICK word is late (R201): the first after its arrival,
or the first at or after the strobe of the next cycle, plus OUT_OFFSET; one that has not arrived by then goes by its
arrival. -/
def State.wordDue (s : State) (w : PinWord) : Option (Nat × Bool) :=
  let off := s.fld R.RIM_PW_CFG F.RIM_PW_CFG_OUT_OFFSET
  match w.seen with
  | none => none
  | some e =>
    if s.bit R.RIM_PW_CFG F.RIM_PW_CFG_OUT_MODE then
      w.strobe.map (fun k => if k + 1 + off < e then (e + off, true) else (k + 1 + off, false))
    else some (e + off, false)

/-- The values of an outgoing word enter the pool, X applications counted (R199, R201). -/
def State.applyWord (s : State) (w : PinWord) (late : Bool) : State :=
  let s := s.bump R.RIM_PW_COUNT F.RIM_PW_COUNT_X_OUT (s.countX w.vals)
  let s := { s with rim := { s.rim with
    portV := (List.range 192).foldl (fun m n => NMap.set dFalse m n (NMap.get dNv w.vals n).v) s.rim.portV,
    portX := (List.range 192).foldl (fun m n => NMap.set dFalse m n (!(NMap.get dNv w.vals n).k)) s.rim.portX } }
  let s := if late then
    (s.bump R.RIM_PW_COUNT F.RIM_PW_COUNT_OUT_LATE).raise R.RIM_PW_STATUS F.RIM_PW_STATUS_OUT_LATE else s
  (s.usedN 256).settle

/-- PIN_WORD_APPLY (R201, R211): the oldest word is applied at its clock of the pin-word tree, `late` or in time as its
arrival makes it; an event that says otherwise does not occur. While the global region is unconfigured a word that arrives is
discarded. -/
def execPinWordApply (late : Bool) (s : State) : Out :=
  match s.rim.outQ with
  | [] => .next s
  | w :: rest =>
    let t := { s with rim := { s.rim with outQ := rest } }
    if s.rimOn = false then (if w.arrives ≤ s.sched.now then .next t else .next s)
    else match s.wordDue w with
      | none => .next s
      | some (n, l) => if s.rim.pwCount < n ∨ l ≠ late then .next s else .next (t.applyWord w late)

/-- TICK_STROBE (R203): the tick marker reaches Rimstone; the strobe is high for one clock of the pin-word
tree, and a TICK-mode sample is due. -/
def execTickStrobe (s : State) : Out :=
  if s.rim.strobeDue then
    let n := s.rim.pwCount
    let mark (w : PinWord) : PinWord :=
      if w.strobe.isNone && w.tick != s.sched.curTick then { w with strobe := some n } else w
    .next { s with rim := { s.rim with
      strobe := true, strobeDue := false, strobeEdge := n, inSampled := false, outQ := s.rim.outQ.map mark } }.settle
  else .next s

/-- The bank that a pool signal comes from (R186). -/
def poolBank (i : Nat) : Option Nat :=
  if i < 0x600 then some (i / 192)
  else if 0x800 ≤ i ∧ i < 0x1400 then some ((i - 0x800) / 384)
  else if 0x1500 ≤ i ∧ i < 0x1700 then some ((i - 0x1500) / 64)
  else none

/-- An input port (R202, R212): 0 while its source's bank does not run. -/
def State.portIn (s : State) (n : Nat) : Bool :=
  let i := s.fld (R.RIM_PORT_IN n) F.RIM_PORT_IN_SRC
  (match poolBank i with
   | some b => s.bankRuns b
   | none => true) && s.pool i

/-- The input word that the pool holds now (R202, R204). -/
def State.inputWord (s : State) : InWord :=
  let sel := R.RIM_PW_CTXSEL
  let en := s.bit sel F.RIM_PW_CTXSEL_ENABLE
  let base := s.fld sel F.RIM_PW_CTXSEL_CTX_BASE
  { vals := (List.range 192).foldl (fun m n => NMap.set dFalse m n (s.portIn n)) [],
    ctxValid := en && s.pool (s.fld sel F.RIM_PW_CTXSEL_VALID_SRC),
    ctx := if en then natOfBool (s.pool base) + natOfBool (s.pool (base + 1)) * 2 + natOfBool (s.pool (base + 2)) * 4 else 0,
    sampledAt := s.sched.now }

/-- Is an input sample due (R202): IN_OFFSET clocks after the strobe, once, or at the next of the STREAM sequence? -/
def State.sampleDue (s : State) : Bool :=
  if s.bit R.RIM_PW_CFG F.RIM_PW_CFG_IN_MODE then (match s.rim.streamNext with
    | some n => Nat.ble n s.rim.pwCount
    | none => false)
  else !s.rim.inSampled && Nat.ble (s.rim.strobeEdge + s.fld R.RIM_PW_CFG F.RIM_PW_CFG_IN_ARG) s.rim.pwCount

/-- INPUT_WORD_SAMPLE (R202, R205, R211): in TICK mode once per strobe, in STREAM mode at each interval; none
while the global region is unconfigured. -/
def execInputWordSample (s : State) : Out :=
  if s.rimOn = false ∨ s.treeRuns (s.fld R.RIM_PW_CFG F.RIM_PW_CFG_PW_CLK) = false ∨ s.sampleDue = false then .next s
  else
    let arg := s.fld R.RIM_PW_CFG F.RIM_PW_CFG_IN_ARG
    .next ({ s with rim := { s.rim with
      inFlight := s.rim.inFlight ++ [s.inputWord], inSampled := true,
      streamNext := s.rim.streamNext.map (fun n => n + arg) } }.usedN 256)

/-- INPUT_WORD_COMPLETE (R202 to R204): the oldest sampled word is written whole into the fabric-side pin
register, or the link drops it or is down. PIN_FRESH sees a word sampled after the cycle's tick (R78). -/
def execInputWordComplete (dropped : Bool) (s : State) : Out :=
  match s.rim.inFlight with
  | [] => .next s
  | w :: rest =>
    let s := { s with rim := { s.rim with inFlight := rest } }
    if s.rimOn = false then .next s
    else if dropped ∨ s.pwr.d2dRate = 0 then .next (s.pwLost F.RIM_PW_COUNT_IN_DROP)
    else
      let s := { s with rim := { s.rim with inWord := some w } }.raise R.RIM_PW_STATUS F.RIM_PW_STATUS_IN_SEEN
      let fresh := Nat.blt s.sched.tickPeriod w.sampledAt && s.sched.pinFreshAt.isNone
      .next { s with sched := { s.sched with pinFreshAt := if fresh then some s.sched.now else s.sched.pinFreshAt } }

/-! Contention and scrubbing (R207 to R210). -/

/-- How many macrocells' configurations drive wire `w` of bank `b`, upsets included (R207). -/
def State.wireCount (s : State) (b w : Nat) : Nat :=
  ((List.range 192).filter (fun i => s.bit (mcOff (b * 192 + i)) F.BLK_MC_WIRE_EN &&
    s.fld (mcOff (b * 192 + i)) F.BLK_MC_WIRE_SEL == w)).length + NMap.get dZero s.rim.extraDriver (b * 64 + w)

/-- RIM_WIRE_STATUS for the disabled wires: ACTIVE and the first of them. -/
def State.wireStatus (s : State) : State :=
  let o := R.RIM_WIRE_STATUS
  match s.rim.wiresOff with
  | [] => s.put o F.RIM_WIRE_STATUS_ACTIVE 0
  | w :: _ => ((s.put o F.RIM_WIRE_STATUS_ACTIVE 1).put o F.RIM_WIRE_STATUS_BANK (w.1 / 64)).put o
      F.RIM_WIRE_STATUS_WIRE (w.1 % 64)

/-- The bank whose region holds a frame, as a detector unit: 0xFF for the global region (R208, R369). -/
def frameUnit (f : Nat) : Nat := if f < 128 then 0xFF else (f - 128) / 128

/-- WIRE_CONTENTION (R207): a configuration upset makes one more macrocell drive wire `w` of bank `b`; with
more than one driver the wire is disabled, shows its keeper, and the condition is recorded. -/
def execWireContention (b : Bank) (w : Fin 64) (s : State) : Out :=
  let k := b.val * 64 + w.val
  let s := { s with rim := { s.rim with
    extraDriver := NMap.set dZero s.rim.extraDriver k (NMap.get dZero s.rim.extraDriver k + 1),
    frameBad := NMap.set dGood s.rim.frameBad (128 + 128 * b.val) .double } }
  if s.wireCount b.val w.val ≤ 1 ∨ s.rim.wiresOff.any (fun x => x.1 == k) then .next s
  else
    let s := { s with rim := { s.rim with wiresOff := s.rim.wiresOff ++ [(k, 0)] } }
    .next (((s.raise R.RIM_WIRE_STATUS F.RIM_WIRE_STATUS_SEEN).wireStatus).detect 0x0B 0 b.val [BitVec.ofNat 8 w.val])

/-- RIM_SCRUB_LOC keeps the first rewrite or fault. -/
def State.scrubLoc (s : State) (f : Nat) : State :=
  if s.bit R.RIM_SCRUB_LOC F.RIM_SCRUB_LOC_VALID then s
  else (s.put R.RIM_SCRUB_LOC F.RIM_SCRUB_LOC_FRAME f).raise R.RIM_SCRUB_LOC F.RIM_SCRUB_LOC_VALID

/-- One frame of a pass (R209). -/
def State.scrubFrame (mapsBad : Bool) (golden : List Nat) (s : State) (f : Nat) : State :=
  match NMap.get dGood s.rim.frameBad f with
  | .good => s
  | .single =>
    let s := { s with rim := { s.rim with frameBad := NMap.set dGood s.rim.frameBad f .good } }
    (s.bump R.RIM_SCRUB_STATUS F.RIM_SCRUB_STATUS_CORRECTED).detect 0x0B 2 (frameUnit f)
  | .double =>
    if mapsBad then s
    else if golden.contains f then
      ((s.raise R.RIM_STATUS F.RIM_STATUS_SCRUB_FAULT).scrubLoc f).detect 0x0B 5 (frameUnit f)
    else
      let b := (f - 128) / 128
      let s := { s with rim := { s.rim with
        frameBad := NMap.set dGood s.rim.frameBad f .good,
        extraDriver := if 128 ≤ f then NMap.keep s.rim.extraDriver (fun k => k / 64 != b) else s.rim.extraDriver } }
      ((s.bump R.RIM_SCRUB_STATUS F.RIM_SCRUB_STATUS_REWRITES).scrubLoc f).detect 0x0B 3 (frameUnit f)

/-- WIRE_RECHECK (R207): at the end of a pass each disabled wire is counted again; one that three passes found contended
stays disabled until a commit. -/
def State.recheckWire (s : State) (w : Nat × Nat) : State :=
  let without := s.rim.wiresOff.filter (fun x => x.1 != w.1)
  if 3 ≤ w.2 then s
  else if s.wireCount (w.1 / 64) (w.1 % 64) ≤ 1 then { s with rim := { s.rim with wiresOff := without } }
  else
    let s := { s with rim := { s.rim with
      wiresOff := s.rim.wiresOff.map (fun x => if x.1 = w.1 then (x.1, x.2 + 1) else x) } }
    if w.2 + 1 = 3 then (s.raise R.RIM_WIRE_STATUS F.RIM_WIRE_STATUS_STUCK).detect 0x0B 1 (w.1 / 64)
      [BitVec.ofNat 8 (w.1 % 64)] else s

/-- The armed points of the scrubber (R369): the first frame of a bank, or frame 0. -/
def State.scrubInject (s : State) (code unit : Nat) (e : EccMark) : State :=
  if s.isArmed 0x0B code unit then
    let f := if unit = 0xFF then 0 else 128 + 128 * unit
    { s with rim := { s.rim with frameBad := NMap.set dGood s.rim.frameBad f e } }.useArmed 0x0B code unit
  else s

/-- RIM_SCRUB_CTL as the scrubber reads it (R210): the majority of its three copies, each the register with a deviation. -/
def State.scrubCtl (s : State) : Word :=
  let copy (i : Nat) : Word := s.reg R.RIM_SCRUB_CTL ^^^ s.rim.scrubDev.getD i 0
  (copy 0 &&& copy 1) ||| (copy 0 &&& copy 2) ||| (copy 1 &&& copy 2)

/-- INTERVAL in milliseconds; 0 acts as 2. -/
def State.scrubInterval (s : State) : Nat :=
  let n := F.RIM_SCRUB_CTL_INTERVAL.of s.scrubCtl
  if n = 0 then 2 else n

/-- An upset makes one copy disagree; within one clock it is corrected and counted (R210). -/
def State.voteFix (s : State) : State :=
  let s := { s with rim := { s.rim with scrubDev := [1, 0, 0] } }
  let bad := (s.rim.scrubDev.filter (fun w => w != 0)).length
  let s := { s with rim := { s.rim with scrubDev := [0, 0, 0] } }
  (s.bump R.RIM_SCRUB_STATUS F.RIM_SCRUB_STATUS_VOTE_FIX bad).detect 0x0B 7 0xFF

/-- The active golden area (R208). -/
def State.goldenArea (s : State) : GoldenArea := s.flash.golden.getD s.img.golden ⟨[], []⟩

/-- Does a copy of the region map pass its CRC-32C (R208)? An area never written lists no region. -/
def mapCopyOk (m : List Byte) : Bool := m.isEmpty || (crc32c (m.take 36)).toNat == leNat (m.drop 36)

/-- SCRUB_PASS (R209, R210): one pass over every configuration frame; `x` says what upsets have come and what the pass
meets in the flash. -/
def execScrubPass (x : ScrubFinding) (s : State) : Out :=
  let s := (List.range x.votes.val).foldl (fun s _ => s.voteFix) s
  if F.RIM_SCRUB_CTL_ENABLE.of s.scrubCtl = 0 then .next s
  else
    let s := ([0, 1, 2, 3, 4, 5, 6, 7, 0xFF]).foldl (fun s u => (s.scrubInject 2 u .single).scrubInject 3 u .double) s
    let mark (e : EccMark) (s : State) (f : Fin 1152) : State :=
      { s with rim := { s.rim with frameBad := NMap.set dGood s.rim.frameBad f.val e } }
    let s := x.multi.foldl (mark .double) (x.single.foldl (mark .single) s)
    let maps := s.goldenArea.maps
    let mapsBad := x.mapBad.val == 2 || !(maps.isEmpty || maps.any mapCopyOk)
    let s := (s.rim.frameBad.map (fun e => e.1)).foldl (State.scrubFrame mapsBad (x.golden.map (fun f => f.val))) s
    let s := if mapsBad then s.detect 0x0B 4 0xFF else s
    let p := s.fld R.RIM_SCRUB_STATUS F.RIM_SCRUB_STATUS_PASSES
    let s := s.put R.RIM_SCRUB_STATUS F.RIM_SCRUB_STATUS_PASSES ((p + 1) % 65536)
    let s := { s with rim := { s.rim with scrubAt := s.sched.now } }
    .next (s.rim.wiresOff.foldl State.recheckWire s).wireStatus

/-- SCRUB_STALL (R210): PASSES has not advanced within 3 × INTERVAL + 2 ms: Lantern logs it and resets the sequencer, which
starts afresh. -/
def execScrubStall (s : State) : Out :=
  if s.sched.now < s.rim.scrubAt + (3 * s.scrubInterval + 2) * 1500000 then .next s
  else .next ({ s with rim := { s.rim with scrubAt := s.sched.now } }.raise R.RIM_STATUS F.RIM_STATUS_SCRUB_FAULT |>.detect 0x0B 6 0xFF)

/-! Hard blocks (R192 to R195). -/

/-- OSC_LOCK (R193): oscillator `k`, enabled by the committed image, locks and its tree starts. -/
def execOscLock (k : Fin 4) (s : State) : Out :=
  if s.rimOn && s.bit (R.RIM_OSC k.val) F.RIM_OSC_ENABLE then .next (s.raise (R.RIM_OSC k.val) F.RIM_OSC_LOCKED)
  else .next s

/-- SW_RESET (R192): a write of RIM_CTL.SW_RESET_r. -/
def execSwReset (r : Fin 2) (v : Bool) (s : State) : Out :=
  .next ((s.put R.RIM_CTL ⟨r.val, r.val⟩ (natOfBool v)).usedN 256).settle

/-- The default word of the user flash: erased (R194; log 6). -/
def dErased (_ : Nat) : Word := 0xFFFFFFFF

/-- FABRIC_FLASH_READ (R194): a rising read strobe on input 17 of block 95 samples the word address on
inputs 0 to 16. -/
def execFabricFlashRead (s : State) : Out :=
  if s.bankRuns 7 && s.blkIn s.pool 95 17 && !s.rim.uflStrobe then
    let a := (List.range 17).foldl (fun n i => n + natOfBool (s.blkIn s.pool 95 i) * 2 ^ i) 0
    .next ({ s with rim := { s.rim with uflStrobe := true, uflRead := some a, uflValid := false } }.usedN 256)
  else .next s

/-- FLASH_DATA_VALID (R194): the read ends once no program or erase is in progress. -/
def execFlashDataValid (s : State) : Out :=
  match s.rim.uflRead, s.rim.uflOp with
  | some a, .idle =>
    .next { s with rim := { s.rim with uflRead := none, uflOut := NMap.get dErased s.rim.ufl a, uflValid := true } }.settle
  | _, _ => .next s

/-- Start a host operation of the user flash (R194), or drop it and log UFL_BUSY. -/
def State.uflStart (s : State) (op : UflOp) : State :=
  if s.rim.uflOp = .idle then
    { s with rim := { s.rim with uflOp := op } }.raise R.UFL_CTL F.UFL_CTL_BUSY
  else s.detect 0x0B 8 0xFF

/-- UFL_PROGRAM (R194): a write of UFL_CTL.PROGRAM. -/
def execUflProgram (s : State) : Out :=
  .next (s.uflStart (.program (s.fld R.UFL_ADDR F.UFL_ADDR_WORD) (s.reg R.UFL_DATA)))

/-- UFL_ERASE (R194): a write of UFL_CTL.ERASE. -/
def execUflErase (s : State) : Out := .next (s.uflStart (.erase (s.fld R.UFL_ADDR F.UFL_ADDR_WORD / 1024)))

/-- UFL_OP_END (R194): the program or erase completes. -/
def execUflOpEnd (s : State) : Out :=
  let s' := s.put R.UFL_CTL F.UFL_CTL_BUSY 0
  match s.rim.uflOp with
  | .idle => .next s
  | .erase k => .next { s' with rim := { s'.rim with uflOp := .idle, ufl := NMap.keep s'.rim.ufl (fun w => w / 1024 != k) } }
  | .program w d => .next { s' with rim := { s'.rim with uflOp := .idle, ufl := NMap.set dErased s'.rim.ufl w d } }

/-- The default of byte queues. -/
def dNoBytes (_ : Nat) : List Byte := []

/-- SP_DATA_WRITE (R195): queue a byte, or drop it with TX_OVF. -/
def execSpDataWrite (p : Sp) (b : Byte) (s : State) : Out :=
  let q := NMap.get dNoBytes s.rim.tx p.val
  if q.length < 64 then .next { s with rim := { s.rim with tx := NMap.set dNoBytes s.rim.tx p.val (q ++ [b]) } }.settle
  else .next (s.raise (R.SP_STATUS p.val) F.SP_STATUS_TX_OVF).settle

/-- SP_DATA_READ (R195): the oldest received byte, or 0 when there is none. -/
def execSpDataRead (p : Sp) (s : State) : Out :=
  match NMap.get dNoBytes s.rim.rx p.val with
  | [] => .next (s.reply (.data [0]))
  | b :: t => .next ({ s with rim := { s.rim with rx := NMap.set dNoBytes s.rim.rx p.val t } }.settle.reply
      (.data [BitVec.ofNat 32 b.toNat]))

/-- SERIAL_BYTE_RECEIVE (R195): the byte `b` that the receiver has shifted in enters the FIFO, or is dropped with RX_OVF;
another byte than the one shifted in does not come. -/
def execSerialByteReceive (p : Sp) (b : Byte) (s : State) : Out :=
  match NMap.get dNoBytes s.rim.rxDone p.val with
  | [] => .next s
  | x :: more =>
    if x ≠ b then .next s else
    let s := { s with rim := { s.rim with rxDone := NMap.set dNoBytes s.rim.rxDone p.val more } }
    let q := NMap.get dNoBytes s.rim.rx p.val
    if q.length < 64 then .next { s with rim := { s.rim with rx := NMap.set dNoBytes s.rim.rx p.val (q ++ [b]) } }.settle
    else .next (s.raise (R.SP_STATUS p.val) F.SP_STATUS_RX_OVF).settle

/-- SERIAL_BYTE_TRANSMIT (R195): the oldest byte, once all bits of its frame are out, leaves the FIFO; a deferred SP_CTL write applies when
the FIFO is then empty. -/
def execSerialByteTransmit (p : Sp) (s : State) : Out :=
  if s.bit (R.SP_CTL p.val) F.SP_CTL_ENABLE = false ∨ s.spSent p.val = false then .next s
  else match NMap.get dNoBytes s.rim.tx p.val with
    | [] => .next s
    | _ :: t =>
      let s := { s with rim := { s.rim with tx := NMap.set dNoBytes s.rim.tx p.val t, txClk := NMap.set dZero s.rim.txClk p.val 0 } }
      match t, s.rim.spDefer.find? (fun d => d.1 == p.val) with
      | [], some d =>
        .next ({ s with rim := { s.rim with spDefer := s.rim.spDefer.filter (fun x => x.1 != p.val) } }.setReg
          (R.SP_CTL p.val) d.2).settle
      | _, _ => .next s.settle

/-- RIM_PW_COUNT_CLEAR (R201). -/
def execRimPwCountClear (s : State) : Out := .next (s.setReg R.RIM_PW_COUNT 0)

/-- BANK_VIO_CHANGE (R212, R393): the measured VIO of bank `b` becomes `v` (0 none; 1 to 5 as
RIM_BANK_VIO). Without VIO the bank's pins are undriven and its registers, wires and ports are held at
0. -/
def execBankVioChange (b : Bank) (v : Fin 6) (s : State) : Out :=
  let s := { s with rim := { s.rim with vio := NMap.set dZero s.rim.vio b.val v.val } }
  let s := if v.val = 0 then s.clearBank b.val else s
  .next ((s.setVioOk b.val).usedN 256).settle

end Sys2Proof.Machine
end

