-- ==== Sys2Proof/Machine/Stage.lean ====
section
/-! DEFINITION. Staging and verification of images: the commands IMAGE_STAGE to CHAIN_TIMEOUT (08, R224 to R232,
R242; 05, R155). -/

namespace Sys2Proof.Machine

/-! The staged image's state (R228). -/

/-- IMG_STATUS.STATE. -/
def State.imgState (s : State) : Nat := s.fld R.IMG_STATUS F.IMG_STATUS_STATE

/-- Change IMG_STATUS.STATE; each change is an IMAGE event (R320). The profile that IDENT reports changes as the staged
image becomes VERIFIED or ceases to be (R144). -/
def State.setImgState (s : State) (n : Nat) : State :=
  if s.imgState = n then s
  else
    let t := (s.put R.IMG_STATUS F.IMG_STATUS_STATE n).cicEvent 40
    if s.imgState = 4 ∨ n = 4 then t.sendIdents else t

/-- Does an accepted commit or reload wait for its boundary and hold the staged image (R228)? -/
def State.imgHeld (s : State) : Bool :=
  s.sched.pending.any (fun p => match p.act with | .commit .. | .reload .. => true | _ => false)

/-- IMG_PROGRESS. -/
def State.setProgress (s : State) (n : Nat) : State :=
  (s.put R.IMG_PROGRESS_LO F.IMG_PROGRESS_LO_BYTES n).put R.IMG_PROGRESS_HI F.IMG_PROGRESS_HI_BYTES (n / 2 ^ 32)

/-- IMG_REASON, IMG_SECTION and IMG_LOC of a failure at chain position `pos`. -/
def State.setReason (s : State) (f : ImgFail) (pos : Nat) : State :=
  let s := ((s.put R.IMG_REASON F.IMG_REASON_CODE f.reason).put R.IMG_REASON F.IMG_REASON_POSITION pos).put R.IMG_REASON
    F.IMG_REASON_SECTION_HI (f.sec / 4096)
  let s := (s.put R.IMG_SECTION F.IMG_SECTION_INDEX_LO f.sec).setReg R.IMG_LOC 0
  match f.loc with
  | none => s
  | some (g, c, b, x, t) =>
    (((((s.raise R.IMG_LOC F.IMG_LOC_VALID).put R.IMG_LOC F.IMG_LOC_GALLERY g).put R.IMG_LOC F.IMG_LOC_CHAMBER c).put
      R.IMG_LOC F.IMG_LOC_BP b).put R.IMG_LOC F.IMG_LOC_CONTEXT x).put R.IMG_LOC F.IMG_LOC_STEP t

/-- Discard the staged image (R228): regions 14 and 15 are released. -/
def State.discard (s : State) : State :=
  let s := (s.releaseRegion 14).releaseRegion 15
  { s with img := { s.img with bytes := [], received := 0, length := 0, declared := 0, headerOk := false, spaceOk := false,
                               cmd := none, measurement := [], nextOff := 0, stream := none, written := 0,
                               waiting := false, results := [], verifyCmd := none } }

/-- The staged image is gone: EMPTY. -/
def State.toEmpty (s : State) : State :=
  (((s.discard.put R.IMG_STATUS F.IMG_STATUS_CHAINED 0).put R.IMG_STATUS F.IMG_STATUS_RELOAD 0).setProgress 0).setImgState 0

/-- Is this device a chain member that stages from chain-in? -/
def State.fromChain (s : State) : Bool := s.bit R.IMG_STATUS F.IMG_STATUS_SOURCE

/-- Report a result to the head with its location (R227, R232, R240): 0 stage, 1 verify, 2 commit. -/
def State.report (s : State) (kind reason : Nat) (loc : Word := 0) : State :=
  { s with img := { s.img with toHead := s.img.toHead ++ [(kind, reason, loc)] } }

/-- A stage ends with a failure (R226 to R229): FAILED, the data discarded, the reason reported; what is left of the
stream is still forwarded (R227). -/
def State.stageFail (s : State) (reason : Nat) : State :=
  let c := s.img.cmd
  let rest := s.img.stream
  let s := if s.fromChain then s.report 0 reason else s
  let s := (s.discard.setReason { reason := reason } s.chainPos).setImgState 5
  let s := { s with img := { s.img with stream := rest } }
  (s.detect 0x0E 0 0 [BitVec.ofNat 8 reason]).completeOpt c 8 0 0 reason

/-! Starting a stage (R224 to R228). -/

/-- Stage regions as base and size of region 14 and of region 15, in units of 16 MiB. -/
structure StageRegs where
  b14 : Nat
  s14 : Nat
  b15 : Nat
  s15 : Nat
deriving DecidableEq, Repr

/-- Is a stage region unusable (R118)? -/
def StageRegs.unusable (r : StageRegs) : Bool :=
  r.s14 == 0 || r.s15 == 0 || Nat.blt 2048 (r.b14 + r.s14) || Nat.blt 2048 (r.b15 + r.s15)

/-- Would the stage regions overlap a valid region, or each other (R118)? -/
def State.stageOverlap (s : State) (r : StageRegs) : Bool :=
  s.overlaps r.b14 r.s14 [14, 15] || s.overlaps r.b15 r.s15 [14, 15] ||
  (Nat.blt r.b14 (r.b15 + r.s15) && Nat.blt r.b15 (r.b14 + r.s14))

/-- The bytes that the host buffer of a stage holds (R261): its length, or with SGL those of the (address, length) pairs of
its list. DEDUCED (log 19): fewer than 16 bytes at the list's end are no pair. -/
def stageBytes (sgl : Bool) (buf : HostBuf) : Nat :=
  if sgl then (List.range (buf.len / 16)).foldl (fun n i => n + entryNat buf.bytes (16 * i + 8) 8) 0 else buf.len

/-- A stage starts. -/
def State.startStage (s : State) (chain : Bool) (len : Nat) (r : StageRegs) (c : Option CmdId) (host : Nat := 0) : State :=
  let s := s.toEmpty
  let s := (s.assignRegion 14 4 r.b14 r.s14).assignRegion 15 4 r.b15 r.s15
  let s := s.put R.IMG_STATUS F.IMG_STATUS_SOURCE (natOfBool chain)
  { s with img := { s.img with length := len, cmd := c, lastBurst := s.sched.now, hostLeft := host } }.setImgState 1

/-- IMAGE_STAGE (R224, R225, R228, R261): by the state of the staged image it is refused with BUSY, aborts or discards
(length 0), or starts; a list that cannot be read is HOST_FAULT. -/
def execImageStage (h : Hdr) (src : StageSource) (len : BitVec 64) (b14 s14 b15 s15 : BitVec 16) (s : State) : Out :=
  let inPort := s.fld R.IMG_CHAIN F.IMG_CHAIN_IN_PORT
  let needs := chanBits ++ (if src.chain && s.bit R.IMG_CHAIN F.IMG_CHAIN_IN_VALID then [portBit inPort] else [])
  s.command (cls := .long) (buf := src.buf) h (.imageStage h src len b14 s14 b15 s15) false needs (fun c s =>
    let st := s.imgState
    let r : StageRegs := ⟨b14.toNat, s14.toNat, b15.toNat, s15.toNat⟩
    if st = 3 ∨ 6 ≤ st ∨ s.imgHeld then s.complete c 4
    else if len = 0 then (s.completeOpt s.img.cmd 0x2B).toEmpty.complete c 0
    else if !src.chain && s.part.chainRole then s.complete c 0x0B
    else if st = 1 then s.complete c 4
    else if r.unusable ∨ (src.chain ∧ s.bit R.IMG_CHAIN F.IMG_CHAIN_IN_VALID = false) then s.complete c 2
    else if s.stageOverlap r then s.complete c 0x18
    else if !src.chain && src.sgl && src.buf.fault.any (fun a => Nat.blt a src.buf.len) then s.complete c 0x33
    else s.startStage src.chain len.toNat r (some c) (stageBytes src.sgl src.buf))

/-! Arrival of the bytes (R155, R225 to R229). -/

/-- Bytes arrive at the end of what has arrived; none beyond the command's length or IMAGE_LENGTH is kept. -/
def State.takeBytes (s : State) (bs : List Byte) : State :=
  let top := if s.img.headerOk && Nat.blt s.img.declared s.img.length then s.img.declared else s.img.length
  let bs := bs.take (top - s.img.received)
  let n := s.img.received
  let s := { s with img := { s.img with bytes := NMap.setAll dByte s.img.bytes (keyed n bs), received := n + bs.length } }
  s.setProgress s.img.received

/-- Bytes of the stream leave on chain-out in bursts of at most 512 bytes (R130, R155); a burst that the port cannot send
yet waits in its queue, so none is dropped. -/
def State.streamOut (s : State) (off : Nat) (bs : List Byte) : State :=
  if s.bit R.IMG_CHAIN F.IMG_CHAIN_OUT_VALID = false then s
  else
    let p := s.fld R.IMG_CHAIN F.IMG_CHAIN_OUT_PORT
    (List.range ((bs.length + 511) / 512)).foldl (fun s i =>
      s.tx (.image p (off + 512 * i) ((bs.drop (512 * i)).take 512))) s

/-- The head of a chain forwards the next bytes of its stream (R227), up to the stream's end. -/
def State.forwardOwn (s : State) (bs : List Byte) : State :=
  match s.img.stream with
  | none => s
  | some (n, total) =>
    let bs := bs.take (total - n)
    let s := s.streamOut n bs
    { s with img := { s.img with stream := if n + bs.length < total then some (n + bs.length, total) else none } }

/-- Bytes read from host memory (R224): no more than the buffers hold; kept while the device stages, forwarded by the head of
a chain. -/
def State.hostBytesIn (s : State) (bs : List Byte) : State :=
  let bs := bs.take s.img.hostLeft
  let s := { s with img := { s.img with hostLeft := s.img.hostLeft - bs.length } }
  if s.fromChain then s else (if s.imgState = 1 then s.takeBytes bs else s).forwardOwn bs

/-- Does the head still read the image, to stage or to forward it? -/
def State.takesHost (s : State) : Bool := s.imgState == 1 || s.img.stream.isSome

/-- With the header, the head of a chain starts the stream (R155, R227): what has arrived leaves, and the rest will. -/
def State.startStream (s : State) : State :=
  if s.fromChain ∨ s.hChained = false then s
  else { s with img := { s.img with stream := some (0, min s.img.length s.hLength) } }.forwardOwn (s.imgBytes 0 s.img.received)

/-- The header checks (R226), once 256 bytes have arrived. -/
def State.checkHeader (s : State) : State :=
  if s.imgState ≠ 1 ∨ s.img.headerOk ∨ s.img.received < 256 then s
  else
    let fail := s.headerFail
    let s := s.startStream
    match fail with
    | some r => s.stageFail r
    | none =>
      let s := { s with img := { s.img with headerOk := true, declared := s.hLength } }
      (s.put R.IMG_STATUS F.IMG_STATUS_CHAINED (natOfBool s.hChained)).put R.IMG_STATUS F.IMG_STATUS_RELOAD
        (natOfBool s.hReload)

/-- The bytes of the device's own sections. -/
def State.ownLen (s : State) : Nat := s.ownSecs.foldl (fun n x => n + x.len) 0

/-- The space check (R225), once the section table has arrived. -/
def State.checkSpace (s : State) : State :=
  if s.imgState ≠ 1 ∨ s.img.headerOk = false ∨ s.img.spaceOk ∨ s.img.received < s.tabEnd then s
  else if s.regionSize 14 < s.tabEnd + s.ownLen + 4096 ∨ s.regionSize 15 < s.ownLen then s.stageFail 0x12
  else { s with img := { s.img with spaceOk := true } }

/-- Packed offsets of a list of sections from `a`. -/
def packFrom : Nat → List Sec → List (Sec × Nat)
  | _, [] => []
  | a, x :: xs => (x, a) :: packFrom (a + x.len) xs

/-- The parts of the image that region 14 holds, packed (R225): offset in the image, length, offset in the region. -/
def State.stageParts (s : State) : List (Nat × Nat × Nat) :=
  (0, s.tabEnd, 0) :: (packFrom s.tabEnd s.ownSecs).map (fun x => (x.1.off, x.1.len, x.2)) ++
    [(s.sigOff, 4096, s.tabEnd + s.ownLen)]

/-- How far the image may be written: the header before its checks, the tables before the space check (R225). -/
def State.writable (s : State) : Nat :=
  if s.img.headerOk = false then min s.img.received 256
  else if s.img.spaceOk = false then min s.img.received (min s.tabEnd (s.regionSize 14))
  else s.img.received

/-- Region 14 receives what has arrived of its parts (R225). -/
def State.flushStage (s : State) : State :=
  let lo := s.img.written
  let hi := s.writable
  if s.imgState ≠ 1 ∨ hi ≤ lo then s
  else
    let parts := if s.img.spaceOk then s.stageParts else [(0, hi, 0)]
    let s := parts.foldl (fun s x =>
      let a := max lo x.1
      let b := min hi (x.1 + x.2.1)
      if a < b then s.dsWriteBytes (s.regionBase 14 + x.2.2 + (a - x.1)) (s.imgBytes a (b - a)) else s) s
    { s with img := { s.img with written := hi } }

/-- HEADER_ARRIVAL (R226): `bs` are the bytes a HOST read brings; at 256 bytes the header is checked. -/
def execHeaderArrival (bs : List Byte) (s : State) : Out :=
  if s.takesHost = false then .next s else .next (s.hostBytesIn bs).flushStage.checkHeader.flushStage

/-- STAGE_SPACE_CHECK (R225). -/
def execStageSpaceCheck (bs : List Byte) (s : State) : Out :=
  if s.takesHost = false then .next s else .next (s.hostBytesIn bs).flushStage.checkSpace.flushStage

/-- The whole image has arrived: STAGED; a chain member goes on to verify by itself (R232). -/
def State.staged (s : State) : State :=
  let c := s.img.cmd
  let s := s.flushStage
  let s := { s with img := { s.img with cmd := none, measurement := s.measure } }
  let s := if s.fromChain then (s.setImgState 2).setImgState 3 else s.setImgState 2
  s.completeOpt c 0 (BitVec.ofNat 64 s.img.declared)

/-- Nothing more of the image comes (R229): an image that has arrived whole is STAGED; a HOST source that ends early is
TRUNCATED. -/
def State.endStage (s : State) : State :=
  if s.imgState ≠ 1 then s
  else if s.img.spaceOk && Nat.ble s.img.declared s.img.received then s.staged
  else if s.fromChain then s
  else s.stageFail 0x03

/-- STAGE_END (R229): the last bytes have come, and the stream of a head ends. -/
def execStageEnd (bs : List Byte) (s : State) : Out :=
  if s.takesHost = false then .next s
  else
    let s := (((s.hostBytesIn bs).flushStage.checkHeader).checkSpace).flushStage
    .next { s with img := { s.img with stream := none } }.endStage

/-- STAGE_TIMEOUT (R227): 100 ms without a burst. -/
def execStageTimeout (s : State) : Out :=
  if s.imgState = 1 ∧ s.fromChain ∧ s.img.lastBurst + 150000000 ≤ s.sched.now ∧
     (s.img.headerOk = false ∨ s.img.received < s.img.declared) then .next (s.stageFail 0x03)
  else .next s

/-- A chain member starts staging by itself (R227), in the regions its last LATTICE_MAP named. -/
def State.selfStage (s : State) : State :=
  match s.psg.stageRegs with
  | [a, b, c, d] =>
    let r : StageRegs := ⟨a, b, c, d⟩
    let fail (n : Nat) (s : State) : State := (s.toEmpty.put R.IMG_STATUS F.IMG_STATUS_SOURCE 1).stageFail n
    if r.unusable then fail 0x12 s
    else if s.stageOverlap r then fail 0x39 s
    else s.startStage true (2 ^ 40) r none
  | _ => (s.toEmpty.put R.IMG_STATUS F.IMG_STATUS_SOURCE 1).stageFail 0x12

/-- A burst for the device's own stage (R155, R227). -/
def State.ownBurst (s : State) (off : Nat) (bs : List Byte) : State :=
  let st := s.imgState
  let busy := st = 3 ∨ 6 ≤ st ∨ s.imgHeld = true ∨ (st = 1 ∧ s.fromChain = false)
  if busy then (if off = 0 then s.report 0 0x17 else s)
  else
    let s := if st ≠ 1 ∧ off = 0 then s.selfStage else s
    if s.imgState ≠ 1 then s
    else if off ≠ s.img.nextOff then s.stageFail 0x15
    else
      let s := (s.takeBytes bs).flushStage
      { s with img := { s.img with nextOff := off + bs.length, lastBurst := s.sched.now } }

/-- IMAGE_BURST (R155, R227): a burst on chain-in goes out unchanged on chain-out, and the device keeps what its
own stage takes. -/
def execImageBurst (p : PortNo) (off : BitVec 40) (bs : List Byte) (s : State) : Out :=
  if s.bit R.IMG_CHAIN F.IMG_CHAIN_IN_VALID = false ∨ s.fld R.IMG_CHAIN F.IMG_CHAIN_IN_PORT ≠ p.val ∨
     s.receives p.val = false then .next s
  else .next ((s.streamOut off.toNat bs).ownBurst off.toNat bs)

/-! Verification (R230, R242). -/

/-- IMAGE_VERIFY (R228, R230). -/
def execImageVerify (h : Hdr) (s : State) : Out :=
  s.command (cls := .long) h (.imageVerify h) false chanBits (fun c s =>
    let st := s.imgState
    if st = 4 ∧ s.imgHeld = false then s.complete c 0 (BitVec.ofNat 64 (leNat (s.img.measurement.take 8)))
    else if st = 3 ∨ 6 ≤ st ∨ s.imgHeld then s.complete c 4
    else if st = 2 then { s with img := { s.img with verifyCmd := some c } }.setImgState 3
    else s.complete c 9)

/-- Is gallery `g` unavailable (R112)? -/
def State.unavailable (s : State) (g : Nat) : Bool :=
  s.bit (R.GAL_MARCH_RESULT g) F.GAL_MARCH_RESULT_FAIL || (!s.isOff g && !s.galReady g)

/-- The EMU regions that a map defines. -/
def mapEmu (m : List Byte) : List Nat := emuRegions.filter (fun n => mapEmuSize m n != 0)

/-- Would an EMU region overlap one that stays, or another of the map (R118)? -/
def State.emuOverlap (s : State) (m : List Byte) : Bool :=
  (mapEmu m).any (fun n => s.overlaps (mapEmuBase m n) (mapEmuSize m n) emuRegions ||
    (mapEmu m).any (fun k => k != n && Nat.blt (mapEmuBase m n) (mapEmuBase m k + mapEmuSize m k) &&
      Nat.blt (mapEmuBase m k) (mapEmuBase m n + mapEmuSize m n)))

/-- Is port `p` of the image untrained, or its peer of another profile (R144)? -/
def State.portBad (s : State) (p : Nat) : Bool :=
  let peer := s.fld (R.PSG_PEER p) F.PSG_PEER_PEER_PROFILE
  !s.trained p || (peer != 0 && peer != s.hProfile + 1)

/-- The trained ports of a map whose peer has another profile record PEER_MISMATCH (R144). -/
def State.markPeers (s : State) (m : List Byte) : State :=
  ((List.range 16).filter (fun p => (mapPorts m).testBit p && s.trained p && s.portBad p)).foldl (fun s p => s.recordPsg p 7) s

/-- Step 5 of R230: the resources. -/
def State.resourceFail (s : State) (m : List Byte) : Option ImgFail :=
  if (mapGals m).any s.unavailable then some { reason := 0x38 }
  else if !s.hReload && s.emuOverlap m then some { reason := 0x39 }
  else if !(mapEmu m).isEmpty && !s.allChannels then some { reason := 0x3A }
  else if (List.range 16).any (fun p => (mapPorts m).testBit p && s.portBad p) then some { reason := 0x2C }
  else none

/-- The reload checks (R242). -/
def State.reloadFail (s : State) (m : List Byte) : Option ImgFail :=
  let old := s.img.committedMap
  let base := (List.range 8).flatMap (fun k => leBytes 4 (s.reg (R.IMG_BASE k)).toNat)
  let gals := mapGals m
  let same (a n : Nat) : Bool := mapNat m a n == mapNat old a n
  let emuOk (x : Sec) : Bool := x.kind != 0x0C || (List.range 64).all (fun g => !(mapGrant old x.unit).testBit g || gals.contains g)
  if s.hasImage = false ∨ s.hBase ≠ base then some { reason := 0x13 }
  else if s.hProfile ≠ natOfBool s.pace ∨ s.hLat ≠ s.fld R.IMG_LAT F.IMG_LAT_IMAGE_PROFILE then some { reason := 0x07 }
  else if gals.any (fun g => !s.inImage g) then some { reason := 0x14 }
  else if s.ownSecs.any (fun x => x.kind == 8 || x.kind == 9 || x.kind == 0x0A || (x.kind == 0x0D && x.unit == 0xFE) || !emuOk x) ∨
      mapBanks m ||| mapBanks old ≠ mapBanks old ∨ !(same 0x42 2 && same 0x44 1 && same 0x48 32 && same 0x70 132) then
    some { reason := 0x14 }
  else none

/-- Records in the slot tables of the image, by BP. -/
def slotCounts (bodies : List (Sec × List Byte)) : NMap Nat :=
  (bodies.filter (fun x => x.1.kind == 3)).flatMap (fun x =>
    keyed (x.1.unit * 1024) (((parseSlots 1024 x.2).getD []).map (fun r => r.2.length)))

/-- Step 4 of R230: the content, on the device as the image would leave it. -/
def State.contentFail (s : State) (m : List Byte) (bodies : List (Sec × List Byte)) : Option ImgFail :=
  let cnt := NMap.setAll (fun _ => 512) [] (slotCounts bodies)
  let rim := if s.hReload then s.rimOn else mapGlobal m
  let banks := if s.hReload then mapBanks s.img.committedMap else mapBanks m
  let frames := if s.hReload then s.img.rimFrames else globalFrames bodies
  firstOf [
    bodies.findSome? (bodyFail (s.imgLens bodies) m),
    (s.candidate m bodies).tablesFail m rim cnt,
    (s.rimCandidate bodies).rimFail banks rim frames]

/-- Write the plain bodies into region 15, packed in table order (R225, R230 step 3). -/
def State.writePlain (s : State) (bodies : List (Sec × List Byte)) : State :=
  let a := s.regionBase 15
  (packFrom 0 (bodies.map (fun x => x.1))).foldl (fun s x =>
    match bodies.find? (fun y => y.1 == x.1) with
    | some y => s.dsWriteBytes (a + x.2) y.2
    | none => s) s

/-- Steps 4 to 6 of R230 and R242 on the plain bodies; `golden`: the flash write of the golden copy fails. -/
def State.bodiesFail (s : State) (golden : Bool) (bodies : List (Sec × List Byte)) : Option ImgFail :=
  let m := s.stagedMap
  let rim := !(rimSecs bodies).isEmpty
  firstOf [s.contentFail m bodies, s.resourceFail m, if s.hReload then s.reloadFail m else none,
    if rim && golden then some { reason := 0x18 } else none]

/-- The flash address of the region of a unit in golden area `k` (R208). DESIGN CHOICE (log 54): the areas are adjacent, the
regions follow the two map copies. -/
def goldenAddr (k unit : Nat) : Nat := k * 2 ^ 20 + 0x1000 + 0x4000 * (if unit = 0xFE then 0 else unit + 1)

/-- A region map (R208): the flash address of each region, 0 where there is none, and a CRC-32C. -/
def goldenMap (k : Nat) (frames : NMap (List Byte)) : List Byte :=
  let m := (0xFE :: List.range 8).flatMap (fun u =>
    leBytes 4 (if (NMap.get (fun _ => []) frames u).isEmpty then 0 else goldenAddr k u))
  m ++ leBytes 4 (crc32c m).toNat

/-- Write the golden copy of the new configuration into the inactive area (R208, R230 step 6): of a reload, the committed
one with the banks that it names. -/
def State.writeGolden (s : State) (bodies : List (Sec × List Byte)) : State :=
  let xs := rimSecs bodies
  if xs.isEmpty then s
  else
    let k := 1 - s.img.golden
    let base := if s.hReload then s.goldenArea.frames else []
    let frames := NMap.setAll (fun _ => []) base (xs.map (fun x => (x.1.unit, x.2)))
    let m := goldenMap k frames
    { s with flash := { s.flash with golden := s.flash.golden.set k ⟨frames, [m, m]⟩ } }

/-- Verification (R230): region 15 receives the bodies that decrypt before a tag, a key or a later check fails. -/
def State.verifyAll (s : State) (golden : Bool) : Option ImgFail × State :=
  match firstOf [s.layoutFail, s.clearFail, s.signFail] with
  | some f => (some f, s)
  | none =>
    let b := s.plainSecs s.ownSecs
    let t := s.writePlain b.1
    match b.2 with
    | some f => (some f, t)
    | none =>
      let r := s.bodiesFail golden b.1
      let t := if r.isNone then t.writeGolden b.1 else t
      (r, if (r.map (fun f => f.reason)) = some 0x2C then t.markPeers s.stagedMap else t)

/-- The staged image enters FAILED (R230) and the verify command ends with `reason`. -/
def State.verifyFailed (s : State) (reason : Nat) : State :=
  let c := s.img.verifyCmd
  let s := (s.setImgState 5).detect 0x0E 1 0 [BitVec.ofNat 8 reason]
  { s with img := { s.img with verifyCmd := none, waiting := false } }.completeOpt c 8 0 0 reason

/-- VERIFIED: the verify command completes. -/
def State.verified (s : State) : State :=
  let c := s.img.verifyCmd
  let s := s.setImgState 4
  { s with img := { s.img with verifyCmd := none, waiting := false } }.completeOpt c 0
    (BitVec.ofNat 64 (leNat (s.img.measurement.take 8)))

/-- The positions of the chain. -/
def State.positions (s : State) : List Nat := (List.range s.hCount).map (fun i => s.hFirst + i)

/-- The head's verify ends (R232) with the first result in position order that is no success, or when all
positions have reported success. -/
def State.judgeChain (s : State) : State :=
  if s.img.waiting = false then s
  else
    let known := s.positions.takeWhile (fun p => s.img.results.any (fun r => r.1 == p))
    match known.findSome? (fun p => s.img.results.find? (fun r => r.1 == p && r.2.1 != 0)) with
    | some r =>
      (if r.1 = s.chainPos then s else (s.setReason { reason := r.2.1 } r.1).setReg R.IMG_LOC r.2.2).verifyFailed r.2.1
    | none => if known.length = s.positions.length then s.verified else s

/-- Does this device end a chain's verification for the others (R232)? -/
def State.verifiesChain (s : State) : Bool := !s.fromChain && s.hChained

/-- The device's own result: a member reports it with its location, the head holds it against the others' (R232). -/
def State.ownVerdict (s : State) (f : Option ImgFail) : State :=
  let s := match f with
    | some f => s.setReason f s.chainPos
    | none => s
  let reason := (f.map (fun f => f.reason)).getD 0
  let loc := if f.isSome then s.reg R.IMG_LOC else 0
  if s.verifiesChain then
    { s with img := { s.img with waiting := true, verifyAt := s.sched.now,
                                 results := s.img.results ++ [(s.chainPos, reason, loc)] } }.judgeChain
  else
    let s := if s.fromChain then s.report 1 reason loc else s
    if f.isSome then s.verifyFailed reason else s.verified

/-- VERIFY_END (R230, R232): the device's own checks end. -/
def execVerifyEnd (golden : Bool) (s : State) : Out :=
  if s.imgState ≠ 3 ∨ s.img.waiting then .next s
  else
    let r := s.verifyAll golden
    .next (r.2.ownVerdict r.1)

/-- CHAIN_RESULT (R232): a member's result reaches the head. -/
def execChainResult (pos : Fin 512) (reason : BitVec 8) (loc : Word) (s : State) : Out :=
  if s.img.results.any (fun r => r.1 == pos.val) then .next s
  else .next { s with img := { s.img with results := s.img.results ++ [(pos.val, reason.toNat, loc)] } }.judgeChain

/-- CHAIN_TIMEOUT (R232): a position is silent 2 s after the head's own verification. -/
def execChainTimeout (s : State) : Out :=
  if s.img.waiting = false ∨ s.sched.now < s.img.verifyAt + 3000000000 then .next s
  else match s.positions.find? (fun p => !s.img.results.any (fun r => r.1 == p)) with
    | some p => .next ((s.setReason { reason := 0x16 } p).verifyFailed 0x16)
    | none => .next s

end Sys2Proof.Machine
end

