-- ==== Sys2Proof/Machine/Commit.lean ====
section
/-! DEFINITION. Commits and region reloads: the commands IMAGE_COMMIT to REGION_JOIN and LATTICE_COMMIT_TIMEOUT (08,
R233 to R246; 05, R155; 07, R211; 03, R81, R92). -/

namespace Sys2Proof.Machine

/-! Asking for a commit (R228, R233, R239). -/

/-- Refuse a commit or reload by the state of the staged image (R228); none when it may start. `reload` says
which of the two is asked for. -/
def State.commitRefused (s : State) (reload : Bool) : Option (Nat × Nat) :=
  if 6 ≤ s.imgState ∨ s.imgHeld then some (4, 0)
  else if s.imgState ≠ 4 then some (0x0A, 0)
  else if s.hReload ≠ reload then some (8, 0x14)
  else none

/-- IMAGE_COMMIT (R228, R233): at the next or the targeted T5; at once, whatever its target, while the device
does not run. -/
def execImageCommit (h : Hdr) (resume : Bool) (s : State) : Out :=
  s.command h (.imageCommit h resume) true [] (fun c s =>
    match s.commitRefused false with
    | some r => s.complete c r.1 0 0 r.2
    | none =>
      if s.isRunning then s.awaitCmd (.commit resume false) h.target c
      else s.await (.commit resume false) none (some c))

/-- The first four bytes of the measurement as a number (R239). -/
def State.measure4 (s : State) : Nat := leNat (s.img.measurement.take 4)

/-- Is this device the head of its chain (R224)? -/
def State.isHead (s : State) : Bool :=
  !s.bit R.LTC_ID F.LTC_ID_MAPPED || s.fld R.IMG_CHAIN F.IMG_CHAIN_HEAD_DEV == s.devNum

/-- LATTICE_COMMIT (R239): the head floods COMMIT_AT naming the target and commits at that boundary itself. -/
def execLatticeCommit (h : Hdr) (resume : Bool) (s : State) : Out :=
  s.command (cls := .long) h (.latticeCommit h resume) true (s.imagePorts.map portBit) (fun c s =>
    match h.target, s.commitRefused false with
    | none, _ => s.complete c 2
    | _, some r => s.complete c r.1 0 0 r.2
    | some t, none =>
      if s.isHead = false then s.complete c 2
      else if s.isRunning ∧ s.passed t then s.complete c 5
      else
        let ports := (List.range 16).filter (fun p => s.portInImage p || ((mapPorts s.stagedMap).testBit p && s.trained p))
        let s := s.floodOn ports (s.latFlit 7 t (s.measure4 + natOfBool resume * 2 ^ 32)) none
        let s := { s with img := { s.img with latCmd := some c, latResume := resume, latSpan := (s.hFirst, s.hCount),
                                              commitReports := [], commitSince := none } }
        s.await (.commit resume true) (if s.isRunning then some t else none) (some c))

/-- COMMIT_AT (R239, R241): the notice goes on to the other ports; a device of another staged image reports
BASE_MISMATCH, one whose boundary has passed COMMIT_LATE with a FAULT; the others commit at the boundary. -/
def execCommitAt (p : PortNo) (origin : Fin 512) (t : BitVec 64) (digest : Word) (resume : Bool) (s : State) : Out :=
  if s.receives p.val = false ∨ s.psg.seen.contains (7, origin.val, t) then .next s
  else
    let ports := (List.range 16).filter (fun q => s.portInImage q || ((mapPorts s.stagedMap).testBit q && s.trained q))
    let s := s.floodOn ports { s.latFlit 7 t (digest.toNat + natOfBool resume * 2 ^ 32) with origin := origin.val } (some p.val)
    if (s.commitRefused false).isSome ∨ s.measure4 ≠ digest.toNat then .next (s.report 2 0x13)
    else if s.isRunning ∧ s.passed t then
      .next (((s.setReason { reason := 0x3C } s.chainPos).report 2 0x3C).floodFault s.sched.curTick).haltAtEnd
    else .next (s.await (.commit resume true) (if s.isRunning then some t else none) none)

/-! The commit itself (R234 to R237). -/

/-- Read plain bodies from region 15: the bodies, whether a word was uncorrectable; with `stop` reading ends there
(R237). -/
def State.readPlain (s : State) (stop : Bool) : List (Sec × Nat) → List (Sec × List Byte) × Bool × State
  | [] => ([], false, s)
  | x :: xs =>
    let r := s.dsReadBytes (s.regionBase 15 + x.2) x.1.len
    if r.2.1 && stop then ([], true, r.2.2)
    else
      let t := State.readPlain r.2.2 stop xs
      ((x.1, r.1) :: t.1, r.2.1 || t.2.1, t.2.2)

/-- Is a section one of a gallery's? -/
def Sec.ofGallery (x : Sec) : Bool := Nat.ble 1 x.kind && Nat.ble x.kind 0x0B && x.kind != 8 && x.kind != 9 && x.kind != 0x0A

/-- The device's own sections with their places in region 15, in the order in which a commit writes them (R235 items 4
to 6): gallery by gallery, EMU_INIT, FRAME, LANDING, DEVICE, RIMSTONE. -/
def State.writeOrder (s : State) : List (Sec × Nat) :=
  let xs := packFrom 0 s.ownSecs
  (mapGals s.stagedMap).flatMap (fun g => xs.filter (fun x => x.1.ofGallery && x.1.unit == g)) ++
    [0x0C, 9, 0x0A, 8, 0x0D].flatMap (fun k => xs.filter (fun x => x.1.kind == k))

/-- The schedule lengths of the verified image: of its DEVICE section, of the device for a reload. -/
def State.stagedLens (s : State) : List Nat :=
  s.imgLens (((packFrom 0 s.ownSecs).filter (fun x => x.1.kind == 8)).map (fun x =>
    (x.1, (s.dsReadBytes (s.regionBase 15 + x.2) x.1.len).1)))

/-- The ASSERT FIFO of gallery `g` empties and GAL_ASSERT_STATUS clears (R59). -/
def State.clearAsserts (s : State) (g : Nat) : State :=
  { s with fab := { s.fab with asserts := NMap.set (fun _ => []) s.fab.asserts g [] } }.put (R.GAL_ASSERT_STATUS g)
    F.GAL_ASSERT_STATUS_LOST 0

/-- Bring a gallery On (R235 item 1); one woken from Off begins its clear or its march (R113). -/
def State.bringOn (s : State) (g : Nat) : State :=
  if s.isOff g then s.startWake g else if s.galPower g = 1 then s.galleryOn g else s

/-- A commit's disarm (R235 item 2): after the last record and any snapshot, which is not aborted. -/
def State.commitDisarm (s : State) : State :=
  if s.armed then { s with echo := { s.echo with disarming := true } }.disarmIfIdle else s

/-- The new EMU regions and grants (R235 item 3). -/
def State.assignEmu (s : State) (m : List Byte) : State :=
  let s := emuRegions.foldl State.releaseRegion s
  let s := (mapEmu m).foldl (fun s n => s.assignRegion n 2 (mapEmuBase m n) (mapEmuSize m n)) s
  (List.range 64).foldl (fun s g =>
    s.put (R.GAL_DS_GRANT g) F.GAL_DS_GRANT_EMU
      (((mapEmu m).filter (fun n => (mapGrant m n).testBit g)).foldl (fun k n => k + 2 ^ (n - 1)) 0)) s

/-- The ports of the image and their budgets (R235 item 5). -/
def State.assignPorts (s : State) (m : List Byte) : State :=
  (List.range 16).foldl (fun s p =>
    let use := (mapPorts m).testBit p
    (s.put (R.PSG_STATUS p) F.PSG_STATUS_IN_IMAGE (natOfBool use)).setBudget p (if use then mapBudget m p else 0)) s

/-- The Rimstone part of a whole commit (R211): every bank stops and loads; those configured are released, the
others and an absent global region are unconfigured. No input word has completed since (R51, R202, R204), and no wire stays
disabled (R207). -/
def State.commitRim (s : State) (m : List Byte) (bodies : List (Sec × List Byte)) : State :=
  let s := (List.range 8).foldl (fun s b => s.stopBank b 1) s
  let s := (0xFE :: List.range 8).foldl (fun s u => (s.clearRim u).freshFrames u) s
  let s := (rimSecs bodies).foldl (fun s x => s.writeFrames x.1.unit x.2) s
  let s := s.put R.RIM_STATUS F.RIM_STATUS_CONFIGURED (natOfBool (mapGlobal m))
  let s := (List.range 8).foldl (fun s b =>
    if (mapBanks m).testBit b then s.releaseBank b else (s.put (R.RIM_BANK b) F.RIM_BANK_STATE 0).setVioOk b) s
  let s := (s.put R.RIM_PW_STATUS F.RIM_PW_STATUS_IN_SEEN 0).wireStatus
  { s with rim := { s.rim with commitPulse := 4, inWord := none, inFlight := [], inSampled := true, streamNext := none } }

/-- A LOCKED period too short for the image takes FREE mode with CTX_REJECT; LOCKED mode without a period takes it
silently (R81). A step lasts 2/3 ns. -/
def State.fitPeriod (s : State) : State :=
  let n := ((List.range 8).map s.ctxLen).foldl Nat.max 0 + 8
  if s.free ∨ 2 * n * 2 ^ 32 ≤ 3 * s.period then s
  else
    let none_ := s.period == 0
    let s := ((s.put R.SCHED_TICK_CFG F.SCHED_TICK_CFG_MODE 1).setReg R.SCHED_PERIOD_NS 0).setReg R.SCHED_PERIOD_FRAC 0
    let s := s.put R.DEVICE_STATE F.DEVICE_STATE_TICK_MODE 1
    if none_ then s else (s.raise R.SCHED_STATUS F.SCHED_STATUS_CTX_REJECT).detect 0x07 2 0

/-- Eight digest registers. -/
def State.setDigest (s : State) (o : Nat → Nat) (bs : List Byte) : State :=
  (List.range 8).foldl (fun s k => s.setReg (o k) (BitVec.ofNat 32 (leNat ((bs.drop (4 * k)).take 4)))) s

/-- IMG_COMMIT_TICK. -/
def State.setCommitTick (s : State) (t : BitVec 64) : State :=
  (s.put R.IMG_COMMIT_TICK_LO F.IMG_COMMIT_TICK_LO_TICK t.toNat).put R.IMG_COMMIT_TICK_HI F.IMG_COMMIT_TICK_HI_TICK
    (t.toNat / 2 ^ 32)

/-- IMG_LAT and IMG_SLIP_EST (R92). -/
def State.setLat (s : State) : State :=
  let own := s.part.stepping.profile
  let s := (s.setReg R.IMG_LAT 0).put R.IMG_LAT F.IMG_LAT_IMAGE_PROFILE s.hLat
  let s := (List.range 8).foldl (fun s c => s.put (R.IMG_SLIP_EST c) F.IMG_SLIP_EST_EST (s.slipEst c)) s
  if s.hLat = own then s else (s.raise R.IMG_LAT F.IMG_LAT_MISMATCH).detect 0x07 8 0

/-- Items 1 and 2 of R235: galleries come On, forces and ASSERT FIFOs clear, a snapshot's copy finishes, Echo disarms. -/
def State.commitPrepare (s : State) : State :=
  let s := (mapGals s.stagedMap).foldl State.bringOn s
  let s := (List.range 64).foldl State.clearAsserts (s.clearForces (fun _ => true))
  s.finishCopy.commitDisarm

/-- Items 3 to 5 of R235 with the bodies read from region 15: regions, galleries, EMU contents, frame and landing tables,
barriers and context lengths. -/
def State.writeBodies (s : State) (m : List Byte) (lens : List Nat) (bodies : List (Sec × List Byte)) : State :=
  let s := (s.clearPorts).loadTables (s.hProfile == 1) lens m bodies
  (bodies.filter (fun x => x.1.kind == 0x0C)).foldl (fun s x => s.loadDevSec 0x0C x.1.unit x.2) s

/-- The rest of items 5 to 8 of R235. -/
def State.applyCommit (s : State) (m : List Byte) (bodies : List (Sec × List Byte)) : State :=
  let gals := mapGals m
  let s := (s.assignPorts m).commitRim m bodies
  let s := (List.range 64).foldl (fun s g => s.put (R.GAL_MODE g) F.GAL_MODE_IN_IMAGE (natOfBool (gals.contains g))) s
  let s := { s with
    sched := { s.sched with nextTick := 0, ctx := 0, restored := false },
    psg := { s.psg with holds := [], releases := [], holdsSent := [], seen := [], doneFrom := [], haltBefore := none,
                        startAt := none, forwards := [] },
    img := { s.img with profile := s.hProfile, svn := s.hSvn, committedMap := m, rimFrames := globalFrames bodies,
                        golden := if (rimSecs bodies).isEmpty then s.img.golden else 1 - s.img.golden } }
  let s := s.setLat.fitPeriod
  let s := ((s.setDigest R.IMG_DIGEST (s.img.measurement.take 32)).setDigest R.IMG_BASE (s.img.measurement.take 32)).setCommitTick 0
  let s := s.put R.IMG_STATUS F.IMG_STATUS_UNOWNED (natOfBool (s.hSlot == 0xFF))
  (s.put R.DEVICE_STATE F.DEVICE_STATE_CONTEXT 0).put R.DEVICE_STATE F.DEVICE_STATE_RUN_STATE 1

/-- The bytes of the bodies that a commit writes, but for RIMSTONE and NOTE (R236). -/
def bodyBytes (bodies : List (Sec × List Byte)) : Nat :=
  bodies.foldl (fun n x => if x.1.kind = 0x0D ∨ x.1.kind = 0xFF then n else n + x.2.length) 0

/-- The device is left without an image (R237): no gallery, no resident context (R90), IMAGE_PROFILE 0 (R92). -/
def State.noImage (s : State) : State :=
  let s := (List.range 64).foldl (fun s g => s.put (R.GAL_MODE g) F.GAL_MODE_IN_IMAGE 0) s
  let s := (List.range 8).foldl (fun s c => (s.setReg (R.SCHED_CTX_LEN c) 0).setReg (R.IMG_SLIP_EST c) 0) s
  let s := (s.setDigest R.IMG_DIGEST []).setReg R.IMG_LAT 0
  (s.put R.DEVICE_STATE F.DEVICE_STATE_RUN_STATE 0).sendIdents

/-- Why a commit fails at its boundary (R234): a completion status and a reason. -/
def State.commitFail (s : State) : Option (Nat × Nat) :=
  if s.fab.isolated.isEmpty = false then some (4, 0)
  else if s.imgState ≠ 4 then some (0x0A, 0)
  else (s.resourceFail s.stagedMap).map (fun f => (8, f.reason))

/-! The lattice commit's end (R240). -/

/-- The lattice starts at tick 0 (R240): RELEASE names it and the start time. -/
def State.startLattice (s : State) : State :=
  let g := s.dtcIn s.margin
  let s := s.flood { s.latFlit 3 s.sched.nextTick with time := g / 2 ^ 16 % 2 ^ 48 }
  let s := s.goRunning
  { s with psg := { s.psg with startAt := some g }, sched := { s.sched with nextGrid := g } }

/-- The head's lattice commit ends: with a failure's reason and position, or when all have committed. -/
def State.latticeDone (s : State) (reason pos : Nat) : State :=
  let c := s.img.latCmd
  let resume := s.img.latResume
  let s := { s with img := { s.img with latCmd := none, commitReports := [], commitSince := none } }
  let lat := BitVec.ofNat 64 (s.reg R.IMG_LAT).toNat
  if reason = 0 then (if resume then s.startLattice else s).completeOpt c 0 lat
  else (s.setReason { reason := reason } pos).completeOpt c 8 lat 0 reason

/-- Judge the reports at the head (R240): of every position of the chain. -/
def State.judgeCommit (s : State) : State :=
  if s.img.latCmd.isNone then s
  else match s.img.commitReports.find? (fun r => r.2 != 0) with
    | some r => s.latticeDone r.2 r.1
    | none =>
      let sp := s.img.latSpan
      if (List.range sp.2).all (fun i => s.img.commitReports.any (fun r => r.1 == sp.1 + i)) then s.latticeDone 0 0 else s

/-- This device's part of a lattice commit has ended (R240): the head judges it with the reports of the others; a member
reports to the head. -/
def State.ownCommit (s : State) (reason : Nat) : State :=
  if s.isHead = false then s.report 2 reason
  else { s with img := { s.img with commitReports := s.img.commitReports ++ [(s.chainPos, reason)],
                                    commitSince := some s.sched.now } }.judgeCommit

/-- A commit that fails at its boundary changes nothing; of a lattice commit the device still halts there (R234,
R240). A lattice commit that meets a reload has the reason STAGE_BUSY (log 19). -/
def State.commitRefuse (s : State) (lattice : Bool) (c : Option CmdId) (st reason : Nat) : State :=
  let s := if st = 8 then (s.setReason { reason := reason } s.chainPos).detect 0x0E 4 0 [BitVec.ofNat 8 reason] else s
  let s := if reason = 0x2C then s.markPeers s.stagedMap else s
  if lattice then
    let s := s.ownCommit (if st = 8 then reason else 0x17)
    if s.sched.running then s.haltAtEnd else s
  else s.completeOpt c st 0 0 reason

/-- The waits that a whole commit cancels (R257): those with a target, but for what is due at this boundary. -/
def State.cancelTargets (s : State) : State :=
  let due (p : Pending) : Pending := if s.isDue p then { p with now := true, target := none } else p
  let s := { s with sched := { s.sched with pending := s.sched.pending.map due } }
  s.cancelPending (fun p => !p.now && p.target.isSome)

/-- An uncorrectable word of region 15 ends the commit without an image (R237). -/
def State.commitLost (s : State) : State :=
  let c := s.img.commitCmd
  let s := ((s.noImage.setReason { reason := 0x3D } s.chainPos).setImgState 5).detect 0x0E 4 0 [0x3D#8]
  let s := { s with sched := { s.sched with engine := false }, img := { s.img with commitCmd := none } }
  (if s.img.commitLattice then s.ownCommit 0x3D else s.completeOpt c 8 0 0 0x3D).afterBoundary

/-- Items 3 to 8 of R235: the sections are read and written in order; at an uncorrectable word the device stops
writing (R237). -/
def State.commitWrites (s : State) : State :=
  let m := s.stagedMap
  let lens := s.stagedLens
  let s := { s with img := { s.img with commitDue := false } }
  let s := (s.assignEmu m).put R.DEVICE_STATE F.DEVICE_STATE_PROFILE s.hProfile
  let r := s.readPlain true s.writeOrder
  let s := (r.2.2.writeBodies m lens r.1).setProgress (bodyBytes r.1)
  if r.2.1 then s.commitLost else s.applyCommit m r.1

/-- A commit writes once no gallery of its map wakes any more (R235, R236). -/
def State.commitIfReady (s : State) : State :=
  if s.img.commitDue && !(s.waking (mapGals s.stagedMap)) then s.commitWrites else s

/-- WAKE_CLEAR_END (R113, R388): the wake clear or march of gallery `g` ends; a commit that waits for it goes on. -/
def execWakeClearEnd (g : Gal) (found : List MarchFault) (s : State) : Out :=
  match s.mem.marches.find? (fun m => m.gal == g.val && m.wake) with
  | some m => .next (s.wakeEnd m found).commitIfReady
  | none => .next s

/-- COMMIT_APPLY (R234 to R237): a due commit rechecks the resources, halts the device and writes the image. -/
def execCommitApply (s : State) : Out :=
  match s.turn (fun a => match a with | .commit .. => true | _ => false) with
  | some p =>
    match p.act with
    | .commit resume lattice =>
      let s := s.dropPending p
      match s.commitFail with
      | some (st, r) => .next (s.commitRefuse lattice p.cmd st r).afterBoundary
      | none =>
        let s := (if s.sched.running then s.haltNow else s).cancelTargets
        let s := { s with
          sched := { s.sched with engine := true },
          img := { s.img with commitCmd := p.cmd, commitResume := resume, commitLattice := lattice, commitDue := true } }
        .next (s.setImgState 6).commitPrepare.commitIfReady
    | _ => .next s
  | none => .next s

/-- COMMIT_END (R235 item 9, R236, R240): the halt ends; the stage regions are free; with RESUME the device runs,
after a lattice commit it stays halted and reports COMMITTED. -/
def execCommitEnd (s : State) : Out :=
  if s.sched.engine = false ∨ s.imgState ≠ 6 ∨ s.img.commitDue then .next s
  else
    let c := s.img.commitCmd
    let s := s.toEmpty.sendIdents.detect 0x0E 2 0
    let s := { s with sched := { s.sched with engine := false }, img := { s.img with commitCmd := none } }
    if s.img.commitLattice then .next (s.ownCommit 0).afterBoundary
    else
      let s := s.completeOpt c 0 (BitVec.ofNat 64 (s.reg R.IMG_LAT).toNat) 0
      .next { s with sched := { s.sched with resume := s.sched.resume || (s.img.commitResume && !s.inLattice) } }.afterBoundary

/-- COMMIT_REPORT (R240): a position reports COMMITTED (0) or its reason to the head. -/
def execCommitReport (pos : Fin 512) (reason : BitVec 8) (s : State) : Out :=
  if s.img.latCmd.isNone ∨ s.img.commitReports.any (fun r => r.1 == pos.val) then .next s
  else .next { s with img := { s.img with commitReports := s.img.commitReports ++ [(pos.val, reason.toNat)] } }.judgeCommit

/-- LATTICE_COMMIT_TIMEOUT (R240): a position has not reported within 2 s of the head's own commit; no device starts. -/
def execLatticeCommitTimeout (s : State) : Out :=
  let sp := s.img.latSpan
  match s.img.latCmd, s.img.commitSince, (List.range sp.2).find? (fun i => !s.img.commitReports.any (fun r => r.1 == sp.1 + i)) with
  | some _, some t, some i => if s.sched.now < t + 3000000000 then .next s else .next (s.latticeDone 0x16 (sp.1 + i))
  | _, _, _ => .next s

/-! Region reload (R243 to R246). -/

/-- REGION_RELOAD (R228, R243): a join tick of at least the present tick count plus 2. -/
def execRegionReload (h : Hdr) (join : BitVec 64) (s : State) : Out :=
  s.command h (.regionReload h join) false [] (fun c s =>
    match s.commitRefused true with
    | some r => s.complete c r.1 0 0 r.2
    | none =>
      if join.ule s.sched.nextTick then s.complete c 5
      else s.await (.reload join) none (some c))

/-- The tables of the galleries `gals` as an isolation begins, with the ISOLATION entries of the verified reload image
(R244, R245). -/
def State.isoTables (s : State) (gals : List Nat) : IsoTables :=
  let f := s.fab
  let own (n k : Nat) : Bool := gals.contains (k / n)
  let secs := (packFrom 0 s.ownSecs).filter (fun x => x.1.kind == 0x0B && gals.contains x.1.unit)
  { four := gals.filter s.four
    istore := NMap.keep f.istore (own 1048576), slot := NMap.keep f.slot (own 524288),
    slotBase := NMap.keep f.slotBase (own 8192), last := NMap.keep f.lastSend (own 524288),
    sent := NMap.keep f.sent (own 524288),
    iso := NMap.setAll dZero32 [] (secs.flatMap (fun x => isoEntries (s.dsReadBytes (s.regionBase 15 + x.2) x.1.len).1)) }

/-- RELOAD_ISOLATE (R243): the region enters isolation, the named banks load, its forces and ASSERT FIFOs clear; a
snapshot in phase 2 is aborted (R181). -/
def execReloadIsolate (s : State) : Out :=
  match s.turn (fun a => match a with | .reload _ => true | _ => false) with
  | some p =>
    match p.act with
    | .reload join =>
      let s := s.dropPending p
      if s.fab.isolated.isEmpty = false ∨ s.imgState ≠ 4 then .next (s.completeOpt p.cmd 4).afterBoundary
      else
        let m := s.stagedMap
        let gals := mapGals m
        let banks := bankList (mapBanks m)
        let s := s.abortSnapPhase2
        let s := { s with
          fab := { s.fab with isolated := gals, region := s.isoTables gals, leaves := NMap.keep s.fab.leaves (fun k => !gals.contains (k / 65)) },
          img := { s.img with reloadCmd := p.cmd, reloadJoin := join, reloadGals := gals, reloadBanks := banks,
                              reloadWritten := false } }
        let s := (s.clearForces (fun b => gals.contains (b / 1024)))
        let s := gals.foldl (fun s g => ((s.bringOn g).clearAsserts g).flushQueue g 5) s
        let s := banks.foldl (fun s b => s.stopBank b 1) s
        let s := if s.isRunning then s.put R.DEVICE_STATE F.DEVICE_STATE_RUN_STATE 3 else s
        .next (s.setImgState 7).afterBoundary
    | _ => .next s
  | none => .next s

/-- RELOAD_WRITE_END (R243): the region's sections are written; the join waits for its tick, or for the first T5
when that has passed. -/
def execReloadWriteEnd (s : State) : Out :=
  if s.imgState ≠ 7 ∨ s.img.reloadWritten ∨ s.waking s.img.reloadGals then .next s
  else
    let m := s.stagedMap
    let b := s.readPlain false s.writeOrder
    let s := b.2.2.loadTables s.pace s.stagedLens m b.1
    let s := (b.1.filter (fun x => x.1.kind == 0x0C)).foldl (fun s x => s.loadDevSec 0x0C x.1.unit x.2) s
    let s := ((rimSecs b.1).foldl (fun s x => ((s.clearRim x.1.unit).freshFrames x.1.unit).writeFrames x.1.unit x.2) s).wireStatus
    let s := s.setProgress (b.1.foldl (fun n x => n + x.2.length) 0)
    let late := s.passed s.img.reloadJoin
    let p : Pending := { act := .joinRegion, target := if late then none else some s.img.reloadJoin, cmd := s.img.reloadCmd }
    .next { s with
      img := { s.img with reloadWritten := true,
                          golden := if (rimSecs b.1).isEmpty then s.img.golden else 1 - s.img.golden },
      sched := { s.sched with pending := s.sched.pending ++ [p] } }

/-- REGION_JOIN (R243): the region joins: IMAGE_DIGEST covers the reload, its banks are released. -/
def execRegionJoin (s : State) : Out :=
  match s.turn (fun a => match a with | .joinRegion => true | _ => false) with
  | some p =>
    let s := s.dropPending p
    let t := s.sched.nextTick
    let late := t != s.img.reloadJoin
    let s := s.setDigest R.IMG_DIGEST (shake32 (s.imageDigest ++ s.img.measurement))
    let s := s.img.reloadBanks.foldl State.releaseBank s
    let s := { s with fab := { s.fab with isolated := [], region := .none } }
    let s := (s.setCommitTick t).put R.DEVICE_STATE F.DEVICE_STATE_RUN_STATE (if s.sched.running then 2 else 1)
    let s := s.toEmpty.detect 0x0E 3 0
    let s := { s with img := { s.img with reloadCmd := none, reloadGals := [], reloadBanks := [], reloadWritten := false } }
    .next (s.completeOpt p.cmd (if late then 0x0C else 0) 0 (BitVec.ofNat 64 t.toNat)).afterBoundary
  | none => .next s

end Sys2Proof.Machine
end

