-- ==== Sys2Proof/Machine/Mailbox.lean ====
section
/-! DEFINITION. Queue pairs, submission and completion (09, R247 to R259) and readiness (R268, R269). -/

namespace Sys2Proof.Machine

/-! Queue registers (R247, R248, R250, R251). -/

/-- ENABLE of queue `q`. -/
def State.qOn (s : State) (q : Nat) : Bool := s.bit (R.MBX_Q_CFG q) F.MBX_Q_CFG_ENABLE

/-- Is SIZE a power of two from 2 to 1,024? -/
def sizeOk (n : Nat) : Bool := [2, 4, 8, 16, 32, 64, 128, 256, 512, 1024].contains n

/-- What setting ENABLE resets (R248). -/
def State.openQueue (s : State) (q : Nat) : State :=
  let s := ((s.setReg (R.MBX_SQ_HEAD q) 0).setReg (R.MBX_SQ_TAIL q) 0).setReg (R.MBX_CQ_HEAD q) 0
  { s with mbx := { s.mbx with cqIndex := NMap.set dZero s.mbx.cqIndex q 0,
                               cqPhase := NMap.set (fun _ => true) s.mbx.cqPhase q true,
                               cqUsed := NMap.set dZero s.mbx.cqUsed q 0 } }

/-- A write of MBX_Q_CFG (R247): a change of SIZE while ENABLE is 1 and an unacceptable SIZE at ENABLE set
CFG_ERR. -/
def State.writeQCfg (s : State) (q : Nat) (enable : Bool) (size vector : Nat) : State :=
  let o := R.MBX_Q_CFG q
  let err (s : State) : State := s.raise (R.MBX_Q_STATUS q) F.MBX_Q_STATUS_CFG_ERR
  let on := s.qOn q
  let old := s.qSize q
  let s := s.put o F.MBX_Q_CFG_VECTOR vector
  let s :=
    if on then
      let s := if size ≠ old then err s else s
      s.put o F.MBX_Q_CFG_ENABLE (natOfBool enable)
    else
      let s := s.put o F.MBX_Q_CFG_SIZE size
      if enable = false then s
      else if sizeOk size then ((s.raise o F.MBX_Q_CFG_ENABLE).openQueue q).showCores
      else err s
  s.queueStatus q

/-- QUEUE_ENABLE (R247, R248): a write of MBX_Q_CFG with ENABLE 1. -/
def execQueueEnable (q : Fin 16) (size : BitVec 11) (vector : BitVec 8) (s : State) : Out :=
  .next (s.writeQCfg q.val true size.toNat vector.toNat)

/-- QUEUE_DISABLE (R251): a write of MBX_Q_CFG with ENABLE 0. Fetched commands run to completion. -/
def execQueueDisable (q : Fin 16) (size : BitVec 11) (vector : BitVec 8) (s : State) : Out :=
  .next (s.writeQCfg q.val false size.toNat vector.toNat)

/-- A doorbell write that is dropped (R250). -/
def State.dbErr (s : State) (q : Nat) : State := s.raise (R.MBX_Q_STATUS q) F.MBX_Q_STATUS_DB_ERR

/-- MBX_SQ_TAIL_WRITE (R249, R250). -/
def execMbxSqTailWrite (q : Fin 16) (v : BitVec 10) (s : State) : Out :=
  if s.qOn q.val = false ∨ s.qSize q.val ≤ v.toNat then .next (s.dbErr q.val)
  else .next ((s.put (R.MBX_SQ_TAIL q.val) F.MBX_SQ_TAIL_TAIL v.toNat).cicEvent (1 + q.val))

/-- The CQ entries of queue `q` written and not released. -/
def State.cqUsed (s : State) (q : Nat) : Nat := NMap.get dZero s.mbx.cqUsed q

/-- MBX_CQ_HEAD_WRITE (R249, R250): releases entries; a release of entries not written is dropped. -/
def execMbxCqHeadWrite (q : Fin 16) (v : BitVec 10) (s : State) : Out :=
  let n := s.qSize q.val
  if s.qOn q.val = false ∨ n ≤ v.toNat then .next (s.dbErr q.val)
  else
    let free := (v.toNat + n - s.fld (R.MBX_CQ_HEAD q.val) F.MBX_CQ_HEAD_HEAD % n) % n
    if s.cqUsed q.val < free then .next (s.dbErr q.val)
    else
      let s := s.put (R.MBX_CQ_HEAD q.val) F.MBX_CQ_HEAD_HEAD v.toNat
      .next { s with mbx := { s.mbx with cqUsed := NMap.set dZero s.mbx.cqUsed q.val (s.cqUsed q.val - free) } }

/-! Fetching (R249, R250, R252, R253, R256, R260). -/

/-- What the command table states of an opcode (R261): the bytes of PARAM it uses, as (offset, size) in the
entry, and whether it takes a target. -/
def opcodeInfo (op : Nat) : Option (List (Nat × Nat) × Bool) :=
  match op with
  | 0x01 => some ([], false)
  | 0x02 => some ([(0x18, 20)], false)
  | 0x10 => some ([(0x18, 2), (0x20, 16)], false)
  | 0x11 => some ([], false)
  | 0x12 => some ([(0x18, 1)], true)
  | 0x13 => some ([(0x18, 8)], false)
  | 0x20 => some ([], false)
  | 0x21 => some ([(0x18, 1)], true)
  | 0x22 => some ([(0x18, 4)], false)
  | 0x23 => some ([(0x18, 10)], true)
  | 0x24 => some ([(0x18, 1)], true)
  | 0x30 => some ([(0x18, 10)], true)
  | 0x31 => some ([(0x18, 10)], true)
  | 0x32 => some ([(0x18, 10)], true)
  | 0x33 => some ([(0x18, 10)], false)
  | 0x40 => some ([(0x18, 1), (0x20, 8)], false)
  | 0x41 => some ([(0x18, 1), (0x20, 8)], false)
  | 0x42 => some ([(0x18, 1), (0x20, 9), (0x30, 8)], false)
  | 0x50 => some ([(0x18, 1)], true)
  | 0x51 => some ([(0x18, 1), (0x20, 8)], false)
  | 0x52 => some ([(0x18, 1)], false)
  | 0x60 => some ([(0x18, 1)], true)
  | 0x61 => some ([(0x18, 1), (0x20, 8)], true)
  | 0x70 => some ([(0x18, 3)], false)
  | 0x71 => some ([], false)
  | 0x72 => some ([(0x18, 1)], true)
  | 0x80 => some ([(0x18, 2)], false)
  | 0x81 => some ([(0x18, 32)], false)
  | 0x90 => some ([(0x18, 6)], false)
  | 0xA0 => some ([(0x18, 7)], false)
  | 0xB0 => some ([(0x18, 2)], false)
  | _ => none

/-- Are the reserved bytes and bits of an entry zero (R253, R260)? A target on a command that takes none
fails as well, and so does a HOST_ADDR that is not 8-byte aligned. -/
def entryOk (e : List Byte) (used : List (Nat × Nat)) (target : Bool) : Bool :=
  Nat.blt (entryNat e 1 1) 16 && Nat.blt (entryNat e 4 2) 512 && entryNat e 6 2 == 0 && entryNat e 0x14 4 == 0 &&
  entryNat e 8 8 % 8 == 0 && (target || !(entryNat e 1 1).testBit 3) &&
  (List.range 32).all (fun i => used.any (fun u => Nat.ble u.1 (0x18 + i) && Nat.blt (0x18 + i) (u.1 + u.2)) ||
    entryNat e (0x18 + i) 1 == 0)

/-- The encodings of OP, MODE and SETTING that the command table and R374 do not define (R261): the entry is
BAD_PARAM as for a reserved byte. -/
def reservedCode (e : List Byte) : Bool :=
  let op := entryNat e 0 1
  let v := entryNat e 0x18 1
  if op = 0x50 ∨ op = 0x72 then Nat.blt 1 v
  else if op = 0xA0 then Nat.blt 1 (entryNat e 0x1E 1)
  else if op = 0xB0 then !([1, 2, 3, 4, 5, 6, 0x10].contains v)
  else false

/-- May queue `q` fetch an entry (R249, R273)? -/
def State.canFetch (s : State) (q : Nat) : Bool :=
  s.qOn q && s.lowestCore.isSome &&
  s.fld (R.MBX_SQ_HEAD q) F.MBX_SQ_HEAD_HEAD != s.fld (R.MBX_SQ_TAIL q) F.MBX_SQ_TAIL_TAIL &&
  Nat.blt (s.outstanding q + s.cqUsed q) (s.qSize q)

/-- An entry of 64 bytes has been fetched: the command is outstanding and has not started; an opcode the table does not list is
BAD_OPCODE, reserved bytes that are not zero are BAD_PARAM. -/
def State.takeEntry (s : State) (q : Nat) (e : List Byte) : State :=
  let slot := s.fld (R.MBX_SQ_HEAD q) F.MBX_SQ_HEAD_HEAD
  let c := fetchedId q slot e
  let s := (s.put (R.MBX_SQ_HEAD q) F.MBX_SQ_HEAD_HEAD (if slot + 1 = s.qSize q then 0 else slot + 1)).start c
  let s := { s with mbx := { s.mbx with entries := s.mbx.entries ++ [(c, e)], unstarted := s.mbx.unstarted ++ [c] } }
  match opcodeInfo (entryNat e 0 1) with
  | none => s.complete c 1
  | some i =>
    if entryOk e i.1 i.2 = false ∨ reservedCode e then s.complete c 2
    else if (entryNat e 1 1).testBit 0 then { s with mbx := { s.mbx with barriers := s.mbx.barriers ++ [c] } }
    else s

/-- COMMAND_FETCH (R249, R250): the next entry, or none when the fetch ends in a PCIe error. -/
def execCommandFetch (q : Fin 16) (e : Option (List Byte)) (s : State) : Out :=
  if s.canFetch q.val = false then .next s
  else match e with
    | some bs => .next (s.takeEntry q.val bs)
    | none =>
      let s := (s.put (R.MBX_Q_CFG q.val) F.MBX_Q_CFG_ENABLE 0).raise (R.MBX_Q_STATUS q.val) F.MBX_Q_STATUS_FETCH_ERR
      .next ((s.detect 0x0C 0 q.val).queueStatus q.val)

/-! Progress and deadlines (R258). -/

/-- PROGRESS_ENTRY (R258): of a Long command, 10 ms after its start and then every 100 ms, while the CQ has room beside the
entries still due. -/
def execProgressEntry (h : Hdr) (done total : Dword) (s : State) : Out :=
  let c := cmdOf h
  let due (x : Started) : Bool := x.cmd == c && x.cls == .long && Nat.ble x.next s.sched.now
  if s.isOut c = false ∨ c.origin.isSome ∨ s.mbx.started.any due = false ∨
     s.qSize c.queue ≤ s.outstanding c.queue + s.cqUsed c.queue then .next s
  else
    let step (x : Started) : Started := if due x then { x with next := x.next + 150000000 } else x
    .next ({ s with mbx := { s.mbx with started := s.mbx.started.map step } }.writeCq c 0 0 true done total)

/-- Does a command wait for a boundary, before which its deadline does not run (R258)? -/
def State.waitsBoundary (s : State) (c : CmdId) : Bool :=
  s.sched.pending.any (fun p => p.cmd == some c) || s.fab.forces.any (fun e => e.changes.any (fun x => x.cmd == some c))

/-- Has a started command missed the deadline of its class: 250 µs for Prompt, 10 ms for Normal, none for Long? -/
def State.missed (s : State) (x : Started) : Bool :=
  !s.waitsBoundary x.cmd && (match x.cls with
    | .prompt => Nat.ble (x.since + 375000) s.sched.now
    | .normal => Nat.ble (x.since + 15000000) s.sched.now
    | .long => false)

/-- CMD_DEADLINE (R258): a command of the queue has missed its deadline. -/
def execCmdDeadline (q : Fin 16) (s : State) : Out :=
  if s.mbx.started.any (fun x => x.cmd.queue == q.val && s.missed x) then .next (s.detect 0x0C 1 q.val) else .next s

/-! A core fault (R252, R268). -/

/-- Forget a command that one field waits for. -/
def dropCmd (p : CmdId → Bool) (c : Option CmdId) : Option CmdId :=
  match c with
  | some x => if p x then none else some x
  | none => none

/-- What runs on runs without its command: nothing reports to the commands that `p` names. -/
def State.forget (s : State) (p : CmdId → Bool) : State :=
  let d := dropCmd p
  let force (e : ForceEntry) : ForceEntry := { e with changes := e.changes.map (fun c => { c with cmd := d c.cmd }) }
  { s with
    sched := { s.sched with
      pending := s.sched.pending.map (fun x => { x with cmd := d x.cmd }), stepCmd := d s.sched.stepCmd,
      restoreCmd := d s.sched.restoreCmd },
    fab := { s.fab with forces := s.fab.forces.map force },
    echo := { s.echo with
      disarmCmds := s.echo.disarmCmds.filter (fun c => !p c), snap := s.echo.snap.map (fun j => { j with cmd := d j.cmd }) },
    psg := { s.psg with origin := d s.psg.origin, training := d s.psg.training },
    img := { s.img with
      cmd := d s.img.cmd, verifyCmd := d s.img.verifyCmd, commitCmd := d s.img.commitCmd,
      reloadCmd := d s.img.reloadCmd },
    mbx := { s.mbx with
      waits := s.mbx.waits.filter (fun w => !p w.cmd), barriers := s.mbx.barriers.filter (fun c => !p c),
      forwarded := s.mbx.forwarded.filter (fun f => !p f.1), entries := s.mbx.entries.filter (fun f => !p f.1),
      unstarted := s.mbx.unstarted.filter (fun c => !p c), started := s.mbx.started.filter (fun x => !p x.cmd) } }

/-- The boundary actions and force changes that wait for commands that `p` names go with them. -/
def State.dropWaits (s : State) (p : CmdId → Bool) : State :=
  let mine (c : Option CmdId) : Bool := match c with
    | some x => p x
    | none => false
  let left (e : ForceEntry) : ForceEntry := { e with changes := e.changes.filter (fun c => !mine c.cmd) }
  { s with
    sched := { s.sched with pending := s.sched.pending.filter (fun x => !mine x.cmd) },
    fab := { s.fab with forces := (s.fab.forces.map left).filter (fun e => !e.changes.isEmpty) } }

/-- CORE_FAULT (R252): the core leaves the ready state; its commands complete with CORE_FAULT and their
queues move to another ready core. -/
def execCoreFault (k : Fin 4) (s : State) : Out :=
  if s.readyBit (coreBit + k.val) = false then .next s
  else
    let mine := (s.mbx.outstanding.filter (fun p => p.2 == k.val)).map (fun p => p.1)
    let s := (s.dropWaits (fun c => mine.contains c)).forget (fun c => mine.contains c)
    let s := ((s.setReady (coreBit + k.val) false).detect 0x0C 2 k.val).cicCoreDown k.val |>.trcOff k.val
    let s := mine.foldl (fun s c => s.complete c 0x34) s
    let s := s.showCores
    .next (if s.lowestCore.isNone then s.detect 0x0C 4 k.val else s)

/-! Remote commands (R259). -/

/-- Does a REMOTE command break the limits of R259? -/
def remoteBad (e : List Byte) : Bool :=
  let op := entryOp e
  (if op = 0x40 ∨ op = 0x41 then Nat.blt 65536 (entryLen e) else entryLen e != 0) ||
  (op == 0x10 && entryNat e 0x18 1 == 0) || op == 0x80 || op == 0xA0 || op == 0xB0

/-- The class of an entry's command (R258, R261). -/
def entryClass (e : List Byte) : CmdClass :=
  let op := entryOp e
  if [0x01, 0x02, 0x20, 0x21, 0x24, 0x30, 0x31, 0x32, 0x33, 0x42, 0x52].contains op then .prompt
  else if [0x10, 0x11, 0x22, 0x60, 0x70, 0x72, 0x80, 0xB0].contains op || (op == 0x12 && (entryNat e 0x18 1).testBit 1) then .long
  else .normal

/-- The 8-byte words of a byte string, the last filled with zeros. -/
def wordsOf (bs : List Byte) : List Dword :=
  (List.range ((bs.length + 7) / 8)).map (fun i => BitVec.ofNat 64 (leNat ((bs.drop (8 * i)).take 8)))

/-- A tunnelled message from this Command Complex to that of device `dev` (R9, R289). -/
def State.cmdPkt (s : State) (dev : Nat) (bs : List Byte) : NocPkt :=
  { kind := .message, vc := 3, len := Fin.ofNat 16 ((bs.length + 31) / 32), dest := 0x05, src := 0x05,
    destDev := Fin.ofNat 512 dev, srcDev := Fin.ofNat 512 s.devNum, remote := true, tag := 0, wseq := 0, fence := 0,
    fenceValid := false, status := 0, op := 0, firstBe := 0xFF, lastBe := 0xFF, addr := 0, operand := 0, data := wordsOf bs }

/-- Forward a command (R154, R259): its entry, then the host data of a MEM_WRITE, in packets of at most 256 bytes. DESIGN
CHOICE (log 55): the form of these packets, which the spec does not give. -/
def State.forward (s : State) (e bs : List Byte) : State :=
  match s.routePort (entryDev e) with
  | none => s
  | some port =>
    let parts := e :: (List.range ((bs.length + 255) / 256)).map (fun i => (bs.drop (256 * i)).take 256)
    parts.foldl (fun s b => s.tunnel port 16 (s.cmdPkt (entryDev e) b)) s

/-- REMOTE_COMMAND (R259): the local core checks and forwards the entry `e`, with the host data `bytes`
that a MEM_WRITE reads (up to `fault`, where a PCIe error ends the read), and writes the remote completion when it comes
(`ans`, with the bytes `back` of a remote read). -/
def execRemoteCommand (h : Hdr) (e bytes : List Byte) (fault : Option Nat) (ans : Option RemoteAnswer) (back : List Byte)
    (s : State) : Out :=
  let c := { cmdOf h with remote := true }
  match ans with
  | some a =>
    if s.mbx.forwarded.any (fun f => f.1 == c) = false then .next s
    else
      let s := { s with mbx := { s.mbx with forwarded := s.mbx.forwarded.filter (fun f => f.1 != c) } }
      let s := if back.isEmpty then s else s.toHost c back
      .next (s.complete c a.status.toNat a.result0 a.result1 a.reason.toNat)
  | none =>
    if s.barred c ∨ s.mbx.forwarded.any (fun f => f.1 == c) ∨ (s.fetchedEntry c).any (fun x => x != e) then .next s
    else
      let s := s.begin c (entryClass e)
      let fails := entryOp e == 0x41 && fault.any (fun a => Nat.blt a (entryLen e))
      let bs := if entryOp e = 0x41 then bytes.take (if fails then fault.getD 0 else entryLen e) else []
      if s.lowestCore.isNone then .next (s.complete c 3 (BitVec.ofNat 64 coreBit))
      else if remoteBad e then .next (s.complete c 2)
      else if s.bit R.LTC_ID F.LTC_ID_MAPPED = false ∨ (s.routePort (entryDev e)).isNone ∨ h.origin.isSome then
        .next (s.complete c 0x2A)
      else if fails then .next ((s.forward e bs).complete c 0x33)
      else .next { s.forward e bs with mbx := { (s.forward e bs).mbx with forwarded := s.mbx.forwarded ++ [(c, entryDev e)] } }

/-! GET_READY (R269). -/

/-- Words `k` and `k + 1` of DEVICE_READY as one value. -/
def State.readyPair (s : State) (k : Nat) : Dword :=
  BitVec.ofNat 64 ((s.reg (R.DEVICE_READY0 + 4 * k)).toNat + (s.reg (R.DEVICE_READY0 + 4 * k + 4)).toNat * 2 ^ 32)

/-- Is every bit of a mask set? -/
def State.allReady (s : State) (m : BitVec 128) : Bool := (List.range 128).all (fun n => !m.getLsbD n || s.readyBit n)

/-- GET_READY completes. -/
def State.readyDone (s : State) (c : CmdId) (st : Nat) : State := s.complete c st (s.readyPair 0) (s.readyPair 2)

/-- GET_READY (R269): completes when every masked bit is set, at once with a mask of 0. A millisecond is
1,500,000 periods. -/
def execGetReady (h : Hdr) (mask : BitVec 128) (ms : Word) (s : State) : Out :=
  s.command (cls := .prompt) h (.getReady h mask ms) false [] (always := true) (fun c s =>
    if s.allReady mask then s.readyDone c 0
    else
      let t := s.sched.now + (if ms = 0 then 1 else ms.toNat) * 1500000
      { s with mbx := { s.mbx with waits := s.mbx.waits ++ [⟨c, mask, t⟩] } })

/-- One waiting GET_READY ends. -/
def State.endWaitFor (s : State) (w : ReadyWait) (st : Nat) : State :=
  { s with mbx := { s.mbx with waits := s.mbx.waits.erase w } }.readyDone w.cmd st

/-- GET_READY_COMPLETE (R269): the last masked bit of a waiting GET_READY is set. -/
def execGetReadyComplete (s : State) : Out :=
  match s.mbx.waits.find? (fun w => s.allReady w.mask) with
  | some w => .next (s.endWaitFor w 0)
  | none => .next s

/-- GET_READY_TIMEOUT (R269): TIMEOUT_MS of a waiting GET_READY has passed. -/
def execGetReadyTimeout (s : State) : Out :=
  match s.mbx.waits.find? (fun w => Nat.ble w.timeout s.sched.now) with
  | some w => .next (s.endWaitFor w 0x2C)
  | none => .next s

end Sys2Proof.Machine
end

