-- ==== Sys2Proof/Machine/Control.lean ====
section
/-! DEFINITION. The commands that run, halt and configure the device, force and deposit nets, and move memory
(09, R261 to R263, R415; 03, R81, R88 to R90; 06, R173 to R176; 04, R101, R119). -/

namespace Sys2Proof.Machine

/-! RUN, HALT, STEP (R263). -/

/-- The next tick count as a result. -/
def State.nextResult (s : State) : Dword := BitVec.ofNat 64 s.sched.nextTick.toNat

/-- A run command waits for a content-preserving march (R109). -/
def State.awaitMarch (s : State) (c : CmdId) (cycles : Option Nat) : State :=
  { s with sched := { s.sched with runWaits := s.sched.runWaits ++ [(c, cycles)] } }

/-- A RUN or, with its cycles, a STEP starts a halted device (R263); a device that runs by then refuses a STEP. -/
def State.startRun (s : State) (c : CmdId) (cycles : Option Nat) : State :=
  match cycles with
  | none => (if s.isRunning then s else s.goRunning).complete c 0 s.nextResult
  | some n =>
    if s.isRunning then s.complete c 7
    else
      let s := s.goRunning
      { s with sched := { s.sched with stepsLeft := some n, stepCmd := some c } }

/-- RUN (R109, R263). -/
def execRun (h : Hdr) (s : State) : Out :=
  s.command (cls := .prompt) h (.run h) false [] (fun c s =>
    if s.hasImage = false then s.complete c 6
    else if s.inLattice then s.complete c 0x27
    else if s.isRunning then s.complete c 0 s.nextResult
    else if s.keepMarch then s.awaitMarch c none
    else s.startRun c none)

/-- HALT (R257, R263): at the next or the targeted T5; on a halted device at once. -/
def execHalt (h : Hdr) (cancel : Bool) (s : State) : Out :=
  s.command (cls := .prompt) h (.halt h cancel) true [] (fun c s =>
    if s.hasImage = false then s.complete c 6
    else if !s.isRunning && (h.target.isNone || h.target == some s.sched.nextTick) then
      s.finishHalt { act := .halt cancel, target := none, cmd := some c, now := true }
    else s.awaitCmd (.halt cancel) h.target c)

/-- STEP (R109, R263): runs CYCLES cycles and halts at T5 of the last. -/
def execStep (h : Hdr) (cycles : Word) (s : State) : Out :=
  s.command (cls := .long) h (.step h cycles) false [] (fun c s =>
    if cycles = 0 then s.complete c 2
    else if s.hasImage = false then s.complete c 6
    else if s.isRunning then s.complete c 7
    else if s.inLattice then s.complete c 0x27
    else if s.keepMarch then s.awaitMarch c (some cycles.toNat)
    else s.startRun c (some cycles.toNat))

/-- When no content-preserving march is left, the run commands that waited take effect (R109). -/
def State.afterMarch (s : State) : State :=
  if s.keepMarch then s
  else
    let s := s.sched.runWaits.foldl (fun s w => s.startRun w.1 w.2) { s with sched := { s.sched with runWaits := [] } }
    if s.sched.phase = .between ∧ s.sched.engine = false ∧ s.nextDue.isNone then s.resumeIf else s

/-- MARCH_END (R107, R108, R111): the march of gallery `g` has found `found`; what waited for it starts (R109). -/
def execMarchEnd (g : Gal) (found : List MarchFault) (s : State) : Out :=
  match s.mem.marches.find? (fun m => m.gal == g.val && !m.wake && !m.start) with
  | some m => .next (s.finishMarch m found).2.afterMarch
  | none => .next s

/-! SET_TICK and SELECT_CONTEXT (R81, R88, R90). -/

/-- The smallest LOCKED period in steps (R81): 8 while no image is committed. -/
def State.periodLimit (s : State) : Nat :=
  (if s.hasImage then ((List.range 8).map s.ctxLen).foldl Nat.max 0 else 0) + 8

/-- SET_TICK (R81, R88). A step lasts 2/3 ns. -/
def execSetTick (h : Hdr) (mode policy realign source : BitVec 8) (ns : Word) (frac : BitVec 16) (s : State) : Out :=
  s.command h (.setTick h mode policy realign source ns frac) true (if mode = 0 ∧ s.inLattice then [timeBit] else []) (fun c s =>
    let p := ns.toNat * 2 ^ 32 + frac.toNat * 2 ^ 16
    if 1 < mode.toNat ∨ 1 < policy.toNat ∨ 1 < realign.toNat ∨ 1 < source.toNat then s.complete c 2
    else if mode = 0 ∧ 3 * p < 2 * s.periodLimit * 2 ^ 32 then s.complete c 0x10
    else s.awaitCmd (.tickCfg ⟨mode == 1, policy.toNat, realign.toNat, source.toNat, ns.toNat, frac.toNat⟩) h.target c)

/-- Does a selection of a context wait? -/
def State.selecting (s : State) : Bool :=
  s.sched.pending.any (fun p => match p.act with
    | .context _ => true
    | _ => false)

/-- Queue a boundary action of the first T5 that follows its acceptance (R90). DEDUCED (log 24): a halted device
reaches that T5 in its next cycle. -/
def State.awaitT5 (s : State) (act : BoundaryAct) (c : CmdId) : State :=
  let target := if s.sched.phase == .t5 then some (s.sched.nextTick + 1) else none
  { s with sched := { s.sched with pending := s.sched.pending ++ [{ act := act, target := target, cmd := some c, now := false }] } }

/-- SELECT_CONTEXT (R89, R90). -/
def execSelectContext (h : Hdr) (ctx : BitVec 8) (s : State) : Out :=
  s.command (cls := .prompt) h (.selectContext h ctx) true [] (fun c s =>
    if s.fld R.SCHED_TICK_CFG F.SCHED_TICK_CFG_CTX_SOURCE = 1 then s.complete c 0x0E
    else if s.hasImage ∧ s.pace = false then s.complete c 0x0F
    else if s.resident ctx.toNat = false then s.complete c 0x0D
    else if h.target.any (fun t => s.passed t) then s.complete c 5
    else if s.selecting then s.complete c 4
    else if h.target.isNone then s.awaitT5 (.context ctx.toNat) c
    else s.awaitCmd (.context ctx.toNat) h.target c)

/-! Nets (R173 to R176, R262). -/

/-- The BP that a net block names. -/
def blockBp (n : NetBlock) : Nat := n.gallery.toNat * 1024 + n.chamber.toNat * 64 + n.bp.toNat

/-- The value that a net block names. -/
def blockVal (n : NetBlock) : Nv :=
  match n.value.toNat with
  | 0 => Nv.zero
  | 1 => Nv.one
  | 2 => Nv.x
  | _ => Nv.z

/-- What a net block is refused for whatever its command (R262): BAD_UNIT, for a number above 63 too, which no
gallery of the image has; then BAD_PARAM. DEDUCED (log 23). -/
def State.netRefused (s : State) (n : NetBlock) : Option Nat :=
  if 64 ≤ n.gallery.toNat ∨ s.inImage n.gallery.toNat = false then some 0x32
  else if 16 ≤ n.chamber.toNat ∨ 64 ≤ n.bp.toNat then some 2
  else none

/-- Is the block's gallery four-state? -/
def State.netFour (s : State) (n : NetBlock) : Bool := s.four n.gallery.toNat

/-- What FORCE, RELEASE and DEPOSIT refuse (R173, R262). -/
def State.forceRefused (s : State) (n : NetBlock) : Option Nat :=
  match s.netRefused n with
  | some e => some e
  | none =>
    if 2 ≤ n.kind.toNat ∨ 4 ≤ n.value.toNat then some 2
    else if n.kind = 0 ∧ 8 ≤ n.context.toNat then some 2
    else if n.kind = 1 ∧ (if s.netFour n then 512 else 1024) ≤ n.addr.toNat then some 2
    else if s.netFour n = false ∧ 2 ≤ n.value.toNat then some 0x11
    else if n.kind = 0 ∧ s.ctxLen n.context.toNat ≤ n.addr.toNat then some 0x13
    else none

/-- The target of a force entry. -/
def blockTarget (n : NetBlock) : ForceTarget :=
  if n.kind = 0 then .step n.context.toNat n.addr.toNat else .entry n.addr.toNat

/-- The first tick a force command takes effect in (R175); none when it is LATE. Without a target, the first that
follows the next T5; DEDUCED (log 24): a halted device reaches that T5 in its next cycle. -/
def State.forceTick (s : State) (t : Option (BitVec 64)) : Option (BitVec 64) :=
  match t with
  | some t => if s.passed t then none else some t
  | none =>
    if s.sched.phase = .between ∨ s.sched.phase = .t5 then some (s.sched.nextTick + 1)
    else some s.sched.nextTick

/-- Is it a change of the same tick and kind, force or release? -/
def sameChange (x y : ForceChange) : Bool := x.tick == y.tick && x.val.isSome == y.val.isSome

/-- Put a change into a list in order of ticks, behind those of its tick. -/
def insertChange (x : ForceChange) : List ForceChange → List ForceChange
  | [] => [x]
  | y :: ys => if x.tick.ult y.tick then x :: y :: ys else y :: insertChange x ys

/-- Put a change into a list, in place of one of the same tick and kind; the last of one tick holds. -/
def putChange (x : ForceChange) (cs : List ForceChange) : List ForceChange :=
  insertChange x (cs.filter (fun y => !sameChange x y))

/-- Replace the changes of one entry. -/
def State.setChanges (s : State) (e : ForceEntry) (cs : List ForceChange) : State :=
  { s with fab := { s.fab with forces := s.fab.forces.map (fun x => if x = e then { e with changes := cs } else x) } }

/-- Claim a force entry of a BP (R173); FORCE_FULL when all four are taken. -/
def State.claimForce (s : State) (c : CmdId) (e : ForceEntry) : State :=
  if 4 ≤ (s.fab.forces.filter (fun x => x.bp == e.bp)).length then s.complete c 0x12
  else { s with fab := { s.fab with forces := s.fab.forces ++ [e] } }

/-- Changes of a halted device's next tick take effect at once (R257). -/
def State.settleNow (s : State) : State :=
  if s.isRunning then s else (s.settleForces s.sched.nextTick).settleReleases s.sched.nextTick

/-- The force entry of a target. -/
def State.forceEntry (s : State) (b : Nat) (t : ForceTarget) : Option ForceEntry :=
  s.fab.forces.find? (fun e => !e.deposit && e.bp == b && e.target == t)

/-- FORCE (R173, R175): a second force to a target replaces the value. -/
def execForce (h : Hdr) (n : NetBlock) (s : State) : Out :=
  s.command (cls := .prompt) h (.force h n) true [] (fun c s =>
    match s.forceRefused n, s.forceTick h.target with
    | some e, _ => s.complete c e
    | none, none => s.complete c 5
    | none, some t =>
      let x : ForceChange := ⟨t, some (blockVal n), some c, h.target.isNone⟩
      match s.forceEntry (blockBp n) (blockTarget n) with
      | some e =>
        let old := (e.changes.find? (sameChange x)).bind (fun y => y.cmd)
        ((s.setChanges e (putChange x e.changes)).completeOpt old 0 (BitVec.ofNat 64 t.toNat)).settleNow
      | none => (s.claimForce c ⟨(blockBp n), (blockTarget n), false, [x]⟩).settleNow)

/-- RELEASE (R175, R261): replaces a pending release; NOT_FORCED when no force entry names the target. VALUE is ignored. -/
def execRelease (h : Hdr) (n : NetBlock) (s : State) : Out :=
  s.command (cls := .prompt) h (.release h n) true [] (fun c s =>
    match s.forceRefused { n with value := 0 }, s.forceTick h.target with
    | some e, _ => s.complete c e
    | none, none => s.complete c 5
    | none, some t =>
      match s.forceEntry (blockBp n) (blockTarget n) with
      | none => s.complete c 0x15
      | some e =>
        let old := e.changes.filterMap (fun y => if y.val.isNone then y.cmd else none)
        let kept := e.changes.filter (fun y => y.val.isSome)
        let s := s.setChanges e (putChange ⟨t, none, some c, h.target.isNone⟩ kept)
        (old.foldl (fun s d => s.complete d 0 (BitVec.ofNat 64 t.toNat)) s).settleNow)

/-- DEPOSIT with KIND STEP or ENTRY (R175): a value for one cycle. -/
def execDeposit (h : Hdr) (n : NetBlock) (s : State) : Out :=
  s.command (cls := .prompt) h (.deposit h n) true [] (fun c s =>
    match s.forceRefused n, s.forceTick h.target with
    | some e, _ => s.complete c e
    | none, none => s.complete c 5
    | none, some t => (s.claimForce c ⟨(blockBp n), (blockTarget n), true, [⟨t, some (blockVal n), some c, h.target.isNone⟩]⟩).settleNow)

/-- The number of net addresses of a gallery. -/
def State.netCount (s : State) (n : NetBlock) : Nat := if s.netFour n then 1024 else 2048

/-- STATE_DEPOSIT (R176): writes the previous generation of a halted device. -/
def execStateDeposit (h : Hdr) (n : NetBlock) (s : State) : Out :=
  s.command (cls := .prompt) h (.stateDeposit h n) false [] (fun c s =>
    match s.netRefused n with
    | some e => s.complete c e
    | none =>
      if 4 ≤ n.value.toNat ∨ s.netCount n ≤ n.addr.toNat then s.complete c 2
      else if s.netFour n = false ∧ 2 ≤ n.value.toNat then s.complete c 0x11
      else if s.halted = false then s.complete c 7
      else (s.writePrev (blockBp n) n.addr.toNat (blockVal n)).complete c 0 s.nextResult)

/-- The tick at whose end the previous generation stands (R176). -/
def State.peekTick (s : State) : BitVec 64 :=
  if s.sched.phase = .between ∨ s.sched.phase = .t5 then s.sched.nextTick - 1 else s.sched.curTick - 1

/-- Bits packed into whole bytes from bit 0 of byte 0. -/
def bitBytes (l : List Bool) : List Byte := leBytes ((l.length + 7) / 8) (bitsNat l)

/-- PEEK (R176, R262): previous-generation values, inline or in the buffer. -/
def execPeek (h : Hdr) (n : NetBlock) (buf : HostBuf) (s : State) : Out :=
  s.command (cls := .prompt) (buf := buf) h (.peek h n buf) false [] (fun c s =>
    match s.netRefused n with
    | some e => s.complete c e
    | none =>
      let four := s.netFour n
      let k := n.count.toNat
      let xs := (List.range k).map (fun i => s.prevNet (blockBp n) (n.addr.toNat + i))
      let t := BitVec.ofNat 64 s.peekTick.toNat
      if k = 0 ∨ 2048 < k ∨ s.netCount n < n.addr.toNat + k ∨ n.kind ≠ 0 ∧ n.kind ≠ 1 then s.complete c 2
      else if buf.len = 0 then
        (if (if four then 32 else 64) < k then s.complete c 2
         else
          let v := bitsNat (xs.map (fun x => x.v))
          s.complete c 0 (BitVec.ofNat 64 (if four then v + bitsNat (xs.map (fun x => x.k)) * 2 ^ 32 else v)) t)
      else
        let bs := bitBytes (xs.map (fun x => x.v)) ++ (if four then bitBytes (xs.map (fun x => x.k)) else [])
        if buf.len < bs.length then s.complete c 2
        else if buf.fault.any (fun a => Nat.blt a bs.length) then s.complete c 0x33
        else (s.toHost c bs).complete c 0 0 t)

/-! Memory (R101, R103, R119, R124, R415). -/

/-- Does a Design Memory range lie within one gallery's 1 MiB (R415)? -/
def dmRange (a n : Nat) : Bool := Nat.blt a (2 ^ 26) && Nat.ble (a % 2 ^ 20 + n) (2 ^ 20)

/-- Is a buffer length allowed (R261)? -/
def memLen (n : Nat) : Bool := Nat.ble 8 n && Nat.ble n (2 ^ 20) && n % 8 == 0

/-- The channels that a Deep Store range uses, in address order. -/
def rangeChans (a n : Nat) : List Nat := (dsChannels a n).map (fun c => 64 + c)

/-- The functions that a memory command needs (R269). -/
def memNeeds (space a n : Nat) : List Nat :=
  if space = 0 then (if dmRange a n then [a / 2 ^ 20] else [])
  else if a + n ≤ 2 ^ 35 ∧ 0 < n ∧ n ≤ 2 ^ 20 then rangeChans a n else []

/-- The first address of a Deep Store range that `may` refuses. -/
def deniedAt (may : Nat → Bool) (a n : Nat) : Option Nat :=
  if may a = false then some a
  else ((List.range (n / 2 ^ 24 + 1)).map (fun i => (a / 2 ^ 24 + 1 + i) * 2 ^ 24)).find? (fun x => Nat.blt x (a + n) && !may x)

/-- DS_DENIED is logged with the address (R119). -/
def State.denyDs (s : State) (x : Nat) : State := s.detect 0x04 4 (dsChannel x) (leBytes 8 x)

/-- Does a write of part of a word meet a double-bit error (R116)? -/
def State.partUe (s : State) (a n : Nat) : Bool :=
  (a % 8 != 0 && s.dsMark (a / 8) == .double) || ((a + n) % 8 != 0 && s.dsMark ((a + n) / 8) == .double)

/-- The bank writes of bytes from byte `lo` of the first word (R100): one access per word, with a byte mask. -/
def spanWrites (lo : Nat) (bs : List Byte) : List BankOp :=
  (List.range ((lo + bs.length + 7) / 8)).map (fun i =>
    let at_ (j : Nat) : Option Byte := if lo ≤ 8 * i + j then bs[8 * i + j - lo]? else none
    .write (byteOfBits ((List.range 8).map (fun j => (at_ j).isSome)))
      (BitVec.ofNat 64 (leNat ((List.range 8).map (fun j => (at_ j).getD 0)))))

/-- A Design Memory request of a command from byte address `a` of the DM space. -/
def cmdReq (a : Nat) (ops : List BankOp) (who : Requester) : BankReq :=
  { gal := a / 2 ^ 20, word := a % 2 ^ 20 / 8, left := ops, since := none, data := [], status := 0, who := who }

/-- MEM_READ (R261, R415). -/
def execMemRead (h : Hdr) (space : BitVec 8) (addr : Dword) (buf : HostBuf) (s : State) : Out :=
  let a := addr.toNat
  let n := buf.len
  s.command (buf := buf) h (.memRead h space addr buf) false (memNeeds space.toNat a n) (fun c s =>
    if 1 < space.toNat ∨ memLen n = false then s.complete c 2
    else if space = 0 then
      (if dmRange a n = false then s.complete c 2
       else
        let who : Requester := match buf.fault with
          | some f => if f < n then .cmd c 3 (a % 8) f else .cmd c 0 (a % 8) n
          | none => .cmd c 0 (a % 8) n
        s.bankRequest (cmdReq a (List.replicate ((a % 8 + n + 7) / 8) .read) who))
    else if 2 ^ 35 < a + n then s.complete c 2
    else match deniedAt s.hostMayRead a n with
      | some x => (s.denyDs x).complete c 0x23
      | none =>
        let r := s.dsReadBytes a n
        if r.2.1 then r.2.2.complete c 0x22
        else match buf.fault with
          | some f => if f < n then (r.2.2.toHost c (r.1.take f)).complete c 0x33
                      else (r.2.2.toHost c r.1).complete c 0 (BitVec.ofNat 64 n)
          | none => (r.2.2.toHost c r.1).complete c 0 (BitVec.ofNat 64 n))

/-- MEM_WRITE (R260, R261, R415): a HOST_FAULT leaves the bytes before the faulting address written. -/
def execMemWrite (h : Hdr) (space : BitVec 8) (addr : Dword) (buf : HostBuf) (s : State) : Out :=
  let a := addr.toNat
  let n := buf.len
  let bad := buf.fault.any (fun f => Nat.blt f n)
  let bs := buf.bytes.take (if bad then buf.fault.getD 0 else n)
  s.command (buf := buf) h (.memWrite h space addr buf) false (memNeeds space.toNat a n) (fun c s =>
    if 1 < space.toNat ∨ memLen n = false then s.complete c 2
    else if space = 0 then
      (if dmRange a n = false then s.complete c 2
       else if bs = [] then s.complete c 0x33
       else s.bankRequest (cmdReq a (spanWrites (a % 8) bs) (.cmd c (if bad then 4 else 1) 0 n)))
    else if 2 ^ 35 < a + n then s.complete c 2
    else match deniedAt s.hostMayWrite a n with
      | some x => (s.denyDs x).complete c 0x23
      | none =>
        let ue := s.partUe a bs.length
        let s := s.dsWriteBytes a bs
        if bad then s.complete c 0x33 else if ue then s.complete c 0x22 else s.complete c 0 (BitVec.ofNat 64 n))

/-- MEM_ATOMIC (R101, R415): one aligned word of Design Memory. -/
def execMemAtomic (h : Hdr) (space : BitVec 8) (addr : Dword) (op : BitVec 8) (d : Dword) (s : State) : Out :=
  let a := addr.toNat
  s.command (cls := .prompt) h (.memAtomic h space addr op d) false (memNeeds space.toNat a 8) (fun c s =>
    if space ≠ 0 ∨ 1 < op.toNat ∨ dmRange a 8 = false ∨ a % 8 ≠ 0 then s.complete c 2
    else s.bankRequest (cmdReq a [.atomic (op == 1) d] (.cmd c 2 0 8)))

end Sys2Proof.Machine
end

