-- ==== Sys2Proof/Machine/DmaOps.lean ====
section
/-! DEFINITION. The DMA engine's parts: descriptors, windows, pieces, the read and write engines, errors and
halts (11, R298 to R316). -/

namespace Sys2Proof.Machine

/-! Channels (R298, R317). -/

/-- STATE of channel `n`: 0 DISABLED, 1 IDLE, 2 RUNNING, 3 HALTING, 4 HALTED. -/
def State.chState (s : State) (n : Nat) : Nat := s.fld (R.DMA_CH_STATUS n) F.DMA_CH_STATUS_STATE

/-- Set STATE of channel `n`, with its bits of DMA_ACTIVE and DMA_HALTED. -/
def State.setCh (s : State) (n k : Nat) : State :=
  ((s.put (R.DMA_CH_STATUS n) F.DMA_CH_STATUS_STATE k).put R.DMA_ACTIVE ⟨n, n⟩ (natOfBool (k == 2 || k == 3))).put
    R.DMA_HALTED ⟨n, n⟩ (natOfBool (k == 4))

/-- The descriptors of the ring of channel `n`. -/
def State.ringSize (s : State) (n : Nat) : Nat := 2 ^ s.fld (R.DMA_CH_CFG n) F.DMA_CH_CFG_LOG2_SIZE

/-- The ring index at HEAD. -/
def State.chHead (s : State) (n : Nat) : Nat := s.fld (R.DMA_CH_HEAD n) F.DMA_CH_HEAD_INDEX % s.ringSize n

/-- The host address of the descriptor at HEAD. -/
def State.headAddr (s : State) (n : Nat) : Nat :=
  (s.reg (R.DMA_CH_RING_LO n)).toNat / 32 * 32 + (s.reg (R.DMA_CH_RING_HI n)).toNat * 2 ^ 32 + 32 * s.chHead n

/-- The job of channel `n`. -/
def State.job (s : State) (n : Nat) : Option DmaJob := (s.dma.jobs.find? (fun x => x.1 == n)).map (fun x => x.2)

/-- The fetched descriptor of channel `n` that has not started. -/
def State.fetchedDesc (s : State) (n : Nat) : Option Desc := (s.dma.desc.find? (fun x => x.1 == n)).map (fun x => x.2)

/-- Store the job of channel `n`. -/
def State.setJob (s : State) (n : Nat) (j : DmaJob) : State :=
  { s with dma := { s.dma with jobs := s.dma.jobs.filter (fun x => x.1 != n) ++ [(n, j)] } }

/-- Channel `n` has no descriptor in hand. -/
def State.clearJob (s : State) (n : Nat) : State :=
  { s with dma := { s.dma with
      jobs := s.dma.jobs.filter (fun x => x.1 != n), desc := s.dma.desc.filter (fun x => x.1 != n),
      answers := s.dma.answers.filter (fun x => x.1 != n) } }

/-! Descriptors (R303). -/

/-- Bytes `a` to `a + n - 1` of a descriptor as a number. -/
def descNat (b : List Byte) (a n : Nat) : Nat := leNat ((b.drop a).take n)

/-- A descriptor from its 32 bytes. -/
def descOf (b : List Byte) : Desc :=
  let c := descNat b 0 4
  let ss := descNat b 4 1
  let ds := descNat b 5 1
  { own := c.testBit 31, intr := c.testBit 30, relaxed := c.testBit 29, ido := c.testBit 28, len := c % 2 ^ 26,
    srcSpace := ss % 4, srcRemote := ss.testBit 7, dstSpace := ds % 4, dstRemote := ds.testBit 7,
    controlSet := bitsOf 27 26 c != 0,
    reservedSet := bitsOf 6 2 ss != 0 || bitsOf 6 2 ds != 0 || Nat.ble 512 (descNat b 0x18 2) || Nat.ble 512 (descNat b 0x1A 2),
    src := descNat b 8 8, dst := descNat b 0x10 8, srcDev := descNat b 0x18 2, dstDev := descNat b 0x1A 2 }

/-- Is a side of a descriptor on another device (R302)? -/
def State.farSide (s : State) (remote : Bool) (dev : Nat) : Bool := remote && dev != s.devNum

/-- The end of the window of an address in a space (R301); 0 where the address lies in no window. -/
def windowEnd (space a : Nat) : Nat :=
  match space with
  | 0 => if a < 2 ^ 64 then 2 ^ 64 else 0
  | 1 => if a < 2 ^ 35 then 2 ^ 35 else 0
  | _ => if a < 2 ^ 26 then (a / 2 ^ 20 + 1) * 2 ^ 20 else 0

/-- The bytes from an address to the end of its window. -/
def windowLeft (space a : Nat) : Nat := windowEnd space a - a

/-- Is a descriptor BAD_DESC (R309)? -/
def descBad (d : Desc) : Bool :=
  d.controlSet || d.reservedSet || d.srcSpace == 3 || d.dstSpace == 3 || (d.srcRemote && d.srcSpace == 0) ||
  (d.dstRemote && d.dstSpace == 0)

/-- The job of a descriptor that starts (R308): its bytes, and the side that limits them. -/
def jobOf (d : Desc) : DmaJob :=
  let a := windowLeft d.srcSpace d.src
  let b := windowLeft d.dstSpace d.dst
  let m := if a ≤ b then a else b
  let lim : Option (Nat × Nat) :=
    if d.len ≤ m then none else if a ≤ b then some (1, d.src + a) else some (2, d.dst + b)
  { desc := d, total := if d.len ≤ m then d.len else m, limited := lim, next := 0, reads := [], buffer := [],
    writes := [], done := [], error := none, aborted := false }

/-! Pieces. -/

/-- The length of a piece that starts at address `a` with `n` bytes left: at most 256, not crossing a 256-byte
boundary (R299). -/
def pieceLen (a n : Nat) : Nat := let m := 256 - a % 256; if n < m then n else m

/-- The length of a host read that starts at address `a` with `n` bytes left: at most Max Read Request Size as well (R274,
R299). -/
def State.readLen (s : State) (space a n : Nat) : Nat := if space = 0 then min s.maxRead (pieceLen a n) else pieceLen a n

/-- Cut bytes for host memory: each write within `m` bytes and one 4 KiB page (R274, R299). -/
def hostPieces (m : Nat) : Nat → Nat → Nat → List Byte → List (Nat × List Byte)
  | 0, _, _, _ => []
  | k + 1, dst, off, bs =>
    if bs.isEmpty then []
    else
      let n := min m (min bs.length (4096 - (dst + off) % 4096))
      (off, bs.take n) :: hostPieces m k dst (off + n) (bs.drop n)

/-- Cut bytes at the 256-byte boundaries of the destination. -/
def cutPieces : Nat → Nat → Nat → List Byte → List (Nat × List Byte)
  | 0, _, _, _ => []
  | k + 1, dst, off, bs =>
    if bs.isEmpty then []
    else
      let n := pieceLen (dst + off) bs.length
      (off, bs.take n) :: cutPieces k dst (off + n) (bs.drop n)

/-- The end of the pieces that join without a gap from `p` on. -/
def prefixEnd : Nat → Nat → List (Nat × Nat) → Nat
  | 0, p, _ => p
  | k + 1, p, l =>
    match l.find? (fun x => Nat.ble x.1 p && Nat.blt p (x.1 + x.2)) with
    | some x => prefixEnd k (x.1 + x.2) l
    | none => p

/-- The longest prefix whose writes ended with OK (R311). -/
def donePrefix (j : DmaJob) : Nat := prefixEnd (j.done.length + 1) 0 j.done

/-! Free bytes: what the spec calls undefined (log 3). -/

/-- `k` free bytes. -/
def State.freeRun (s : State) (k : Nat) : List Byte × State :=
  ((List.range k).map (fun i => BitVec.ofNat 8 (Config.freeNat (s.freeCtr + i))), { s with freeCtr := s.freeCtr + k })

/-- Bytes of a piece with the bytes that lie in both ranges of an overlapping descriptor free (R303). -/
def State.overlapFree (s : State) (d : Desc) (off : Nat) (bs : List Byte) : List Byte × State :=
  let same := d.srcSpace == d.dstSpace && s.farSide d.srcRemote d.srcDev == s.farSide d.dstRemote d.dstDev &&
    (!s.farSide d.srcRemote d.srcDev || d.srcDev == d.dstDev)
  let hit (a : Nat) : Bool := Nat.ble d.src a && Nat.blt a (d.src + d.len)
  if same && (List.range bs.length).any (fun i => hit (d.dst + off + i)) then
    let f := s.freeRun bs.length
    ((List.range bs.length).map (fun i => if hit (d.dst + off + i) then f.1.getD i 0 else bs.getD i 0), f.2)
  else (bs, s)

/-- One Design Memory byte of the DM space takes a value. -/
def State.dmByte (s : State) (a : Nat) (b : Byte) : State :=
  let g := a / 2 ^ 20
  let c := g * 16 + a % 2 ^ 20 / 2 ^ 16
  let w := a % 2 ^ 16 / 8
  let m := BitVec.ofNat 8 (2 ^ (a % 8))
  s.dmStore c w (mergeBytes m (s.dmWord c w) (BitVec.ofNat 64 (b.toNat * 2 ^ (8 * (a % 8)))))

/-- Local bytes take free values, where the host may write at all. -/
def State.freeLocal (s : State) (space a n : Nat) : State :=
  let f := s.freeRun n
  (List.range n).foldl (fun s i =>
    if space = 1 then (if s.hostMayWrite (a + i) then s.dsPut (a + i) (f.1.getD i 0) else s)
    else if space = 2 then s.dmByte (a + i) (f.1.getD i 0)
    else s) f.2

/-- Destination bytes of a job beyond `k` are undefined (R313, R316). -/
def State.freeTail (s : State) (j : DmaJob) (k : Nat) : State :=
  if s.farSide j.desc.dstRemote j.desc.dstDev ∨ j.total ≤ k then s
  else s.freeLocal j.desc.dstSpace (j.desc.dst + k) (j.total - k)

/-! The engines (R299, R300, R316). -/

/-- PRIORITY of channel `n`. -/
def State.chPrio (s : State) (n : Nat) : Nat := s.fld (R.DMA_CH_CFG n) F.DMA_CH_CFG_PRIORITY

/-- QUOTA of channel `n` in force. -/
def State.quota (s : State) (n : Nat) : Nat :=
  let q := s.fld (R.DMA_CH_CFG n) F.DMA_CH_CFG_QUOTA
  if q = 0 then 1 else if 64 < q then 64 else q

/-- The buffer bytes a job holds. -/
def heldBytes (j : DmaJob) : Nat :=
  j.reads.foldl (fun n x => n + x.2) 0 + (j.buffer ++ j.writes).foldl (fun n x => n + x.2.length) 0

/-- The pages of 4 KiB that a number of bytes fills. -/
def pagesOf (n : Nat) : Nat := (n + 4095) / 4096

/-- The free pages. -/
def State.freePages (s : State) : Nat := 64 - s.dma.jobs.foldl (fun n x => n + pagesOf (heldBytes x.2)) 0

/-- Reads and WRITEs outstanding. -/
def State.readsOut (s : State) : Nat := s.dma.jobs.foldl (fun n x => n + x.2.reads.length) 0
/-- WRITEs outstanding. -/
def State.writesOut (s : State) : Nat := s.dma.jobs.foldl (fun n x => n + x.2.writes.length) 0

/-- Has a job stopped issuing? -/
def stopped (j : DmaJob) : Bool := j.error.isSome || j.aborted

/-- May channel `n` issue its next read? -/
def State.mayRead (s : State) (n : Nat) (j : DmaJob) : Bool :=
  let k := s.readLen j.desc.srcSpace (j.desc.src + j.next) (j.total - j.next)
  let more := pagesOf (heldBytes j + k) - pagesOf (heldBytes j)
  !stopped j && Nat.blt j.next j.total && Nat.ble (pagesOf (heldBytes j + k)) (s.quota n) && Nat.ble more s.freePages &&
  !(s.host.d3hot && j.desc.srcSpace == 0)

/-- May channel `n` issue its next write? -/
def State.mayWrite (s : State) (j : DmaJob) : Bool :=
  !stopped j && !j.buffer.isEmpty && !(s.host.d3hot && j.desc.dstSpace == 0) &&
  (j.desc.dstSpace == 0 || Nat.blt s.writesOut 256)

/-- Round-robin: the first of `l` above `last`, else the first. -/
def afterLast (last : Nat) (l : List Nat) : Option Nat :=
  match l.find? (fun n => Nat.blt last n) with
  | some n => some n
  | none => l.head?

/-- The channel that engine `e` serves next of those that wait (R300): the highest level, and a lower level once
in 16 issues. -/
def State.pick (s : State) (e : Nat) (wait : List Nat) : Option (Nat × State) :=
  let top := (wait.map s.chPrio).foldl Nat.max 0
  let high := wait.filter (fun n => s.chPrio n == top)
  let low := wait.filter (fun n => s.chPrio n != top)
  let next := (low.map s.chPrio).foldl Nat.max 0
  let turn := NMap.get dZero s.dma.turns e
  let useLow := !low.isEmpty && Nat.ble 15 turn
  let l := if useLow then low.filter (fun n => s.chPrio n == next) else high
  match afterLast (NMap.get dZero s.dma.last e) l with
  | some n =>
    let t := if low.isEmpty || useLow then 0 else turn + 1
    some (n, { s with dma := { s.dma with last := NMap.set dZero s.dma.last e n, turns := NMap.set dZero s.dma.turns e t } })
  | none => none

/-- A local Design Memory request of channel `n` for the bytes at `a`. -/
def State.dmaBank (s : State) (n off a : Nat) (ops : List BankOp) : State :=
  s.bankRequest { gal := a / 2 ^ 20, word := a % 2 ^ 20 / 8, left := ops, since := none, data := [], status := 0,
                  who := .dma n off }

/-- The node that serves address `a` of a space: a Deep Store channel's or a gallery's (R9, R114, R301). -/
def farNode (space a : Nat) : Nat :=
  if space = 1 then
    let n := dsChannel a
    if n < 16 then (n / 2 + 1) * 16 else ((n - 16) / 2 + 1) * 16 + 9
  else galNode (a / 2 ^ 20 % 64)

/-- A request of the engine to another device (R154, R302): it leaves by the port of its route, as DMA requests do on VC 0.
The engine sends no posted write, so nothing is fenced (R291). -/
def State.farRequest (s : State) (kind : PktKind) (dev space a : Nat) (words : List (BitVec 8 × Dword)) : State :=
  match s.routePort dev with
  | none => s
  | some port =>
    s.tunnel port 16
      { kind := kind, vc := 0, len := Fin.ofNat 16 ((words.length + 3) / 4), dest := BitVec.ofNat 8 (farNode space a), src := 0x03,
        destDev := Fin.ofNat 512 dev, srcDev := Fin.ofNat 512 s.devNum, remote := true, tag := 0, wseq := 0, fence := 0,
        fenceValid := false, status := 0, op := 0, firstBe := (words.headD (0xFF, 0)).1,
        lastBe := if words.length = 1 then 0 else (words.getLastD (0xFF, 0)).1,
        addr := BitVec.ofNat 40 (if space = 2 then a % 2 ^ 20 else a), operand := 0,
        data := if kind = PktKind.read then [] else words.map (fun w => w.2) }

/-- The read engine issues one read. -/
def State.issueRead (s : State) (n : Nat) (j : DmaJob) : State :=
  let a := j.desc.src + j.next
  let k := s.readLen j.desc.srcSpace a (j.total - j.next)
  let s := s.setJob n { j with next := j.next + k, reads := j.reads ++ [(j.next, k)] }
  if j.desc.srcSpace = 2 ∧ s.farSide j.desc.srcRemote j.desc.srcDev = false then
    s.dmaBank n j.next a (List.replicate ((a % 8 + k + 7) / 8) .read)
  else if s.farSide j.desc.srcRemote j.desc.srcDev then
    s.farRequest .read j.desc.srcDev j.desc.srcSpace a (List.replicate ((a % 8 + k + 7) / 8) (0xFF, 0))
  else s

/-- The write engine issues one write: a posted write into host memory is done; any other waits for its
response. -/
def State.issueWrite (s : State) (n : Nat) (j : DmaJob) : State :=
  match j.buffer with
  | [] => s
  | x :: xs =>
    let o := s.overlapFree j.desc x.1 x.2
    let s := o.2
    if j.desc.dstSpace = 0 then
      let s := s.setJob n { j with buffer := xs, done := j.done ++ [(x.1, x.2.length)] }
      { s with dma := { s.dma with hostOut := s.dma.hostOut ++ [(n, j.desc.dst + x.1, o.1)] } }
    else
      let a := j.desc.dst + x.1
      let s := s.setJob n { j with buffer := xs, writes := j.writes ++ [(x.1, o.1)] }
      let words := maskedWords ((a % 8 + o.1.length + 7) / 8) (List.replicate (a % 8) none ++ o.1.map some)
      if s.farSide j.desc.dstRemote j.desc.dstDev then s.farRequest .write j.desc.dstDev j.desc.dstSpace a words
      else if j.desc.dstSpace = 2 then s.dmaBank n (2 ^ 26 + x.1) a (words.map (fun w => BankOp.write w.1 w.2))
      else s

/-- The engines issue what they may. -/
def State.pump : Nat → State → State
  | 0, s => s
  | k + 1, s =>
    let w := (s.dma.jobs.filter (fun x => s.mayWrite x.2)).map (fun x => x.1)
    match s.pick 1 w with
    | some (n, t) =>
      match t.job n with
      | some j => State.pump k (t.issueWrite n j)
      | none => s
    | none =>
      if 256 ≤ s.readsOut then s
      else
        let r := s.dma.jobs.filter (fun x => s.mayRead x.1 x.2)
        let above := Nat.blt 64 ((List.range 32).foldl (fun m n => m + s.quota n) 0)
        let bare := r.filter (fun x => heldBytes x.2 == 0)
        let l := if above && !bare.isEmpty then bare else r
        match s.pick 0 (l.map (fun x => x.1)) with
        | some (n, t) =>
          match t.job n with
          | some j => State.pump k (t.issueRead n j)
          | none => s
        | none => s

/-- After every event: the engines issue, and DMA_ENGINE shows them. -/
def State.pumped (s : State) : State :=
  let s := State.pump 1024 s
  ((s.put R.DMA_ENGINE F.DMA_ENGINE_PAGES_FREE s.freePages).put R.DMA_ENGINE F.DMA_ENGINE_WRITES_OUT s.writesOut).put
    R.DMA_ENGINE F.DMA_ENGINE_READS_OUT s.readsOut

/-! Errors and halts (R308 to R313). -/

/-- Latch the failing address and its place, unless a capture stands (R311). -/
def State.latch (s : State) (n : Nat) (e : DmaError) : State :=
  let o := R.DMA_CH_ERR_INFO n
  if s.bit o F.DMA_CH_ERR_INFO_VALID then s
  else
    let s := ((((((s.setReg o 0).put o F.DMA_CH_ERR_INFO_INDEX (s.chHead n)).put o F.DMA_CH_ERR_INFO_DETAIL e.detail).put
      o F.DMA_CH_ERR_INFO_DIRECTION e.dir).put o F.DMA_CH_ERR_INFO_REMOTE (natOfBool e.remote)).put
      o F.DMA_CH_ERR_INFO_SPACE e.space).raise o F.DMA_CH_ERR_INFO_VALID
    if e.dir = 0 then s
    else (s.setReg (R.DMA_CH_ERR_ADDR_LO n) (BitVec.ofNat 32 e.addr)).setReg (R.DMA_CH_ERR_ADDR_HI n)
      (BitVec.ofNat 32 (e.addr / 2 ^ 32))

/-- The channel halts (R313). -/
def State.haltCh (s : State) (n : Nat) : State :=
  let s := (s.clearJob n).setCh n 4
  let s := { s with dma := { s.dma with haltReq := s.dma.haltReq.filter (fun k => k != n) } }
  s.raise (R.DMA_CH_STATUS n) F.DMA_CH_STATUS_HALT_EVT

/-- A fetch or write-back error (R312): RING_ERROR, and the channel halts. -/
def State.ringError (s : State) (n dir detail : Nat) : State :=
  ((s.latch n ⟨s.headAddr n, dir, detail, 0, false⟩).detect 0x0A 3 n).haltCh n

/-- CONTROL of a descriptor with OWN clear (R303, R306). -/
def controlOf (d : Desc) : Nat := natOfBool d.intr * 2 ^ 30 + natOfBool d.relaxed * 2 ^ 29 + natOfBool d.ido * 2 ^ 28 + d.len % 2 ^ 26

/-- The descriptor that channel `n` has in hand. -/
def State.curDesc (s : State) (n : Nat) : Option Desc :=
  match s.job n with
  | some j => some j.desc
  | none => s.fetchedDesc n

/-- The bytes that a write-back puts into the ring, little-endian (R3, R303, R306): STATUS and DONE_LEN, then CONTROL with OWN
clear. -/
def State.wbBytes (s : State) (w : WriteBack) : List RingBytes :=
  let a := s.headAddr w.chan
  [(a + 6, leBytes 2 (w.code % 256 + w.detail % 256 * 256)), (a + 0x1C, leBytes 4 w.done)] ++
    match w.ownCleared, s.curDesc w.chan with
    | true, some d => [(a, leBytes 4 (controlOf d))]
    | _, _ => []

/-- A write-back: an output into the ring. -/
def State.writeBack (s : State) (n code detail done : Nat) (clear : Bool) : State :=
  let w : WriteBack := ⟨n, s.chHead n, code, detail, done, clear⟩
  { s with dma := { s.dma with writeBacks := s.dma.writeBacks ++ [w], ringOut := s.dma.ringOut ++ s.wbBytes w } }.put (R.DMA_CH_STATUS n) F.DMA_CH_STATUS_LAST_CODE code

/-- A descriptor completes with OK or ZERO_LEN (R306, R307): the two write-backs, HEAD, the count, DONE_EVT. -/
def State.finishDesc (s : State) (n code done : Nat) (intr : Bool) (w : RingWrite) : State :=
  match w with
  | .first d => s.ringError n 5 d.toNat
  | .control d => (s.writeBack n code 0 done false).ringError n 5 d.toNat
  | .ok =>
    let s := s.writeBack n code 0 done true
    let o := R.DMA_CH_HEAD n
    let s := s.put o F.DMA_CH_HEAD_INDEX ((s.chHead n + 1) % s.ringSize n)
    let s := s.setReg (R.DMA_CH_DONE_COUNT n) (s.reg (R.DMA_CH_DONE_COUNT n) + 1)
    let s := if intr then s.raise (R.DMA_CH_STATUS n) F.DMA_CH_STATUS_DONE_EVT else s
    let s := s.clearJob n
    { s with dma := { s.dma with kicked := NMap.set dFalse s.dma.kicked n false } }

/-- A descriptor fails (R308 to R311, R314): its write-back leaves OWN set, and the channel halts. -/
def State.failDesc (s : State) (n code detail done : Nat) (w : RingWrite) : State :=
  match w with
  | .first d => s.ringError n 5 d.toNat
  | _ => (s.writeBack n code detail done false).haltCh n

/-- A data request of a job fails (R311): the first one is latched and logged, and the channel issues no more. -/
def State.busError (s : State) (n : Nat) (j : DmaJob) (e : DmaError) : State :=
  if j.error.isSome then s.setJob n j
  else (((s.setJob n { j with error := some e }).latch n e).detect 0x0A 0 n).setCh n 3

end Sys2Proof.Machine
end

