-- ==== Sys2Proof/Machine/Dma.lean ====
section
/-! DEFINITION. The DMA engine's commands (11, R304 to R317). -/

namespace Sys2Proof.Machine

/-! Channel control (R305, R314, R315, R317). -/

/-- KICK (R305): an IDLE channel runs; in any other state the kick is kept for one more fetch. -/
def execKick (n : Fin 32) (s : State) : Out :=
  match s.chState n.val with
  | 1 => .next (s.setCh n.val 2)
  | 0 => .next s
  | _ => .next { s with dma := { s.dma with kicked := NMap.set dFalse s.dma.kicked n.val true } }

/-- DMA_HALT (R314): the channel halts before the next descriptor starts. No effect unless it runs. -/
def execDmaHalt (n : Fin 32) (s : State) : Out :=
  if s.chState n.val ≠ 2 then .next s
  else .next ({ s with dma := { s.dma with haltReq := s.dma.haltReq ++ [n.val] } }.setCh n.val 3)

/-- ABORT (R314): stops the descriptor in progress; with none in progress the channel halts. -/
def execAbort (n : Fin 32) (s : State) : Out :=
  if s.chState n.val ≠ 2 ∧ s.chState n.val ≠ 3 then .next s
  else match s.job n.val with
    | some j => if j.error.isSome then .next s else .next ((s.setJob n.val { j with aborted := true }).setCh n.val 3)
    | none =>
      let q := s.dma.haltReq.filter (fun k => k != n.val) ++ [n.val]
      .next ({ s with dma := { s.dma with haltReq := q } }.setCh n.val 3)

/-- DMA_RESUME (R315): a HALTED channel fetches HEAD again. -/
def execDmaResume (n : Fin 32) (s : State) : Out :=
  if s.chState n.val ≠ 4 then .next s else .next (s.setCh n.val 2)

/-- CFG_ERR of channel `n`. -/
def State.chCfgErr (s : State) (n : Nat) : State := s.raise (R.DMA_CH_STATUS n) F.DMA_CH_STATUS_CFG_ERR

/-- A write of DMA_CH_CFG (R317). -/
def State.writeChCfg (s : State) (n : Nat) (w : Word) : State :=
  let o := R.DMA_CH_CFG n
  let on := s.bit o F.DMA_CH_CFG_ENABLE
  let size := F.DMA_CH_CFG_LOG2_SIZE.of w
  let old := s.fld o F.DMA_CH_CFG_LOG2_SIZE
  let s := (s.put o F.DMA_CH_CFG_PRIORITY (F.DMA_CH_CFG_PRIORITY.of w)).put o F.DMA_CH_CFG_QUOTA (F.DMA_CH_CFG_QUOTA.of w)
  if on then
    let s := if size ≠ old then s.chCfgErr n else s
    if w.getLsbD 31 then s
    else if s.chState n = 2 ∨ s.chState n = 3 then s.chCfgErr n
    else ((s.put o F.DMA_CH_CFG_ENABLE 0).clearJob n).setCh n 0
  else
    let s := s.put o F.DMA_CH_CFG_LOG2_SIZE size
    if w.getLsbD 31 = false then s
    else if size = 0 ∨ 16 < size then s.chCfgErr n
    else (s.raise o F.DMA_CH_CFG_ENABLE).setCh n 1

/-- CHANNEL_ENABLE (R317): a write of DMA_CH_CFG whose ENABLE is 1. -/
def execChannelEnable (n : Fin 32) (w : Word) (s : State) : Out := .next (s.writeChCfg n.val (w ||| 0x80000000)).pumped

/-- DMA_HEAD_WRITE (R317). -/
def execDmaHeadWrite (n : Fin 32) (i : BitVec 16) (s : State) : Out :=
  if s.chState n.val ≠ 0 ∧ s.chState n.val ≠ 4 then .next (s.chCfgErr n.val)
  else .next (s.put (R.DMA_CH_HEAD n.val) F.DMA_CH_HEAD_INDEX i.toNat)

/-- DONE_COUNT_CLEAR (R306). -/
def execDoneCountClear (n : Fin 32) (s : State) : Out := .next (s.setReg (R.DMA_CH_DONE_COUNT n.val) 0)

/-! Descriptors (R305 to R309, R312). -/

/-- DESCRIPTOR_FETCH (R305, R312): the descriptor at HEAD comes, as 32 bytes. -/
def execDescriptorFetch (n : Fin 32) (r : DmaResult) (s : State) : Out :=
  if s.chState n.val ≠ 2 ∨ (s.job n.val).isSome ∨ (s.fetchedDesc n.val).isSome ∨ s.host.d3hot then .next s
  else match r with
    | .fail d => .next (s.ringError n.val 4 d.toNat)
    | .ok bs =>
      let d := descOf bs
      if d.own then .next { s with dma := { s.dma with desc := s.dma.desc ++ [(n.val, d)] } }
      else if NMap.get dFalse s.dma.kicked n.val then
        .next { s with dma := { s.dma with kicked := NMap.set dFalse s.dma.kicked n.val false } }
      else .next (s.setCh n.val 1)

/-- DESCRIPTOR_START (R305, R307 to R309): the checks, then the first data request. `w` is how the write-backs
end of a descriptor that moves nothing. -/
def execDescriptorStart (n : Fin 32) (w : RingWrite) (s : State) : Out :=
  if s.chState n.val ≠ 2 ∨ (s.job n.val).isSome then .next s
  else match s.fetchedDesc n.val with
    | none => .next s
    | some d =>
      if d.len = 0 ∧ d.controlSet = false then
        (if s.host.d3hot then .next s else .next ((s.finishDesc n.val 1 0 d.intr w)).pumped)
      else if descBad d then
        (if s.host.d3hot then .next s
         else .next (((s.latch n.val ⟨0, 0, 0, 0, false⟩).detect 0x0A 2 n.val).failDesc n.val 4 0 0 w))
      else
        let j := jobOf d
        if j.total = 0 then
          (if s.host.d3hot then .next s
           else
            let lim := j.limited.getD (0, 0)
            let src := lim.1 == 1
            let e : DmaError := ⟨lim.2, lim.1, 0, if src then d.srcSpace else d.dstSpace, if src then d.srcRemote else d.dstRemote⟩
            .next (((s.latch n.val e).detect 0x0A 1 n.val).failDesc n.val 2 0 0 w))
        else if s.host.d3hot ∧ d.srcSpace = 0 then .next s
        else
          let s := { s with dma := { s.dma with desc := s.dma.desc.filter (fun x => x.1 != n.val) } }
          .next (s.setJob n.val j).pumped

/-! Data (R299, R301, R302, R311). -/

/-- The answer of a local bank to channel `n`. -/
def State.bankAnswer (s : State) (n off : Nat) : Option (Nat × List Dword) :=
  (s.dma.answers.find? (fun x => x.1 == n && x.2.1 == off)).map (fun x => x.2.2)

/-- The answer has been taken. -/
def State.tookAnswer (s : State) (n off : Nat) : State :=
  { s with dma := { s.dma with answers := s.dma.answers.filter (fun x => !(x.1 == n && x.2.1 == off)) } }

/-- A local Deep Store read: its bytes, or the status (R117, R124, R116). -/
def State.dmaDsRead (s : State) (a k : Nat) : Nat × List Byte × State :=
  if s.chanReady (dsChannel a) = false then (9, [], s)
  else if s.hostMayRead a = false then (8, [], s.detect 0x04 4 (dsChannel a) (leBytes 8 a))
  else
    let r := s.dsReadBytes a k
    (if r.2.1 then 7 else 0, r.1, r.2.2)

/-- A local Deep Store write of the enabled bytes: its status; a part of a word with a double error is not written (R116). -/
def State.dmaDsWrite (s : State) (a : Nat) (bs : List (Option Byte)) : Nat × State :=
  if s.chanReady (dsChannel a) = false then (9, s)
  else if s.hostMayWrite a = false then (8, s.detect 0x04 4 (dsChannel a) (leBytes 8 a))
  else
    let l := List.replicate (a % 8) none ++ bs
    let ws := maskedWords ((l.length + 7) / 8) l
    let ue := (List.range ws.length).any (fun i =>
      let m := (ws.getD i (0, 0)).1
      m != 0 && m != 0xFF && s.dsMark (a / 8 + i) == .double)
    (if ue then 7 else 0, s.dsWriteSome a bs)

/-- How a read of a piece ends: none when its answer has not come. A request to another device without a route
ends in NO_ROUTE (R154). -/
def State.readResult (s : State) (n : Nat) (j : DmaJob) (x : Nat × Nat) (r : DmaResult) : Option (Nat × List Byte × State) :=
  let d := j.desc
  let a := d.src + x.1
  let ext : Nat × List Byte × State := match r with
    | .ok bs => (0, bs.take x.2, s)
    | .fail e => (e.toNat, [], if d.srcSpace = 0 then s.hostReadErr e.toNat else s)
  if s.farSide d.srcRemote d.srcDev then (if (s.routePort d.srcDev).isNone then some (0x0A, [], s) else some ext)
  else match d.srcSpace with
    | 0 => some ext
    | 1 => some (s.dmaDsRead a x.2)
    | _ =>
      match s.bankAnswer n x.1 with
      | some b => some (b.1, ((b.2.flatMap (fun w => leBytes 8 w.toNat)).drop (a % 8)).take x.2, s.tookAnswer n x.1)
      | none => none

/-- DMA_READ_COMPLETION (R299, R311): the read of the piece at `off` ends; its data goes to the write engine. Data of
host memory and of another device is the environment's; local data is the block's own. -/
def execDmaReadCompletion (n : Fin 32) (off : Fin 67108864) (r : DmaResult) (s : State) : Out :=
  match s.job n.val with
  | none => .next s
  | some j =>
    match j.reads.find? (fun x => x.1 == off.val) with
    | none => .next s
    | some x =>
      match s.readResult n.val j x r with
      | none => .next s
      | some (st, bs, s) =>
        let d := j.desc
        let j := { j with reads := j.reads.erase x }
        if st ≠ 0 then .next (s.busError n.val j ⟨d.src + x.1, 1, st, d.srcSpace, d.srcRemote⟩).pumped
        else if stopped j then .next (s.setJob n.val j).pumped
        else
          let ps := if d.dstSpace = 0 then hostPieces s.maxPayload 4 d.dst x.1 bs else cutPieces 3 d.dst x.1 bs
          .next (s.setJob n.val { j with buffer := j.buffer ++ ps }).pumped

/-- How a WRITE of a piece ends: none when its answer has not come. -/
def State.writeResult (s : State) (n : Nat) (j : DmaJob) (x : Nat × List Byte) (st : Nat) : Option (Nat × State) :=
  let d := j.desc
  if s.farSide d.dstRemote d.dstDev then (if (s.routePort d.dstDev).isNone then some (0x0A, s) else some (st, s))
  else match d.dstSpace with
    | 1 => some (s.dmaDsWrite (d.dst + x.1) (x.2.map some))
    | _ => (s.bankAnswer n (2 ^ 26 + x.1)).map (fun b => (b.1, s.tookAnswer n (2 ^ 26 + x.1)))

/-- DMA_WRITE_RESPONSE (R299, R311): the WRITE of the piece at `off` ends; its page is free. `st` is the status another
device answers. -/
def execDmaWriteResponse (n : Fin 32) (off : Fin 67108864) (st : BitVec 8) (s : State) : Out :=
  match s.job n.val with
  | none => .next s
  | some j =>
    match j.writes.find? (fun x => x.1 == off.val) with
    | none => .next s
    | some x =>
      match s.writeResult n.val j x st.toNat with
      | none => .next s
      | some (st, s) =>
        let d := j.desc
        let j := { j with writes := j.writes.erase x }
        if st ≠ 0 then .next (s.busError n.val j ⟨d.dst + x.1, 2, st, d.dstSpace, d.dstRemote⟩).pumped
        else .next (s.setJob n.val { j with done := j.done ++ [(x.1, x.2.length)] }).pumped

/-! Completion and halting (R306, R308, R311, R314). -/

/-- Has every outstanding request of a job ended? -/
def quiet (j : DmaJob) : Bool := j.reads.isEmpty && j.writes.isEmpty

/-- The status of a read-back of the last byte at `a` (R306): of a local store, or the environment's. -/
def State.readBackStatus (s : State) (d : Desc) (a st : Nat) : Nat × State :=
  if s.farSide d.dstRemote d.dstDev then (if (s.routePort d.dstDev).isNone then 0x0A else st, s)
  else match d.dstSpace with
    | 0 => (st, s)
    | 1 => let r := s.dmaDsRead (a / 8 * 8) 8; (r.1, r.2.2)
    | _ =>
      let g := a / 2 ^ 20
      if s.isOff g then (2, s.bump (R.NOC_OFF_COUNT g) F.NOC_OFF_COUNT_REQUESTS)
      else if s.testing g then (4, s)
      else if s.fab.isolated.contains g then (5, s)
      else if st = 3 then (3, s)
      else
        let r := s.dmRead (g * 16 + a % 2 ^ 20 / 2 ^ 16) (a % 2 ^ 16 / 8) .noc 0
        (if r.2.1 then 6 else 0, r.2.2)

/-- Does a job wait for a read-back? One whose bytes are all written, or a failing one with a prefix in host
memory. -/
def wantsReadBack (j : DmaJob) : Bool :=
  quiet j && (if stopped j then j.desc.dstSpace == 0 && donePrefix j != 0 else donePrefix j == j.total)

/-- A failing job is written back with BUS_ERROR or ABORTED, and the channel halts. -/
def State.endFailed (s : State) (n : Nat) (j : DmaJob) (w : RingWrite) : State :=
  let k := donePrefix j
  let s := s.freeTail j k
  match j.error with
  | some e => s.failDesc n 3 e.detail k w
  | none => s.failDesc n 5 0 k w

/-- READ_BACK (R306, R308, R311): the read-back ends with status `st` of the environment; the descriptor is
written back. -/
def execReadBack (n : Fin 32) (st : BitVec 8) (w : RingWrite) (s : State) : Out :=
  match s.job n.val with
  | none => .next s
  | some j =>
    if wantsReadBack j = false ∨ s.host.d3hot then .next s
    else
      let d := j.desc
      let k := donePrefix j
      let r := s.readBackStatus d (d.dst + k - 1) st.toNat
      let s := r.2
      if r.1 ≠ 0 then
        let unit := if d.dstSpace = 0 then 4 else 8
        let a := (d.dst + k - 1) / unit * unit
        let s := s.busError n.val j ⟨a, 3, r.1, d.dstSpace, d.dstRemote⟩
        .next (s.endFailed n.val { j with error := some (j.error.getD ⟨a, 3, r.1, d.dstSpace, d.dstRemote⟩) } w).pumped
      else if stopped j then .next (s.endFailed n.val j w).pumped
      else match j.limited with
        | some lim =>
          let src := lim.1 == 1
          let e : DmaError := ⟨lim.2, lim.1, 0, if src then d.srcSpace else d.dstSpace, if src then d.srcRemote else d.dstRemote⟩
          .next (((s.latch n.val e).detect 0x0A 1 n.val).failDesc n.val 2 0 k w).pumped
        | none => .next (s.finishDesc n.val 0 d.len d.intr w).pumped

/-- CHANNEL_HALT (R311, R314): outstanding requests have ended; a failing descriptor is written back, and the channel
halts. A HALT request takes effect between descriptors. -/
def execChannelHalt (n : Fin 32) (w : RingWrite) (s : State) : Out :=
  match s.job n.val with
  | some j =>
    if stopped j = false ∨ quiet j = false ∨ wantsReadBack j ∨ s.host.d3hot then .next s
    else .next (s.endFailed n.val j w).pumped
  | none => if s.dma.haltReq.contains n.val then .next (s.haltCh n.val) else .next s

end Sys2Proof.Machine
end

