-- ==== Sys2Proof/Machine/Flits.lean ====
section
/-! DEFINITION. The bits of what crosses a Passage port: flits, stream packets and the control field of a block (05,
R127, R130; 10, R289; 13, R346). -/

namespace Sys2Proof.Machine

/-- A word from its fields, each as low bit, width and value. -/
def packed (fs : List (Nat × Nat × Nat)) : Nat := fs.foldl (fun n f => n + f.2.2 % 2 ^ f.2.1 * 2 ^ f.1) 0

/-- A 256-bit flit from its fields. -/
def flitBits (fs : List (Nat × Nat × Nat)) : BitVec 256 := BitVec.ofNat 256 (packed fs)

/-- A SLOT flit (R130). -/
def slotBits (f : SlotFlit) : BitVec 256 :=
  flitBits [(252, 4, 1), (249, 3, f.ctx), (246, 3, f.tick), (240, 6, f.flit), (0, 240, bitsNat f.vals)]

/-- A LATTICE flit (R130). -/
def latBits (f : LatFlit) : BitVec 256 :=
  flitBits [(252, 4, 5), (248, 4, f.sub), (239, 9, f.origin), (175, 64, f.tick.toNat), (127, 48, f.time), (0, 127, f.low)]

/-- A TIME flit (R346). -/
def timeBits (f : TimeFlit) : BitVec 256 :=
  flitBits [(252, 4, 3), (249, 3, f.sub.toNat), (240, 9, f.origin.val), (224, 16, f.seq.toNat), (208, 16, f.wrap.toNat),
    (160, 48, f.time.toNat), (96, 64, f.corr.toNat), (91, 5, f.hops.toNat)]

/-- The KIND of a packet header (R289). -/
def pktCode : PktKind → Nat
  | .read => 1 | .write => 2 | .posted => 3 | .atomic => 4 | .response => 5 | .message => 6 | .reserved => 0

/-- The header flit of a Control NoC packet (R289). A node is y + 16·x. -/
def headBits (p : NocPkt) : BitVec 256 :=
  flitBits [(252, 4, pktCode p.kind), (250, 2, p.vc.val), (246, 4, p.len.val), (238, 8, p.dest.toNat), (230, 8, p.src.toNat),
    (221, 9, p.destDev.val), (212, 9, p.srcDev.val), (211, 1, natOfBool p.remote), (201, 10, p.tag.toNat),
    (193, 8, p.wseq.toNat), (185, 8, p.fence.toNat), (184, 1, natOfBool p.fenceValid), (176, 8, p.status.toNat),
    (168, 8, p.op.toNat), (160, 8, p.firstBe.toNat), (152, 8, p.lastBe.toNat), (112, 40, p.addr.toNat),
    (48, 64, p.operand.toNat)]

/-- Data flits of 32 bytes each, byte 0 in bits 7:0 (R3). -/
def dataFlits (n : Nat) (bs : List Byte) : List (BitVec 256) :=
  (List.range n).map (fun i => BitVec.ofNat 256 (leNat ((bs.drop (32 * i)).take 32)))

/-- A Control NoC packet: its header flit and LEN data flits (R289). -/
def pktBits (p : NocPkt) : List (BitVec 256) :=
  headBits p :: dataFlits p.len.val (p.data.flatMap (fun d => leBytes 8 d.toNat))

/-- A NOC stream packet (R130, R154): a stream header, then the NoC flits as they are. -/
def nocStream (ttl : Nat) (p : NocPkt) : List (BitVec 256) :=
  flitBits [(252, 4, 2), (250, 2, p.vc.val), (246, 4, (pktBits p).length), (241, 5, ttl), (232, 9, p.destDev.val),
    (223, 9, p.srcDev.val)] :: pktBits p

/-- An IMAGE burst (R130): a stream header, then up to 16 data flits. -/
def imageStream (off : Nat) (bs : List Byte) : List (BitVec 256) :=
  let n := (bs.length + 31) / 32
  flitBits [(252, 4, 4), (247, 5, n), (200, 40, off)] :: dataFlits n bs

/-- The port of a flit. -/
def TxFlit.port : TxFlit → Nat
  | .slot f => f.port
  | .lattice p _ => p
  | .time p _ => p
  | .noc p _ _ => p
  | .image p _ _ => p

/-- Its place in a port's order (R131): LATTICE, SLOT, TIME; then the stream by VC in the order 3, 1, 2, 0, then
images. -/
def TxFlit.rank : TxFlit → Nat
  | .lattice _ _ => 0
  | .slot _ => 1
  | .time _ _ => 2
  | .noc _ _ k => match k.vc.val with | 3 => 3 | 1 => 4 | 2 => 5 | _ => 6
  | .image _ _ _ => 7

/-- Is it self-contained (R130)? -/
def TxFlit.own (f : TxFlit) : Bool := Nat.blt f.rank 3

/-- The flits it takes. -/
def TxFlit.bits : TxFlit → List (BitVec 256)
  | .slot f => [slotBits f]
  | .lattice _ f => [latBits f]
  | .time _ f => [timeBits f]
  | .noc _ ttl k => nocStream ttl k
  | .image _ off bs => imageStream off bs

/-- An IDLE flit, of the stream (R127, R130). -/
def idleFlit : BlockFlit := ⟨false, 0⟩

/-- Take stream packets until `room` flits are there: the flits, the packets left. -/
def gatherStream (room : Nat) : List (BitVec 256) → List TxFlit → List (BitVec 256) × List TxFlit
  | buf, [] => (buf, [])
  | buf, f :: fs => if room ≤ buf.length then (buf, f :: fs) else gatherStream room (buf ++ f.bits) fs

/-- The 19 flits of a port's next block out of what it is to send, `fs`, and the rest `buf` of a stream packet (R127,
R131): the flits; what is left; the rest of the stream packet under way. -/
def fillBlock (buf : List (BitVec 256)) (fs : List TxFlit) : List BlockFlit × List TxFlit × List (BitVec 256) :=
  let ofRank (r : Nat) : List TxFlit := fs.filter (fun f => f.rank == r)
  let own := ofRank 0 ++ ofRank 1 ++ ofRank 2
  let now := (own.take 19).flatMap (fun f => f.bits.map (fun b => (⟨true, b⟩ : BlockFlit)))
  let room := 19 - now.length
  let g := gatherStream room buf (ofRank 3 ++ ofRank 4 ++ ofRank 5 ++ ofRank 6 ++ ofRank 7)
  let sent := now ++ (g.1.take room).map (fun b => (⟨false, b⟩ : BlockFlit))
  (sent ++ List.replicate (19 - sent.length) idleFlit, own.drop 19 ++ g.2, g.1.drop room)

/-- The 276 control bits of a block (R127). -/
def TxBlock.control (b : TxBlock) : BitVec 276 :=
  BitVec.ofNat 276 (packed [(18, 19, bitsNat (b.flits.map (fun f => f.own))), (10, 8, b.seq), (2, 8, b.ack),
    (1, 1, natOfBool b.ackValid), (0, 1, natOfBool b.nak)])

/-- The 5,140 payload bits of a block (R127): the control bits, then the flits. DESIGN CHOICE (log 52): the spec gives no
order of the two; the control bits lie lowest. -/
def TxBlock.payload (b : TxBlock) : BitVec 5140 :=
  BitVec.ofNat 5140 (b.control.toNat + (b.flits.zipIdx.map (fun f => f.1.bits.toNat * 2 ^ (276 + 256 * f.2))).foldl Nat.add 0)

end Sys2Proof.Machine
end

