-- ==== Sys2Proof/Machine/RegOps.lean ====
section
/-! DEFINITION. A software write of a register by the types of its fields, with reserved encodings left
unstored (00, R4, R5, R6). -/

namespace Sys2Proof.Machine

/-- Fields of two bits at even places whose encoding `bad` is reserved: a write of it leaves the field (R5). -/
def keepPairs (bad : Nat → Nat → Bool) (n : Nat) (old new : Word) : Word :=
  (List.range n).foldl (fun w j =>
    if bad j (bitsOf (2 * j + 1) (2 * j) new.toNat) then Field.put ⟨2 * j + 1, 2 * j⟩ w (bitsOf (2 * j + 1) (2 * j) old.toNat)
    else w) new

/-- Is FILTER valid on comparator `j` with the range bits of the word written (TRC_CMP_CTL)? -/
def filterOk (w : Word) (j : Nat) : Bool := if j = 0 then w.getLsbD 8 else if j = 2 then w.getLsbD 9 else false

/-- The word a write stores once its reserved encodings are left at the previous value (R5). -/
def legalWord (o : Nat) (old new : Word) : Word :=
  if 0x61000 ≤ o ∧ o < 0x62100 ∧ (o - 0x61000) % 0x40 = 8 then keepPairs (fun j v => v == 3 && !filterOk new j) 4 old new
  else if R.PWR_GAL_REQ 0 ≤ o ∧ o ≤ R.PWR_GAL_REQ 3 then keepPairs (fun _ v => v == 3) 16 old new
  else if (o = R.ETH_CFG 0 ∨ o = R.ETH_CFG 1) ∧ F.ETH_CFG_PTP_ROLE.of new = 3 then
    F.ETH_CFG_PTP_ROLE.put new (F.ETH_CFG_PTP_ROLE.of old)
  else if 0x80000 ≤ o ∧ o < 0x90000 ∧ o % 0x1000 = 0 ∧ 2 ≤ F.PSG_CTL_WIDTH_REQ.of new then
    F.PSG_CTL_WIDTH_REQ.put new (F.PSG_CTL_WIDTH_REQ.of old)
  else if 0x100200 ≤ o ∧ o < 0x100240 ∧ o % 16 = 0 ∧ F.SP_CTL_MODE.of new = 0 ∧ F.SP_CTL_FORMAT.of new = 3 then
    F.SP_CTL_FORMAT.put new (F.SP_CTL_FORMAT.of old)
  else new

/-- A software write of the register at `o` (R4 to R6): each field by its type; where no register lies, nothing
(R11). -/
def State.typedStore (s : State) (o : Nat) (w : Word) : State :=
  match regRow o with
  | some r => s.setReg o (s.written o r.fields (legalWord o (s.reg o) w))
  | none => s

end Sys2Proof.Machine
end

