-- ==== Sys2Proof/Machine/Ports.lean ====
section
/-! DEFINITION. Passage ports: training, latency, blocks, retry and IDENT (05, R125 to R136, R153, R156). -/

namespace Sys2Proof.Machine

/-! Port state (R132, R153). -/

/-- Set STATE of port `p`. -/
def State.setPort (s : State) (p n : Nat) : State := s.put (R.PSG_STATUS p) F.PSG_STATUS_STATE n

/-- The packets a port was to send, as the tunnel keeps them. -/
def TxFlit.packet (f : TxFlit) : Option (Nat × Nat × NocPkt) :=
  match f with
  | .noc p ttl k => some (p, ttl, k)
  | _ => none

/-- The link layer of port `p` starts afresh: blocks, sequence numbers, tunnel credit. DESIGN CHOICE (log 52): self-contained
flits not yet sent are dropped, Control NoC packets go back to wait for credit, image bursts stay. -/
def State.resetLink (s : State) (p : Nat) : State :=
  let mine (f : TxFlit) : Bool := f.port == p
  { s with
    noc := { s.noc with tunnelQ := (s.psg.out.filter mine).filterMap TxFlit.packet ++ s.noc.tunnelQ },
    psg := { s.psg with
      out := s.psg.out.filter (fun f => !mine f || f.rank == 7),
      retry := s.psg.retry.filter (fun b => b.port != p), txSeq := NMap.set dZero s.psg.txSeq p 0,
      rxSeq := NMap.set dZero s.psg.rxSeq p 0, discarding := s.psg.discarding.filter (fun q => q != p),
      stream := NMap.set (fun _ => []) s.psg.stream p [], nakDue := s.psg.nakDue.filter (fun q => q != p),
      creditUsed := s.psg.creditUsed.keep (fun k => k / 4 != p) } }

/-- A LATTICE_TRAIN ends when its last port has trained or gone DOWN: PARTIAL when one has not trained. -/
def State.trainOver (s : State) (p : Nat) (ok : Bool) : State :=
  if s.psg.trainPorts.contains p = false then s
  else
    let s := { s with psg := { s.psg with trainPorts := s.psg.trainPorts.filter (fun q => q != p),
                                          trainDone := s.psg.trainDone ++ [(p, ok)] } }
    if s.psg.trainPorts.isEmpty = false then s
    else
      let good := (s.psg.trainDone.filter (fun x => x.2)).map (fun x => x.1)
      let st := if good.length = s.psg.trainDone.length then 0 else 0x26
      { s with psg := { s.psg with training := none, trainDone := [] } }.completeOpt s.psg.training st
        (BitVec.ofNat 64 (bitSet good))

/-- What leaving the trained state clears: LAT_PORT (R71), HELD, the width, the readiness bit (R268). -/
def State.untrain (s : State) (p : Nat) : State :=
  let s := ((s.setReg (R.LAT_PORT p) 0).setHeld p).setReady (portBit p) false
  ((s.put (R.PSG_STATUS p) F.PSG_STATUS_WIDTH 0).put (R.PSG_STATUS p) F.PSG_STATUS_LOOPBACK_ACTIVE 0).resetLink p

/-- Port `p` leaves the trained state for state `n` with LINK_DOWN (R153); an untrained port only takes the
state. -/
def State.leaveTrained (s : State) (p n : Nat) : State :=
  if s.trained p then ((s.untrain p).setPort p n).recordPsg p 1 else s.setPort p n

/-- Port `p` goes DOWN. -/
def State.portDown (s : State) (p : Nat) : State := ((s.leaveTrained p 6).trainOver p false)

/-- An attempt starts (R132). -/
def State.attempt (s : State) (p : Nat) : State :=
  (((s.setPort p 1).put (R.PSG_STATUS p) F.PSG_STATUS_LANES_OK 0).put (R.PSG_STATUS p) F.PSG_STATUS_WIDTH 0).put
    (R.PSG_PEER p) F.PSG_PEER_VALID 0

/-- Training starts (R132): the failure count restarts. -/
def State.train (s : State) (p : Nat) : State :=
  ((s.leaveTrained p 1).put (R.PSG_STATUS p) F.PSG_STATUS_FAILS 0).attempt p

/-- Is an attempt under way? -/
def State.inTraining (s : State) (p : Nat) : Bool := Nat.ble 1 (s.portState p) && Nat.ble (s.portState p) 4

/-- An attempt fails (R132): another starts; the third failure takes the port DOWN with LINK_DOWN. -/
def State.attemptFails (s : State) (p : Nat) : State :=
  let s := s.bump (R.PSG_STATUS p) F.PSG_STATUS_FAILS
  if s.fld (R.PSG_STATUS p) F.PSG_STATUS_FAILS < 3 then s.attempt p
  else ((s.setPort p 6).recordPsg p 1).trainOver p false

/-! PSG_CTL and PSG_COUNT_CTL (R156). -/

/-- Port `p` loses its power: a trained port leaves the trained state, an attempt ends. -/
def State.portOff (s : State) (p : Nat) : State := ((s.leaveTrained p 0).trainOver p false)

/-- A write of PSG_CTL (R156): dropped with PSG_CTL_IN_USE while the image uses the port; DOWN acts before
TRAIN. DESIGN CHOICE (log 52): a write that takes ENABLE from 1 to 0 turns the port OFF; training itself turns the
transmitters and receivers on (R132). -/
def State.writePsgCtl (s : State) (p : Nat) (w : Word) : State :=
  if s.portInImage p then s.detect 0x05 0x12 p
  else
    let o := R.PSG_CTL p
    let w := legalWord o (s.reg o) w
    let off := s.bit o F.PSG_CTL_ENABLE && F.PSG_CTL_ENABLE.of w == 0
    let s := ((s.put o F.PSG_CTL_WIDTH_REQ (F.PSG_CTL_WIDTH_REQ.of w)).put o F.PSG_CTL_LOOPBACK (F.PSG_CTL_LOOPBACK.of w)).put
      o F.PSG_CTL_ENABLE (F.PSG_CTL_ENABLE.of w)
    let s := if off then s.portOff p else s
    let s := if w.getLsbD 2 then s.portDown p else s
    if w.getLsbD 1 then s.train p else s

/-- PSG_TRAIN (R132, R156): a write of PSG_CTL whose TRAIN is 1. -/
def execPsgTrain (p : PortNo) (w : Word) (s : State) : Out := .next (s.writePsgCtl p.val (w ||| 2))

/-- PSG_DOWN (R156): a write of PSG_CTL whose DOWN is 1. -/
def execPsgDown (p : PortNo) (w : Word) (s : State) : Out := .next (s.writePsgCtl p.val (w ||| 4))

/-- CLR_FEC (R156). -/
def execClrFec (p : PortNo) (s : State) : Out :=
  .next ((s.setReg (R.PSG_FEC_CE p.val) 0).setReg (R.PSG_FEC_UE p.val) 0)
/-- CLR_RETRY (R156). -/
def execClrRetry (p : PortNo) (s : State) : Out := .next (s.setReg (R.PSG_RETRY_COUNT p.val) 0)
/-- CLR_DROP (R156). -/
def execClrDrop (p : PortNo) (s : State) : Out := .next (s.setReg (R.PSG_TUNNEL_DROP p.val) 0)

/-! Training (R125, R132 to R135). -/

/-- LANE_EQUALISED (R132). -/
def execLaneEqualised (p : PortNo) (k : Fin 4) (s : State) : Out :=
  if s.portState p.val ≠ 1 then .next s
  else .next (s.put (R.PSG_STATUS p.val) F.PSG_STATUS_LANES_OK (s.fld (R.PSG_STATUS p.val) F.PSG_STATUS_LANES_OK ||| 2 ^ k.val))

/-- The width port `p` takes (R125): four lanes when all have equalised and two were not asked for; two lanes
when lanes 0 and 1 have; none otherwise. -/
def State.widthOf (s : State) (p : Nat) : Nat :=
  let ok := s.fld (R.PSG_STATUS p) F.PSG_STATUS_LANES_OK
  if ok = 15 ∧ s.fld (R.PSG_CTL p) F.PSG_CTL_WIDTH_REQ ≠ 1 then 2 else if ok % 4 = 3 then 1 else 0

/-- BLOCK_LOCK (R132): deskew, FEC and block lock complete. -/
def execBlockLock (p : PortNo) (s : State) : Out :=
  if s.portState p.val ≠ 1 ∨ s.widthOf p.val = 0 then .next s
  else
    let s := (s.put (R.PSG_STATUS p.val) F.PSG_STATUS_WIDTH (s.widthOf p.val)).resetLink p.val
    .next ((s.setPort p.val 2).sendIdent p.val)

/-- A one-way delay with the port's asymmetry (R348), in ps; never below 0. -/
def State.delayOf (s : State) (p : Nat) (d : Word) : Nat :=
  ((d.toNat : Int) + (s.reg (R.TB_PSG_ASYM p)).toInt).toNat

/-- LATENCY_MEASURED (R134): the largest one-way sample, the mean sample and the smallest round trip, in ps as
measured. A step lasts 2/3 ns. -/
def execLatencyMeasured (p : PortNo) (dmax mean rtt : Word) (s : State) : Out :=
  if s.portState p.val ≠ 3 then .next s
  else
    let d := s.delayOf p.val dmax
    if 700000 < d then .next (s.attemptFails p.val)
    else
      let s := (s.setReg (R.PSG_RTT p.val) rtt).setReg (R.TB_PSG_DELAY p.val) mean
      .next ((s.put (R.LAT_PORT p.val) F.LAT_PORT_STEPS ((3 * d + 1999) / 2000 + 4)).setPort p.val 4)

/-- PORT_TRAINED (R132, R135). -/
def execPortTrained (p : PortNo) (s : State) : Out :=
  if s.portState p.val ≠ 4 then .next s
  else
    let s := (s.setPort p.val 5).raise (R.LAT_PORT p.val) F.LAT_PORT_VALID
    let s := (s.setHeld p.val).setReady (portBit p.val) true
    let s := if s.bit (R.PSG_HELD p.val) F.PSG_HELD_OVER_BUDGET then s.detect 0x07 0x09 p.val else s
    .next (s.trainOver p.val true).drained

/-- TRAINING_FAIL (R132). -/
def execTrainingFail (p : PortNo) (s : State) : Out :=
  if s.inTraining p.val then .next (s.attemptFails p.val) else .next s

/-- Is lane `k` of port `p` active? -/
def State.laneActive (s : State) (p k : Nat) : Bool :=
  let w := s.fld (R.PSG_STATUS p) F.PSG_STATUS_WIDTH
  w == 2 || (w == 1 && Nat.blt k 2)

/-- LANE_FAIL (R153): an active lane of a trained port loses lock, and the port leaves the trained state. -/
def execLaneFail (p : PortNo) (k : Fin 4) (s : State) : Out :=
  if s.trained p.val = false ∨ s.laneActive p.val k.val = false then .next s
  else
    let ok := s.fld (R.PSG_STATUS p.val) F.PSG_STATUS_LANES_OK
    let s := s.put (R.PSG_STATUS p.val) F.PSG_STATUS_LANES_OK (if ok.testBit k.val then ok - 2 ^ k.val else ok)
    .next ((s.recordPsg p.val 2).portDown p.val)

/-! IDENT (R133, R136, R144). -/

/-- The device the lattice map expects on port `p` (R136); 0xFFFF is none. -/
def State.expected (s : State) (p : Nat) : Nat := NMap.get (fun _ => 0xFFFF) s.psg.expect p

/-- Does a mapped peer differ from the one the map expects? -/
def State.peerDiffers (s : State) (p : Nat) : Bool :=
  s.bit (R.PSG_PEER p) F.PSG_PEER_VALID && s.bit (R.PSG_PEER p) F.PSG_PEER_PEER_NUM_VALID &&
  s.expected p != 0xFFFF && s.expected p != s.fld (R.PSG_PEER p) F.PSG_PEER_PEER_DEVICE

/-- PSG_PEER from an IDENT. -/
def State.setPeer (s : State) (p : Nat) (x : Ident) : State :=
  let o := R.PSG_PEER p
  (((((s.put o F.PSG_PEER_VALID 1).put o F.PSG_PEER_PEER_DEVICE x.device.val).put o F.PSG_PEER_PEER_PORT x.port.val).put
    o F.PSG_PEER_PEER_PROFILE x.profile.toNat).put o F.PSG_PEER_PEER_NUM_VALID (natOfBool x.mapped)).put
    o F.PSG_PEER_PEER_REV x.revision.toNat

/-- LATTICE_IDENT (R133, R136): `own` says that the port is wired back to this device. A wrong family or number
is PEER_MISMATCH and takes the port DOWN; a port wired back trains only with LOOPBACK. -/
def execLatticeIdent (p : PortNo) (x : Ident) (own : Bool) (s : State) : Out :=
  if (s.portState p.val ≠ 2 ∧ s.trained p.val = false) ∨ s.psg.discarding.contains p.val then .next s
  else
    let s := s.setPeer p.val x
    if x.family ≠ 0x0E65 then .next ((s.recordPsg p.val 7).portDown p.val)
    else if s.peerDiffers p.val then .next (((s.recordLtc 0).recordPsg p.val 7).portDown p.val)
    else if s.trained p.val then .next s
    else if own ∧ s.bit (R.PSG_CTL p.val) F.PSG_CTL_LOOPBACK = false then .next (s.attemptFails p.val)
    else .next ((s.put (R.PSG_STATUS p.val) F.PSG_STATUS_LOOPBACK_ACTIVE (natOfBool own)).setPort p.val 3)

/-! Blocks (R127 to R131). -/

/-- The number of blocks sent, and received in order, on port `p`. -/
def State.sentBlocks (s : State) (p : Nat) : Nat := NMap.get dZero s.psg.txSeq p
/-- The number of blocks received in order. -/
def State.gotBlocks (s : State) (p : Nat) : Nat := NMap.get dZero s.psg.rxSeq p

/-- Has port `p` block lock (R132)? -/
def State.linked (s : State) (p : Nat) : Bool := Nat.ble 2 (s.portState p) && Nat.ble (s.portState p) 5

/-- A block leaves (R127): it carries the acknowledgement, and NAK where one is due, which counts it (R128). -/
def State.txBlock (s : State) (p seq : Nat) (flits : List BlockFlit) : State :=
  let n := s.gotBlocks p
  let nak := s.psg.nakDue.contains p
  let s := if nak then s.bump (R.PSG_RETRY_COUNT p) F.PSG_RETRY_COUNT_NAKS_SENT else s
  { s with psg := { s.psg with nakDue := s.psg.nakDue.filter (fun q => q != p),
                               blocks := s.psg.blocks ++ [⟨p, seq, (n + 255) % 256, n != 0, nak, flits⟩] } }

/-- An armed FEC_CE or FEC_UE corrupts the next codeword sent (R369). -/
def State.useFec (s : State) (p : Nat) : State :=
  let s := if s.isArmed 0x05 0x10 p then s.useArmed 0x05 0x10 p else s
  if s.isArmed 0x05 0x11 p then s.useArmed 0x05 0x11 p else s

/-- The next new block leaves with 19 flits in the order of R131, unless 128 wait for acknowledgement (R129). -/
def State.sendBlock (s : State) (p : Nat) : State :=
  if 128 ≤ (s.psg.retry.filter (fun b => b.port == p)).length then s
  else
    let n := s.sentBlocks p
    let mine (f : TxFlit) : Bool := f.port == p
    let b := fillBlock (NMap.get (fun _ => []) s.psg.stream p) (s.psg.out.filter mine)
    let s := { s with psg := { s.psg with out := s.psg.out.filter (fun f => !mine f) ++ b.2.1,
                                          stream := NMap.set (fun _ => []) s.psg.stream p b.2.2 } }
    let s := (s.useFec p).txBlock p (n % 256) b.1
    { s with psg := { s.psg with txSeq := NMap.set dZero s.psg.txSeq p (n + 1),
                                 retry := s.psg.retry ++ [⟨p, n % 256, 0, s.sched.now, b.1⟩] } }

/-- Resend every unacknowledged block of port `p` as it was (R129); the eighth resending of a block is RETRY_EXHAUST, and
the port leaves the trained state. -/
def State.resend (s : State) (p : Nat) : State :=
  let bs := s.psg.retry.filter (fun b => b.port == p)
  let s := bs.foldl (fun s b => s.txBlock p b.seq b.flits) s
  let s := s.bump (R.PSG_RETRY_COUNT p) F.PSG_RETRY_COUNT_RETRANSMITS bs.length
  let more (b : RetryBlock) : RetryBlock := if b.port = p then { b with resent := b.resent + 1, since := s.sched.now } else b
  let s := { s with psg := { s.psg with retry := s.psg.retry.map more } }
  if bs.any (fun b => Nat.ble 7 b.resent) then (s.recordPsg p 0).portDown p else s

/-- The blocks up to SEQ `a` are acknowledged. -/
def State.acked (s : State) (p a : Nat) : State :=
  let mine := s.psg.retry.filter (fun b => b.port == p)
  if mine.any (fun b => b.seq == a) then
    let left := (mine.dropWhile (fun b => b.seq != a)).tail
    { s with psg := { s.psg with retry := s.psg.retry.filter (fun b => b.port != p) ++ left } }
  else s

/-- PROTO_ERR once for each flit (R131). -/
def State.protoErrs : Nat → Nat → State → State
  | 0, _, s => s
  | n + 1, p, s => State.protoErrs n p (s.recordPsg p 9)

/-- The flits of the blocks that come are discarded from now on, or taken again (R128). -/
def State.setDiscard (s : State) (p : Nat) (on : Bool) : State :=
  let rest := s.psg.discarding.filter (fun q => q != p)
  { s with psg := { s.psg with discarding := if on then p :: rest else rest } }

/-- BLOCK_RECEIVE (R127 to R131): a lost codeword starts discarding and asks for a resend; a block out of
sequence is discarded; the next in sequence is taken, its acknowledgement and NAK are obeyed. The flits of the block come
as commands of their own after it. DESIGN CHOICE (log 52): one block leaves for each that comes; both directions have the
same rate (R127). -/
def execBlockReceive (p : PortNo) (b : BlockIn) (s : State) : Out :=
  let p := p.val
  if s.linked p = false then .next s
  else if b.fec = .lost then
    let s := (s.bump (R.PSG_FEC_UE p) F.PSG_FEC_UE_COUNT).detect 0x05 0x11 p
    let s := { s with psg := { s.psg with nakDue := p :: s.psg.nakDue.filter (fun q => q != p) } }
    .next ((s.setDiscard p true).sendBlock p)
  else
    let s := if b.fec = .corrected then (s.bump (R.PSG_FEC_CE p) F.PSG_FEC_CE_COUNT).detect 0x05 0x10 p else s
    if b.seq.toNat ≠ s.gotBlocks p % 256 then .next ((s.setDiscard p true).sendBlock p)
    else
      let s := s.setDiscard p false
      let s := { s with psg := { s.psg with rxSeq := NMap.set dZero s.psg.rxSeq p (s.gotBlocks p + 1) } }
      let s := if b.ackValid then s.acked p b.ack.toNat else s
      let s := State.protoErrs b.bad.val p s
      let s := if b.pattern then s.detect 0x05 0x13 p else s
      let s := if b.nak then s.resend p else s
      .next (if s.linked p then s.sendBlock p else s)

/-- RETRY_TIMEOUT (R129): the oldest block of the port has gone 2 µs, 3,000 periods, without acknowledgement. -/
def execRetryTimeout (p : PortNo) (s : State) : Out :=
  match s.psg.retry.find? (fun b => b.port == p.val) with
  | some b => if s.linked p.val ∧ b.since + 3000 ≤ s.sched.now then .next (s.resend p.val) else .next s
  | none => .next s

/-! LATTICE_TRAIN and LATTICE_MAP (R132, R136, R267). -/

/-- LATTICE_TRAIN (R132): the named ports train in parallel; IN_USE when the image uses one. -/
def execLatticeTrain (h : Hdr) (ports : BitVec 16) (width : BitVec 8) (s : State) : Out :=
  s.command (cls := .long) h (.latticeTrain h ports width) false [] (fun c s =>
    let ps := (List.range 16).filter (fun p => ports.getLsbD p)
    if 2 ≤ width.toNat then s.complete c 2
    else if ps.any s.portInImage then s.complete c 0x25
    else if s.psg.training.isSome then s.complete c 4
    else if ps = [] then s.complete c 0
    else
      let s := { s with psg := { s.psg with training := some c, trainPorts := ps, trainDone := [] } }
      ps.foldl (fun s p => (s.put (R.PSG_CTL p) F.PSG_CTL_WIDTH_REQ width.toNat).train p) s)

/-- Bytes `a` to `a + n - 1` of a block as a number. -/
def blockNat (b : List Byte) (a n : Nat) : Nat := leNat ((b.drop a).take n)

/-- Is a stage-region pair of a map wrong (R118, R267)? -/
def mapStageBad (b : List Byte) : Bool :=
  let n (a : Nat) : Nat := blockNat b a 2
  ((n 0x2E == 0) != (n 0x32 == 0)) || Nat.blt 2048 (n 0x2C + n 0x2E) || Nat.blt 2048 (n 0x30 + n 0x32)

/-- Are the reserved bytes and bits of a map zero (R260)? -/
def mapReserved (b : List Byte) : Bool :=
  let z (a n : Nat) : Bool := blockNat b a n == 0
  Nat.blt (blockNat b 0 2) 512 && Nat.blt (blockNat b 2 1) 2 && z 3 1 && Nat.blt (blockNat b 6 2) 512 &&
  Nat.blt (blockNat b 0xA 2) 512 && z 0x34 12 && (blockNat b 8 1 / 16) % 8 == 0 && (blockNat b 9 1 / 16) % 8 == 0 &&
  (List.range 512).all (fun d => (blockNat b (0x40 + d) 1 / 16) % 8 == 0)

/-- What a map assigns (R136, R267). -/
def State.applyMap (s : State) (b : List Byte) : State :=
  let n := blockNat b
  let s := (s.put R.LTC_ID F.LTC_ID_MAPPED 1).put R.LTC_ID F.LTC_ID_DEVICE_NUM (n 0 2)
  let s := (s.put R.LTC_CFG F.LTC_CFG_IN_LATTICE (n 2 1)).put R.LTC_CFG F.LTC_CFG_MARGIN (n 4 2)
  let o := R.IMG_CHAIN
  let s := ((((((s.put o F.IMG_CHAIN_POSITION (n 6 2)).put o F.IMG_CHAIN_IN_PORT (n 8 1)).put
    o F.IMG_CHAIN_IN_VALID (n 8 1 / 128)).put o F.IMG_CHAIN_OUT_PORT (n 9 1)).put
    o F.IMG_CHAIN_OUT_VALID (n 9 1 / 128)).put o F.IMG_CHAIN_HEAD_DEV (n 0xA 2))
  let s := { s with psg := { s.psg with
    expect := NMap.setAll (fun _ => 0xFFFF) [] ((List.range 16).map (fun p => (p, n (0xC + 2 * p) 2))),
    stageRegs := if n 0x2E 2 = 0 ∧ n 0x32 2 = 0 then [] else [n 0x2C 2, n 0x2E 2, n 0x30 2, n 0x32 2] } }
  (List.range 128).foldl (fun s i => s.setReg (R.LTC_ROUTE i) (BitVec.ofNat 32 (n (0x40 + 4 * i) 4))) s

/-- A trained port whose peer differs from the map: PEER_MISMATCH, and it goes DOWN (R133, R136). -/
def State.dropPeer (s : State) (p : Nat) : State := ((s.recordLtc 0).recordPsg p 7).portDown p

/-- LATTICE_MAP (R136, R267): applies at once on a device that does not run. -/
def execLatticeMap (h : Hdr) (buf : HostBuf) (s : State) : Out :=
  s.command (buf := buf) h (.latticeMap h buf) false [] (fun c s =>
    if s.isRunning then s.complete c 7
    else if buf.len < 576 then s.complete c 2
    else match hostBytes buf 576 with
      | .inl st => s.complete c st
      | .inr bs =>
        if mapReserved bs = false ∨ mapStageBad bs then s.complete c 2
        else
          let s := (s.applyMap bs).sendIdents
          let bad := ((List.range 16).filter s.trained).filter s.peerDiffers
          (bad.foldl State.dropPeer s).complete c 0 (BitVec.ofNat 64 (bitSet bad)))

end Sys2Proof.Machine
end

