-- ==== Sys2Proof/Machine/Trace.lean ====
section
/-! DEFINITION. Command core and Warden trace: the encoders and the buffer as commands (15, R379 to R389). -/

namespace Sys2Proof.Machine

/-! Start and stop (R379, R381, R382). -/

/-- TRACE_SOURCE_ENABLE (R379, R382): a write of TRC_SRC_CFG_s. At debug-lock level 2 or 3 one that sets ENABLE of a
command core is dropped. When ENABLE is set, the state is RUN_AT_ENABLE, and a trace that starts begins with SYNC
and TIMESTAMP. -/
def execTraceSourceEnable (src : Fin 68) (w : Word) (s : State) : Out :=
  let k := src.val
  let o := R.TRC_SRC_CFG k
  let on := F.TRC_SRC_CFG_ENABLE.of w = 1
  if on ∧ k < 4 ∧ 2 ≤ s.part.debugLock then .next s
  else
    let was := s.bit o F.TRC_SRC_CFG_ENABLE
    let t := s.typedStore o w
    if on ∧ was = false then
      let t := t.put (R.TRC_SRC_STATUS k) F.TRC_SRC_STATUS_RUNNING (F.TRC_SRC_CFG_RUN_AT_ENABLE.of w)
      .next (if t.tracing k then t.startPackets k else t)
    else if on then .next t
    else .next (t.setOutcomes k [])

/-- The comparator's address: 48 bits; a Warden source ignores TRC_CMP_HI. -/
def State.cmpAddr (s : State) (k i : Nat) : Nat :=
  s.fld (R.TRC_CMP_LO k i) F.TRC_CMP_LO_ADDR * 4 + (if k < 4 then s.fld (R.TRC_CMP_HI k i) F.TRC_CMP_HI_ADDR * 2 ^ 32 else 0)

/-- The action of comparator `i` of source `k`. -/
def State.cmpAction (s : State) (k i : Nat) : Nat := s.fld (R.TRC_CMP_CTL k) ⟨2 * i + 1, 2 * i⟩

/-- Do comparators `i` and `i + 1` form a range? -/
def State.cmpRange (s : State) (k i : Nat) : Bool := s.fld (R.TRC_CMP_CTL k) ⟨8 + i / 2, 8 + i / 2⟩ == 1

/-- What comparator `i` asks for at an address (R382): 1 START, 2 STOP, 0 nothing. The odd comparator of a range
has no action of its own. -/
def State.cmpAsks (s : State) (k addr i : Nat) : Nat :=
  if s.cmpRange k (i / 2 * 2) then
    if i % 2 = 1 then 0
    else
      let hit := Nat.ble (s.cmpAddr k i) addr && Nat.ble addr (s.cmpAddr k (i + 1))
      if s.cmpAction k i = 3 then (if hit then 1 else 2) else if hit then s.cmpAction k i else 0
  else if s.cmpAction k i = 3 ∨ s.cmpAddr k i ≠ addr then 0
  else s.cmpAction k i

/-- The first comparator that asks for `a`. -/
def State.cmpFirst (s : State) (k addr a : Nat) : Option Nat := [0, 1, 2, 3].find? (fun i => s.cmpAsks k addr i == a)

/-- The instruction address a source gives: bits 1:0 do not take part, a Warden's has 32 bits. -/
def srcAddr (k : Nat) (a : BitVec 48) : Nat := (if k < 4 then a.toNat else a.toNat % 2 ^ 32) / 4 * 4

/-- COMPARATOR_MATCH (R382): a source executes an instruction at an address in a mode. STOP goes before START;
START and STOP in the state they lead to have no effect. -/
def execComparatorMatch (src : Fin 68) (addr : BitVec 48) (mode : BitVec 2) (s : State) : Out :=
  let k := src.val
  let a := srcAddr k addr
  if s.bit R.TRC_CTL F.TRC_CTL_ENABLE = false ∨ s.bit (R.TRC_SRC_CFG k) F.TRC_SRC_CFG_ENABLE = false then .next s
  else
    let running := s.bit (R.TRC_SRC_STATUS k) F.TRC_SRC_STATUS_RUNNING
    match s.cmpFirst k a 2, s.cmpFirst k a 1 with
    | some i, _ =>
      if running then .next (((s.flushBranch k).pushPacket k 0xB i).put (R.TRC_SRC_STATUS k) F.TRC_SRC_STATUS_RUNNING 0)
      else .next s
    | none, some i =>
      if running then .next s
      else .next ((((s.put (R.TRC_SRC_STATUS k) F.TRC_SRC_STATUS_RUNNING 1).setTrcAddr k mode.toNat (a / 4)).pushPacket
        k 0xA i).startPackets k)
    | none, none => .next s

/-- What a traced core or Warden executes, as its encoder sees it (R381): a conditional branch, an indirect branch
or a return, a trap or interrupt entry, another instruction; each with the address reached and the mode. -/
def State.encode (s : State) (k : Nat) : TrcEvent → State
  | .branch taken mode next =>
    let s := (s.setOutcomes k (s.trcOutcomes k ++ [taken])).setTrcAddr k mode.toNat (srcAddr k next / 4)
    if (s.trcOutcomes k).length = 46 then (s.flushBranch k).syncDue k else s
  | .indirect mode next =>
    (s.setTrcAddr k mode.toNat (srcAddr k next / 4)).packet k 3 (syncPayload k mode.toNat (srcAddr k next / 4))
  | .trap mode cause next =>
    let s := ((s.setTrcAddr k mode.toNat (srcAddr k next / 4)).flushBranch k).pushPacket k 4
      (mode.toNat * 2 ^ 51 + cause.toNat * 2 ^ 43)
    s.packet k 3 (syncPayload k mode.toNat (srcAddr k next / 4))
  | .other mode next => s.setTrcAddr k mode.toNat (srcAddr k next / 4)

/-- ENCODER_PACKET (R381): an encoder follows what its source executes; while it does not trace it only keeps the
address of the next instruction. -/
def execEncoderPacket (src : Fin 68) (ev : TrcEvent) (s : State) : Out :=
  let k := src.val
  if s.bit (R.TRC_SRC_STATUS k) F.TRC_SRC_STATUS_CLOCKED = false then .next s
  else if s.tracing k then .next (s.encode k ev)
  else .next (s.setTrcAddr k ev.mode.toNat (srcAddr k ev.next / 4))

/-- TIMESTAMP_INTERVAL (R381): every 2^TS_LOG2 µs of DTC time a source that traces and is clocked writes
TIMESTAMP; the intervals are counted from 0 of the DTC (DEDUCED, log 39). -/
def execTimestampInterval (src : Fin 68) (s : State) : Out :=
  if s.tracing src.val ∧ s.bit (R.TRC_SRC_STATUS src.val) F.TRC_SRC_STATUS_CLOCKED ∧
     s.stampAt src.val ≠ NMap.get dZero s.trc.stamps src.val then
    .next ((s.stamped src.val).packet src.val 5 s.trcTime)
  else .next s

/-! The buffer (R383 to R386, R389). -/

/-- The next source in turn with a packet. -/
def State.trcTurn (s : State) : Option Nat :=
  ((List.range 68).map (fun i => (s.trc.last + 1 + i) % 68)).find? (fun k => !(s.trcFifo k).isEmpty)

/-- The packets that the buffer has accepted in this period. -/
def State.trcTook (s : State) : Nat := if s.trc.took.1 = s.sched.now then s.trc.took.2 else 0

/-- TRACE_PACKET (R383, R385): the buffer accepts the oldest packet of the next source in turn, up to 2 per period. -/
def execTracePacket (s : State) : Out :=
  match s.trcTurn with
  | some k =>
    if s.trcRoom = false ∨ 2 ≤ s.trcTook then .next s
    else .next ({ s with trc := { s.trc with took := (s.sched.now, s.trcTook + 1) } }.acceptPacket k)
  | none => .next s

/-- TRACE_DROP (R384): a new packet of a source whose FIFO has no free unreserved slot is dropped. -/
def execTraceDrop (src : Fin 68) (s : State) : Out :=
  if s.tracing src.val ∧ 30 ≤ (s.trcFifo src.val).length then .next (s.dropPacket src.val) else .next s

/-- TRACE_OVERFLOW_PACKET (R381, R384): with three slots free again beside that of a BRANCH, which goes first, OVERFLOW
with the count of packets lost, SYNC and TIMESTAMP; LOST is cleared. -/
def execTraceOverflowPacket (src : Fin 68) (s : State) : Out :=
  let k := src.val
  let n := NMap.get dZero s.trc.lost k
  if n = 0 ∨ 29 < (s.trcFifo k).length + natOfBool (!(s.trcOutcomes k).isEmpty) then .next s
  else
    let s := s.flushBranch k
    let s := s.setFifo k (s.trcFifo k ++ [trcWord k 9 (satAdd 0xFFFFFFFF n 0), trcWord k 1 (NMap.get dZero s.trc.addr k),
      trcWord k 5 s.trcTime])
    .next ({ s with trc := { s.trc with count := NMap.set dZero s.trc.count k 0 } }.setLost k 0)

/-- TRACE_CLEAR (R389): a write of 1 to TRC_CTL.CLEAR, accepted only while ENABLE is 0 and IDLE is 1. -/
def execTraceClear (s : State) : Out :=
  if s.bit R.TRC_CTL F.TRC_CTL_ENABLE = false ∧ s.bit R.TRC_STATUS F.TRC_STATUS_IDLE then
    .next { s with trc := { s.trc with clearing := true } }
  else .next s

/-- TRACE_CLEAR_END (R389): every slot and both pointers are zero, WRAPPED and FULL are clear. -/
def execTraceClearEnd (s : State) : Out :=
  if s.trc.clearing then
    let s := { s with trc := { s.trc with buf := [], clearing := false } }
    .next (((((s.put R.TRC_WR_PTR F.TRC_WR_PTR_SLOT 0).put R.TRC_RD_PTR F.TRC_RD_PTR_SLOT 0).put
      R.TRC_STATUS F.TRC_STATUS_WRAPPED 0).put R.TRC_STATUS F.TRC_STATUS_FULL 0).trcMark)
  else .next s

/-- The buffer slot that window slot `i` shows (R386). -/
def State.winSlot (s : State) (i : Nat) : Nat := s.fld R.TRC_WIN_BASE F.TRC_WIN_BASE_WINDOW * 4096 + i

/-- A read of the lower half of window slot `i`: its value, with the upper half latched (R386). -/
def State.winLow (s : State) (i : Nat) : Word × State :=
  let d := NMap.get dZero64 s.trc.buf (s.winSlot i)
  (d.truncate 32, { s with trc := { s.trc with latch := some (s.winSlot i, (d >>> 32).truncate 32) } })

/-- A read of the upper half of window slot `i`: the latched half of the same slot once, otherwise the slot's. -/
def State.winHigh (s : State) (i : Nat) : Word × State :=
  match s.trc.latch with
  | some (j, w) =>
    if j = s.winSlot i then (w, { s with trc := { s.trc with latch := none } })
    else ((NMap.get dZero64 s.trc.buf (s.winSlot i) >>> 32).truncate 32, s)
  | none => ((NMap.get dZero64 s.trc.buf (s.winSlot i) >>> 32).truncate 32, s)

/-- TRACE_WINDOW_READ (R386): the host reads the lower half of a slot of the window. -/
def execTraceWindowRead (i : Fin 4096) (s : State) : Out :=
  let r := s.winLow i.val
  .next { r.2 with host := { r.2.host with replies := r.2.host.replies ++ [.bytes (leBytes 4 r.1.toNat)] } }

end Sys2Proof.Machine
end

