-- ==== Sys2Proof/Machine/Time.lean ====
section
/-! DEFINITION. The Timebase, lattice time, and IEEE 1588 on the Ethernet ports as commands (13, R335 to
R352). Samples are integers in units of 2^-16 ps. -/

namespace Sys2Proof.Machine

/-! Lock (R342). -/

/-- TB_INCR at reset and after a restart of the servo (R335, R341). -/
def nominalIncr : Nat := 0xAAAAAAAA

/-- The closest integers inside ±0.04 % of the nominal increment (R337). -/
def incrLow : Nat := 2862166206
/-- The upper bound. -/
def incrHigh : Nat := 2864456854

/-- TB_CFG.SRC. -/
def State.tbSrc (s : State) : Nat := s.fld R.TB_CFG F.TB_CFG_SRC

/-- Does R342 hold LOCKED at 1: SRC NONE, or the lattice master with SRC LATTICE? -/
def State.alwaysLocked (s : State) : Bool := s.tbSrc == 0 || (s.bit R.TB_CFG F.TB_CFG_MASTER && s.tbSrc == 1)

/-- Set LOCKED (R342): a change raises the TIME source, moves the DEVICE_READY bit and is logged. -/
def State.setLocked (s : State) (v : Bool) : State :=
  if s.bit R.TB_STATUS F.TB_STATUS_LOCKED = v then s
  else
    let s := ((s.put R.TB_STATUS F.TB_STATUS_LOCKED (natOfBool v)).setReady timeBit v).cicEvent 102
    if v then s.detect 0x0D 0 0 else (s.raise R.TB_STATUS F.TB_STATUS_LOST_LOCK).detect 0x0D 1 0

/-- The servo starts again (R341, R347): its next sample is the first. -/
def State.restartServo (s : State) : State :=
  { s with tb := { s.tb with integ := 0, first := true, good := 0, bad := 0, lastSample := s.sched.now } }

/-! Adjustments (R337 to R339). -/

/-- Set TB_INCR, clamped (R337). -/
def State.setIncr (s : State) (n : Int) : State :=
  if n < incrLow then (s.setReg R.TB_INCR (BitVec.ofNat 32 incrLow)).raise R.TB_STATUS F.TB_STATUS_CLAMPED |>.detect 0x0D 4 0
  else if (incrHigh : Int) < n then
    (s.setReg R.TB_INCR (BitVec.ofNat 32 incrHigh)).raise R.TB_STATUS F.TB_STATUS_CLAMPED |>.detect 0x0D 4 0
  else s.setReg R.TB_INCR (BitVec.ofInt 32 n)

/-- Add to the DTC in the next period, in units of 2^-32 ns; the wrap count moves with a carry or borrow (R338). -/
def State.stepDtc (s : State) (d : Int) : State := { s with tb := { s.tb with stepDue := s.tb.stepDue + d } }

/-- Set the slew remainder, in units of 2^-32 ns (R338). -/
def State.setSlew (s : State) (d : Int) : State :=
  (({ s with tb := { s.tb with slew := d } } : State).setReg R.TB_SLEW (BitVec.ofInt 32 (d / 2 ^ 16))).put R.TB_STATUS
    F.TB_STATUS_SLEW_ACTIVE (natOfBool (d != 0))

/-- May the DTC step (R339)? -/
def State.stepAllowed (s : State) : Bool := !s.isRunning || s.free

/-- An adjustment is dropped (R339). -/
def State.refuseTb (s : State) : State := (s.raise R.TB_STATUS F.TB_STATUS_WRITE_REFUSED).detect 0x0D 5 0

/-- Is the writer the owner of adjustments (R340)? -/
def State.tbOwner (s : State) (by' : TbWriter) : Bool :=
  match by' with
  | .host => s.tbSrc == 0
  | .lantern => s.tbSrc == 0 || s.tbSrc == 2
  | .core => false

/-! Samples (R341, R342). -/

/-- `a / b` as the device keeps it. The spec states no rounding: between the two nearest integers the choice is
free (log 3). -/
def State.roundDiv (s : State) (a : Int) (b : Nat) : Int × State :=
  if a % b = 0 then (a / b, s) else (a / b + s.freeVal 1, s.used)

/-- Lock after sample `o` (R342). -/
def State.lockSample (s : State) (o : Int) : State :=
  let t := s.fld R.TB_LOCK_THRESH F.TB_LOCK_THRESH_PS
  let t := if t = 0 then 1 else if s.tbSrc = 1 ∧ 1000 < t then 1000 else t
  let a := o.natAbs
  let s := { s with tb := { s.tb with lastSample := s.sched.now, good := if a ≤ t * 65536 then s.tb.good + 1 else 0,
                                      bad := if 4 * t * 65536 < a then s.tb.bad + 1 else 0 } }
  let s := s.put R.TB_STATUS F.TB_STATUS_HOLDOVER 0
  if s.alwaysLocked then s
  else if 8 ≤ s.tb.good then s.setLocked true
  else if 4 ≤ s.tb.bad then s.setLocked false
  else s

/-- TB_OFFSET: the sample in ps, saturated. -/
def State.tbOffset (s : State) (o : Int) : State :=
  let r := s.roundDiv o 65536
  let v := if r.1 < -(2 ^ 31 - 1) then -(2 ^ 31 - 1) else if 2 ^ 31 - 1 < r.1 then 2 ^ 31 - 1 else r.1
  r.2.setReg R.TB_OFFSET (BitVec.ofInt 32 v)

/-- The sample interval of the hardware servo in ns (R340). -/
def State.sampleNs (s : State) : Nat :=
  let n := s.fld R.TB_CFG F.TB_CFG_LT_LOG2
  2 ^ (if 10 < n then 10 else n) * 1000

/-- A large or first sample (R341): step by -o, or slew by it. A remainder beyond TB_SLEW's range is not
stated (log 3). -/
def State.servoJump (s : State) (o : Int) : State :=
  let s := { s with tb := { s.tb with integ := 0, first := false } }
  if s.stepAllowed then
    let r := s.roundDiv (-o * 65536) 1000
    r.2.stepDtc r.1
  else
    let r := s.roundDiv (-o) 1000
    if r.1 < -(2 ^ 31) ∨ 2 ^ 31 ≤ r.1 then r.2.used.setSlew ((BitVec.ofNat 32 (r.2.freeVal 32)).toInt * 2 ^ 16)
    else r.2.setSlew (r.1 * 2 ^ 16)

/-- The hardware servo takes sample `o` (R341). -/
def State.servo (s : State) (o : Int) : State :=
  let s := s.tbOffset o
  let s :=
    if s.tb.first ∨ 1000 * 1000 * 65536 < o.natAbs then s.servoJump o
    else
      let i := s.tb.integ + o
      let s := { s with tb := { s.tb with integ := i } }
      let d : Nat := 64 * s.sampleNs * 65536000
      let r := s.roundDiv ((nominalIncr : Int) * (d : Int) - (nominalIncr : Int) * (8 * o + i)) d
      r.2.setIncr r.1
  s.lockSample o

/-! Lattice time (R346 to R348). -/

/-- The delay into port `p`, in ps: TB_PSG_DELAY_p + TB_PSG_ASYM_p (R347). -/
def State.delayIn (s : State) (p : Nat) : Int :=
  ((s.reg (R.TB_PSG_DELAY p)).toNat : Int) + (s.reg (R.TB_PSG_ASYM p)).toInt

/-- The trained ports of DOWN_MASK. -/
def State.downPorts (s : State) : List Nat :=
  (List.range 16).filter (fun p => (s.fld R.TB_CFG F.TB_CFG_DOWN_MASK).testBit p && s.trained p)

/-- The DTC with its wrap count in units of 2^-16 ns, 64 bits. -/
def State.time64 (s : State) : Nat := s.sched.dtc / 2 ^ 16 % 2 ^ 64

/-- Has the sample interval passed since period `t` (R340, R346)? -/
def State.intervalOver (s : State) (t : Option Nat) : Bool :=
  match t with
  | some n => Nat.ble (n + s.sampleNs / 1000 * 1500) s.sched.now
  | none => true

/-- TIME_FLIT_SEND (R346, R347): every 2^LT_LOG2 µs the lattice master sends a TIME flit on its trained down ports. -/
def execTimeFlitSend (s : State) : Out :=
  if s.bit R.TB_CFG F.TB_CFG_MASTER = false ∨ s.intervalOver s.tb.lastSync = false then .next s
  else
    let f : TimeFlit := { sub := 1, origin := Fin.ofNat 512 s.devNum, seq := BitVec.ofNat 16 s.tb.txSeq,
                          wrap := BitVec.ofNat 16 s.wrap, time := BitVec.ofNat 48 s.time48, corr := 0, hops := 0 }
    let s := { s with tb := { s.tb with txSeq := (s.tb.txSeq + 1) % 65536, lastSync := some s.sched.now } }
    .next (s.downPorts.foldl (fun s p => s.tx (.time p f)) s)

/-- The sample of a TIME flit that lands on port `p` (R347). -/
def State.flitSample (s : State) (p : Nat) (f : TimeFlit) : Int :=
  let t := BitVec.ofNat 64 s.time64 - (f.wrap ++ f.time) - f.corr
  t.toInt * 1000 - s.delayIn p * 65536

/-- SEQ and ORIGIN of an accepted flit (R347). -/
def State.flitOrder (s : State) (f : TimeFlit) : State :=
  let gap := match s.tb.seq with | some n => decide (f.seq.toNat ≠ (n + 1) % 65536) | none => false
  let s := if gap then (s.raise R.TB_STATUS F.TB_STATUS_SEQ_GAP).detect 0x0D 3 0 else s
  let moved := match s.tb.origin with | some d => decide (d ≠ f.origin.val) | none => false
  let s := if moved then s.restartServo.detect 0x0D 2 0 else s
  { s with tb := { s.tb with seq := some f.seq.toNat, origin := some f.origin.val } }

/-- TIME_FLIT (R346, R347): a TIME flit lands on port `p`; the copies leave `resid` units of 2^-16 ns later. -/
def execTimeFlit (p : PortNo) (f : TimeFlit) (resid : BitVec 32) (s : State) : Out :=
  if s.receives p.val = false then .next s
  else if f.sub ≠ 1 then .next (s.recordPsg p.val 9)
  else if s.bit R.TB_CFG F.TB_CFG_MASTER ∨ s.fld R.TB_CFG F.TB_CFG_UP_PORT ≠ p.val ∨ f.hops = 31 then .next s
  else
    let o := s.flitSample p.val f
    let r := s.roundDiv (s.delayIn p.val * 65536) 1000
    let g : TimeFlit := { f with corr := f.corr + resid.setWidth 64 + BitVec.ofInt 64 r.1, hops := f.hops + 1 }
    let s := r.2.downPorts.foldl (fun s q => s.tx (.time q g)) r.2
    let s := s.flitOrder f
    .next (if s.tbSrc = 1 then s.servo o else s)

/-- PTM_DIALOG (R340): one per interval, a PTM dialog gives the Master Time and the propagation delay in ns; its sample goes to
the servo. -/
def execPtmDialog (master : BitVec 64) (delay : BitVec 32) (s : State) : Out :=
  if s.tbSrc ≠ 3 ∨ s.intervalOver s.tb.lastPtm = false then .next s
  else
    let s := { s with tb := { s.tb with lastPtm := some s.sched.now } }
    let d := BitVec.ofNat 64 s.time64 - (master + delay.setWidth 64) * 65536
    .next (s.servo (d.toInt * 1000))

/-- Have four sample intervals passed with no sample (R342)? The Sync interval of a PTP port is the master's; DEDUCED (log 57):
at least the shortest that R349 allows, 2^-7 s. While the die-to-die link is down, PTP gives no sample at all (R350). -/
def State.noSample (s : State) : Bool :=
  let n := if s.tbSrc = 2 then 11718750 else s.sampleNs / 1000 * 1500
  Nat.ble (s.tb.lastSample + 4 * n) s.sched.now || (s.tbSrc == 2 && s.pwr.d2dRate == 0)

/-- HOLDOVER (R342, R350): four sample intervals have passed with no sample. -/
def execHoldover (s : State) : Out :=
  if s.alwaysLocked ∨ s.noSample = false then .next s else .next ((s.setLocked false).raise R.TB_STATUS F.TB_STATUS_HOLDOVER)

/-! The counter (R335, R336, R338). -/

/-- DTC_WRAP (R335): the period passes in which the nanoseconds wrap and the wrap count increments. -/
def execDtcWrap (s : State) : Out :=
  if s.elapse.sched.dtc / 2 ^ 64 = s.sched.dtc / 2 ^ 64 then .next s else .next s.elapse

/-- A read of TB_NOW_NS latches the wrap count and the fraction (R336). -/
def State.latchNow (s : State) : State :=
  (s.put R.TB_NOW_EXT F.TB_NOW_EXT_WRAP s.wrap).put R.TB_NOW_EXT F.TB_NOW_EXT_FRAC s.frac16

/-- TB_NOW_NS_READ (R336): TB_NOW_NS holds the nanoseconds of the period read. -/
def execTbNowNsRead (s : State) : Out := .next (s.latchNow.put R.TB_NOW_NS F.TB_NOW_NS_NS s.ns)

/-- SLEW_END (R338): the period passes in which the slew remainder reaches 0. -/
def execSlewEnd (s : State) : Out :=
  let t := dtcAfter s.sched.dtc (s.reg R.TB_INCR).toNat s.tb.slew
  if s.tb.slew ≠ 0 ∧ t.2 = 0 then .next s.elapse else .next s

/-! Register writes (R337 to R341). -/

/-- TB_INCR_WRITE (R337, R339). -/
def execTbIncrWrite (by' : TbWriter) (w : Word) (s : State) : Out :=
  if s.tbOwner by' then .next (s.setIncr w.toNat) else .next s.refuseTb

/-- TB_STEP_WRITE (R338, R339): refused while the device runs in LOCKED mode. -/
def execTbStepWrite (by' : TbWriter) (w : Word) (s : State) : Out :=
  if s.tbOwner by' ∧ s.stepAllowed then .next (s.stepDtc (w.toInt * 2 ^ 32)) else .next s.refuseTb

/-- TB_SLEW_WRITE (R338, R339). -/
def execTbSlewWrite (by' : TbWriter) (w : Word) (s : State) : Out :=
  if s.tbOwner by' then .next (s.setSlew (w.toInt * 2 ^ 16)) else .next s.refuseTb

/-- The fields of TB_CFG whose change restarts the servo. -/
def State.tbKey (s : State) : Nat × Nat × Nat :=
  (s.tbSrc, s.fld R.TB_CFG F.TB_CFG_MASTER, s.fld R.TB_CFG F.TB_CFG_UP_PORT)

/-- TB_CFG_WRITE (R341, R342): a change of SRC, MASTER or UP_PORT restarts the servo, returns TB_INCR and sets
LOCKED as R342 has it. -/
def execTbCfgWrite (w : Word) (s : State) : Out :=
  let k := s.tbKey
  let s := s.setReg R.TB_CFG (typedWrite (match regRow R.TB_CFG with | some r => r.fields | none => []) (s.reg R.TB_CFG) w)
  if s.tbKey = k then .next s
  else .next ((s.restartServo.setReg R.TB_INCR (BitVec.ofNat 32 nominalIncr)).setLocked s.alwaysLocked)

/-! Ethernet and IEEE 1588 (R349 to R352). -/

/-- Does port `e` run? -/
def State.ethRuns (s : State) (e : Nat) : Bool :=
  s.bit (R.ETH_CFG e) F.ETH_CFG_ENABLE && s.bit (R.ETH_STATUS e) F.ETH_STATUS_LINK_UP

/-- Does the ordinary clock of port `e` take the message: its domain (above 127 as 127), its transport? -/
def State.takesPtp (s : State) (e : Nat) (m : PtpMsg) : Bool :=
  let d := s.fld (R.ETH_CFG e) F.ETH_CFG_DOMAIN
  s.ethRuns e && m.domain.toNat == (if 127 < d then 127 else d) &&
    (s.fld (R.ETH_CFG e) F.ETH_CFG_TRANSPORT).testBit
      (match m.transport with | .ethernet => 0 | .udp4 => 1 | .udp6 => 2)

/-- Is the message an event message: Sync, Delay_Req, Pdelay_Req, Pdelay_Resp? -/
def ptpEvent (m : PtpMsg) : Bool := Nat.blt m.kind.toNat 4

/-- The stamp of an event message (R350): none while TS_VALID is 0. -/
def State.stampOf (s : State) (e : Nat) (m : PtpMsg) : Option Nat :=
  if ptpEvent m && s.bit (R.ETH_STATUS e) F.ETH_STATUS_TS_VALID then some s.time64 else none

/-- A message goes to Lantern firmware with its stamp. -/
def State.toFirmware (s : State) (e : Nat) (m : PtpMsg) : State :=
  { s with tb := { s.tb with ptpIn := s.tb.ptpIn ++ [⟨e, m, s.stampOf e m⟩] } }

/-- One's-complement sum of 16-bit words. -/
def onesAdd (a b : Nat) : Nat := let n := a + b; if n < 65536 then n else n - 65535

/-- The UDP/IPv6 checksum corrected for a changed correctionField (R351). -/
def fixSum (sum old new : Nat) : Nat :=
  let ws (n : Nat) : List Nat := [0, 16, 32, 48].map (fun k => n / 2 ^ k % 65536)
  65535 - ((ws old).map (fun w => 65535 - w) ++ ws new).foldl onesAdd (65535 - sum % 65536)

/-- The copy that leaves (R351): the residence time and ETH_ASYM of the entry port added for Sync and
Delay_Req, the UDP checksum. -/
def State.tcCopy (s : State) (e : Nat) (m : PtpMsg) (resid : BitVec 32) : PtpMsg :=
  let c := if m.kind = 0 ∨ m.kind = 1 then
      m.corr + resid.setWidth 64 + (s.reg (R.ETH_ASYM e)).signExtend 64 else m.corr
  { m with corr := c, udpSum := match m.transport with
    | .ethernet => m.udpSum
    | .udp4 => 0
    | .udp6 => BitVec.ofNat 16 (fixSum m.udpSum.toNat m.corr.toNat c.toNat) }

/-- PTP_ROLE of port `e`. -/
def State.ptpRole (s : State) (e : Nat) : Nat := s.fld (R.ETH_CFG e) F.ETH_CFG_PTP_ROLE

/-- TC_FORWARD (R351): a PTP message, of any domain, arrives on port `e`. With both ports TC it leaves by the other one, `resid`
units of 2^-16 ns later; every copy goes to Lantern firmware. With one TC port it is only delivered. -/
def execTcForward (e : Fin 2) (m : PtpMsg) (resid : BitVec 32) (s : State) : Out :=
  if s.ethRuns e.val = false ∨ s.ptpRole e.val ≠ 2 then .next s
  else if s.ptpRole (1 - e.val) ≠ 2 then .next (s.toFirmware e.val m)
  else
    let c := s.tcCopy e.val m resid
    let s := s.bump (R.ETH_STATUS e.val) F.ETH_STATUS_TC_FORWARDED
    .next ({ s with tb := { s.tb with ptpOut := s.tb.ptpOut ++ [(1 - e.val, c)] } }.toFirmware e.val m)

/-- PTP_MESSAGE (R349, R350, R352, R342): a message reaches the ordinary clock of port `e` with its stamp;
`sample` is the offset, in units of 2^-16 ns, that firmware takes from it. -/
def execPtpMessage (e : Fin 2) (m : PtpMsg) (sample : Option (BitVec 64)) (s : State) : Out :=
  if s.takesPtp e.val m = false ∨ s.ptpRole e.val ≠ 1 then .next s
  else
    let st := s.stampOf e.val m
    let s := s.toFirmware e.val m
    match sample with
    | some o =>
      if s.tbSrc = 2 ∧ st.isSome then
        let v := o.toInt * 1000
        .next ((s.tbOffset v).lockSample v)
      else .next s
    | none => .next s

/-- ETH_LINK_CHANGE (R268, R350): the link of port `e` goes up or down; its DEVICE_READY bit follows, stamps are
valid while the die-to-die link is up. -/
def execEthLinkChange (e : Fin 2) (up : Bool) (s : State) : Out :=
  let v := up && s.bit (R.ETH_CFG e.val) F.ETH_CFG_ENABLE && s.pwr.d2dRate != 0
  .next (((s.put (R.ETH_STATUS e.val) F.ETH_STATUS_LINK_UP (natOfBool v)).put (R.ETH_STATUS e.val)
    F.ETH_STATUS_TS_VALID (natOfBool v)).setReady (120 + e.val) v)

/-- TC_FORWARDED_CLEAR (R351): a write of any value to ETH_STATUS_e. -/
def execTcForwardedClear (e : Fin 2) (s : State) : Out :=
  .next (s.put (R.ETH_STATUS e.val) F.ETH_STATUS_TC_FORWARDED 0)

end Sys2Proof.Machine
end

