-- ==== Sys2Proof/Machine/Warden.lean ====
section
/-! DEFINITION. The Warden interrupt units as commands (12, R329 to R334). One Warden clock is two
step-clock periods. -/

namespace Sys2Proof.Machine

/-! Pending sources (R329, R330). -/

/-- Is source `i` of a Warden LEVEL (R329)? -/
def wiuLevel (i : Nat) : Bool := Nat.ble i 4 || i == 8

/-- Is source `i` of gallery `g`'s Warden pending (R329)? A LEVEL source follows its condition. -/
def State.wiuPending (s : State) (g i : Nat) : Bool :=
  if i = 0 then !(NMap.get (fun _ => []) s.fab.asserts g).isEmpty
  else if i = 1 then s.reg (R.GAL_ERR_STATUS g) != 0
  else if i = 2 then s.reg (R.GAL_SCHED_ERR g) != 0
  else if i = 3 then s.reg (R.GAL_DM_STATUS g) != 0
  else if i = 4 then s.bit (R.GAL_MARCH_CTL g) F.GAL_MARCH_CTL_DONE
  else if i = 8 then !(NMap.get (fun _ => []) s.wiu.msgs g).isEmpty
  else NMap.get dFalse s.wiu.pend (g * 32 + i)

/-- Does source `i` take part (R330)? Enable bits 15:12 act as 0. -/
def State.wiuEnabled (s : State) (g i : Nat) : Bool :=
  (s.reg (R.WIU_ENABLE g)).getLsbD i && !(Nat.ble 12 i && Nat.ble i 15)

/-- Is source `i` Fast? -/
def State.wiuFast (s : State) (g i : Nat) : Bool := (s.reg (R.WIU_CLASS g)).getLsbD i

/-- The Normal priority of source `i`: 0 acts as 1, above 7 as 7. -/
def State.wiuPrio (s : State) (g i : Nat) : Nat :=
  let p := s.fld (R.WIU_PRIO g (i / 8)) ⟨4 * (i % 8) + 3, 4 * (i % 8)⟩
  if p = 0 then 1 else if 7 < p then 7 else p

/-- The stack of handlers of gallery `g`, innermost first. -/
def State.wiuStack (s : State) (g : Nat) : List WardenFrame := NMap.get (fun _ => []) s.wiu.stack g

/-- Store the stack of handlers. -/
def State.setStack (s : State) (g : Nat) (l : List WardenFrame) : State :=
  { s with wiu := { s.wiu with stack := NMap.set (fun _ => []) s.wiu.stack g l } }

/-- The running Normal level of a stack: that of its innermost Normal handler, 0 outside. -/
def levelOf (l : List WardenFrame) : Nat := ((l.find? (fun f => !f.fast)).map (fun f => f.level)).getD 0

/-- The lowest-numbered pending Fast source (R330). -/
def State.nextFast (s : State) (g : Nat) : Option Nat :=
  (List.range 32).find? (fun i => s.wiuEnabled g i && s.wiuFast g i && s.wiuPending g i)

/-- The pending Normal source of highest priority above level `lv`, the lowest number among equals. -/
def State.nextNormal (s : State) (g lv : Nat) : Option Nat :=
  [7, 6, 5, 4, 3, 2, 1].findSome? (fun p =>
    if p ≤ lv then none
    else (List.range 32).find? (fun i =>
      s.wiuEnabled g i && !s.wiuFast g i && s.wiuPending g i && s.wiuPrio g i == p))

/-- Entry clears an EDGE source's pending bit (R330). -/
def State.wiuClear (s : State) (g i : Nat) : State :=
  { s with wiu := { s.wiu with pend := NMap.set dFalse s.wiu.pend (g * 32 + i) false } }

/-- Periods of a Normal entry: 16 Warden clocks (R331). -/
def normalEntry : Nat := 32

/-! Entries and exits (R330 to R333). -/

/-- NORMAL_ENTRY (R330, R331): outside a Fast handler, the Warden begins to stack for the highest pending
Normal source above its level; handlers nest to a depth of 7. A pending Fast source is taken first, and an
entry under way ends before another begins. -/
def execNormalEntry (g : Gal) (s : State) : Out :=
  let l := s.wiuStack g.val
  if l.any (fun f => f.fast || Nat.blt s.sched.now f.ends) || Nat.ble 7 l.length ||
     (s.nextFast g.val).isSome || s.galPower g.val != 0 then .next s
  else match s.nextNormal g.val (levelOf l) with
    | some i => .next ((s.wiuClear g.val i).setStack g.val (⟨i, s.wiuPrio g.val i, false, s.sched.now + normalEntry⟩ :: l))
    | none => .next s

/-- The Normal entry under way is abandoned (R332): its words are discarded and its EDGE source pends again. -/
def State.abandonEntry (s : State) (g : Nat) : State :=
  match s.wiuStack g with
  | f :: r =>
    if s.sched.now < f.ends then
      let s := (s.setStack g r).bump (R.WIU_COUNT g) F.WIU_COUNT_ABANDONS
      if wiuLevel f.src then s else s.wardenPend g f.src
    else s
  | [] => s

/-- FAST_ENTRY (R330, R332): outside a Fast handler, the Warden switches to the shadow bank for the
lowest-numbered pending Fast source; a Normal entry under way is abandoned. -/
def execFastEntry (g : Gal) (s : State) : Out :=
  if (s.wiuStack g.val).any (fun f => f.fast) || s.galPower g.val != 0 then .next s
  else match s.nextFast g.val with
    | some i =>
      let s := s.abandonEntry g.val
      .next ((s.wiuClear g.val i).setStack g.val (⟨i, 0, true, 0⟩ :: s.wiuStack g.val))
    | none => .next s

/-- NORMAL_EXIT (R331, R333): the handler ends; with a pending Normal source above the level it would return
to, the Warden tail-chains: the stacked context stays and the new vector is fetched. -/
def execNormalExit (g : Gal) (s : State) : Out :=
  match s.wiuStack g.val with
  | f :: r =>
    if f.fast ∨ s.sched.now < f.ends then .next s
    else match s.nextNormal g.val (levelOf r) with
      | some i =>
        .next (((s.wiuClear g.val i).setStack g.val (⟨i, s.wiuPrio g.val i, false, 0⟩ :: r)).bump
          (R.WIU_COUNT g.val) F.WIU_COUNT_TAIL_CHAINS)
      | none => .next (s.setStack g.val r)
  | [] => .next s

/-- FAST_EXIT (R333): the Fast handler ends; with another Fast source pending the Warden enters it without
leaving the shadow bank. -/
def execFastExit (g : Gal) (s : State) : Out :=
  match s.wiuStack g.val with
  | f :: r =>
    if f.fast = false then .next s
    else match s.nextFast g.val with
      | some i =>
        .next (((s.wiuClear g.val i).setStack g.val (⟨i, 0, true, 0⟩ :: r)).bump (R.WIU_COUNT g.val)
          F.WIU_COUNT_TAIL_CHAINS)
      | none => .next (s.setStack g.val r)
  | [] => .next s

/-! Events (R329). -/

/-- WARDEN_SOURCE_PEND (R329): the event of EDGE source `i`; a LEVEL source follows its condition. -/
def execWardenSourcePend (g : Gal) (i : Fin 32) (s : State) : Out :=
  if wiuLevel i.val then .next s else .next (s.wardenPend g.val i.val)

/-- WARDEN_TIMER (R329): the Warden timer expires. -/
def execWardenTimer (g : Gal) (s : State) : Out := .next (s.wardenPend g.val 9)

/-- SOFT_SET (R329): a write of WIU_PENDING.SOFT. -/
def execSoftSet (g : Gal) (w : BitVec 16) (s : State) : Out :=
  s.window g.val (fun s => (List.range 16).foldl (fun s i => if w.getLsbD i then s.wardenPend g.val (16 + i) else s) s)

/-- WIU_COUNT_CLEAR: a write of any value clears WIU_COUNT. -/
def execWiuCountClear (g : Gal) (s : State) : Out := s.window g.val (fun s => s.setReg (R.WIU_COUNT g.val) 0)

/-- The unit of an Off gallery loses all state; on wake its registers hold their reset values (R334). -/
def State.wiuReset (s : State) (g : Nat) : State :=
  let s := { s with wiu := { s.wiu with pend := NMap.keep s.wiu.pend (fun k => k / 32 != g),
                                        stack := NMap.keep s.wiu.stack (fun k => k != g),
                                        msgs := NMap.keep s.wiu.msgs (fun k => k != g) } }
  [R.WIU_ENABLE g, R.WIU_CLASS g, R.WIU_PRIO g 0, R.WIU_PRIO g 1, R.WIU_PRIO g 2, R.WIU_PRIO g 3, R.WIU_COUNT g].foldl
    (fun s a => s.setReg a (regReset a)) s

end Sys2Proof.Machine
end

