-- ==== Sys2Proof/Machine/Power.lean ====
section
/-! DEFINITION. Gallery power states and the resets as commands (16, R393 to R399; 10, R296, R297; 09, R270 to
R272; 01, R8). -/

namespace Sys2Proof.Machine

/-! Gallery power (R397, R398). -/

/-- A refusal (R398): the field returns to the present state. -/
def State.refuseGal (s : State) (g : Nat) : State :=
  ((s.put (R.PWR_GAL_REQ (g / 16)) (reqField g) (s.galPower g)).raise R.PWR_EVENT F.PWR_EVENT_REFUSED).put
    R.PWR_EVENT F.PWR_EVENT_GALLERY g

/-- One field of a request: 0b11 is reserved and leaves the field (R5); a request is deferred, refused, or raises
the Warden's POWER source before its transition. -/
def State.requestGal (s : State) (g r : Nat) : State :=
  if r = 3 then s
  else
    let s := s.put (R.PWR_GAL_REQ (g / 16)) (reqField g) r
    if s.galBusy g ∨ s.galPower g = r then s
    else if s.galRefuses g r then s.refuseGal g
    else s.wardenPend g 10

/-- GALLERY_POWER_REQUEST (R398): a write of PWR_GAL_REQ_k. -/
def execGalleryPowerRequest (k : Fin 4) (w : Word) (s : State) : Out :=
  .next ((List.range 16).foldl (fun s j =>
    s.requestGal (16 * k.val + j) (bitsOf (2 * j + 1) (2 * j) w.toNat)) s)

/-- GALLERY_IDLE (R397, R387): the clock of a gallery requested Idle is gated at a period boundary. -/
def execGalleryIdle (g : Gal) (s : State) : Out :=
  if s.galReq g.val ≠ 1 ∨ s.galPower g.val ≠ 0 ∨ s.galBusy g.val then .next s
  else if s.galRefuses g.val 1 then .next (s.refuseGal g.val)
  else .next ((s.trcStop (4 + g.val)).setGalPower g.val 1)

/-- GALLERY_ON (R397, R387): the clock of an Idle gallery requested On resumes. -/
def execGalleryOn (g : Gal) (s : State) : Out :=
  if s.galReq g.val ≠ 0 ∨ s.galPower g.val ≠ 1 then .next s
  else .next ((s.setGalPower g.val 0).trcStart (4 + g.val) 0)

/-- GALLERY_POWER_DOWN (R296, R334, R388): once the requests it accepted are served, the gallery goes Off; its
contents, its interrupt unit and its ASSERT FIFO are lost, its DEVICE_READY bit clears. -/
def execGalleryPowerDown (g : Gal) (s : State) : Out :=
  if s.galReq g.val ≠ 2 ∨ 2 ≤ s.galPower g.val ∨ s.galBusy g.val then .next s
  else if s.galRefuses g.val 2 then .next (s.refuseGal g.val)
  else if s.mem.bankQ.any (fun r => r.gal == g.val && r.since.isSome) ∨
      s.host.netQ.any (fun r => r.gal == g.val && r.taken) then .next s
  else
    let s := s.abortSnapPhase2
    let s := (((s.trcOff (4 + g.val)).wiuReset g.val).clearGal g.val).setGalReady g.val false
    let s := { s with fab := { s.fab with asserts := NMap.keep s.fab.asserts (fun k => k != g.val) } }
    .next (((s.setGalPower g.val 2).flushQueue g.val 2).flushNet g.val)

/-- GALLERY_WAKE (R297, R397, R113): power returns to an Off gallery that is no longer requested Off; its repair
entries load and its clear, or its march, begins. -/
def execGalleryWake (g : Gal) (s : State) : Out :=
  if s.galReq g.val = 2 ∨ s.isOff g.val = false then .next s else .next (s.startWake g.val)

/-! Resets (R270). -/

/-- The register store with only the registers whose offset satisfies `p`; the others are at reset. -/
def State.keepRegs (s : State) (p : Nat → Bool) : State := { s with regs := NMap.keep s.regs p }

/-- Is the offset in the Lantern window (R11)? -/
def inLantern (o : Nat) : Bool := Nat.ble 0x200000 o && Nat.blt o 0x400000

/-- What every reset of the dies leaves: fixed parts, flash and its golden area, user flash, what is outside the
device, what has been sent, and the count of free values. -/
def State.afterReset (s : State) : State :=
  let r := State.reset
  { r with
    pending := s.pending, freeCtr := s.freeCtr, part := s.part, flash := s.flash,
    sched := { r.sched with now := s.sched.now },
    rim := { r.rim with ufl := s.rim.ufl, pinExt := s.rim.pinExt, vio := s.rim.vio },
    img := { r.img with golden := s.img.golden },
    mbx := { r.mbx with cq := s.mbx.cq, cqOut := s.mbx.cqOut, hostOut := s.mbx.hostOut },
    host := { r.host with sent := s.host.sent, replies := s.host.replies, perstHigh := s.host.perstHigh },
    psg := { r.psg with blocks := s.psg.blocks }, lnt := Lantern.reset }

/-- The gallery states after a DEVICE reset (R399): those requested; at a trip every gallery is Off. -/
def State.galStates (s : State) (trip : Bool) : State :=
  (List.range 64).foldl (fun s g =>
    s.setGalPower g (if trip then 2 else if s.galReq g = 3 then 0 else s.galReq g)) s

/-- A DEVICE reset (R270, R357, R370): the fabric die and the service die but the Lantern domain. Lantern restarts
through its boot ROM when an activation waits; armed injection points disarm. -/
def State.deviceReset (s : State) (trip : Bool) : State :=
  let t := { s.afterReset with regs := NMap.keep s.regs inLantern, key := s.key,
                               pwr := { s.pwr with d2dRate := 0, d2dFails := 0 },
                               lnt := { s.lnt with armed := [], epoch := 0, lastWrap := 0 } }
  let t := t.galStates trip
  if t.bit R.LNT_STATUS F.LNT_STATUS_ACTIVATE_PENDING then { t with lnt := { t.lnt with inRom := true } } else t

/-- DEVICE_RESET (R270): PERST# falls, or Lantern takes the reset and LNT_PGOOD falls (R394). -/
def execDeviceReset (cause : DeviceCause) (s : State) : Out :=
  match cause with
  | .perst => .next ({ s with host := { s.host with perstHigh := false } }.deviceReset false)
  | .lantern => .next ((s.deviceReset false).put R.PWR_STATUS F.PWR_STATUS_PGOOD 0)

/-- The PULL_SEL straps are sampled (R405). -/
def State.pullStraps (s : State) : State :=
  (List.range 8).foldl (fun s b => s.put (R.RIM_BANK b) F.RIM_BANK_PULL_SEL (natOfBool (s.part.pullSel.contains b))) s

/-- POWER_ON (R270, R369, R377, R405): VAUX rises into range; Lantern derives the device identity key. The key store keeps its contents while VBAT holds. -/
def execPowerOn (vbat : Bool) (s : State) : Out :=
  let t := { s.afterReset with key := if vbat then s.key else KeyStore.reset }
  let t := { t with lnt := { t.lnt with identity := identityOf s.part.secret } }
  let t := t.pullStraps.put R.LNT_STATUS F.LNT_STATUS_BOOT_SEL (natOfBool s.part.bootSel)
  .next (if vbat then t else t.detect 0x10 7 0)

/-- A register range at reset: the mailbox, DMA and the host's NoC-control registers. -/
def hostResetKeeps (o : Nat) : Bool :=
  !(Nat.ble 0x20000 o && Nat.blt o 0x30000) && !(Nat.ble 0x40000 o && Nat.blt o 0x50000) &&
    !(Nat.ble (R.BAR2_BASE) o && Nat.ble o R.HOST_ERR_ADDR_HI) && !(Nat.ble (R.BAR4_SEL 0) o && Nat.ble o (R.BAR4_SEL 15))

/-- A bank request whose answer nobody takes any more. -/
def orphanReq (r : BankReq) : BankReq :=
  match r.who with
  | .noc _ | .pkt _ => r
  | _ => { r with who := .noc false }

/-- The mailbox after a HOST reset (R271): commands that have not started are discarded, started ones finish
without a completion; the log counts both. -/
def State.hostResetMbx (s : State) : State :=
  let out := s.mbx.outstanding
  let waiting := s.mbx.unstarted.length
  let s := s.forget (fun _ => true)
  let s := { s with mbx := { Mailbox.reset with cq := s.mbx.cq, cqOut := s.mbx.cqOut, hostOut := s.mbx.hostOut, remoteOut := s.mbx.remoteOut } }
  s.detect 0x0C 3 0 (leBytes 4 waiting ++ leBytes 4 (out.length - waiting))

/-- The DMA channels after a reset (R316): nothing is written back; the destination bytes of descriptors in
progress are free. -/
def State.hostResetDma (s : State) : State :=
  let s := s.dma.jobs.foldl (fun s j => s.freeTail j.2 0) s
  { s with dma := { Dma.reset with writeBacks := s.dma.writeBacks, ringOut := s.dma.ringOut, hostOut := s.dma.hostOut },
           mem := { s.mem with bankQ := s.mem.bankQ.map orphanReq } }

/-- HOST_RESET (R270, R271, R316, R328): the PCIe endpoint, the mailbox, DMA and the CIC's host target; a HOST
stage ends TRUNCATED. DESIGN CHOICE (logs 34, 47): MBX_VERSION.BUILD is kept. -/
def execHostReset (cause : HostCause) (s : State) : Out :=
  let s := (s.hostResetMbx.hostResetDma).cicHostReset
  let s := if s.imgState = 1 ∧ s.fromChain = false then s.stageFail 0x03 else s
  let s := { s with host := { HostLink.reset with
    sent := s.host.sent, replies := s.host.replies, perstHigh := s.host.perstHigh,
    linkUp := s.host.linkUp && cause != HostCause.linkDown, width := s.host.width, rate := s.host.rate,
    reversed := s.host.reversed } }
  let held := s.noc.waiting.filter (fun h => match h with | .pkt _ => true | .bar0 .. => false)
  let s := { s with noc := { s.noc with waiting := held } }
  .next ((s.keepRegs hostResetKeeps).setReg R.MBX_VERSION (s.reg R.MBX_VERSION))

/-! Bring-up (R272, R393, R394, R405, R8). -/

/-- A command core runs (R268, R328, R355, R388). -/
def State.coreUp (s : State) (k : Nat) : State :=
  ((s.setReady (coreBit + k) true).cicCoreUp k).trcReset k 2

/-- A gallery comes up: its repair entries load, its Warden fetches, its start-up march begins; one requested Off
takes none (R108, R111, R399). -/
def State.galleryUp (s : State) (g : Nat) : State :=
  if s.isOff g then s
  else
    let m : March := { gal := g, keep := false, arrays := 15, wake := false, start := true }
    let s := (s.loadRepair g).raise (R.GAL_MARCH_CTL g) F.GAL_MARCH_CTL_BUSY
    let s := { s with mem := { s.mem with marches := s.mem.marches ++ [m] } }
    if s.galPower g = 0 then s.trcReset (4 + g) 2 else s

/-- The straps that the release of a DEVICE reset samples (R405). -/
def State.straps (s : State) : State :=
  s.pullStraps.put R.IMG_CHAIN F.IMG_CHAIN_ROLE_STRAP (natOfBool s.part.chainRole)

/-- Bring-up of the device functions (R272): straps, repair entries and start-up marches, the Control NoC, the
command cores with the core part of the running firmware (R355), time lock as R342 has it. -/
def State.bringUp (s : State) : State :=
  let s := (List.range 64).foldl State.galleryUp s.straps
  let s := (s.setReady 117 true).setReady timeBit (s.bit R.TB_STATUS F.TB_STATUS_LOCKED)
  let s := ([0, 1, 2, 3].foldl State.coreUp s).showCores
  let s := { s with lnt := { s.lnt with coreFw := s.fld R.LNT_STATUS F.LNT_STATUS_RUNNING } }
  s.put R.MBX_VERSION F.MBX_VERSION_BUILD s.lnt.build

/-- PERST_DEASSERT (R272, R394): bring-up begins; before LNT_PGOOD rises it waits for that. -/
def execPerstDeassert (s : State) : Out :=
  if s.host.perstHigh then .next s
  else
    let s := { s with host := { s.host with perstHigh := true } }
    if s.bit R.PWR_STATUS F.PWR_STATUS_PGOOD then .next s.bringUp else .next s

/-- The VCORE target now in units of 5 mV (R391): it moves by one unit per 100 µs from where it was. -/
def State.vcoreNow (s : State) : Nat :=
  let goal := s.fld R.PWR_STATUS F.PWR_STATUS_VCORE_TARGET
  let from_ := s.pwr.vcoreFrom.1
  let n := (s.sched.now - s.pwr.vcoreFrom.2) / 150000 + 1
  if from_ ≤ goal then Nat.min goal (from_ + n) else Nat.max goal (from_ - n)

/-- Has every main rail been within its operating range for 1 ms, with VCORE at its target (R394)? -/
def State.railsSettled (s : State) : Bool :=
  (match s.pwr.railsOk with | some t => Nat.ble (t + 1500000) s.sched.now | none => false) &&
    s.vcoreNow == s.fld R.PWR_STATUS F.PWR_STATUS_VCORE_TARGET

/-- LNT_PGOOD_RISE (R394): Lantern runs and every main rail has been within its operating range for 1 ms, VCORE at its
target; with PERST# already high, bring-up begins. -/
def execLntPgoodRise (s : State) : Out :=
  if s.bit R.PWR_STATUS F.PWR_STATUS_PGOOD ∨ s.lnt.inRom ∨ s.pwr.vaux = false ∨
     s.fld R.PWR_STATUS F.PWR_STATUS_RAIL_OK ≠ 63 ∨ s.railsSettled = false then .next s
  else
    let s := s.raise R.PWR_STATUS F.PWR_STATUS_PGOOD
    if s.host.perstHigh then .next s.bringUp else .next s

/-- D2D_TRAIN (R8): an attempt to train the die-to-die link, three at 32 GT/s, then three at 16 GT/s. With the link
up Rimstone and Lantern are ready; the sixth failure is D2D_FAIL. -/
def execD2dTrain (ok : Bool) (s : State) : Out :=
  if s.pwr.d2dRate ≠ 0 ∨ 6 ≤ s.pwr.d2dFails then .next s
  else if ok then
    let rate := if s.pwr.d2dFails < 3 then 32 else 16
    let s := { s with pwr := { s.pwr with d2dRate := rate } }
    let s := (s.setReady 118 true).setReady lanternBit (!s.lnt.inRom)
    .next (if rate = 16 then s.detect 0x0F 1 0 else s)
  else
    let n := s.pwr.d2dFails + 1
    let s := { s with pwr := { s.pwr with d2dFails := n } }
    .next (if n = 6 then s.detect 0x0F 2 0 else s)

/-! PCIe link and power states (R275, R276). -/

/-- PCIE_LINK_UP (R275): the link trains at a width and a rate (GT/s). Narrower than x16 it takes the lowest lanes
in the fused order; at x16 either order, as the partner has it. -/
def execPcieLinkUp (width : Fin 5) (rate : Fin 4) (partnerReversed : Bool) (s : State) : Out :=
  let w := [1, 2, 4, 8, 16].getD width.val 1
  .next { s with host := { s.host with
    linkUp := true, width := w, rate := [8, 16, 32, 64].getD rate.val 8,
    reversed := if w = 16 then partnerReversed else s.part.laneReversal } }

/-- D3HOT_ENTRY (R276): no BAR decodes, no MSI-X message leaves. -/
def execD3hotEntry (s : State) : Out := .next { s with host := { s.host with d3hot := true } }

end Sys2Proof.Machine
end

