-- ==== Sys2Proof/Machine/LntOps.lean ====
section
/-! DEFINITION. What Lantern's commands share: firmware images, the boot ROM, the event log as bytes, sensors and
their actions, error injection, counted fuses (14, R353 to R378; 16, R390, R391). -/

namespace Sys2Proof.Machine

/-! Firmware images (R353, R356). -/

/-- An erased slot holds no byte. -/
def dBytes (_ : Nat) : List Byte := []

/-- The image of a flash area: slot 0 A, 1 B, Bedrock copies 12 to 15. -/
def State.fwImage (s : State) (i : Nat) : List Byte := NMap.get dBytes s.flash.images i

/-- Store the image of a flash area. -/
def State.setFwImage (s : State) (i : Nat) (bs : List Byte) : State :=
  { s with flash := { s.flash with images := NMap.set dBytes s.flash.images i bs } }

/-- `n` bytes of a byte string from `a` as a number. -/
def natAt (bs : List Byte) (a n : Nat) : Nat := leNat ((bs.drop a).take n)

/-- Are `n` bytes from `a` present and zero? -/
def zeroAt (bs : List Byte) (a n : Nat) : Bool := ((bs.drop a).take n).all (fun b => b == 0)

/-- BUILD of an image. -/
def fwBuild (bs : List Byte) : Nat := natAt bs 0x0C 4

/-- The signature block (R219) at `a`: the zero regions, the signature over `m` by its PUBLIC_KEY. -/
def sigBlockOk (bs : List Byte) (a : Nat) (m : List Byte) : Bool :=
  zeroAt bs (a + 0x701) 255 && zeroAt bs (a + 0xD00) 768 &&
    Config.falconVerify ((bs.drop a).take 1793) m ((bs.drop (a + 0x800)).take 1280)

/-- The measurement of an image of `n` bytes (R356): every byte before the signature block. -/
def fwMeasure (bs : List Byte) : List Byte := shake64 (bs.take (natAt bs 0x10 8 - 4096))

/-- The header checks of R356; `kind` is the area's. -/
def State.fwHeaderOk (s : State) (bs : List Byte) (kind : Nat) : Bool :=
  let n := natAt bs 0x10 8
  let lo := natAt bs 0x18 8
  let ll := natAt bs 0x20 8
  let co := natAt bs 0x28 8
  let cl := natAt bs 0x30 8
  natAt bs 0 4 == 0x574D5246 && natAt bs 4 2 == 1 && natAt bs 6 2 == 0x0E65 &&
  (natAt bs 8 2).testBit (match s.part.stepping with | .a0 => 0 | .b0 => 1) && natAt bs 0x0A 1 == kind &&
  (kind == 1 || Nat.ble s.part.svn (natAt bs 0x0B 1)) && fwBuild bs != 0xFFFFFFFF &&
  n % 64 == 0 && Nat.ble n (if kind = 0 then 0x400000 else 0x100000) && Nat.ble (256 + 4096) n && Nat.ble n bs.length &&
  Nat.ble (lo + ll) (n - 4096) && Nat.ble (co + cl) (n - 4096) && (Nat.ble (lo + ll) co || Nat.ble (co + cl) lo) &&
  zeroAt bs 0x38 200

/-- Does an image pass R356: header, key digest, signature? -/
def State.fwOk (s : State) (bs : List Byte) (kind : Nat) : Bool :=
  s.fwHeaderOk bs kind && shake32 ((bs.drop (natAt bs 0x10 8 - 4096)).take 1793) == Config.fwKeyDigest &&
    sigBlockOk bs (natAt bs 0x10 8 - 4096) (fwMeasure bs)

/-- The flash area of a RUNNING code: slot A, slot B, the selected Bedrock copy. -/
def State.fwArea (s : State) (running : Nat) : Nat := if running = 2 then s.part.bedrock else running

/-- RUNNING: 0 slot A, 1 slot B, 2 Bedrock. -/
def State.fwRunning (s : State) : Nat := s.fld R.LNT_STATUS F.LNT_STATUS_RUNNING

/-- The BUILD that GET_INFO reports of an area: 0xFFFF_FFFF when no image there passes R356. -/
def State.fwBuildOf (s : State) (running : Nat) : Nat :=
  let bs := s.fwImage (s.fwArea running)
  if s.fwOk bs (if running = 2 then 1 else 0) then fwBuild bs else 0xFFFFFFFF

/-- The failure count of a slot. -/
def State.fwFails (s : State) (slot : Nat) : Nat := NMap.get dZero s.flash.fails slot

/-- Store a failure count. -/
def State.setFails (s : State) (slot n : Nat) : State :=
  { s with flash := { s.flash with fails := NMap.set dZero s.flash.fails slot n } }

/-! Settings in fuses (R374, R376). -/

/-- The journal key of a setting and index that has steps of its own. -/
def fuseKey (setting index : Nat) : Nat := setting * 256 + index

/-- Steps of a setting (R374). -/
def fuseSteps (setting : Nat) : Nat :=
  match setting with
  | 1 => 64 | 2 => 1 | 3 => 1 | 4 => 3 | 5 => 2 | 6 => 3 | _ => 0

/-- Steps left in a setting. -/
def State.fuseLeft (s : State) (setting index : Nat) : Nat :=
  fuseSteps setting - NMap.get dZero s.part.used (fuseKey setting index)

/-- Burn a setting to a value; `digest` is that of OWNER_PROGRAM. -/
def State.burn (s : State) (setting index value : Nat) (digest : List Byte) : State :=
  let p := s.part
  let p : Part := match setting with
    | 1 => { p with svn := value }
    | 2 => { p with ownerDigest := (p.ownerDigest.filter (fun e => e.1 != index)) ++ [(index, digest)] }
    | 3 => { p with ownerRevoked := p.ownerRevoked ++ [index] }
    | 4 => { p with bedrock := value }
    | 5 => { p with laneReversal := value == 1 }
    | _ => { p with debugLock := value }
  let n := NMap.get dZero p.used (fuseKey setting index) + 1
  { s with part := { p with used := NMap.set dZero p.used (fuseKey setting index) n } }

/-- A journal entry (FUSE_JNL_k), COMPLETE set. -/
def journalWord (signer setting index value : Nat) : Word :=
  BitVec.ofNat 32 (0xC0000000 + signer % 16 * 2 ^ 24 + setting % 256 * 2 ^ 16 + index % 256 * 2 ^ 8 + value % 256)

/-- A change of a counted setting (R376): the journal entry, the setting, the log entry. -/
def State.journalled (s : State) (signer setting index value : Nat) (digest : List Byte) : State :=
  let w := journalWord signer setting index value
  let k := s.part.journal.length
  let s := s.burn setting index value digest
  let s := { s with part := { s.part with journal := s.part.journal ++ [w] } }
  s.detect 0x10 0x0C 0 (leBytes 4 w.toNat ++ [BitVec.ofNat 8 k])

/-- Complete one journal entry found incomplete (R376): burn the setting to its value, then COMPLETE, and log. The
bytes of an owner digest beyond byte 0 are not in the entry: they are free (log 3). -/
def State.recoverEntry (s : State) (k : Nat) : State :=
  let w := s.part.journal.getD k 0
  if w.getLsbD 31 ∧ w.getLsbD 30 = false then
    let v := w.toNat % 256
    let digest := BitVec.ofNat 8 v :: leBytes 31 (s.freeVal 248)
    let s := s.used.burn (w.toNat / 2 ^ 16 % 256) (w.toNat / 2 ^ 8 % 256) v digest
    let w' := w ||| 0x40000000#32
    let s := { s with part := { s.part with journal := s.part.journal.set k w' } }
    s.detect 0x10 0x0C 0 (leBytes 4 w'.toNat ++ [BitVec.ofNat 8 k])
  else s

/-- Complete every incomplete journal entry. -/
def State.recoverJournal (s : State) : State := (List.range s.part.journal.length).foldl State.recoverEntry s

/-! The boot ROM (R354, R355). -/

/-- The firmware the boot ROM may start, in the order it tries them: 0 slot A, 1 slot B, 2 Bedrock. -/
def State.bootOrder (s : State) : List Nat :=
  if s.part.bootSel then [2] else [s.flash.active, 1 - s.flash.active, 2]

/-- Does the boot ROM accept firmware `f`? -/
def State.bootable (s : State) (f : Nat) : Bool :=
  if f = 2 then s.fwOk (s.fwImage s.part.bedrock) 1 else s.fwOk (s.fwImage f) 0 && Nat.blt (s.fwFails f) 3

/-- Flash words read by the boot ROM use the injection points of FLASH_CE and FLASH_UE (R370): the boot record has
two copies, so the choice stands. -/
def State.flashInjected (s : State) : State :=
  let s := if s.isArmed 0x10 8 0 then (s.useArmed 0x10 8 0).detect 0x10 8 0 else s
  if s.isArmed 0x10 9 0 then (s.useArmed 0x10 9 0).detect 0x10 9 0 else s

/-- Start firmware `f` (R354, R355, R365): a slot's failure count rises first; FW_BOOT, and FW_FALLBACK when it is not
the first choice. -/
def State.startFw (s : State) (f : Nat) : State :=
  let first := s.bootOrder.headD 2
  let s := if f = 2 then s else s.setFails f (s.fwFails f + 1)
  let b := fwBuild (s.fwImage (s.fwArea f))
  let s := (s.put R.LNT_STATUS F.LNT_STATUS_RUNNING f).put R.LNT_STATUS F.LNT_STATUS_ACTIVATE_PENDING 0
  let s := { s with lnt := { s.lnt with inRom := false, build := b, startedAt := s.sched.now } }
  let data := leBytes 4 f ++ leBytes 4 b
  let s := s.detect 0x10 0x0A 0 data
  let s := if f = first then s else s.detect 0x10 0x0B 0 data
  s.setReady lanternBit (s.pwr.d2dRate != 0)

/-! The event log as bytes (R365). -/

/-- A log entry as 32 bytes. -/
def LogEvent.bytes (e : LogEvent) : List Byte :=
  leBytes 4 e.time ++ leBytes 4 e.seq ++ leBytes 1 e.source ++ leBytes 1 e.code ++ leBytes 2 e.unit ++ leBytes 1 e.cls ++
  leBytes 1 (natOfBool e.injected + 2 * natOfBool e.coalesced + 4 * natOfBool e.isLocal) ++ leBytes 2 e.repeats ++
  (e.data ++ List.replicate 16 0).take 16

/-- Append an entry: its sequence number, LNT_LOG_SEQ, the ring of 8,192 (R365). -/
def State.appendLog (s : State) (e : LogEvent) : State :=
  let n := (s.reg R.LNT_LOG_SEQ).toNat
  let s := { s with lnt := { s.lnt with log := (s.lnt.log ++ [{ e with seq := n }]).drop (s.lnt.log.length + 1 - 8192) } }
  s.setReg R.LNT_LOG_SEQ (BitVec.ofNat 32 (n + 1))

/-- Does event `e` repeat the logged entry `x` (R366): the same SOURCE, CODE and UNIT within 1 ms of the entry's first
occurrence? ASSERT and EPOCH entries never. A millisecond is 1,500,000 periods. -/
def LogEvent.repeats? (e x : LogEvent) : Bool :=
  e.source == x.source && e.code == x.code && e.unit == x.unit && Nat.ble (e.born - x.born) 1500000 &&
    !(e.source == 7 && e.code == 0x0A) && !(e.source == 0x10 && e.code == 0)

/-- Coalesce into the latest matching entry; none when there is none. -/
def coalesce (e : LogEvent) : List LogEvent → Option (List LogEvent)
  | [] => none
  | x :: xs =>
    match coalesce e xs with
    | some ys => some (x :: ys)
    | none => if e.repeats? x then some ({ x with coalesced := true, repeats := satAdd 0xFFFF x.repeats 1 } :: xs) else none

/-- Write one event: coalesced into an entry, or a new one (R366). -/
def State.writeEvent (s : State) (e : LogEvent) : State :=
  match coalesce e s.lnt.log with
  | some l => { s with lnt := { s.lnt with log := l } }
  | none => s.appendLog e

/-! Sensors (R362, R363, R390). -/

/-- Is sensor `i` a gallery sensor, of the service die, of a DRAM die? -/
def isGalSns (i : Nat) : Bool := Nat.blt i 64
/-- A service-die sensor. -/
def isSvcSns (i : Nat) : Bool := Nat.ble 64 i && Nat.blt i 68
/-- A DRAM sensor. -/
def isDramSns (i : Nat) : Bool := Nat.ble 68 i && Nat.blt i 76

/-- The halt level of a thermal sensor in 1/16 °C: 103 °C or 93 °C; none for the service die. -/
def haltLevel (i : Nat) : Option Int := if isGalSns i then some 1648 else if isDramSns i then some 1488 else none

/-- The trip level: 108 °C or 98 °C. -/
def tripLevel (i : Nat) : Int := if isDramSns i then 1568 else 1728

/-- Is a reading outside the warn limits: at or above HIGH of a thermal sensor, above HIGH of a rail, or below LOW
(off at 0x8000 for a temperature, at 0 for a rail; a HIGH of 0 of a bank's VIO stands for no limit)? -/
def State.outsideWarn (s : State) (i v : Nat) : Bool × Bool :=
  let h := s.fld (R.SNS_LIMIT i) F.SNS_LIMIT_HIGH
  let l := s.fld (R.SNS_LIMIT i) F.SNS_LIMIT_LOW
  if i < 76 then (decide (asTemp h ≤ asTemp v), l != 0x8000 && decide (asTemp v < asTemp l))
  else (Nat.blt h v && !(Nat.ble 85 i && h == 0), l != 0 && Nat.blt v l)

/-- Is a reading at or above a halt or trip level? -/
def atHalt (i v : Nat) : Bool :=
  decide (i < 76) && (decide (tripLevel i ≤ asTemp v) ||
    (match haltLevel i with | some h => decide (h ≤ asTemp v) | none => false))

/-- Nominal mV of the main rail of RAIL_OK bit `r`; VCORE is at its target. -/
def State.railNominal (s : State) (r : Nat) : Nat :=
  match r with
  | 0 => s.vcoreNow * 5
  | 1 => 750 | 2 => 1100 | 3 => 900 | 4 => 1200 | _ => 800

/-- The RAIL_OK bit of a sensor. -/
def railOf (i : Nat) : Option Nat :=
  match i with
  | 76 => some 0 | 78 => some 1 | 79 => some 2 | 80 => some 3 | 81 => some 4 | 82 => some 5 | _ => none

/-- The sensor of a RAIL_OK bit. -/
def railSensor (r : Nat) : Nat := if r = 0 then 76 else 77 + r

/-- Since when a condition has held that now holds or not. -/
def sinceNow (now : Nat) (on : Bool) (was : Option Nat) : Option Nat := if on then some (was.getD now) else none

/-- Store RAIL_OK bit `r`; since when every main rail is in range follows (R394). -/
def State.setRailOk (s : State) (r : Nat) (v : Bool) : State :=
  let s := s.put R.PWR_STATUS ⟨r, r⟩ (natOfBool v)
  { s with pwr := { s.pwr with
    railsOk := sinceNow s.sched.now (s.fld R.PWR_STATUS F.PWR_STATUS_RAIL_OK == 63) s.pwr.railsOk } }

/-- Is every main rail absent: below 10 % of nominal (R395)? DEDUCED (log 57). -/
def State.railsAbsent (s : State) : Bool :=
  (List.range 6).all (fun r => s.snsValid (railSensor r) &&
    Nat.blt (10 * s.fld (R.SNS_VALUE (railSensor r)) F.SNS_VALUE_VALUE) (s.railNominal r))

/-- TRIP ends once every main rail has been absent for 10 ms (R364). -/
def State.tripEnd (s : State) : State :=
  let since := sinceNow s.sched.now s.railsAbsent s.pwr.railsGone
  let s := { s with pwr := { s.pwr with railsGone := since } }
  match since with
  | some t => if t + 15000000 ≤ s.sched.now then s.put R.LNT_STATUS F.LNT_STATUS_TRIP 0 else s
  | none => s

/-- Is `v` mV within ± `pc` percent of `n`? -/
def within (pc n v : Nat) : Bool := Nat.ble ((100 - pc) * n) (100 * v) && Nat.ble (100 * v) ((100 + pc) * n)

/-- THERM_HOLD follows the readings after a thermal halt (R363): any gallery at or above 98 °C or any DRAM die at or
above 88 °C. -/
def State.thermHold (s : State) : State :=
  let hot (lvl : Int) (i : Nat) : Bool := match s.reading i with
    | some t => decide (lvl ≤ t)
    | none => false
  let on := s.lnt.halted && (galSensors.any (hot 1568) || dramSensors.any (hot 1408))
  { s with lnt := { s.lnt with halted := on } }.put R.LNT_STATUS F.LNT_STATUS_THERM_HOLD (natOfBool on)

/-- A thermal halt (R363): the device halts at the next T5; in a lattice FAULT names the current tick. -/
def State.thermalHalt (s : State) : State :=
  let s := { s with lnt := { s.lnt with halted := true } }
  if s.isRunning = false then s
  else if s.inLattice then (s.floodFault s.sched.curTick).haltAtEnd else s.haltAtEnd

/-- A trip (R364): THERMTRIP_N low, a DEVICE reset with every gallery Off; LNT_PGOOD falls. -/
def State.trip (s : State) : State :=
  ((s.raise R.LNT_STATUS F.LNT_STATUS_TRIP).deviceReset true).put R.PWR_STATUS F.PWR_STATUS_PGOOD 0

/-- A DEVICE reset that Lantern takes (R394). -/
def State.lanternReset (s : State) : State := (s.deviceReset false).put R.PWR_STATUS F.PWR_STATUS_PGOOD 0

/-- What follows a rail's sample (R364, R390): RAIL_OK; TRIP may end; a bank's VIO_OK. -/
def State.railSample (s : State) (i v : Nat) : State :=
  let s := match railOf i with
    | some r => s.setRailOk r (within 3 (s.railNominal r) v)
    | none => s
  let s := s.tripEnd
  if 85 ≤ i then
    let b := i - 85
    let n := vioMv (s.fld (R.RIM_BANK_VIO b) F.RIM_BANK_VIO_VIO)
    s.put (R.RIM_BANK b) F.RIM_BANK_VIO_OK (natOfBool (n != 0 && within 10 n v))
  else s

/-- What a crossing of the warn limits does (R363): THERMAL_WARN, RAIL_WARN or VBAT_LOW; a PLDM event but for
VBAT_LOW. -/
def State.warnCrossed (s : State) (i : Nat) (high : Bool) : State :=
  if i < 76 then
    let s := s.platformEvent 0x10 1 i
    if high then s.detect 0x10 1 i else s
  else if i = 84 ∧ high = false then s.detect 0x10 6 i
  else (s.platformEvent 0x10 4 i).detect 0x10 4 i

/-- A valid sample of sensor `i` (R362, R363): VALUE, VALID, WARN, HALT; its actions as it crosses a level. -/
def State.takeSample (s : State) (i v : Nat) : State :=
  let o := R.SNS_VALUE i
  let warned := s.bit o F.SNS_VALUE_WARN
  let old := s.fld o F.SNS_VALUE_VALUE
  let was := s.snsValid i
  let x := s.outsideWarn i v
  let y := s.outsideWarn i old
  let stays := was && warned
  let s := { s with lnt := { s.lnt with missed := NMap.set dZero s.lnt.missed i 0 } }
  let s := (((s.put o F.SNS_VALUE_VALUE v).put o F.SNS_VALUE_VALID 1).put o F.SNS_VALUE_WARN (natOfBool (x.1 || x.2))).put
    o F.SNS_VALUE_HALT (natOfBool (atHalt i v))
  let s := s.railSample i v
  let s := if (x.1 && !(stays && y.1)) || (x.2 && !(stays && y.2)) then s.warnCrossed i x.1 else s
  if 76 ≤ i then s
  else
    let crosses (l : Int) : Bool := decide (l ≤ asTemp v) && !(was && decide (l ≤ asTemp old))
    let s := match haltLevel i with
      | some h => if crosses h then ((s.platformEvent 0x10 2 i).detect 0x10 2 i).thermalHalt else s
      | none => s
    let s := s.thermHold
    if crosses (tripLevel i) then (s.detect 0x10 3 i).trip else s

/-! Error injection (R369, R370). -/

/-- Is a detector listed (R369)? -/
def detListed (block code : Nat) : Bool :=
  match block with
  | 0x01 => Nat.ble code 0x0B
  | 0x02 => Nat.ble code 5
  | 0x03 => Nat.ble code 6
  | 0x04 => Nat.ble code 5
  | 0x05 => Nat.ble code 0x0A || (Nat.ble 0x10 code && Nat.ble code 0x13)
  | 0x06 => Nat.ble code 4
  | 0x07 => Nat.ble code 2 || (Nat.ble 8 code && Nat.ble code 0x0A)
  | 0x08 => Nat.ble code 4
  | 0x09 => Nat.ble code 6 || code == 0x10 || code == 0x11
  | 0x0A => Nat.ble code 3
  | 0x0B => Nat.ble code 9
  | 0x0C => Nat.ble code 4
  | 0x0D => Nat.ble code 5
  | 0x0E => Nat.ble code 4
  | 0x0F => Nat.ble code 2
  | 0x10 => Nat.ble code 0x10
  | _ => false

/-- The FAULT injection points (R369). -/
def faultPoint (block code : Nat) : Bool :=
  match block with
  | 0x01 => Nat.ble 6 code && Nat.ble code 9
  | 0x02 => code == 3 || code == 4
  | 0x03 => Nat.ble code 1
  | 0x04 => Nat.ble code 3
  | 0x05 => code == 0x10 || code == 0x11
  | 0x0B => code == 0 || code == 2 || code == 3
  | 0x0F => code == 0
  | 0x10 => code == 8 || code == 9
  | _ => false

/-- Is a UNIT within its block's range (R369)? -/
def unitOk (block code unit : Nat) : Bool :=
  match block with
  | 0x01 | 0x02 | 0x03 => Nat.blt unit 64
  | 0x04 | 0x0A => Nat.blt unit 32
  | 0x05 => Nat.blt unit 16
  | 0x07 => if code = 9 then Nat.blt unit 16 else if code = 0x0A then Nat.blt unit 64 else unit == 0
  | 0x0B => Nat.blt unit 8 || unit == 0xFF
  | 0x0C => if code ≤ 1 then Nat.blt unit 16 else if code = 3 then unit == 0 else Nat.blt unit 4
  | 0x10 => Nat.blt unit 93
  | _ => unit == 0

/-- Record condition `n` of NOC_ERR with its location registers (R289, NOC_ERR_LOC). -/
def State.recordNoc (s : State) (n node src : Nat) : State :=
  let s := s.raise R.NOC_ERR ⟨n, n⟩
  let s := if s.bit R.NOC_ERR_LOC F.NOC_ERR_LOC_VALID then s else
    (((s.put R.NOC_ERR_LOC F.NOC_ERR_LOC_CODE n).put R.NOC_ERR_LOC F.NOC_ERR_LOC_NODE node).put
      R.NOC_ERR_LOC F.NOC_ERR_LOC_SRC src).raise R.NOC_ERR_LOC F.NOC_ERR_LOC_VALID
  s.detect 0x08 n 0 (s.regBytes [R.NOC_ERR_LOC])

/-- The status of a Design Memory detector with a zero location (R370). -/
def State.fireDm (s : State) (g n : Nat) : State :=
  let fresh := s.bit (R.GAL_DM_LOC g) F.GAL_DM_LOC_VALID = false
  let s := if n = 0 then s.bump (R.GAL_DM_CE_COUNT g) F.GAL_DM_CE_COUNT_COUNT else s
  let s := s.recordDm g n (.schedule 0) 0 0 0
  if fresh then s.put (R.GAL_DM_LOC_STEP g) F.GAL_DM_LOC_STEP_SCHED 0 else s

/-- The status of a Deep Store detector. -/
def State.fireDs (s : State) (c n : Nat) : State :=
  let s := match n with
    | 0 => s.bump (R.DS_CH_ERR c) F.DS_CH_ERR_CE
    | 1 => s.bump (R.DS_CH_ERR c) F.DS_CH_ERR_CRC_RETRY
    | 2 | 3 => s.bump (R.DS_CH_ERR c) F.DS_CH_ERR_UE
    | _ => s
  s.detect 0x04 n c

/-- The status of a Passage detector. -/
def State.firePsg (s : State) (p n : Nat) : State :=
  if n ≤ 0x0A then s.recordPsg p n
  else
    let s := if n = 0x10 then s.bump (R.PSG_FEC_CE p) F.PSG_FEC_CE_COUNT
      else if n = 0x11 then s.bump (R.PSG_FEC_UE p) F.PSG_FEC_UE_COUNT else s
    s.detect 0x05 n p

/-- The status of a schedule detector. -/
def State.fireSched (s : State) (n u : Nat) : State :=
  let s := match n with
    | 0 => (s.raise R.SCHED_STATUS F.SCHED_STATUS_OVERRUN).cicEvent 17
    | 1 => s.raise R.SCHED_STATUS F.SCHED_STATUS_PEER_STRETCH
    | 2 => s.raise R.SCHED_STATUS F.SCHED_STATUS_CTX_REJECT
    | 8 => s.raise R.IMG_LAT F.IMG_LAT_MISMATCH
    | 9 => s.raise (R.PSG_HELD u) F.PSG_HELD_OVER_BUDGET
    | _ => s
  let s := s.detect 0x07 n u
  if n == 0 && s.bit R.SCHED_TICK_CFG F.SCHED_TICK_CFG_POLICY then s.haltAtEnd else s

/-- The status of a Rimstone detector. -/
def State.fireRim (s : State) (n u : Nat) : State :=
  let s := match n with
    | 0 => s.raise R.RIM_WIRE_STATUS F.RIM_WIRE_STATUS_SEEN
    | 1 => s.raise R.RIM_WIRE_STATUS F.RIM_WIRE_STATUS_STUCK
    | 2 => s.bump R.RIM_SCRUB_STATUS F.RIM_SCRUB_STATUS_CORRECTED
    | 3 => s.bump R.RIM_SCRUB_STATUS F.RIM_SCRUB_STATUS_REWRITES
    | 5 | 6 => s.raise R.RIM_STATUS F.RIM_STATUS_SCRUB_FAULT
    | 7 => s.bump R.RIM_SCRUB_STATUS F.RIM_SCRUB_STATUS_VOTE_FIX
    | 9 => s.raise R.RIM_PW_STATUS F.RIM_PW_STATUS_LINK_LOST
    | _ => s
  s.detect 0x0B n u

/-- The status of a Timebase detector. -/
def State.fireTb (s : State) (n : Nat) : State :=
  let s := match n with
    | 1 => s.raise R.TB_STATUS F.TB_STATUS_LOST_LOCK
    | 3 => s.raise R.TB_STATUS F.TB_STATUS_SEQ_GAP
    | 4 => s.raise R.TB_STATUS F.TB_STATUS_CLAMPED
    | 5 => s.raise R.TB_STATUS F.TB_STATUS_WRITE_REFUSED
    | _ => s
  s.detect 0x0D n 0

/-- A detector of Lantern, with the action that its rule states (R363, R364, R368). -/
def State.fireLantern (s : State) (n u : Nat) : State :=
  let s := s.detect 0x10 n u
  if n = 2 then s.thermalHalt else if n = 3 then s.trip else if n = 5 then s.lanternReset else s

/-- Set a detector's status as though it had fired, with a zero location (R370). -/
def State.fireDetector (s : State) (block n u : Nat) : State :=
  match block with
  | 0x01 => (if n = 8 then s.bump (R.GAL_ISTORE_CE_COUNT u) F.GAL_ISTORE_CE_COUNT_COUNT else s).record u n ⟨0, 0, 0, 0⟩
  | 0x02 => s.recordSched u n ⟨0, 0, 0, 0⟩
  | 0x03 => s.fireDm u n
  | 0x04 => s.fireDs u n
  | 0x05 => s.firePsg u n
  | 0x06 => s.recordLtc n
  | 0x07 => s.fireSched n u
  | 0x08 => s.recordNoc n 0 0
  | 0x09 => if n ≤ 6 then s.hostErr n 0 0 else s.detect 0x09 n 0
  | 0x0A => (s.latch u ⟨0, 0, 0, 0, false⟩).detect 0x0A n u
  | 0x0B => s.fireRim n u
  | 0x0D => s.fireTb n
  | 0x10 => s.fireLantern n u
  | _ => s.detect block n u

/-- Run `f` with tick, context and step at zero: the location fields it captures are zero (R370). -/
def State.atZero (s : State) (f : State → State) : State :=
  let t := f { s with sched := { s.sched with curTick := 0, ctx := 0, step := 0 } }
  { t with sched := { t.sched with curTick := s.sched.curTick, ctx := s.sched.ctx, step := s.sched.step } }

/-! Words that fuses and the part give (R14, KEY_STATUS, FUSE_STATE). -/

/-- DEVICE_ID (R14). -/
def State.deviceId (s : State) : Word :=
  BitVec.ofNat 32 (0x0E65 * 2 ^ 16 + s.part.stepping.revision * 2 ^ 8 + s.part.stepping.profile * 2 ^ 4)

/-- A mask with the listed bits. -/
def maskOf (l : List Nat) (n : Nat) : Nat := (List.range n).foldl (fun m i => if l.contains i then m + 2 ^ i else m) 0

/-- KEY_STATUS (R220 to R222). -/
def State.keyStatus (s : State) : Word :=
  BitVec.ofNat 32 (natOfBool s.part.fuseKek.isSome * 2 ^ 25 + maskOf (s.key.keks.map (fun e => e.1)) 8 * 2 ^ 17 +
    maskOf s.part.ownerRevoked 4 * 2 ^ 13 + maskOf (s.part.ownerDigest.map (fun e => e.1)) 4 * 2 ^ 9 +
    s.part.debugLock % 4 * 2 ^ 7 + s.part.svn % 128)

/-- FUSE_STATE (R374). -/
def State.fuseState (s : State) : Word :=
  BitVec.ofNat 32 (s.part.journal.length % 256 * 2 ^ 24 + s.part.bedrock % 16 * 2 ^ 20 + natOfBool s.part.laneReversal * 2 ^ 19 +
    s.fuseLeft 4 0 * 2 ^ 17 + s.fuseLeft 5 0 * 2 ^ 15 + s.fuseLeft 6 0 * 2 ^ 13 + s.fuseLeft 1 0 * 2 ^ 6)

/-! The seconds count (R336). -/

/-- Lantern extends the DTC: a wrap count below the last one adds 65,536. -/
def State.extend (s : State) : State :=
  let e := if s.wrap < s.lnt.lastWrap then s.lnt.epoch + 65536 else s.lnt.epoch
  { s with lnt := { s.lnt with epoch := e, lastWrap := s.wrap } }

/-- The seconds count, counted from the last DEVICE reset. -/
def State.seconds (s : State) : Nat := ((s.extend.lnt.epoch + s.wrap) * 2 ^ 32 + s.ns) / 1000000000

/-! Host buffers of results (R260). -/

/-- Write results to the host buffer of a command and complete it: a buffer access that ends in a PCIe error stops the
writing before the faulting address. -/
def State.giveHost (s : State) (c : CmdId) (buf : HostBuf) (bs : List Byte) (r0 r1 : Dword) : State :=
  match buf.fault with
  | some a =>
    if a < bs.length then (s.toHost c (bs.take a)).complete c 0x33 else (s.toHost c bs).complete c 0 r0 r1
  | none => (s.toHost c bs).complete c 0 r0 r1

end Sys2Proof.Machine
end

