-- ==== Sys2Proof/Machine/Lantern.lean ====
section
/-! DEFINITION. Lantern as commands: firmware, attestation, the event log, error injection, counted fuses, the boot ROM,
sensors and rails, the error registry (14, R353 to R378; 16, R390, R391, R404; 09, R261). -/

namespace Sys2Proof.Machine

/-! Mailbox commands of Lantern (R261). -/

/-- The 256-byte info block of GET_INFO. -/
def State.infoBlock (s : State) : List Byte :=
  let head := leBytes 4 s.deviceId.toNat ++ leBytes 4 (s.reg R.DEVICE_CAPS).toNat ++ leBytes 2 3 ++ leBytes 1 s.fwRunning ++
    leBytes 1 0 ++ leBytes 4 (s.fwBuildOf 0) ++ leBytes 4 (s.fwBuildOf 1) ++ leBytes 4 (s.fwBuildOf 2) ++ (s.part.serial ++
    List.replicate 16 0).take 16
  (head ++ List.replicate 256 0).take 256

/-- GET_INFO (R261): the info block; RESULT0 holds interface version 3 and the running build. -/
def execGetInfo (h : Hdr) (buf : HostBuf) (s : State) : Out :=
  s.command (cls := .prompt) (buf := buf) h (.getInfo h buf) false [] (always := true) (fun c s =>
    if buf.len < 256 then s.complete c 0x2D
    else s.giveHost c buf s.infoBlock (BitVec.ofNat 64 (3 + s.lnt.build * 2 ^ 16)) 0)

/-- Program a slot with an image (R357): erased first; `readBack` tells whether the read-back measures the same. -/
def State.programSlot (s : State) (slot : Nat) (bs : List Byte) (readBack : Bool) : State :=
  s.setFwImage slot (if readBack then bs.take (natAt bs 0x10 8) else [])

/-- ACTIVE names a slot, its failure count is cleared, an activation is pending (R357, R359). -/
def State.activateSlot (s : State) (slot : Nat) : State :=
  let s := { s with flash := { s.flash with active := slot } }.setFails slot 0
  s.raise R.LNT_STATUS F.LNT_STATUS_ACTIVATE_PENDING

/-- The checks and the writing of FW_UPDATE on an image (R356, R357). -/
def State.fwUpdate (s : State) (c : CmdId) (slot : Nat) (activate : Bool) (bs : List Byte) (readBack : Bool) : State :=
  if s.fwOk bs 0 = false then s.complete c 0x2F
  else
    let s := s.programSlot slot bs readBack
    if readBack = false then s.complete c 0x2F
    else (if activate then s.activateSlot slot else s).complete c 0 (BitVec.ofNat 64 (fwBuild bs))

/-- FW_UPDATE (R357, R358): BUSY during a PLDM update, SLOT_ACTIVE for the slot that runs. -/
def execFwUpdate (h : Hdr) (slot flags : BitVec 8) (buf : HostBuf) (readBack : Bool) (s : State) : Out :=
  s.command (cls := .long) (buf := buf) (ok := readBack) h (.fwUpdate h slot flags buf readBack) false [lanternBit] (always := true) (fun c s =>
    if 2 ≤ slot.toNat ∨ 2 ≤ flags.toNat then s.complete c 2
    else if s.lnt.upd.phase ≠ UpdPhase.idle then s.complete c 4
    else if s.fwRunning = slot.toNat then s.complete c 0x30
    else match hostBytes buf buf.len with
      | .inl st => s.complete c st
      | .inr bs => s.fwUpdate c slot.toNat (flags.getLsbD 0) bs readBack)

/-- Bytes 0x000 to 0x1FF of the attestation report (R378). -/
def State.reportBody (s : State) (nonce : List Byte) : List Byte :=
  let pad (n : Nat) (bs : List Byte) : List Byte := (bs ++ List.replicate n 0).take n
  leBytes 4 0x54535441 ++ leBytes 2 1 ++ leBytes 2 0 ++ pad 16 s.part.serial ++ leBytes 4 s.deviceId.toNat ++
  leBytes 4 s.keyStatus.toNat ++ leBytes 4 s.fuseState.toNat ++ leBytes 4 s.fwRunning ++ leBytes 4 s.lnt.build ++
  leBytes 4 (s.reg R.IMG_STATUS).toNat ++ pad 32 nonce ++ pad 32 Config.bootRomDigest ++
  pad 32 (fwMeasure (s.fwImage (s.fwArea s.fwRunning))) ++ pad 32 (fwMeasure (s.fwImage s.part.bedrock)) ++
  (List.range 8).flatMap (fun k => leBytes 4 (s.reg (R.IMG_DIGEST k)).toNat) ++
  (List.range 8).flatMap (fun k => leBytes 4 (s.reg (R.IMG_BASE k)).toNat) ++
  [0, 1, 2, 3].flatMap (fun i => pad 32 (s.ownerDigestOf i)) ++ leBytes 8 s.seconds ++ leBytes 4 s.ns ++ List.replicate 132 0

/-- A signature block (R219) by the device identity key over a measurement. -/
def State.identitySign (s : State) (m : List Byte) : List Byte :=
  let pad (n : Nat) (bs : List Byte) : List Byte := (bs ++ List.replicate n 0).take n
  pad 2048 (pad 1793 s.lnt.identity.1) ++ pad 2048 (pad 1280 (Config.falconSign s.lnt.identity.2 m))

/-- The attestation report (R378): the body and the signature block over its measurement. -/
def State.report4608 (s : State) (nonce : List Byte) : List Byte :=
  let b := s.reportBody nonce
  b ++ s.identitySign (shake64 b)

/-- ATTEST (R378): the signed report. -/
def execAttest (h : Hdr) (nonce : BitVec 256) (buf : HostBuf) (s : State) : Out :=
  s.command (buf := buf) h (.attest h nonce buf) false [lanternBit] (always := true) (fun c s =>
    if buf.len < 4608 then s.complete c 0x2D
    else s.extend.giveHost c buf (s.report4608 (leBytes 32 nonce.toNat)) 4608 0)

/-- What LOG_READ copies (R367): the entries, the entries skipped, the sequence number after the last one. -/
def State.logRead (s : State) (start count : Nat) : List LogEvent × Nat × Nat :=
  let n := s.lnt.log.length
  let next := (s.reg R.LNT_LOG_SEQ).toNat
  let oldest := (next + 2 ^ 32 - n % 2 ^ 32) % 2 ^ 32
  let ahead := (start + 2 ^ 32 - oldest) % 2 ^ 32
  let skip := if 2 ^ 31 ≤ ahead then 2 ^ 32 - ahead else 0
  let got := (s.lnt.log.drop (if 2 ^ 31 ≤ ahead then 0 else ahead)).take count
  (got, skip, ((if 2 ^ 31 ≤ ahead then oldest else start) + got.length) % 2 ^ 32)

/-- LOG_READ (R367): entries from START; the rest of the buffer is zero. -/
def execLogRead (h : Hdr) (start : Word) (count : BitVec 16) (buf : HostBuf) (s : State) : Out :=
  s.command (buf := buf) h (.logRead h start count buf) false [lanternBit] (always := true) (fun c s =>
    if count = 0 ∨ 8192 < count.toNat then s.complete c 2
    else if buf.len < count.toNat * 32 then s.complete c 0x2D
    else
      let r := s.logRead start.toNat count.toNat
      let bs := r.1.flatMap LogEvent.bytes
      s.giveHost c buf (bs ++ List.replicate (buf.len - bs.length) 0) (BitVec.ofNat 64 r.2.2) (BitVec.ofNat 64 r.2.1))

/-! Error injection (R370, R371). -/

/-- What turns an injection away: BAD_PARAM, BAD_UNIT, DEBUG_LOCKED, BUSY. -/
def State.injectFail (s : State) (det unit : Nat) (fault : Bool) : Option Nat :=
  let b := det / 256
  let n := det % 256
  if detListed b n = false ∨ (fault && !faultPoint b n) then some 2
  else if unitOk b n unit = false then some 0x32
  else if 3 ≤ s.part.debugLock ∨ (2 ≤ s.part.debugLock && fault) then some 0x2E
  else if fault && s.isArmed b n unit then some 4
  else none

/-- ERR_INJ_LAST and the INJECT entry of an accepted injection. -/
def State.noteInject (s : State) (det unit : Nat) (fault : Bool) : State :=
  let w := natOfBool fault * 0xC0000000 + det / 256 % 256 * 2 ^ 16 + det % 256 * 2 ^ 8 + unit % 256
  (s.setReg R.ERR_INJ_LAST (BitVec.ofNat 32 w)).detect 0x10 0x10 0 (leBytes 2 det ++ leBytes 1 (natOfBool fault))

/-- INJECT_STATUS (R370): ERR_INJECT with MODE STATUS sets the detector's status as though it had fired. -/
def execInjectStatus (h : Hdr) (det : Word) (unit : BitVec 16) (s : State) : Out :=
  s.command h (.injectStatus h det unit) false [lanternBit] (fun c s =>
    match s.injectFail det.toNat unit.toNat false with
    | some st => s.complete c st
    | none =>
      let s := s.noteInject det.toNat unit.toNat false
      let b := det.toNat / 256
      let n := det.toNat % 256
      if b = 0x10 then (s.complete c 0).fireLantern n unit.toNat
      else (s.atZero (fun s => s.fireDetector b n unit.toNat)).complete c 0)

/-- INJECT_FAULT (R370): ERR_INJECT with MODE FAULT arms the detector's injection point. -/
def execInjectFault (h : Hdr) (det : Word) (unit : BitVec 16) (s : State) : Out :=
  s.command h (.injectFault h det unit) false [lanternBit] (fun c s =>
    match s.injectFail det.toNat unit.toNat true with
    | some st => s.complete c st
    | none =>
      let s := s.noteInject det.toNat unit.toNat true
      let a : ArmedPoint := { block := det.toNat / 256, code := det.toNat % 256, unit := unit.toNat, used := false }
      { s with lnt := { s.lnt with armed := s.lnt.armed ++ [a] } }.complete c 0)

/-! Counted fuses (R374 to R376). -/

/-- Is the request authorised (R375)? -/
def State.fuseAuth (s : State) (setting index : Nat) (bs : List Byte) : Bool :=
  let signer := natAt bs 0x34 1
  let m := shake64 ((s.part.serial ++ List.replicate 16 0).take 16 ++ leBytes 1 setting ++ leBytes 1 index ++ bs.take 0x40)
  natAt bs 0x30 4 == s.part.journal.length && zeroAt bs 0x35 11 &&
  (if s.anyOwner then
    Nat.blt signer 4 && s.ownerSet signer && !s.part.ownerRevoked.contains signer &&
      shake32 ((bs.drop 0x40).take 1793) == s.ownerDigestOf signer && sigBlockOk bs 0x40 m
  else signer == 0xFF && zeroAt bs 0x40 4096 && s.part.debugLock == 0)

/-- The VALUE as a number of 48 bytes. -/
def fuseValue (bs : List Byte) : Nat := natAt bs 0 48

/-- Does VALUE (with INDEX) keep the rule of its counted setting (R374)? -/
def State.fuseRule (s : State) (setting index : Nat) (bs : List Byte) : Bool :=
  let v := fuseValue bs
  match setting with
  | 1 => index == 0 && v == s.part.svn + 1
  | 2 => Nat.blt index 4 && !s.ownerSet index && zeroAt bs 32 16
  | 3 => Nat.blt index 4 && s.ownerSet index && !s.part.ownerRevoked.contains index && v == 0
  | 4 => index == 0 && Nat.ble 0x0C v && Nat.ble v 0x0F && v != s.part.bedrock && s.fwOk (s.fwImage v) 1
  | 5 => index == 0 && Nat.ble v 1 && v != natOfBool s.part.laneReversal
  | _ => index == 0 && Nat.blt s.part.debugLock v && Nat.ble v 3

/-- A staged image signed under a revoked slot enters FAILED with KEY_SLOT (R374). -/
def State.revokeStaged (s : State) (index : Nat) : State :=
  if 2 ≤ s.imgState ∧ s.imgState ≤ 4 ∧ s.hSlot = index then
    let c := s.img.verifyCmd
    let s := (s.setReason { reason := 0x0B } s.chainPos).setImgState 5
    { s with img := { s.img with verifyCmd := none, waiting := false } }.completeOpt c 8 0 0 0x0B
  else s

/-- A FUSE_WRITE of a counted setting (R371, R374 to R376). -/
def State.fuseWrite (s : State) (c : CmdId) (setting index : Nat) (buf : HostBuf) (after : State → State) : State :=
  match hostBytes buf 4160 with
  | .inl st => s.complete c st
  | .inr bs =>
    if (setting = 4 ∨ setting = 5) ∧ 3 ≤ s.part.debugLock then s.complete c 0x2E
    else if s.fuseAuth setting index bs = false ∨ s.fuseRule setting index bs = false then s.complete c 2
    else if s.fuseLeft setting index = 0 ∨ 128 ≤ s.part.journal.length then s.complete c 0x31
    else
      let s := after (s.journalled (natAt bs 0x34 1) setting index (natAt bs 0 1) (bs.take 32))
      s.complete c 0 (BitVec.ofNat 64 (s.fuseLeft setting index))

/-- FUSE_SVN (R374): the fused security version rises by one. -/
def execFuseSvn (h : Hdr) (index : BitVec 8) (buf : HostBuf) (s : State) : Out :=
  s.command (cls := .long) (buf := buf) h (.fuseSvn h index buf) false [lanternBit] (fun c s => s.fuseWrite c 1 index.toNat buf id)

/-- OWNER_PROGRAM (R374): an owner slot takes a key digest. -/
def execOwnerProgram (h : Hdr) (index : BitVec 8) (buf : HostBuf) (s : State) : Out :=
  s.command (cls := .long) (buf := buf) h (.ownerProgram h index buf) false [lanternBit] (fun c s => s.fuseWrite c 2 index.toNat buf id)

/-- OWNER_REVOKE (R374): an owner slot is revoked; a staged image signed under it fails. -/
def execOwnerRevoke (h : Hdr) (index : BitVec 8) (buf : HostBuf) (s : State) : Out :=
  s.command (cls := .long) (buf := buf) h (.ownerRevoke h index buf) false [lanternBit] (fun c s => s.fuseWrite c 3 index.toNat buf (fun s => s.revokeStaged index.toNat))

/-- BEDROCK_SELECT (R374): another Bedrock copy. -/
def execBedrockSelect (h : Hdr) (index : BitVec 8) (buf : HostBuf) (s : State) : Out :=
  s.command (cls := .long) (buf := buf) h (.bedrockSelect h index buf) false [lanternBit] (fun c s => s.fuseWrite c 4 index.toNat buf id)

/-- LANE_REVERSAL (R374): the PCIe lane-reversal default. -/
def execLaneReversal (h : Hdr) (index : BitVec 8) (buf : HostBuf) (s : State) : Out :=
  s.command (cls := .long) (buf := buf) h (.laneReversal h index buf) false [lanternBit] (fun c s => s.fuseWrite c 5 index.toNat buf id)

/-- DEBUG_LOCK (R374): the debug-lock level rises. -/
def execDebugLock (h : Hdr) (index : BitVec 8) (buf : HostBuf) (s : State) : Out :=
  s.command (cls := .long) (buf := buf) h (.debugLock h index buf) false [lanternBit] (fun c s => s.fuseWrite c 6 index.toNat buf id)

/-- Store or clear KEK slot `i` of the key store. -/
def State.setKek (s : State) (i : Nat) (k : List Byte) : State :=
  { s with key := { s.key with keks := NMap.set dBytes s.key.keks i k } }

/-- The work of STORE_KEK on its buffer: all zero clears the slot; a KEK that does not unwrap under the fuse KEK is
BAD_PARAM. Steps are not counted: RESULT0 is free (log 3). -/
def State.storeKek (s : State) (c : CmdId) (index : Nat) (bs : List Byte) : State :=
  let done (s : State) : State := s.used.complete c 0 (BitVec.ofNat 64 (s.freeVal 64))
  if s.fuseAuth 0x10 index bs = false ∨ 8 ≤ index ∨ zeroAt bs 40 8 = false then s.complete c 2
  else if zeroAt bs 0 40 then done (s.setKek index [])
  else match s.part.fuseKek with
    | none => s.complete c 2
    | some kek =>
      match Config.keyUnwrap kek (bs.take 40) with
      | none => s.complete c 2
      | some k => done (s.setKek index k)

/-- STORE_KEK (R374): writes or clears a KEK of the key store. -/
def execStoreKek (h : Hdr) (index : BitVec 8) (buf : HostBuf) (s : State) : Out :=
  s.command (cls := .long) (buf := buf) h (.storeKek h index buf) false [lanternBit] (fun c s =>
    match hostBytes buf 4160 with
    | .inl st => s.complete c st
    | .inr bs => s.storeKek c index.toNat bs)

/-! The boot ROM and the watchdog (R354, R355). -/

/-- BOOT_ROM (R354, R376, R405): BOOT_SEL is sampled, incomplete journal entries are completed, and the first firmware
that is accepted starts; with none Lantern stays in the boot ROM. -/
def execBootRom (s : State) : Out :=
  if s.lnt.inRom = false then .next s
  else
    let s := (s.put R.LNT_STATUS F.LNT_STATUS_BOOT_SEL (natOfBool s.part.bootSel)).flashInjected.recoverJournal
    match s.bootOrder.find? s.bootable with
    | some f => .next (s.startFw f)
    | none => .next s

/-- WATCHDOG_EXPIRY (R355): Lantern restarts through the boot ROM; the fabric runs on and the log is kept. -/
def execWatchdogExpiry (s : State) : Out :=
  let s := { s with lnt := { s.lnt with inRom := true, upd := Update.reset } }
  .next ((s.setReady lanternBit false).put R.LNT_STATUS F.LNT_STATUS_FW_UPDATING 0)

/-- FAILURE_COUNT_CLEAR (R355): the running slot has run for 10 s since it was started. -/
def execFailureCountClear (s : State) : Out :=
  if s.lnt.inRom ∨ 2 ≤ s.fwRunning ∨ s.sched.now < s.lnt.startedAt + 15000000000 then .next s else .next (s.setFails s.fwRunning 0)

/-! Sensors, rails and references (R362 to R364, R390, R391, R404). -/

/-- SENSOR_SAMPLE (R362, R363): a period of sensor `i` ends with a valid sample or without one; the tenth in a row
without one is SENSOR_FAIL. -/
def execSensorSample (i : Sensor) (sample : Option (BitVec 16)) (s : State) : Out :=
  match sample with
  | some v => .next (s.takeSample i.val v.toNat)
  | none =>
    let n := NMap.get dZero s.lnt.missed i.val + 1
    let s := { s with lnt := { s.lnt with missed := NMap.set dZero s.lnt.missed i.val n } }
    if n = 10 then
      .next (((s.put (R.SNS_VALUE i.val) F.SNS_VALUE_VALID 0).detect 0x10 0x0F i.val).thermHold)
    else .next s

/-- RAIL_FAULT (R363, R390): a main rail outside its limits for 100 µs: a DEVICE reset. -/
def execRailFault (rail : Fin 6) (s : State) : Out :=
  .next (((s.setRailOk rail.val false).detect 0x10 5 (railSensor rail.val)).lanternReset)

/-- REFCLK_LOSS (R404): SER_REFCLK stops: RAIL_FAULT with UNIT 0 and DATA byte 0 equal to 0x81, a DEVICE reset. -/
def execRefclkLoss (s : State) : Out := .next ((s.detect 0x10 5 0 [0x81#8]).lanternReset)

/-- VAUX_LOSS (R364): VAUX falls below 2.6 V: Lantern resets, the log is lost, the dies are held in reset; the key store
lives on VBAT. -/
def execVauxLoss (s : State) : Out :=
  .next { s.afterReset with key := s.key, pwr := { Power.reset with vaux := false } }

/-- The VCORE target in units of 5 mV (R391): the bin, three steps more while boosted, within 0.65 to 0.85 V. -/
def State.vcoreTarget (s : State) (boost : Bool) : Nat :=
  let t := s.part.vcoreBin + (if boost then 3 else 0)
  if t < 0x82 then 0x82 else if 0xAA < t then 0xAA else t

/-- VCORE_REVIEW (R391): 15 mV are added while every gallery sensor reads below 50 °C and removed once any reads 55 °C or
above; a review follows the last one by 10 ms. -/
def execVcoreReview (s : State) : Out :=
  if s.sched.now < s.pwr.vcoreFrom.2 + 15000000 then .next s else
  let ts := galSensors.map s.reading
  let cold := ts.all (fun t => match t with | some x => decide (x < 800) | none => false)
  let hot := ts.any (fun t => match t with | some x => decide (880 ≤ x) | none => false)
  let b := if hot then false else if cold then true else s.pwr.boost
  .next ({ s with pwr := { s.pwr with boost := b, vcoreFrom := (s.vcoreNow, s.sched.now) } }.put R.PWR_STATUS
    F.PWR_STATUS_VCORE_TARGET (s.vcoreTarget b))

/-! The event log and the registry (R361, R365, R366, R368). -/

/-- EPOCH (R365, R366): the entry that Lantern writes once per second: the seconds count, the wrap count, LOCAL. With the
fabric unpowered the counts are free (log 3). -/
def execEpoch (s : State) : Out :=
  if s.sched.now < s.lnt.epochDue then .next s else
  let up := s.bit R.PWR_STATUS F.PWR_STATUS_PGOOD
  let data := if up then leBytes 8 s.seconds ++ leBytes 2 s.wrap ++ [0#8] else leBytes 10 (s.used.freeVal 80) ++ [1#8]
  let e := s.newEvent 0x10 0 0 0 false data
  let s := if up then s.extend else s.used.used
  .next ({ s with lnt := { s.lnt with epochDue := s.sched.now + 1500000000 } }.appendLog e)

/-- EVENT_LOG_WRITE (R366): Lantern writes the event that waits longest; when the queue drains after a drop,
LOG_OVERFLOW counts the events dropped. -/
def execEventLogWrite (s : State) : Out :=
  match s.lnt.logQueue with
  | [] => .next s
  | e :: es =>
    let s := { s with lnt := { s.lnt with logQueue := es } }.writeEvent e
    if es.isEmpty ∧ s.lnt.logDropped ≠ 0 then
      let n := s.lnt.logDropped
      .next ({ s with lnt := { s.lnt with logDropped := 0 } }.detect 0x10 0x0E 0 (leBytes 4 n))
    else .next s

/-- DETECTOR_FIRE (R368, R369): a detector reports to the registry; a channel that reports CHANNEL_DOWN has left service
(R268). -/
def execDetectorFire (block code unit : BitVec 8) (s : State) : Out :=
  let b := block.toNat
  let n := code.toNat
  let u := unit.toNat
  if detListed b n = false ∨ unitOk b n u = false then .next s
  else if b = 0x10 then .next (s.fireLantern n u)
  else if b = 4 ∧ n = 5 then .next ((s.setReady (64 + u) false).detect 4 5 u)
  else .next (s.detect b n u)

/-- Write the warn limits of sensor `i`; the change is logged with its index (R361). CODE and CLASS of that entry are not
stated: free (log 3). -/
def State.setLimit (s : State) (i : Nat) (w : Word) : State :=
  let s := s.setReg (R.SNS_LIMIT i) w
  let code := s.freeVal 8
  let cls := s.used.freeVal 2
  let s := s.used.used
  s.queueEvent (s.newEvent 0x10 code i cls false [])

/-- SENSOR_THRESHOLD_WRITE (R361): a write of SNS_LIMIT_i. -/
def execSensorThresholdWrite (i : Sensor) (w : Word) (s : State) : Out := .next (s.setLimit i.val w)

/-- ERR_COUNT_CLEAR (R368): a write of any value. -/
def execErrCountClear (s : State) : Out := .next (s.setReg R.ERR_COUNT 0)

end Sys2Proof.Machine
end

