-- ==== Sys2Proof/Machine/Pldm.lean ====
section
/-! DEFINITION. Lantern as an MCTP endpoint and PLDM terminus: control messages, types 0, 2 and 5, and management over
Ethernet (14, R358 to R361). -/

namespace Sys2Proof.Machine

/-! Answers. -/

/-- Lantern answers a message. -/
def State.answer (s : State) (r : LntReply) : State := { s with lnt := { s.lnt with replies := s.lnt.replies ++ [r] } }

/-- A message that the boot ROM does not serve (R354): no answer there, else `f`. -/
def State.served (s : State) (f : State → State) : Out := if s.lnt.inRom then .next s else .next (f s)

/-! MCTP control messages (R359), served in the boot ROM too. -/

/-- SET_ENDPOINT_ID. -/
def execSetEndpointId (eid : BitVec 8) (s : State) : Out :=
  .next ({ s with lnt := { s.lnt with eid := eid.toNat } }.answer (.eid eid.toNat))

/-- GET_ENDPOINT_ID. -/
def execGetEndpointId (s : State) : Out := .next (s.answer (.eid s.lnt.eid))

/-- GET_ENDPOINT_UUID. -/
def execGetEndpointUuid (s : State) : Out := .next (s.answer .uuid)

/-- GET_MCTP_VERSION_SUPPORT: DSP0236 1.3. -/
def execGetMctpVersionSupport (s : State) : Out := .next (s.answer .versions)

/-- GET_MESSAGE_TYPE_SUPPORT: control messages (0) and PLDM (1). -/
def execGetMessageTypeSupport (s : State) : Out := .next (s.answer (.msgTypes [0, 1]))

/-! PLDM type 0 (DSP0240). -/

/-- The names of a type's commands (R359). -/
def pldmNames (type : Nat) : List String :=
  match type with
  | 0 => ["GetTID", "SetTID", "GetPLDMVersion", "GetPLDMTypes", "GetPLDMCommands"]
  | 2 => ["GetSensorReading", "GetSensorThresholds", "SetSensorThresholds", "GetStateSensorReadings", "GetPDRRepositoryInfo",
      "GetPDR", "SetEventReceiver", "PlatformEventMessage"]
  | 5 => ["QueryDeviceIdentifiers", "GetFirmwareParameters", "RequestUpdate", "PassComponentTable", "UpdateComponent",
      "RequestFirmwareData", "TransferComplete", "VerifyComplete", "ApplyComplete", "ActivateFirmware", "GetStatus",
      "CancelUpdate"]
  | _ => []

/-- The version of a PLDM type: 0 is 1.1, 2 is 1.2, 5 is 1.1; another is not supported. -/
def versionAnswer (type : Nat) : LntReply :=
  match type with
  | 0 => .pldmVersion 0 1 1
  | 2 => .pldmVersion 2 1 2
  | 5 => .pldmVersion 5 1 1
  | _ => .error .invalidData

/-- The commands of a PLDM type. -/
def commandsAnswer (type : Nat) : LntReply :=
  if type = 0 ∨ type = 2 ∨ type = 5 then .pldmCommands type (pldmNames type) else .error .invalidData

/-- Store the terminus ID. -/
def State.setTid (s : State) (n : Nat) : State := { s with lnt := { s.lnt with tid := n } }

/-- GET_TID. -/
def execGetTid (s : State) : Out := s.served (fun s => s.answer (.tid s.lnt.tid))

/-- SET_TID. -/
def execSetTid (tid : BitVec 8) (s : State) : Out := s.served (fun s => (s.setTid tid.toNat).answer .done)

/-- GET_PLDM_VERSION. -/
def execGetPldmVersion (type : BitVec 8) (s : State) : Out := s.served (fun s => s.answer (versionAnswer type.toNat))

/-- GET_PLDM_TYPES. -/
def execGetPldmTypes (s : State) : Out := s.served (fun s => s.answer (.pldmTypes [0, 2, 5]))

/-- GET_PLDM_COMMANDS. -/
def execGetPldmCommands (type : BitVec 8) (s : State) : Out := s.served (fun s => s.answer (commandsAnswer type.toNat))

/-! PLDM type 2 (DSP0248). -/

/-- The reading of a sensor. -/
def State.readingAnswer (s : State) (i : Nat) : LntReply :=
  let o := R.SNS_VALUE i
  .reading i (s.fld o F.SNS_VALUE_VALUE) (s.bit o F.SNS_VALUE_VALID) (s.bit o F.SNS_VALUE_WARN) (s.bit o F.SNS_VALUE_HALT)

/-- The warn limits of a sensor. -/
def State.thresholdsAnswer (s : State) (i : Nat) : LntReply :=
  .thresholds i (s.fld (R.SNS_LIMIT i) F.SNS_LIMIT_HIGH) (s.fld (R.SNS_LIMIT i) F.SNS_LIMIT_LOW)

/-- The thermal state sensor (R359): any warn level, any halt level, TRIP, THERM_HOLD. -/
def State.thermalAnswer (s : State) : LntReply :=
  .thermal s.thermalAlert ((List.range 76).any (fun i => s.snsValid i && s.bit (R.SNS_VALUE i) F.SNS_VALUE_HALT))
    (s.bit R.LNT_STATUS F.LNT_STATUS_TRIP) (s.bit R.LNT_STATUS F.LNT_STATUS_THERM_HOLD)

/-- A record of the PDR repository (R359): a numeric sensor PDR for each sensor, and the state sensor. -/
def pdrAnswer (record : Nat) : LntReply := if record < 93 then .numericPdr record else .statePdr

/-- GET_SENSOR_READING. -/
def execGetSensorReading (i : Sensor) (s : State) : Out := s.served (fun s => s.answer (s.readingAnswer i.val))

/-- GET_SENSOR_THRESHOLDS. -/
def execGetSensorThresholds (i : Sensor) (s : State) : Out := s.served (fun s => s.answer (s.thresholdsAnswer i.val))

/-- SET_SENSOR_THRESHOLDS (R361): the later write stands; the change is logged. -/
def execSetSensorThresholds (i : Sensor) (high low : BitVec 16) (s : State) : Out :=
  s.served (fun s => (s.setLimit i.val (high ++ low)).answer .done)

/-- GET_STATE_SENSOR_READINGS. -/
def execGetStateSensorReadings (s : State) : Out := s.served (fun s => s.answer s.thermalAnswer)

/-- GET_PDR_REPOSITORY_INFO: 94 records. -/
def execGetPdrRepositoryInfo (s : State) : Out := s.served (fun s => s.answer (.pdrInfo 94))

/-- GET_PDR. -/
def execGetPdr (record : Fin 94) (s : State) : Out := s.served (fun s => s.answer (pdrAnswer record.val))

/-- SET_EVENT_RECEIVER: the endpoint that platform events go to, or none. -/
def execSetEventReceiver (eid : Option (BitVec 8)) (s : State) : Out :=
  s.served (fun s => { s with lnt := { s.lnt with receiver := eid.map BitVec.toNat } }.answer .done)

/-! PLDM type 5 (DSP0267), served in the boot ROM too (R354). -/

/-- QUERY_DEVICE_IDENTIFIERS. -/
def execQueryDeviceIdentifiers (s : State) : Out := .next (s.answer (.identifiers s.deviceId s.part.serial))

/-- GET_FIRMWARE_PARAMETERS: component 1, the active slot, the builds of both slots, a pending activation. -/
def execGetFirmwareParameters (s : State) : Out :=
  .next (s.answer (.firmware 1 s.flash.active [s.fwBuildOf 0, s.fwBuildOf 1]
    (s.bit R.LNT_STATUS F.LNT_STATUS_ACTIVATE_PENDING)))

/-- The update's place. -/
def State.phase (s : State) : UpdPhase := s.lnt.upd.phase

/-- Store the update's place. -/
def State.setUpd (s : State) (u : Update) : State := { s with lnt := { s.lnt with upd := u } }

/-- No update is in progress. -/
def State.endUpd (s : State) : State := (s.setUpd Update.reset).put R.LNT_STATUS F.LNT_STATUS_FW_UPDATING 0

/-- REQUEST_UPDATE (R358): one update at a time. -/
def execRequestUpdate (s : State) : Out :=
  if s.phase ≠ UpdPhase.idle ∨ s.bit R.LNT_STATUS F.LNT_STATUS_FW_UPDATING then
    .next (s.answer (.error .alreadyInUpdateMode))
  else .next (((s.setUpd { Update.reset with phase := .learn }).raise R.LNT_STATUS F.LNT_STATUS_FW_UPDATING).answer .done)

/-- PASS_COMPONENT_TABLE: the one component offered is 0x0001. -/
def execPassComponentTable (component : BitVec 16) (s : State) : Out :=
  if s.phase ≠ UpdPhase.learn then .next (s.answer (.error .notInUpdateMode))
  else if component ≠ 1 then .next (s.answer (.error .invalidData))
  else .next ((s.setUpd { s.lnt.upd with phase := .ready }).answer .done)

/-- The slot that an update writes (R359): the one that is not running, slot A while Bedrock runs. -/
def State.updateSlot (s : State) : Nat := if s.fwRunning = 0 then 1 else 0

/-- UPDATE_COMPONENT: the transfer begins; Lantern asks for the image with RequestFirmwareData. -/
def execUpdateComponent (component : BitVec 16) (size : Word) (s : State) : Out :=
  if s.phase ≠ UpdPhase.ready then .next (s.answer (.error .notInUpdateMode))
  else if component ≠ 1 then .next (s.answer (.error .invalidData))
  else .next (((s.setUpd { Update.reset with phase := .download, slot := s.updateSlot }).answer .done).answer
    (.requestData 0 size.toNat))

/-- TRANSFER_COMPLETE: the image has arrived in the answers to RequestFirmwareData. -/
def execTransferComplete (bs : List Byte) (s : State) : Out :=
  if s.phase ≠ UpdPhase.download then .next s
  else .next ((s.setUpd { s.lnt.upd with phase := .verify, image := bs }).answer .transferComplete)

/-- VERIFY_COMPLETE (R356): the component is verified, or waits for its cancellation. -/
def execVerifyComplete (s : State) : Out :=
  if s.phase ≠ UpdPhase.verify ∨ s.lnt.upd.verified then .next s
  else if s.fwOk s.lnt.upd.image 0 then
    .next ((s.setUpd { s.lnt.upd with phase := .apply, verified := true }).answer (.verifyComplete true))
  else .next (s.answer (.verifyComplete false))

/-- APPLY_COMPLETE (R357): the slot is erased, programmed and read back. -/
def execApplyComplete (readBack : Bool) (s : State) : Out :=
  if s.phase ≠ UpdPhase.apply then .next s
  else
    let u := s.lnt.upd
    let s := s.programSlot u.slot u.image readBack
    .next ((s.setUpd { u with phase := .ready, applied := readBack }).answer (.applyComplete readBack))

/-- ACTIVATE_FIRMWARE (R359): ACTIVE names the slot and an activation is pending; self-contained activation is not
supported. -/
def execActivateFirmware (selfContained : Bool) (s : State) : Out :=
  if s.phase ≠ UpdPhase.ready then .next (s.answer (.error .notInUpdateMode))
  else if selfContained then .next (s.answer (.error .unsupported))
  else if s.lnt.upd.applied = false then .next (s.answer (.error .notReady))
  else .next ((s.activateSlot s.lnt.upd.slot).endUpd.answer .done)

/-- The number of an update's place. -/
def UpdPhase.code : UpdPhase → Nat
  | .idle => 0 | .learn => 1 | .ready => 2 | .download => 3 | .verify => 4 | .apply => 5

/-- GET_STATUS. -/
def execGetStatus (s : State) : Out := .next (s.answer (.status s.phase.code))

/-- CANCEL_UPDATE: the update ends. -/
def execCancelUpdate (s : State) : Out :=
  if s.phase = UpdPhase.idle then .next (s.answer (.error .notInUpdateMode)) else .next (s.endUpd.answer .done)

/-! Management over Ethernet (R360). -/

/-- Has port `e` an address of the family: IPv4 only with LNT_ETH_IP4_e; the link-local IPv6 address always. -/
def State.ethAddr (s : State) (e : Nat) (v4 : Bool) : Bool := !v4 || s.reg (R.LNT_ETH_IP4 e) != 0

/-- What Lantern answers to a management packet; none: discarded without a response. -/
def State.ethAnswer (s : State) (e : Nat) (m : EthMsg) : Option State :=
  let via (v4 : Bool) (t : State) : Option State := if s.ethAddr e v4 then some t else none
  match m with
  | .arp => via true (s.answer .arp)
  | .neighbour => some (s.answer .neighbour)
  | .echo v4 => via v4 (s.answer .echo)
  | .getTid v4 => via v4 (s.answer (.tid s.lnt.tid))
  | .setTid v4 t => via v4 ((s.setTid t.toNat).answer .done)
  | .getPldmVersion v4 t => via v4 (s.answer (versionAnswer t.toNat))
  | .getPldmTypes v4 => via v4 (s.answer (.pldmTypes [0, 2, 5]))
  | .getPldmCommands v4 t => via v4 (s.answer (commandsAnswer t.toNat))
  | .getSensorReading v4 i => via v4 (s.answer (s.readingAnswer i.val))
  | .getSensorThresholds v4 i => via v4 (s.answer (s.thresholdsAnswer i.val))
  | .getStateSensorReadings v4 => via v4 (s.answer s.thermalAnswer)
  | .getPdrRepositoryInfo v4 => via v4 (s.answer (.pdrInfo 94))
  | .getPdr v4 r => via v4 (s.answer (pdrAnswer r.val))
  | .other => none

/-- ETH_MGMT_MESSAGE (R360): answered while LNT_CTL.ETH_MGMT_e is 1, otherwise discarded. -/
def execEthMgmtMessage (e : Fin 2) (m : EthMsg) (s : State) : Out :=
  if s.lnt.inRom ∨ s.fld R.LNT_CTL ⟨e.val, e.val⟩ = 0 then .next s
  else match s.ethAnswer e.val m with
    | some t => .next t
    | none => .next s

end Sys2Proof.Machine
end

