-- ==== Sys2Proof/Machine/Views.lean ====
section
/-! DEFINITION. What a read of a register returns: stored fields by type (R4), and the registers that show state held
elsewhere (01 to 16). -/

namespace Sys2Proof.Machine

/-! Registers that show state held elsewhere. -/

/-- The latency words that depend on the stepping (R14, R69). -/
def State.latWord (s : State) (o : Nat) : Option Word :=
  if o = R.LAT_HDR then some (BitVec.ofNat 32 (0x100 + s.part.stepping.profile))
  else if o = R.LAT_FABRIC0 then
    some (F.LAT_FABRIC0_GAL_CROSS.put (s.reg o) (match s.part.stepping with | .a0 => 4 | .b0 => 5))
  else none

/-- A word of 32 bits from a predicate on bit numbers. -/
def wordOf (p : Nat → Bool) : Word := BitVec.ofNat 32 ((List.range 32).foldl (fun n i => n + natOfBool (p i) * 2 ^ i) 0)

/-- The CIC's registers that show its state (R319 to R328). CIC_CLAIM reads 0 here: the host claims nothing (R327). -/
def State.cicView (s : State) (o : Nat) : Option Word :=
  if 0x10800 ≤ o ∧ o < 0x10840 then some (wordOf (fun i => s.cicPending ((o - 0x10800) / 4 * 32 + i)))
  else if o = R.CIC_SW_SET 0 ∨ o = R.CIC_SW_SET 1 then some (wordOf (fun i => s.cicPending (448 + (o - R.CIC_SW_SET 0) / 4 * 32 + i)))
  else if 0x11000 ≤ o ∧ o < 0x11500 then
    let t := (o - 0x11000) / 0x100
    let d := o % 0x100
    if d = 0 then some (if s.cic.held.contains t then 15 else s.reg (R.CIC_THRESHOLD t))
    else if d = 0x0C then some (BitVec.ofNat 32 (s.cicRunning t))
    else if 0x40 ≤ d ∧ d < 0x80 then
      some (wordOf (fun i => s.cic.service.any (fun v => v.target == t && v.src == (d - 0x40) / 4 * 32 + i)))
    else none
  else if 0x12000 ≤ o ∧ o < 0x12400 then some (BitVec.ofNat 32 (s.hostRun ((o - 0x12000) / 4)))
  else none

/-- The oldest ASSERT record of a gallery as its two words. -/
def State.assertWords (s : State) (g : Nat) : Word × Word :=
  match NMap.get (fun _ => []) s.fab.asserts g with
  | [] => (0, 0)
  | r :: _ =>
    (BitVec.ofNat 32 (2 ^ 31 + r.actions % 8 * 2 ^ 24 + natOfBool r.unknown * 2 ^ 23 + r.ctx % 8 * 2 ^ 20 + r.step % 1024 * 2 ^ 10 +
      r.bp % 64 * 2 ^ 4 + r.cham % 16), BitVec.ofNat 32 r.tick)

/-- WIU_STATUS: the innermost handler, the Normal handlers stacked, the running level (R330 to R333). -/
def State.wiuStatus (s : State) (g : Nat) : Word :=
  let l := s.wiuStack g
  let n := (l.filter (fun f => !f.fast)).length
  BitVec.ofNat 32 (natOfBool (l.any (fun f => f.fast)) * 2 ^ 31 + n % 8 * 2 ^ 28 + levelOf l % 16 * 2 ^ 24 +
    ((l.head?.map (fun f => f.src)).getD 0) % 32 * 2 ^ 19)

/-- The registers of a gallery window that show state held elsewhere; `d` is the offset in the window. -/
def State.galView (s : State) (g d : Nat) : Option Word :=
  if d = 0x30 then
    some (F.GAL_ASSERT_STATUS_LEVEL.put (s.reg (R.GAL_ASSERT_STATUS g)) (NMap.get (fun _ => []) s.fab.asserts g).length)
  else if d = 0x38 then some (s.assertWords g).1
  else if d = 0x3C then some (s.assertWords g).2
  else if d = 0x234 then some (F.GAL_ECHO_STATUS_SEG.put (s.reg (R.GAL_ECHO_STATUS g)) (s.segUnits g s.sched.ctx))
  else if d = 0x238 then some (BitVec.ofNat 32 (s.fab.forces.filter (fun e => e.bp / 1024 == g)).length)
  else if d = 0x300 then some (wordOf (s.wiuPending g))
  else if d = 0x320 then some (s.wiuStatus g)
  else none

/-- PSG_FRAME: flits expected and flits sent per tick in the active context. -/
def State.psgFrame (s : State) (p : Nat) : Word :=
  let out := (s.psg.frame.filter (fun e => e.1 / 64 == p && e.2.getLsbD 31 && s.ctxFlit (e.1 % 64))).length
  let inn := ((List.range 64).filter (s.flitExpected p)).length
  BitVec.ofNat 32 (inn % 256 * 2 ^ 8 + out % 256)

/-- SP_STATUS with its FIFO levels. -/
def State.spStatus (s : State) (p : Nat) : Word :=
  F.SP_STATUS_TX_LEVEL.put (F.SP_STATUS_RX_LEVEL.put (s.reg (R.SP_STATUS p)) (NMap.get dNoBytes s.rim.rx p).length)
    (NMap.get dNoBytes s.rim.tx p).length

/-- The other registers that show state held elsewhere. -/
def State.devView (s : State) (o : Nat) : Option Word :=
  if o = R.DEVICE_ID then some s.deviceId
  else if o = R.KEY_STATUS then some s.keyStatus
  else if o = R.SCHED_STATUS then
    some (F.SCHED_STATUS_GAL_SCHED_ANY.put (s.reg o) (natOfBool ((List.range 64).any (fun g => s.reg (R.GAL_SCHED_ERR g) != 0))))
  else if o = R.UFL_DATA then some (NMap.get dErased s.rim.ufl (s.fld R.UFL_ADDR F.UFL_ADDR_WORD))
  else if o = R.FUSE_STATE then some s.fuseState
  else if R.FUSE_JNL 0 ≤ o ∧ o < R.FUSE_JNL 128 then some (s.part.journal.getD ((o - R.FUSE_JNL 0) / 4) 0)
  else if o = R.PWR_STATUS then some (F.PWR_STATUS_VCORE_TARGET.put (F.PWR_STATUS_VCORE_BIN.put (s.reg o) s.part.vcoreBin) s.vcoreNow)
  else if o = R.TB_NOW_NS then some (BitVec.ofNat 32 s.ns)
  else if R.SP_CTL 0 ≤ o ∧ o < R.SP_CTL 4 ∧ o % 16 = 4 then some (s.spStatus ((o - R.SP_CTL 0) / 16))
  else if 0x80000 ≤ o ∧ o < 0x90000 ∧ o % 0x1000 = 0x28 then some (s.psgFrame ((o - 0x80000) / 0x1000))
  else none

/-- The 32-bit register at `o` as a read returns it, without the effects a read may have (R4, R11). -/
def State.view (s : State) (o : Nat) : Word :=
  let stored := match regRow o with
    | some r => typedRead r.fields (s.reg o)
    | none => 0
  if 0x1000000 ≤ o ∧ o < 0x1400000 then (s.galView ((o - 0x1000000) / 0x10000) (o % 0x10000)).getD stored
  else if 0x10000 ≤ o ∧ o < 0x20000 then (s.cicView o).getD stored
  else ((s.latWord o).orElse (fun _ => s.devView o)).getD stored

/-! Reads with an effect. -/

/-- A read of SP_DATA takes the oldest received byte, or returns 0 (R195). -/
def State.takeByte (s : State) (p : Nat) : Word × State :=
  match NMap.get dNoBytes s.rim.rx p with
  | [] => (0, s)
  | b :: t => (BitVec.ofNat 32 b.toNat, { s with rim := { s.rim with rx := NMap.set dNoBytes s.rim.rx p t } }.settle)

/-- A 32-bit read of the register at `o`: its value and its effect (R195, R336, R386). -/
def State.readReg (s : State) (o : Nat) : Word × State :=
  if o = R.TB_NOW_NS then (BitVec.ofNat 32 s.ns, s.latchNow.put R.TB_NOW_NS F.TB_NOW_NS_NS s.ns)
  else if R.SP_CTL 0 ≤ o ∧ o < R.SP_CTL 4 ∧ o % 16 = 8 then s.takeByte ((o - R.SP_CTL 0) / 16)
  else if 0x68000 ≤ o ∧ o < 0x70000 then
    if o % 8 = 0 then s.winLow ((o - 0x68000) / 8) else s.winHigh ((o - 0x68000) / 8)
  else (s.view o, s)

/-! Levels on pins and JTAG (R364, R371, R394, R408, R410). -/

/-- LNT_PGOOD (R394). -/
def State.pinPgood (s : State) : Bool := s.bit R.PWR_STATUS F.PWR_STATUS_PGOOD

/-- THERMTRIP_N (R364): low while TRIP. -/
def State.pinThermtripN (s : State) : Bool := !s.bit R.LNT_STATUS F.LNT_STATUS_TRIP

/-- SMB_ALERT_N (R408): low while a PLDM event waits for its receiver; no command takes one away. -/
def State.pinSmbAlertN (s : State) : Bool := s.lnt.events.isEmpty


/-- The JTAG IDCODE register (R410). -/
def State.idcode (s : State) : Word :=
  BitVec.ofNat 32 ((match s.part.stepping with | .a0 => 1 | .b0 => 2) * 2 ^ 28 + 0x0E65 * 2 ^ 12 + Config.jtagMaker.toNat * 2 + 1)

/-- What JTAG reaches beside boundary scan and IDCODE (R371): the command cores and the Wardens, and Lantern. -/
def State.jtagDebug (s : State) : Bool × Bool := (Nat.ble s.part.debugLock 1, s.part.debugLock == 0)

end Sys2Proof.Machine
end

