-- ==== Sys2Proof/Machine/Access.lean ====
section
/-! DEFINITION. What a 32-bit write of a register does: the effect of the row that the register has, or each field by
its type (R4 to R6). -/

namespace Sys2Proof.Machine

/-- The state an outcome leads to; a fault or a refusal leaves the state. -/
def State.after (s : State) (o : Out) : State :=
  match o with
  | .next t => t
  | _ => s

/-- Run the meanings of the command bits that a write sets, in order. -/
def State.bits (s : State) (w : Word) (l : List (Nat × (State → Out))) : State :=
  l.foldl (fun s p => if w.getLsbD p.1 then s.after (p.2 s) else s) s

/-! The blocks of R11. -/

/-- NOC_CTL and NOC_CREDIT while a global barrier runs: held until the next APPLY (R295). -/
def State.barrierBusy (s : State) : Bool := s.bit R.NOC_STATUS F.NOC_STATUS_BARRIER_BUSY

/-- A write of NOC_CTL (R294, R295): COMPAT; APPLY starts a global barrier, after a NOC_CREDIT that was held has been
stored. A write while one runs is held to the next APPLY, which is a write of NOC_CTL itself and gives COMPAT anew. -/
def State.writeNocCtl (s : State) (w : Word) : State :=
  if s.barrierBusy then s
  else
    let t := s.put R.NOC_CTL F.NOC_CTL_COMPAT (F.NOC_CTL_COMPAT.of w)
    if F.NOC_CTL_APPLY.of w = 0 then t
    else
      let u := match t.noc.heldCredit with
        | some c => t.setReg R.NOC_CREDIT c
        | none => t
      { u with noc := { u.noc with heldCredit := none, barrierSince := some u.sched.now } }.raise R.NOC_STATUS F.NOC_STATUS_BARRIER_BUSY

/-- A write of NOC_CREDIT (R295). -/
def State.writeCredit (s : State) (w : Word) : State :=
  if s.barrierBusy then { s with noc := { s.noc with heldCredit := some w } } else s.setReg R.NOC_CREDIT w

/-- The NoC control block. -/
def State.writeNoc (s : State) (o : Nat) (w : Word) : State :=
  if o = R.NOC_CTL then s.writeNocCtl w
  else if o = R.NOC_CREDIT then s.writeCredit w
  else if o = R.NOC_NOEP_DROP ∨ (R.NOC_OFF_COUNT 0 ≤ o ∧ o < R.NOC_OFF_COUNT 64) then s.setReg o 0
  else s.typedStore o w

/-- The DEVICE block: schedule, Deep Store and Echo controls beside plain registers. -/
def State.writeDevice (s : State) (o : Nat) (w : Word) : State :=
  if o = R.SCHED_BARRIER_RELEASE then s.after (execSchedBarrierReleaseWrite (w.truncate 16) s)
  else if o = R.SCHED_COUNT_CTL then s.bits w [(0, execClrHold), (1, execClrSync), (2, execClrOverrun)]
  else if o = R.DS_ERR_CTL then s.bits w [(0, execDsErrClr)]
  else if o = R.ECHO_COUNT_CTL then s.bits w [(0, execEchoClrLost), (1, execClrStretch)]
  else s.typedStore o w

/-- The CIC, written by `who`: a command core completes at any target, the others at target 4 only (R327). -/
def State.writeCic (s : State) (o : Nat) (w : Word) (who : TbWriter) : State :=
  if h : o - 0x10000 < 512 * 4 then
    if o % 4 = 0 ∧ cicListed ((o - 0x10000) / 4) then s.after (execCicSrcWrite ⟨(o - 0x10000) / 4, by omega⟩ w s) else s
  else if o = R.CIC_SW_SET 0 then s.after (execCicSwSet 0 w s)
  else if o = R.CIC_SW_SET 1 then s.after (execCicSwSet 1 w s)
  else if o = R.CIC_COUNTS then s.after (execCicCountsClear s)
  else if R.CIC_COMPLETE 0 ≤ o ∧ o ≤ R.CIC_COMPLETE 4 ∧ (o - R.CIC_COMPLETE 0) % 0x100 = 0 then
    s.after (execCicComplete (Fin.ofNat 5 ((o - R.CIC_COMPLETE 0) / 0x100)) (w.truncate 9) (who != .core) s)
  else if R.CIC_THRESHOLD 0 ≤ o ∧ o ≤ R.CIC_THRESHOLD 4 ∧ (o - R.CIC_THRESHOLD 0) % 0x100 = 0 then (s.cicKeep o).typedStore o w
  else s.typedStore o w

/-- A DMA channel's registers (R305, R314, R315, R317). -/
def State.writeDmaCh (s : State) (n : Fin 32) (d : Nat) (w : Word) : State :=
  let o := 0x21000 + n.val * 0x40 + d
  if d = 8 then (s.writeChCfg n.val w).pumped
  else if d = 0x0C then
    s.bits w [(0, execKick n), (1, execDmaHalt n), (2, execAbort n), (3, execDmaResume n)]
  else if d = 0x14 then s.after (execDmaHeadWrite n (w.truncate 16) s)
  else if d = 0x24 then s.after (execDoneCountClear n s)
  else if (d = 0 ∨ d = 4) ∧ s.bit (R.DMA_CH_CFG n.val) F.DMA_CH_CFG_ENABLE then s.chCfgErr n.val
  else s.typedStore o w

/-- The Timebase, written by `who` (R337 to R341). -/
def State.writeTb (s : State) (o : Nat) (w : Word) (who : TbWriter) : State :=
  if o = R.TB_INCR then s.after (execTbIncrWrite who w s)
  else if o = R.TB_STEP then s.after (execTbStepWrite who w s)
  else if o = R.TB_SLEW then s.after (execTbSlewWrite who w s)
  else if o = R.TB_CFG then s.after (execTbCfgWrite w s)
  else if o = R.ETH_STATUS 0 then s.after (execTcForwardedClear 0 s)
  else if o = R.ETH_STATUS 1 then s.after (execTcForwardedClear 1 s)
  else s.typedStore o w

/-- A queue pair's registers (R247 to R251). -/
def State.writeQueue (s : State) (q : Fin 16) (d : Nat) (w : Word) : State :=
  let o := 0x40000 + q.val * 0x40 + d
  if d = 0x10 then
    s.writeQCfg q.val (F.MBX_Q_CFG_ENABLE.of w == 1) (F.MBX_Q_CFG_SIZE.of w) (F.MBX_Q_CFG_VECTOR.of w)
  else if d = 0x18 then s.after (execMbxSqTailWrite q (w.truncate 10) s)
  else if d = 0x1C then s.after (execMbxCqHeadWrite q (w.truncate 10) s)
  else if d ≤ 0x0C ∧ s.qOn q.val then s.raise (R.MBX_Q_STATUS q.val) F.MBX_Q_STATUS_CFG_ERR
  else s.typedStore o w

/-- The trace block (R379, R385, R389). -/
def State.writeTrace (s : State) (o : Nat) (w : Word) : State :=
  if h : 0x61000 ≤ o ∧ o < 0x61000 + 68 * 0x40 ∧ (o - 0x61000) % 0x40 = 0 then
    s.after (execTraceSourceEnable ⟨(o - 0x61000) / 0x40, by omega⟩ w s)
  else if o = R.TRC_CTL then
    let s := if w.getLsbD 2 then s.after (execTraceClear s) else s
    let was := s.bit o F.TRC_CTL_ENABLE
    let s := s.typedStore o w
    let s := s.put R.TRC_STATUS F.TRC_STATUS_IDLE (natOfBool (!s.bit o F.TRC_CTL_ENABLE && s.trc.fifo.isEmpty))
    let s := if !was && s.bit o F.TRC_CTL_ENABLE then
        ((List.range 68).filter s.tracing).foldl (fun s k => s.startPackets k) s
      else s
    s.trcMark
  else if o = R.TRC_RD_PTR ∨ o = R.TRC_WATERMARK then (s.typedStore o w).trcMark
  else s.typedStore o w

/-- A Passage port's registers (R132, R156). -/
def State.writePort (s : State) (p : PortNo) (d : Nat) (w : Word) : State :=
  if d = 0 then s.writePsgCtl p.val w
  else if d = 0x30 then s.bits w [(0, execClrFec p), (1, execClrRetry p), (2, execClrDrop p)]
  else s.typedStore (0x80000 + p.val * 0x1000 + d) w

/-- A write of SP_CTL (R195): while ENABLE is 1 and bytes wait to be sent it takes effect when they are gone. -/
def State.writeSpCtl (s : State) (p : Nat) (w : Word) : State :=
  let o := R.SP_CTL p
  let w := s.written o (match regRow o with | some r => r.fields | none => []) (legalWord o (s.reg o) w)
  if s.bit o F.SP_CTL_ENABLE ∧ (NMap.get dNoBytes s.rim.tx p).isEmpty = false then
    { s with rim := { s.rim with spDefer := s.rim.spDefer.filter (fun x => x.1 != p) ++ [(p, w)] } }
  else (s.setReg o w).settle

/-- The Rimstone control block (R194, R195, R201). -/
def State.writeRim (s : State) (o : Nat) (w : Word) : State :=
  if h : R.SP_CTL 0 ≤ o ∧ o < R.SP_CTL 4 then
    let p : Sp := ⟨(o - R.SP_CTL 0) / 16, by simp only [R.SP_CTL] at h ⊢; omega⟩
    if o % 16 = 0 then s.writeSpCtl p.val w
    else if o % 16 = 8 then s.after (execSpDataWrite p (w.truncate 8) s)
    else s.typedStore o w
  else if o = R.RIM_CTL then
    let t := s.after (execSwReset 0 (w.getLsbD 0) s)
    t.after (execSwReset 1 (w.getLsbD 1) t)
  else if o = R.UFL_CTL then s.bits w [(0, execUflProgram), (1, execUflErase)]
  else if o = R.RIM_PW_COUNT then s.after (execRimPwCountClear s)
  else s.typedStore o w

/-- The Lantern window (R361, R398). -/
def State.writeLantern (s : State) (o : Nat) (w : Word) : State :=
  if h : R.SNS_LIMIT 0 ≤ o ∧ o < R.SNS_LIMIT 93 ∧ o % 4 = 0 then
    s.after (execSensorThresholdWrite ⟨(o - R.SNS_LIMIT 0) / 4, by simp only [R.SNS_LIMIT] at h ⊢; omega⟩ w s)
  else if h : R.PWR_GAL_REQ 0 ≤ o ∧ o < R.PWR_GAL_REQ 4 ∧ o % 4 = 0 then
    s.after (execGalleryPowerRequest ⟨(o - R.PWR_GAL_REQ 0) / 4, by simp only [R.PWR_GAL_REQ] at h ⊢; omega⟩ w s)
  else s.typedStore o w

/-- A write of the function table (R33): dropped and recorded as FT_WRITE_RUNNING while the device runs; otherwise its
parity is set. DESIGN CHOICE (log 50): the condition has no step and no BP, so its place is the table's chamber with
context, step and BP 0. -/
def State.writeTable (s : State) (g d : Nat) (w : Word) : State :=
  let c := g * 16 + (d - 0x1000) / 0x400
  if 2 ≤ s.runState then s.record g 11 ⟨0, 0, 0, c % 16⟩
  else
    let s := s.setReg (0x1000000 + g * 0x10000 + d) w
    { s with fab := { s.fab with ftBad := NMap.set dFalse s.fab.ftBad (c * 256 + (d - 0x1000) / 4 % 256) false } }

/-- A gallery window (R33, R58, R77, R104, R109, R329). -/
def State.writeGal (s : State) (g : Gal) (d : Nat) (w : Word) : State :=
  if d = 0x24 then s.bits w [(0, execGalClrCe g), (1, execGalClrLost g)]
  else if d = 0x34 then s.bits w [(0, execAssertPop g)]
  else if d = 0x60 then s.bits w [(0, execClrSlip g), (1, execClrDiscard g), (2, execClrSlipLast g)]
  else if d = 0x8C then s.after (execDmCeCountClear g s)
  else if d = 0xA0 then s.after (execMarchStart g w s)
  else if d = 0x300 then s.after (execSoftSet g ((w >>> 16).truncate 16) s)
  else if d = 0x324 then s.after (execWiuCountClear g s)
  else if 0x1000 ≤ d ∧ d < 0x5000 ∧ d % 4 = 0 then s.writeTable g.val d w
  else s.typedStore (0x1000000 + g.val * 0x10000 + d) w

/-- A 32-bit write of the register at BAR0 offset `o` by `who` (R4, R11). -/
def State.writeReg (s : State) (o : Nat) (w : Word) (who : TbWriter) : State :=
  if o < 0x10000 then s.writeDevice o w
  else if o < 0x20000 then s.writeCic o w who
  else if h : 0x21000 ≤ o ∧ o < 0x21000 + 32 * 0x40 then
    s.writeDmaCh ⟨(o - 0x21000) / 0x40, by omega⟩ ((o - 0x21000) % 0x40) w
  else if 0x30000 ≤ o ∧ o < 0x40000 then s.writeTb o w who
  else if h : 0x40000 ≤ o ∧ o < 0x40000 + 16 * 0x40 then
    s.writeQueue ⟨(o - 0x40000) / 0x40, by omega⟩ ((o - 0x40000) % 0x40) w
  else if o = R.ERR_COUNT then s.setReg o 0
  else if 0x60000 ≤ o ∧ o < 0x70000 then s.writeTrace o w
  else if 0x70000 ≤ o ∧ o < 0x80000 then s.writeNoc o w
  else if h : 0x80000 ≤ o ∧ o < 0x90000 then s.writePort ⟨(o - 0x80000) / 0x1000, by omega⟩ (o % 0x1000) w
  else if 0x100000 ≤ o ∧ o < 0x200000 then s.writeRim o w
  else if 0x200000 ≤ o ∧ o < 0x400000 then s.writeLantern o w
  else if h : 0x1000000 ≤ o ∧ o < 0x1400000 then s.writeGal ⟨(o - 0x1000000) / 0x10000, by omega⟩ (o % 0x10000) w
  else s.typedStore o w

end Sys2Proof.Machine
end

