-- ==== Sys2Proof/Machine/NocOps.lean ====
section
/-! DEFINITION. The Control NoC's endpoints: how a packet or a BAR0 request is served at its node, and what waits in
the mesh (10, R278, R287 to R297; 01, R9 to R13). -/

namespace Sys2Proof.Machine

/-! Nodes (R9). A node is y + 16·x. -/

/-- The node of the block at a BAR0 offset (R11). -/
def blockNode (o : Nat) : Option Nat :=
  if o < 0x10000 then some 0x01 else if o < 0x20000 then some 0x05 else if o < 0x30000 then some 0x03
  else if o < 0x40000 then some 0x90 else if o < 0x50000 then some 0x05 else if o < 0x60000 then some 0x06
  else if o < 0x70000 then some 0x02 else if o < 0x80000 then some 0x01
  else if o < 0x90000 then some (0x90 + ((o - 0x80000) / 0x2000 + 1))
  else if 0x100000 ≤ o ∧ o < 0x400000 then some 0x06
  else if 0x1000000 ≤ o ∧ o < 0x1400000 then some (galNode ((o - 0x1000000) / 0x10000))
  else none

/-- The gallery of a node. -/
def nodeGal (n : Nat) : Option Nat :=
  let x := n / 16
  let y := n % 16
  if 1 ≤ x ∧ x ≤ 8 ∧ 1 ≤ y ∧ y ≤ 8 then some (8 * (y - 1) + (x - 1)) else none

/-- The first of the two Deep Store channels of a node. -/
def nodeChan (n : Nat) : Option Nat :=
  let x := n / 16
  let y := n % 16
  if 1 ≤ x ∧ x ≤ 8 ∧ y = 0 then some (2 * (x - 1)) else if 1 ≤ x ∧ x ≤ 8 ∧ y = 9 then some (16 + 2 * (x - 1)) else none

/-- The nodes that a packet passes from `a` to `b` (R287): along X to the column of `b`, then along Y to its row. -/
def xyPath (a b : Nat) : List Nat :=
  let run (i j : Nat) : List Nat :=
    if i ≤ j then (List.range (j - i)).map (fun k => i + 1 + k) else (List.range (i - j)).map (fun k => i - 1 - k)
  (run (a / 16) (b / 16)).map (fun x => 16 * x + a % 16) ++ (run (a % 16) (b % 16)).map (fun y => 16 * (b / 16) + y)

/-- Has the node an endpoint? -/
def hasEndpoint (n : Nat) : Bool :=
  let x := n / 16
  let y := n % 16
  (x == 0 && Nat.ble 1 y && Nat.ble y 6) || (Nat.ble 1 x && Nat.ble x 8 && Nat.ble y 9) || (x == 9 && Nat.ble y 9)

/-- Is a BAR0 offset behind the die-to-die link (R11)? -/
def acrossD2d (o : Nat) : Bool := blockNode o == some 6

/-- Who writes, by the packet's source node (R340). -/
def writerOf (p : NocPkt) : TbWriter :=
  if p.src = 0x04 then .host else if p.src = 0x06 then .lantern else .core

/-! The MSI-X table and the Pending Bit Array (R278, R285). -/

/-- The 32-bit word of the table or of the PBA at DEVICE block offset `o`. -/
def State.msixRead (s : State) (o : Nat) : Word :=
  if o < 0x9000 then
    let v := (o - 0x8000) / 16
    match o % 16 / 4 with
    | 0 => (NMap.get dZero64 s.host.msixAddr v).truncate 32
    | 1 => (NMap.get dZero64 s.host.msixAddr v >>> 32).truncate 32
    | 2 => NMap.get dZero32 s.host.msixData v
    | _ => BitVec.ofNat 32 (natOfBool (NMap.get dTrue s.host.msixMask v))
  else if o < 0x9020 then wordOf (fun i => NMap.get dFalse s.host.msixPend ((o - 0x9000) / 4 * 32 + i))
  else 0

/-- A write of the table; the PBA is read only. -/
def State.msixWrite (s : State) (o : Nat) (w : Word) : State :=
  if 0x9000 ≤ o then s
  else
    let v := (o - 0x8000) / 16
    let a := NMap.get dZero64 s.host.msixAddr v
    match o % 16 / 4 with
    | 0 => { s with host := { s.host with msixAddr := NMap.set dZero64 s.host.msixAddr v (a / 2 ^ 32 * 2 ^ 32 + BitVec.ofNat 64 (w.toNat / 4 * 4)) } }
    | 1 => { s with host := { s.host with msixAddr := NMap.set dZero64 s.host.msixAddr v (BitVec.ofNat 64 (a.toNat % 2 ^ 32 + w.toNat * 2 ^ 32)) } }
    | 2 => { s with host := { s.host with msixData := NMap.set dZero32 s.host.msixData v w } }
    | _ => { s with host := { s.host with msixMask := NMap.set dTrue s.host.msixMask v (w.getLsbD 0) } }

/-- Is the offset in the endpoint's own two tables? -/
def isMsix (o : Nat) : Bool := Nat.ble 0x8000 o && Nat.blt o 0xA000

/-- A 32-bit read by the host: the endpoint's own tables, else the register (R278, R11). -/
def State.hostRead32 (s : State) (o : Nat) : Word × State := if isMsix o then (s.msixRead o, s) else s.readReg o

/-- A 32-bit write by the host. -/
def State.hostWrite32 (s : State) (o : Nat) (w : Word) : State := if isMsix o then s.msixWrite o w else s.writeReg o w .host

/-! BAR0 requests (R11 to R13, R278). -/

/-- CRC_RETRY of the die-to-die link: an armed point corrupts the next flit sent across it, which the link repeats
(R370). -/
def State.crossD2d (s : State) (o : Nat) : State :=
  if acrossD2d o && s.isArmed 0x0F 0 0 then (s.useArmed 0x0F 0 0).detect 0x0F 0 0 else s

/-- `n` 32-bit reads from offset `o`, lower address first (R12). -/
def State.hostReadWords (s : State) (o : Nat) : Nat → List Byte × State
  | 0 => ([], s)
  | n + 1 =>
    let r := s.hostRead32 o
    let t := State.hostReadWords r.2 (o + 4) n
    (leBytes 4 r.1.toNat ++ t.1, t.2)

/-- 32-bit writes from offset `o`; a half whose byte enables are all clear is not written (R12). -/
def State.hostWriteWords (s : State) (o : Nat) : Nat → List (Option Byte) → State
  | 0, _ => s
  | n + 1, bs =>
    let w := (bs.take 4).map (fun b => b.getD 0)
    let s := if (bs.take 4).all Option.isNone then s else s.hostWrite32 o (BitVec.ofNat 32 (leNat w))
    State.hostWriteWords s (o + 4) n (bs.drop 4)

/-- Is the access one BAR0 takes: 1, 2, 4 or 8 bytes, naturally aligned (R278)? -/
def bar0Ok (o n : Nat) : Bool := [1, 2, 4, 8].contains n && o % n == 0

/-- Serve a BAR0 request at its block (R12, R13). -/
def State.serveBar0 (s : State) (addr : BitVec 64) (op : HostOp) : State :=
  let o := bar0Off addr
  let g := o / 0x10000 - 0x100
  if 0x1000000 ≤ o ∧ o < 0x1400000 ∧ s.isOff g then s.proxyBar0 g addr op
  else
    let s := s.crossD2d o
    match op with
    | .read n =>
      let r := s.hostReadWords (o / 4 * 4) (halfCount n.val)
      r.2.reply (.bytes ((r.1.drop (o % 4)).take n.val))
    | .write bs => s.hostWriteWords o (halfCount bs.length) bs

/-! Packets at an endpoint (R289, R290). -/

/-- The byte enables of a packet's words. -/
def pktMasks (p : NocPkt) (n : Nat) : List (BitVec 8) :=
  (List.range n).map (fun i => if i = 0 then p.firstBe else if i + 1 = n then p.lastBe else 0xFF)

/-- The masked words that a WRITE or POSTED packet carries. -/
def pktWrites (p : NocPkt) : List (BitVec 8 × Dword) := (pktMasks p p.data.length).zip p.data

/-- The offsets of the 32-bit registers that an access of one word touches: those with an enabled byte. -/
def pktRegs (p : NocPkt) : List Nat :=
  let o := p.addr.toNat / 8 * 8
  (if p.firstBe.toNat % 16 = 0 then [] else [o]) ++ (if p.firstBe.toNat / 16 = 0 then [] else [o + 4])

/-- Does a register endpoint accept the access (R290): one word, and for a write whole registers? -/
def regSizeOk (p : NocPkt) : Bool :=
  match p.kind with
  | .read => readWords p == 1
  | .write | .posted => p.data.length == 1 && [0x0F, 0xF0, 0xFF].contains p.firstBe.toNat
  | _ => false

/-- A read of a register by `who`: by a command core, that of CIC_CLAIM_t claims (R322, R327). -/
def State.readRegBy (s : State) (who : TbWriter) (o : Nat) : Word × State :=
  let d := o - R.CIC_CLAIM 0
  if who = .core ∧ R.CIC_CLAIM 0 ≤ o ∧ d % 0x100 = 0 ∧ d / 0x100 < 4 then
    let n := s.best (d / 0x100)
    (BitVec.ofNat 32 n, s.claimOne (d / 0x100) n false)
  else s.readReg o

/-- Reads of registers in ascending order. -/
def State.readRegs (s : State) (who : TbWriter) : List Nat → List Word × State
  | [] => ([], s)
  | o :: os =>
    let r := s.readRegBy who o
    let t := State.readRegs r.2 who os
    (r.1 :: t.1, t.2)

/-- A word of 8 bytes from the registers read at `os`. -/
def regsWord (os : List Nat) (ws : List Word) : Dword :=
  BitVec.ofNat 64 ((os.zip ws).foldl (fun n x => n + x.2.toNat * (if x.1 % 8 = 0 then 1 else 2 ^ 32)) 0)

/-- The error block a node logs under (R369). -/
def nodeBlock (n : Nat) : Nat :=
  if n = 1 then 0x08 else if n = 3 then 0x0A else if n = 5 then 0x0C else if n = 6 then 0x10 else if n = 0x90 then 0x0D
  else if (nodeGal n).isSome then 0x03 else if (nodeChan n).isSome then 0x04 else if n / 16 = 9 then 0x05 else 0x08

/-- A dropped BAD_SIZE write is logged under its block (R290); the entry's code and class are free values. -/
def State.logBadSize (s : State) (n : Nat) : State :=
  ((s.used).queueEvent ((s.used).newEvent (nodeBlock n) (s.freeVal 8) 0 (s.used.freeVal 2) false [])).used

/-- End a packet at node `n` in BAD_SIZE. -/
def State.badSize (s : State) (n : Nat) (p : NocPkt) : State :=
  (if p.kind = PktKind.posted then s.logBadSize n else s).answerPkt p 0x0C []

/-- A packet at a register block of node `n`: the ADDRESS is the BAR0 offset (R11, R290). -/
def State.regPkt (s : State) (n : Nat) (p : NocPkt) : State :=
  let os := pktRegs p
  if p.addr.toNat % 4 ≠ 0 ∨ regSizeOk p = false then s.badSize n p
  else if os.all (fun o => blockNode o == some n && (regRow o).isSome) = false then s.answerPkt p 0x0B []
  else
    match p.kind with
    | .read =>
      let r := s.readRegs (writerOf p) os
      r.2.answerPkt p 0 [regsWord os r.1]
    | _ =>
      let d := p.data.headD 0
      (os.foldl (fun s o => s.writeReg o (if o % 8 = 0 then d.truncate 32 else (d >>> 32).truncate 32) (writerOf p)) s).answerPkt p 0 []

/-- The bank accesses of a packet (R100, R101); none: BAD_SIZE. `swap` is the operation of an ATOMIC. -/
def pktOps (p : NocPkt) (swap : Bool) : Option (List BankOp) :=
  match p.kind with
  | .read => some (List.replicate (readWords p) .read)
  | .write | .posted => some ((pktWrites p).map (fun x => .write x.1 x.2))
  | .atomic => if p.addr.toNat % 8 = 0 then some [.atomic swap p.operand] else none
  | _ => none

/-- A packet at gallery `g`: Design Memory below 1 MiB (R100), where an ATOMIC whose OP is reserved does a free one; the window's registers at their BAR0 offsets. -/
def State.galPkt (s : State) (g : Nat) (p : NocPkt) : State :=
  if s.isOff g then s.proxyPkt g p
  else if p.addr.toNat < 2 ^ 20 then
    let unknown := p.kind == .atomic && Nat.ble 2 p.op.toNat
    let swap := if unknown then s.freeVal 1 == 1 else p.op == 1
    let s := if unknown then s.used else s
    match pktOps p swap with
    | none => s.badSize (galNode g) p
    | some ops =>
      if 131072 < p.addr.toNat / 8 + ops.length then s.answerPkt p 0x0B []
      else s.bankRequest { gal := g, word := p.addr.toNat / 8, left := ops, since := none, data := [], status := 0, who := .pkt p }
  else s.regPkt (galNode g) p

/-- A packet at the Deep Store channels of node `n`: the ADDRESS is the Deep Store byte address (R114 to R119). -/
def State.dsPkt (s : State) (n ch : Nat) (p : NocPkt) : State :=
  let a := p.addr.toNat / 8 * 8
  if 2 ^ 35 ≤ a ∨ (dsChannel a ≠ ch ∧ dsChannel a ≠ ch + 1) then s.answerPkt p 0x0B []
  else
    match p.kind with
    | .read =>
      let r := s.dmaDsRead a (8 * readWords p)
      r.2.2.answerPkt p r.1 ((List.range (readWords p)).map (fun i => BitVec.ofNat 64 (leNat ((r.2.1.drop (8 * i)).take 8))))
    | .atomic => s.badSize n p
    | _ =>
      if s.chanReady (dsChannel a) = false then s.answerPkt p 9 []
      else if s.hostMayWrite a = false then (s.detect 0x04 4 (dsChannel a) (leBytes 8 a)).answerPkt p 8 []
      else
        let ws := pktWrites p
        let ue := (List.range ws.length).any (fun i => (ws.getD i (0xFF, 0)).1 != 0xFF && s.dsMark (a / 8 + i) == .double)
        (s.dsWriteWords (a / 8) ws).answerPkt p (if ue then 7 else 0) []

/-- A packet at a node without an endpoint (R10). -/
def State.noEndpoint (s : State) (p : NocPkt) : State :=
  match p.kind with
  | .read | .write | .atomic => (s.recordNoc 2 p.dest.toNat p.src.toNat).answerPkt p 1 []
  | .posted =>
    ((s.bump R.NOC_NOEP_DROP F.NOC_NOEP_DROP_COUNT).recordNoc 2 p.dest.toNat p.src.toNat).answerPkt p 1 []
  | _ => s

/-- A packet reaches its node (R287, R290, R296). A MESSAGE to a gallery enters its Warden's queue (R329). A RESPONSE
completes a request of the node it names, and the row of that request says what then happens. -/
def State.atNode (s : State) (p : NocPkt) : State :=
  let n := p.dest.toNat
  if hasEndpoint n = false then s.noEndpoint p
  else match nodeGal n, p.kind with
    | some g, .message =>
      if s.isOff g then s.proxyPkt g p
      else { s with wiu := { s.wiu with msgs := NMap.set (fun _ => []) s.wiu.msgs g (NMap.get (fun _ => []) s.wiu.msgs g ++ [p]) } }
    | some g, .response => if s.isOff g then s.proxyPkt g p else s
    | none, .message | none, .response | _, .reserved => s
    | some g, _ => s.galPkt g p
    | none, _ =>
      match nodeChan n with
      | some ch => s.dsPkt n ch p
      | none => s.regPkt n p

/-! What waits in the mesh (R291, R296, R11). -/

/-- Is it a request or a posted write? -/
def isRequest (k : PktKind) : Bool := k == .read || k == .write || k == .posted || k == .atomic

/-- Has the posted write that the fence names been applied (R291)? Sequence numbers count modulo 256. -/
def State.fenceMet (s : State) (p : NocPkt) : Bool :=
  !p.fenceValid || p.kind == .posted ||
    (match NMap.get dZero s.noc.wseq (wseqKey p) with
     | 0 => false
     | n + 1 => Nat.blt ((n + 256 - p.fence.toNat) % 256) 128)

/-- Does a posted write of the host wait at gallery `g`? -/
def State.hostWrites (s : State) (g : Nat) : Bool :=
  s.mem.bankQ.any (fun r => r.gal == g && r.who.hostWrite) || s.host.netQ.any (fun r => r.gal == g && r.write.isSome)

/-- Does it wait in the mesh: at a closing port, at a fence, at the bridge while the die-to-die link is down? -/
def State.blocked (s : State) (h : Held) : Bool :=
  match h with
  | .pkt p =>
    isRequest p.kind &&
      ((match nodeGal p.dest.toNat with | some g => s.portCloses g | none => false) || !s.fenceMet p ||
       (p.dest == 6 && s.pwr.d2dRate == 0))
  | .bar0 addr op _ =>
    let o := bar0Off addr
    let g := o / 0x10000 - 0x100
    (Nat.ble 0x1000000 o && Nat.blt o 0x1400000 &&
      (s.portCloses g || ((match op with | .read _ => true | .write _ => false) && s.hostWrites g))) ||
    (acrossD2d o && s.pwr.d2dRate == 0)

/-- Are two of one source, destination and VC, which stay in order (R291)? -/
def sameLane : Held → Held → Bool
  | .pkt a, .pkt b => a.src == b.src && a.srcDev == b.srcDev && a.dest == b.dest && a.vc == b.vc
  | .bar0 a _ _, .bar0 b _ _ => blockNode (bar0Off a) == blockNode (bar0Off b)
  | _, _ => false

/-- Serve what has arrived. -/
def State.serveHeld (s : State) : Held → State
  | .pkt p => s.atNode p
  | .bar0 addr op _ => s.serveBar0 addr op

/-- Something arrives at its node: it is served, or waits. -/
def State.arrive (s : State) (h : Held) : State :=
  if s.blocked h || s.noc.waiting.any (sameLane h) then { s with noc := { s.noc with waiting := s.noc.waiting ++ [h] } }
  else s.serveHeld h

/-- Go through what waits, in order; `kept` waits on. -/
def retryHeld : List Held → List Held → State → State
  | [], kept, s => { s with noc := { s.noc with waiting := kept } }
  | h :: t, kept, s =>
    if s.blocked h || kept.any (sameLane h) then retryHeld t (kept ++ [h]) s else retryHeld t kept (s.serveHeld h)

/-- One period in which no command comes: time passes, and what waited in the mesh or for tunnel credit goes on as far
as it can. -/
def State.idlePeriod (s : State) : State :=
  let s := s.elapse
  (retryHeld s.noc.waiting [] s).drained

end Sys2Proof.Machine
end

