-- ==== Sys2Proof/Machine/Host.lean ====
section
/-! DEFINITION. The PCIe endpoint as commands: BAR accesses, MSI-X, power states, and the writes and reads of
registers by other ports (10, R276 to R286; 16, R409; 00, R4). -/

namespace Sys2Proof.Machine

/-! Requests (R276, R283, R284). -/

/-- The length of a request. -/
def opLen : HostOp → Nat
  | .read n => n.val
  | .write bs => bs.length

/-- Is it a read? -/
def isRead : HostOp → Bool
  | .read _ => true
  | .write _ => false

/-- The base address of BAR `b` (R277). -/
def State.barBase (s : State) (b : Nat) : Nat :=
  (NMap.get dZero32 s.host.cfg.bars b).toNat + (NMap.get dZero32 s.host.cfg.bars (b + 1)).toNat * 2 ^ 32

/-- The size of a BAR: 64 MiB, 4 GiB, 16 MiB (R277). -/
def barSize (b : Nat) : Nat := if b = 0 then 2 ^ 26 else if b = 2 then 2 ^ 32 else 2 ^ 24

/-- Does the endpoint decode its BARs: in D0 with Memory Space Enable set (R276, R277)? -/
def State.barsOpen (s : State) : Bool := !s.host.d3hot && s.host.cfg.command.getLsbD 1

/-- Does BAR `b` decode the PCIe address? -/
def State.decodes (s : State) (b addr : Nat) : Bool :=
  s.barsOpen && Nat.ble (s.barBase b) addr && Nat.blt addr (s.barBase b + barSize b)

/-- The BAR that decodes an address. -/
def State.barOf (s : State) (addr : Nat) : Option Nat := [0, 2, 4].find? (fun b => s.decodes b addr)

/-- A write longer than Max Payload Size, or a request across a 4 KiB boundary: malformed (R274, R284). -/
def State.malformed (s : State) (addr : BitVec 64) (op : HostOp) : Bool :=
  Nat.blt 4096 (addr.toNat % 4096 + opLen op) || (!isRead op && Nat.blt s.maxPayload (opLen op))

/-- What makes a request bad: EP, or an ECRC error while ECRC checking is on (R274, R283). -/
def State.badReq (s : State) (st : ReqState) : Option UncErr :=
  match st with
  | .good => none
  | .poisoned => some .poisoned
  | .ecrc => if s.host.cfg.aerCtl.getLsbD 8 then some .ecrc else none

/-- A request that no BAR decodes is unsupported (R276, R284): a read is answered so, a write dropped. -/
def State.unsupported (s : State) (addr : BitVec 64) (op : HostOp) : State :=
  let s := s.aer .unsupported (s.tlpHeader (!isRead op) false addr.toNat (opLen op))
  if isRead op then s.reply .unsupported else s

/-- What every access of BAR `bar` meets first: a bad request is dropped (POISON_RX), one that no BAR decodes is
unsupported, a malformed one is dropped; the others go to `f`. An address of another BAR is none of this one's. -/
def State.hostGate (s : State) (bar : Nat) (addr : BitVec 64) (op : HostOp) (st : ReqState) (f : State → State) : State :=
  let b := s.barOf addr.toNat
  let hdr := s.tlpHeader (!isRead op) (st == .poisoned) addr.toNat (opLen op)
  if b.any (fun x => x != bar) then s
  else match s.badReq st with
    | some k => (s.hostErr 6 (if b.isNone then 7 else bar) addr.toNat).aer k hdr
    | none =>
      if b.isNone then s.unsupported addr op
      else if s.malformed addr op then s.aer .malformed hdr
      else f s

/-- A BAR0 request (R12, R278). A part of a 32-bit register is not written (BAR0_PARTIAL_WRITE). -/
def State.bar0Request (s : State) (addr : BitVec 64) (op : HostOp) : State :=
  match op with
  | .read n =>
    if n.val = 0 then s.reply (.bytes [])
    else if bar0Ok (bar0Off addr) n.val then s.arrive (.bar0 addr op s.sched.now)
    else (s.hostErr 1 0 addr.toNat).abortRead addr.toNat n.val
  | .write bs =>
    let part (l : List (Option Byte)) : Bool := l.any Option.isNone && l.any Option.isSome
    if bs.length = 0 then s
    else if bs.length < 4 then s.hostErr 0 0 addr.toNat
    else if bar0Ok (bar0Off addr) bs.length = false then s.hostErr 1 0 addr.toNat
    else if part (bs.take 4) || part (bs.drop 4) then s.hostErr 0 0 addr.toNat
    else s.arrive (.bar0 addr op s.sched.now)

/-- BAR0_ACCESS (R12, R278). -/
def execBar0Access (addr : BitVec 64) (op : HostOp) (st : ReqState) (s : State) : Out :=
  .next (s.hostGate 0 addr op st (fun s => s.bar0Request addr op))

/-- A 32-bit write of the BAR0 register at offset `o` by host software, as a request of its own. -/
def State.hostWrites32 (s : State) (o : Nat) (w : Word) : State :=
  let addr := BitVec.ofNat 64 (s.barBase 0 + o)
  let op : HostOp := .write ((leBytes 4 w.toNat).map some)
  s.hostGate 0 addr op .good (fun s => s.bar0Request addr op)

/-! BAR2 (R279, R280). -/

/-- Cut `n` bytes from offset `o` into pieces that cross no 256-byte boundary: their offsets and lengths. -/
def bar2Pieces : Nat → Nat → Nat → List (Nat × Nat)
  | 0, _, _ => []
  | fuel + 1, o, n =>
    if n = 0 then []
    else
      let k := min n (256 - o % 256)
      (o, k) :: bar2Pieces fuel (o + k) (n - k)

/-- The Deep Store address of BAR2 offset `o`. -/
def State.bar2Addr (s : State) (o : Nat) : Nat := s.fld R.BAR2_BASE F.BAR2_BASE_BASE * 2 ^ 24 + o

/-- One piece of a BAR2 read: its completion. -/
def State.bar2Read (s : State) (addr k : Nat) : State :=
  let a := s.bar2Addr (addr % 2 ^ 32)
  if 2 ^ 35 ≤ a then (s.hostErr 2 2 addr).reply (.bytes (allOnes k))
  else
    let r := s.dmaDsRead a k
    r.2.2.hostAnswer 2 addr k true r.1 r.2.1

/-- One piece of a BAR2 write. -/
def State.bar2Write (s : State) (addr : Nat) (bs : List (Option Byte)) : State :=
  let a := s.bar2Addr (addr % 2 ^ 32)
  if 2 ^ 35 ≤ a then s.hostErr 2 2 addr
  else
    let r := s.dmaDsWrite a bs
    r.2.hostAnswer 2 addr bs.length false r.1 []

/-- BAR2_ACCESS (R279, R119, R124): one packet a piece, each with its completion. -/
def execBar2Access (addr : BitVec 64) (op : HostOp) (st : ReqState) (s : State) : Out :=
  .next (s.hostGate 2 addr op st (fun s =>
    match op with
    | .read n =>
      if n.val = 0 then s.reply (.bytes [])
      else (bar2Pieces 17 addr.toNat n.val).foldl (fun s p => s.bar2Read p.1 p.2) s
    | .write bs =>
      (bar2Pieces 17 addr.toNat bs.length).foldl (fun s p =>
        s.bar2Write p.1 ((bs.drop (p.1 - addr.toNat)).take p.2)) s))

/-- BAR2_BASE_WRITE (R276, R280), through BAR0. -/
def execBar2BaseWrite (w : Word) (s : State) : Out := .next (s.hostWrites32 R.BAR2_BASE w)

/-! BAR4 (R281, R282). -/

/-- The bank accesses of a request at offset `r` of gallery-relative Design Memory (R100). -/
def hostOps (r : Nat) : HostOp → List BankOp
  | .read n => List.replicate ((r + n.val + 7) / 8 - r / 8) .read
  | .write bs =>
    let l := List.replicate (r % 8) none ++ bs
    (maskedWords ((l.length + 7) / 8) l).map (fun x => .write x.1 x.2)

/-- A Design Memory request of the host at offset `r` of gallery `g`. -/
def State.bar4Dm (s : State) (g r addr : Nat) (op : HostOp) : State :=
  s.bankRequest { gal := g, word := r / 8, left := if opLen op = 0 then [] else hostOps r op, since := none, data := [], status := 0,
                  who := .host addr (r % 8) (opLen op) (isRead op) s.sched.now }

/-- A net-store request of the host at offset `r` of gallery `g`. -/
def State.bar4Net (s : State) (g r addr : Nat) (op : HostOp) : State :=
  if s.isOff g then (s.countOff g (!isRead op)).hostAnswer 4 addr (opLen op) (isRead op) 2 []
  else if opLen op = 0 then s.hostAnswer 4 addr 0 (isRead op) 0 []
  else
    let q : NetReq := { gal := g, addr := addr, off := r, left := opLen op, got := [], taken := !s.portCloses g,
                        write := (match op with | .read _ => none | .write bs => some bs), born := s.sched.now }
    { s with host := { s.host with netQ := s.host.netQ ++ [q] } }

/-- BAR4_ACCESS (R281). -/
def execBar4Access (addr : BitVec 64) (op : HostOp) (st : ReqState) (s : State) : Out :=
  .next (s.hostGate 4 addr op st (fun s =>
    let r := addr.toNat % 2 ^ 20
    let sel := R.BAR4_SEL (addr.toNat / 2 ^ 20 % 16)
    let g := s.fld sel F.BAR4_SEL_GALLERY
    if 256 < opLen op then
      (if isRead op then (s.hostErr 4 4 addr.toNat).abortRead addr.toNat (opLen op) else s.hostErr 4 4 addr.toNat)
    else if s.bit sel F.BAR4_SEL_VALID = false then s.hostAnswer 4 addr.toNat (opLen op) (isRead op) 0x0B []
    else if s.bit sel F.BAR4_SEL_SPACE then s.bar4Net g r addr.toNat op
    else s.bar4Dm g r addr.toNat op))

/-- BAR4_SEL_WRITE (R276, R281), through BAR0. -/
def execBar4SelWrite (a : Fin 16) (w : Word) (s : State) : Out := .next (s.hostWrites32 (R.BAR4_SEL a.val) w)

/-! Net-store words (R282). -/

/-- Does the present step wait in this period? -/
def State.stepHeld (s : State) : Bool :=
  match s.decodeFetched (s.fetchStep false) with
  | some ws => ws.any (fun w => s.wordWaits w.1 w.2.op) || s.backPressure
  | none => false

/-- Is the period one in which gallery `g` serves a net-store word (R282)? -/
def State.netPeriod (s : State) (g : Nat) : Bool :=
  !s.fab.bankUse.contains (1024 + g) &&
  (match s.sched.phase with
   | .steps => s.stepHeld
   | .t2 | .t3 => Nat.blt 0 s.sched.holdLen
   | .t5 => !(match s.echo.snap with | some j => j.phase == 1 | none => false)
   | .between => true)

/-- Byte `n` of BP `b`'s block (R281). -/
def State.netByte (s : State) (b n : Nat) : Byte :=
  let m := match n / 256 with
    | 0 => s.fab.nsPrev | 1 => s.fab.nsCur | 2 => s.fab.nsTag | _ => []
  BitVec.ofNat 8 ((List.range 8).foldl (fun v i => v + natOfBool (NMap.get dFalse m (b * 2048 + n % 256 * 8 + i)) * 2 ^ i) 0)

/-- Write byte `n` (below 0x100) of BP `b`'s block: 8 physical entries of the previous generation with their parity. -/
def State.netPut8 (s : State) (b n : Nat) (v : Byte) : State :=
  (List.range 8).foldl (fun s i =>
    let k := b * 2048 + n * 8 + i
    { s with fab := { s.fab with nsPrev := NMap.set dFalse s.fab.nsPrev k (v.getLsbD i),
                                 nsBad := NMap.set dFalse s.fab.nsBad k false } }) s

/-- Write the enabled bytes from byte `n` of BP `b`'s block. -/
def State.netWrite (s : State) (b n : Nat) : List (Option Byte) → State
  | [] => s
  | none :: vs => State.netWrite s b (n + 1) vs
  | some v :: vs => State.netWrite (s.netPut8 b n v) b (n + 1) vs

/-- The next net-store access of gallery `g`; a read waits for the host's posted writes to the gallery (R291). -/
def State.nextNet (s : State) (g : Nat) : Option NetReq :=
  match s.host.netQ.find? (fun r => r.gal == g && (r.taken || !s.portCloses g)) with
  | some r => if r.write.isNone && s.mem.bankQ.any (fun b => b.gal == g && b.who.hostWrite) then none else some r
  | none => none

/-- Replace the first occurrence of an access. -/
def replaceNet (old : NetReq) (new : List NetReq) : List NetReq → List NetReq
  | [] => []
  | r :: rs => if r = old then new ++ rs else r :: replaceNet old new rs

/-- Serve the next word of an access: `k` bytes. -/
def State.serveNet (s : State) (r : NetReq) (k : Nat) : State :=
  let b := r.gal * 1024 + r.off / 1024
  let n := r.off % 1024
  let step : NetReq := { r with off := r.off + k, left := r.left - k }
  match r.write with
  | none =>
    let got := r.got ++ (List.range k).map (fun i => s.netByte b (n + i))
    if r.left ≤ k then
      { s with host := { s.host with netQ := replaceNet r [] s.host.netQ } }.hostAnswer 4 r.addr got.length true 0 got
    else { s with host := { s.host with netQ := replaceNet r [{ step with got := got }] s.host.netQ } }
  | some bs =>
    let rest : List NetReq := if r.left ≤ k then [] else [{ step with write := some (bs.drop k) }]
    let s := { s with host := { s.host with netQ := replaceNet r rest s.host.netQ } }
    if s.runState ≤ 1 ∧ n < 0x100 then s.netWrite b n (bs.take k) else s.hostErr 3 4 (r.addr)

/-- NET_STORE_SERVE (R282): gallery `g` serves one aligned 8-byte word. -/
def execNetStoreServe (g : Gal) (s : State) : Out :=
  if s.netPeriod g.val = false then .next s
  else match s.nextNet g.val with
  | none => .next s
  | some r => .next ((s.useBank (1024 + g.val)).serveNet r (min r.left (8 - r.off % 8)))

/-! Time-outs (R283). -/

/-- Has the answer to a host read that came in period `t` not come in 2 ms? -/
def State.overdue (s : State) (t : Nat) : Bool := Nat.ble (t + 3000000) s.sched.now

/-- Is it an overdue host read at `addr` that waits in the mesh? -/
def State.heldRead (s : State) (addr : BitVec 64) (h : Held) : Bool :=
  match h with
  | .bar0 a (.read _) t => a == addr && s.overdue t
  | _ => false

/-- Is it an overdue host read at `addr` of a bank? -/
def State.bankRead (s : State) (addr : Nat) (r : BankReq) : Bool :=
  match r.who with
  | .host a _ _ read t => a == addr && read && s.overdue t
  | _ => false

/-- Is it an overdue host read at `addr` of a net store? -/
def State.netRead (s : State) (addr : Nat) (r : NetReq) : Bool := r.addr == addr && r.write.isNone && s.overdue r.born

/-- The lengths of the overdue host reads at `addr`. -/
def State.overdueReads (s : State) (addr : BitVec 64) : List Nat :=
  (s.noc.waiting.filter (s.heldRead addr)).map (fun h => match h with | .bar0 _ op _ => opLen op | .pkt _ => 0) ++
  (s.mem.bankQ.filter (s.bankRead addr.toNat)).map (fun r => match r.who with | .host _ _ n _ _ => n | _ => 0) ++
  (s.host.netQ.filter (s.netRead addr.toNat)).map (fun r => r.got.length + r.left)

/-- NOC_RSP_TIMEOUT (R283): each host read at `addr` whose response has not come in 2 ms completes with Completer Abort;
nobody takes its response any more. -/
def execNocRspTimeout (addr : BitVec 64) (s : State) : Out :=
  let a := addr.toNat
  let late := s.overdueReads addr
  let t := { s with
    noc := { s.noc with waiting := s.noc.waiting.filter (fun h => !s.heldRead addr h) },
    mem := { s.mem with bankQ := s.mem.bankQ.map (fun r => if s.bankRead a r then { r with who := .noc false } else r) },
    host := { s.host with netQ := s.host.netQ.filter (fun r => !s.netRead a r) } }
  .next (late.foldl (fun s n => (s.abortRead a n).recordNoc 4 0x04 0x04) t)

/-! MSI-X and power states (R276, R285). -/

/-- May vector `v` send its message now? -/
def State.msixReady (s : State) (v : Nat) : Bool :=
  NMap.get dFalse s.host.msixPend v && !NMap.get dTrue s.host.msixMask v && s.host.msixEnable && !s.host.msixFnMask &&
    !s.host.d3hot

/-- Send the message of vector `v` and clear its pending bit. -/
def State.msixSend (s : State) (v : Nat) : State :=
  if s.msixReady v then
    { s with host := { s.host with
        sent := s.host.sent ++ [(v, NMap.get dZero64 s.host.msixAddr v, NMap.get dZero32 s.host.msixData v)],
        msixPend := NMap.set dFalse s.host.msixPend v false } }
  else s

/-- MSIX_SEND (R285). -/
def execMsixSend (v : Fin 256) (s : State) : Out := .next (s.msixSend v.val)

/-- D3HOT_EXIT (R276): BARs decode again, pending messages go, DMA channels resume HOST requests. -/
def execD3hotExit (s : State) : Out :=
  if s.host.d3hot = false then .next s
  else
    let s := { s with host := { s.host with d3hot := false } }
    .next ((List.range 256).foldl State.msixSend s).pumped

/-! Other ports (R409, R4). -/

/-- Does the SPI port reach the offset (R409)? -/
def spiReaches (o : Nat) : Bool :=
  o % 4 == 0 && ((Nat.ble 0x200000 o && Nat.blt o 0x400000) || (Nat.ble 0x50000 o && Nat.blt o 0x60000))

/-- SPI_TRANSACTION (R409): `cut` tells one cut short. A read that is discarded returns zero. -/
def execSpiTransaction (cmd : BitVec 8) (off : BitVec 24) (data : Word) (cut : Bool) (s : State) : Out :=
  let ok := spiReaches off.toNat && !cut
  if cmd = 0x03 then
    (if ok then let r := s.readReg off.toNat; .next (r.2.reply (.data [r.1])) else .next (s.reply (.data [0])))
  else if cmd = 0x02 then (if ok then .next (s.writeReg off.toNat data .lantern) else .next s)
  else .next s

/-! The configuration space (R274, R277, R284). PRESUMED (log 56): the registers' layout, as PCI Express has it. -/

/-- The AER bits that R284 lists: uncorrectable, correctable. -/
def uncBits : Word := 0x007FF010
/-- The correctable ones. -/
def corBits : Word := 0x0000D1C1

/-- Max Payload Size and Max Read Request Size keep their values on a write of a size that R274 does not list. -/
def State.devCtlOf (s : State) (w : Word) : Word :=
  let keep (hi lo top : Nat) (x : Word) : Word :=
    if bitsOf hi lo w.toNat ≤ top then x else Field.put ⟨hi, lo⟩ x (bitsOf hi lo s.host.cfg.devCtl.toNat)
  keep 14 12 5 (keep 7 5 2 w)

/-- The bits of BAR dword `n` that hold an address (R277). -/
def barMask (n : Nat) : Word := if n % 2 = 1 then -1 else if n = 0 then 0xFC000000 else if n = 2 then 0 else 0xFF000000

/-- The type bits of BAR dword `n`: 64-bit memory, prefetchable for BAR2 (R277). -/
def barType (n : Nat) : Word := if n % 2 = 1 then 0 else if n = 2 then 0xC else 0x4

/-- A write of a register of the configuration space. -/
def State.cfgWrite (s : State) (r : CfgReg) (w : Word) : State :=
  let c := s.host.cfg
  let c := match r with
    | .command => { c with command := w &&& 0x0546 }
    | .bar n => { c with bars := NMap.set dZero32 c.bars n.val (w &&& barMask n.val) }
    | .devCtl => { c with devCtl := s.devCtlOf w }
    | .uncStatus => { c with uncStatus := c.uncStatus &&& ~~~w }
    | .corStatus => { c with corStatus := c.corStatus &&& ~~~w }
    | .uncMask => { c with uncMask := w &&& uncBits }
    | .uncSeverity => { c with uncSeverity := w &&& uncBits }
    | .corMask => { c with corMask := w &&& corBits }
    | .aerCtl => { c with aerCtl := c.aerCtl &&& 0x1F ||| w &&& 0x140 }
    | .id | .revision | .subsystem | .interrupt | .devCap | .headerLog _ | .serial _ => c
  { s with host := { s.host with cfg := c } }

/-- What a register of the configuration space holds: identity, class code 0x120000 and revision, BARs, subsystem IDs, no
interrupt pin, Max Payload Size up to 512, ECRC generation and checking, the first 8 bytes of the serial number. -/
def State.cfgRead (s : State) (r : CfgReg) : Word :=
  let c := s.host.cfg
  match r with
  | .id => (0x0E65 : BitVec 16) ++ Config.vendorId
  | .command => c.command
  | .revision => BitVec.ofNat 32 (0x12000000 + s.part.stepping.revision)
  | .bar n => NMap.get dZero32 c.bars n.val ||| barType n.val
  | .subsystem => s.flash.subsystem
  | .interrupt => 0
  | .devCap => 2
  | .devCtl => c.devCtl
  | .uncStatus => c.uncStatus
  | .uncMask => c.uncMask
  | .uncSeverity => c.uncSeverity
  | .corStatus => c.corStatus
  | .corMask => c.corMask
  | .aerCtl => c.aerCtl ||| 0xA0
  | .headerLog n => c.headerLog.getD n.val 0
  | .serial n => BitVec.ofNat 32 (leNat ((s.part.serial.drop (4 * n.val)).take 4))

/-- The capabilities the endpoint has (R274) by their PCI Express numbers: those of the function, and the extended ones. -/
def pcieCaps : List Nat × List Nat :=
  ([0x01, 0x10, 0x11], [0x0001, 0x0003, 0x0019, 0x001F, 0x0025, 0x0026, 0x0027, 0x002A, 0x0031])

/-- REGISTER_WRITE (R4): a 32-bit write of a register by host software; of MSI-X control, MSI-X Enable (bit 15) and
Function Mask (bit 14); of the configuration space, where function 0 is the only one (R284). -/
def execRegisterWrite (t : RegTarget) (w : Word) (s : State) : Out :=
  match t with
  | .bar0 o => if o.toNat % 4 = 0 then .next (s.hostWrites32 o.toNat w) else .next s
  | .msixControl => .next { s with host := { s.host with msixEnable := w.getLsbD 15, msixFnMask := w.getLsbD 14 } }
  | .config fn r =>
    if fn = 0 then .next (s.cfgWrite r w)
    else .next ((s.aer .unsupported [0x44000001, BitVec.ofNat 32 (Config.freeNat s.freeCtr),
      BitVec.ofNat 32 (Config.freeNat (s.freeCtr + 1)), w]).reply .unsupported)

end Sys2Proof.Machine
end

