-- ==== Sys2Proof/Machine/Lattice.lean ====
section
/-! DEFINITION. Slot flits, link faults, the notices of a lattice and the lattice barrier (05, R138 to R153; 09, R264). -/

namespace Sys2Proof.Machine

/-! Slot flits (R142, R150, R152, R153). -/

/-- Does a cycle run whose values still land? -/
def State.landing (s : State) : Bool :=
  s.sched.phase == .steps || s.sched.phase == .t2 || s.sched.phase == .t3

/-- SLOT_FLIT (R142, R150, R153): a flit of the current tick lands and is forwarded; one of the next tick is
buffered; one further ahead is EARLY_OVF (6); TICKTAG of neither tick is TAG_STALE (3). `close` is the sender's
CLOSE step of the flit. -/
def execSlotFlit (p : PortNo) (ctx tag : Fin 8) (flit : Fin 64) (vals : BitVec 240) (close : Fin 1024) (s : State) : Out :=
  if s.receives p.val = false then .next s
  else
    let x : SlotFlit := ⟨p.val, ctx.val, tag.val, flit.val, (List.range 240).map (fun i => vals.getLsbD i)⟩
    let ahead := (tag.val + 8 - s.sched.nextTick.toNat % 8) % 8
    if ahead = 0 then .next { s with psg := { s.psg with early := s.psg.early ++ [(x, close.val)] } }
    else if ahead = 7 then (if s.landing then .next (s.takeFlit x close.val) else .next s)
    else if ahead ≤ 2 then .next ((s.recordPsg p.val 6 flit.val).recordPsg p.val 3 flit.val)
    else .next (s.recordPsg p.val 3 flit.val)

/-- LTC_LINK_TIMEOUT in force: values below 0x1000 act as 0x1000. -/
def State.linkTimeout (s : State) : Nat := Nat.max 0x1000 (s.reg R.LTC_LINK_TIMEOUT).toNat

/-- The entries that the words of the present step wait for. -/
def State.awaitedNow (s : State) : List (Nat × Nat) :=
  match s.decodeFetched (s.fetchStep false) with
  | some ws => ws.flatMap (fun w => (s.waitingEntries w.1 w.2.op).map (fun off => (w.1, off)))
  | none => []

/-- What a link timeout marks (R152): LINK_MISSING (5), TICK_MARKED (4) with the tick, FAULT to the lattice, and
the halt at the boundary after the tick. -/
def State.markTick (s : State) (p f : Nat) : State :=
  let s := (s.recordPsg p 5 f).recordLtc 4
  let s := s.setReg R.LTC_MARK_TICK (BitVec.ofNat 32 s.tick32)
  ({ s with psg := { s.psg with marked := true } }.floodFault s.sched.curTick).haltAtEnd

/-- The periods held before step `m` of the cycle; those of the present hold count as steps of the device's own step count
(R142). -/
def State.heldBefore (s : State) (m : Nat) : Nat :=
  (s.sched.holdsAt.filter (fun e => Nat.blt e.1 m && Nat.blt e.1 s.sched.step)).foldl (fun n e => n + e.2) 0

/-- LINK_TIMEOUT (R152): an expected flit is LTC_LINK_TIMEOUT periods overdue while an operand waits for it, or
T3 does. -/
def execLinkTimeout (p : PortNo) (flit : Fin 64) (close : Fin 1024) (s : State) : Out :=
  let held := s.fld (R.PSG_HELD p.val) F.PSG_HELD_HELD
  if s.sched.holdLen = 0 ∨ s.flitExpected p.val flit.val = false ∨ s.psg.got.contains (p.val, flit.val) ∨
     s.sched.now < s.sched.tickPeriod + close.val + held + s.heldBefore (close.val + held) + s.linkTimeout then .next s
  else match s.sched.phase with
    | .steps =>
      let w := s.awaitedNow
      if ((s.flitEntries p.val flit.val).any (fun e => w.contains e)) = false then .next s
      else .next ((s.endFlit p.val flit.val (fun e => w.contains e)).markTick p.val flit.val)
    | .t3 =>
      let s := s.endFlit p.val flit.val (fun e => !s.fab.ended.contains e)
      .next ({ s with psg := { s.psg with got := (p.val, flit.val) :: s.psg.got } }.markTick p.val flit.val)
    | _ => .next s

/-! The decision point (R146). -/

/-- The periods from now to the completion of T7 when nothing holds further. -/
def State.periodsLeft (s : State) : Nat :=
  match s.sched.phase with
  | .steps => s.schedLen - s.sched.step + 8
  | .t2 => 6
  | .t3 => 5
  | .t5 => 3
  | .between => 0

/-- DECISION_POINT (R146): MARGIN periods before the grid instant of the next tick, a device of a LOCKED lattice
projects the completion of T7; an overrun is taken, and HOLD or FAULT is flooded. -/
def execDecisionPoint (s : State) : Out :=
  let t := s.sched.nextTick
  if s.inLattice = false ∨ s.locked = false ∨ s.sched.running = false ∨ s.sched.phase = .between ∨
     s.psg.decided = some t ∨ s.missesGrid s.margin = false then .next s
  else
    let s := { s with psg := { s.psg with decided := some t } }
    if s.missesGrid (s.periodsLeft - 1) = false ∨ s.sched.overrun then .next s
    else if s.bit R.SCHED_TICK_CFG F.SCHED_TICK_CFG_POLICY then .next (s.takeOverrun.floodFault s.sched.curTick)
    else
      let s := s.takeOverrun.flood (s.latFlit 2 t)
      .next { s with psg := { s.psg with holdsSent := t :: s.psg.holdsSent, holds := (s.devNum, t) :: s.psg.holds } }

/-! Notices (R146 to R151). -/

/-- A notice on a port of a lattice device that takes what comes. -/
def State.hears (s : State) (p : Nat) : Bool := s.inLattice && s.receives p

/-- LATTICE_DONE (R150). -/
def execLatticeDone (p : PortNo) (tick : BitVec 64) (s : State) : Out :=
  if s.hears p.val = false ∨ s.psg.doneFrom.contains (p.val, tick) then .next s
  else .next { s with psg := { s.psg with doneFrom := (p.val, tick) :: s.psg.doneFrom } }

/-- A notice as it goes on: its origin's, its tick, its time. -/
def relayed (sub : Nat) (origin : Fin 512) (tick : BitVec 64) (time low : Nat) : LatFlit := ⟨sub, origin.val, tick, time, low⟩

/-- Has tick `t` begun? -/
def State.begun (s : State) (t : BitVec 64) : Bool := t.ult s.sched.nextTick

/-- A HALT_BEFORE of origin `d` names tick `t` (R264): a start of `t` that has not begun is off; a running device halts before
`t` and reports then; a halted one reports whether `t` is its next tick. -/
def State.holdBefore (s : State) (d : Nat) (t : BitVec 64) : State :=
  if s.psg.startAt.isSome ∧ s.sched.nextTick = t then s.stopStart
  else if s.sched.running then { s with psg := { s.psg with holdFrom := some (d, t) } }.stopBefore t
  else s.reportTo d (if s.sched.nextTick = t then 0 else 0x28)

/-- LATTICE_HOLD (R146 to R148, R264): the notice goes on once; it stretches the named tick, or with HALT_BEFORE
halts the device before it. A HOLD of a tick that has begun is a late overrun. -/
def execLatticeHold (p : PortNo) (origin : Fin 512) (tick : BitVec 64) (time : BitVec 48) (halt : Bool) (s : State) : Out :=
  if s.hears p.val = false ∨ s.heard (relayed 2 origin tick time.toNat (natOfBool halt)) then .next s
  else
    let s := s.flood (relayed 2 origin tick time.toNat (natOfBool halt)) (some p.val)
    if s.sched.running && s.begun tick then .next (s.lateOverrun s.sched.curTick)
    else if halt then .next (s.holdBefore origin.val tick)
    else .next { s with psg := { s.psg with holds := (origin.val, tick) :: s.psg.holds } }

/-- A halted device starts at lattice time `g` (R264). -/
def State.startAtTime (s : State) (g : Nat) : State :=
  let s := s.goRunning
  { s with psg := { s.psg with startAt := some g }, sched := { s.sched with nextGrid := g } }

/-- LATTICE_RELEASE (R147, R264): the start time of a held tick; on a halted device that has no HOLD of that
origin and tick it is the start of a RUN_FROM, and the device reports. -/
def execLatticeRelease (p : PortNo) (origin : Fin 512) (tick : BitVec 64) (time : BitVec 48) (s : State) : Out :=
  if s.hears p.val = false ∨ s.heard (relayed 3 origin tick time.toNat 0) then .next s
  else
    let s := s.flood (relayed 3 origin tick time.toNat 0) (some p.val)
    let g := s.dtcNear time.toNat
    if s.sched.running = false ∧ s.hasImage ∧ s.psg.holds.contains (origin.val, tick) = false then
      if s.sched.nextTick = tick then .next ((s.startAtTime g).reportTo origin.val 0)
      else .next (s.reportTo origin.val 0x28)
    else .next { s with psg := { s.psg with releases := (origin.val, tick, g) :: s.psg.releases } }

/-- LATTICE_FAULT (R146 to R148, R152): the notice goes on once; the device halts at the boundary after the named
tick with PEER_FAULT (2). DEDUCED (log 52): it is late when the tick after the named one has begun, since a FAULT names the
tick in progress (R146, R152). -/
def execLatticeFault (p : PortNo) (origin : Fin 512) (tick : BitVec 64) (time : BitVec 48) (s : State) : Out :=
  if s.hears p.val = false ∨ s.heard (relayed 4 origin tick time.toNat 0) then .next s
  else
    let s := s.flood (relayed 4 origin tick time.toNat 0) (some p.val)
    if s.sched.running = false then .next s
    else
      let s := s.recordLtc 2
      if s.begun (tick + 1) then .next (s.lateOverrun s.sched.curTick) else .next (s.stopBefore (tick + 1))

/-- Credit of one VC comes back (R154): more than is outstanding is PROTO_ERR (9). -/
def State.creditBack (s : State) (p vc n : Nat) : State :=
  let u := NMap.get dZero s.psg.creditUsed (p * 4 + vc)
  let s := { s with psg := { s.psg with creditUsed := NMap.set dZero s.psg.creditUsed (p * 4 + vc) (u - n) } }
  if u < n then s.recordPsg p 9 else s

/-- LATTICE_CREDIT (R130, R154). -/
def execLatticeCredit (p : PortNo) (w : Word) (s : State) : Out :=
  if s.receives p.val = false then .next s
  else .next ((List.range 4).foldl (fun s v => s.creditBack p.val v (bitsOf (8 * v + 7) (8 * v) w.toNat)) s).drained

/-! Barrier timeout (R151). -/

/-- LTC_BARRIER_TIMEOUT in force. -/
def State.barrierTimeout (s : State) : Nat := Nat.max 0x1000 (s.reg R.LTC_BARRIER_TIMEOUT).toNat

/-- The ports a tick waits for: without DONE in FREE mode; toward the holders without RELEASE in LOCKED mode, those with
a route (DEDUCED, log 52: the port toward a holder is its route's). -/
def State.silentPorts (s : State) : List Nat :=
  let t := s.sched.nextTick
  if s.free then s.imagePorts.filter (fun p => !s.psg.doneFrom.any (fun d => d.1 == p && d.2 + 1 == t))
  else ((s.holdersOf t).filter (fun d => !s.psg.releases.any (fun r => r.1 == d && r.2.1 == t))).filterMap s.routePort

/-- PSG_ERR_LOC names a silent port. Its CODE is a PSG_ERR bit number, and no bit belongs to this condition: a
free value. -/
def State.nameSilent (s : State) (p : Nat) : State :=
  let o := R.PSG_ERR_LOC p
  if s.bit o F.PSG_ERR_LOC_VALID then s
  else
    let c := s.freeVal 4
    (((s.used.setReg o 0).put o F.PSG_ERR_LOC_CODE c).put o F.PSG_ERR_LOC_TICK s.sched.nextTick.toNat).raise o F.PSG_ERR_LOC_VALID

/-- BARRIER_TIMEOUT (R151): the wait for DONE or RELEASE has lasted LTC_BARRIER_TIMEOUT periods; the device
floods FAULT naming the tick it waits to begin and halts before it. -/
def execBarrierTimeout (s : State) : Out :=
  if s.inLattice = false ∨ s.sched.running = false ∨ s.sched.phase ≠ .between ∨ s.awaitsNotice = false ∨
     s.psg.barrierWait < s.barrierTimeout then .next s
  else
    let ps := s.silentPorts
    .next ((ps.foldl State.nameSilent (s.recordLtc 1)).floodFault s.sched.nextTick).haltNow

/-! LATTICE_BARRIER (R264). -/

/-- What LATTICE_BARRIER needs (R269). -/
def State.barrierNeeds (s : State) : List Nat := timeBit :: s.imagePorts.map portBit

/-- The command is this device's barrier. -/
def State.ownBarrier (s : State) (c : CmdId) (run : Bool) : State :=
  { s with psg := { s.psg with origin := some c, reports := [], barrierSince := s.sched.now, barrierRun := run } }

/-- RUN_FROM (R264): the halted lattice starts tick T at the origin's lattice time plus MARGIN periods. -/
def execRunFrom (h : Hdr) (s : State) : Out :=
  s.command (cls := .long) h (.runFrom h) true s.barrierNeeds (fun c s =>
    match h.target with
    | none => s.complete c 2
    | some t =>
      if s.hasImage = false then s.complete c 6
      else if s.psg.origin.isSome then s.complete c 4
      else if t.ult s.sched.nextTick then s.complete c 5
      else if s.isRunning ∨ t ≠ s.sched.nextTick then s.complete c 0x28
      else
        let s := (s.ownBarrier c true).startLattice
        s.reportTo s.devNum 0)

/-- The ticks D + 2 of R239: those that pass in MARGIN periods, which stand for the diameter times the largest
HELD_p (R149), and 2 µs. A LOCKED tick lasts its period, a FREE one its schedule and turnover at least. -/
def State.noticeTicks (s : State) : Nat :=
  let n := s.margin + 3000
  let p := if s.free then s.schedLen + 8 else s.period * 3 / 2 ^ 33
  (n + p - 1) / (if p = 0 then 1 else p) + 2

/-- HALT_BEFORE (R264): HOLD naming T halts every device at T5 of cycle T - 1. -/
def execHaltBefore (h : Hdr) (s : State) : Out :=
  s.command (cls := .long) h (.haltBefore h) true s.barrierNeeds (fun c s =>
    match h.target with
    | none => s.complete c 2
    | some t =>
      if s.hasImage = false then s.complete c 6
      else if s.psg.origin.isSome then s.complete c 4
      else if t.ult s.sched.nextTick ∨ (s.isRunning ∧ t.toNat < s.sched.curTick.toNat + s.noticeTicks) then s.complete c 5
      else
        let s := (s.ownBarrier c false).flood (s.latFlit 2 t 1)
        s.holdBefore s.devNum t)

/-- BARRIER_REPORT (R264): a device reports to this origin. -/
def execBarrierReport (dev : Fin 512) (reason : BitVec 8) (s : State) : Out :=
  if s.psg.origin.isNone ∨ s.psg.reports.any (fun r => r.1 == dev.val) then .next s
  else .next { s with psg := { s.psg with reports := s.psg.reports ++ [(dev.val, reason.toNat)] } }.judgeBarrier

/-- LATTICE_BARRIER_TIMEOUT (R264): 2 s without every report. -/
def execLatticeBarrierTimeout (s : State) : Out :=
  if s.psg.origin.isNone ∨ s.sched.now < s.psg.barrierSince + 3000000000 then .next s else .next (s.endBarrier 0x29)

end Sys2Proof.Machine
end

