-- ==== Sys2Proof/Machine/Noc.lean ====
section
/-! DEFINITION. The Control NoC as commands: packets, the tunnel, router barriers, counters (10, R287 to R297; 05,
R154). -/

namespace Sys2Proof.Machine

/-! Packets (R154, R287, R289). -/

/-- A packet that no route takes on, met at port `port` (R154): a request is answered NO_ROUTE, a posted write is
dropped, counted and recorded as HOP_LIMIT (10). -/
def State.noRoute (s : State) (port : Nat) (p : NocPkt) : State :=
  match p.kind with
  | .posted => (s.bump (R.PSG_TUNNEL_DROP port) F.PSG_TUNNEL_DROP_COUNT).recordPsg port 10
  | .read | .write | .atomic => s.answerPkt p 0x0A []
  | _ => s

/-- Is the header bad (R289)? -/
def badHeader (p : NocPkt) : Bool := p.kind == .reserved || Nat.blt 8 p.len.val

/-- NOC_PACKET (R287, R289, R154): a packet injected at its source node. A packet to another device leaves by the port
of its route with TTL 16; without one, the port at which a dropped write counts is free. -/
def execNocPacket (p : NocPkt) (s : State) : Out :=
  if badHeader p then .next (s.recordNoc 3 p.src.toNat p.src.toNat)
  else if p.remote ∧ p.destDev.val ≠ s.devNum then
    match s.routePort p.destDev.val with
    | some port => .next (s.tunnel port 16 p)
    | none => .next (s.used.noRoute (s.freeVal 4) p)
  else .next (s.arrive (.pkt p))

/-- NOC_TUNNEL_PACKET (R154): a packet comes from the device at port `port`. -/
def execNocTunnelPacket (port : PortNo) (ttl : BitVec 8) (p : NocPkt) (s : State) : Out :=
  if s.receives port.val = false then .next s
  else
    let s := s.giveCredit port.val p
    if badHeader p then .next (s.recordNoc 3 p.src.toNat p.src.toNat)
    else if p.destDev.val = s.devNum then .next (s.arrive (.pkt p))
    else if ttl.toNat ≤ 1 then .next (s.noRoute port.val p)
    else match s.routePort p.destDev.val with
      | some q => .next (s.tunnel q (ttl.toNat - 1) p)
      | none => .next (s.noRoute port.val p)

/-! Router barriers (R294, R295). -/

/-- NOC_APPLY (R294, R295): a write of NOC_CTL with APPLY. -/
def execNocApply (compat : Bool) (s : State) : Out := .next (s.writeNocCtl (BitVec.ofNat 32 (2 + natOfBool compat)))

/-- A credit in force: 0 acts as 1, above 16 as 16. -/
def creditOf (n : Nat) : Nat := if n = 0 then 1 else if 16 < n then 16 else n

/-- NOC_CREDIT as it acts. -/
def creditsOf (w : Word) : Word :=
  BitVec.ofNat 32 ((List.range 4).foldl (fun v i => v + creditOf (bitsOf (8 * i + 7) (8 * i) w.toNat) * 2 ^ (8 * i)) 0)

/-- ROUTER_BARRIER_END (R294): the last router has applied COMPAT and NOC_CREDIT. -/
def execRouterBarrierEnd (s : State) : Out :=
  if s.barrierBusy = false then .next s
  else
    let since := if s.bit R.NOC_STATUS F.NOC_STATUS_COMPAT_ACTIVE then s.noc.compatSince else s.sched.now
    let s := s.put R.NOC_STATUS F.NOC_STATUS_COMPAT_ACTIVE (s.fld R.NOC_CTL F.NOC_CTL_COMPAT)
    let s := s.put R.NOC_STATUS F.NOC_STATUS_BARRIER_BUSY 0
    .next { s with noc := { s.noc with creditActive := creditsOf (s.reg R.NOC_CREDIT), barrierSince := none, compatSince := since } }

/-- NOC_BARRIER_LIMIT in force. -/
def State.barrierLimit (s : State) : Nat := Nat.max 0x400 (s.reg R.NOC_BARRIER_LIMIT).toNat

/-- NOC_BARRIER_SLOW (R295): the router of `node` records that its barrier has not ended; no packet belongs to the
condition, so SRC is free. -/
def execNocBarrierSlow (node : BitVec 8) (s : State) : Out :=
  match s.noc.barrierSince with
  | none => .next s
  | some t => if s.sched.now < t + s.barrierLimit then .next s else .next (s.used.recordNoc 1 node.toNat (s.freeVal 8))

/-- NOC_RSP_STALL (R293): in compatibility mode, which has lasted at least so long, VC1 at (0,5) has stayed blocked for
NOC_STALL_LIMIT periods behind a packet of `src`. -/
def execNocRspStall (src : BitVec 8) (s : State) : Out :=
  if s.bit R.NOC_STATUS F.NOC_STATUS_COMPAT_ACTIVE ∧ s.noc.compatSince + (s.reg R.NOC_STALL_LIMIT).toNat ≤ s.sched.now then
    .next (s.recordNoc 0 0x05 src.toNat)
  else .next s

/-! Counters. -/

/-- NOC_NOEP_DROP_CLEAR (R10). -/
def execNocNoepDropClear (s : State) : Out := .next (s.setReg R.NOC_NOEP_DROP 0)

/-- NOC_OFF_COUNT_CLEAR (R296). -/
def execNocOffCountClear (g : Gal) (s : State) : Out := .next (s.setReg (R.NOC_OFF_COUNT g.val) 0)

end Sys2Proof.Machine
end

