-- ==== Sys2Proof/Machine/Dispatch.lean ====
section
/-! DEFINITION. The dispatch: one arm per command of spec/opcode_table.json. -/

namespace Sys2Proof.Machine

def exec (i : Instr) (s : State) : Host.Outcome State Fault Refusal :=
  match i with
  | .tick => Sys2Proof.Machine.execTick s
  | .stepIssue => Sys2Proof.Machine.execStepIssue s
  | .nop b m => Sys2Proof.Machine.execNop b m s
  | .eval b fn x y z u m => Sys2Proof.Machine.execEval b fn x y z u m s
  | .evalx b fn x y z u m => Sys2Proof.Machine.execEvalx b fn x y z u m s
  | .resolve b start pull act x y drv1 m => Sys2Proof.Machine.execResolve b start pull act x y drv1 m s
  | .maddr b fn x y z u m => Sys2Proof.Machine.execMaddr b fn x y z u m s
  | .mwdat b fn x y z u m => Sys2Proof.Machine.execMwdat b fn x y z u m s
  | .mrd b en m => Sys2Proof.Machine.execMrd b en m s
  | .mwr b mask en m => Sys2Proof.Machine.execMwr b mask en m s
  | .matom b swap en m => Sys2Proof.Machine.execMatom b swap en m s
  | .mdeeprd b en m => Sys2Proof.Machine.execMdeeprd b en m s
  | .mdeepwr b mask en m => Sys2Proof.Machine.execMdeepwr b mask en m s
  | .deepWriteAccept c => Sys2Proof.Machine.execDeepWriteAccept c s
  | .pinin b pin m => Sys2Proof.Machine.execPinin b pin m s
  | .pinout b pin x m => Sys2Proof.Machine.execPinout b pin x m s
  | .assert b act x m => Sys2Proof.Machine.execAssert b act x m s
  | .trig b leaf x m => Sys2Proof.Machine.execTrig b leaf x m s
  | .sync b bar m => Sys2Proof.Machine.execSync b bar m s
  | .const b sel m => Sys2Proof.Machine.execConst b sel m s
  | .arrival b port step x => Sys2Proof.Machine.execArrival b port step x s
  | .holdLimit => Sys2Proof.Machine.execHoldLimit s
  | .turnover => Sys2Proof.Machine.execTurnover s
  | .echoRecordClose => Sys2Proof.Machine.execEchoRecordClose s
  | .echoRecordWritten => Sys2Proof.Machine.execEchoRecordWritten s
  | .generationFlip => Sys2Proof.Machine.execGenerationFlip s
  | .overrun => Sys2Proof.Machine.execOverrun s
  | .haltAtBoundary => Sys2Proof.Machine.execHaltAtBoundary s
  | .contextSwitch => Sys2Proof.Machine.execContextSwitch s
  | .tickConfigApply => Sys2Proof.Machine.execTickConfigApply s
  | .sequencerStageComplete => Sys2Proof.Machine.execSequencerStageComplete s
  | .windowDone => Sys2Proof.Machine.execWindowDone s
  | .forceApply => Sys2Proof.Machine.execForceApply s
  | .releaseApply => Sys2Proof.Machine.execReleaseApply s
  | .snapshotTake => Sys2Proof.Machine.execSnapshotTake s
  | .snapshotShadowEnd => Sys2Proof.Machine.execSnapshotShadowEnd s
  | .snapshotCopyEnd => Sys2Proof.Machine.execSnapshotCopyEnd s
  | .snapDone => Sys2Proof.Machine.execSnapDone s
  | .snapshotAbort => Sys2Proof.Machine.execSnapshotAbort s
  | .restoreApply => Sys2Proof.Machine.execRestoreApply s
  | .pinWordSend retries => Sys2Proof.Machine.execPinWordSend retries s
  | .pinWordApply late => Sys2Proof.Machine.execPinWordApply late s
  | .tickStrobe => Sys2Proof.Machine.execTickStrobe s
  | .inputWordSample => Sys2Proof.Machine.execInputWordSample s
  | .inputWordComplete dropped => Sys2Proof.Machine.execInputWordComplete dropped s
  | .wireContention b w => Sys2Proof.Machine.execWireContention b w s
  | .scrubPass x => Sys2Proof.Machine.execScrubPass x s
  | .scrubStall => Sys2Proof.Machine.execScrubStall s
  | .oscLock k => Sys2Proof.Machine.execOscLock k s
  | .fabricFlashRead => Sys2Proof.Machine.execFabricFlashRead s
  | .flashDataValid => Sys2Proof.Machine.execFlashDataValid s
  | .uflProgram => Sys2Proof.Machine.execUflProgram s
  | .uflErase => Sys2Proof.Machine.execUflErase s
  | .uflOpEnd => Sys2Proof.Machine.execUflOpEnd s
  | .spDataWrite p b => Sys2Proof.Machine.execSpDataWrite p b s
  | .spDataRead p => Sys2Proof.Machine.execSpDataRead p s
  | .serialByteReceive p b => Sys2Proof.Machine.execSerialByteReceive p b s
  | .swReset r v => Sys2Proof.Machine.execSwReset r v s
  | .imageStage h src len b14 s14 b15 s15 => Sys2Proof.Machine.execImageStage h src len b14 s14 b15 s15 s
  | .headerArrival bs => Sys2Proof.Machine.execHeaderArrival bs s
  | .stageSpaceCheck bs => Sys2Proof.Machine.execStageSpaceCheck bs s
  | .stageEnd bs => Sys2Proof.Machine.execStageEnd bs s
  | .stageTimeout => Sys2Proof.Machine.execStageTimeout s
  | .imageBurst p off bs => Sys2Proof.Machine.execImageBurst p off bs s
  | .imageVerify h => Sys2Proof.Machine.execImageVerify h s
  | .verifyEnd golden => Sys2Proof.Machine.execVerifyEnd golden s
  | .chainResult pos reason loc => Sys2Proof.Machine.execChainResult pos reason loc s
  | .chainTimeout => Sys2Proof.Machine.execChainTimeout s
  | .imageCommit h resume => Sys2Proof.Machine.execImageCommit h resume s
  | .latticeCommit h resume => Sys2Proof.Machine.execLatticeCommit h resume s
  | .commitApply => Sys2Proof.Machine.execCommitApply s
  | .commitEnd => Sys2Proof.Machine.execCommitEnd s
  | .commitAt p origin t digest resume => Sys2Proof.Machine.execCommitAt p origin t digest resume s
  | .commitReport pos reason => Sys2Proof.Machine.execCommitReport pos reason s
  | .regionReload h join => Sys2Proof.Machine.execRegionReload h join s
  | .reloadIsolate => Sys2Proof.Machine.execReloadIsolate s
  | .reloadWriteEnd => Sys2Proof.Machine.execReloadWriteEnd s
  | .regionJoin => Sys2Proof.Machine.execRegionJoin s
  | .mbxSqTailWrite q v => Sys2Proof.Machine.execMbxSqTailWrite q v s
  | .mbxCqHeadWrite q v => Sys2Proof.Machine.execMbxCqHeadWrite q v s
  | .queueEnable q size vector => Sys2Proof.Machine.execQueueEnable q size vector s
  | .queueDisable q size vector => Sys2Proof.Machine.execQueueDisable q size vector s
  | .commandFetch q e => Sys2Proof.Machine.execCommandFetch q e s
  | .progressEntry h done total => Sys2Proof.Machine.execProgressEntry h done total s
  | .cmdDeadline q => Sys2Proof.Machine.execCmdDeadline q s
  | .coreFault k => Sys2Proof.Machine.execCoreFault k s
  | .remoteCommand h e bytes fault ans back => Sys2Proof.Machine.execRemoteCommand h e bytes fault ans back s
  | .getInfo h buf => Sys2Proof.Machine.execGetInfo h buf s
  | .getReady h mask ms => Sys2Proof.Machine.execGetReady h mask ms s
  | .getReadyComplete => Sys2Proof.Machine.execGetReadyComplete s
  | .getReadyTimeout => Sys2Proof.Machine.execGetReadyTimeout s
  | .run h => Sys2Proof.Machine.execRun h s
  | .halt h cancel => Sys2Proof.Machine.execHalt h cancel s
  | .step h cycles => Sys2Proof.Machine.execStep h cycles s
  | .setTick h mode policy realign source ns frac => Sys2Proof.Machine.execSetTick h mode policy realign source ns frac s
  | .selectContext h ctx => Sys2Proof.Machine.execSelectContext h ctx s
  | .force h n => Sys2Proof.Machine.execForce h n s
  | .release h n => Sys2Proof.Machine.execRelease h n s
  | .deposit h n => Sys2Proof.Machine.execDeposit h n s
  | .stateDeposit h n => Sys2Proof.Machine.execStateDeposit h n s
  | .peek h n buf => Sys2Proof.Machine.execPeek h n buf s
  | .memRead h space addr buf => Sys2Proof.Machine.execMemRead h space addr buf s
  | .memWrite h space addr buf => Sys2Proof.Machine.execMemWrite h space addr buf s
  | .memAtomic h space addr op d => Sys2Proof.Machine.execMemAtomic h space addr op d s
  | .echoArm h buf => Sys2Proof.Machine.execEchoArm h buf s
  | .echoArmApply => Sys2Proof.Machine.execEchoArmApply s
  | .echoDisarm h => Sys2Proof.Machine.execEchoDisarm h s
  | .echoRead h off consume buf => Sys2Proof.Machine.execEchoRead h off consume buf s
  | .echoTrigger h fire => Sys2Proof.Machine.execEchoTrigger h fire s
  | .snapshot h slot => Sys2Proof.Machine.execSnapshot h slot s
  | .restore h addr resume => Sys2Proof.Machine.execRestore h addr resume s
  | .latticeTrain h ports width => Sys2Proof.Machine.execLatticeTrain h ports width s
  | .latticeMap h buf => Sys2Proof.Machine.execLatticeMap h buf s
  | .runFrom h => Sys2Proof.Machine.execRunFrom h s
  | .haltBefore h => Sys2Proof.Machine.execHaltBefore h s
  | .barrierReport dev reason => Sys2Proof.Machine.execBarrierReport dev reason s
  | .fwUpdate h slot flags buf readBack => Sys2Proof.Machine.execFwUpdate h slot flags buf readBack s
  | .attest h nonce buf => Sys2Proof.Machine.execAttest h nonce buf s
  | .logRead h start count buf => Sys2Proof.Machine.execLogRead h start count buf s
  | .injectStatus h det unit => Sys2Proof.Machine.execInjectStatus h det unit s
  | .injectFault h det unit => Sys2Proof.Machine.execInjectFault h det unit s
  | .fuseSvn h index buf => Sys2Proof.Machine.execFuseSvn h index buf s
  | .ownerProgram h index buf => Sys2Proof.Machine.execOwnerProgram h index buf s
  | .ownerRevoke h index buf => Sys2Proof.Machine.execOwnerRevoke h index buf s
  | .bedrockSelect h index buf => Sys2Proof.Machine.execBedrockSelect h index buf s
  | .laneReversal h index buf => Sys2Proof.Machine.execLaneReversal h index buf s
  | .debugLock h index buf => Sys2Proof.Machine.execDebugLock h index buf s
  | .storeKek h index buf => Sys2Proof.Machine.execStoreKek h index buf s
  | .powerOn vbat => Sys2Proof.Machine.execPowerOn vbat s
  | .deviceReset cause => Sys2Proof.Machine.execDeviceReset cause s
  | .hostReset cause => Sys2Proof.Machine.execHostReset cause s
  | .perstDeassert => Sys2Proof.Machine.execPerstDeassert s
  | .lntPgoodRise => Sys2Proof.Machine.execLntPgoodRise s
  | .d2dTrain ok => Sys2Proof.Machine.execD2dTrain ok s
  | .dsClear n => Sys2Proof.Machine.execDsClear n s
  | .startupMarchEnd g found => Sys2Proof.Machine.execStartupMarchEnd g found s
  | .marchStart g w => Sys2Proof.Machine.execMarchStart g w s
  | .marchEnd g found => Sys2Proof.Machine.execMarchEnd g found s
  | .bankRequest g word ops posted => Sys2Proof.Machine.execBankRequest g word ops posted s
  | .bankAtomic g word swap d => Sys2Proof.Machine.execBankAtomic g word swap d s
  | .bankServe c => Sys2Proof.Machine.execBankServe c s
  | .stealTimeout g => Sys2Proof.Machine.execStealTimeout g s
  | .dripScrub t endOfPass => Sys2Proof.Machine.execDripScrub t endOfPass s
  | .dripWriteBack t => Sys2Proof.Machine.execDripWriteBack t s
  | .dsBurst block write waiting crcFails => Sys2Proof.Machine.execDsBurst block write waiting crcFails s
  | .psgTrain p w => Sys2Proof.Machine.execPsgTrain p w s
  | .psgDown p w => Sys2Proof.Machine.execPsgDown p w s
  | .laneEqualised p k => Sys2Proof.Machine.execLaneEqualised p k s
  | .blockLock p => Sys2Proof.Machine.execBlockLock p s
  | .latencyMeasured p dmax mean rtt => Sys2Proof.Machine.execLatencyMeasured p dmax mean rtt s
  | .portTrained p => Sys2Proof.Machine.execPortTrained p s
  | .trainingFail p => Sys2Proof.Machine.execTrainingFail p s
  | .laneFail p k => Sys2Proof.Machine.execLaneFail p k s
  | .blockReceive p b => Sys2Proof.Machine.execBlockReceive p b s
  | .retryTimeout p => Sys2Proof.Machine.execRetryTimeout p s
  | .slotFlit p ctx tag flit vals close => Sys2Proof.Machine.execSlotFlit p ctx tag flit vals close s
  | .linkTimeout p flit close => Sys2Proof.Machine.execLinkTimeout p flit close s
  | .decisionPoint => Sys2Proof.Machine.execDecisionPoint s
  | .latticeDone p tick => Sys2Proof.Machine.execLatticeDone p tick s
  | .latticeHold p origin tick time halt => Sys2Proof.Machine.execLatticeHold p origin tick time halt s
  | .latticeRelease p origin tick time => Sys2Proof.Machine.execLatticeRelease p origin tick time s
  | .latticeFault p origin tick time => Sys2Proof.Machine.execLatticeFault p origin tick time s
  | .latticeCredit p w => Sys2Proof.Machine.execLatticeCredit p w s
  | .latticeIdent p x own => Sys2Proof.Machine.execLatticeIdent p x own s
  | .barrierTimeout => Sys2Proof.Machine.execBarrierTimeout s
  | .nocTunnelPacket port ttl p => Sys2Proof.Machine.execNocTunnelPacket port ttl p s
  | .timeFlitSend => Sys2Proof.Machine.execTimeFlitSend s
  | .timeFlit p f resid => Sys2Proof.Machine.execTimeFlit p f resid s
  | .ptmDialog master delay => Sys2Proof.Machine.execPtmDialog master delay s
  | .holdover => Sys2Proof.Machine.execHoldover s
  | .dtcWrap => Sys2Proof.Machine.execDtcWrap s
  | .tbNowNsRead => Sys2Proof.Machine.execTbNowNsRead s
  | .tbIncrWrite by' w => Sys2Proof.Machine.execTbIncrWrite by' w s
  | .tbStepWrite by' w => Sys2Proof.Machine.execTbStepWrite by' w s
  | .tbSlewWrite by' w => Sys2Proof.Machine.execTbSlewWrite by' w s
  | .slewEnd => Sys2Proof.Machine.execSlewEnd s
  | .tbCfgWrite w => Sys2Proof.Machine.execTbCfgWrite w s
  | .tcForward e m resid => Sys2Proof.Machine.execTcForward e m resid s
  | .ptpMessage e m sample => Sys2Proof.Machine.execPtpMessage e m sample s
  | .ethLinkChange e up => Sys2Proof.Machine.execEthLinkChange e up s
  | .nocPacket p => Sys2Proof.Machine.execNocPacket p s
  | .nocApply compat => Sys2Proof.Machine.execNocApply compat s
  | .routerBarrierEnd => Sys2Proof.Machine.execRouterBarrierEnd s
  | .nocBarrierSlow node => Sys2Proof.Machine.execNocBarrierSlow node s
  | .nocRspStall src => Sys2Proof.Machine.execNocRspStall src s
  | .nocRspTimeout addr => Sys2Proof.Machine.execNocRspTimeout addr s
  | .bar0Access addr op st => Sys2Proof.Machine.execBar0Access addr op st s
  | .bar2Access addr op st => Sys2Proof.Machine.execBar2Access addr op st s
  | .bar2BaseWrite w => Sys2Proof.Machine.execBar2BaseWrite w s
  | .bar4Access addr op st => Sys2Proof.Machine.execBar4Access addr op st s
  | .netStoreServe g => Sys2Proof.Machine.execNetStoreServe g s
  | .bar4SelWrite a w => Sys2Proof.Machine.execBar4SelWrite a w s
  | .msixSend v => Sys2Proof.Machine.execMsixSend v s
  | .d3hotEntry => Sys2Proof.Machine.execD3hotEntry s
  | .pcieLinkUp width rate partnerReversed => Sys2Proof.Machine.execPcieLinkUp width rate partnerReversed s
  | .kick n => Sys2Proof.Machine.execKick n s
  | .dmaHalt n => Sys2Proof.Machine.execDmaHalt n s
  | .abort n => Sys2Proof.Machine.execAbort n s
  | .dmaResume n => Sys2Proof.Machine.execDmaResume n s
  | .channelEnable n w => Sys2Proof.Machine.execChannelEnable n w s
  | .dmaHeadWrite n idx => Sys2Proof.Machine.execDmaHeadWrite n idx s
  | .descriptorFetch n r => Sys2Proof.Machine.execDescriptorFetch n r s
  | .descriptorStart n w => Sys2Proof.Machine.execDescriptorStart n w s
  | .dmaReadCompletion n off r => Sys2Proof.Machine.execDmaReadCompletion n off r s
  | .dmaWriteResponse n off st => Sys2Proof.Machine.execDmaWriteResponse n off st s
  | .readBack n st w => Sys2Proof.Machine.execReadBack n st w s
  | .channelHalt n w => Sys2Proof.Machine.execChannelHalt n w s
  | .sourceEvent n level => Sys2Proof.Machine.execSourceEvent n level s
  | .cicClaim ts => Sys2Proof.Machine.execCicClaim ts s
  | .hostForward => Sys2Proof.Machine.execHostForward s
  | .cicComplete t id host => Sys2Proof.Machine.execCicComplete t id host s
  | .cicSwSet k w => Sys2Proof.Machine.execCicSwSet k w s
  | .cicSrcWrite n w => Sys2Proof.Machine.execCicSrcWrite n w s
  | .wardenSourcePend g idx => Sys2Proof.Machine.execWardenSourcePend g idx s
  | .normalEntry g => Sys2Proof.Machine.execNormalEntry g s
  | .fastEntry g => Sys2Proof.Machine.execFastEntry g s
  | .normalExit g => Sys2Proof.Machine.execNormalExit g s
  | .fastExit g => Sys2Proof.Machine.execFastExit g s
  | .wardenTimer g => Sys2Proof.Machine.execWardenTimer g s
  | .softSet g w => Sys2Proof.Machine.execSoftSet g w s
  | .galleryPowerRequest k w => Sys2Proof.Machine.execGalleryPowerRequest k w s
  | .galleryIdle g => Sys2Proof.Machine.execGalleryIdle g s
  | .galleryOn g => Sys2Proof.Machine.execGalleryOn g s
  | .galleryPowerDown g => Sys2Proof.Machine.execGalleryPowerDown g s
  | .galleryWake g => Sys2Proof.Machine.execGalleryWake g s
  | .wakeClearEnd g found => Sys2Proof.Machine.execWakeClearEnd g found s
  | .bootRom => Sys2Proof.Machine.execBootRom s
  | .watchdogExpiry => Sys2Proof.Machine.execWatchdogExpiry s
  | .failureCountClear => Sys2Proof.Machine.execFailureCountClear s
  | .sensorSample idx sample => Sys2Proof.Machine.execSensorSample idx sample s
  | .railFault rail => Sys2Proof.Machine.execRailFault rail s
  | .refclkLoss => Sys2Proof.Machine.execRefclkLoss s
  | .vauxLoss => Sys2Proof.Machine.execVauxLoss s
  | .vcoreReview => Sys2Proof.Machine.execVcoreReview s
  | .epoch => Sys2Proof.Machine.execEpoch s
  | .eventLogWrite => Sys2Proof.Machine.execEventLogWrite s
  | .detectorFire block code unit => Sys2Proof.Machine.execDetectorFire block code unit s
  | .sensorThresholdWrite idx w => Sys2Proof.Machine.execSensorThresholdWrite idx w s
  | .spiTransaction cmd off data cut => Sys2Proof.Machine.execSpiTransaction cmd off data cut s
  | .ethMgmtMessage e m => Sys2Proof.Machine.execEthMgmtMessage e m s
  | .setEndpointId eid => Sys2Proof.Machine.execSetEndpointId eid s
  | .getEndpointId => Sys2Proof.Machine.execGetEndpointId s
  | .getEndpointUuid => Sys2Proof.Machine.execGetEndpointUuid s
  | .getMctpVersionSupport => Sys2Proof.Machine.execGetMctpVersionSupport s
  | .getMessageTypeSupport => Sys2Proof.Machine.execGetMessageTypeSupport s
  | .getTid => Sys2Proof.Machine.execGetTid s
  | .setTid tid => Sys2Proof.Machine.execSetTid tid s
  | .getPldmVersion type => Sys2Proof.Machine.execGetPldmVersion type s
  | .getPldmTypes => Sys2Proof.Machine.execGetPldmTypes s
  | .getPldmCommands type => Sys2Proof.Machine.execGetPldmCommands type s
  | .getSensorReading idx => Sys2Proof.Machine.execGetSensorReading idx s
  | .getSensorThresholds idx => Sys2Proof.Machine.execGetSensorThresholds idx s
  | .setSensorThresholds idx high low => Sys2Proof.Machine.execSetSensorThresholds idx high low s
  | .getStateSensorReadings => Sys2Proof.Machine.execGetStateSensorReadings s
  | .getPdrRepositoryInfo => Sys2Proof.Machine.execGetPdrRepositoryInfo s
  | .getPdr record => Sys2Proof.Machine.execGetPdr record s
  | .setEventReceiver eid => Sys2Proof.Machine.execSetEventReceiver eid s
  | .queryDeviceIdentifiers => Sys2Proof.Machine.execQueryDeviceIdentifiers s
  | .getFirmwareParameters => Sys2Proof.Machine.execGetFirmwareParameters s
  | .requestUpdate => Sys2Proof.Machine.execRequestUpdate s
  | .passComponentTable component => Sys2Proof.Machine.execPassComponentTable component s
  | .updateComponent component size => Sys2Proof.Machine.execUpdateComponent component size s
  | .transferComplete bs => Sys2Proof.Machine.execTransferComplete bs s
  | .verifyComplete => Sys2Proof.Machine.execVerifyComplete s
  | .applyComplete readBack => Sys2Proof.Machine.execApplyComplete readBack s
  | .activateFirmware selfContained => Sys2Proof.Machine.execActivateFirmware selfContained s
  | .getStatus => Sys2Proof.Machine.execGetStatus s
  | .cancelUpdate => Sys2Proof.Machine.execCancelUpdate s
  | .traceSourceEnable src w => Sys2Proof.Machine.execTraceSourceEnable src w s
  | .comparatorMatch src addr mode => Sys2Proof.Machine.execComparatorMatch src addr mode s
  | .tracePacket => Sys2Proof.Machine.execTracePacket s
  | .traceDrop src => Sys2Proof.Machine.execTraceDrop src s
  | .traceOverflowPacket src => Sys2Proof.Machine.execTraceOverflowPacket src s
  | .traceClear => Sys2Proof.Machine.execTraceClear s
  | .traceClearEnd => Sys2Proof.Machine.execTraceClearEnd s
  | .traceWindowRead idx => Sys2Proof.Machine.execTraceWindowRead idx s
  | .assertPop g => Sys2Proof.Machine.execAssertPop g s
  | .galClrCe g => Sys2Proof.Machine.execGalClrCe g s
  | .galClrLost g => Sys2Proof.Machine.execGalClrLost g s
  | .clrSlip g => Sys2Proof.Machine.execClrSlip g s
  | .clrDiscard g => Sys2Proof.Machine.execClrDiscard g s
  | .clrSlipLast g => Sys2Proof.Machine.execClrSlipLast g s
  | .clrHold => Sys2Proof.Machine.execClrHold s
  | .clrSync => Sys2Proof.Machine.execClrSync s
  | .clrOverrun => Sys2Proof.Machine.execClrOverrun s
  | .clrFec p => Sys2Proof.Machine.execClrFec p s
  | .clrRetry p => Sys2Proof.Machine.execClrRetry p s
  | .clrDrop p => Sys2Proof.Machine.execClrDrop p s
  | .dsErrClr => Sys2Proof.Machine.execDsErrClr s
  | .clrStretch => Sys2Proof.Machine.execClrStretch s
  | .echoClrLost => Sys2Proof.Machine.execEchoClrLost s
  | .dmCeCountClear g => Sys2Proof.Machine.execDmCeCountClear g s
  | .rimPwCountClear => Sys2Proof.Machine.execRimPwCountClear s
  | .nocNoepDropClear => Sys2Proof.Machine.execNocNoepDropClear s
  | .nocOffCountClear g => Sys2Proof.Machine.execNocOffCountClear g s
  | .doneCountClear n => Sys2Proof.Machine.execDoneCountClear n s
  | .cicCountsClear => Sys2Proof.Machine.execCicCountsClear s
  | .wiuCountClear g => Sys2Proof.Machine.execWiuCountClear g s
  | .errCountClear => Sys2Proof.Machine.execErrCountClear s
  | .tcForwardedClear e => Sys2Proof.Machine.execTcForwardedClear e s
  | .schedBarrierReleaseWrite flags => Sys2Proof.Machine.execSchedBarrierReleaseWrite flags s
  | .registerWrite t w => Sys2Proof.Machine.execRegisterWrite t w s
  | .macrocellClockEdge t rising samples => Sys2Proof.Machine.execMacrocellClockEdge t rising samples s
  | .serialByteTransmit p => Sys2Proof.Machine.execSerialByteTransmit p s
  | .restoreEnd => Sys2Proof.Machine.execRestoreEnd s
  | .d3hotExit => Sys2Proof.Machine.execD3hotExit s
  | .latticeCommitTimeout => Sys2Proof.Machine.execLatticeCommitTimeout s
  | .latticeBarrierTimeout => Sys2Proof.Machine.execLatticeBarrierTimeout s
  | .encoderPacket src ev => Sys2Proof.Machine.execEncoderPacket src ev s
  | .timestampInterval src => Sys2Proof.Machine.execTimestampInterval src s
  | .bankVioChange b v => Sys2Proof.Machine.execBankVioChange b v s

end Sys2Proof.Machine
end

