-- ==== Sys2Proof/Safety.lean ====
section
/-! DEFINITION. What counts as a safe step and a safe queue: the terms claims use. -/

namespace Sys2Proof.Machine

/-- A step that ends in a next state. -/
def State.Steps (s : State) : Prop := ∃ t, step s = .next t

/-- Every addressed memory of the block is in its canonical form: the bank words with their error marks, the Deep Store
bytes with theirs (04). -/
def Memory.wf (m : Mem) : Bool :=
  NMap.wf dZero64 m.dm && NMap.wf dGood m.dmEcc && NMap.wf dByte m.ds && NMap.wf dGood m.dsEcc

/-- Every addressed store whose place the spec gives is in its canonical form: the registers of BAR0 (R11) and the
memories. Equal contents are then equal data. -/
def State.canon (s : State) : Prop := NMap.wf regReset s.regs = true ∧ Memory.wf s.mem = true

/-! What a command may change, part by part. -/

/-- The parts of the state beside the queue. -/
inductive Comp where
  /-- the registers, and which of their bits hardware has set in the present period -/
  | regs
  /-- the count of free values taken (the model's own) -/
  | freeCtr
  /-- fuses, straps and what is fixed at manufacture -/
  | part
  /-- the Emulation Fabric and the Schedule Network -/
  | fab
  /-- ticks, holds, boundary actions, time -/
  | sched
  /-- Design Memory and the Deep Store -/
  | mem
  /-- Echo -/
  | echo
  /-- Rimstone -/
  | rim
  /-- Passage and the lattice -/
  | psg
  /-- the Image Loader -/
  | img
  /-- the mailbox -/
  | mbx
  /-- the Control NoC -/
  | noc
  /-- the PCIe endpoint -/
  | host
  /-- the DMA engine -/
  | dma
  /-- the CIC -/
  | cic
  /-- the Wardens' interrupt units -/
  | wiu
  /-- the Timebase -/
  | tb
  /-- Lantern -/
  | lnt
  /-- the flash -/
  | flash
  /-- the key store -/
  | key
  /-- trace -/
  | trc
  /-- power and the die-to-die link -/
  | pwr
deriving DecidableEq, Repr

/-- Do two states agree in a part? -/
def Comp.same : Comp → State → State → Prop
  | .regs, s, t => (t.regs, t.raised) = (s.regs, s.raised)
  | .freeCtr, s, t => t.freeCtr = s.freeCtr
  | .part, s, t => t.part = s.part
  | .fab, s, t => t.fab = s.fab
  | .sched, s, t => t.sched = s.sched
  | .mem, s, t => t.mem = s.mem
  | .echo, s, t => t.echo = s.echo
  | .rim, s, t => t.rim = s.rim
  | .psg, s, t => t.psg = s.psg
  | .img, s, t => t.img = s.img
  | .mbx, s, t => t.mbx = s.mbx
  | .noc, s, t => t.noc = s.noc
  | .host, s, t => t.host = s.host
  | .dma, s, t => t.dma = s.dma
  | .cic, s, t => t.cic = s.cic
  | .wiu, s, t => t.wiu = s.wiu
  | .tb, s, t => t.tb = s.tb
  | .lnt, s, t => t.lnt = s.lnt
  | .flash, s, t => t.flash = s.flash
  | .key, s, t => t.key = s.key
  | .trc, s, t => t.trc = s.trc
  | .pwr, s, t => t.pwr = s.pwr

/-- Outside the parts `cs` state `t` is as state `s`, and its queue is the same. -/
def Frame (cs : List Comp) (s t : State) : Prop := t.pending = s.pending ∧ ∀ c, c ∉ cs → Comp.same c s t

/-! Step words as commands, and what a word reads and gives. -/

/-- The command that is one step word of one BP. -/
def stepInstr (b : Bp) (m : Marks) : StepOp → Instr
  | .nop => .nop b m
  | .eval fn x y z u => .eval b fn x y z u m
  | .evalx fn x y z u => .evalx b fn x y z u m
  | .resolve st p act x y d1 => .resolve b st p act x y d1 m
  | .maddr fn x y z u => .maddr b fn x y z u m
  | .mwdat fn x y z u => .mwdat b fn x y z u m
  | .mrd en => .mrd b en m
  | .mwr mask en => .mwr b mask en m
  | .matom swap en => .matom b swap en m
  | .mdeeprd en => .mdeeprd b en m
  | .mdeepwr mask en => .mdeepwr b mask en m
  | .pinin pin => .pinin b pin m
  | .pinout pin x => .pinout b pin x m
  | .assert act x => .assert b act x m
  | .trig leaf x => .trig b leaf x m
  | .sync bar => .sync b bar m
  | .const sel => .const b sel m

/-- The value BP `b` reads for operand `o` (R23, R28, R30). -/
def State.operandValue (s : State) (b : Nat) (o : Operand) : Nv :=
  let f := s.four (galOf b)
  if o.prev then netGet s.fab.nsPrev f b o.addr.toNat
  else if tagGet s.fab.nsTag f b o.addr.toNat then netGet s.fab.nsCur f b o.addr.toNat
  else absent f

/-- Truth table `fn` of BP `b`'s chamber (R32). -/
def State.tableOf (s : State) (b : Nat) (fn : BitVec 8) : Word := s.reg (R.GAL_FTABLE (galOf b) (b / 64 % 16) fn.toNat)

/-- The drivers and the merged value of a RESOLVE (R42). -/
def State.busOf (s : State) (b : Nat) (start : Bool) (p : Pull) (x y : Operand) (d1 : Option (Operand × Operand)) :
    Nv × Bool :=
  resolveBus (if start then Nv.z else s.chainOf b) (driver (s.operandValue b x) (s.operandValue b y))
    (d1.map (fun d => driver (s.operandValue b d.1) (s.operandValue b d.2))) p

/-- The value of a CONST (R56, R57). -/
def State.constResult (s : State) (b : Nat) : ConstSel → Nv
  | .zero => Nv.zero
  | .one => Nv.one
  | .x => Nv.x
  | .z => Nv.z
  | .random => Nv.ofBool (prngNext (NMap.get dPrng s.fab.prng b)).1
  | .tickBit n => Nv.ofBool (s.sched.curTick.getLsbD n.val)

/-- The result of a step word at the present step (R35, R39 to R57). -/
def State.wordResult (s : State) (b : Nat) : StepOp → Nv
  | .nop | .pinin _ | .sync _ => s.chainOf b
  | .eval fn x y z u =>
    evalBit (s.tableOf b fn) (s.chainOf b) (s.operandValue b x) (s.operandValue b y) (s.operandValue b z) (s.operandValue b u)
  | .evalx fn x y z u =>
    evalx (s.tableOf b fn) (s.chainOf b) (s.operandValue b x) (s.operandValue b y) (s.operandValue b z) (s.operandValue b u)
  | .maddr fn x y z u | .mwdat fn x y z u =>
    if s.four (galOf b) then
      evalx (s.tableOf b fn) (s.chainOf b) (s.operandValue b x) (s.operandValue b y) (s.operandValue b z) (s.operandValue b u)
    else
      evalBit (s.tableOf b fn) (s.chainOf b) (s.operandValue b x) (s.operandValue b y) (s.operandValue b z) (s.operandValue b u)
  | .resolve st p _ x y d1 => (s.busOf b st p x y d1).1
  | .mrd a | .mwr _ a | .matom _ a | .mdeeprd a | .mdeepwr _ a | .pinout _ a | .assert _ a | .trig _ a => s.operandValue b a
  | .const c => s.constResult b c

/-- A random CONST advances the pseudo-random state of its BP (R57). -/
def State.constEffect (s : State) (b : Nat) (c : ConstSel) : State :=
  if c = .random then
    { s with fab := { s.fab with prng := NMap.set dPrng s.fab.prng b (prngNext (NMap.get dPrng s.fab.prng b)).2 } }
  else s

/-- What a step word does beside its result, before its marks act (R43 to R57). -/
def State.wordEffect (s : State) (b : Nat) : StepOp → State
  | .resolve st p act x y d1 => s.contention b act (s.busOf b st p x y d1).2
  | .mrd a => opMrd s b (s.operandValue b a)
  | .mwr mask a => opMwr s b mask (s.operandValue b a)
  | .matom swap a => opMatom s b swap (s.operandValue b a)
  | .mdeeprd a => opMdeeprd s b (s.operandValue b a)
  | .mdeepwr mask a => opMdeepwr s b mask (s.operandValue b a)
  | .pinin p => opPinin s b p.val
  | .pinout p a => opPinout s p.val (s.operandValue b a)
  | .assert act a => opAssert s b act (s.operandValue b a)
  | .trig leaf a => opTrig s b leaf.val (s.operandValue b a)
  | .const c => s.constEffect b c
  | _ => s

/-- The truth table a word reads, if it reads one. -/
def tableRead : StepOp → Option (BitVec 8)
  | .eval fn .. | .evalx fn .. | .maddr fn .. | .mwdat fn .. => some fn
  | _ => none

/-- Does the word issue now: a scheduled step is due (R18), its gallery takes steps, R37 does not reject it, and it waits
on nothing? -/
def State.issues (s : State) (b : Nat) (op : StepOp) : Bool :=
  s.stepDue && s.takesSteps (galOf b) && legalIn (s.four (galOf b)) (b % 64) op && !s.wordWaits b op

/-- Nothing detectable happens in the word's reads: no injection point is armed, every net and table entry it reads has
its right parity (R28, R33), and each current operand was written in the cycle (R30). -/
def State.readsClean (s : State) (b : Nat) (op : StepOp) : Bool :=
  s.lnt.armed.isEmpty &&
  (operandsOf op).all (fun o =>
    !NMap.get dFalse s.fab.nsBad (b * 2048 + physV (s.four (galOf b)) o.addr.toNat) &&
    !NMap.get dFalse s.fab.nsBad (b * 2048 + (physV (s.four (galOf b)) o.addr.toNat + 1)) &&
    (o.prev || tagGet s.fab.nsTag (s.four (galOf b)) b o.addr.toNat)) &&
  match tableRead op with
  | some fn => !NMap.get dFalse s.fab.ftBad (b / 64 * 256 + fn.toNat)
  | none => true

/-- No force or deposit is on BP `b` (R173). -/
def State.unforced (s : State) (b : Nat) : Bool := s.fab.forces.all (fun e => e.bp != b)

/-- A send of the present step finds its slot record with right parity (R77). -/
def State.sendClean (s : State) (b : Nat) (m : Marks) : Bool :=
  s.lnt.armed.isEmpty && (!m.s || !NMap.get dFalse s.fab.slotBad (b * 512 + s.slotIndex b s.sched.step))

/-- The slot record by which BP `b` sends at the present step (R62). -/
def State.slotOf (s : State) (b : Nat) : Word := NMap.get dZero32 s.fab.slot (b * 512 + s.slotIndex b s.sched.step)

/-- Bit `l` of a word replaced. -/
def putBit (d : Dword) (l : Nat) (v : Bool) : Dword := if v then d ||| (1#64 <<< l) else d &&& ~~~(1#64 <<< l)

/-! Frames over registers. -/

/-- Only the registers at the offsets `os` may differ between `s` and `t`. -/
def RegsBut (os : List Nat) (s t : State) : Prop := (∀ o, o ∉ os → t.reg o = s.reg o) ∧ Frame [.regs] s t

/-- The registers that a command of the table clears (R6). -/
def clearedBy : Instr → Option (List Nat)
  | .clrHold => some [R.SCHED_HOLD_COUNT]
  | .clrSync => some [R.SCHED_SYNC_COUNT]
  | .clrOverrun => some [R.SCHED_OVERRUN_COUNT, R.SCHED_PEER_STRETCH_COUNT, R.SCHED_SKIP_COUNT]
  | .clrSlip g => some [R.GAL_SLIP_COUNT g.val]
  | .clrDiscard g => some [R.GAL_RX_DISCARD g.val]
  | .clrSlipLast g => some [R.GAL_SLIP_LAST g.val]
  | .galClrCe g => some [R.GAL_ISTORE_CE_COUNT g.val]
  | .clrFec p => some [R.PSG_FEC_CE p.val, R.PSG_FEC_UE p.val]
  | .clrRetry p => some [R.PSG_RETRY_COUNT p.val]
  | .clrDrop p => some [R.PSG_TUNNEL_DROP p.val]
  | .dsErrClr => some ((List.range 32).map R.DS_CH_ERR)
  | .clrStretch => some [R.ECHO_STRETCH_COUNT]
  | .dmCeCountClear g => some [R.GAL_DM_CE_COUNT g.val]
  | .rimPwCountClear => some [R.RIM_PW_COUNT]
  | .nocNoepDropClear => some [R.NOC_NOEP_DROP]
  | .nocOffCountClear g => some [R.NOC_OFF_COUNT g.val]
  | .doneCountClear n => some [R.DMA_CH_DONE_COUNT n.val]
  | .cicCountsClear => some [R.CIC_COUNTS]
  | .wiuCountClear g => some [R.WIU_COUNT g.val]
  | .errCountClear => some [R.ERR_COUNT]
  | _ => none

/-- The gallery in whose register window a row writes (R13). -/
def windowOf : Instr → Option Gal
  | .clrSlip g | .clrDiscard g | .clrSlipLast g | .galClrCe g | .galClrLost g | .assertPop g | .dmCeCountClear g
  | .softSet g _ | .wiuCountClear g => some g
  | _ => none

/-- Is the row's window, if it writes one, that of a gallery that is not Off (R13)? -/
def State.windowOpen (s : State) (c : Instr) : Bool :=
  match windowOf c with
  | some g => !s.isOff g.val
  | none => true

/-! Mailbox commands (R253, R256, R258, R260, R269, R354). -/

/-- What the command table says of a mailbox command: its header, whether it takes a target, the functions it needs (R261,
R269), its class (R258), the host buffer it reads or writes, and whether Bedrock firmware serves it (R354). -/
structure MailboxForm where
  hdr : Hdr
  target : Bool := false
  needs : List Nat := []
  cls : CmdClass := .normal
  buf : HostBuf := ⟨0, [], none⟩
  ok : Bool := false
  always : Bool := false

/-- The functions that a stage needs: the Deep Store channels, and with SOURCE = chain its chain-in port (R269). -/
def State.stageNeeds (s : State) (chain : Bool) : List Nat :=
  chanBits ++ (if chain && s.bit R.IMG_CHAIN F.IMG_CHAIN_IN_VALID then [portBit (s.fld R.IMG_CHAIN F.IMG_CHAIN_IN_PORT)] else [])

/-- The form of a mailbox command. -/
def State.mailboxForm (s : State) : Instr → Option MailboxForm
  | .getInfo h buf => some { hdr := h, cls := .prompt, buf := buf, always := true }
  | .getReady h _ _ => some { hdr := h, cls := .prompt, always := true }
  | .run h | .stateDeposit h _ | .echoTrigger h _ => some { hdr := h, cls := .prompt }
  | .peek h _ buf => some { hdr := h, cls := .prompt, buf := buf }
  | .step h _ => some { hdr := h, cls := .long }
  | .latticeTrain h _ _ => some { hdr := h, cls := .long }
  | .echoRead h _ _ buf | .latticeMap h buf => some { hdr := h, buf := buf }
  | .regionReload h _ => some { hdr := h }
  | .halt h _ | .selectContext h _ | .force h _ | .release h _ | .deposit h _ => some { hdr := h, target := true, cls := .prompt }
  | .imageCommit h _ => some { hdr := h, target := true }
  | .setTick h mode .. => some { hdr := h, target := true, needs := if mode = 0 ∧ s.inLattice then [timeBit] else [] }
  | .memRead h sp a buf => some { hdr := h, needs := memNeeds sp.toNat a.toNat buf.len, buf := buf }
  | .memWrite h sp a buf => some { hdr := h, needs := memNeeds sp.toNat a.toNat buf.len, buf := buf }
  | .memAtomic h sp a _ _ => some { hdr := h, needs := memNeeds sp.toNat a.toNat 8, cls := .prompt }
  | .echoArm h buf => some { hdr := h, target := true, needs := chanBits, buf := buf }
  | .echoDisarm h | .restore h _ _ => some { hdr := h, target := true, needs := chanBits }
  | .snapshot h _ => some { hdr := h, target := true, needs := chanBits, cls := .long }
  | .imageVerify h => some { hdr := h, needs := chanBits, cls := .long }
  | .imageStage h src _ _ _ _ _ => some { hdr := h, needs := s.stageNeeds src.chain, cls := .long, buf := src.buf }
  | .latticeCommit h _ => some { hdr := h, target := true, needs := s.imagePorts.map portBit, cls := .long }
  | .runFrom h | .haltBefore h => some { hdr := h, target := true, needs := s.barrierNeeds, cls := .long }
  | .fwUpdate h _ _ buf ok => some { hdr := h, needs := [lanternBit], cls := .long, buf := buf, ok := ok, always := true }
  | .attest h _ buf | .logRead h _ _ buf => some { hdr := h, needs := [lanternBit], buf := buf, always := true }
  | .injectStatus h .. | .injectFault h .. => some { hdr := h, needs := [lanternBit] }
  | .fuseSvn h _ buf | .ownerProgram h _ buf | .ownerRevoke h _ buf | .bedrockSelect h _ buf | .laneReversal h _ buf
  | .debugLock h _ buf | .storeKek h _ buf => some { hdr := h, needs := [lanternBit], cls := .long, buf := buf }
  | _ => none

/-- May the command start: no command before it that must start or complete first (R256), and the entry that was fetched
under its identity, if one was, spells it (R253)? -/
def State.mayStart (s : State) (f : MailboxForm) (i : Instr) : Bool := !s.barred (cmdOf f.hdr) && s.spelled f.hdr i f.buf f.ok

/-- A command that is served: it may start and, as it starts, a core with firmware that serves it is ready, its target is
allowed, the functions it needs are ready (R253, R256, R260, R269, R354). -/
def State.serves (s : State) (i : Instr) : Bool :=
  match s.mailboxForm i with
  | some f =>
    let b := s.begin (cmdOf f.hdr) f.cls
    s.mayStart f i && (b.lnt.coreFw != 2 || f.always) && (f.hdr.target.isNone || f.target) && (b.firstUnready f.needs).isNone
  | none => false

/-- The state in which a mailbox command that has started acts (R249, R258). -/
def State.begunBy (s : State) (i : Instr) : State :=
  match s.mailboxForm i with
  | some f => s.begin (cmdOf f.hdr) f.cls
  | none => s

/-! Interrupts. -/

/-- What a claim by target `t` should return (R321, R322): the eligible source of highest priority, the lowest ID among
equals; 0 when none is eligible. -/
def State.IsBest (s : State) (t n : Nat) : Prop :=
  if n = 0 then ∀ m, m < 512 → s.eligible t m = false
  else n < 512 ∧ s.eligible t n = true ∧
    ∀ m, m < 512 → s.eligible t m = true → m ≠ n →
      s.cicFld (R.CIC_SRC m) F.CIC_SRC_PRIORITY < s.cicFld (R.CIC_SRC n) F.CIC_SRC_PRIORITY ∨
      (s.cicFld (R.CIC_SRC m) F.CIC_SRC_PRIORITY = s.cicFld (R.CIC_SRC n) F.CIC_SRC_PRIORITY ∧ n < m)

/-- The service that a claim by `t` of source `n` begins: its priority and vector in force (R322, R324, R326). -/
def State.serviceOf (s : State) (t n : Nat) : Service :=
  ⟨t, n, s.cicFld (R.CIC_SRC n) F.CIC_SRC_PRIORITY, s.cicFld (R.CIC_SRC n) F.CIC_SRC_VECTOR⟩

/-- Is source `i` a Normal source of gallery `g` that takes part and pends, of priority above `lv` (R330)? -/
def State.normalAbove (s : State) (g lv i : Nat) : Bool :=
  s.wiuEnabled g i && !s.wiuFast g i && s.wiuPending g i && Nat.blt lv (s.wiuPrio g i)

/-- The Normal source to take above level `lv` (R330): the highest priority, the lowest number among equals. -/
def State.IsNextNormal (s : State) (g lv i : Nat) : Prop :=
  i < 32 ∧ s.normalAbove g lv i = true ∧
  ∀ j, j < 32 → s.normalAbove g lv j = true → j ≠ i →
    s.wiuPrio g j < s.wiuPrio g i ∨ (s.wiuPrio g j = s.wiuPrio g i ∧ i < j)

/-- Is source `i` a Fast source of gallery `g` that takes part and pends (R330)? -/
def State.fastPends (s : State) (g i : Nat) : Bool := s.wiuEnabled g i && s.wiuFast g i && s.wiuPending g i

/-- The Fast source to take (R330): the lowest number. -/
def State.IsNextFast (s : State) (g i : Nat) : Prop :=
  i < 32 ∧ s.fastPends g i = true ∧ ∀ j, j < i → s.fastPends g j = false

/-! Commands of one form. -/

/-- The command that writes counted setting `k + 1` (R374). -/
def fuseInstr (k : Fin 6) (h : Hdr) (index : BitVec 8) (buf : HostBuf) : Instr :=
  match k with
  | 0 => .fuseSvn h index buf
  | 1 => .ownerProgram h index buf
  | 2 => .ownerRevoke h index buf
  | 3 => .bedrockSelect h index buf
  | 4 => .laneReversal h index buf
  | 5 => .debugLock h index buf

/-- The setting after its change (R374): its value, or the list it extends. -/
def settingIs (k : Fin 6) (index value : Nat) (digest : List Byte) (p q : Part) : Prop :=
  match k with
  | 0 => q.svn = value
  | 1 => (index, digest) ∈ q.ownerDigest
  | 2 => q.ownerRevoked = p.ownerRevoked ++ [index]
  | 3 => q.bedrock = value
  | 4 => q.laneReversal = (value == 1)
  | 5 => q.debugLock = value

/-- The answers of the MCTP and PLDM commands that only answer (R359), with whether the boot ROM serves them (R354). -/
def State.plainAnswer (s : State) : Instr → Option (Bool × LntReply)
  | .getEndpointId => some (true, .eid s.lnt.eid)
  | .getEndpointUuid => some (true, .uuid)
  | .getMctpVersionSupport => some (true, .versions)
  | .getMessageTypeSupport => some (true, .msgTypes [0, 1])
  | .getTid => some (false, .tid s.lnt.tid)
  | .getPldmVersion t => some (false,
      if t = 0 then .pldmVersion 0 1 1 else if t = 2 then .pldmVersion 2 1 2 else if t = 5 then .pldmVersion 5 1 1
      else .error .invalidData)
  | .getPldmTypes => some (false, .pldmTypes [0, 2, 5])
  | .getPldmCommands t => some (false,
      if t = 0 ∨ t = 2 ∨ t = 5 then .pldmCommands t.toNat (pldmNames t.toNat) else .error .invalidData)
  | .getSensorReading i => some (false,
      .reading i.val (s.fld (R.SNS_VALUE i.val) F.SNS_VALUE_VALUE) (s.bit (R.SNS_VALUE i.val) F.SNS_VALUE_VALID)
        (s.bit (R.SNS_VALUE i.val) F.SNS_VALUE_WARN) (s.bit (R.SNS_VALUE i.val) F.SNS_VALUE_HALT))
  | .getSensorThresholds i => some (false,
      .thresholds i.val (s.fld (R.SNS_LIMIT i.val) F.SNS_LIMIT_HIGH) (s.fld (R.SNS_LIMIT i.val) F.SNS_LIMIT_LOW))
  | .getStateSensorReadings => some (false, s.thermalAnswer)
  | .getPdrRepositoryInfo => some (false, .pdrInfo 94)
  | .getPdr r => some (false, if r.val < 93 then .numericPdr r.val else .statePdr)
  | .queryDeviceIdentifiers => some (true, .identifiers s.deviceId s.part.serial)
  | .getFirmwareParameters => some (true, .firmware 1 s.flash.active [s.fwBuildOf 0, s.fwBuildOf 1]
      (s.bit R.LNT_STATUS F.LNT_STATUS_ACTIVATE_PENDING))
  | .getStatus => some (true, .status s.lnt.upd.phase.code)
  | _ => none

/-! The tables of R42, written out. -/

/-- The four values of a net: 0, 1, X, Z. -/
inductive Quad where
  /-- known 0 -/
  | zero
  /-- known 1 -/
  | one
  /-- unknown -/
  | x
  /-- not driven -/
  | z
deriving DecidableEq, Repr

/-- The pair (v, k) of a value (R22). -/
def Quad.nv : Quad → Nv
  | .zero => ⟨false, true⟩
  | .one => ⟨true, true⟩
  | .x => ⟨false, false⟩
  | .z => ⟨true, false⟩

/-- The driver table: enable, data. -/
def driverTable : Quad → Quad → Quad
  | .zero, _ => .z
  | .one, .zero => .zero
  | .one, .one => .one
  | .one, .x => .x
  | .one, .z => .x
  | .x, _ => .x
  | .z, _ => .x

/-- The combine table: the merged value, and whether it is a contention. -/
def combineTable : Quad → Quad → Quad × Bool
  | .zero, .zero => (.zero, false)
  | .zero, .one => (.x, true)
  | .one, .zero => (.x, true)
  | .one, .one => (.one, false)
  | .z, b => (b, false)
  | a, .z => (a, false)
  | .x, _ => (.x, false)
  | _, .x => (.x, false)

/-- The pull of a bus that is Z. -/
def pullTable : Pull → Quad → Quad
  | .down, .z => .zero
  | .up, .z => .one
  | _, q => q

/-- The parts of the state that a command may change beside the queue: all that its rules name, and what the operations
they share may change (a completion, a log entry, an interrupt, a free value taken). -/
def touches : Instr → List Comp
  | .tick .. =>
    [.regs, .freeCtr, .fab, .sched, .echo, .rim, .psg, .mbx, .host, .tb, .lnt]
  | .stepIssue .. | .nop .. | .eval .. | .evalx .. | .resolve .. | .maddr .. | .mwdat .. | .mrd .. | .mwr ..
  | .matom .. | .mdeeprd .. | .mdeepwr .. | .pinin .. | .pinout .. | .assert .. | .trig .. | .sync .. | .const .. =>
    [.regs, .freeCtr, .fab, .sched, .mem, .echo, .rim, .psg, .mbx, .cic, .wiu, .tb, .lnt]
  | .deepWriteAccept .. | .dripScrub .. =>
    [.regs, .freeCtr, .fab, .sched, .mem, .lnt]
  | .arrival .. | .snapshotCopyEnd .. =>
    [.regs, .freeCtr, .fab, .sched, .mem, .echo, .lnt]
  | .holdLimit .. =>
    [.regs, .freeCtr, .fab, .sched, .lnt]
  | .turnover .. =>
    [.regs, .freeCtr, .fab, .sched, .echo, .rim, .wiu, .tb, .lnt]
  | .echoRecordClose .. =>
    [.regs, .freeCtr, .fab, .sched, .echo, .cic, .wiu, .tb, .lnt]
  | .echoRecordWritten .. =>
    [.regs, .freeCtr, .sched, .mem, .echo, .mbx, .host, .lnt]
  | .generationFlip .. | .haltAtBoundary .. | .contextSwitch .. | .tickConfigApply .. | .sequencerStageComplete ..
  | .echoArmApply .. | .restoreEnd .. =>
    [.regs, .freeCtr, .fab, .sched, .echo, .psg, .mbx, .host, .cic, .wiu, .tb, .lnt, .trc]
  | .overrun .. =>
    [.regs, .freeCtr, .sched, .psg, .mbx, .host, .cic, .lnt]
  | .windowDone .. =>
    [.regs, .echo, .cic]
  | .forceApply .. | .releaseApply .. | .force .. | .release .. | .deposit .. | .stateDeposit .. =>
    [.regs, .freeCtr, .fab, .mbx, .host]
  | .snapshotTake .. =>
    [.regs, .freeCtr, .fab, .sched, .mem, .echo, .psg, .mbx, .host, .cic, .wiu, .tb, .lnt, .trc]
  | .snapshotShadowEnd .. | .snapshotAbort .. =>
    [.regs, .freeCtr, .echo, .mbx, .host]
  | .snapDone .. =>
    [.regs, .freeCtr, .sched, .mem, .echo, .mbx, .host, .cic, .lnt]
  | .restoreApply .. =>
    [.regs, .freeCtr, .fab, .sched, .mem, .echo, .rim, .psg, .mbx, .host, .cic, .wiu, .tb, .lnt, .trc]
  | .pinWordSend .. | .inputWordComplete .. | .wireContention .. | .scrubPass .. | .scrubStall .. | .uflProgram ..
  | .uflErase .. =>
    [.regs, .freeCtr, .sched, .rim, .lnt]
  | .pinWordApply .. | .swReset .. | .bankVioChange .. =>
    [.regs, .freeCtr, .rim]
  | .tickStrobe .. | .flashDataValid .. =>
    [.rim]
  | .inputWordSample .. | .fabricFlashRead .. =>
    [.freeCtr, .rim]
  | .oscLock .. | .laneEqualised .. | .tbNowNsRead .. | .ethLinkChange .. | .dmaResume .. | .dmaHeadWrite ..
  | .galClrCe .. | .galClrLost .. | .clrSlip .. | .clrDiscard .. | .clrSlipLast .. | .clrHold .. | .clrSync ..
  | .clrOverrun .. | .clrFec .. | .clrRetry .. | .clrDrop .. | .dsErrClr .. | .clrStretch .. | .echoClrLost ..
  | .dmCeCountClear .. | .rimPwCountClear .. | .nocNoepDropClear .. | .nocOffCountClear .. | .doneCountClear ..
  | .cicCountsClear .. | .wiuCountClear .. | .errCountClear .. | .tcForwardedClear .. =>
    [.regs]
  | .uflOpEnd .. | .serialByteReceive .. =>
    [.regs, .rim]
  | .spDataWrite .. | .serialByteTransmit .. =>
    [.regs, .rim, .psg]
  | .spDataRead .. =>
    [.rim, .host]
  | .imageStage .. | .imageVerify .. =>
    [.regs, .freeCtr, .psg, .img, .mbx, .host, .cic]
  | .headerArrival .. | .stageSpaceCheck .. | .stageEnd .. | .imageBurst .. =>
    [.regs, .freeCtr, .sched, .mem, .psg, .img, .mbx, .host, .cic, .lnt]
  | .stageTimeout .. | .chainResult .. | .chainTimeout .. =>
    [.regs, .freeCtr, .sched, .psg, .img, .mbx, .host, .cic, .lnt]
  | .verifyEnd .. =>
    [.regs, .freeCtr, .sched, .mem, .psg, .img, .mbx, .host, .cic, .lnt, .flash]
  | .imageCommit .. | .regionReload .. | .setTick .. | .selectContext .. | .snapshot .. | .restore .. =>
    [.regs, .freeCtr, .sched, .mbx, .host]
  | .latticeCommit .. =>
    [.regs, .freeCtr, .sched, .psg, .img, .mbx, .host]
  | .commitApply .. =>
    [.regs, .freeCtr, .fab, .sched, .mem, .echo, .rim, .psg, .img, .mbx, .host, .cic, .wiu, .tb, .lnt, .trc]
  | .commitEnd .. =>
    [.regs, .freeCtr, .fab, .sched, .echo, .psg, .img, .mbx, .host, .cic, .wiu, .tb, .lnt, .trc]
  | .commitAt .. =>
    [.regs, .sched, .psg, .img]
  | .commitReport .. | .latticeCommitTimeout .. =>
    [.regs, .freeCtr, .sched, .psg, .img, .mbx, .host, .cic, .wiu, .trc]
  | .reloadIsolate .. =>
    [.regs, .freeCtr, .fab, .sched, .mem, .echo, .rim, .psg, .img, .mbx, .noc, .host, .dma, .cic, .wiu, .tb,
      .lnt, .trc]
  | .reloadWriteEnd .. =>
    [.regs, .freeCtr, .fab, .sched, .mem, .rim, .psg, .img, .lnt]
  | .regionJoin .. =>
    [.regs, .freeCtr, .fab, .sched, .echo, .rim, .psg, .img, .mbx, .host, .cic, .wiu, .tb, .lnt, .trc]
  | .mbxSqTailWrite .. | .cicComplete .. | .cicSrcWrite .. =>
    [.regs, .cic]
  | .mbxCqHeadWrite .. | .queueEnable .. | .queueDisable .. =>
    [.regs, .mbx]
  | .commandFetch .. | .injectFault .. =>
    [.regs, .freeCtr, .sched, .mbx, .host, .lnt]
  | .progressEntry .. =>
    [.freeCtr, .mbx]
  | .cmdDeadline .. | .tbIncrWrite .. | .nocBarrierSlow .. | .nocRspStall .. | .eventLogWrite .. =>
    [.regs, .freeCtr, .sched, .lnt]
  | .coreFault .. =>
    [.regs, .freeCtr, .fab, .sched, .echo, .psg, .img, .mbx, .host, .cic, .lnt, .trc]
  | .remoteCommand .. =>
    [.regs, .freeCtr, .psg, .mbx, .noc, .host]
  | .getInfo .. | .getReady .. | .getReadyComplete .. | .getReadyTimeout .. | .peek .. | .logRead .. =>
    [.regs, .freeCtr, .mbx, .host]
  | .run .. | .step .. =>
    [.regs, .freeCtr, .sched, .mbx, .host, .cic, .wiu, .trc]
  | .halt .. =>
    [.regs, .freeCtr, .fab, .sched, .mbx, .host]
  | .memRead .. | .memWrite .. | .memAtomic .. | .bankRequest .. | .bankAtomic .. | .stealTimeout .. | .bar4Access .. =>
    [.regs, .freeCtr, .sched, .mem, .mbx, .noc, .host, .dma, .lnt]
  | .echoArm .. | .echoDisarm .. =>
    [.regs, .freeCtr, .sched, .echo, .mbx, .host]
  | .echoRead .. =>
    [.regs, .freeCtr, .sched, .mem, .mbx, .host, .lnt]
  | .echoTrigger .. =>
    [.regs, .freeCtr, .sched, .echo, .mbx, .host, .cic]
  | .latticeTrain .. | .latticeMap .. | .psgTrain .. | .psgDown .. | .portTrained .. | .laneFail .. | .blockReceive ..
  | .retryTimeout .. | .latticeIdent .. =>
    [.regs, .freeCtr, .sched, .psg, .mbx, .noc, .host, .lnt]
  | .runFrom .. | .latticeRelease .. =>
    [.regs, .freeCtr, .sched, .psg, .mbx, .host, .cic, .wiu, .trc]
  | .haltBefore .. | .barrierReport .. | .latticeBarrierTimeout .. =>
    [.regs, .freeCtr, .sched, .psg, .mbx, .host]
  | .fwUpdate .. =>
    [.regs, .freeCtr, .mbx, .host, .flash]
  | .attest .. =>
    [.regs, .freeCtr, .mbx, .host, .lnt]
  | .injectStatus .. | .powerOn .. | .sensorSample .. | .railFault .. | .refclkLoss .. | .detectorFire .. =>
    [.regs, .freeCtr, .fab, .sched, .mem, .echo, .rim, .psg, .img, .mbx, .noc, .host, .dma, .cic, .wiu, .tb,
      .lnt, .key, .trc, .pwr]
  | .fuseSvn .. | .ownerProgram .. | .bedrockSelect .. | .laneReversal .. | .debugLock .. =>
    [.regs, .freeCtr, .part, .sched, .mbx, .host, .lnt]
  | .ownerRevoke .. =>
    [.regs, .freeCtr, .part, .sched, .psg, .img, .mbx, .host, .cic, .lnt]
  | .storeKek .. =>
    [.regs, .freeCtr, .mbx, .host, .key]
  | .deviceReset .. | .vauxLoss .. =>
    [.regs, .fab, .sched, .mem, .echo, .rim, .psg, .img, .mbx, .noc, .host, .dma, .cic, .wiu, .tb, .lnt, .key,
      .trc, .pwr]
  | .hostReset .. =>
    [.regs, .freeCtr, .fab, .sched, .mem, .echo, .psg, .img, .mbx, .noc, .host, .dma, .cic, .lnt]
  | .perstDeassert .. =>
    [.regs, .freeCtr, .mem, .mbx, .host, .cic, .lnt, .trc]
  | .lntPgoodRise .. =>
    [.regs, .freeCtr, .mem, .mbx, .cic, .lnt, .trc]
  | .d2dTrain .. =>
    [.regs, .freeCtr, .sched, .lnt, .pwr]
  | .dsClear .. =>
    [.regs, .mem]
  | .startupMarchEnd .. =>
    [.regs, .freeCtr, .part, .fab, .sched, .mem, .mbx, .lnt]
  | .marchStart .. =>
    [.regs, .freeCtr, .sched, .mem, .echo, .mbx, .noc, .host, .dma, .lnt]
  | .marchEnd .. =>
    [.regs, .freeCtr, .part, .fab, .sched, .mem, .mbx, .host, .cic, .wiu, .lnt, .trc]
  | .bankServe .. =>
    [.regs, .freeCtr, .fab, .sched, .mem, .mbx, .noc, .host, .dma, .lnt]
  | .dripWriteBack .. =>
    [.fab, .mem]
  | .dsBurst .. =>
    [.regs, .freeCtr, .sched, .mem, .lnt]
  | .blockLock .. =>
    [.regs, .psg, .noc]
  | .latencyMeasured .. | .trainingFail .. | .latticeHold .. | .latticeFault .. | .barrierTimeout .. =>
    [.regs, .freeCtr, .sched, .psg, .mbx, .host, .lnt]
  | .slotFlit .. | .linkTimeout .. =>
    [.regs, .freeCtr, .fab, .sched, .psg, .lnt]
  | .decisionPoint .. =>
    [.regs, .freeCtr, .sched, .psg, .cic, .lnt]
  | .latticeDone .. =>
    [.psg]
  | .latticeCredit .. =>
    [.regs, .freeCtr, .sched, .psg, .noc, .lnt]
  | .nocTunnelPacket .. | .nocPacket .. | .bar0Access .. | .bar2BaseWrite .. | .bar4SelWrite .. | .spiTransaction ..
  | .registerWrite .. =>
    [.regs, .freeCtr, .fab, .sched, .mem, .echo, .rim, .psg, .mbx, .noc, .host, .dma, .cic, .wiu, .tb, .lnt, .trc]
  | .timeFlitSend .. =>
    [.psg, .tb]
  | .timeFlit .. =>
    [.regs, .freeCtr, .sched, .psg, .cic, .tb, .lnt]
  | .ptmDialog .. | .tbCfgWrite .. | .ptpMessage .. =>
    [.regs, .freeCtr, .sched, .cic, .tb, .lnt]
  | .holdover .. =>
    [.regs, .freeCtr, .sched, .cic, .lnt]
  | .dtcWrap .. | .slewEnd .. =>
    [.regs, .freeCtr, .fab, .sched, .echo, .tb, .lnt]
  | .tbStepWrite .. | .tbSlewWrite .. =>
    [.regs, .freeCtr, .sched, .tb, .lnt]
  | .tcForward .. =>
    [.regs, .tb]
  | .nocApply .. | .routerBarrierEnd .. =>
    [.regs, .noc]
  | .nocRspTimeout .. =>
    [.regs, .freeCtr, .sched, .mem, .noc, .host, .lnt]
  | .bar2Access .. =>
    [.regs, .freeCtr, .sched, .mem, .host, .lnt]
  | .netStoreServe .. =>
    [.regs, .freeCtr, .fab, .sched, .host, .lnt]
  | .msixSend .. | .d3hotEntry .. | .pcieLinkUp .. =>
    [.host]
  | .kick .. | .dmaHalt .. | .abort .. =>
    [.regs, .dma]
  | .channelEnable .. | .descriptorStart .. | .dmaReadCompletion .. | .dmaWriteResponse .. | .readBack ..
  | .channelHalt .. | .d3hotExit .. =>
    [.regs, .freeCtr, .fab, .sched, .mem, .psg, .mbx, .noc, .host, .dma, .lnt]
  | .descriptorFetch .. =>
    [.regs, .freeCtr, .sched, .dma, .lnt]
  | .sourceEvent .. | .cicSwSet .. =>
    [.cic]
  | .cicClaim .. =>
    [.regs, .host, .cic]
  | .hostForward .. =>
    [.host, .cic]
  | .wardenSourcePend .. | .normalEntry .. | .wardenTimer .. =>
    [.wiu]
  | .fastEntry .. | .normalExit .. | .fastExit .. | .softSet .. | .galleryPowerRequest .. =>
    [.regs, .wiu]
  | .galleryIdle .. | .galleryOn .. | .traceSourceEnable .. | .comparatorMatch .. | .tracePacket .. | .traceDrop ..
  | .traceOverflowPacket .. | .traceClearEnd .. | .encoderPacket .. | .timestampInterval .. =>
    [.regs, .cic, .trc]
  | .galleryPowerDown .. =>
    [.regs, .freeCtr, .fab, .sched, .mem, .echo, .mbx, .noc, .host, .dma, .cic, .wiu, .lnt, .trc]
  | .galleryWake .. =>
    [.regs, .mem, .mbx]
  | .wakeClearEnd .. =>
    [.regs, .freeCtr, .part, .fab, .sched, .mem, .echo, .rim, .psg, .img, .mbx, .host, .cic, .wiu, .tb, .lnt,
      .trc]
  | .bootRom .. =>
    [.regs, .freeCtr, .part, .sched, .lnt, .flash]
  | .watchdogExpiry .. | .requestUpdate .. | .cancelUpdate .. =>
    [.regs, .lnt]
  | .failureCountClear .. =>
    [.flash]
  | .vcoreReview .. =>
    [.regs, .pwr]
  | .epoch .. | .sensorThresholdWrite .. | .setSensorThresholds .. =>
    [.regs, .freeCtr, .lnt]
  | .ethMgmtMessage .. | .setEndpointId .. | .getEndpointId .. | .getEndpointUuid .. | .getMctpVersionSupport ..
  | .getMessageTypeSupport .. | .getTid .. | .setTid .. | .getPldmVersion .. | .getPldmTypes .. | .getPldmCommands ..
  | .getSensorReading .. | .getSensorThresholds .. | .getStateSensorReadings .. | .getPdrRepositoryInfo ..
  | .getPdr .. | .setEventReceiver .. | .queryDeviceIdentifiers .. | .getFirmwareParameters ..
  | .passComponentTable .. | .updateComponent .. | .transferComplete .. | .getStatus .. =>
    [.lnt]
  | .verifyComplete .. =>
    [.regs, .freeCtr, .psg, .img, .mbx, .host, .cic, .lnt]
  | .applyComplete .. =>
    [.lnt, .flash]
  | .activateFirmware .. =>
    [.regs, .lnt, .flash]
  | .traceClear .. =>
    [.trc]
  | .traceWindowRead .. =>
    [.regs, .host, .trc]
  | .assertPop .. =>
    [.regs, .fab]
  | .schedBarrierReleaseWrite .. =>
    [.regs, .sched]
  | .macrocellClockEdge .. =>
    [.freeCtr, .rim, .psg]

end Sys2Proof.Machine
end

