-- ==== Sys2Proof/Certificates/Slice0/Obligations.lean ====
section
/-! DEFINITION. What is claimed of the block, for the provers. -/

open Sys2Proof Sys2Proof.Machine

/-- The step of the block, for every command: exec on the state with the queue's rest. -/
def Obligations.StepRunsTheFrontCommand : Prop :=
  ∀ (c : Instr) (rest : List Instr) (s : State), s.pending = c :: rest →
    step s = exec c { s with pending := rest } ∧ ∀ t, step s = .next t → t.pending = rest

/-- The model's choice for an empty queue (log 9); the counter follows R335. -/
def Obligations.EmptyQueueIsAPeriod : Prop :=
  ∀ s : State, s.pending = [] → step s = .next s.idlePeriod ∧ s.idlePeriod.pending = [] ∧
    (s.noc.waiting = [] → s.tb.slew = 0 → s.tb.stepDue = 0 → s.idlePeriod.sched.now = s.sched.now + 1 ∧
      s.idlePeriod.sched.dtc = (s.sched.dtc + (s.reg R.TB_INCR).toNat) % 2 ^ 80)

/-- R37: such a word is rejected at load; no rule gives it an effect. -/
def Obligations.OnlyRejectedWordsStop : Prop :=
  (∀ (c : Instr) (s : State),
    (∃ t, exec c s = .next t) ∨
    (exec c s = .fault .rejectedWord ∧ s.stepDue = true ∧
      ((c = .stepIssue ∧ s.decodeFetched (s.fetchStep false) = none) ∨
       ∃ (b : Bp) (m : Marks) (op : StepOp), c = stepInstr b m op ∧ s.takesSteps (galOf b) = true ∧
        legalIn (s.four (galOf b)) (b.val % 64) op = false))) ∧
  (∀ (b : Bp) (m : Marks) (op : StepOp) (s : State), s.stepDue = true → s.takesSteps (galOf b) = true →
    legalIn (s.four (galOf b)) (b.val % 64) op = false → exec (stepInstr b m op) s = .fault .rejectedWord) ∧
  (∀ s : State, s.pending = [] → ∃ t, step s = .next t)

/-- The frame, part by part, of every command. -/
def Obligations.CommandsKeepTheirFrame : Prop :=
  ∀ (c : Instr) (s t : State), exec c s = .next t → Frame (touches c) s t

/-- The invariant of the addressed stores. -/
def Obligations.StepKeepsStoresCanonical : Prop :=
  ∀ s t : State, s.canon → step s = .next t → t.canon

/-- R7 for every register, and the state no register holds. -/
def Obligations.ResetGivesTheResetValues : Prop :=
  State.reset.canon ∧ State.reset.pending = [] ∧ (∀ o, State.reset.reg o = regReset o) ∧
  (∀ o r, regRow o = some r → ¬(0x10000 ≤ o ∧ o < 0x10800) → ¬(0x201400 ≤ o ∧ o < 0x201574) → o ≠ R.DS_REGION 0 →
    o ≠ R.DS_REGION_SIZE 0 → State.reset.reg o = resetWord r.fields) ∧
  State.reset.runState = 0 ∧ State.reset.isRunning = false ∧ State.reset.sched.dtc = 0 ∧
  State.reset.reg R.TB_INCR = 0xAAAAAAAA ∧ State.reset.reg (R.CIC_SRC 17) = 0x0010100F ∧
  State.reset.reg (R.DS_REGION 0) = 0x900007F0 ∧ (∀ c w, State.reset.dmWord c w = 0)

/-- R34 and R35, in both directions. -/
def Obligations.StepWordsRoundTrip : Prop :=
  (∀ i : StepWord, StepOpWf i.op = true → decodeStepWord (encodeStepWord i) = some i) ∧
  (∀ (w : Dword) (i : StepWord), decodeStepWord w = some i → encodeStepWord i = w ∧ StepOpWf i.op = true)

/-- R39, with the index of R32. -/
def Obligations.EvalGivesTheTableBit : Prop :=
  ∀ (b : Bp) (m : Marks) (fn : BitVec 8) (x y z u : Operand) (s : State),
    s.issues b (.eval fn x y z u) = true → s.readsClean b (.eval fn x y z u) = true →
    s.unforced b = true → s.sendClean b m = true →
    let i := natOfBool (s.chainOf b).v * 16 + natOfBool (s.operandValue b x).v * 8 + natOfBool (s.operandValue b y).v * 4 +
      natOfBool (s.operandValue b z).v * 2 + natOfBool (s.operandValue b u).v
    ∃ t, exec (.eval b fn x y z u m) s = .next t ∧
      t.fab.chain = NMap.set dNv s.fab.chain b.val
        ⟨(s.reg (R.GAL_FTABLE (galOf b) (b.val / 64 % 16) fn.toNat)).getLsbD i, true⟩

/-- R40: exact X propagation. -/
def Obligations.EvalxGivesTheOnlyBit : Prop :=
  ∀ (b : Bp) (m : Marks) (fn : BitVec 8) (x y z u : Operand) (s : State),
    s.issues b (.evalx fn x y z u) = true → s.readsClean b (.evalx fn x y z u) = true →
    s.unforced b = true → s.sendClean b m = true →
    let inputs : List Nv := [s.operandValue b u, s.operandValue b z, s.operandValue b y, s.operandValue b x, s.chainOf b]
    let agrees (i : Nat) : Prop := ∀ (j : Fin 5), (inputs.getD j.val Nv.x).k = true → i.testBit j.val = (inputs.getD j.val Nv.x).v
    let table (i : Nat) : Bool := (s.reg (R.GAL_FTABLE (galOf b) (b.val / 64 % 16) fn.toNat)).getLsbD i
    ∃ t r, exec (.evalx b fn x y z u m) s = .next t ∧ t.fab.chain = NMap.set dNv s.fab.chain b.val r ∧
      (∀ bit, (∀ i, i < 32 → agrees i → table i = bit) → r = ⟨bit, true⟩) ∧
      ((∃ i j, i < 32 ∧ j < 32 ∧ agrees i ∧ agrees j ∧ table i ≠ table j) → r = ⟨false, false⟩)

/-- R42, with both tables written out; START is R41's. -/
def Obligations.ResolveFollowsTheTables : Prop :=
  ∀ (b : Bp) (m : Marks) (start : Bool) (p : Pull) (act : BusAction) (oa ob oc od : Operand) (a bb c d e : Quad) (s : State),
    s.issues b (.resolve start p act oa ob (some (oc, od))) = true →
    s.readsClean b (.resolve start p act oa ob (some (oc, od))) = true → s.unforced b = true → s.sendClean b m = true →
    s.operandValue b oa = a.nv → s.operandValue b ob = bb.nv → s.operandValue b oc = c.nv → s.operandValue b od = d.nv →
    s.chainOf b = e.nv →
    let first := combineTable (if start then .z else e) (driverTable bb a)
    let second := combineTable first.1 (driverTable d c)
    let result := pullTable p second.1
    exec (.resolve b start p act oa ob (some (oc, od)) m) s =
      .next (((s.contention b act (first.2 || second.2)).finish b ⟨.resolve start p act oa ob (some (oc, od)), m⟩
        result.nv).useFlag b (.resolve start p act oa ob (some (oc, od)))) ∧
    ∃ t, exec (.resolve b start p act oa ob (some (oc, od)) m) s = .next t ∧
      t.fab.chain = NMap.set dNv s.fab.chain b.val result.nv

/-- R325. -/
def Obligations.LevelSourcesAreSampledAtCompletion : Prop :=
  ∀ (t : Fin 5) (id : BitVec 9) (s : State),
    s.cic.service.any (fun v => v.target == t.val && v.src == id.toNat) = true →
    (∀ v ∈ s.cic.service, v.src = id.toNat → v.target = t.val) → cicListed id.toNat = true →
    (∃ u, exec (.cicComplete t id false) s = .next u ∧
      (s.cicIsEdge id.toNat = false → u.cicPending id.toNat = s.cicInput id.toNat) ∧
      (s.cicIsEdge id.toNat = true → u.cicPending id.toNat = s.cicPending id.toNat)) ∧
    (s.cicIsEdge id.toNat = true → ∀ level : Bool, ∃ v u, exec (.sourceEvent ⟨id.toNat, id.isLt⟩ level) s = .next v ∧
      exec (.cicComplete t id false) v = .next u ∧ (¬(35 ≤ id.toNat ∧ id.toNat ≤ 38) → u.cicPending id.toNat = true))

/-- R35 to R57: the result and the effect of each operation of the step word, from the operand values of R28 and R30.
Completes, for a word that issues: nop, eval, evalx, resolve, maddr, mwdat, mrd, mwr, matom, mdeeprd, mdeepwr, pinin, pinout,
assert, trig, sync, const (stepInstr). -/
def Obligations.StepWordIssues : Prop :=
  ∀ (b : Bp) (op : StepOp) (m : Marks) (s : State), s.issues b op = true → s.readsClean b op = true →
    exec (stepInstr b m op) s = .next (((s.wordEffect b op).finish b ⟨op, m⟩ (s.wordResult b op)).useFlag b op)

/-- R36 and R44: the chain, the marks K, P and S, and the staging deposit. -/
def Obligations.ResultGoesByMarks : Prop :=
  ∀ (b : Bp) (op : StepOp) (m : Marks) (s : State) (r : Nv), s.unforced b = true → s.sendClean b m = true →
    let t := s.finish b ⟨op, m⟩ r
    let four := s.four (galOf b)
    let n := s.resultBase + s.sched.step
    let c := b.val / 64
    let l := b.val % 64
    let path := route s.part.stepping b (s.slotOf b)
    t.fab.chain = NMap.set dNv s.fab.chain b r ∧
    t.fab.nsCur = (if m.k then netPut s.fab.nsCur four b n r else s.fab.nsCur) ∧
    t.fab.nsTag = (if m.k then tagSet s.fab.nsTag four b n else s.fab.nsTag) ∧
    t.fab.nsPrev = s.fab.nsPrev ∧
    t.fab.capture = (if m.p then NMap.set (fun _ => []) s.fab.capture b
      (NMap.get (fun _ => []) s.fab.capture b ++ if four then [r.v, r.k] else [r.v]) else s.fab.capture) ∧
    t.fab.addrV = (match op with
      | .maddr .. => NMap.set dZero32 s.fab.addrV c (Field.put ⟨l, l⟩ (NMap.get dZero32 s.fab.addrV c) (natOfBool r.v))
      | _ => s.fab.addrV) ∧
    t.fab.addrX = (match op with
      | .maddr .. => NMap.set dZero32 s.fab.addrX c (Field.put ⟨l, l⟩ (NMap.get dZero32 s.fab.addrX c) (natOfBool !r.k))
      | _ => s.fab.addrX) ∧
    t.fab.wordV = (match op with
      | .mwdat .. => NMap.set dZero64 s.fab.wordV c (putBit (NMap.get dZero64 s.fab.wordV c) l r.v)
      | _ => s.fab.wordV) ∧
    t.fab.wordX = (match op with
      | .mwdat .. => NMap.set dZero64 s.fab.wordX c (putBit (NMap.get dZero64 s.fab.wordX c) l !r.k)
      | _ => s.fab.wordX) ∧
    t.fab.inflight = (match m.s, path with
      | true, some (.loc, lat, dests) =>
        dests.foldl (fun q d => insertArrival ⟨d, .loc, s.sched.step, r, s.sched.now + lat, 0⟩ q) s.fab.inflight
      | _, _ => s.fab.inflight) ∧
    t.fab.flights = (match m.s, path with
      | true, some (.loc, _, _) => s.fab.flights
      | true, some p => insertFlight (flightOf s.sched.now b s.sched.step p r) s.fab.flights
      | _, _ => s.fab.flights) ∧
    t.psg = (match m.s, path with
      | true, none => (s.linkPlace four (s.slotOf b) r).psg
      | _, _ => s.psg) ∧
    t.regs = s.regs ∧ t.mem = s.mem ∧ t.sched = s.sched ∧ t.rim = s.rim

/-- R46 to R48: a bank access of the schedule. R45: the enable and the address of a memory operation. R121 and R122. Completes:
deepWriteAccept. -/
def Obligations.BankAndDeepOperations : Prop :=
  (
    ∀ (b : Bp) (en : Operand) (s : State), s.operandValue b en = Nv.one → s.fab.memOps.contains (b.val / 64) = false →
      (s.stagedAddr (b.val / 64)).2 = 0 → (s.stagedAddr (b.val / 64)).1 < 8192 → s.lnt.armed = [] →
      let c := b.val / 64
      let w := (s.stagedAddr c).1
      let busy := { s.fab with memOps := c :: s.fab.memOps, bankUse := c :: s.fab.bankUse }
      let lanes (t : State) (d : Dword) : State :=
        (List.range 64).foldl (fun t i => t.launch (c * 64 + i) .memory s.sched.step 6 (Nv.ofBool (d.getLsbD i))) t
      let stored (d : Dword) : State :=
        { s with fab := busy,
                 mem := { s.mem with dm := NMap.set dZero64 s.mem.dm (c * 8192 + w) d,
                                     dmEcc := NMap.set dGood s.mem.dmEcc (c * 8192 + w) .good,
                                     dripBack := s.mem.dripBack.filter (fun e => e != (c, w)) } }
      s.dmMark c w = .good →
      s.wordEffect b (.mrd en) = lanes { s with fab := busy } (s.dmWord c w) ∧
      (∀ mask : BitVec 8, mergeBytes mask 0 (NMap.get dZero64 s.fab.wordX c) = 0 →
        s.wordEffect b (.mwr mask en) = stored (mergeBytes mask (s.dmWord c w)
          (NMap.get dZero64 s.fab.wordV c &&& ~~~NMap.get dZero64 s.fab.wordX c))) ∧
      (NMap.get dZero64 s.fab.wordX c = 0 → ∀ swap : Bool,
        s.wordEffect b (.matom swap en) = lanes (stored (if swap then NMap.get dZero64 s.fab.wordV c
          else s.dmWord c w + NMap.get dZero64 s.fab.wordV c)) (s.dmWord c w))) ∧
  (
    ∀ (b : Bp) (en : Operand) (mask : BitVec 8) (s : State), s.fab.memOps.contains (b.val / 64) = false →
      let c := b.val / 64
      let g := galOf b
      let bank := { s with fab := { s.fab with memOps := c :: s.fab.memOps, bankUse := c :: s.fab.bankUse } }
      let deep := { s with fab := { s.fab with memOps := c :: s.fab.memOps } }
      let l := s.locOf b
      let lanes (t : State) (x : Nv) : State :=
        (List.range 64).foldl (fun t i => t.launch (c * 64 + i) .memory s.sched.step 6 x) t
      ((s.operandValue b en).k = false →
        s.wordEffect b (.mwr mask en) = bank.record g 3 l ∧ s.wordEffect b (.mdeepwr mask en) = deep.record g 3 l ∧
        s.wordEffect b (.mrd en) = lanes (bank.record g 3 l) (absent (s.four g)) ∧
        s.wordEffect b (.mdeeprd en) = lanes (deep.record g 3 l) (absent (s.four g)) ∧
        ∀ swap, s.wordEffect b (.matom swap en) = lanes (bank.record g 3 l) (absent (s.four g))) ∧
      (s.operandValue b en = Nv.zero →
        s.wordEffect b (.mwr mask en) = bank ∧ s.wordEffect b (.mdeepwr mask en) = deep ∧
        s.wordEffect b (.mrd en) = lanes bank Nv.zero ∧ s.wordEffect b (.mdeeprd en) = lanes deep Nv.zero ∧
        ∀ swap, s.wordEffect b (.matom swap en) = lanes bank Nv.zero) ∧
      (s.operandValue b en = Nv.one → (s.stagedAddr c).2 = 0 → 8192 ≤ (s.stagedAddr c).1 →
        s.wordEffect b (.mwr mask en) = bank.record g 2 l ∧
        s.wordEffect b (.mrd en) = lanes (bank.record g 2 l) (absent (s.four g)))) ∧
  (
    ∀ (b : Bp) (en : Operand) (mask : BitVec 8) (swap : Bool) (s : State), s.fab.memOps.contains (b.val / 64) = true →
      let t := s.record (galOf b) 1 (s.locOf b)
      let zeros : State := (List.range 64).foldl (fun t i => t.launch (b.val / 64 * 64 + i) .memory s.sched.step 6 Nv.zero) t
      s.wordEffect b (.mwr mask en) = t ∧ s.wordEffect b (.mdeepwr mask en) = t ∧ s.wordEffect b (.mrd en) = zeros ∧
      s.wordEffect b (.matom swap en) = zeros ∧ s.wordEffect b (.mdeeprd en) = zeros) ∧
  (
    (∀ (b : Bp) (en : Operand) (s : State), s.operandValue b en = Nv.one → s.fab.memOps.contains (b.val / 64) = false →
      (s.stagedAddr (b.val / 64)).2 = 0 → s.granted (galOf b) ((s.stagedAddr (b.val / 64)).1 * 8) = true →
      s.chanReady (dsChannel ((s.stagedAddr (b.val / 64)).1 * 8)) = true →
      let c := b.val / 64
      let w := (s.stagedAddr c).1
      let out (o : DeepOp) : State :=
        { s with fab := { s.fab with memOps := c :: s.fab.memOps, deep := s.fab.deep ++ [o] } }
      s.wordEffect b (.mdeeprd en) = out { cham := c, lane := b % 64, step := s.sched.step, word := w, write := false,
                                           mask := 0, data := s.deepView c w, tick := s.sched.curTick } ∧
      ∀ mask : BitVec 8, mergeBytes mask 0 (NMap.get dZero64 s.fab.wordX c) = 0 →
        s.wordEffect b (.mdeepwr mask en) =
          out { cham := c, lane := b % 64, step := s.sched.step, word := w, write := true, mask := mask,
                data := NMap.get dZero64 s.fab.wordV c &&& ~~~NMap.get dZero64 s.fab.wordX c, tick := s.sched.curTick }) ∧
    (∀ (c : Cham) (s : State), s.nextDeepWrite c = none → exec (.deepWriteAccept c) s = .next s) ∧
    (∀ (c : Cham) (o : DeepOp) (s : State), s.nextDeepWrite c = some o → s.lnt.armed = [] →
      s.mem.dsDrop.contains (o.word / 8) = false → s.mem.dsUnread.contains (o.word / 8) = false → s.dsMark o.word = .good →
      let t := { s with fab := { s.fab with deep := s.fab.deep.erase o },
                        mem := { s.mem with dsBack := s.mem.dsBack.filter (fun b => b != o.word) } }
      let u := t.dsWordPut o.word o.mask o.data
      exec (.deepWriteAccept c) s =
        .next { u with mem := { u.mem with dsEcc := NMap.set dGood u.mem.dsEcc o.word .good } }))

/-- R51 to R57. -/
def Obligations.PinsEventsAndConstants : Prop :=
  ∀ (b : Bp) (a : Operand) (s : State),
    let v := s.operandValue b a
    let g := galOf b
    (∀ pin : Fin 192,
      let due : Arrival := ⟨b, .pin, s.sched.step, Nv.ofBool (s.pinBit pin), s.sched.now + 14, 0⟩
      s.wordEffect b (.pinin pin) = { s with fab := { s.fab with inflight := insertArrival due s.fab.inflight } } ∧
      s.wordEffect b (.pinout pin a) =
        { s with rim := { s.rim with outVals := NMap.set dNv s.rim.outVals pin v, lastPinout := some s.sched.now } }) ∧
    (∀ leaf : Fin 64, s.wordEffect b (.trig leaf a) =
      if v = Nv.one then { s with fab := { s.fab with leaves := NMap.set dFalse s.fab.leaves (g * 65 + leaf) true } } else s) ∧
    (∀ act : AssertAct, assertFires act v = false → s.wordEffect b (.assert act a) = s) ∧
    (∀ act : AssertAct, (v = Nv.one ∨ (act.xfire = true ∧ v.k = false)) →
      (NMap.get (fun _ => []) s.fab.asserts g).length < 64 →
      let t := s.wordEffect b (.assert act a)
      let r : AssertRec := { actions := assertCode act % 8, unknown := !v.k, ctx := s.sched.ctx, step := s.sched.step,
                             bp := b % 64, cham := b / 64 % 16, tick := s.tick32 }
      t.fab.leaves = NMap.set dFalse s.fab.leaves (g * 65 + 64) true ∧
      t.fab.asserts = (if act.log then NMap.set (fun _ => []) s.fab.asserts g
        (NMap.get (fun _ => []) s.fab.asserts g ++ [r]) else s.fab.asserts) ∧
      t.sched = { s.sched with haltPending := act.halt || s.sched.haltPending } ∧
      t.cic = (if act.intr then (s.cicEvent (128 + g)).cic else s.cic) ∧
      t.regs = s.regs ∧ t.mem = s.mem) ∧
    (∀ c : ConstSel, c ≠ .random → s.wordEffect b (.const c) = s) ∧
    (let next := (prngNext (NMap.get dPrng s.fab.prng b)).2
     s.wordEffect b (.const .random) = { s with fab := { s.fab with prng := NMap.set dPrng s.fab.prng b next } })

/-- R18, R37 and R72: when a step word has no effect, is rejected, or waits. -/
def Obligations.WordsThatDoNotIssue : Prop :=
  ∀ (b : Bp) (op : StepOp) (m : Marks) (s : State),
    ((s.takesSteps (galOf b) = false ∨ s.sched.phase ≠ .steps ∨ s.schedLen ≤ s.sched.step) →
      exec (stepInstr b m op) s = .next s) ∧
    (s.takesSteps (galOf b) = true → s.stepDue = true → legalIn (s.four (galOf b)) (b.val % 64) op = false →
      exec (stepInstr b m op) s = .fault .rejectedWord) ∧
    (s.takesSteps (galOf b) = true → s.stepDue = true → legalIn (s.four (galOf b)) (b.val % 64) op = true →
      ((operandsOf op).any (fun o => s.awaits b o) || s.syncWaits b op || s.deepWaits b op) = true →
      exec (stepInstr b m op) s = .next (s.hold (s.waitersOf b op) (s.syncWaits b op)))

/-- R67: an arrival is written to the entry of its receive record. R122: the data of a deep read. Completes: arrival. -/
def Obligations.ArrivalsLandInTheReceiveArea : Prop :=
  ∀ (b : Bp) (port : RxPort) (step : Fin 1024) (x : Nv) (s : State),
    let deepRead (o : DeepOp) : Bool := !o.write && o.cham == b.val / 64 && o.step == step.val
    ((port ≠ .memory ∨ s.fab.deep.any deepRead = false) →
      (s.fab.isolated.contains (galOf b) = true → exec (.arrival b port step x) s = .next s) ∧
      (s.fab.isolated.contains (galOf b) = false → s.recvFor b port.code step = none →
        exec (.arrival b port step x) s = .next (s.put (R.GAL_RX_DISCARD (galOf b)) F.GAL_RX_DISCARD_COUNT
          (satAdd (F.GAL_RX_DISCARD_COUNT.size - 1) (s.fld (R.GAL_RX_DISCARD (galOf b)) F.GAL_RX_DISCARD_COUNT) 1))) ∧
      (∀ (i : Nat) (w : Word), s.fab.isolated.contains (galOf b) = false → s.recvFor b port.code step = some (i, w) →
        s.lnt.armed = [] → NMap.get dFalse s.fab.recvBad i = false →
        (s.fab.landed.contains (b.val, port.code, step.val) = true →
          exec (.arrival b port step x) s = .next (s.recordSched (galOf b) 0 (s.locOf b))) ∧
        (s.fab.landed.contains (b.val, port.code, step.val) = false →
          s.fab.ended.contains (b.val, w.toNat % 1024) = false → s.unforced b = true →
          let four := s.four (galOf b)
          let n := rxBase four + w.toNat % 1024
          tagGet s.fab.nsTag four b n = false →
          let fab := { s.fab with landed := (b.val, port.code, step.val) :: s.fab.landed,
                                  nsCur := netPut s.fab.nsCur four b n x, nsTag := tagSet s.fab.nsTag four b n }
          exec (.arrival b port step x) s = .next { s with fab := fab }))) ∧
    (∀ o, s.fab.deep.find? deepRead = some o → s.mem.dsUnread = [] → s.dsMark o.word = .good →
      s.deepMerge o.cham o.word (s.fab.deep.takeWhile (fun p => p != o)) = o.data →
      exec (.arrival b .memory step x) s = .next ((List.range 64).foldl (fun t i =>
        t.land (o.cham * 64 + i) .memory o.step (Nv.ofBool (o.data.getLsbD i)))
        { s with fab := { s.fab with deep := s.fab.deep.erase o } }))

/-- R72 to R76: one period of the scheduled steps, and the end of a hold that is too long. Completes: stepIssue, holdLimit. -/
def Obligations.StepAndHoldPeriods : Prop :=
  ∀ s : State,
    ((s.sched.phase ≠ .steps ∨ s.schedLen ≤ s.sched.step) → exec .stepIssue s = .next s) ∧
    (s.stepDue = true → s.decodeFetched (s.fetchStep false) = none → exec .stepIssue s = .fault .rejectedWord) ∧
    (∀ ws, s.stepDue = true → s.decodeFetched (s.fetchStep false) = some ws →
      (ws.any (fun w => s.wordWaits w.1 w.2.op) = false → s.sched.backlog = [] →
        exec .stepIssue s = .next (s.issueStep (s.fetchStep false) ws)) ∧
      ((ws.any (fun w => s.wordWaits w.1 w.2.op) = true ∨ (s.sched.backlog ≠ [] ∧ s.sched.holdOver = false)) →
        exec .stepIssue s = .next (s.hold (s.stepWaiters ws) (ws.any (fun w => s.syncWaits w.1 w.2.op))))) ∧
    ((s.sched.holdLen = 0 ∨ s.sched.holdLen < s.sched.holdMax) → exec .holdLimit s = .next s) ∧
    (0 < s.sched.holdLen → s.sched.holdMax ≤ s.sched.holdLen →
      (∀ ws, s.sched.phase = .steps → s.decodeFetched (s.fetchStep false) = some ws →
        (s.onlyTimeWaits ws = true → exec .holdLimit s = .next s) ∧
        (s.onlyTimeWaits ws = false →
          let t := s.endStepWaits ws
          exec .holdLimit s = .next { t with sched := { t.sched with haltPending := true, holdOver := true } })) ∧
      (s.sched.phase = .t3 →
        let t := s.endFlipWaits
        exec .holdLimit s = .next { t with sched := { t.sched with haltPending := true, holdOver := true } })) ∧
    (∀ (ws : List Waiter) (sync : Bool), (s.hold ws sync).sched.holdMax =
      if s.sched.holdLen = 0 then s.holdLimit else s.sched.holdMax)

/-- The clear commands of the counters, with their frame; the clear commands of fields; R13 for the rows that write a
gallery's window. Completes: clrHold, clrSync, clrOverrun, clrSlip, clrDiscard, clrSlipLast, galClrCe, clrFec, clrRetry,
clrDrop, dsErrClr, clrStretch, dmCeCountClear, rimPwCountClear, nocNoepDropClear, nocOffCountClear, doneCountClear,
cicCountsClear, wiuCountClear, errCountClear (clearedBy); galClrLost, tcForwardedClear, echoClrLost. -/
def Obligations.CountersAreCleared : Prop :=
  (
    ∀ (c : Instr) (os : List Nat) (s : State), s.canon → clearedBy c = some os → s.windowOpen c = true →
      ∃ t, exec c s = .next t ∧ (∀ o ∈ os, t.reg o = 0) ∧ RegsBut os s t) ∧
  (
    ∀ s : State, s.canon →
      (∀ g : Gal, s.isOff g.val = false →
        ∃ t, exec (.galClrLost g) s = .next t ∧ RegsBut [R.GAL_ASSERT_STATUS g.val] s t ∧
          t.reg (R.GAL_ASSERT_STATUS g.val) = F.GAL_ASSERT_STATUS_LOST.put (s.reg (R.GAL_ASSERT_STATUS g.val)) 0) ∧
      (∀ e : Fin 2, ∃ t, exec (.tcForwardedClear e) s = .next t ∧ RegsBut [R.ETH_STATUS e.val] s t ∧
        t.reg (R.ETH_STATUS e.val) = F.ETH_STATUS_TC_FORWARDED.put (s.reg (R.ETH_STATUS e.val)) 0) ∧
      (∃ t, exec .echoClrLost s = .next t ∧ t.reg R.ECHO_LOST_COUNT = 0 ∧
        RegsBut (R.ECHO_LOST_COUNT :: (List.range 64).map R.GAL_ECHO_STATUS) s t ∧
        ∀ g : Gal, t.reg (R.GAL_ECHO_STATUS g.val) = F.GAL_ECHO_STATUS_LOST.put (s.reg (R.GAL_ECHO_STATUS g.val)) 0)) ∧
  (
    ∀ (c : Instr) (g : Gal) (s : State), windowOf c = some g → s.isOff g.val = true →
      exec c s = .next (s.put (R.NOC_OFF_COUNT g.val) F.NOC_OFF_COUNT_POSTED
        (satAdd (F.NOC_OFF_COUNT_POSTED.size - 1) (s.fld (R.NOC_OFF_COUNT g.val) F.NOC_OFF_COUNT_POSTED) 1)))

/-- R17 to R19: the phases of an emulated cycle. Completes: tick, turnover, echoRecordClose, echoRecordWritten. -/
def Obligations.CycleBeginsAndTurnsOver : Prop :=
  ∀ s : State,
    ((s.sched.phase ≠ .between ∨ s.sched.running = false ∨ s.hasImage = false) → exec .tick s = .next s) ∧
    (s.sched.phase = .between → s.sched.running = true → s.hasImage = true → s.sched.engine = false →
      s.nextDue = none → s.tickWaits = true → ∃ t, exec .tick s = .next t ∧ t.sched.phase = .between ∧
        t.sched.tickHeld = true ∧ t.sched.nextTick = s.sched.nextTick ∧ t.fab.chain = s.fab.chain ∧
        (s.awaitsNotice = false → t.psg.barrierWait = s.psg.barrierWait) ∧
        (s.awaitsNotice = true → t.psg.barrierWait = s.psg.barrierWait + 1)) ∧
    (s.sched.phase = .between → s.sched.running = true → s.hasImage = true → s.sched.engine = false →
      s.nextDue = none → s.tickWaits = false → s.psg.early = [] →
      ∃ t, exec .tick s = .next t ∧ t.sched.curTick = s.sched.nextTick ∧ t.sched.nextTick = s.sched.nextTick + 1 ∧
        t.sched.phase = .steps ∧ t.sched.step = 0 ∧ t.sched.now = s.sched.now ∧ t.fab.chain = [] ∧ t.fab.leaves = [] ∧
        t.fab.nsPrev = s.fab.nsPrev ∧ t.fab.nsCur = s.fab.nsCur ∧ t.mem = s.mem ∧ t.pending = s.pending) ∧
    ((s.sched.phase ≠ .steps ∨ s.sched.step < s.schedLen) → exec .turnover s = .next s) ∧
    (s.sched.phase = .steps → s.schedLen ≤ s.sched.step → s.sched.holdLen = 0 → s.rim.lastPinout = none →
      exec .turnover s = .next ((State.elapseN 2 s).setPhase .t2)) ∧
    (s.sched.phase ≠ .t2 → exec .echoRecordClose s = .next s) ∧
    (s.sched.phase = .t2 → s.echo.capturing = false → s.sched.holdLen = 0 →
      exec .echoRecordClose s = .next (s.elapse.setPhase .t3)) ∧
    (s.sched.phase = .t2 → s.echo.capturing = true → ∀ u, s.closeWhole = some u →
      exec .echoRecordClose s = .next u.windowStep.toT3) ∧
    (s.echo.recs = [] → exec .echoRecordWritten s = .next s) ∧
    (∀ r rs, s.echo.recs = r :: rs → r.tick ≠ s.sched.curTick →
      exec .echoRecordWritten s = .next (s.recordWritten r).disarmIfIdle)

/-- R25: at T3 the previous generation takes the current value where the tag is set. R19: T3 waits for all that the
cycle sent, up to the hold limit. Completes: generationFlip. -/
def Obligations.GenerationFlipCarriesForward : Prop :=
  ∀ s : State,
    (s.sched.phase ≠ .t3 → exec .generationFlip s = .next s) ∧
    (s.sched.phase = .t3 → s.flipWaits = true → exec .generationFlip s = .next (s.hold s.flipWaiters false)) ∧
    (s.sched.phase = .t3 → (s.sched.holdOver = true ∨ (s.fab.inflight = [] ∧ s.fab.flights = [] ∧
        s.fab.deep.any (fun o => !o.write) = false ∧ s.missingFlits = [] ∧ ∀ j, s.echo.snap = some j → j.phase ≠ 1)) →
      s.flipWaits = false ∧
      (s.sched.holdLen = 0 → s.sched.holdOver = false →
        exec .generationFlip s = .next (State.elapseN 2 s.dropLate.flip.freeDeposits.triggerTree).enterT5) ∧
      ((0 < s.sched.holdLen ∨ s.sched.holdOver = true) →
        exec .generationFlip s = .next (State.elapseN 2 s.endHold.dropLate.flip.freeDeposits.triggerTree).enterT5)) ∧
    s.flip.fab.nsTag = [] ∧ s.flip.fab.addrV = [] ∧ s.flip.fab.wordV = [] ∧ s.flip.fab.nsCur = s.fab.nsCur ∧
    (NMap.wf dFalse s.fab.nsPrev = true → NMap.wf dFalse s.fab.nsTag = true → ∀ (four : Bool) (b n : Nat),
      (four = true → tagGet s.fab.nsTag false b (2 * n + 1) = tagGet s.fab.nsTag true b n) →
      netGet s.flip.fab.nsPrev four b n =
        if tagGet s.fab.nsTag four b n then netGet s.fab.nsCur four b n else netGet s.fab.nsPrev four b n)

/-- R20 and its neighbours: overruns (R84, R148), the actions at a boundary and the halt after them, forces and releases
that come due, the ASSERT FIFO. Completes: overrun, contextSwitch, tickConfigApply, haltAtBoundary, forceApply, releaseApply,
assertPop. -/
def Obligations.BoundaryCommands : Prop :=
  ∀ s : State,
    ((s.sched.running = false ∨ s.sched.phase = .between ∨ s.sched.overrun = true ∨ s.missesGrid 0 = false) →
      exec .overrun s = .next s) ∧
    (s.sched.running = true → s.sched.phase ≠ .between → s.sched.overrun = false → s.missesGrid 0 = true →
      let t := s.takeOverrun
      (s.inLattice = false → exec .overrun s = .next t) ∧
      (s.inLattice = true → exec .overrun s =
        .next ({ t with sched := { t.sched with haltPending := s.sched.haltPending } }.lateOverrun s.sched.nextTick)) ∧
      t.sched.overrun = true ∧
      t.sched.haltPending = (s.sched.haltPending || s.bit R.SCHED_TICK_CFG F.SCHED_TICK_CFG_POLICY) ∧
      t.bit R.SCHED_STATUS F.SCHED_STATUS_OVERRUN = true) ∧
    (s.sched.engine = false → (s.echo.stageDue = false ∨ s.sched.phase ≠ .t5) → ∀ p : Pending, s.nextDue = some p →
      let n := BitVec.ofNat 64 s.sched.nextTick.toNat
      (∀ c : Nat, p.act = .context c →
        exec .contextSwitch s = .next (((s.dropPending p).select c).completeOpt p.cmd 0 n).afterBoundary) ∧
      (∀ c : TickCfg, p.act = .tickCfg c →
        (s.sched.phase ≠ .t5 →
          exec .tickConfigApply s = .next (((s.dropPending p).setTickCfg c).completeOpt p.cmd 0 n).afterBoundary) ∧
        (s.sched.phase = .t5 → s.pinContext.sched.nextTick = s.sched.nextTick →
          exec .tickConfigApply s =
            .next (((s.pinContext.dropPending p).setTickCfg c).completeOpt p.cmd 0 n).afterBoundary))) ∧
    (s.sched.engine = false → s.echo.stageDue = false → (s.sched.phase = .t5 ∨ s.sched.running = false) →
      s.sched.pending.any (fun p => s.isDue p && !isHalt p.act) = false →
      let due := s.sched.pending.filter (fun p => s.isDue p && isHalt p.act)
      (s.sched.phase = .t5 → (due ≠ [] ∨ s.sched.haltPending = true) →
        exec .haltAtBoundary s = .next (due.foldl State.finishHalt s.pinContext.haltNow).afterBoundary) ∧
      (s.sched.phase ≠ .t5 → due ≠ [] →
        exec .haltAtBoundary s = .next (due.foldl State.finishHalt s).afterBoundary)) ∧
    (s.sched.engine = true → exec .contextSwitch s = .next s ∧ exec .tickConfigApply s = .next s ∧
      exec .haltAtBoundary s = .next s) ∧
    ((s.sched.phase = .between ∨ s.sched.phase = .t5) →
      exec .forceApply s = .next (s.settleForces s.sched.nextTick) ∧
      exec .releaseApply s = .next (s.settleReleases s.sched.nextTick)) ∧
    (s.sched.phase = .steps → exec .forceApply s = .next s ∧ exec .releaseApply s = .next s) ∧
    (∀ g : Gal, s.isOff g.val = false →
      let q := NMap.get (fun _ => []) s.fab.asserts g.val
      exec (.assertPop g) s =
        .next { s with fab := { s.fab with asserts := NMap.set (fun _ => []) s.fab.asserts g.val q.tail } })

/-- R253, R256, R260, R269, R354: when a mailbox command starts, and how it ends before its own effect: a target on a command
that takes none, a function that is not ready, a core without firmware (the status is then not stated: log 3). -/
def Obligations.MailboxCommandsAreGated : Prop :=
  ∀ (i : Instr) (f : MailboxForm) (s : State), s.mailboxForm i = some f →
    let c := cmdOf f.hdr
    let u := s.begin c f.cls
    (s.mayStart f i = false → exec i s = .next s) ∧
    (s.mayStart f i = true →
      (u.lnt.coreFw = 2 → f.always = false → exec i s = .next (u.used.complete c (u.freeVal 16))) ∧
      ((u.lnt.coreFw ≠ 2 ∨ f.always = true) →
        (f.hdr.target.isSome = true → f.target = false → exec i s = .next (u.complete c 2)) ∧
        ((f.hdr.target = none ∨ f.target = true) →
          ∀ n, u.firstUnready f.needs = some n → exec i s = .next (u.complete c 3 (BitVec.ofNat 64 n)))))

/-- R254 and R255: the entry of 32 bytes, its place, the phase, the interrupt. -/
def Obligations.CompletionPostsOneEntry : Prop :=
  ∀ (s : State) (c : CmdId) (status reason : Nat) (r0 r1 : Dword),
    (s.isOut c = false → s.complete c status r0 r1 reason = s) ∧
    (s.isOut c = true → c.origin = none →
      let t := s.complete c status r0 r1 reason
      let i := NMap.get (fun _ => 0) s.mbx.cqIndex c.queue
      let phase := NMap.get (fun _ => true) s.mbx.cqPhase c.queue
      let last : Bool := Nat.ble (s.qSize c.queue) (i + 1)
      let e : CqEntry :=
        { queue := c.queue, index := i, tag := c.tag, sqIndex := c.sqIndex, status := status, reason := reason,
          phase := phase, progress := false, remote := c.remote, result0 := r0, result1 := r1, time := s.ns }
      t.mbx.cq = s.mbx.cq ++ [e] ∧
      t.mbx.cqOut = s.mbx.cqOut ++ [(s.cqAddr c.queue i, e.bytes)] ∧ e.bytes.length = 32 ∧
      t.mbx.cqIndex = NMap.set (fun _ => 0) s.mbx.cqIndex c.queue (if last then 0 else i + 1) ∧
      t.mbx.cqPhase = NMap.set (fun _ => true) s.mbx.cqPhase c.queue (if last then !phase else phase) ∧
      t.mbx.outstanding = s.mbx.outstanding.filter (fun p => p.1 != c) ∧
      (c.intr = false → t.host = s.host) ∧
      (c.intr = true → ∃ v, t.host.msixPend = NMap.set (fun _ => false) s.host.msixPend v true) ∧
      t.sched = s.sched ∧ t.fab = s.fab ∧ t.mem = s.mem ∧ t.pending = s.pending)

/-- R263, R81, R88 and R90: the commands that run, halt and configure the device. R173 to R176: forces, deposits and peeks.
Completes: run, halt, step, setTick, selectContext, force, release, deposit, stateDeposit, peek. -/
def Obligations.RunsForcesAndPeeks : Prop :=
  (
    ∀ (h : Hdr) (s : State),
      let c := cmdOf h
      (s.serves (.run h) = true →
        let u := s.begunBy (.run h)
        (u.hasImage = false → exec (.run h) s = .next (u.complete c 6)) ∧
        (u.hasImage = true → u.inLattice = true → exec (.run h) s = .next (u.complete c 0x27)) ∧
        (u.hasImage = true → u.inLattice = false → u.isRunning = true →
          exec (.run h) s = .next (u.complete c 0 u.nextResult)) ∧
        (u.hasImage = true → u.inLattice = false → u.isRunning = false → u.keepMarch = false →
          exec (.run h) s = .next (u.goRunning.complete c 0 u.goRunning.nextResult)) ∧
        (u.hasImage = true → u.inLattice = false → u.isRunning = false → u.keepMarch = true →
          exec (.run h) s = .next { u with sched := { u.sched with runWaits := u.sched.runWaits ++ [(c, none)] } })) ∧
      (∀ cycles : Word, s.serves (.step h cycles) = true →
        let u := s.begunBy (.step h cycles)
        exec (.step h cycles) s = .next
          (if cycles = 0 then u.complete c 2 else if u.hasImage = false then u.complete c 6
           else if u.isRunning then u.complete c 7 else if u.inLattice then u.complete c 0x27
           else if u.keepMarch then
             { u with sched := { u.sched with runWaits := u.sched.runWaits ++ [(c, some cycles.toNat)] } }
           else { u.goRunning with
             sched := { u.goRunning.sched with stepsLeft := some cycles.toNat, stepCmd := some c } })) ∧
      (∀ cancel : Bool, s.serves (.halt h cancel) = true →
        let u := s.begunBy (.halt h cancel)
        (u.hasImage = false → exec (.halt h cancel) s = .next (u.complete c 6)) ∧
        (u.hasImage = true → (u.isRunning = true ∨ ∃ t, h.target = some t ∧ t ≠ u.sched.nextTick) →
          exec (.halt h cancel) s = .next (u.awaitCmd (.halt cancel) h.target c)) ∧
        (u.hasImage = true → u.isRunning = false → (h.target = none ∨ h.target = some u.sched.nextTick) →
          exec (.halt h cancel) s = .next
            (u.finishHalt { act := .halt cancel, target := none, cmd := some c, now := true }))) ∧
      (∀ ctx : BitVec 8, s.serves (.selectContext h ctx) = true →
        let u := s.begunBy (.selectContext h ctx)
        exec (.selectContext h ctx) s = .next
          (if u.fld R.SCHED_TICK_CFG F.SCHED_TICK_CFG_CTX_SOURCE = 1 then u.complete c 0x0E
           else if u.hasImage = true ∧ u.pace = false then u.complete c 0x0F
           else if u.resident ctx.toNat = false then u.complete c 0x0D
           else if h.target.any (fun t => u.passed t) then u.complete c 5
           else if u.selecting then u.complete c 4
           else if h.target = none then u.awaitT5 (.context ctx.toNat) c
           else u.awaitCmd (.context ctx.toNat) h.target c)) ∧
      (∀ (mode policy realign source : BitVec 8) (ns : Word) (frac : BitVec 16),
        s.serves (.setTick h mode policy realign source ns frac) = true →
        let u := s.begunBy (.setTick h mode policy realign source ns frac)
        exec (.setTick h mode policy realign source ns frac) s = .next
          (if 1 < mode.toNat ∨ 1 < policy.toNat ∨ 1 < realign.toNat ∨ 1 < source.toNat then u.complete c 2
           else if mode = 0 ∧ 3 * (ns.toNat * 2 ^ 32 + frac.toNat * 2 ^ 16) < 2 * u.periodLimit * 2 ^ 32 then u.complete c 0x10
           else u.awaitCmd (.tickCfg ⟨mode == 1, policy.toNat, realign.toNat, source.toNat, ns.toNat, frac.toNat⟩) h.target c))) ∧
  (
    ∀ (h : Hdr) (n : NetBlock) (s : State),
      let c := cmdOf h
      let b := blockBp n
      let k := blockTarget n
      let full (u : State) : Prop := 4 ≤ (u.fab.forces.filter (fun x => x.bp == b)).length
      let new (u : State) (e : ForceEntry) : State := { u with fab := { u.fab with forces := u.fab.forces ++ [e] } }
      (s.serves (.force h n) = true →
        let u := s.begunBy (.force h n)
        (∀ e, u.forceRefused n = some e → exec (.force h n) s = .next (u.complete c e)) ∧
        (u.forceRefused n = none → u.forceTick h.target = none → exec (.force h n) s = .next (u.complete c 5)) ∧
        (∀ t, u.forceRefused n = none → u.forceTick h.target = some t →
          let x : ForceChange := ⟨t, some (blockVal n), some c, h.target.isNone⟩
          (u.forceEntry b k = none → full u → exec (.force h n) s = .next (u.complete c 0x12).settleNow) ∧
          (u.forceEntry b k = none → ¬full u → exec (.force h n) s = .next (new u ⟨b, k, false, [x]⟩).settleNow) ∧
          (∀ e, u.forceEntry b k = some e → exec (.force h n) s = .next
            ((u.setChanges e (putChange x e.changes)).completeOpt
              ((e.changes.find? (sameChange x)).bind (fun y => y.cmd)) 0 (BitVec.ofNat 64 t.toNat)).settleNow))) ∧
      (s.serves (.release h n) = true →
        let u := s.begunBy (.release h n)
        (∀ e, u.forceRefused { n with value := 0 } = some e → exec (.release h n) s = .next (u.complete c e)) ∧
        (u.forceRefused { n with value := 0 } = none →
          (u.forceTick h.target = none → exec (.release h n) s = .next (u.complete c 5)) ∧
          (∀ t, u.forceTick h.target = some t →
            (u.forceEntry b k = none → exec (.release h n) s = .next (u.complete c 0x15)) ∧
            (∀ e, u.forceEntry b k = some e → e.changes.all (fun y => y.val.isSome) = true →
              exec (.release h n) s = .next
                (u.setChanges e (putChange ⟨t, none, some c, h.target.isNone⟩ e.changes)).settleNow)))) ∧
      (s.serves (.deposit h n) = true →
        let u := s.begunBy (.deposit h n)
        (∀ e, u.forceRefused n = some e → exec (.deposit h n) s = .next (u.complete c e)) ∧
        (u.forceRefused n = none → u.forceTick h.target = none → exec (.deposit h n) s = .next (u.complete c 5)) ∧
        (∀ t, u.forceRefused n = none → u.forceTick h.target = some t →
          (full u → exec (.deposit h n) s = .next (u.complete c 0x12).settleNow) ∧
          (¬full u → exec (.deposit h n) s = .next
            (new u ⟨b, k, true, [⟨t, some (blockVal n), some c, h.target.isNone⟩]⟩).settleNow))) ∧
      (∀ u : State, u.isRunning = true → u.settleNow = u) ∧
      (s.serves (.stateDeposit h n) = true →
        let u := s.begunBy (.stateDeposit h n)
        (∀ e, u.netRefused n = some e → exec (.stateDeposit h n) s = .next (u.complete c e)) ∧
        (u.netRefused n = none → n.value.toNat < 2 → n.addr.toNat < u.netCount n →
          (u.halted = true → exec (.stateDeposit h n) s =
            .next ((u.writePrev b n.addr.toNat (blockVal n)).complete c 0 u.nextResult)) ∧
          (u.halted = false → exec (.stateDeposit h n) s = .next (u.complete c 7)))) ∧
      (∀ buf : HostBuf, s.serves (.peek h n buf) = true →
        let u := s.begunBy (.peek h n buf)
        (∀ e, u.netRefused n = some e → exec (.peek h n buf) s = .next (u.complete c e)) ∧
        (u.netRefused n = none → u.netFour n = false → 0 < n.count.toNat → n.addr.toNat + n.count.toNat ≤ 2048 →
          (n.kind = 0 ∨ n.kind = 1) →
          let bits := (List.range n.count.toNat).map (fun i => (u.prevNet b (n.addr.toNat + i)).v)
          let t := BitVec.ofNat 64 u.peekTick.toNat
          (buf.len = 0 → n.count.toNat ≤ 64 →
            exec (.peek h n buf) s = .next (u.complete c 0 (BitVec.ofNat 64 (bitsNat bits)) t)) ∧
          (0 < buf.len → (bitBytes bits).length ≤ buf.len → buf.fault = none →
            exec (.peek h n buf) s = .next ((u.toHost c (bitBytes bits)).complete c 0 0 t)))))

/-- R101, R119, R261, R415: the memory commands. R247 to R253, R256, R258, R259, R269: the queues, their fetches, progress
entries and deadlines, core faults, remote commands, readiness. Completes: memRead, memWrite, memAtomic, mbxSqTailWrite,
mbxCqHeadWrite, queueEnable, queueDisable, commandFetch, progressEntry, cmdDeadline, coreFault, remoteCommand, getReady,
getReadyComplete, getReadyTimeout. -/
def Obligations.MemoryCommandsAndQueues : Prop :=
  (
    ∀ (h : Hdr) (space : BitVec 8) (addr : Dword) (buf : HostBuf) (s : State),
      let c := cmdOf h
      let a := addr.toNat
      let n := buf.len
      let done (t : State) : State := t.complete c 0 (BitVec.ofNat 64 n)
      (s.serves (.memRead h space addr buf) = true →
        let u := s.begunBy (.memRead h space addr buf)
        ((1 < space.toNat ∨ memLen n = false) → exec (.memRead h space addr buf) s = .next (u.complete c 2)) ∧
        (space = 0 → memLen n = true → dmRange a n = false → exec (.memRead h space addr buf) s = .next (u.complete c 2)) ∧
        (space = 0 → memLen n = true → dmRange a n = true → buf.fault = none → exec (.memRead h space addr buf) s =
          .next (u.bankRequest (cmdReq a (List.replicate ((a % 8 + n + 7) / 8) .read) (.cmd c 0 (a % 8) n)))) ∧
        (space = 1 → memLen n = true → 2 ^ 35 < a + n → exec (.memRead h space addr buf) s = .next (u.complete c 2)) ∧
        (space = 1 → memLen n = true → a + n ≤ 2 ^ 35 →
          (∀ x, deniedAt u.hostMayRead a n = some x →
            exec (.memRead h space addr buf) s = .next ((u.denyDs x).complete c 0x23)) ∧
          (deniedAt u.hostMayRead a n = none →
            let r := u.dsReadBytes a n
            (r.2.1 = true → exec (.memRead h space addr buf) s = .next (r.2.2.complete c 0x22)) ∧
            (r.2.1 = false → buf.fault = none → exec (.memRead h space addr buf) s = .next (done (r.2.2.toHost c r.1))) ∧
            (∀ f, r.2.1 = false → buf.fault = some f → f < n →
              exec (.memRead h space addr buf) s = .next ((r.2.2.toHost c (r.1.take f)).complete c 0x33))))) ∧
      (s.serves (.memWrite h space addr buf) = true →
        let u := s.begunBy (.memWrite h space addr buf)
        let bs := buf.bytes.take n
        ((1 < space.toNat ∨ memLen n = false) → exec (.memWrite h space addr buf) s = .next (u.complete c 2)) ∧
        (space = 0 → memLen n = true → dmRange a n = true → bs ≠ [] → buf.fault = none →
          exec (.memWrite h space addr buf) s =
            .next (u.bankRequest (cmdReq a (spanWrites (a % 8) bs) (.cmd c 1 0 n)))) ∧
        (space = 0 → memLen n = true → dmRange a n = true → ∀ f, buf.fault = some f → f < n → buf.bytes.take f ≠ [] →
          exec (.memWrite h space addr buf) s =
            .next (u.bankRequest (cmdReq a (spanWrites (a % 8) (buf.bytes.take f)) (.cmd c 4 0 n)))) ∧
        (space = 1 → memLen n = true → a + n ≤ 2 ^ 35 →
          (∀ x, deniedAt u.hostMayWrite a n = some x →
            exec (.memWrite h space addr buf) s = .next ((u.denyDs x).complete c 0x23)) ∧
          (deniedAt u.hostMayWrite a n = none → buf.fault = none → exec (.memWrite h space addr buf) s =
            .next (if u.partUe a bs.length then (u.dsWriteBytes a bs).complete c 0x22 else done (u.dsWriteBytes a bs))) ∧
          (∀ f, deniedAt u.hostMayWrite a n = none → buf.fault = some f → f < n → exec (.memWrite h space addr buf) s =
            .next ((u.dsWriteBytes a (buf.bytes.take f)).complete c 0x33)))) ∧
      (∀ (op : BitVec 8) (d : Dword), s.serves (.memAtomic h space addr op d) = true →
        let u := s.begunBy (.memAtomic h space addr op d)
        (space = 0 → op.toNat ≤ 1 → dmRange a 8 = true → a % 8 = 0 → exec (.memAtomic h space addr op d) s =
          .next (u.bankRequest (cmdReq a [.atomic (op == 1) d] (.cmd c 2 0 8)))) ∧
        ((space ≠ 0 ∨ 1 < op.toNat ∨ dmRange a 8 = false ∨ a % 8 ≠ 0) →
          exec (.memAtomic h space addr op d) s = .next (u.complete c 2)))) ∧
  (
    ∀ s : State,
      (∀ (q : Fin 16) (v : BitVec 10), s.qOn q.val = true → v.toNat < s.qSize q.val →
        exec (.mbxSqTailWrite q v) s = .next ((s.put (R.MBX_SQ_TAIL q.val) F.MBX_SQ_TAIL_TAIL v.toNat).cicEvent (1 + q.val))) ∧
      (∀ (q : Fin 16) (v : BitVec 10), (s.qOn q.val = false ∨ s.qSize q.val ≤ v.toNat) →
        exec (.mbxSqTailWrite q v) s = .next (s.raise (R.MBX_Q_STATUS q.val) F.MBX_Q_STATUS_DB_ERR) ∧
        exec (.mbxCqHeadWrite q v) s = .next (s.raise (R.MBX_Q_STATUS q.val) F.MBX_Q_STATUS_DB_ERR)) ∧
      (∀ (q : Fin 16) (v : BitVec 10),
        let n := s.qSize q.val
        let free := (v.toNat + n - s.fld (R.MBX_CQ_HEAD q.val) F.MBX_CQ_HEAD_HEAD % n) % n
        let u := s.put (R.MBX_CQ_HEAD q.val) F.MBX_CQ_HEAD_HEAD v.toNat
        s.qOn q.val = true → v.toNat < n → free ≤ s.cqUsed q.val →
        exec (.mbxCqHeadWrite q v) s =
          .next { u with mbx := { u.mbx with cqUsed := NMap.set dZero s.mbx.cqUsed q.val (s.cqUsed q.val - free) } }) ∧
      (∀ (q : Fin 16) (size : BitVec 11) (vector : BitVec 8),
        exec (.queueEnable q size vector) s = .next (s.writeQCfg q.val true size.toNat vector.toNat) ∧
        exec (.queueDisable q size vector) s = .next (s.writeQCfg q.val false size.toNat vector.toNat)) ∧
      (∀ (q : Fin 16) (e : List Byte),
        (s.canFetch q.val = true → exec (.commandFetch q (some e)) s = .next (s.takeEntry q.val e)) ∧
        (s.canFetch q.val = false → exec (.commandFetch q (some e)) s = .next s)) ∧
      (∀ (h : Hdr) (done total : Dword) (x : Started), s.isOut (cmdOf h) = true → h.origin = none →
        s.mbx.started = [x] → x.cmd = cmdOf h → x.cls = .long → x.next ≤ s.sched.now →
        s.outstanding h.queue.val + s.cqUsed h.queue.val < s.qSize h.queue.val →
        exec (.progressEntry h done total) s =
          .next ({ s with mbx := { s.mbx with started := [{ x with next := x.next + 150000000 }] } }.writeCq
            (cmdOf h) 0 0 true done total)) ∧
      (∀ (h : Hdr) (done total : Dword), (∀ x ∈ s.mbx.started, x.cmd = cmdOf h → x.cls ≠ .long ∨ s.sched.now < x.next) →
        exec (.progressEntry h done total) s = .next s) ∧
      (∀ (q : Fin 16) (x : Started), x ∈ s.mbx.started → x.cmd.queue = q.val → s.waitsBoundary x.cmd = false →
        (x.cls = .prompt ∧ x.since + 375000 ≤ s.sched.now ∨ x.cls = .normal ∧ x.since + 15000000 ≤ s.sched.now) →
        exec (.cmdDeadline q) s = .next (s.detect 0x0C 1 q.val)) ∧
      (∀ q : Fin 16, (∀ x ∈ s.mbx.started, x.cls = .long ∨ s.sched.now < x.since + 375000) →
        exec (.cmdDeadline q) s = .next s) ∧
      (∀ k : Fin 4, s.readyBit (112 + k.val) = false → exec (.coreFault k) s = .next s) ∧
      (∀ k : Fin 4, s.readyBit (112 + k.val) = true → s.mbx.outstanding = [] → ∃ t,
        exec (.coreFault k) s = .next t ∧ t.mem = s.mem ∧ t.mbx.cq = s.mbx.cq ∧ t.pending = s.pending) ∧
      (∀ (h : Hdr) (e bytes back : List Byte) (fault : Option Nat),
        let c := { cmdOf h with remote := true }
        let u := s.begin c (entryClass e)
        s.barred c = false → s.mbx.forwarded.any (fun f => f.1 == c) = false → s.fetchedEntry c = none →
        u.lowestCore.isSome = true → remoteBad e = false → u.bit R.LTC_ID F.LTC_ID_MAPPED = true →
        (u.routePort (entryDev e)).isSome = true → h.origin = none →
        ((fault = none ∨ entryOp e ≠ 0x41) →
          let t := u.forward e (if entryOp e = 0x41 then bytes.take (entryLen e) else [])
          exec (.remoteCommand h e bytes fault none back) s =
            .next { t with mbx := { t.mbx with forwarded := s.mbx.forwarded ++ [(c, entryDev e)] } }) ∧
        (∀ n, fault = some n → entryOp e = 0x41 → n < entryLen e →
          exec (.remoteCommand h e bytes fault none back) s = .next ((u.forward e (bytes.take n)).complete c 0x33))) ∧
      (∀ (h : Hdr) (e bytes : List Byte) (fault : Option Nat) (a : RemoteAnswer),
        let c := { cmdOf h with remote := true }
        s.mbx.forwarded.any (fun f => f.1 == c) = true →
        exec (.remoteCommand h e bytes fault (some a) []) s = .next ({ s with mbx := { s.mbx with
          forwarded := s.mbx.forwarded.filter (fun f => f.1 != c) } }.complete c a.status.toNat a.result0 a.result1
            a.reason.toNat)) ∧
      (∀ (h : Hdr) (mask : BitVec 128) (ms : Word), s.serves (.getReady h mask ms) = true →
        let c := cmdOf h
        let u := s.begunBy (.getReady h mask ms)
        (u.allReady mask = true → exec (.getReady h mask ms) s = .next (u.complete c 0 (u.readyPair 0) (u.readyPair 2))) ∧
        (u.allReady mask = false →
          let w : ReadyWait := ⟨c, mask, u.sched.now + (if ms = 0 then 1 else ms.toNat) * 1500000⟩
          exec (.getReady h mask ms) s = .next { u with mbx := { u.mbx with waits := u.mbx.waits ++ [w] } })) ∧
      (∀ w, s.mbx.waits.find? (fun w => s.allReady w.mask) = some w →
        exec .getReadyComplete s = .next (s.endWaitFor w 0)) ∧
      (∀ w, s.mbx.waits.find? (fun w => Nat.ble w.timeout s.sched.now) = some w →
        exec .getReadyTimeout s = .next (s.endWaitFor w 0x2C)))

/-- R164 to R172, R265, R266: the sequencer, the window, arming, disarming, the trigger, reading the ring. R178 to R183:
snapshots and restores. Completes: sequencerStageComplete, windowDone, echoArmApply, echoArm, echoDisarm, echoTrigger, echoRead,
snapshotShadowEnd, snapshotCopyEnd, snapDone, snapshotAbort, snapshotTake, restoreApply, snapshot, restore. -/
def Obligations.EchoCapturesAndSnapshots : Prop :=
  (
    ∀ s : State,
      (s.echo.stageDue = true → s.sched.phase = .t5 → s.echo.stage + 1 < s.stages →
        let u := { s with echo := { s.echo with stageDue := false, count := 0, stage := s.echo.stage + 1 } }
        exec .sequencerStageComplete s = .next (u.onRecord (fun r => { r with stage := u.shownStage })).afterBoundary) ∧
      (s.echo.stageDue = true → s.sched.phase = .t5 → s.stages ≤ s.echo.stage + 1 →
        let u := { s with echo := { s.echo with stageDue := false, count := 0 } }.fire
        exec .sequencerStageComplete s = .next (u.onRecord (fun r => { r with stage := u.shownStage })).afterBoundary) ∧
      ((s.echo.stageDue = false ∨ s.sched.phase ≠ .t5) → exec .sequencerStageComplete s = .next s) ∧
      (s.echo.windowDue = true → s.echo.recs = [] →
        let u := { s with echo := { s.echo with windowDue := false } }
        exec .windowDone s = .next (((u.raise R.ECHO_STATUS F.ECHO_STATUS_FROZEN).raise R.ECHO_STATUS
          F.ECHO_STATUS_WINDOW_DONE).cicEvent 25)) ∧
      ((s.echo.windowDue = false ∨ s.echo.recs ≠ []) → exec .windowDone s = .next s) ∧
      (∀ p : Pending, s.sched.engine = false → (s.echo.stageDue = false ∨ s.sched.phase ≠ .t5) → s.nextDue = some p →
        let u := s.dropPending p
        (∀ b : List Byte, p.act = .arm b →
          (u.armFail b = none → exec .echoArmApply s =
            .next ((u.arm b).completeOpt p.cmd 0 (BitVec.ofNat 64 (u.recMax * 64))).afterBoundary) ∧
          (∀ st, u.armFail b = some st → exec .echoArmApply s = .next (u.completeOpt p.cmd st).afterBoundary)) ∧
        (p.act = .disarm → exec .echoArmApply s = .next (u.beginDisarm p.cmd).afterBoundary)) ∧
      (∀ h : Hdr,
        let c := cmdOf h
        (∀ buf : HostBuf, s.serves (.echoArm h buf) = true →
          let u := s.begunBy (.echoArm h buf)
          (u.armed = true → exec (.echoArm h buf) s = .next (u.complete c 4)) ∧
          (u.armed = false → 3136 ≤ buf.len → buf.fault = none →
            (∀ st, u.armFail (buf.bytes.take 3136) = some st → exec (.echoArm h buf) s = .next (u.complete c st)) ∧
            (u.armFail (buf.bytes.take 3136) = none →
              exec (.echoArm h buf) s = .next (u.awaitCmd (.arm (buf.bytes.take 3136)) h.target c)))) ∧
        (s.serves (.echoDisarm h) = true →
          let u := s.begunBy (.echoDisarm h)
          exec (.echoDisarm h) s = .next
            (if u.armed = false then u.complete c 0x17
             else if h.target = none then u.beginDisarm (some c) else u.awaitCmd .disarm h.target c)) ∧
        (∀ fire : Bool, s.serves (.echoTrigger h fire) = true →
          let u := s.begunBy (.echoTrigger h fire)
          (u.armed = false → exec (.echoTrigger h fire) s = .next (u.complete c 0x17)) ∧
          (u.armed = true →
            let v := if fire then { u with echo := { u.echo with hostTrig := true } } else u
            exec (.echoTrigger h fire) s = .next (v.complete c 0
              (BitVec.ofNat 64 ((v.reg R.ECHO_STATUS).toNat + v.shownStage * 2 ^ 32))
              (BitVec.ofNat 64 ((v.reg R.ECHO_TRIG_TICK_LO).toNat + (v.reg R.ECHO_TRIG_TICK_HI).toNat * 2 ^ 32))))) ∧
        (∀ (off : BitVec 64) (consume : Bool) (buf : HostBuf), s.serves (.echoRead h off consume buf) = true →
          let u := s.begunBy (.echoRead h off consume buf)
          let a := off.toNat
          let n := buf.len
          (u.armed = false → exec (.echoRead h off consume buf) s = .next (u.complete c 0x17)) ∧
          (u.armed = true → a % 64 = 0 → a < u.regionSize 12 → n ≤ 2 ^ 20 → n ≤ u.regionSize 12 →
            ((consume && u.stream) = true → n % 64 = 0) →
            (u.ringReady a n = false → exec (.echoRead h off consume buf) s = .next (u.complete c 0x24)) ∧
            (u.ringReady a n = true → buf.fault = none →
              let r := u.ringBytes a n
              (r.2.1 = true → exec (.echoRead h off consume buf) s = .next (r.2.2.complete c 0x22)) ∧
              (r.2.1 = false →
                let v := r.2.2.toHost c r.1
                let w := if consume && v.stream then
                  v.put R.ECHO_RD_PTR F.ECHO_RD_PTR_OFFSET ((a + n) % u.regionSize 12 / 64) else v
                exec (.echoRead h off consume buf) s =
                  .next (w.complete c 0 (BitVec.ofNat 64 (w.reg R.ECHO_WR_PTR).toNat)))))))) ∧
  (
    ∀ s : State,
      (s.echo.snap = none → exec .snapshotShadowEnd s = .next s ∧ exec .snapshotCopyEnd s = .next s ∧
        exec .snapDone s = .next s) ∧
      (∀ j, s.echo.snap = some j →
        (j.phase = 1 → s.fab.isolated = [] →
          exec .snapshotShadowEnd s = .next (((s.setSnap { j with phase := 2 }).put R.SNAP_STATUS F.SNAP_STATUS_SHADOW 0).raise
            R.SNAP_STATUS F.SNAP_STATUS_COPYING)) ∧
        (j.phase = 1 → s.fab.isolated ≠ [] → exec .snapshotShadowEnd s = .next s.abortSnap) ∧
        (j.phase = 2 → exec .snapshotCopyEnd s = .next ((((s.copyErrors.2.setSnap
          { j with phase := 3, dmUe := s.copyErrors.1 }).put R.SNAP_STATUS F.SNAP_STATUS_SHADOW 0).put R.SNAP_STATUS
            F.SNAP_STATUS_COPYING 0).raise R.SNAP_STATUS F.SNAP_STATUS_DRAINING)) ∧
        (j.phase = 3 →
          let w := (snapSections j).foldl (fun t e => t.dsPut (j.base + e.1) e.2)
            (s.dsZero j.base (j.base + 0x6000000 + j.emuLen))
          let x := w.dsWriteUp j.base (snapHeader j (shake32 (w.covered j.base j.emuLen)))
          let y := { x with echo := { x.echo with snap := none } }.snapEnded j.slot 1
          let z := (y.put R.SNAP_TICK_LO F.SNAP_TICK_LO_TICK j.nextTick.toNat).put R.SNAP_TICK_HI F.SNAP_TICK_HI_TICK
            (j.nextTick.toNat / 2 ^ 32)
          exec .snapDone s = .next ((z.cicEvent 27).completeOpt j.cmd 0 (BitVec.ofNat 64 j.nextTick.toNat)).disarmIfIdle) ∧
        (j.phase ≠ 1 → exec .snapshotShadowEnd s = .next s) ∧ (j.phase ≠ 2 → exec .snapshotCopyEnd s = .next s) ∧
        (j.phase ≠ 3 → exec .snapDone s = .next s)) ∧
      exec .snapshotAbort s = .next s.abortSnapPhase2 ∧
      (∀ p : Pending, s.sched.engine = false → (s.echo.stageDue = false ∨ s.sched.phase ≠ .t5) → s.nextDue = some p →
        let d := s.dropPending p
        (∀ (slot : Nat) (emu : Bool), p.act = .snapshot slot emu →
          (d.armed = false → exec .snapshotTake s = .next (d.completeOpt p.cmd 0x17).afterBoundary) ∧
          (d.armed = true → d.echo.snap = none →
            exec .snapshotTake s = .next (d.takeSnap slot emu p.cmd).afterBoundary) ∧
          (∀ c, d.armed = true → d.echo.snap.isSome = true → p.cmd = some c →
            exec .snapshotTake s = .next (d.complete c 4).afterBoundary) ∧
          (d.armed = true → d.echo.snap.isSome = true → p.cmd = none →
            exec .snapshotTake s = .next (d.put R.SNAP_STATUS F.SNAP_STATUS_RESULT 3).afterBoundary)) ∧
        (∀ (a : Nat) (resume : Bool), p.act = .restore a resume →
          let u := if s.sched.running then d.haltNow else d
          let v := u.readErrors a (snapEmuLen (u.dsBytes a 128))
          (u.hasImage = false → exec .restoreApply s = .next (u.completeOpt p.cmd 6).afterBoundary) ∧
          (u.hasImage = true →
            (∀ st, v.restoreFail a = some st → exec .restoreApply s = .next (v.completeOpt p.cmd st).afterBoundary) ∧
            (v.restoreFail a = none → ∃ t, exec .restoreApply s = .next t ∧
              t.sched.nextTick = BitVec.ofNat 64 (armNat (v.dsBytes a 128) 8 8) ∧
              t.sched.ctx = armNat (v.dsBytes a 128) 0x18 1 ∧ t.sched.restored = true ∧ t.sched.engine = true ∧
              t.sched.restoreCmd = p.cmd ∧ t.sched.restoreResume = resume ∧ t.rim.restorePulse = 4 ∧
              t.psg.early = [] ∧ t.psg.holds = [])))) ∧
      (∀ h : Hdr,
        let c := cmdOf h
        (∀ slot : BitVec 8, s.serves (.snapshot h slot) = true →
          let u := s.begunBy (.snapshot h slot)
          exec (.snapshot h slot) s = .next
            (if u.armed = false then u.complete c 0x17
             else if u.fld R.ECHO_CTL F.ECHO_CTL_SNAP_SLOTS ≤ slot.toNat then u.complete c 0x19
             else if u.echo.snap ≠ none then u.complete c 4
             else u.awaitCmd (.snapshot slot.toNat (u.echo.emuMask != 0)) h.target c)) ∧
        (∀ (addr : BitVec 64) (resume : Bool), s.serves (.restore h addr resume) = true →
          let u := s.begunBy (.restore h addr resume)
          (u.hasImage = false → exec (.restore h addr resume) s = .next (u.complete c 6)) ∧
          (u.hasImage = true →
            (addr.toNat % 2 ^ 24 = 0 → addr.toNat < 2 ^ 35 → (u.inRegion 13 addr.toNat = true ∨ u.kindAt addr.toNat = 0) →
              exec (.restore h addr resume) s = .next (u.awaitCmd (.restore addr.toNat resume) h.target c)) ∧
            ((addr.toNat % 2 ^ 24 ≠ 0 ∨ 2 ^ 35 ≤ addr.toNat) →
              exec (.restore h addr resume) s = .next (u.complete c 2))))))

/-- R200 to R204: pin words out and in, the tick strobe, the samples. Completes: pinWordSend, pinWordApply, tickStrobe,
inputWordSample, inputWordComplete. -/
def Obligations.PinWordsAndStrobes : Prop :=
  ∀ s : State,
    (∀ (retries : Option Nat) (ready : Nat) (w : PinWord) (rest : List (Nat × PinWord)), s.rim.sendQ = (ready, w) :: rest →
      (s.sched.now < ready → exec (.pinWordSend retries) s = .next s) ∧
      (ready ≤ s.sched.now →
        let u := { s with rim := { s.rim with sendQ := rest } }
        ((retries = none ∨ s.pwr.d2dRate = 0) →
          exec (.pinWordSend retries) s = .next (u.pwLost F.RIM_PW_COUNT_OUT_DROP)) ∧
        (∀ delay, retries = some delay → s.pwr.d2dRate = 32 → s.rim.outQ = [] → w.tick = s.sched.curTick →
          exec (.pinWordSend retries) s = .next { u with rim := { u.rim with outQ :=
            [{ w with bytes := pinWordBytes w.tick w.vals, arrives := s.sched.now + 48 + delay, strobe := none }] } }))) ∧
    (∀ (retries : Option Nat) (p : Nat), s.rim.sendQ = [] → s.rim.lastPinout = some p → s.pinoutsDone = true →
      p + 12 ≤ s.sched.now → exec (.pinWordSend retries) s = .next ({ s with rim := { s.rim with
        lastPinout := none } }.leaveWord { tick := s.sched.curTick, vals := s.rim.outVals } retries)) ∧
    (∀ retries : Option Nat, s.rim.sendQ = [] → s.rim.lastPinout = none →
      exec (.pinWordSend retries) s = .next s) ∧
    (∀ (w : PinWord) (rest : List PinWord), s.rim.outQ = w :: rest →
      let t := { s with rim := { s.rim with outQ := rest } }
      (s.rimOn = false → w.arrives ≤ s.sched.now → ∀ late, exec (.pinWordApply late) s = .next t) ∧
      (∀ e, s.rimOn = true → s.bit R.RIM_PW_CFG F.RIM_PW_CFG_OUT_MODE = false → w.seen = some e →
        let due := e + s.fld R.RIM_PW_CFG F.RIM_PW_CFG_OUT_OFFSET
        exec (.pinWordApply true) s = .next s ∧
        (s.rim.pwCount < due → exec (.pinWordApply false) s = .next s) ∧
        (due ≤ s.rim.pwCount →
          let u := t.bump R.RIM_PW_COUNT F.RIM_PW_COUNT_X_OUT (t.countX w.vals)
          let v := (List.range 192).foldl (fun m n => NMap.set dFalse m n (NMap.get dNv w.vals n).v) s.rim.portV
          let x := (List.range 192).foldl (fun m n => NMap.set dFalse m n (!(NMap.get dNv w.vals n).k)) s.rim.portX
          exec (.pinWordApply false) s =
            .next ({ u with rim := { u.rim with portV := v, portX := x } }.usedN 256).settle)) ∧
      (∀ e k, s.rimOn = true → s.bit R.RIM_PW_CFG F.RIM_PW_CFG_OUT_MODE = true → w.seen = some e → w.strobe = some k →
        let off := s.fld R.RIM_PW_CFG F.RIM_PW_CFG_OUT_OFFSET
        (k + 1 + off < e → exec (.pinWordApply false) s = .next s ∧
          (s.rim.pwCount < e + off → exec (.pinWordApply true) s = .next s) ∧
          (e + off ≤ s.rim.pwCount → exec (.pinWordApply true) s = .next (t.applyWord w true))) ∧
        (e ≤ k + 1 + off → exec (.pinWordApply true) s = .next s ∧
          (s.rim.pwCount < k + 1 + off → exec (.pinWordApply false) s = .next s) ∧
          (k + 1 + off ≤ s.rim.pwCount → exec (.pinWordApply false) s = .next (t.applyWord w false))))) ∧
    (s.rim.outQ = [] → ∀ late, exec (.pinWordApply late) s = .next s) ∧
    (s.rim.strobeDue = false → exec .tickStrobe s = .next s) ∧
    (s.rim.strobeDue = true →
      let n := s.rim.pwCount
      let mark (w : PinWord) : PinWord :=
        if w.strobe.isNone && w.tick != s.sched.curTick then { w with strobe := some n } else w
      exec .tickStrobe s = .next { s with rim := { s.rim with
        strobe := true, strobeDue := false, strobeEdge := n, inSampled := false, outQ := s.rim.outQ.map mark } }.settle) ∧
    (s.rimOn = true → s.treeRuns (s.fld R.RIM_PW_CFG F.RIM_PW_CFG_PW_CLK) = true →
      s.bit R.RIM_PW_CFG F.RIM_PW_CFG_IN_MODE = false → s.rim.inSampled = false →
      s.rim.strobeEdge + s.fld R.RIM_PW_CFG F.RIM_PW_CFG_IN_ARG ≤ s.rim.pwCount → s.rim.streamNext = none →
      exec .inputWordSample s = .next
        ({ s with rim := { s.rim with inFlight := s.rim.inFlight ++ [s.inputWord], inSampled := true } }.usedN 256)) ∧
    (∀ n, s.rimOn = true → s.treeRuns (s.fld R.RIM_PW_CFG F.RIM_PW_CFG_PW_CLK) = true →
      s.bit R.RIM_PW_CFG F.RIM_PW_CFG_IN_MODE = true → s.rim.streamNext = some n → n ≤ s.rim.pwCount →
      exec .inputWordSample s = .next ({ s with rim := { s.rim with
        inFlight := s.rim.inFlight ++ [s.inputWord], inSampled := true,
        streamNext := some (n + s.fld R.RIM_PW_CFG F.RIM_PW_CFG_IN_ARG) } }.usedN 256)) ∧
    (s.rimOn = false → exec .inputWordSample s = .next s) ∧
    (∀ dropped : Bool, s.rim.inFlight = [] → exec (.inputWordComplete dropped) s = .next s) ∧
    (∀ (w : InWord) (rest : List InWord) (dropped : Bool), s.rim.inFlight = w :: rest → s.rimOn = true →
      let u := { s with rim := { s.rim with inFlight := rest } }
      ((dropped = true ∨ s.pwr.d2dRate = 0) →
        exec (.inputWordComplete dropped) s = .next (u.pwLost F.RIM_PW_COUNT_IN_DROP)) ∧
      (dropped = false → s.pwr.d2dRate ≠ 0 →
        let v := { u with rim := { u.rim with inWord := some w } }.raise R.RIM_PW_STATUS F.RIM_PW_STATUS_IN_SEEN
        (w.sampledAt ≤ s.sched.tickPeriod → exec (.inputWordComplete dropped) s = .next v) ∧
        (s.sched.tickPeriod < w.sampledAt → s.sched.pinFreshAt = none → exec (.inputWordComplete dropped) s =
          .next { v with sched := { v.sched with pinFreshAt := some s.sched.now } })))

/-- R194 and R195: the serial ports' FIFOs and the user flash. Completes: spDataWrite, spDataRead, serialByteReceive,
serialByteTransmit, uflProgram, uflErase, uflOpEnd, fabricFlashRead, flashDataValid. -/
def Obligations.SerialPortsAndUserFlash : Prop :=
  ∀ s : State,
    (∀ (p : Sp) (b : Byte),
      let q := NMap.get dNoBytes s.rim.tx p.val
      let r := NMap.get dNoBytes s.rim.rx p.val
      let got := NMap.get dNoBytes s.rim.rxDone p.val
      (q.length < 64 → exec (.spDataWrite p b) s =
        .next { s with rim := { s.rim with tx := NMap.set dNoBytes s.rim.tx p.val (q ++ [b]) } }.settle) ∧
      (64 ≤ q.length → exec (.spDataWrite p b) s = .next (s.raise (R.SP_STATUS p.val) F.SP_STATUS_TX_OVF).settle) ∧
      ((∀ more, got ≠ b :: more) → exec (.serialByteReceive p b) s = .next s) ∧
      (∀ more, got = b :: more →
        let u := { s with rim := { s.rim with rxDone := NMap.set dNoBytes s.rim.rxDone p.val more } }
        (r.length < 64 → exec (.serialByteReceive p b) s =
          .next { u with rim := { u.rim with rx := NMap.set dNoBytes s.rim.rx p.val (r ++ [b]) } }.settle) ∧
        (64 ≤ r.length → exec (.serialByteReceive p b) s = .next (u.raise (R.SP_STATUS p.val) F.SP_STATUS_RX_OVF).settle)) ∧
      ((s.bit (R.SP_CTL p.val) F.SP_CTL_ENABLE = false ∨ s.spSent p.val = false) →
        exec (.serialByteTransmit p) s = .next s) ∧
      (r = [] → exec (.spDataRead p) s = .next (s.reply (.data [0]))) ∧
      (∀ t, r = b :: t → exec (.spDataRead p) s =
        .next ({ s with rim := { s.rim with rx := NMap.set dNoBytes s.rim.rx p.val t } }.settle.reply
          (.data [BitVec.ofNat 32 b.toNat]))) ∧
      (∀ t, s.bit (R.SP_CTL p.val) F.SP_CTL_ENABLE = true → s.spSent p.val = true → q = b :: t →
        let u := { s with rim := { s.rim with tx := NMap.set dNoBytes s.rim.tx p.val t, txClk := NMap.set dZero s.rim.txClk p.val 0 } }
        ((t ≠ [] ∨ s.rim.spDefer.any (fun d => d.1 == p.val) = false) →
          exec (.serialByteTransmit p) s = .next u.settle) ∧
        (∀ w : Word, t = [] → s.rim.spDefer = [(p.val, w)] → exec (.serialByteTransmit p) s =
          .next ({ u with rim := { u.rim with spDefer := [] } }.setReg (R.SP_CTL p.val) w).settle))) ∧
    (s.rim.uflOp = .idle →
      exec .uflProgram s = .next ({ s with rim := { s.rim with
        uflOp := .program (s.fld R.UFL_ADDR F.UFL_ADDR_WORD) (s.reg R.UFL_DATA) } }.raise R.UFL_CTL F.UFL_CTL_BUSY) ∧
      exec .uflErase s = .next ({ s with rim := { s.rim with
        uflOp := .erase (s.fld R.UFL_ADDR F.UFL_ADDR_WORD / 1024) } }.raise R.UFL_CTL F.UFL_CTL_BUSY) ∧
      exec .uflOpEnd s = .next s) ∧
    (s.rim.uflOp ≠ .idle →
      exec .uflProgram s = .next (s.detect 0x0B 8 0xFF) ∧ exec .uflErase s = .next (s.detect 0x0B 8 0xFF)) ∧
    (NMap.wf dErased s.rim.ufl = true →
      (∀ (w : Nat) (d : Word), s.rim.uflOp = .program w d → ∃ t, exec .uflOpEnd s = .next t ∧ t.rim.uflOp = .idle ∧
        NMap.get dErased t.rim.ufl w = d ∧ (∀ v, v ≠ w → NMap.get dErased t.rim.ufl v = NMap.get dErased s.rim.ufl v) ∧
        t.regs = (s.put R.UFL_CTL F.UFL_CTL_BUSY 0).regs) ∧
      (∀ k : Nat, s.rim.uflOp = .erase k → ∃ t, exec .uflOpEnd s = .next t ∧ t.rim.uflOp = .idle ∧
        (∀ v, v / 1024 = k → NMap.get dErased t.rim.ufl v = dErased v) ∧
        (∀ v, v / 1024 ≠ k → NMap.get dErased t.rim.ufl v = NMap.get dErased s.rim.ufl v))) ∧
    (∀ a, s.rim.uflRead = some a → s.rim.uflOp = .idle → exec .flashDataValid s = .next { s with rim := { s.rim with
      uflRead := none, uflOut := NMap.get dErased s.rim.ufl a, uflValid := true } }.settle) ∧
    (s.rim.uflRead = none → exec .flashDataValid s = .next s) ∧
    (s.bankRuns 7 = false → exec .fabricFlashRead s = .next s) ∧
    (s.bankRuns 7 = true → s.blkIn s.pool 95 17 = true → s.rim.uflStrobe = false →
      let a := (List.range 17).foldl (fun n i => n + natOfBool (s.blkIn s.pool 95 i) * 2 ^ i) 0
      exec .fabricFlashRead s =
        .next ({ s with rim := { s.rim with uflStrobe := true, uflRead := some a, uflValid := false } }.usedN 256))

/-- R189 to R193, R197, R207 to R212: oscillators, resets, supplies, clock edges, contention and scrubbing. Completes: oscLock,
swReset, bankVioChange, macrocellClockEdge, wireContention, scrubStall, scrubPass. -/
def Obligations.RimstoneFaultsAndClocks : Prop :=
  ∀ s : State,
    (∀ k : Fin 4,
      (s.rimOn = true → s.bit (R.RIM_OSC k.val) F.RIM_OSC_ENABLE = true →
        exec (.oscLock k) s = .next (s.raise (R.RIM_OSC k.val) F.RIM_OSC_LOCKED)) ∧
      ((s.rimOn = false ∨ s.bit (R.RIM_OSC k.val) F.RIM_OSC_ENABLE = false) → exec (.oscLock k) s = .next s)) ∧
    (∀ (r : Fin 2) (v : Bool), exec (.swReset r v) s =
      .next ((s.put R.RIM_CTL ⟨r.val, r.val⟩ (natOfBool v)).usedN 256).settle) ∧
    (∀ b : Bank,
      let u := { s with rim := { s.rim with vio := NMap.set dZero s.rim.vio b.val 0 } }
      exec (.bankVioChange b 0) s = .next (((u.clearBank b.val).setVioOk b.val).usedN 256).settle ∧
      ∀ v : Fin 6, v ≠ 0 →
        let u := { s with rim := { s.rim with vio := NMap.set dZero s.rim.vio b.val v.val } }
        exec (.bankVioChange b v) s = .next ((u.setVioOk b.val).usedN 256).settle) ∧
    (∀ (t : Fin 4) (rising : Bool), s.treeEdge t.val rising = false → exec (.macrocellClockEdge t rising []) s = .next s) ∧
    (∀ (t : Fin 4) (rising : Bool) (x : Fin 192 × BitVec 16) (xs : List (Fin 192 × BitVec 16)),
      let u := ((s.takeSamples (x :: xs)).usedN 4096).settle
      u.treeEdge t.val rising = false → exec (.macrocellClockEdge t rising (x :: xs)) s = .next u) ∧
    (∀ t : Fin 4, s.treeEdge t.val false = true →
      let edge := s.mcs.filter (fun m => (s.bankRuns (m / 192) && s.fld (mcOff m) F.BLK_MC_CLK == t.val) &&
        s.bit (mcOff m) F.BLK_MC_CLK_INV)
      let opens := s.mcs.filter (fun m => (s.bankRuns (m / 192) && s.fld (mcOff m) F.BLK_MC_CLK == t.val) &&
        !s.bit (mcOff m) F.BLK_MC_CLK_INV && s.mcMode m == 3)
      let u := opens.foldl (State.closeLatch s) ((edge.filter (fun m => s.mcMode m == 1 || s.mcMode m == 2)).foldl
        (State.clockMc s) s)
      exec (.macrocellClockEdge t false []) s = .next
        (({ u with rim := { u.rim with clkHigh := u.rim.clkHigh.filter (fun x => x != t.val) } }.usedN 4096).settle)) ∧
    (∀ t : Fin 4, s.treeEdge t.val true = true → t ≠ 0 → s.fld R.RIM_PW_CFG F.RIM_PW_CFG_PW_CLK ≠ t.val →
      (∀ b, b < 8 → s.fld (R.RIM_BANK b) F.RIM_BANK_IO_CLK ≠ t.val) →
      let edge := s.mcs.filter (fun m => (s.bankRuns (m / 192) && s.fld (mcOff m) F.BLK_MC_CLK == t.val) &&
        !s.bit (mcOff m) F.BLK_MC_CLK_INV)
      let opens := s.mcs.filter (fun m => (s.bankRuns (m / 192) && s.fld (mcOff m) F.BLK_MC_CLK == t.val) &&
        s.bit (mcOff m) F.BLK_MC_CLK_INV && s.mcMode m == 3)
      let u := opens.foldl (State.closeLatch s) ((edge.filter (fun m => s.mcMode m == 1 || s.mcMode m == 2)).foldl
        (State.clockMc s) s)
      exec (.macrocellClockEdge t true []) s = .next
        (({ u with rim := { u.rim with clkHigh := t.val :: u.rim.clkHigh.filter (fun x => x != t.val) } }.usedN 4096).settle)) ∧
    (∀ (b : Bank) (w : Fin 64),
      let k := b.val * 64 + w.val
      let u := { s with rim := { s.rim with
        extraDriver := NMap.set dZero s.rim.extraDriver k (NMap.get dZero s.rim.extraDriver k + 1),
        frameBad := NMap.set dGood s.rim.frameBad (128 + 128 * b.val) .double } }
      (u.wireCount b.val w.val ≤ 1 → exec (.wireContention b w) s = .next u) ∧
      (1 < u.wireCount b.val w.val → s.rim.wiresOff.any (fun x => x.1 == k) = false →
        let v := { u with rim := { u.rim with wiresOff := u.rim.wiresOff ++ [(k, 0)] } }
        exec (.wireContention b w) s =
          .next (((v.raise R.RIM_WIRE_STATUS F.RIM_WIRE_STATUS_SEEN).wireStatus).detect 0x0B 0 b.val
            [BitVec.ofNat 8 w.val]))) ∧
    (s.rim.scrubAt + (3 * s.scrubInterval + 2) * 1500000 ≤ s.sched.now → exec .scrubStall s =
      .next (({ s with rim := { s.rim with scrubAt := s.sched.now } }.raise R.RIM_STATUS F.RIM_STATUS_SCRUB_FAULT).detect
        0x0B 6 0xFF)) ∧
    (s.sched.now < s.rim.scrubAt + (3 * s.scrubInterval + 2) * 1500000 → exec .scrubStall s = .next s) ∧
    (∀ x : ScrubFinding, x.votes.val = 0 → F.RIM_SCRUB_CTL_ENABLE.of s.scrubCtl = 0 → exec (.scrubPass x) s = .next s) ∧
    (F.RIM_SCRUB_CTL_ENABLE.of s.scrubCtl ≠ 0 → s.lnt.armed = [] → s.rim.frameBad = [] → s.rim.wiresOff = [] →
      s.goldenArea.maps = [] →
      ∀ x : ScrubFinding, x.votes.val = 0 → x.single = [] → x.multi = [] → x.mapBad.val ≠ 2 →
      let u := s.put R.RIM_SCRUB_STATUS F.RIM_SCRUB_STATUS_PASSES ((s.fld R.RIM_SCRUB_STATUS F.RIM_SCRUB_STATUS_PASSES + 1) % 65536)
      exec (.scrubPass x) s = .next { u with rim := { u.rim with scrubAt := s.sched.now } }.wireStatus)

/-- R97 to R104, R110, R244 and R296: bank requests beside the schedule. Completes: bankRequest, bankAtomic, bankServe,
stealTimeout. -/
def Obligations.BankRequestsAreQueuedAndServed : Prop :=
  (∀ (g : Gal) (word : Fin 131072) (ops : List BankOp) (posted : Bool) (s : State),
    let r := nocReq g.val word.val ops (!posted)
    (131072 < word.val + ops.length → exec (.bankRequest g word ops posted) s = .next (s.answerBank r 0x0B)) ∧
    (word.val + ops.length ≤ 131072 → s.isOff g.val = true →
      exec (.bankRequest g word ops posted) s = .next ((s.countOff g.val posted).answerBank r 2)) ∧
    (word.val + ops.length ≤ 131072 → s.isOff g.val = false → s.testing g.val = true →
      exec (.bankRequest g word ops posted) s = .next (s.answerBank r 4)) ∧
    (word.val + ops.length ≤ 131072 → s.isOff g.val = false → s.testing g.val = false →
      s.fab.isolated.contains g.val = true → exec (.bankRequest g word ops posted) s = .next (s.answerBank r 5)) ∧
    (word.val + ops.length ≤ 131072 → s.isOff g.val = false → s.testing g.val = false →
      s.fab.isolated.contains g.val = false → s.portCloses g.val = false → ops ≠ [] →
      (s.accepted g.val).length < 32 → s.mem.bankQ.all (fun x => x.gal != g.val || x.since.isSome) = true →
      exec (.bankRequest g word ops posted) s =
        .next { s with mem := { s.mem with bankQ := s.mem.bankQ ++ [{ r with since := some s.sched.now }] } })) ∧
  (∀ (g : Gal) (word : Fin 131072) (swap : Bool) (d : Dword) (s : State),
    exec (.bankAtomic g word swap d) s = .next (s.bankRequest (nocReq g.val word.val [.atomic swap d] true))) ∧
  (∀ (c : Cham) (s : State), s.bankIdle c.val = false → exec (.bankServe c) s = .next s) ∧
  (∀ (c : Cham) (r : BankReq) (s : State), s.bankIdle c.val = true → s.engineBusy = false →
    s.nextReq c.val = some r → r.status = 0 → s.dmMark c.val (r.word % 8192) = .good → s.lnt.armed = [] →
    let w := r.word % 8192
    let used := { s with fab := { s.fab with bankUse := c.val :: s.fab.bankUse } }
    let gone (t : State) : State :=
      ({ t with mem := { t.mem with bankQ := replaceReq r none t.mem.bankQ } }).fillQueue r.gal
    (r.left = [.read] → exec (.bankServe c) s =
      .next ((gone used).answerBank { r with left := [], data := r.data ++ [s.dmWord c.val w] } 0)) ∧
    (∀ (mask : BitVec 8) (d : Dword), r.left = [.write mask d] →
      let stored := { used with mem := { used.mem with
        dm := NMap.set dZero64 s.mem.dm (c.val * 8192 + w) (mergeBytes mask (s.dmWord c.val w) d),
        dmEcc := NMap.set dGood s.mem.dmEcc (c.val * 8192 + w) .good,
        dripBack := s.mem.dripBack.filter (fun e => e != (c.val, w)) } }
      exec (.bankServe c) s = .next ((gone stored).answerBank { r with left := [], data := r.data ++ [] } 0))) ∧
  (∀ (g : Gal) (s : State), s.mem.bankQ = [] → exec (.stealTimeout g) s = .next s) ∧
  (∀ (g : Gal) (r : BankReq) (p : Nat) (s : State), s.mem.bankQ = [r] → r.gal = g.val → r.since = some p →
    p + s.stealLimit g.val ≤ s.sched.now →
    let u := { s with mem := { s.mem with bankQ := [] } }.recordDm g.val 2 .noc (r.word / 8192) (r.word % 8192) 0
    exec (.stealTimeout g) s = .next ((u.fillQueue g.val).answerBank r 3))

/-- R107 to R113: marches. Completes: marchStart, marchEnd, startupMarchEnd, wakeClearEnd. -/
def Obligations.MarchesTestAndZero : Prop :=
  ∀ (g : Gal) (s : State), s.canon →
    (∀ w : Word, s.isOff g.val = false →
      let o := R.GAL_MARCH_CTL g.val
      let u := s.setReg o (s.written o (match regRow o with | some r => r.fields | none => []) w)
      let keep := F.GAL_MARCH_CTL_MODE.of w == 1
      (F.GAL_MARCH_CTL_START.of w = 0 → exec (.marchStart g w) s = .next u) ∧
      (F.GAL_MARCH_CTL_START.of w = 1 →
        ((u.bit o F.GAL_MARCH_CTL_BUSY = true ∨ s.testing g.val = true ∨ s.marchAllowed g.val keep = false) →
          exec (.marchStart g w) s = .next (u.raise o F.GAL_MARCH_CTL_REFUSED)) ∧
        (u.bit o F.GAL_MARCH_CTL_BUSY = false → s.testing g.val = false → s.marchAllowed g.val keep = true →
          let m : March := { gal := g.val, keep := keep, arrays := u.fld o F.GAL_MARCH_CTL_ARRAYS, wake := false, start := false }
          let v := (u.raise o F.GAL_MARCH_CTL_BUSY).abortSnapPhase2.flushQueue g.val 4
          let x := if keep then v else v.put (R.GAL_MODE g.val) F.GAL_MODE_IN_IMAGE 0
          exec (.marchStart g w) s = .next { x with mem := { x.mem with marches := x.mem.marches ++ [m] } }))) ∧
    (∀ found, s.mem.marches = [] → exec (.marchEnd g found) s = .next s ∧ exec (.wakeClearEnd g found) s = .next s) ∧
    (∀ m, s.mem.marches = [m] → m.gal = g.val → m.wake = false → m.start = false → s.sched.runWaits = [] →
      s.sched.resume = false → ∃ t,
      exec (.marchEnd g []) s = .next t ∧ t.mem.marches = [] ∧ t.bit (R.GAL_MARCH_RESULT g.val) F.GAL_MARCH_RESULT_FAIL = false ∧
      t.bit (R.GAL_MARCH_CTL g.val) F.GAL_MARCH_CTL_BUSY = false ∧ t.bit (R.GAL_MARCH_CTL g.val) F.GAL_MARCH_CTL_DONE = true ∧
      (m.keep = true → t.mem.dm = s.mem.dm ∧ t.fab = s.fab) ∧
      (m.keep = false → m.arrays.testBit 0 = true → ∀ (c : Cham) (w : Fin 8192), c.val / 16 = g.val → t.dmWord c.val w.val = 0) ∧
      (∀ (c : Cham) (w : Fin 8192), c.val / 16 ≠ g.val → t.dmWord c.val w.val = s.dmWord c.val w.val)) ∧
    (∀ (m : March) (c : CmdId), s.mem.marches = [m] → m.gal = g.val → m.keep = true → m.wake = false → m.start = false →
      s.sched.runWaits = [(c, none)] → s.isRunning = false → ∃ t, exec (.marchEnd g []) s = .next t ∧
        t.sched.running = true ∧ t.sched.runWaits = [] ∧ t.isOut c = false) ∧
    (∃ t, exec (.startupMarchEnd g []) s = .next t ∧ t.galReady g.val = true ∧
      ∀ (c : Cham) (w : Fin 8192), t.dmWord c.val w.val = if c.val / 16 = g.val then 0 else s.dmWord c.val w.val) ∧
    (∀ m, s.mem.marches = [m] → m.gal = g.val → m.wake = true → m.keep = false → (m.arrays = 15 ∨ m.arrays = 3) →
      s.img.commitDue = false → ∃ t,
      exec (.wakeClearEnd g []) s = .next t ∧ t.mem.marches = [] ∧ t.galReady g.val = true ∧
      ∀ (c : Cham) (w : Fin 8192), t.dmWord c.val w.val = if c.val / 16 = g.val then 0 else s.dmWord c.val w.val)

/-- R105, R115, R120, R372, R373, R414: the Deep Store's channels and Drip. Completes: dsClear, dsBurst, dripScrub,
dripWriteBack. -/
def Obligations.DeepStoreClearsAndScrubs : Prop :=
  ∀ s : State, s.canon →
    (∀ n : Chan, ∃ t, exec (.dsClear n) s = .next t ∧ t.chanReady n.val = true ∧
      t.mem.dsUnread = s.mem.dsUnread.filter (fun b => dsChannel (b * 64) != n.val) ∧
      (∀ a, t.dsByte a = if dsChannel a = n.val then 0 else s.dsByte a) ∧ t.mem.dm = s.mem.dm ∧ t.fab = s.fab ∧
      t.pending = s.pending) ∧
    (∀ (b : Fin 536870912) (write : Bool),
      let ch := dsChannel (b.val * 64)
      let next := NMap.set dZero s.mem.dsSlot ch ((NMap.get dZero s.mem.dsSlot ch + 1) % 10)
      exec (.dsBurst b write [] 0) s = .next { s with mem := { s.mem with dsSlot := next } } ∧
      ∀ waiting, s.lnt.armed = [] → ∃ t, exec (.dsBurst b write waiting 0) s = .next t ∧
        t.mem.ds = s.mem.ds ∧ t.mem.dm = s.mem.dm ∧ t.mem.dsSlot = next ∧ RegsBut [] { s with mem := t.mem } t) ∧
    (∀ (x : DripTarget) (pass : Bool), s.dripMay x = false → exec (.dripScrub x pass) s = .next s) ∧
    (∀ (x : DripTarget), s.dripMay x = true →
      exec (.dripScrub x false) s = .next (s.drip x) ∧
      exec (.dripScrub x true) s = .next ((s.drip x).bump R.DRIP_STATUS (match x with
        | .deep _ => F.DRIP_STATUS_DS_PASSES
        | _ => F.DRIP_STATUS_FABRIC_PASSES))) ∧
    (∀ (c : Cham) (w : Fin 8192), s.mem.dripBack.contains (c.val, w.val) = true → s.dripMay (.bank c w) = true → ∃ t,
      exec (.dripWriteBack (.bank c w)) s = .next t ∧ t.dmMark c.val w.val = .good ∧
      (∀ (d : Cham) (v : Fin 8192), t.dmWord d.val v.val = s.dmWord d.val v.val) ∧ t.regs = s.regs ∧ t.mem.ds = s.mem.ds) ∧
    (∀ (b : Fin 536870912), ∃ t, exec (.dripWriteBack (.deep b)) s = .next t ∧ t.mem.ds = s.mem.ds ∧ t.regs = s.regs)

/-- R125, R132 to R136, R153, R156: training, the peer's IDENT, a lane that fails. Completes: psgTrain, psgDown, laneEqualised,
blockLock, latticeIdent, latencyMeasured, portTrained, trainingFail, laneFail. -/
def Obligations.PortsTrainStepByStep : Prop :=
  ∀ (p : PortNo) (s : State),
    (∀ w : Word,
      (s.portInImage p.val = true → exec (.psgTrain p w) s = .next (s.detect 0x05 0x12 p.val) ∧
        exec (.psgDown p w) s = .next (s.detect 0x05 0x12 p.val)) ∧
      (s.portInImage p.val = false →
        exec (.psgTrain p w) s = .next (s.writePsgCtl p.val (w ||| 2)) ∧
        exec (.psgDown p w) s = .next (s.writePsgCtl p.val (w ||| 4)) ∧
        (s.writePsgCtl p.val (w ||| 2)).portState p.val = 1)) ∧
    (∀ k : Fin 4,
      (s.portState p.val ≠ 1 → exec (.laneEqualised p k) s = .next s) ∧
      (s.portState p.val = 1 → exec (.laneEqualised p k) s = .next (s.put (R.PSG_STATUS p.val) F.PSG_STATUS_LANES_OK
        (s.fld (R.PSG_STATUS p.val) F.PSG_STATUS_LANES_OK ||| 2 ^ k.val)))) ∧
    ((s.portState p.val ≠ 1 ∨ s.widthOf p.val = 0) → exec (.blockLock p) s = .next s) ∧
    (s.portState p.val = 1 → s.widthOf p.val ≠ 0 → exec (.blockLock p) s = .next
      ((((s.put (R.PSG_STATUS p.val) F.PSG_STATUS_WIDTH (s.widthOf p.val)).resetLink p.val).setPort p.val 2).sendIdent p.val)) ∧
    (∀ (x : Ident) (own : Bool),
      let u := s.setPeer p.val x
      (((s.portState p.val ≠ 2 ∧ s.trained p.val = false) ∨ s.psg.discarding.contains p.val = true) →
        exec (.latticeIdent p x own) s = .next s) ∧
      (s.psg.discarding.contains p.val = false →
        ((s.portState p.val = 2 ∨ s.trained p.val = true) → x.family ≠ 0x0E65 →
          exec (.latticeIdent p x own) s = .next ((u.recordPsg p.val 7).portDown p.val)) ∧
        ((s.portState p.val = 2 ∨ s.trained p.val = true) → x.family = 0x0E65 → u.peerDiffers p.val = true →
          exec (.latticeIdent p x own) s = .next (((u.recordLtc 0).recordPsg p.val 7).portDown p.val)) ∧
        (s.portState p.val = 2 → x.family = 0x0E65 → u.peerDiffers p.val = false → u.trained p.val = false →
          ((own = false ∨ u.bit (R.PSG_CTL p.val) F.PSG_CTL_LOOPBACK = true) → exec (.latticeIdent p x own) s =
            .next ((u.put (R.PSG_STATUS p.val) F.PSG_STATUS_LOOPBACK_ACTIVE (natOfBool own)).setPort p.val 3)) ∧
          (own = true → u.bit (R.PSG_CTL p.val) F.PSG_CTL_LOOPBACK = false →
            exec (.latticeIdent p x own) s = .next (u.attemptFails p.val))))) ∧
    (∀ dmax mean rtt : Word,
      (s.portState p.val ≠ 3 → exec (.latencyMeasured p dmax mean rtt) s = .next s) ∧
      (s.portState p.val = 3 → 700000 < s.delayOf p.val dmax →
        exec (.latencyMeasured p dmax mean rtt) s = .next (s.attemptFails p.val)) ∧
      (s.portState p.val = 3 → s.delayOf p.val dmax ≤ 700000 →
        exec (.latencyMeasured p dmax mean rtt) s = .next ((((s.setReg (R.PSG_RTT p.val) rtt).setReg
          (R.TB_PSG_DELAY p.val) mean).put (R.LAT_PORT p.val) F.LAT_PORT_STEPS
            ((3 * s.delayOf p.val dmax + 1999) / 2000 + 4)).setPort p.val 4))) ∧
    (s.portState p.val ≠ 4 → exec (.portTrained p) s = .next s) ∧
    (s.portState p.val = 4 →
      let u := (((s.setPort p.val 5).raise (R.LAT_PORT p.val) F.LAT_PORT_VALID).setHeld p.val).setReady
        (portBit p.val) true
      (u.bit (R.PSG_HELD p.val) F.PSG_HELD_OVER_BUDGET = false →
        exec (.portTrained p) s = .next (u.trainOver p.val true).drained) ∧
      (u.bit (R.PSG_HELD p.val) F.PSG_HELD_OVER_BUDGET = true →
        exec (.portTrained p) s = .next ((u.detect 0x07 0x09 p.val).trainOver p.val true).drained)) ∧
    (s.inTraining p.val = true → exec (.trainingFail p) s = .next (s.attemptFails p.val)) ∧
    (s.inTraining p.val = false → exec (.trainingFail p) s = .next s) ∧
    (∀ k : Fin 4, (s.trained p.val = false ∨ s.laneActive p.val k.val = false) → exec (.laneFail p k) s = .next s) ∧
    (∀ k : Fin 4, s.trained p.val = true → s.laneActive p.val k.val = true →
      let ok := s.fld (R.PSG_STATUS p.val) F.PSG_STATUS_LANES_OK
      exec (.laneFail p k) s = .next (((s.put (R.PSG_STATUS p.val) F.PSG_STATUS_LANES_OK
        (if ok.testBit k.val then ok - 2 ^ k.val else ok)).recordPsg p.val 2).portDown p.val))

/-- R127 to R131: blocks, the retry and its bits as the block carries them. R132, R136, R267: the commands of the lattice's
ports. Completes: blockReceive, retryTimeout, latticeTrain, latticeMap. -/
def Obligations.BlocksAreCheckedAndRetried : Prop :=
  ∀ s : State,
    (∀ (p : PortNo) (b : BlockIn),
      let more (u : State) : State := { u with psg := { u.psg with
        rxSeq := NMap.set dZero u.psg.rxSeq p.val (s.gotBlocks p.val + 1) } }
      (s.linked p.val = false → exec (.blockReceive p b) s = .next s) ∧
      (s.linked p.val = true → b.fec = .lost →
        let u := (s.bump (R.PSG_FEC_UE p.val) F.PSG_FEC_UE_COUNT).detect 0x05 0x11 p.val
        exec (.blockReceive p b) s = .next (({ u with psg := { u.psg with
          nakDue := p.val :: u.psg.nakDue.filter (fun q => q != p.val) } }.setDiscard p.val true).sendBlock p.val)) ∧
      (s.linked p.val = true → b.fec = .clean → b.seq.toNat ≠ s.gotBlocks p.val % 256 →
        exec (.blockReceive p b) s = .next ((s.setDiscard p.val true).sendBlock p.val)) ∧
      (s.linked p.val = true → b.fec = .clean → b.seq.toNat = s.gotBlocks p.val % 256 →
        b.bad = 0 → b.pattern = false → b.nak = false →
        let u := more (s.setDiscard p.val false)
        exec (.blockReceive p b) s =
          .next ((if b.ackValid then u.acked p.val b.ack.toNat else u).sendBlock p.val))) ∧
    (∀ (p : PortNo) (b : RetryBlock), s.psg.retry.find? (fun b => b.port == p.val) = some b →
      (s.linked p.val = true → b.since + 3000 ≤ s.sched.now → exec (.retryTimeout p) s = .next (s.resend p.val)) ∧
      ((s.linked p.val = false ∨ s.sched.now < b.since + 3000) → exec (.retryTimeout p) s = .next s)) ∧
    (∀ p : PortNo, s.psg.retry.find? (fun b => b.port == p.val) = none → exec (.retryTimeout p) s = .next s) ∧
    (∀ (p : PortNo),
      (128 ≤ (s.psg.retry.filter (fun b => b.port == p.val)).length → s.sendBlock p.val = s) ∧
      ((s.psg.retry.filter (fun b => b.port == p.val)).length < 128 → ∃ flits,
        (s.sendBlock p.val).psg.retry = s.psg.retry ++ [⟨p.val, s.sentBlocks p.val % 256, 0, s.sched.now, flits⟩] ∧
        (s.sendBlock p.val).psg.blocks = s.psg.blocks ++ [⟨p.val, s.sentBlocks p.val % 256,
          (s.gotBlocks p.val + 255) % 256, s.gotBlocks p.val != 0, s.psg.nakDue.contains p.val, flits⟩])) ∧
    (∀ (h : Hdr) (ports : BitVec 16) (width : BitVec 8), s.serves (.latticeTrain h ports width) = true →
      let c := cmdOf h
      let u := s.begunBy (.latticeTrain h ports width)
      let ps := (List.range 16).filter (fun p => ports.getLsbD p)
      exec (.latticeTrain h ports width) s = .next
        (if 2 ≤ width.toNat then u.complete c 2 else if ps.any u.portInImage then u.complete c 0x25
         else if u.psg.training.isSome then u.complete c 4 else if ps = [] then u.complete c 0
         else ps.foldl (fun s p => (s.put (R.PSG_CTL p) F.PSG_CTL_WIDTH_REQ width.toNat).train p)
           { u with psg := { u.psg with training := some c, trainPorts := ps, trainDone := [] } })) ∧
    (∀ (h : Hdr) (buf : HostBuf), s.serves (.latticeMap h buf) = true →
      let c := cmdOf h
      let u := s.begunBy (.latticeMap h buf)
      let bs := buf.bytes.take 576
      (u.isRunning = true → exec (.latticeMap h buf) s = .next (u.complete c 7)) ∧
      (u.isRunning = false → buf.len < 576 → exec (.latticeMap h buf) s = .next (u.complete c 2)) ∧
      (u.isRunning = false → 576 ≤ buf.len → buf.fault = none → (mapReserved bs = false ∨ mapStageBad bs = true) →
        exec (.latticeMap h buf) s = .next (u.complete c 2)) ∧
      (u.isRunning = false → 576 ≤ buf.len → buf.fault = none → mapReserved bs = true → mapStageBad bs = false →
        let v := (u.applyMap bs).sendIdents
        let bad := ((List.range 16).filter v.trained).filter v.peerDiffers
        exec (.latticeMap h buf) s =
          .next ((bad.foldl State.dropPeer v).complete c 0 (BitVec.ofNat 64 (bitSet bad)))))

/-- R142 to R154: slot flits, late flits, the decision point, the notices, the barrier. R264: the barrier commands. Completes:
slotFlit, linkTimeout, decisionPoint, latticeDone, latticeHold, latticeRelease, latticeFault, latticeCredit, barrierTimeout,
runFrom, haltBefore, barrierReport, latticeBarrierTimeout. -/
def Obligations.LatticeTicksAndBarriers : Prop :=
  (
    ∀ (p : PortNo) (s : State),
      (∀ (ctx tag : Fin 8) (flit : Fin 64) (vals : BitVec 240) (close : Fin 1024),
        let x : SlotFlit := ⟨p.val, ctx.val, tag.val, flit.val, (List.range 240).map (fun i => vals.getLsbD i)⟩
        let ahead := (tag.val + 8 - s.sched.nextTick.toNat % 8) % 8
        (s.receives p.val = false → exec (.slotFlit p ctx tag flit vals close) s = .next s) ∧
        (s.receives p.val = true → ahead = 0 → exec (.slotFlit p ctx tag flit vals close) s =
          .next { s with psg := { s.psg with early := s.psg.early ++ [(x, close.val)] } }) ∧
        (s.receives p.val = true → ahead = 7 → exec (.slotFlit p ctx tag flit vals close) s =
          .next (if s.landing then s.takeFlit x close.val else s)) ∧
        (s.receives p.val = true → (ahead = 1 ∨ ahead = 2) → exec (.slotFlit p ctx tag flit vals close) s =
          .next ((s.recordPsg p.val 6 flit.val).recordPsg p.val 3 flit.val)) ∧
        (s.receives p.val = true → 2 < ahead → ahead < 7 → exec (.slotFlit p ctx tag flit vals close) s =
          .next (s.recordPsg p.val 3 flit.val))) ∧
      (∀ (flit : Fin 64) (close : Fin 1024), s.sched.holdLen = 0 → exec (.linkTimeout p flit close) s = .next s) ∧
      (∀ (flit : Fin 64) (close : Fin 1024), s.sched.holdLen ≠ 0 → s.flitExpected p.val flit.val = true →
        s.psg.got.contains (p.val, flit.val) = false →
        let held := s.fld (R.PSG_HELD p.val) F.PSG_HELD_HELD
        s.sched.tickPeriod + close.val + held + s.heldBefore (close.val + held) + s.linkTimeout ≤ s.sched.now →
        (s.sched.phase = .t3 →
          let u := s.endFlit p.val flit.val (fun e => !s.fab.ended.contains e)
          exec (.linkTimeout p flit close) s =
            .next ({ u with psg := { u.psg with got := (p.val, flit.val) :: u.psg.got } }.markTick p.val flit.val)) ∧
        (s.sched.phase = .steps →
          ((s.flitEntries p.val flit.val).any (fun e => s.awaitedNow.contains e) = true →
            exec (.linkTimeout p flit close) s =
              .next ((s.endFlit p.val flit.val (fun e => s.awaitedNow.contains e)).markTick p.val flit.val)) ∧
          ((s.flitEntries p.val flit.val).any (fun e => s.awaitedNow.contains e) = false →
            exec (.linkTimeout p flit close) s = .next s))) ∧
      (s.missesGrid s.margin = false → exec .decisionPoint s = .next s) ∧
      (s.inLattice = true → s.locked = true → s.sched.running = true → s.sched.phase ≠ .between →
        s.psg.decided ≠ some s.sched.nextTick → s.missesGrid s.margin = true →
        let t := s.sched.nextTick
        let u := { s with psg := { s.psg with decided := some t } }
        (u.missesGrid (u.periodsLeft - 1) = false → exec .decisionPoint s = .next u) ∧
        (u.missesGrid (u.periodsLeft - 1) = true → u.sched.overrun = false →
          (u.bit R.SCHED_TICK_CFG F.SCHED_TICK_CFG_POLICY = true →
            exec .decisionPoint s = .next (u.takeOverrun.floodFault u.sched.curTick)) ∧
          (u.bit R.SCHED_TICK_CFG F.SCHED_TICK_CFG_POLICY = false →
            let v := u.takeOverrun.flood (u.latFlit 2 t)
            exec .decisionPoint s = .next { v with psg := { v.psg with
              holdsSent := t :: v.psg.holdsSent, holds := (v.devNum, t) :: v.psg.holds } }))) ∧
      (∀ tick : BitVec 64,
        ((s.hears p.val = false ∨ s.psg.doneFrom.contains (p.val, tick) = true) → exec (.latticeDone p tick) s = .next s) ∧
        (s.hears p.val = true → s.psg.doneFrom.contains (p.val, tick) = false → exec (.latticeDone p tick) s =
          .next { s with psg := { s.psg with doneFrom := (p.val, tick) :: s.psg.doneFrom } })) ∧
      (∀ (origin : Fin 512) (tick : BitVec 64) (time : BitVec 48),
        (s.hears p.val = false → (∀ halt, exec (.latticeHold p origin tick time halt) s = .next s) ∧
          exec (.latticeRelease p origin tick time) s = .next s ∧ exec (.latticeFault p origin tick time) s = .next s) ∧
        (∀ halt : Bool, s.hears p.val = true → s.heard (relayed 2 origin tick time.toNat (natOfBool halt)) = false →
          let u := s.flood (relayed 2 origin tick time.toNat (natOfBool halt)) (some p.val)
          ((u.sched.running && u.begun tick) = true →
            exec (.latticeHold p origin tick time halt) s = .next (u.lateOverrun u.sched.curTick)) ∧
          ((u.sched.running && u.begun tick) = false →
            (halt = false → exec (.latticeHold p origin tick time halt) s =
              .next { u with psg := { u.psg with holds := (origin.val, tick) :: u.psg.holds } }) ∧
            (halt = true → exec (.latticeHold p origin tick time halt) s = .next (u.holdBefore origin.val tick)))) ∧
        (s.hears p.val = true → s.heard (relayed 3 origin tick time.toNat 0) = false →
          let u := s.flood (relayed 3 origin tick time.toNat 0) (some p.val)
          (u.sched.running = true → exec (.latticeRelease p origin tick time) s =
            .next { u with psg := { u.psg with releases := (origin.val, tick, u.dtcNear time.toNat) :: u.psg.releases } }) ∧
          (u.sched.running = false → u.hasImage = true → u.psg.holds.contains (origin.val, tick) = false →
            exec (.latticeRelease p origin tick time) s = .next
              (if u.sched.nextTick = tick then (u.startAtTime (u.dtcNear time.toNat)).reportTo origin.val 0
               else u.reportTo origin.val 0x28))) ∧
        (s.hears p.val = true → s.heard (relayed 4 origin tick time.toNat 0) = false →
          let u := s.flood (relayed 4 origin tick time.toNat 0) (some p.val)
          u.sched.running = true →
          ((u.recordLtc 2).begun (tick + 1) = false →
            exec (.latticeFault p origin tick time) s = .next ((u.recordLtc 2).stopBefore (tick + 1))) ∧
          ((u.recordLtc 2).begun (tick + 1) = true →
            exec (.latticeFault p origin tick time) s = .next ((u.recordLtc 2).lateOverrun (u.recordLtc 2).sched.curTick)))) ∧
      (∀ w : Word,
        (s.receives p.val = false → exec (.latticeCredit p w) s = .next s) ∧
        (s.receives p.val = true → exec (.latticeCredit p w) s = .next
          ((List.range 4).foldl (fun s v => s.creditBack p.val v (bitsOf (8 * v + 7) (8 * v) w.toNat)) s).drained)) ∧
      (s.awaitsNotice = false → exec .barrierTimeout s = .next s) ∧
      (s.inLattice = true → s.sched.running = true → s.sched.phase = .between → s.awaitsNotice = true →
        s.barrierTimeout ≤ s.psg.barrierWait → exec .barrierTimeout s = .next
          (((s.silentPorts.foldl State.nameSilent (s.recordLtc 1)).floodFault s.sched.nextTick).haltNow))) ∧
  (
    ∀ s : State,
      (∀ (h : Hdr), let c := cmdOf h
        (s.serves (.runFrom h) = true →
          let u := s.begunBy (.runFrom h)
          (h.target = none → exec (.runFrom h) s = .next (u.complete c 2)) ∧
          (∀ t, h.target = some t →
            (u.hasImage = false → exec (.runFrom h) s = .next (u.complete c 6)) ∧
            (u.hasImage = true → u.psg.origin.isSome = true → exec (.runFrom h) s = .next (u.complete c 4)) ∧
            (u.hasImage = true → u.psg.origin = none → t.ult u.sched.nextTick = true →
              exec (.runFrom h) s = .next (u.complete c 5)) ∧
            (u.hasImage = true → u.psg.origin = none → t.ult u.sched.nextTick = false →
              (u.isRunning = true ∨ t ≠ u.sched.nextTick) → exec (.runFrom h) s = .next (u.complete c 0x28)) ∧
            (u.hasImage = true → u.psg.origin = none → u.isRunning = false → t = u.sched.nextTick →
              exec (.runFrom h) s = .next (((u.ownBarrier c true).startLattice).reportTo
                ((u.ownBarrier c true).startLattice).devNum 0)))) ∧
        (s.serves (.haltBefore h) = true →
          let u := s.begunBy (.haltBefore h)
          (h.target = none → exec (.haltBefore h) s = .next (u.complete c 2)) ∧
          (∀ t, h.target = some t →
            (u.hasImage = false → exec (.haltBefore h) s = .next (u.complete c 6)) ∧
            (u.hasImage = true → u.psg.origin.isSome = true → exec (.haltBefore h) s = .next (u.complete c 4)) ∧
            (u.hasImage = true → u.psg.origin = none →
              let late : Bool := t.ult u.sched.nextTick ||
                (u.isRunning && Nat.blt t.toNat (u.sched.curTick.toNat + u.noticeTicks))
              let v := (u.ownBarrier c false).flood ((u.ownBarrier c false).latFlit 2 t 1)
              (late = true → exec (.haltBefore h) s = .next (u.complete c 5)) ∧
              (late = false → exec (.haltBefore h) s = .next (v.holdBefore v.devNum t)))))) ∧
      (∀ (dev : Fin 512) (reason : BitVec 8),
        (s.psg.origin.isSome = true → s.psg.reports.any (fun r => r.1 == dev.val) = false →
          exec (.barrierReport dev reason) s =
            .next { s with psg := { s.psg with reports := s.psg.reports ++ [(dev.val, reason.toNat)] } }.judgeBarrier) ∧
        (s.psg.origin = none → exec (.barrierReport dev reason) s = .next s)) ∧
      (s.psg.origin.isSome = true → s.psg.barrierSince + 3000000000 ≤ s.sched.now →
        exec .latticeBarrierTimeout s = .next (s.endBarrier 0x29)) ∧
      ((s.psg.origin = none ∨ s.sched.now < s.psg.barrierSince + 3000000000) →
        exec .latticeBarrierTimeout s = .next s))

/-- R155, R224 to R232: staging from the host and from the chain, the checks as bytes arrive, verification and its result.
Completes: imageStage, headerArrival, stageSpaceCheck, stageEnd, imageBurst, stageTimeout, imageVerify, verifyEnd, chainResult,
chainTimeout. -/
def Obligations.ImagesAreStagedAndVerified : Prop :=
  ∀ s : State,
    (∀ (h : Hdr) (src : StageSource) (len : BitVec 64) (b14 s14 b15 s15 : BitVec 16),
      s.serves (.imageStage h src len b14 s14 b15 s15) = true →
      let c := cmdOf h
      let u := s.begunBy (.imageStage h src len b14 s14 b15 s15)
      let r : StageRegs := ⟨b14.toNat, s14.toNat, b15.toNat, s15.toNat⟩
      exec (.imageStage h src len b14 s14 b15 s15) s = .next
        (if u.imgState = 3 ∨ 6 ≤ u.imgState ∨ u.imgHeld = true then u.complete c 4
         else if len = 0 then (u.completeOpt u.img.cmd 0x2B).toEmpty.complete c 0
         else if src.chain = false ∧ u.part.chainRole = true then u.complete c 0x0B
         else if u.imgState = 1 then u.complete c 4
         else if r.unusable = true ∨ (src.chain = true ∧ u.bit R.IMG_CHAIN F.IMG_CHAIN_IN_VALID = false) then u.complete c 2
         else if u.stageOverlap r then u.complete c 0x18
         else if src.chain = false ∧ src.sgl = true ∧ (∃ a, src.buf.fault = some a ∧ a < src.buf.len) then u.complete c 0x33
         else u.startStage src.chain len.toNat r (some c) (stageBytes src.sgl src.buf))) ∧
    (∀ bs : List Byte,
      (s.takesHost = false → exec (.headerArrival bs) s = .next s ∧ exec (.stageSpaceCheck bs) s = .next s ∧
        exec (.stageEnd bs) s = .next s) ∧
      (s.takesHost = true →
        let w := (s.hostBytesIn bs).flushStage
        exec (.headerArrival bs) s = .next w.checkHeader.flushStage ∧
        exec (.stageSpaceCheck bs) s = .next w.checkSpace.flushStage ∧
        (let v := (w.checkHeader.checkSpace).flushStage
         let u := { v with img := { v.img with stream := none } }
         (u.imgState ≠ 1 → exec (.stageEnd bs) s = .next u) ∧
         (u.imgState = 1 → u.img.spaceOk = true → u.img.declared ≤ u.img.received →
           exec (.stageEnd bs) s = .next u.staged) ∧
         (u.imgState = 1 → (u.img.spaceOk = false ∨ u.img.received < u.img.declared) →
           (u.fromChain = false → exec (.stageEnd bs) s = .next (u.stageFail 0x03)) ∧
           (u.fromChain = true → exec (.stageEnd bs) s = .next u)))) ∧
      ∀ (p : PortNo) (off : BitVec 40),
        (s.receives p.val = false → exec (.imageBurst p off bs) s = .next s) ∧
        (s.bit R.IMG_CHAIN F.IMG_CHAIN_IN_VALID = true → s.fld R.IMG_CHAIN F.IMG_CHAIN_IN_PORT = p.val →
          s.receives p.val = true →
          exec (.imageBurst p off bs) s = .next ((s.streamOut off.toNat bs).ownBurst off.toNat bs))) ∧
    (s.imgState ≠ 1 → exec .stageTimeout s = .next s) ∧
    (s.imgState = 1 → s.fromChain = true → s.img.lastBurst + 150000000 ≤ s.sched.now →
      (s.img.headerOk = false ∨ s.img.received < s.img.declared) →
      exec .stageTimeout s = .next (s.stageFail 0x03)) ∧
    (∀ h : Hdr, s.serves (.imageVerify h) = true →
      let c := cmdOf h
      let u := s.begunBy (.imageVerify h)
      ((u.imgState = 3 ∨ 6 ≤ u.imgState ∨ u.imgHeld = true) → exec (.imageVerify h) s = .next (u.complete c 4)) ∧
      (u.imgHeld = false →
        (u.imgState = 4 → exec (.imageVerify h) s = .next
          (u.complete c 0 (BitVec.ofNat 64 (leNat (u.img.measurement.take 8))))) ∧
        (u.imgState = 2 → exec (.imageVerify h) s = .next
          ({ u with img := { u.img with verifyCmd := some c } }.setImgState 3)) ∧
        ((u.imgState ≤ 1 ∨ u.imgState = 5) → exec (.imageVerify h) s = .next (u.complete c 9)))) ∧
    (∀ golden : Bool,
      ((s.imgState ≠ 3 ∨ s.img.waiting = true) → exec (.verifyEnd golden) s = .next s) ∧
      (s.imgState = 3 → s.img.waiting = false →
        let t := (s.verifyAll golden).2
        let said : State := match (s.verifyAll golden).1 with
          | some f => t.setReason f t.chainPos
          | none => t
        let reason : Nat := match (s.verifyAll golden).1 with
          | some f => f.reason
          | none => 0
        let loc : Word := if (s.verifyAll golden).1.isSome then said.reg R.IMG_LOC else 0
        let told : State := if said.fromChain then said.report 1 reason loc else said
        exec (.verifyEnd golden) s = .next
          (if said.verifiesChain then { said with img := { said.img with
             waiting := true, verifyAt := said.sched.now,
             results := said.img.results ++ [(said.chainPos, reason, loc)] } }.judgeChain
           else if (s.verifyAll golden).1.isSome then told.verifyFailed reason else told.verified))) ∧
    (∀ (pos : Fin 512) (reason : BitVec 8) (loc : Word),
      (s.img.results.any (fun r => r.1 == pos.val) = true → exec (.chainResult pos reason loc) s = .next s) ∧
      (s.img.results.any (fun r => r.1 == pos.val) = false → exec (.chainResult pos reason loc) s =
        .next { s with img := { s.img with results := s.img.results ++ [(pos.val, reason.toNat, loc)] } }.judgeChain)) ∧
    ((s.img.waiting = false ∨ s.sched.now < s.img.verifyAt + 3000000000) → exec .chainTimeout s = .next s) ∧
    (∀ p, s.img.waiting = true → s.img.verifyAt + 3000000000 ≤ s.sched.now →
      s.positions.find? (fun p => !s.img.results.any (fun r => r.1 == p)) = some p →
      exec .chainTimeout s = .next ((s.setReason { reason := 0x16 } p).verifyFailed 0x16))

/-- R233 to R246: commits, lattice commits and region reloads. Completes: imageCommit, latticeCommit, regionReload, commitApply,
commitEnd, commitAt, commitReport, latticeCommitTimeout, reloadIsolate, reloadWriteEnd, regionJoin. -/
def Obligations.CommitsAndReloads : Prop :=
  ∀ s : State,
    (∀ (h : Hdr) (resume : Bool), s.serves (.imageCommit h resume) = true →
      let c := cmdOf h
      let u := s.begunBy (.imageCommit h resume)
      (∀ r, u.commitRefused false = some r → exec (.imageCommit h resume) s = .next (u.complete c r.1 0 0 r.2)) ∧
      (u.commitRefused false = none → exec (.imageCommit h resume) s = .next
        (if u.isRunning then u.awaitCmd (.commit resume false) h.target c else u.await (.commit resume false) none (some c)))) ∧
    (∀ (h : Hdr) (resume : Bool), s.serves (.latticeCommit h resume) = true →
      let c := cmdOf h
      let u := s.begunBy (.latticeCommit h resume)
      (h.target = none → exec (.latticeCommit h resume) s = .next (u.complete c 2)) ∧
      (∀ t, h.target = some t →
        (∀ r, u.commitRefused false = some r → exec (.latticeCommit h resume) s = .next (u.complete c r.1 0 0 r.2)) ∧
        (u.commitRefused false = none →
          (u.isHead = false → exec (.latticeCommit h resume) s = .next (u.complete c 2)) ∧
          (u.isHead = true → u.isRunning = true → u.passed t = true →
            exec (.latticeCommit h resume) s = .next (u.complete c 5)) ∧
          (u.isHead = true → (u.isRunning = false ∨ u.passed t = false) →
            let ports := (List.range 16).filter (fun p => u.portInImage p || ((mapPorts u.stagedMap).testBit p && u.trained p))
            let v := u.floodOn ports (u.latFlit 7 t (u.measure4 + natOfBool resume * 2 ^ 32)) none
            let w := { v with img := { v.img with latCmd := some c, latResume := resume, latSpan := (v.hFirst, v.hCount),
                                                  commitReports := [], commitSince := none } }
            exec (.latticeCommit h resume) s =
              .next (w.await (.commit resume true) (if w.isRunning then some t else none) (some c)))))) ∧
    (∀ (h : Hdr) (join : BitVec 64), s.serves (.regionReload h join) = true →
      let c := cmdOf h
      let u := s.begunBy (.regionReload h join)
      (∀ r, u.commitRefused true = some r → exec (.regionReload h join) s = .next (u.complete c r.1 0 0 r.2)) ∧
      (u.commitRefused true = none → exec (.regionReload h join) s = .next
        (if join.ule u.sched.nextTick then u.complete c 5 else u.await (.reload join) none (some c)))) ∧
    (∀ (p : Pending) (resume lattice : Bool), s.sched.engine = false → (s.echo.stageDue = false ∨ s.sched.phase ≠ .t5) →
      s.nextDue = some p → p.act = .commit resume lattice →
      let d := s.dropPending p
      (∀ st r, d.commitFail = some (st, r) →
        exec .commitApply s = .next (d.commitRefuse lattice p.cmd st r).afterBoundary) ∧
      (d.commitFail = none →
        let u := (if d.sched.running then d.haltNow else d).cancelTargets
        let v := { u with
          sched := { u.sched with engine := true },
          img := { u.img with commitCmd := p.cmd, commitResume := resume, commitLattice := lattice, commitDue := true } }
        exec .commitApply s = .next (v.setImgState 6).commitPrepare.commitIfReady)) ∧
    (s.sched.engine = true → exec .commitApply s = .next s ∧ exec .reloadIsolate s = .next s ∧ exec .regionJoin s = .next s) ∧
    ((s.sched.engine = false ∨ s.imgState ≠ 6 ∨ s.img.commitDue = true) → exec .commitEnd s = .next s) ∧
    (s.sched.engine = true → s.imgState = 6 → s.img.commitDue = false →
      let u := s.toEmpty.sendIdents.detect 0x0E 2 0
      let v := { u with sched := { u.sched with engine := false }, img := { u.img with commitCmd := none } }
      (v.img.commitLattice = true → exec .commitEnd s = .next (v.ownCommit 0).afterBoundary) ∧
      (v.img.commitLattice = false →
        let w := v.completeOpt s.img.commitCmd 0 (BitVec.ofNat 64 (v.reg R.IMG_LAT).toNat) 0
        exec .commitEnd s = .next ({ w with
          sched := { w.sched with resume := w.sched.resume || (w.img.commitResume && !w.inLattice) } }).afterBoundary)) ∧
    (∀ (p : PortNo) (origin : Fin 512) (t : BitVec 64) (digest : Word) (resume : Bool),
      ((s.receives p.val = false ∨ s.psg.seen.contains (7, origin.val, t) = true) →
        exec (.commitAt p origin t digest resume) s = .next s) ∧
      (s.receives p.val = true → s.psg.seen.contains (7, origin.val, t) = false →
        let ports := (List.range 16).filter (fun q => s.portInImage q || ((mapPorts s.stagedMap).testBit q && s.trained q))
        let x := { s.latFlit 7 t (digest.toNat + natOfBool resume * 2 ^ 32) with origin := origin.val }
        let u := s.floodOn ports x (some p.val)
        (((u.commitRefused false).isSome = true ∨ u.measure4 ≠ digest.toNat) →
          exec (.commitAt p origin t digest resume) s = .next (u.report 2 0x13)) ∧
        (u.commitRefused false = none → u.measure4 = digest.toNat →
          (u.isRunning = true → u.passed t = true → exec (.commitAt p origin t digest resume) s =
            .next (((u.setReason { reason := 0x3C } u.chainPos).report 2 0x3C).floodFault u.sched.curTick).haltAtEnd) ∧
          (u.isRunning = true → u.passed t = false →
            exec (.commitAt p origin t digest resume) s = .next (u.await (.commit resume true) (some t) none)) ∧
          (u.isRunning = false →
            exec (.commitAt p origin t digest resume) s = .next (u.await (.commit resume true) none none))))) ∧
    (∀ (pos : Fin 512) (reason : BitVec 8),
      (s.img.latCmd.isSome = true → s.img.commitReports.any (fun r => r.1 == pos.val) = false →
        exec (.commitReport pos reason) s = .next
          { s with img := { s.img with commitReports := s.img.commitReports ++ [(pos.val, reason.toNat)] } }.judgeCommit) ∧
      (s.img.latCmd = none → exec (.commitReport pos reason) s = .next s)) ∧
    (s.img.latCmd = none → exec .latticeCommitTimeout s = .next s) ∧
    (∀ (c : CmdId) (t i : Nat), s.img.latCmd = some c → s.img.commitSince = some t →
      (List.range s.img.latSpan.2).find? (fun i => !s.img.commitReports.any (fun r => r.1 == s.img.latSpan.1 + i)) = some i →
      (s.sched.now < t + 3000000000 → exec .latticeCommitTimeout s = .next s) ∧
      (t + 3000000000 ≤ s.sched.now →
        exec .latticeCommitTimeout s = .next (s.latticeDone 0x16 (s.img.latSpan.1 + i)))) ∧
    (∀ (p : Pending) (join : BitVec 64), s.sched.engine = false → (s.echo.stageDue = false ∨ s.sched.phase ≠ .t5) →
      s.nextDue = some p → p.act = .reload join →
      let d := s.dropPending p
      ((d.fab.isolated ≠ [] ∨ d.imgState ≠ 4) → exec .reloadIsolate s = .next (d.completeOpt p.cmd 4).afterBoundary) ∧
      (d.fab.isolated = [] → d.imgState = 4 →
        let gals := mapGals d.stagedMap
        let banks := bankList (mapBanks d.stagedMap)
        let a := d.abortSnapPhase2
        let u := { a with
          fab := { a.fab with isolated := gals, region := a.isoTables gals,
                              leaves := NMap.keep a.fab.leaves (fun k => !gals.contains (k / 65)) },
          img := { a.img with reloadCmd := p.cmd, reloadJoin := join, reloadGals := gals, reloadBanks := banks,
                              reloadWritten := false } }
        let v := gals.foldl (fun s g => ((s.bringOn g).clearAsserts g).flushQueue g 5)
          (u.clearForces (fun b => gals.contains (b / 1024)))
        let w := banks.foldl (fun s b => s.stopBank b 1) v
        exec .reloadIsolate s = .next ((if w.isRunning then w.put R.DEVICE_STATE F.DEVICE_STATE_RUN_STATE 3 else w).setImgState
          7).afterBoundary)) ∧
    ((s.imgState ≠ 7 ∨ s.img.reloadWritten = true ∨ s.waking s.img.reloadGals = true) → exec .reloadWriteEnd s = .next s) ∧
    (s.imgState = 7 → s.img.reloadWritten = false → s.waking s.img.reloadGals = false → ∃ t p,
      exec .reloadWriteEnd s = .next t ∧ t.img.reloadWritten = true ∧ p.act = .joinRegion ∧ p.cmd = s.img.reloadCmd ∧
      (p.target = some s.img.reloadJoin ∨ p.target = none) ∧ t.sched.pending.getLast? = some p) ∧
    (∀ p : Pending, s.sched.engine = false → (s.echo.stageDue = false ∨ s.sched.phase ≠ .t5) → s.nextDue = some p →
      p.act = .joinRegion → ∃ t,
      exec .regionJoin s = .next t ∧ t.img.reloadCmd = none ∧ t.img.reloadGals = [] ∧ t.fab.isolated = [] ∧
        t.pending = s.pending)

/-- R305, R314, R315 and R317: the commands of one channel. Completes: kick, dmaHalt, abort, dmaResume, dmaHeadWrite,
channelEnable. -/
def Obligations.DmaChannelCommands : Prop :=
  ∀ (n : Fin 32) (s : State), s.canon →
    (s.chState n.val = 1 → ∃ t, exec (.kick n) s = .next t ∧ t.chState n.val = 2 ∧ t.dma = s.dma ∧
      (t.reg R.DMA_ACTIVE).getLsbD n.val = true ∧ RegsBut [R.DMA_CH_STATUS n.val, R.DMA_ACTIVE, R.DMA_HALTED] s t) ∧
    (s.chState n.val = 0 → exec (.kick n) s = .next s) ∧
    (2 ≤ s.chState n.val → exec (.kick n) s =
      .next { s with dma := { s.dma with kicked := NMap.set (fun _ => false) s.dma.kicked n.val true } }) ∧
    (s.chState n.val = 2 → ∃ t, exec (.dmaHalt n) s = .next t ∧ t.chState n.val = 3 ∧
      t.dma = { s.dma with haltReq := s.dma.haltReq ++ [n.val] }) ∧
    (s.chState n.val ≠ 2 → exec (.dmaHalt n) s = .next s) ∧
    (s.chState n.val = 2 ∨ s.chState n.val = 3 →
      (∀ j, s.job n.val = some j → j.error = none → ∃ t, exec (.abort n) s = .next t ∧ t.chState n.val = 3 ∧
        t.job n.val = some { j with aborted := true } ∧ ∀ k, k ≠ n.val → t.job k = s.job k) ∧
      (s.job n.val = none → ∃ t, exec (.abort n) s = .next t ∧ t.chState n.val = 3 ∧ t.dma.haltReq.contains n.val = true)) ∧
    (s.chState n.val ≠ 2 → s.chState n.val ≠ 3 → exec (.abort n) s = .next s) ∧
    (s.chState n.val = 4 → ∃ t, exec (.dmaResume n) s = .next t ∧ t.chState n.val = 2 ∧ t.dma = s.dma ∧
      (t.reg R.DMA_HALTED).getLsbD n.val = false ∧ t.reg (R.DMA_CH_ERR_INFO n.val) = s.reg (R.DMA_CH_ERR_INFO n.val)) ∧
    (s.chState n.val ≠ 4 → exec (.dmaResume n) s = .next s) ∧
    (∀ i : BitVec 16, if s.chState n.val = 0 ∨ s.chState n.val = 4
      then ∃ t, exec (.dmaHeadWrite n i) s = .next t ∧ t.fld (R.DMA_CH_HEAD n.val) F.DMA_CH_HEAD_INDEX = i.toNat ∧
        RegsBut [R.DMA_CH_HEAD n.val] s t
      else ∃ t, exec (.dmaHeadWrite n i) s = .next t ∧ t.bit (R.DMA_CH_STATUS n.val) F.DMA_CH_STATUS_CFG_ERR = true ∧
        RegsBut [R.DMA_CH_STATUS n.val] s t) ∧
    (∀ w : Word, s.bit (R.DMA_CH_CFG n.val) F.DMA_CH_CFG_ENABLE = false → ∃ t : State, exec (.channelEnable n w) s = .next t.pumped ∧
      t.reg (R.DMA_CH_HEAD n.val) = s.reg (R.DMA_CH_HEAD n.val) ∧
      if 1 ≤ F.DMA_CH_CFG_LOG2_SIZE.of w ∧ F.DMA_CH_CFG_LOG2_SIZE.of w ≤ 16
      then t.bit (R.DMA_CH_CFG n.val) F.DMA_CH_CFG_ENABLE = true ∧ t.chState n.val = 1
      else t.bit (R.DMA_CH_CFG n.val) F.DMA_CH_CFG_ENABLE = false ∧
        t.bit (R.DMA_CH_STATUS n.val) F.DMA_CH_STATUS_CFG_ERR = true)

/-- R305 and R307 to R309, R312: the descriptor's fetch and its start. Completes: descriptorFetch, descriptorStart. -/
def Obligations.DescriptorsAreFetchedAndStarted : Prop :=
  ∀ (n : Fin 32) (s : State), s.canon → s.chState n.val = 2 → s.job n.val = none → s.host.d3hot = false →
    s.fld (R.DMA_CH_CFG n.val) F.DMA_CH_CFG_LOG2_SIZE ≤ 16 →
    (s.fetchedDesc n.val = none → ∀ bs : List Byte,
      ((descOf bs).own = true → ∃ t, exec (.descriptorFetch n (.ok bs)) s = .next t ∧
        t.fetchedDesc n.val = some (descOf bs) ∧ t.regs = s.regs) ∧
      ((descOf bs).own = false → NMap.get (fun _ => false) s.dma.kicked n.val = false →
        ∃ t, exec (.descriptorFetch n (.ok bs)) s = .next t ∧ t.chState n.val = 1 ∧ t.dma = s.dma) ∧
      ((descOf bs).own = false → NMap.get (fun _ => false) s.dma.kicked n.val = true →
        ∃ t, exec (.descriptorFetch n (.ok bs)) s = .next t ∧ t.chState n.val = 2 ∧ t.fetchedDesc n.val = none) ∧
      (∀ e : BitVec 8, ∃ t, exec (.descriptorFetch n (.fail e)) s = .next t ∧ t.chState n.val = 4 ∧
        t.bit (R.DMA_CH_STATUS n.val) F.DMA_CH_STATUS_HALT_EVT = true)) ∧
    (∀ d : Desc, s.fetchedDesc n.val = some d →
      (d.len = 0 → d.controlSet = false → ∃ t : State, exec (.descriptorStart n .ok) s = .next t.pumped ∧
        t.dma.writeBacks = s.dma.writeBacks ++ [⟨n.val, s.chHead n.val, 1, 0, 0, true⟩] ∧
        t.dma.ringOut = s.dma.ringOut ++ [(s.headAddr n.val + 6, [1, 0]), (s.headAddr n.val + 0x1C, [0, 0, 0, 0]),
          (s.headAddr n.val, leBytes 4 (controlOf d))] ∧ t.chState n.val = 2 ∧
        t.chHead n.val = (s.chHead n.val + 1) % s.ringSize n.val) ∧
      (d.len ≠ 0 ∨ d.controlSet = true → descBad d = true → ∃ t, exec (.descriptorStart n .ok) s = .next t ∧
        t.dma.writeBacks = s.dma.writeBacks ++ [⟨n.val, s.chHead n.val, 4, 0, 0, false⟩] ∧ t.chState n.val = 4 ∧
        t.bit (R.DMA_CH_STATUS n.val) F.DMA_CH_STATUS_HALT_EVT = true ∧ t.reg (R.DMA_CH_HEAD n.val) = s.reg (R.DMA_CH_HEAD n.val)) ∧
      (d.len ≠ 0 → descBad d = false → windowLeft d.srcSpace d.src ≠ 0 → windowLeft d.dstSpace d.dst ≠ 0 →
        exec (.descriptorStart n .ok) s = .next
          (({ s with dma := { s.dma with desc := s.dma.desc.filter (fun x => x.1 != n.val) } }.setJob n.val (jobOf d)).pumped) ∧
        (jobOf d).total = min d.len (min (windowLeft d.srcSpace d.src) (windowLeft d.dstSpace d.dst))) ∧
      (d.len ≠ 0 → descBad d = false → (windowLeft d.srcSpace d.src = 0 ∨ windowLeft d.dstSpace d.dst = 0) →
        ∃ t, exec (.descriptorStart n .ok) s = .next t ∧
          t.dma.writeBacks = s.dma.writeBacks ++ [⟨n.val, s.chHead n.val, 2, 0, 0, false⟩] ∧ t.chState n.val = 4))

/-- R299, R306, R311 and R314: data in and out, the read-back, the write-backs, the halt. Completes: dmaReadCompletion,
dmaWriteResponse, readBack, channelHalt. -/
def Obligations.DmaDataMovesAndCompletes : Prop :=
  ∀ (n : Fin 32) (j : DmaJob) (s : State), s.canon → s.host.d3hot = false → s.job n.val = some j →
    s.fld (R.DMA_CH_CFG n.val) F.DMA_CH_CFG_LOG2_SIZE ≤ 16 →
    (∀ (off : Fin 67108864) (x : Nat × Nat), j.reads.find? (fun y => y.1 == off.val) = some x →
      j.desc.srcSpace = 0 → j.desc.srcRemote = false →
      (∀ bs : List Byte, stopped j = false →
        let b := bs.take x.2
        let ps := if j.desc.dstSpace = 0 then hostPieces s.maxPayload 4 j.desc.dst x.1 b else cutPieces 3 j.desc.dst x.1 b
        exec (.dmaReadCompletion n off (.ok bs)) s =
          .next (s.setJob n.val { j with reads := j.reads.erase x, buffer := j.buffer ++ ps }).pumped) ∧
      (∀ bs : List Byte, stopped j = true →
        exec (.dmaReadCompletion n off (.ok bs)) s = .next (s.setJob n.val { j with reads := j.reads.erase x }).pumped) ∧
      (∀ e : BitVec 8, e ≠ 0 → exec (.dmaReadCompletion n off (.fail e)) s =
        .next ((s.hostReadErr e.toNat).busError n.val { j with reads := j.reads.erase x }
          ⟨j.desc.src + x.1, 1, e.toNat, 0, false⟩).pumped)) ∧
    (∀ (off : Fin 67108864) (x : Nat × List Byte) (st : BitVec 8), j.writes.find? (fun y => y.1 == off.val) = some x →
      s.farSide j.desc.dstRemote j.desc.dstDev = true → (s.routePort j.desc.dstDev).isSome = true →
      exec (.dmaWriteResponse n off st) s = .next
        (if st = 0 then (s.setJob n.val { j with writes := j.writes.erase x, done := j.done ++ [(x.1, x.2.length)] }).pumped
         else (s.busError n.val { j with writes := j.writes.erase x }
           ⟨j.desc.dst + x.1, 2, st.toNat, j.desc.dstSpace, j.desc.dstRemote⟩).pumped)) ∧
    (j.desc.dstSpace = 0 → j.desc.dstRemote = false → wantsReadBack j = true → stopped j = false → j.limited = none →
      ∃ t : State, exec (.readBack n 0 .ok) s = .next t.pumped ∧
        t.dma.writeBacks = s.dma.writeBacks ++ [⟨n.val, s.chHead n.val, 0, 0, j.desc.len, true⟩] ∧
        t.dma.ringOut = s.dma.ringOut ++ [(s.headAddr n.val + 6, [0, 0]), (s.headAddr n.val + 0x1C, leBytes 4 j.desc.len),
          (s.headAddr n.val, leBytes 4 (controlOf j.desc))] ∧
        t.chHead n.val = (s.chHead n.val + 1) % s.ringSize n.val ∧
        t.reg (R.DMA_CH_DONE_COUNT n.val) = s.reg (R.DMA_CH_DONE_COUNT n.val) + 1 ∧
        t.fld (R.DMA_CH_STATUS n.val) F.DMA_CH_STATUS_LAST_CODE = 0 ∧
        (j.desc.intr = true → t.bit (R.DMA_CH_STATUS n.val) F.DMA_CH_STATUS_DONE_EVT = true)) ∧
    (stopped j = true → quiet j = true → wantsReadBack j = false → ∃ t : State, exec (.channelHalt n .ok) s = .next t.pumped ∧
      t.chState n.val = 4 ∧ (t.reg R.DMA_HALTED).getLsbD n.val = true ∧
      t.bit (R.DMA_CH_STATUS n.val) F.DMA_CH_STATUS_HALT_EVT = true ∧ t.chHead n.val = s.chHead n.val ∧
      ∃ code detail, t.dma.writeBacks = s.dma.writeBacks ++ [⟨n.val, s.chHead n.val, code, detail, donePrefix j, false⟩] ∧
        code = (if j.error.isSome then 3 else 5))

/-- R321 to R323. Completes: cicClaim, hostForward. -/
def Obligations.ClaimsGoToTheLowestTarget : Prop :=
  ∀ (s : State) (choice : Nat → Nat), s.canon → (∀ t, t < 5 → s.IsBest t (choice t)) →
    (∀ ts : BitVec 5,
      let got : Nat → Nat := fun t =>
        if (List.range t).any (fun u => ts.getLsbD u && choice u == choice t) then 0 else choice t
      let claim := (List.range 5).filter (fun t => ts.getLsbD t)
      ∃ u, exec (.cicClaim ts) s = .next u ∧
        u.cic.claimed = s.cic.claimed ++ (claim.filter (fun t => t != 4)).map (fun t => (t, got t)) ∧
        u.cic.service = s.cic.service ++ (claim.filter (fun t => got t != 0)).map (fun t => s.serviceOf t (got t)) ∧
        u.fld R.CIC_COUNTS F.CIC_COUNTS_SPURIOUS =
          min 0xFFFF (s.fld R.CIC_COUNTS F.CIC_COUNTS_SPURIOUS + (claim.filter (fun t => got t == 0)).length) ∧
        RegsBut [R.CIC_COUNTS] s { u with cic := s.cic, host := s.host }) ∧
    (choice 4 = 0 → exec .hostForward s = .next s) ∧
    (choice 4 ≠ 0 → ∃ u, exec .hostForward s = .next u ∧ u.cic.service = s.cic.service ++ [s.serviceOf 4 (choice 4)] ∧
      u.host.msixPend = NMap.set (fun _ => false) s.host.msixPend (s.serviceOf 4 (choice 4)).vector true ∧ u.regs = s.regs)

/-- R324, with R327: a PCIe write reaches only target 4. Completes: cicComplete. -/
def Obligations.CompletionsEndServices : Prop :=
  ∀ (t : Fin 5) (id : BitVec 9) (host : Bool) (s : State), s.canon →
    (host = true → t.val ≠ 4 → exec (.cicComplete t id host) s = .next s) ∧
    (host = false ∨ t.val = 4 →
      let here : Bool := s.cic.service.any (fun v => v.target == t.val && v.src == id.toNat)
      (id = 0 → exec (.cicComplete t id host) s = .next s) ∧
      (id ≠ 0 → here = true → ∃ u, exec (.cicComplete t id host) s = .next u ∧
        u.cic.service = s.cic.service.filter (fun v => !(v.target == t.val && v.src == id.toNat)) ∧
        (∀ v ∈ u.cic.service, v.target = t.val → v.prio ≤ u.cicRunning t.val) ∧
        (u.cicRunning t.val = 0 ∨ ∃ v ∈ u.cic.service, v.target = t.val ∧ v.prio = u.cicRunning t.val) ∧
        (∀ k, (∀ v ∈ u.cic.service, v.target = 4 → v.vector = k → v.prio ≤ u.hostRun k) ∧
          (u.hostRun k = 0 ∨ ∃ v ∈ u.cic.service, v.target = 4 ∧ v.vector = k ∧ v.prio = u.hostRun k)) ∧
        u.cic.edge = s.cic.edge ∧ u.regs = s.regs) ∧
      (id ≠ 0 → here = false → s.cicPending id.toNat = true → exec (.cicComplete t id host) s = .next s) ∧
      (id ≠ 0 → here = false → s.cicPending id.toNat = false → ∃ u, exec (.cicComplete t id host) s = .next u ∧
        u.cic = s.cic ∧ u.fld R.CIC_COUNTS F.CIC_COUNTS_COMPLETE_ORPHAN =
          min 0xFFFF (s.fld R.CIC_COUNTS F.CIC_COUNTS_COMPLETE_ORPHAN + 1) ∧
        u.fld R.CIC_ORPHAN_LAST F.CIC_ORPHAN_LAST_ID = id.toNat ∧
        u.fld R.CIC_ORPHAN_LAST F.CIC_ORPHAN_LAST_TARGET = t.val ∧ u.bit R.CIC_ORPHAN_LAST F.CIC_ORPHAN_LAST_VALID = true ∧
        RegsBut [R.CIC_COUNTS, R.CIC_ORPHAN_LAST] s u))

/-- R319, R320, R326 and R329: a configuration write is in force from the next period. Completes: sourceEvent, cicSwSet,
cicSrcWrite, wardenSourcePend, wardenTimer, softSet. -/
def Obligations.SourcesPendAndAreConfigured : Prop :=
  ∀ (s : State), s.canon →
    (∀ (n : Fin 512) (level : Bool), ¬(35 ≤ n.val ∧ n.val ≤ 38) →
      ∃ t, exec (.sourceEvent n level) s = .next t ∧
        (cicListed n.val && s.cicIsEdge n.val = true →
          t.cic = { s.cic with edge := NMap.set (fun _ => false) s.cic.edge n.val true }) ∧
        (cicListed n.val && s.cicIsEdge n.val = false → t = s)) ∧
    (∀ (k : Fin 4) (level : Bool), ∃ t, exec (.sourceEvent ⟨35 + k.val, by omega⟩ level) s = .next t ∧
      t.cic.fifo.contains k.val = level ∧ (∀ m, m ≠ k.val → t.cic.fifo.contains m = s.cic.fifo.contains m) ∧
      t.regs = s.regs) ∧
    (∀ (k : Fin 2) (w : Word), ∃ t, exec (.cicSwSet k w) s = .next t ∧ t.cic.service = s.cic.service ∧ t.regs = s.regs ∧
      (NMap.wf (fun _ => false) s.cic.edge = true → ∀ m, NMap.get (fun _ => false) t.cic.edge m =
        (NMap.get (fun _ => false) s.cic.edge m ||
          (decide (448 + 32 * k.val ≤ m ∧ m < 480 + 32 * k.val) && w.getLsbD (m - (448 + 32 * k.val)) && s.cicIsEdge m)))) ∧
    (∀ (n : Fin 512) (w : Word), cicListed n.val = true → ∃ t, exec (.cicSrcWrite n w) s = .next t ∧
      t.fld (R.CIC_SRC n.val) F.CIC_SRC_PRIORITY = F.CIC_SRC_PRIORITY.of w ∧
      t.fld (R.CIC_SRC n.val) F.CIC_SRC_TARGETS = F.CIC_SRC_TARGETS.of w ∧
      t.fld (R.CIC_SRC n.val) F.CIC_SRC_VECTOR = F.CIC_SRC_VECTOR.of w ∧
      t.cicIsEdge n.val = s.cicIsEdge n.val ∧ t.cicWord (R.CIC_SRC n.val) = s.cicWord (R.CIC_SRC n.val) ∧
      (∀ u : State, u.regs = t.regs → u.cic = t.cic → u.sched.now ≠ s.sched.now →
        u.cicWord (R.CIC_SRC n.val) = t.reg (R.CIC_SRC n.val)) ∧
      t.cic.service = s.cic.service ∧ t.cic.edge = s.cic.edge ∧ RegsBut [R.CIC_SRC n.val] s { t with cic := s.cic }) ∧
    (∀ (g : Gal), s.isOff g.val = false →
      let pends (i : Nat) : State := { s with wiu := { s.wiu with pend := NMap.set (fun _ => false) s.wiu.pend (g.val * 32 + i) true } }
      (∀ i : Fin 32, wiuLevel i.val = false → ¬(12 ≤ i.val ∧ i.val ≤ 15) →
        exec (.wardenSourcePend g i) s = .next (pends i.val)) ∧
      exec (.wardenTimer g) s = .next (pends 9) ∧
      (∀ w : BitVec 16, ∃ t, exec (.softSet g w) s = .next t ∧
        (NMap.wf (fun _ => false) s.wiu.pend = true → ∀ i, i < 16 →
          NMap.get (fun _ => false) t.wiu.pend (g.val * 32 + 16 + i) =
            (NMap.get (fun _ => false) s.wiu.pend (g.val * 32 + 16 + i) || w.getLsbD i)) ∧
        t.wiu.stack = s.wiu.stack ∧ t.regs = s.regs))

/-- R330 to R333. Completes: normalEntry, fastEntry, normalExit, fastExit. -/
def Obligations.WardenHandlersNest : Prop :=
  ∀ (g : Gal) (s : State), s.canon →
    let l := s.wiuStack g.val
    let enters (u : State) (i : Nat) (l' : List WardenFrame) : State :=
      (u.wiuClear g.val i).setStack g.val l'
    (s.galPower g.val = 0 → (∀ f ∈ l, f.fast = false ∧ f.ends ≤ s.sched.now) →
      (l.length < 7 → s.nextFast g.val = none →
        (∀ i, s.IsNextNormal g.val (levelOf l) i →
          exec (.normalEntry g) s =
            .next (enters s i (⟨i, s.wiuPrio g.val i, false, s.sched.now + normalEntry⟩ :: l))) ∧
        ((∀ i, i < 32 → s.normalAbove g.val (levelOf l) i = false) → exec (.normalEntry g) s = .next s)) ∧
      (∀ i, s.IsNextFast g.val i → exec (.fastEntry g) s = .next (enters s i (⟨i, 0, true, 0⟩ :: l))) ∧
      ((∀ i, i < 32 → s.fastPends g.val i = false) → exec (.fastEntry g) s = .next s)) ∧
    (∀ (f : WardenFrame) (r : List WardenFrame) (i : Nat), l = f :: r → s.galPower g.val = 0 →
      (∀ x ∈ l, x.fast = false) → s.sched.now < f.ends → s.IsNextFast g.val i → i ≠ f.src →
      ∃ t, exec (.fastEntry g) s = .next t ∧ t.wiuStack g.val = ⟨i, 0, true, 0⟩ :: r ∧
        t.fld (R.WIU_COUNT g.val) F.WIU_COUNT_ABANDONS =
          min 0xFFFF (s.fld (R.WIU_COUNT g.val) F.WIU_COUNT_ABANDONS + 1) ∧
        (NMap.wf (fun _ => false) s.wiu.pend = true → wiuLevel f.src = false → f.src < 12 ∨ 16 ≤ f.src ∧ f.src < 32 →
          NMap.get (fun _ => false) t.wiu.pend (g.val * 32 + f.src) = true)) ∧
    (∀ (f : WardenFrame) (r : List WardenFrame), l = f :: r →
      (f.fast = false → f.ends ≤ s.sched.now →
        (∀ i, s.IsNextNormal g.val (levelOf r) i → ∃ t, exec (.normalExit g) s = .next t ∧
          t.wiu = (enters s i (⟨i, s.wiuPrio g.val i, false, 0⟩ :: r)).wiu ∧
          t.fld (R.WIU_COUNT g.val) F.WIU_COUNT_TAIL_CHAINS =
            min 0xFFFF (s.fld (R.WIU_COUNT g.val) F.WIU_COUNT_TAIL_CHAINS + 1)) ∧
        ((∀ i, i < 32 → s.normalAbove g.val (levelOf r) i = false) → exec (.normalExit g) s = .next (s.setStack g.val r))) ∧
      (f.fast = true →
        (∀ i, s.IsNextFast g.val i → ∃ t, exec (.fastExit g) s = .next t ∧
          t.wiu = (enters s i (⟨i, 0, true, 0⟩ :: r)).wiu ∧
          t.fld (R.WIU_COUNT g.val) F.WIU_COUNT_TAIL_CHAINS =
            min 0xFFFF (s.fld (R.WIU_COUNT g.val) F.WIU_COUNT_TAIL_CHAINS + 1)) ∧
        ((∀ i, i < 32 → s.fastPends g.val i = false) → exec (.fastExit g) s = .next (s.setStack g.val r))))

/-- R337 to R340: a step acts in the next period. The integer bounds of the clamp are the model's reading (the closest
integers inside, log 30). Completes: tbIncrWrite, tbStepWrite, tbSlewWrite. -/
def Obligations.TimeAdjustmentsHaveOneOwner : Prop :=
  ∀ (by' : TbWriter) (w : Word) (s : State), s.canon →
    let refused (t : State) : Prop :=
      t.bit R.TB_STATUS F.TB_STATUS_WRITE_REFUSED = true ∧ t.sched = s.sched ∧ t.tb = s.tb ∧
        t.reg R.TB_INCR = s.reg R.TB_INCR ∧ t.reg R.TB_SLEW = s.reg R.TB_SLEW
    (s.tbOwner by' = false →
      (∃ t, exec (.tbIncrWrite by' w) s = .next t ∧ refused t) ∧
      (∃ t, exec (.tbStepWrite by' w) s = .next t ∧ refused t) ∧
      (∃ t, exec (.tbSlewWrite by' w) s = .next t ∧ refused t)) ∧
    (s.isRunning = true → s.free = false → ∃ t, exec (.tbStepWrite by' w) s = .next t ∧ refused t) ∧
    (s.tbOwner by' = true →
      (∃ t, exec (.tbIncrWrite by' w) s = .next t ∧
        (t.reg R.TB_INCR).toNat = min incrHigh (max incrLow w.toNat) ∧
        (s.bit R.TB_STATUS F.TB_STATUS_CLAMPED = false →
          (t.bit R.TB_STATUS F.TB_STATUS_CLAMPED = true ↔ w.toNat < incrLow ∨ incrHigh < w.toNat)) ∧
        t.sched = s.sched ∧ t.tb = s.tb) ∧
      (s.stepAllowed = true →
        let t : State := { s with tb := { s.tb with stepDue := s.tb.stepDue + w.toInt * 2 ^ 32 } }
        exec (.tbStepWrite by' w) s = .next t ∧
        (s.tb.slew = 0 → t.elapse.tb.stepDue = 0 ∧ t.elapse.sched.dtc =
          ((((s.sched.dtc + (s.reg R.TB_INCR).toNat : Nat) : Int) + s.tb.stepDue + w.toInt * 2 ^ 32) % 2 ^ 80).toNat)) ∧
      (∃ t, exec (.tbSlewWrite by' w) s = .next t ∧ t.tb = { s.tb with slew := w.toInt * 2 ^ 16 } ∧
        t.reg R.TB_SLEW = w ∧ t.bit R.TB_STATUS F.TB_STATUS_SLEW_ACTIVE = decide (w ≠ 0) ∧ t.sched = s.sched ∧
        RegsBut [R.TB_SLEW, R.TB_STATUS] s { t with tb := s.tb }))

/-- R335, R336, R338, R341 and R342. R349 to R351. The shortest Sync interval is the model's reading (log 57). Completes:
tbNowNsRead, dtcWrap, slewEnd, holdover, tbCfgWrite, tcForward, ptpMessage, ethLinkChange, tcForwardedClear. -/
def Obligations.TimeAndEthernet : Prop :=
  (
    ∀ (s : State), s.canon →
      (∃ t, exec .tbNowNsRead s = .next t ∧ t.fld R.TB_NOW_NS F.TB_NOW_NS_NS = s.sched.dtc / 2 ^ 32 % 2 ^ 32 ∧
        t.fld R.TB_NOW_EXT F.TB_NOW_EXT_WRAP = s.sched.dtc / 2 ^ 64 % 2 ^ 16 ∧
        t.fld R.TB_NOW_EXT F.TB_NOW_EXT_FRAC = s.sched.dtc / 2 ^ 16 % 2 ^ 16 ∧ RegsBut [R.TB_NOW_NS, R.TB_NOW_EXT] s t) ∧
      (s.sched.dtc / 2 ^ 64 < (s.sched.dtc + (s.reg R.TB_INCR).toNat) / 2 ^ 64 → s.sched.dtc < 2 ^ 80 → s.tb.slew = 0 → s.tb.stepDue = 0 →
        ∃ t, exec .dtcWrap s = .next t ∧ t = s.elapse ∧
          t.sched.dtc = (s.sched.dtc + (s.reg R.TB_INCR).toNat) % 2 ^ 80 ∧ t.wrap = (s.wrap + 1) % 2 ^ 16) ∧
      (s.tb.slew ≠ 0 → s.tb.slew.natAbs ≤ (s.reg R.TB_INCR).toNat / 2048 → ∃ t, exec .slewEnd s = .next t ∧
        t.tb.slew = 0 ∧ t.sched.now = s.sched.now + 1) ∧
      (s.alwaysLocked = false →
        s.tb.lastSample + 4 * (if s.tbSrc = 2 then 11718750 else 1500 * 2 ^ min 10 (s.fld R.TB_CFG F.TB_CFG_LT_LOG2)) ≤ s.sched.now →
        ∃ t, exec .holdover s = .next t ∧ t.bit R.TB_STATUS F.TB_STATUS_LOCKED = false ∧
        t.bit R.TB_STATUS F.TB_STATUS_HOLDOVER = true ∧
        (s.bit R.TB_STATUS F.TB_STATUS_LOCKED = true → t.bit R.TB_STATUS F.TB_STATUS_LOST_LOCK = true)) ∧
      (∀ w : Word, ∃ t, exec (.tbCfgWrite w) s = .next t ∧ t.tbSrc = F.TB_CFG_SRC.of w ∧
        t.fld R.TB_CFG F.TB_CFG_MASTER = F.TB_CFG_MASTER.of w ∧ t.fld R.TB_CFG F.TB_CFG_UP_PORT = F.TB_CFG_UP_PORT.of w ∧
        t.fld R.TB_CFG F.TB_CFG_DOWN_MASK = F.TB_CFG_DOWN_MASK.of w ∧ t.fld R.TB_CFG F.TB_CFG_LT_LOG2 = F.TB_CFG_LT_LOG2.of w ∧
        (t.tbKey = s.tbKey → t.tb = s.tb ∧ t.reg R.TB_INCR = s.reg R.TB_INCR) ∧
        (t.tbKey ≠ s.tbKey → t.reg R.TB_INCR = 0xAAAAAAAA ∧ t.tb.first = true ∧ t.tb.integ = 0 ∧
          t.bit R.TB_STATUS F.TB_STATUS_LOCKED = t.alwaysLocked))) ∧
  (
    ∀ (e : Fin 2) (s : State), s.canon →
      (∀ (m : PtpMsg) (resid : BitVec 32), s.ethRuns e.val = true → s.ptpRole e.val = 2 →
        ∃ t, exec (.tcForward e m resid) s = .next t ∧ t.tb.ptpIn = s.tb.ptpIn ++ [⟨e.val, m, s.stampOf e.val m⟩] ∧
          (s.ptpRole (1 - e.val) = 2 → t.tb.ptpOut = s.tb.ptpOut ++ [(1 - e.val, s.tcCopy e.val m resid)] ∧
            t.fld (R.ETH_STATUS e.val) F.ETH_STATUS_TC_FORWARDED =
              min 0xFFFF (s.fld (R.ETH_STATUS e.val) F.ETH_STATUS_TC_FORWARDED + 1)) ∧
          (s.ptpRole (1 - e.val) ≠ 2 → t.tb.ptpOut = s.tb.ptpOut ∧ t.regs = s.regs)) ∧
      (∀ m : PtpMsg, s.takesPtp e.val m = true → s.ptpRole e.val = 1 →
        exec (.ptpMessage e m none) s =
          .next { s with tb := { s.tb with ptpIn := s.tb.ptpIn ++ [⟨e.val, m, s.stampOf e.val m⟩] } }) ∧
      (∀ m : PtpMsg, s.takesPtp e.val m = true → s.ptpRole e.val = 1 → s.tbSrc = 2 → s.stampOf e.val m ≠ none →
        ∀ o : BitVec 64, ∃ t, exec (.ptpMessage e m (some o)) s = .next t ∧ t.tb.lastSample = s.sched.now ∧
          t.tb.ptpIn = s.tb.ptpIn ++ [⟨e.val, m, s.stampOf e.val m⟩] ∧ t.bit R.TB_STATUS F.TB_STATUS_HOLDOVER = false ∧
          t.reg R.TB_INCR = s.reg R.TB_INCR) ∧
      (∀ m resid, s.ethRuns e.val = false ∨ s.ptpRole e.val ≠ 2 → exec (.tcForward e m resid) s = .next s) ∧
      (∀ m sample, s.takesPtp e.val m = false ∨ s.ptpRole e.val ≠ 1 → exec (.ptpMessage e m sample) s = .next s) ∧
      (∀ up : Bool, ∃ t, exec (.ethLinkChange e up) s = .next t ∧
        let v := up && s.bit (R.ETH_CFG e.val) F.ETH_CFG_ENABLE && s.pwr.d2dRate != 0
        t.bit (R.ETH_STATUS e.val) F.ETH_STATUS_LINK_UP = v ∧ t.bit (R.ETH_STATUS e.val) F.ETH_STATUS_TS_VALID = v ∧
          (t.reg (R.DEVICE_READY0 + 12)).getLsbD (24 + e.val) = v ∧
          RegsBut [R.ETH_STATUS e.val, R.DEVICE_READY0 + 12] s t) ∧
      (∃ t, exec (.tcForwardedClear e) s = .next t ∧ t.fld (R.ETH_STATUS e.val) F.ETH_STATUS_TC_FORWARDED = 0 ∧
        t.bit (R.ETH_STATUS e.val) F.ETH_STATUS_LINK_UP = s.bit (R.ETH_STATUS e.val) F.ETH_STATUS_LINK_UP ∧
        RegsBut [R.ETH_STATUS e.val] s t))

/-- R340 to R342, R346 and R347. Which of the two nearest integers a correction rounds to is free (log 3). Completes:
timeFlitSend, timeFlit, ptmDialog. -/
def Obligations.LatticeTimeIsForwarded : Prop :=
  ∀ (s : State), s.canon →
    (s.bit R.TB_CFG F.TB_CFG_MASTER = true → s.intervalOver s.tb.lastSync = true →
      let f : TimeFlit := { sub := 1, origin := Fin.ofNat 512 s.devNum, seq := BitVec.ofNat 16 s.tb.txSeq,
                            wrap := BitVec.ofNat 16 s.wrap, time := BitVec.ofNat 48 s.time48, corr := 0, hops := 0 }
      ∃ t, exec .timeFlitSend s = .next t ∧ t.psg.out = s.psg.out ++ s.downPorts.map (fun p => TxFlit.time p f) ∧
        t.tb = { s.tb with txSeq := (s.tb.txSeq + 1) % 65536, lastSync := some s.sched.now } ∧ t.regs = s.regs) ∧
    (s.bit R.TB_CFG F.TB_CFG_MASTER = false ∨ s.intervalOver s.tb.lastSync = false → exec .timeFlitSend s = .next s) ∧
    (∀ n, s.intervalOver (some n) = decide (n + 1500 * 2 ^ min 10 (s.fld R.TB_CFG F.TB_CFG_LT_LOG2) ≤ s.sched.now)) ∧
    (∀ (p : PortNo) (f : TimeFlit) (resid : BitVec 32),
      (s.receives p.val = false → exec (.timeFlit p f resid) s = .next s) ∧
      (s.receives p.val = true → f.sub = 1 → (s.bit R.TB_CFG F.TB_CFG_MASTER = true ∨
        s.fld R.TB_CFG F.TB_CFG_UP_PORT ≠ p.val ∨ f.hops = 31) → exec (.timeFlit p f resid) s = .next s) ∧
      (s.receives p.val = true → f.sub = 1 → s.bit R.TB_CFG F.TB_CFG_MASTER = false →
        s.fld R.TB_CFG F.TB_CFG_UP_PORT = p.val → f.hops ≠ 31 →
        ∃ t g, exec (.timeFlit p f resid) s = .next t ∧
          t.psg.out = s.psg.out ++ s.downPorts.map (fun q => TxFlit.time q g) ∧
          g = { f with corr := g.corr, hops := f.hops + 1 } ∧
          (∃ e : Nat, e < 2 ∧ g.corr = f.corr + resid.setWidth 64 +
            BitVec.ofInt 64 (s.delayIn p.val * 65536 / 1000 + e)) ∧
          t.tb.seq = some f.seq.toNat ∧ t.tb.origin = some f.origin.val ∧
          (∀ n, s.tb.seq = some n → f.seq.toNat ≠ (n + 1) % 65536 → t.bit R.TB_STATUS F.TB_STATUS_SEQ_GAP = true) ∧
          (s.tbSrc = 1 → t.tb.first = false ∧ t.bit R.TB_STATUS F.TB_STATUS_HOLDOVER = false))) ∧
    (∀ (master : BitVec 64) (delay : BitVec 32),
      (s.tbSrc ≠ 3 ∨ s.intervalOver s.tb.lastPtm = false → exec (.ptmDialog master delay) s = .next s) ∧
      (s.tbSrc = 3 → s.intervalOver s.tb.lastPtm = true → ∃ t, exec (.ptmDialog master delay) s = .next t ∧ t.tb.first = false ∧
        t.bit R.TB_STATUS F.TB_STATUS_HOLDOVER = false ∧
        ∃ e : Int, 0 ≤ e ∧ e < 2 ∧
          let ps := (BitVec.ofNat 64 s.time64 - (master + delay.setWidth 64) * 65536).toInt * 1000 / 65536 + e
          t.reg R.TB_OFFSET = BitVec.ofInt 32 (max (-(2 ^ 31 - 1)) (min (2 ^ 31 - 1) ps))))

/-- R296, R297, R334, R397 and R398. Completes: galleryPowerRequest, galleryIdle, galleryOn, galleryPowerDown, galleryWake. -/
def Obligations.GalleryPowerTransitions : Prop :=
  ∀ (s : State), s.canon →
    (∀ (k : Fin 4) (w : Word), ∃ t, exec (.galleryPowerRequest k w) s = .next t ∧ ∀ j : Fin 16,
      let g := 16 * k.val + j.val
      let r := bitsOf (2 * j.val + 1) (2 * j.val) w.toNat
      t.galPower g = s.galPower g ∧
      (r = 3 → t.galReq g = s.galReq g) ∧
      (r ≠ 3 → (s.galBusy g = true ∨ s.galPower g = r) → t.galReq g = r) ∧
      (r ≠ 3 → s.galBusy g = false → s.galPower g ≠ r → s.galRefuses g r = true →
        t.galReq g = s.galPower g ∧ t.bit R.PWR_EVENT F.PWR_EVENT_REFUSED = true) ∧
      (r ≠ 3 → s.galBusy g = false → s.galPower g ≠ r → s.galRefuses g r = false → t.galReq g = r ∧
        (s.isOff g = false → NMap.wf (fun _ => false) s.wiu.pend = true →
          NMap.get (fun _ => false) t.wiu.pend (g * 32 + 10) = true))) ∧
    (∀ g : Gal,
      (s.galReq g.val = 1 → s.galPower g.val = 0 → s.galBusy g.val = false → s.galRefuses g.val 1 = false →
        ∃ t, exec (.galleryIdle g) s = .next t ∧ t.galPower g.val = 1 ∧
          t.bit (R.TRC_SRC_STATUS (4 + g.val)) F.TRC_SRC_STATUS_CLOCKED = false ∧ t.fab = s.fab ∧ t.mem = s.mem) ∧
      (s.galReq g.val = 0 → s.galPower g.val = 1 → ∃ t, exec (.galleryOn g) s = .next t ∧ t.galPower g.val = 0 ∧
        t.bit (R.TRC_SRC_STATUS (4 + g.val)) F.TRC_SRC_STATUS_CLOCKED = true ∧ t.fab = s.fab ∧ t.mem = s.mem) ∧
      (s.galReq g.val = 2 → s.galPower g.val < 2 → s.galBusy g.val = false → s.galRefuses g.val 2 = false →
        s.mem.bankQ.any (fun r => r.gal == g.val && r.since.isSome) = false →
        s.host.netQ.any (fun r => r.gal == g.val && r.taken) = false →
        ∃ t, exec (.galleryPowerDown g) s = .next t ∧ t.isOff g.val = true ∧
          (t.reg (R.DEVICE_READY0 + g.val / 32 * 4)).getLsbD (g.val % 32) = false ∧ t.wiuStack g.val = [] ∧
          (∀ i, i < 32 → NMap.get (fun _ => false) t.wiu.pend (g.val * 32 + i) = false) ∧
          NMap.get (fun _ => []) t.fab.asserts g.val = []) ∧
      (s.galReq g.val ≠ 2 → s.isOff g.val = true →
        let arrays := if s.bit (R.GAL_DM_CFG g.val) F.GAL_DM_CFG_MARCH_ON_WAKE then 15 else 3
        let m : March := { gal := g.val, keep := false, wake := true, start := false, arrays := arrays }
        ∃ t, exec (.galleryWake g) s = .next t ∧ t.galPower g.val = 3 ∧ t.mem.marches = s.mem.marches ++ [m]))

/-- R270, R271 and the rules it names. That galleries requested 0b11 come up On is the model's choice
(log 31). Completes: powerOn, deviceReset, hostReset. -/
def Obligations.ResetsLeaveWhatTheyLeave : Prop :=
  ∀ (s : State), s.canon →
    (∀ vbat : Bool, ∃ t, exec (.powerOn vbat) s = .next t ∧ t.part = s.part ∧ t.flash = s.flash ∧ t.pending = s.pending ∧
      t.key = (if vbat then s.key else KeyStore.reset) ∧
      (vbat = true → ∀ o, o ≠ R.LNT_STATUS → (∀ b, b < 8 → o ≠ R.RIM_BANK b) → t.reg o = regReset o) ∧
      (∀ b : Fin 8, t.bit (R.RIM_BANK b.val) F.RIM_BANK_PULL_SEL = s.part.pullSel.contains b.val) ∧
      t.lnt.identity = identityOf s.part.secret) ∧
    (∀ cause : DeviceCause, ∃ t, exec (.deviceReset cause) s = .next t ∧ t.part = s.part ∧ t.flash = s.flash ∧
      t.key = s.key ∧ t.pending = s.pending ∧ t.fab = State.reset.fab ∧ t.mem = State.reset.mem ∧ t.sched.dtc = 0 ∧
      t.lnt.armed = [] ∧
      (∀ o, ¬(0x200000 ≤ o ∧ o < 0x400000) → t.reg o = regReset o) ∧
      (∀ o, 0x200000 ≤ o → o < 0x400000 → o ∉ [R.PWR_STATUS, R.PWR_GAL_STATE 0, R.PWR_GAL_STATE 1, R.PWR_GAL_STATE 2,
        R.PWR_GAL_STATE 3] → t.reg o = s.reg o) ∧
      (∀ g : Gal, t.galPower g.val = if s.galReq g.val = 3 then 0 else s.galReq g.val)) ∧
    (∀ cause : HostCause, ∃ t, exec (.hostReset cause) s = .next t ∧ t.part = s.part ∧ t.flash = s.flash ∧
      t.key = s.key ∧ t.pending = s.pending ∧ t.sched.dtc = s.sched.dtc ∧ t.mbx.outstanding = [] ∧ t.dma.jobs = [] ∧
      t.dma.writeBacks = s.dma.writeBacks ∧ (∀ v ∈ t.cic.service, v.target ≠ 4) ∧ t.reg (R.CIC_THRESHOLD 4) = 0 ∧
      (∀ o, 0x20000 ≤ o → o < 0x30000 → t.reg o = regReset o))

/-- R8, R272, R275, R276 and R394. Completes: perstDeassert, lntPgoodRise, d2dTrain, pcieLinkUp, d3hotEntry. -/
def Obligations.BringUpAndLinks : Prop :=
  ∀ (s : State), s.canon →
    let up (t : State) : Prop := (t.reg (R.DEVICE_READY0 + 12)).getLsbD 21 = true ∧
      (∀ k : Fin 4, (t.reg (R.DEVICE_READY0 + 12)).getLsbD (16 + k.val) = true) ∧
      t.lnt.coreFw = s.fld R.LNT_STATUS F.LNT_STATUS_RUNNING ∧ t.host.perstHigh = true
    (s.host.perstHigh = false → s.bit R.PWR_STATUS F.PWR_STATUS_PGOOD = true →
      ∃ t, exec .perstDeassert s = .next t ∧ up t) ∧
    (s.host.perstHigh = false → s.bit R.PWR_STATUS F.PWR_STATUS_PGOOD = false →
      exec .perstDeassert s = .next { s with host := { s.host with perstHigh := true } }) ∧
    (s.bit R.PWR_STATUS F.PWR_STATUS_PGOOD = false → s.lnt.inRom = false → s.pwr.vaux = true →
      s.fld R.PWR_STATUS F.PWR_STATUS_RAIL_OK = 63 → ∀ since, s.pwr.railsOk = some since → since + 1500000 ≤ s.sched.now →
      s.vcoreNow = s.fld R.PWR_STATUS F.PWR_STATUS_VCORE_TARGET → ∃ t, exec .lntPgoodRise s = .next t ∧
        t.bit R.PWR_STATUS F.PWR_STATUS_PGOOD = true ∧ (s.host.perstHigh = true → up t)) ∧
    (s.pwr.d2dRate = 0 → s.pwr.d2dFails < 6 →
      (∃ t, exec (.d2dTrain true) s = .next t ∧ t.pwr.d2dRate = (if s.pwr.d2dFails < 3 then 32 else 16) ∧
        (t.reg (R.DEVICE_READY0 + 12)).getLsbD 22 = true) ∧
      (∃ t, exec (.d2dTrain false) s = .next t ∧ t.pwr.d2dRate = 0 ∧ t.pwr.d2dFails = s.pwr.d2dFails + 1 ∧
        (s.pwr.d2dFails = 5 → t.sched.haltPending = true))) ∧
    (s.pwr.d2dRate ≠ 0 → ∀ ok, exec (.d2dTrain ok) s = .next s) ∧
    (∀ (width : Fin 5) (rate : Fin 4) (rev : Bool), exec (.pcieLinkUp width rate rev) s = .next { s with host := { s.host with
      linkUp := true, width := 2 ^ width.val, rate := 8 * 2 ^ rate.val,
      reversed := if width.val = 4 then rev else s.part.laneReversal } }) ∧
    exec .d3hotEntry s = .next { s with host := { s.host with d3hot := true } }

/-- R379 to R382, for a FIFO with room. R383 to R386 and R389. Completes: traceSourceEnable, comparatorMatch, encoderPacket,
timestampInterval, tracePacket, traceDrop, traceOverflowPacket, traceClear, traceClearEnd, traceWindowRead. -/
def Obligations.TraceIsWrittenAndBuffered : Prop :=
  (
    ∀ (src : Fin 68) (s : State), s.canon → NMap.wf (fun _ => 0) s.trc.addr = true →
      let k := src.val
      let fifo (t : State) : List Dword := NMap.get (fun _ => []) t.trc.fifo k
      let addr (t : State) : Nat := NMap.get (fun _ => 0) t.trc.addr k
      let collected : List Bool := NMap.get (fun _ => []) s.trc.outcomes k
      let branch : List Dword := if collected = [] then [] else [trcWord k 2 (branchPayload collected)]
      (∀ w : Word, F.TRC_SRC_CFG_ENABLE.of w = 1 →
        (k < 4 → 2 ≤ s.part.debugLock → exec (.traceSourceEnable src w) s = .next s) ∧
        (4 ≤ k ∨ s.part.debugLock < 2 → s.bit (R.TRC_SRC_CFG k) F.TRC_SRC_CFG_ENABLE = false →
          ∃ t, exec (.traceSourceEnable src w) s = .next t ∧ t.bit (R.TRC_SRC_CFG k) F.TRC_SRC_CFG_ENABLE = true ∧
            t.fld (R.TRC_SRC_STATUS k) F.TRC_SRC_STATUS_RUNNING = F.TRC_SRC_CFG_RUN_AT_ENABLE.of w ∧
            (s.bit R.TRC_CTL F.TRC_CTL_ENABLE = true → F.TRC_SRC_CFG_RUN_AT_ENABLE.of w = 1 → (fifo s).length + 2 ≤ 30 →
              fifo t = fifo s ++ [trcWord k 1 (addr s), trcWord k 5 s.trcTime]))) ∧
      (∀ (pc : BitVec 48) (mode : BitVec 2), s.bit R.TRC_CTL F.TRC_CTL_ENABLE = true →
        s.bit (R.TRC_SRC_CFG k) F.TRC_SRC_CFG_ENABLE = true →
        (∀ i, s.cmpFirst k (srcAddr k pc) 2 = none → s.cmpFirst k (srcAddr k pc) 1 = some i →
          s.bit (R.TRC_SRC_STATUS k) F.TRC_SRC_STATUS_RUNNING = false → (fifo s).length + 3 ≤ 30 →
          ∃ t, exec (.comparatorMatch src pc mode) s = .next t ∧
            t.bit (R.TRC_SRC_STATUS k) F.TRC_SRC_STATUS_RUNNING = true ∧
            fifo t = fifo s ++ [trcWord k 0xA i, trcWord k 1 (syncPayload k mode.toNat (srcAddr k pc / 4)),
              trcWord k 5 s.trcTime]) ∧
        (∀ i, s.cmpFirst k (srcAddr k pc) 2 = some i → s.bit (R.TRC_SRC_STATUS k) F.TRC_SRC_STATUS_RUNNING = true →
          (fifo s).length + 2 ≤ 30 → ∃ t, exec (.comparatorMatch src pc mode) s = .next t ∧
            t.bit (R.TRC_SRC_STATUS k) F.TRC_SRC_STATUS_RUNNING = false ∧
            fifo t = fifo s ++ branch ++ [trcWord k 0xB i])) ∧
      (s.bit (R.TRC_SRC_STATUS k) F.TRC_SRC_STATUS_CLOCKED = true →
        (∀ (taken : Bool) (mode : BitVec 2) (next : BitVec 48), s.tracing k = true → collected.length < 45 →
          ∃ t, exec (.encoderPacket src (.branch taken mode next)) s = .next t ∧ fifo t = fifo s ∧
            NMap.get (fun _ => []) t.trc.outcomes k = collected ++ [taken] ∧
            addr t = syncPayload k mode.toNat (srcAddr k next / 4)) ∧
        (s.tracing k = true → (fifo s).length + 3 ≤ 30 → NMap.get (fun _ => 0) s.trc.count k + 3 < s.syncEvery k →
          NMap.wf (fun _ => []) s.trc.outcomes = true → ∀ (mode : BitVec 2) (next : BitVec 48),
          let p : Nat := syncPayload k mode.toNat (srcAddr k next / 4)
          (∀ taken : Bool, collected.length = 45 → ∃ t, exec (.encoderPacket src (.branch taken mode next)) s = .next t ∧
            fifo t = fifo s ++ [trcWord k 2 (branchPayload (collected ++ [taken]))] ∧
            NMap.get (fun _ => []) t.trc.outcomes k = [] ∧ addr t = p) ∧
          (∃ t, exec (.encoderPacket src (.indirect mode next)) s = .next t ∧ fifo t = fifo s ++ branch ++ [trcWord k 3 p] ∧
            addr t = p) ∧
          (∀ cause : BitVec 8, ∃ t, exec (.encoderPacket src (.trap mode cause next)) s = .next t ∧
            fifo t = fifo s ++ branch ++ [trcWord k 4 (mode.toNat * 2 ^ 51 + cause.toNat * 2 ^ 43), trcWord k 3 p] ∧ addr t = p) ∧
          exec (.encoderPacket src (.other mode next)) s = .next (s.setTrcAddr k mode.toNat (srcAddr k next / 4))) ∧
        (∀ ev : TrcEvent, s.tracing k = false → exec (.encoderPacket src ev) s =
          .next (s.setTrcAddr k ev.mode.toNat (srcAddr k ev.next / 4))) ∧
        (s.tracing k = true → (fifo s).length + 2 ≤ 30 → NMap.get (fun _ => 0) s.trc.count k + 2 < s.syncEvery k →
          s.stampAt k ≠ NMap.get (fun _ => 0) s.trc.stamps k →
          ∃ t, exec (.timestampInterval src) s = .next t ∧ fifo t = fifo s ++ branch ++ [trcWord k 5 s.trcTime]) ∧
        (s.stampAt k = NMap.get (fun _ => 0) s.trc.stamps k → exec (.timestampInterval src) s = .next s))) ∧
  (
    ∀ (s : State), s.canon →
      (∀ k w r, s.trcTurn = some k → NMap.get (fun _ => []) s.trc.fifo k = w :: r → s.trcRoom = true → s.trcTook < 2 →
        ∃ t, exec .tracePacket s = .next t ∧
          t.trc.buf = NMap.set (fun _ => 0) s.trc.buf (s.fld R.TRC_WR_PTR F.TRC_WR_PTR_SLOT) w ∧
          t.fld R.TRC_WR_PTR F.TRC_WR_PTR_SLOT = (s.fld R.TRC_WR_PTR F.TRC_WR_PTR_SLOT + 1) % 65536 ∧ t.trc.last = k ∧
          (NMap.wf (fun _ => []) s.trc.fifo = true → NMap.get (fun _ => []) t.trc.fifo k = r)) ∧
      (∀ src : Fin 68,
        let n := NMap.get (fun _ => 0) s.trc.lost src.val
        let l := NMap.get (fun _ => []) s.trc.fifo src.val
        (s.tracing src.val = true → 30 ≤ l.length → ∃ t, exec (.traceDrop src) s = .next t ∧
          t.trc.lost = NMap.set (fun _ => 0) s.trc.lost src.val (n + 1) ∧
          t.fld (R.TRC_SRC_STATUS src.val) F.TRC_SRC_STATUS_LOST = min 0xFFFF (n + 1) ∧
          t.bit R.TRC_STATUS F.TRC_STATUS_OVERFLOW_SEEN = true ∧ t.trc.fifo = s.trc.fifo) ∧
        let collected : List Bool := NMap.get (fun _ => []) s.trc.outcomes src.val
        let branch : List Dword := if collected = [] then [] else [trcWord src.val 2 (branchPayload collected)]
        (n ≠ 0 → l.length + branch.length ≤ 29 → ∃ t, exec (.traceOverflowPacket src) s = .next t ∧
          NMap.get (fun _ => []) t.trc.fifo src.val = l ++ branch ++ [trcWord src.val 9 (min 0xFFFFFFFF n),
            trcWord src.val 1 (NMap.get (fun _ => 0) s.trc.addr src.val), trcWord src.val 5 s.trcTime] ∧
          t.fld (R.TRC_SRC_STATUS src.val) F.TRC_SRC_STATUS_LOST = 0)) ∧
      (exec .traceClear s = .next (if s.bit R.TRC_CTL F.TRC_CTL_ENABLE = false ∧ s.bit R.TRC_STATUS F.TRC_STATUS_IDLE = true
        then { s with trc := { s.trc with clearing := true } } else s)) ∧
      (s.trc.clearing = true → s.bit R.TRC_CTL F.TRC_CTL_MODE = false → ∃ t, exec .traceClearEnd s = .next t ∧
        t.trc = { s.trc with buf := [], clearing := false } ∧ t.fld R.TRC_WR_PTR F.TRC_WR_PTR_SLOT = 0 ∧
        t.fld R.TRC_RD_PTR F.TRC_RD_PTR_SLOT = 0 ∧ t.bit R.TRC_STATUS F.TRC_STATUS_WRAPPED = false) ∧
      (∀ i : Fin 4096, ∃ t, exec (.traceWindowRead i) s = .next t ∧
        let d := NMap.get (fun _ => 0) s.trc.buf (s.fld R.TRC_WIN_BASE F.TRC_WIN_BASE_WINDOW * 4096 + i.val)
        t.host.replies = s.host.replies ++ [.bytes (leBytes 4 (d.toNat % 2 ^ 32))] ∧
        t.trc.latch = some (s.winSlot i.val, (d >>> 32).truncate 32) ∧ t.regs = s.regs))

/-- R261, R357, R367, R370 and R378, for commands that are served. Completes: getInfo, attest, logRead, fwUpdate,
injectStatus, injectFault. -/
def Obligations.LanternCommandsAnswer : Prop :=
  ∀ (h : Hdr) (s : State), s.canon →
    let c := cmdOf h
    (∀ buf : HostBuf, s.serves (.getInfo h buf) = true →
      let u := s.begunBy (.getInfo h buf)
      exec (.getInfo h buf) s = .next
        (if buf.len < 256 then u.complete c 0x2D
         else u.giveHost c buf u.infoBlock (BitVec.ofNat 64 (3 + u.lnt.build * 2 ^ 16)) 0)) ∧
    (∀ (nonce : BitVec 256) (buf : HostBuf), s.serves (.attest h nonce buf) = true →
      let u := s.begunBy (.attest h nonce buf)
      exec (.attest h nonce buf) s = .next
        (if buf.len < 4608 then u.complete c 0x2D
         else u.extend.giveHost c buf (u.reportBody (leBytes 32 nonce.toNat) ++
           u.identitySign (shake64 (u.reportBody (leBytes 32 nonce.toNat)))) 4608 0)) ∧
    (∀ (start : Word) (count : BitVec 16) (buf : HostBuf), s.serves (.logRead h start count buf) = true →
      let u := s.begunBy (.logRead h start count buf)
      (count = 0 ∨ 8192 < count.toNat → exec (.logRead h start count buf) s = .next (u.complete c 2)) ∧
      (1 ≤ count.toNat → count.toNat ≤ 8192 → buf.len < count.toNat * 32 →
        exec (.logRead h start count buf) s = .next (u.complete c 0x2D)) ∧
      (1 ≤ count.toNat → count.toNat ≤ 8192 → count.toNat * 32 ≤ buf.len → buf.fault = none →
        let r := u.logRead start.toNat count.toNat
        ∃ t, exec (.logRead h start count buf) s = .next t ∧
          t.mbx.hostOut = s.mbx.hostOut ++ [(c, r.1.flatMap LogEvent.bytes ++
            List.replicate (buf.len - (r.1.flatMap LogEvent.bytes).length) 0)] ∧
          t.lnt = s.lnt ∧ t.isOut c = false)) ∧
    (∀ (slot flags : BitVec 8) (buf : HostBuf) (rb : Bool), s.serves (.fwUpdate h slot flags buf rb) = true →
      let u := s.begunBy (.fwUpdate h slot flags buf rb)
      (2 ≤ slot.toNat ∨ 2 ≤ flags.toNat → exec (.fwUpdate h slot flags buf rb) s = .next (u.complete c 2)) ∧
      (slot.toNat < 2 → flags.toNat < 2 → u.lnt.upd.phase ≠ .idle →
        exec (.fwUpdate h slot flags buf rb) s = .next (u.complete c 4)) ∧
      (slot.toNat < 2 → flags.toNat < 2 → u.lnt.upd.phase = .idle → u.fwRunning = slot.toNat →
        exec (.fwUpdate h slot flags buf rb) s = .next (u.complete c 0x30)) ∧
      (slot.toNat < 2 → flags.toNat < 2 → u.lnt.upd.phase = .idle → u.fwRunning ≠ slot.toNat →
        (∀ st, hostBytes buf buf.len = .inl st → exec (.fwUpdate h slot flags buf rb) s = .next (u.complete c st)) ∧
        (∀ bs, hostBytes buf buf.len = .inr bs →
          (u.fwOk bs 0 = false → exec (.fwUpdate h slot flags buf rb) s = .next (u.complete c 0x2F)) ∧
          (u.fwOk bs 0 = true → rb = false →
            exec (.fwUpdate h slot flags buf rb) s = .next ((u.setFwImage slot.toNat []).complete c 0x2F)) ∧
          (u.fwOk bs 0 = true → rb = true → ∃ t, exec (.fwUpdate h slot flags buf rb) s = .next t ∧
            t.flash.images = NMap.set (fun _ => []) s.flash.images slot.toNat (bs.take (natAt bs 0x10 8)) ∧
            t.isOut c = false ∧
            (flags = 1 → t.flash.active = slot.toNat ∧ t.bit R.LNT_STATUS F.LNT_STATUS_ACTIVATE_PENDING = true) ∧
            (flags = 0 → t.flash.active = s.flash.active))))) ∧
    (∀ (det : Word) (unit : BitVec 16),
      (s.serves (.injectStatus h det unit) = true →
        let u := s.begunBy (.injectStatus h det unit)
        (∀ st, u.injectFail det.toNat unit.toNat false = some st →
          exec (.injectStatus h det unit) s = .next (u.complete c st)) ∧
        (u.injectFail det.toNat unit.toNat false = none → det.toNat / 256 = 0x10 →
          exec (.injectStatus h det unit) s =
            .next (((u.noteInject det.toNat unit.toNat false).complete c 0).fireLantern (det.toNat % 256) unit.toNat)) ∧
        (u.injectFail det.toNat unit.toNat false = none → det.toNat / 256 ≠ 0x10 →
          ∃ t, exec (.injectStatus h det unit) s = .next t ∧ t.isOut c = false ∧
            t.reg R.ERR_INJ_LAST = BitVec.ofNat 32
              (det.toNat / 256 % 256 * 2 ^ 16 + det.toNat % 256 * 2 ^ 8 + unit.toNat % 256))) ∧
      (s.serves (.injectFault h det unit) = true →
        let u := s.begunBy (.injectFault h det unit)
        (∀ st, u.injectFail det.toNat unit.toNat true = some st →
          exec (.injectFault h det unit) s = .next (u.complete c st)) ∧
        (u.injectFail det.toNat unit.toNat true = none →
          ∃ t, exec (.injectFault h det unit) s = .next t ∧ t.isOut c = false ∧
            t.isArmed (det.toNat / 256) (det.toNat % 256) unit.toNat = true)))

/-- R371 and R374 to R376, for commands that are served. Completes: fuseSvn, ownerProgram, ownerRevoke, bedrockSelect,
laneReversal, debugLock (fuseInstr 0 to 5), storeKek. -/
def Obligations.CountedFusesAreAuthorised : Prop :=
  ∀ (h : Hdr) (index : BitVec 8) (buf : HostBuf) (s : State), s.canon →
    let c := cmdOf h
    (∀ k : Fin 6, s.serves (fuseInstr k h index buf) = true →
      let u := s.begunBy (fuseInstr k h index buf)
      (∀ st, hostBytes buf 4160 = .inl st → exec (fuseInstr k h index buf) s = .next (u.complete c st)) ∧
      (∀ bs, hostBytes buf 4160 = .inr bs →
        ((k.val = 3 ∨ k.val = 4) → 3 ≤ s.part.debugLock →
          exec (fuseInstr k h index buf) s = .next (u.complete c 0x2E)) ∧
        ((k.val ≠ 3 ∧ k.val ≠ 4 ∨ s.part.debugLock < 3) →
          (u.fuseAuth (k.val + 1) index.toNat bs = false ∨ u.fuseRule (k.val + 1) index.toNat bs = false →
            exec (fuseInstr k h index buf) s = .next (u.complete c 2)) ∧
          (u.fuseAuth (k.val + 1) index.toNat bs = true → u.fuseRule (k.val + 1) index.toNat bs = true →
            (u.fuseLeft (k.val + 1) index.toNat = 0 ∨ 128 ≤ s.part.journal.length →
              exec (fuseInstr k h index buf) s = .next (u.complete c 0x31)) ∧
            (u.fuseLeft (k.val + 1) index.toNat ≠ 0 → s.part.journal.length < 128 →
              ∃ t, exec (fuseInstr k h index buf) s = .next t ∧
                t.part.journal = s.part.journal ++
                  [journalWord (natAt bs 0x34 1) (k.val + 1) index.toNat (natAt bs 0 1)] ∧
                t.fuseLeft (k.val + 1) index.toNat + 1 = s.fuseLeft (k.val + 1) index.toNat ∧
                settingIs k index.toNat (natAt bs 0 1) (bs.take 32) s.part t.part))))) ∧
    (s.serves (.storeKek h index buf) = true →
      let u := s.begunBy (.storeKek h index buf)
      (∀ st, hostBytes buf 4160 = .inl st → exec (.storeKek h index buf) s = .next (u.complete c st)) ∧
      (∀ bs, hostBytes buf 4160 = .inr bs →
        (u.fuseAuth 0x10 index.toNat bs = true → index.toNat < 8 → zeroAt bs 40 8 = true →
          (zeroAt bs 0 40 = true → ∃ t, exec (.storeKek h index buf) s = .next t ∧ t.part = s.part ∧
            t.key.keks = NMap.set (fun _ => []) s.key.keks index.toNat []) ∧
          (∀ kek k, zeroAt bs 0 40 = false → s.part.fuseKek = some kek → Config.keyUnwrap kek (bs.take 40) = some k →
            ∃ t, exec (.storeKek h index buf) s = .next t ∧ t.part = s.part ∧
              t.key.keks = NMap.set (fun _ => []) s.key.keks index.toNat k) ∧
          (zeroAt bs 0 40 = false →
            s.part.fuseKek = none ∨ (∃ kek, s.part.fuseKek = some kek ∧ Config.keyUnwrap kek (bs.take 40) = none) →
            exec (.storeKek h index buf) s = .next (u.complete c 2))) ∧
        (u.fuseAuth 0x10 index.toNat bs = false ∨ 8 ≤ index.toNat ∨ zeroAt bs 40 8 = false →
          exec (.storeKek h index buf) s = .next (u.complete c 2))))

/-- R354, R355, R361, R365, R366 and R369. Completes: bootRom, watchdogExpiry, failureCountClear, eventLogWrite, epoch,
detectorFire, sensorThresholdWrite. -/
def Obligations.LanternBootsAndWatches : Prop :=
  ∀ (s : State), s.canon →
    (s.lnt.inRom = true → s.lnt.armed = [] → s.flash.active < 2 →
      (∀ w ∈ s.part.journal, w.getLsbD 31 = true → w.getLsbD 30 = true) →
      (∀ f, s.bootOrder.find? s.bootable = some f → ∃ t, exec .bootRom s = .next t ∧ t.lnt.inRom = false ∧
        t.fwRunning = f ∧ t.lnt.build = fwBuild (s.fwImage (s.fwArea f)) ∧
        (f < 2 → t.fwFails f = s.fwFails f + 1) ∧ (f = 2 → t.flash = s.flash)) ∧
      (s.bootOrder.find? s.bootable = none → ∃ t, exec .bootRom s = .next t ∧ t.lnt = s.lnt ∧ t.flash = s.flash ∧
        t.bit R.LNT_STATUS F.LNT_STATUS_BOOT_SEL = s.part.bootSel ∧ RegsBut [R.LNT_STATUS] s t)) ∧
    (∃ t, exec .watchdogExpiry s = .next t ∧ t.lnt = { s.lnt with inRom := true, upd := Update.reset } ∧
      t.bit R.LNT_STATUS F.LNT_STATUS_FW_UPDATING = false ∧ t.fab = s.fab ∧ t.mem = s.mem ∧ t.sched = s.sched) ∧
    (s.lnt.inRom = false → s.fwRunning < 2 → s.lnt.startedAt + 15000000000 ≤ s.sched.now → exec .failureCountClear s = .next
      { s with flash := { s.flash with fails := NMap.set (fun _ => 0) s.flash.fails s.fwRunning 0 } }) ∧
    (∀ e es, s.lnt.logQueue = e :: es → (es ≠ [] ∨ s.lnt.logDropped = 0) →
      ∃ t, exec .eventLogWrite s = .next t ∧ t.lnt.logQueue = es ∧
        (∀ l, coalesce e s.lnt.log = some l → t.lnt.log = l ∧ t.regs = s.regs) ∧
        (coalesce e s.lnt.log = none → t.lnt.log.getLast? = some { e with seq := (s.reg R.LNT_LOG_SEQ).toNat } ∧
          t.reg R.LNT_LOG_SEQ = s.reg R.LNT_LOG_SEQ + 1)) ∧
    (s.lnt.epochDue ≤ s.sched.now → ∃ t e, exec .epoch s = .next t ∧ t.lnt.log.getLast? = some e ∧ e.source = 0x10 ∧ e.code = 0 ∧
      e.seq = (s.reg R.LNT_LOG_SEQ).toNat ∧ t.reg R.LNT_LOG_SEQ = s.reg R.LNT_LOG_SEQ + 1 ∧ t.lnt.log.length ≤ 8192) ∧
    (∀ block code unit : BitVec 8,
      (detListed block.toNat code.toNat = false ∨ unitOk block.toNat code.toNat unit.toNat = false →
        exec (.detectorFire block code unit) s = .next s) ∧
      (detListed block.toNat code.toNat = true → unitOk block.toNat code.toNat unit.toNat = true → block = 0x10 →
        exec (.detectorFire block code unit) s = .next (s.fireLantern code.toNat unit.toNat)) ∧
      (detListed block.toNat code.toNat = true → unitOk block.toNat code.toNat unit.toNat = true → block ≠ 0x10 →
        ∃ t, exec (.detectorFire block code unit) s = .next t ∧
          (detClass block.toNat code.toNat = 1 → t.bit R.ERR_STATUS F.ERR_STATUS_CE = true) ∧
          (detClass block.toNat code.toNat = 2 → t.bit R.ERR_STATUS F.ERR_STATUS_UE = true) ∧
          (detClass block.toNat code.toNat = 3 → t.bit R.ERR_STATUS F.ERR_STATUS_FATAL = true))) ∧
    (∀ (i : Sensor) (w : Word), ∃ t, exec (.sensorThresholdWrite i w) s = .next t ∧ t.reg (R.SNS_LIMIT i.val) = w ∧
      RegsBut [R.SNS_LIMIT i.val] s { t with freeCtr := s.freeCtr, lnt := s.lnt })

/-- R362 to R364, R390, R391 and R394. Completes: sensorSample, railFault, refclkLoss, vauxLoss, vcoreReview. -/
def Obligations.SensorsAndRailsAct : Prop :=
  ∀ (s : State), s.canon →
    (∀ (i : Sensor) (v : BitVec 16), ∃ t, exec (.sensorSample i (some v)) s = .next t ∧
      t.fld (R.SNS_VALUE i.val) F.SNS_VALUE_VALUE = v.toNat ∧ t.bit (R.SNS_VALUE i.val) F.SNS_VALUE_VALID = true ∧
      t.bit (R.SNS_VALUE i.val) F.SNS_VALUE_HALT = atHalt i.val v.toNat) ∧
    (∀ i : Sensor, let n := NMap.get (fun _ => 0) s.lnt.missed i.val
      (n < 9 → exec (.sensorSample i none) s =
        .next { s with lnt := { s.lnt with missed := NMap.set (fun _ => 0) s.lnt.missed i.val (n + 1) } }) ∧
      (n = 9 → ∃ t, exec (.sensorSample i none) s = .next t ∧
        t.bit (R.SNS_VALUE i.val) F.SNS_VALUE_VALID = false)) ∧
    (∀ rail : Fin 6, ∃ t, exec (.railFault rail) s = .next t ∧ t.sched.dtc = 0 ∧
      t.bit R.PWR_STATUS F.PWR_STATUS_PGOOD = false ∧ (t.reg R.PWR_STATUS).getLsbD rail.val = false) ∧
    (∃ t, exec .refclkLoss s = .next t ∧ t.sched.dtc = 0 ∧ t.bit R.PWR_STATUS F.PWR_STATUS_PGOOD = false) ∧
    (∃ t, exec .vauxLoss s = .next t ∧ t.key = s.key ∧ t.part = s.part ∧ t.flash = s.flash ∧ t.pwr.vaux = false ∧
      ∀ o, t.reg o = regReset o) ∧
    (s.pwr.vcoreFrom.2 + 15000000 ≤ s.sched.now → ∃ t b, exec .vcoreReview s = .next t ∧ t.pwr = { s.pwr with boost := b, vcoreFrom := (s.vcoreNow, s.sched.now) } ∧
      t.fld R.PWR_STATUS F.PWR_STATUS_VCORE_TARGET = min 0xAA (max 0x82 (s.part.vcoreBin + if b then 3 else 0)) ∧
      ((∃ i ∈ galSensors, ∃ x, s.reading i = some x ∧ 880 ≤ x) → b = false) ∧
      ((∀ i ∈ galSensors, ∃ x, s.reading i = some x ∧ x < 800) → b = true) ∧ RegsBut [R.PWR_STATUS] s { t with pwr := s.pwr })

/-- R354 and R359 to R361. R356 to R359. Completes: getEndpointId, getEndpointUuid, getMctpVersionSupport,
getMessageTypeSupport, getTid, getPldmVersion, getPldmTypes, getPldmCommands, getSensorReading, getSensorThresholds,
getStateSensorReadings, getPdrRepositoryInfo, getPdr, queryDeviceIdentifiers, getFirmwareParameters, getStatus (plainAnswer),
setEndpointId, setTid, setEventReceiver, setSensorThresholds, ethMgmtMessage, requestUpdate, passComponentTable,
updateComponent, transferComplete, verifyComplete, applyComplete, activateFirmware, cancelUpdate. -/
def Obligations.PldmIsAnsweredAndUpdates : Prop :=
  (
    ∀ (s : State), s.canon →
      (∀ (i : Instr) (inRom : Bool) (r : LntReply), s.plainAnswer i = some (inRom, r) →
        exec i s = .next (if s.lnt.inRom && !inRom then s
          else { s with lnt := { s.lnt with replies := s.lnt.replies ++ [r] } })) ∧
      (∀ eid : BitVec 8, exec (.setEndpointId eid) s =
        .next { s with lnt := { s.lnt with eid := eid.toNat, replies := s.lnt.replies ++ [.eid eid.toNat] } }) ∧
      (s.lnt.inRom = false →
        (∀ tid : BitVec 8, exec (.setTid tid) s =
          .next { s with lnt := { s.lnt with tid := tid.toNat, replies := s.lnt.replies ++ [.done] } }) ∧
        (∀ eid : Option (BitVec 8), exec (.setEventReceiver eid) s =
          .next { s with lnt := { s.lnt with receiver := eid.map BitVec.toNat, replies := s.lnt.replies ++ [.done] } }) ∧
        (∀ (i : Sensor) (high low : BitVec 16), ∃ t, exec (.setSensorThresholds i high low) s = .next t ∧
          t.fld (R.SNS_LIMIT i.val) F.SNS_LIMIT_HIGH = high.toNat ∧ t.fld (R.SNS_LIMIT i.val) F.SNS_LIMIT_LOW = low.toNat ∧
          t.lnt.replies = s.lnt.replies ++ [.done])) ∧
      (∀ (e : Fin 2) (m : EthMsg),
        (s.lnt.inRom = true ∨ (s.reg R.LNT_CTL).getLsbD e.val = false → exec (.ethMgmtMessage e m) s = .next s) ∧
        (s.lnt.inRom = false → (s.reg R.LNT_CTL).getLsbD e.val = true →
          exec (.ethMgmtMessage e .neighbour) s =
            .next { s with lnt := { s.lnt with replies := s.lnt.replies ++ [.neighbour] } } ∧
          exec (.ethMgmtMessage e .other) s = .next s ∧
          (∀ v4 : Bool, exec (.ethMgmtMessage e (.getTid v4)) s = .next
            (if v4 = true ∧ s.reg (R.LNT_ETH_IP4 e.val) = 0 then s
             else { s with lnt := { s.lnt with replies := s.lnt.replies ++ [.tid s.lnt.tid] } }))))) ∧
  (
    ∀ (s : State), s.canon →
      let u := s.lnt.upd
      let replied (t : State) (r : LntReply) : Prop := t.lnt.replies = s.lnt.replies ++ [r]
      let no : Out := .next { s with lnt := { s.lnt with replies := s.lnt.replies ++ [.error .notInUpdateMode] } }
      (u.phase = .idle → s.bit R.LNT_STATUS F.LNT_STATUS_FW_UPDATING = false → ∃ t, exec .requestUpdate s = .next t ∧
        t.lnt.upd.phase = .learn ∧ t.bit R.LNT_STATUS F.LNT_STATUS_FW_UPDATING = true ∧ replied t .done) ∧
      (u.phase ≠ .idle → ∃ t, exec .requestUpdate s = .next t ∧ t.lnt.upd = u ∧ replied t (.error .alreadyInUpdateMode)) ∧
      (u.phase = .learn → ∃ t, exec (.passComponentTable 1) s = .next t ∧ t.lnt.upd = { u with phase := .ready } ∧
        replied t .done) ∧
      (∀ c, u.phase ≠ .learn → exec (.passComponentTable c) s = no) ∧
      (∀ size : Word, u.phase = .ready → ∃ t, exec (.updateComponent 1 size) s = .next t ∧
        t.lnt.upd = { Update.reset with phase := .download, slot := if s.fwRunning = 0 then 1 else 0 } ∧
        t.lnt.replies = s.lnt.replies ++ [.done, .requestData 0 size.toNat]) ∧
      (∀ c size, u.phase ≠ .ready → exec (.updateComponent c size) s = no) ∧
      (∀ bs, u.phase = .download → ∃ t, exec (.transferComplete bs) s = .next t ∧
        t.lnt.upd = { u with phase := .verify, image := bs } ∧ replied t .transferComplete) ∧
      (u.phase = .verify → u.verified = false → ∃ t, exec .verifyComplete s = .next t ∧
        t.lnt.upd = (if s.fwOk u.image 0 then { u with phase := .apply, verified := true } else u) ∧
        replied t (.verifyComplete (s.fwOk u.image 0))) ∧
      (∀ ok : Bool, u.phase = .apply → ∃ t, exec (.applyComplete ok) s = .next t ∧
        t.lnt.upd = { u with phase := .ready, applied := ok } ∧ replied t (.applyComplete ok) ∧
        (ok = true → t.flash.images = NMap.set (fun _ => []) s.flash.images u.slot (u.image.take (natAt u.image 0x10 8)))) ∧
      (u.phase = .ready → u.applied = true → ∃ t, exec (.activateFirmware false) s = .next t ∧ t.flash.active = u.slot ∧
        t.lnt.upd = Update.reset ∧ t.bit R.LNT_STATUS F.LNT_STATUS_ACTIVATE_PENDING = true ∧
        t.bit R.LNT_STATUS F.LNT_STATUS_FW_UPDATING = false ∧ replied t .done) ∧
      (u.phase ≠ .ready → ∀ b, exec (.activateFirmware b) s = no) ∧
      (u.phase ≠ .idle → ∃ t, exec .cancelUpdate s = .next t ∧ t.lnt.upd = Update.reset ∧ replied t .done ∧
        t.flash = s.flash) ∧
      (u.phase = .idle → exec .cancelUpdate s = no))

/-- R12, R274, R276 to R279, R281, R283 and R284: which BAR decodes an access, what turns it away, what it does. Completes:
bar0Access, bar2Access, bar4Access. -/
def Obligations.HostAccessesAreGatedAndServed : Prop :=
  ∀ (addr : BitVec 64) (op : HostOp) (s : State), s.canon →
    (s.host.d3hot = true ∨ s.host.cfg.command.getLsbD 1 = false → s.barOf addr.toNat = none) ∧
    (s.barOf addr.toNat = none →
      exec (.bar0Access addr op .good) s = .next (s.unsupported addr op) ∧
      exec (.bar2Access addr op .good) s = .next (s.unsupported addr op) ∧
      exec (.bar4Access addr op .good) s = .next (s.unsupported addr op) ∧
      (s.unsupported addr op).host.replies = s.host.replies ++ (if isRead op then [.unsupported] else []) ∧
      (s.unsupported addr op).host.cfg.uncStatus.getLsbD 20 = true) ∧
    (∀ bar, s.barOf addr.toNat = some bar →
      (bar ≠ 0 → ∀ st, exec (.bar0Access addr op st) s = .next s) ∧
      (bar ≠ 2 → ∀ st, exec (.bar2Access addr op st) s = .next s) ∧
      (bar ≠ 4 → ∀ st, exec (.bar4Access addr op st) s = .next s) ∧
      (∀ st k, s.badReq st = some k → ∃ t,
        (bar = 0 → exec (.bar0Access addr op st) s = .next t) ∧ (bar = 2 → exec (.bar2Access addr op st) s = .next t) ∧
        (bar = 4 → exec (.bar4Access addr op st) s = .next t) ∧ (t.reg R.HOST_ERR).getLsbD 6 = true ∧
        t.host.cfg.uncStatus.getLsbD k.bit = true ∧ t.host.replies = s.host.replies ∧ t.mem = s.mem ∧ t.noc = s.noc) ∧
      (s.malformed addr op = true → ∃ t,
        (bar = 0 → exec (.bar0Access addr op .good) s = .next t) ∧ (bar = 2 → exec (.bar2Access addr op .good) s = .next t) ∧
        (bar = 4 → exec (.bar4Access addr op .good) s = .next t) ∧ t.host.cfg.uncStatus.getLsbD 18 = true ∧
        t.host.replies = s.host.replies ∧ t.mem = s.mem ∧ t.noc = s.noc)) ∧
    (s.barOf addr.toNat = some 0 → s.malformed addr op = false →
      (∀ n, op = .read n →
        (n.val = 4 → addr.toNat % 4 = 0 → s.blocked (.bar0 addr op s.sched.now) = false → s.noc.waiting = [] →
          acrossD2d (bar0Off addr) = false → bar0Off addr < 0x1000000 → ∃ t, exec (.bar0Access addr op .good) s = .next t ∧
            t.host.replies = (s.hostRead32 (bar0Off addr)).2.host.replies ++
              [.bytes (leBytes 4 (s.hostRead32 (bar0Off addr)).1.toNat)]) ∧
        (n.val ≠ 0 → bar0Ok (bar0Off addr) n.val = false → ∃ t, exec (.bar0Access addr op .good) s = .next t ∧
          t.host.replies = s.host.replies ++ [.abort] ∧ (t.reg R.HOST_ERR).getLsbD 1 = true)) ∧
      (∀ b0 b1 b2 b3 : Byte, op = .write [some b0, some b1, some b2, some b3] → addr.toNat % 4 = 0 →
        s.blocked (.bar0 addr op s.sched.now) = false → s.noc.waiting = [] → acrossD2d (bar0Off addr) = false →
        bar0Off addr < 0x1000000 →
        exec (.bar0Access addr op .good) s =
          .next (s.hostWrite32 (bar0Off addr) (BitVec.ofNat 32 (leNat [b0, b1, b2, b3])))) ∧
      (∀ bs, op = .write bs → bs.length ≠ 0 → bs.length < 4 → ∃ t, exec (.bar0Access addr op .good) s = .next t ∧
        (t.reg R.HOST_ERR).getLsbD 0 = true ∧ t.host.replies = s.host.replies ∧ t.noc = s.noc)) ∧
    (s.barOf addr.toNat = some 2 → s.malformed addr op = false → addr.toNat % 256 + opLen op ≤ 256 → 1 ≤ opLen op →
      let a := s.bar2Addr (addr.toNat % 2 ^ 32)
      (∀ n, op = .read n → a < 2 ^ 35 → s.chanReady (dsChannel a) = true → s.hostMayRead a = true →
        (s.dsReadBytes a n.val).2.1 = false → ∃ t, exec (.bar2Access addr op .good) s = .next t ∧
          t.host.replies = (s.dsReadBytes a n.val).2.2.host.replies ++ [.bytes (s.dsReadBytes a n.val).1]) ∧
      (∀ bs, op = .write bs → a < 2 ^ 35 →
        exec (.bar2Access addr op .good) s = .next ((s.dmaDsWrite a bs).2.hostAnswer 2 addr.toNat bs.length false
          (s.dmaDsWrite a bs).1 [])) ∧
      (2 ^ 35 ≤ a → ∃ t, exec (.bar2Access addr op .good) s = .next t ∧ (t.reg R.HOST_ERR).getLsbD 2 = true ∧
        t.host.replies = s.host.replies ++ (if isRead op then [.bytes (allOnes (opLen op))] else []) ∧ t.mem = s.mem)) ∧
    (s.barOf addr.toNat = some 4 → s.malformed addr op = false →
      let sel := R.BAR4_SEL (addr.toNat / 2 ^ 20 % 16)
      let g := s.fld sel F.BAR4_SEL_GALLERY
      (256 < opLen op → ∃ t, exec (.bar4Access addr op .good) s = .next t ∧ (t.reg R.HOST_ERR).getLsbD 4 = true ∧
        t.host.replies = s.host.replies ++ (if isRead op then [.abort] else [])) ∧
      (opLen op ≤ 256 →
        (s.bit sel F.BAR4_SEL_VALID = false → exec (.bar4Access addr op .good) s = .next
          (match op with | .read n => s.reply (.bytes (List.replicate n.val 0)) | .write _ => s)) ∧
        (s.bit sel F.BAR4_SEL_VALID = true → s.bit sel F.BAR4_SEL_SPACE = false → opLen op ≠ 0 →
          let who := Requester.host addr.toNat (addr.toNat % 2 ^ 20 % 8) (opLen op) (isRead op) s.sched.now
          let r : BankReq := ⟨g, addr.toNat % 2 ^ 20 / 8, hostOps (addr.toNat % 2 ^ 20) op, none, [], 0, who⟩
          exec (.bar4Access addr op .good) s = .next (s.bankRequest r)) ∧
        (s.bit sel F.BAR4_SEL_VALID = true → s.bit sel F.BAR4_SEL_SPACE = true → opLen op ≠ 0 → s.isOff g = false →
          ∃ t q, exec (.bar4Access addr op .good) s = .next t ∧ t.host.netQ = s.host.netQ ++ [q] ∧ q.gal = g ∧
            q.addr = addr.toNat ∧ q.off = addr.toNat % 2 ^ 20 ∧ q.left = opLen op ∧ q.got = [] ∧ q.born = s.sched.now ∧
            q.write = (match op with | .read _ => none | .write bs => some bs))))

/-- R4, R274, R276, R280 to R285 and R409. R86, R289, R294 and R295, and the end of R174's restore. Completes: bar2BaseWrite,
bar4SelWrite, netStoreServe, msixSend, d3hotExit, nocRspTimeout, spiTransaction, registerWrite, nocApply, routerBarrierEnd,
nocBarrierSlow, nocRspStall, schedBarrierReleaseWrite, restoreEnd. -/
def Obligations.WindowsMessagesAndBarriers : Prop :=
  (
    ∀ (s : State), s.canon →
      (s.barsOpen = true → s.barBase 0 % 2 ^ 26 = 0 → s.noc.waiting = [] →
        (∀ w : Word, ∃ t, exec (.bar2BaseWrite w) s = .next t ∧
          t.fld R.BAR2_BASE F.BAR2_BASE_BASE = F.BAR2_BASE_BASE.of w ∧ RegsBut [R.BAR2_BASE] s t) ∧
        (∀ (a : Fin 16) (w : Word), ∃ t, exec (.bar4SelWrite a w) s = .next t ∧
          t.fld (R.BAR4_SEL a.val) F.BAR4_SEL_GALLERY = F.BAR4_SEL_GALLERY.of w ∧
          t.bit (R.BAR4_SEL a.val) F.BAR4_SEL_VALID = decide (F.BAR4_SEL_VALID.of w = 1) ∧
          t.bit (R.BAR4_SEL a.val) F.BAR4_SEL_SPACE = decide (F.BAR4_SEL_SPACE.of w = 1) ∧ RegsBut [R.BAR4_SEL a.val] s t) ∧
        (∀ w : Word, ∃ t, exec (.registerWrite (.bar0 (BitVec.ofNat 26 (R.TB_LOCK_THRESH))) w) s = .next t ∧
          t.reg R.TB_LOCK_THRESH = w ∧ RegsBut [R.TB_LOCK_THRESH] s t)) ∧
      (s.barsOpen = false → (∀ w : Word, ∃ t, exec (.bar2BaseWrite w) s = .next t ∧ t.reg R.BAR2_BASE = s.reg R.BAR2_BASE) ∧
        (∀ (a : Fin 16) (w : Word), ∃ t, exec (.bar4SelWrite a w) s = .next t ∧
          t.reg (R.BAR4_SEL a.val) = s.reg (R.BAR4_SEL a.val))) ∧
      (∀ (g : Gal) (r : NetReq), s.netPeriod g.val = true → s.nextNet g.val = some r → r.write = none → r.left ≤ 8 - r.off % 8 →
        ∃ t, exec (.netStoreServe g) s = .next t ∧ t.host.replies = s.host.replies ++ [.bytes (r.got ++
          (List.range r.left).map (fun i => s.netByte (r.gal * 1024 + r.off / 1024) (r.off % 1024 + i)))] ∧
          t.fab.nsPrev = s.fab.nsPrev) ∧
      (∀ (g : Gal) (r : NetReq) (bs : List (Option Byte)), s.netPeriod g.val = true → s.nextNet g.val = some r →
        r.write = some bs → r.left ≤ 8 - r.off % 8 → ∃ t, exec (.netStoreServe g) s = .next t ∧
          t.host.replies = s.host.replies ∧ t.fab.nsCur = s.fab.nsCur ∧
          (s.runState ≤ 1 → r.off % 1024 < 0x100 → NMap.wf (fun _ => false) s.fab.nsPrev = true →
            ∀ i v, i < r.left → bs[i]? = some (some v) → t.netByte (r.gal * 1024 + r.off / 1024) (r.off % 1024 + i) = v) ∧
          (1 < s.runState ∨ 0x100 ≤ r.off % 1024 → t.fab.nsPrev = s.fab.nsPrev ∧ (t.reg R.HOST_ERR).getLsbD 3 = true)) ∧
      (∀ v : Fin 256, exec (.msixSend v) s = .next (if s.msixReady v.val
        then { s with host := { s.host with
          sent := s.host.sent ++ [(v.val, NMap.get (fun _ => 0) s.host.msixAddr v.val, NMap.get (fun _ => 0) s.host.msixData v.val)],
          msixPend := NMap.set (fun _ => false) s.host.msixPend v.val false } }
        else s)) ∧
      (s.host.d3hot = true → ∃ t : State, exec .d3hotExit s = .next t.pumped ∧ t.host.d3hot = false ∧
        (NMap.wf (fun _ => false) s.host.msixPend = true → ∀ v : Fin 256,
          ({ s with host := { s.host with d3hot := false } } : State).msixReady v.val = true →
          (v.val, NMap.get (fun _ => 0) s.host.msixAddr v.val, NMap.get (fun _ => 0) s.host.msixData v.val) ∈ t.host.sent)) ∧
      (∀ addr : BitVec 64,
        (s.overdueReads addr ≠ [] → ∃ t, exec (.nocRspTimeout addr) s = .next t ∧
          t.host.replies = s.host.replies ++ List.replicate (s.overdueReads addr).length .abort ∧
          t.overdueReads addr = [] ∧ (t.reg R.NOC_ERR).getLsbD 4 = true) ∧
        (s.overdueReads addr = [] → exec (.nocRspTimeout addr) s = .next s)) ∧
      (∀ (off : BitVec 24) (data : Word) (cut : Bool),
        (∀ cmd : BitVec 8, cmd ≠ 3 → cmd ≠ 2 → exec (.spiTransaction cmd off data cut) s = .next s) ∧
        (spiReaches off.toNat = true → cut = false →
          exec (.spiTransaction 0x03 off data cut) s = .next ((s.readReg off.toNat).2.reply (.data [(s.readReg off.toNat).1])) ∧
          exec (.spiTransaction 0x02 off data cut) s = .next (s.writeReg off.toNat data .lantern)) ∧
        (spiReaches off.toNat = false ∨ cut = true →
          exec (.spiTransaction 0x03 off data cut) s = .next (s.reply (.data [0])) ∧
          exec (.spiTransaction 0x02 off data cut) s = .next s)) ∧
      (∀ w : Word, exec (.registerWrite .msixControl w) s =
        .next { s with host := { s.host with msixEnable := w.getLsbD 15, msixFnMask := w.getLsbD 14 } }) ∧
      (∀ (o : BitVec 26) (w : Word), exec (.registerWrite (.bar0 o) w) s =
        .next (if o.toNat % 4 = 0 then s.hostWrites32 o.toNat w else s)) ∧
      (∀ (r : CfgReg) (w : Word), exec (.registerWrite (.config 0 r) w) s = .next (s.cfgWrite r w) ∧
        (s.cfgWrite .command w).barsOpen = (!s.host.d3hot && w.getLsbD 1) ∧
        (s.cfgWrite .uncStatus w).host.cfg.uncStatus = s.host.cfg.uncStatus &&& ~~~w ∧
        (∀ fn : Fin 8, fn ≠ 0 → ∃ t, exec (.registerWrite (.config fn r) w) s = .next t ∧
          t.host.replies = s.host.replies ++ [.unsupported] ∧ t.host.cfg.uncStatus.getLsbD 20 = true))) ∧
  (
    ∀ (s : State), s.canon →
      (∀ compat : Bool,
        (s.barrierBusy = true → exec (.nocApply compat) s = .next s) ∧
        (s.barrierBusy = false → ∃ t, exec (.nocApply compat) s = .next t ∧ t.barrierBusy = true ∧
          t.bit R.NOC_CTL F.NOC_CTL_COMPAT = compat ∧ t.noc.barrierSince = some s.sched.now ∧ t.noc.heldCredit = none)) ∧
      (s.barrierBusy = true → ∃ t, exec .routerBarrierEnd s = .next t ∧ t.barrierBusy = false ∧
        t.bit R.NOC_STATUS F.NOC_STATUS_COMPAT_ACTIVE = s.bit R.NOC_CTL F.NOC_CTL_COMPAT ∧
        t.noc = { s.noc with creditActive := t.noc.creditActive, barrierSince := none, compatSince := t.noc.compatSince } ∧
        t.noc.creditActive = creditsOf (s.reg R.NOC_CREDIT) ∧
        t.noc.compatSince = (if s.bit R.NOC_STATUS F.NOC_STATUS_COMPAT_ACTIVE then s.noc.compatSince else s.sched.now) ∧
        RegsBut [R.NOC_STATUS] s { t with noc := s.noc }) ∧
      (s.barrierBusy = false → exec .routerBarrierEnd s = .next s) ∧
      (∀ node : BitVec 8,
        (∀ t0, s.noc.barrierSince = some t0 → t0 + max 0x400 (s.reg R.NOC_BARRIER_LIMIT).toNat ≤ s.sched.now →
          ∃ t, exec (.nocBarrierSlow node) s = .next t ∧ (t.reg R.NOC_ERR).getLsbD 1 = true ∧ t.noc = s.noc) ∧
        (s.noc.barrierSince = none → exec (.nocBarrierSlow node) s = .next s)) ∧
      (∀ src : BitVec 8,
        (s.bit R.NOC_STATUS F.NOC_STATUS_COMPAT_ACTIVE = true →
          s.noc.compatSince + (s.reg R.NOC_STALL_LIMIT).toNat ≤ s.sched.now → ∃ t, exec (.nocRspStall src) s = .next t ∧
          (t.reg R.NOC_ERR).getLsbD 0 = true ∧ t.noc = s.noc) ∧
        (s.bit R.NOC_STATUS F.NOC_STATUS_COMPAT_ACTIVE = false ∨
          s.sched.now < s.noc.compatSince + (s.reg R.NOC_STALL_LIMIT).toNat → exec (.nocRspStall src) s = .next s)) ∧
      (∀ flags : BitVec 16, ∃ t, exec (.schedBarrierReleaseWrite flags) s = .next t ∧
        (∀ n, n < 16 → (t.reg R.SCHED_BARRIER_RELEASE).getLsbD n =
          ((s.reg R.SCHED_BARRIER_RELEASE).getLsbD n || flags.getLsbD n)) ∧
        RegsBut [R.SCHED_BARRIER_RELEASE] s { t with sched := s.sched }) ∧
      (s.sched.restoreBusy = true → ∃ t : State, exec .restoreEnd s = .next t.afterBoundary ∧ t.sched.restoreBusy = false ∧
        t.sched.engine = false ∧ t.sched.restoreCmd = none ∧ ∀ c, s.sched.restoreCmd = some c → t.isOut c = false) ∧
      (s.sched.restoreBusy = false → exec .restoreEnd s = .next s))

/-- R10, R154, R287, R289, R290 and R296. Completes: nocPacket, nocTunnelPacket. -/
def Obligations.PacketsAreRoutedAndServed : Prop :=
  ∀ (p : NocPkt) (s : State), s.canon →
    let request : Prop := p.kind = .read ∨ p.kind = .write ∨ p.kind = .atomic
    let fromHere : Prop := p.remote = false ∨ p.srcDev.val = s.devNum
    (badHeader p = true → ∃ t, exec (.nocPacket p) s = .next t ∧ (t.reg R.NOC_ERR).getLsbD 3 = true ∧
      t.noc = s.noc ∧ t.mem = s.mem ∧ t.fab = s.fab) ∧
    (badHeader p = false → p.remote = true → p.destDev.val ≠ s.devNum →
      (∀ port, s.routePort p.destDev.val = some port → exec (.nocPacket p) s = .next (s.tunnel port 16 p)) ∧
      (s.routePort p.destDev.val = none → request → fromHere →
        ∃ t, exec (.nocPacket p) s = .next t ∧ t.noc.out = s.noc.out ++ [respond p 0x0A []] ∧ t.regs = s.regs)) ∧
    (badHeader p = false → p.remote = false ∨ p.destDev.val = s.devNum → s.blocked (.pkt p) = false →
      s.noc.waiting.any (sameLane (.pkt p)) = false →
      exec (.nocPacket p) s = .next (s.atNode p) ∧
      (∀ g : Gal, p.dest.toNat = galNode g.val → s.isOff g.val = true → p.kind = .read ∨ p.kind = .write →
        (fromHere → (s.atNode p).noc.out = s.noc.out ++ [respond p 2 []]) ∧
        (p.remote = true → p.srcDev.val ≠ s.devNum → ∀ port, s.routePort p.srcDev.val = some port →
          (s.atNode p).noc.tunnelQ = s.noc.tunnelQ ++ [(port, 16, respond p 2 [])]) ∧
        (s.atNode p).fld (R.NOC_OFF_COUNT g.val) F.NOC_OFF_COUNT_REQUESTS =
          min (F.NOC_OFF_COUNT_REQUESTS.size - 1) (s.fld (R.NOC_OFF_COUNT g.val) F.NOC_OFF_COUNT_REQUESTS + 1)) ∧
      (hasEndpoint p.dest.toNat = false → p.kind = .read ∨ p.kind = .write → fromHere →
        (s.atNode p).noc.out = s.noc.out ++ [respond p 1 []] ∧ ((s.atNode p).reg R.NOC_ERR).getLsbD 2 = true)) ∧
    (badHeader p = false → ¬(p.remote = true ∧ p.destDev.val ≠ s.devNum) → s.blocked (.pkt p) = true →
      exec (.nocPacket p) s = .next { s with noc := { s.noc with waiting := s.noc.waiting ++ [.pkt p] } }) ∧
    (∀ (port : PortNo) (ttl : BitVec 8),
      (s.receives port.val = false → exec (.nocTunnelPacket port ttl p) s = .next s) ∧
      (s.receives port.val = true → badHeader p = true →
        ∃ t, exec (.nocTunnelPacket port ttl p) s = .next t ∧ (t.reg R.NOC_ERR).getLsbD 3 = true ∧ t.noc = s.noc) ∧
      (s.receives port.val = true → badHeader p = false → p.destDev.val = s.devNum →
        exec (.nocTunnelPacket port ttl p) s = .next ((s.giveCredit port.val p).arrive (.pkt p))) ∧
      (s.receives port.val = true → badHeader p = false → p.destDev.val ≠ s.devNum →
        (2 ≤ ttl.toNat → ∀ q, s.routePort p.destDev.val = some q →
          exec (.nocTunnelPacket port ttl p) s = .next ((s.giveCredit port.val p).tunnel q (ttl.toNat - 1) p)) ∧
        (ttl.toNat ≤ 1 ∨ s.routePort p.destDev.val = none →
          exec (.nocTunnelPacket port ttl p) s = .next ((s.giveCredit port.val p).noRoute port.val p) ∧
          (p.kind = .posted → (((s.giveCredit port.val p).noRoute port.val p).reg (R.PSG_ERR port.val)).getLsbD 10 = true))))
end

