-- ==== Sys2Proof/Laws/Command.lean ====
section
/-! SUPPORT. What a mailbox command that is served does, a row of a gallery's window and a boundary row whose turn it is
(R13, R20, R253, R256, R269): the later proofs cite these and do not unfold the shared operations. -/

namespace Sys2Proof.Machine

/-- A command that may start and whose functions are ready runs its own operation. -/
theorem State.command_next {s : State} {h : Hdr} {row : Instr} {tt : Bool} {needs : List Nat} {f : CmdId → State → State}
    {always : Bool} {cls : CmdClass} {buf : HostBuf} {ok : Bool} (hb : s.barred (cmdOf h) = false)
    (hs : s.spelled h row buf ok = true) (hc : (s.begin (cmdOf h) cls).lnt.coreFw ≠ 2 ∨ always = true)
    (ht : h.target = none ∨ tt = true) (hn : (s.begin (cmdOf h) cls).firstUnready needs = none) :
    s.command h row tt needs f always cls buf ok = .next (f (cmdOf h) (s.begin (cmdOf h) cls)) := by
  simp only [State.command, hb, hs, hn]
  rcases hc with hc | hc <;> rcases ht with ht | ht <;> simp [hc, ht]

/-- A served command runs its own operation in the state in which it has started. -/
theorem State.command_of_form {s : State} {i : Instr} {F : MailboxForm} (f : CmdId → State → State)
    (hF : s.mailboxForm i = some F) (hs : s.serves i = true) :
    s.command F.hdr i F.target F.needs f F.always F.cls F.buf F.ok = .next (f (cmdOf F.hdr) (s.begunBy i)) := by
  simp only [State.serves, hF, State.mayStart, Bool.and_eq_true, Bool.or_eq_true, Bool.not_eq_true', bne_iff_ne,
    Option.isNone_iff_eq_none] at hs
  obtain ⟨⟨⟨⟨hb, hsp⟩, hc⟩, ht⟩, hn⟩ := hs
  rw [State.command_next hb hsp hc ht hn, State.begunBy, hF]

/-- A row of the window of a gallery that is not Off acts (R13). -/
theorem State.window_on {s : State} {g : Nat} {f : State → State} (h : s.isOff g = false) : s.window g f = .next (f s) := by
  simp [State.window, h]

/-- A row of the window of a gallery that is Off is dropped and counted (R13). -/
theorem State.window_off {s : State} {g : Nat} {f : State → State} (h : s.isOff g = true) :
    s.window g f = .next (s.countOff g true) := by
  simp [State.window, h]

/-- What `State.turn` answers: the first due action, of the kind asked for, with no engine at work and no trigger due. -/
theorem State.turn_eq_some {s : State} {p : BoundaryAct → Bool} {x : Pending} :
    s.turn p = some x ↔
      s.sched.engine = false ∧ ¬(s.echo.stageDue = true ∧ s.sched.phase = .t5) ∧ s.nextDue = some x ∧ p x.act = true := by
  simp only [State.turn]
  split
  · rename_i h
    constructor
    · intro h'; cases h'
    · rintro ⟨h1, h2, -⟩
      rcases h with h | h
      · simp [h1] at h
      · exact absurd h h2
  · rename_i h
    rw [not_or] at h
    split
    · rename_i y hy
      rw [hy]
      split
      · rename_i hp
        simp only [Option.some.injEq]
        constructor
        · rintro rfl; exact ⟨by simpa using h.1, h.2, rfl, hp⟩
        · rintro ⟨-, -, h3, -⟩; exact h3
      · rename_i hp
        constructor
        · intro h'; cases h'
        · rintro ⟨-, -, h3, h4⟩; simp only [Option.some.injEq] at h3; subst h3; exact absurd h4 hp
    · rename_i hn
      rw [hn]
      constructor <;> simp

end Sys2Proof.Machine
end

