-- ==== Sys2Proof/Laws/NMap.lean ====
section
/-! SUPPORT. The laws of sparse stores: reading what was stored, leaving the other keys alone, keeping the canonical
form, and that canonical stores which read the same are the same data. -/

namespace Sys2Proof.Machine

variable {α : Type}

/-- Reading the key that was stored. -/
theorem NMap.get_set_self [DecidableEq α] (d : Nat → α) (m : NMap α) (k : Nat) (v : α)
    (h : NMap.wf d m = true) : NMap.get d (NMap.set d m k v) k = v := by
  fun_induction NMap.set d m k v with
  | case1 k => simp [NMap.get]
  | case2 k v hv => simp [NMap.get]
  | case3 k' v' t k hlt => simp [NMap.get, hlt, Nat.ne_of_lt hlt]
  | case4 k' v' t k v hlt hv => simp [NMap.get]
  | case5 v' t k hlt =>
    cases t with
    | nil => simp [NMap.get]
    | cons e t =>
      obtain ⟨k2, v2⟩ := e
      simp [NMap.wf] at h
      simp [NMap.get, h.1.2, Nat.ne_of_lt h.1.2]
  | case6 v' t k v hlt hv => simp [NMap.get]
  | case7 k' v' t k v h1 h2 ih =>
    have hw : NMap.wf d t = true := by
      cases t with
      | nil => rfl
      | cons e t => obtain ⟨k2, v2⟩ := e; simp only [NMap.wf, Bool.and_eq_true] at h; exact h.2
    simp [NMap.get, h1, h2, ih hw]

/-- The other keys read as before. -/
theorem NMap.get_set_of_ne [DecidableEq α] (d : Nat → α) (m : NMap α) (k j : Nat) (v : α)
    (h : NMap.wf d m = true) (hj : j ≠ k) : NMap.get d (NMap.set d m k v) j = NMap.get d m j := by
  fun_induction NMap.set d m k v with
  | case1 k => rfl
  | case2 k v hv => simp [NMap.get, hj]
  | case3 k' v' t k hlt => rfl
  | case4 k' v' t k v hlt hv =>
    by_cases hjk : j < k
    · have : j < k' := by omega
      simp [NMap.get, hj, hjk, this, Nat.ne_of_lt this]
    · simp [NMap.get, hj, hjk]
  | case5 v' t k hlt =>
    by_cases hjk : j < k
    · cases t with
      | nil => simp [NMap.get, hj]
      | cons e t =>
        obtain ⟨k2, v2⟩ := e
        simp [NMap.wf] at h
        have : j < k2 := by omega
        simp [NMap.get, hj, hjk, this, Nat.ne_of_lt this]
    · simp [NMap.get, hj, hjk]
  | case6 v' t k v hlt hv => simp [NMap.get, hj]
  | case7 k' v' t k v h1 h2 ih =>
    have hw : NMap.wf d t = true := by
      cases t with
      | nil => rfl
      | cons e t => obtain ⟨k2, v2⟩ := e; simp only [NMap.wf, Bool.and_eq_true] at h; exact h.2
    simp [NMap.get, ih hw hj]

/-- The canonical form of a list with a head. -/
theorem NMap.wf_cons [DecidableEq α] (d : Nat → α) (k : Nat) (v : α) (t : NMap α) :
    NMap.wf d ((k, v) :: t) = true ↔ v ≠ d k ∧ (∀ e ∈ t, k < e.1) ∧ NMap.wf d t = true := by
  induction t generalizing k v with
  | nil => simp [NMap.wf]
  | cons e t ih =>
    obtain ⟨k2, v2⟩ := e
    simp only [NMap.wf, Bool.and_eq_true, decide_eq_true_eq, List.mem_cons, ne_eq, forall_eq_or_imp]
    constructor
    · rintro ⟨⟨hv, hk⟩, hw⟩
      exact ⟨hv, ⟨hk, fun e he => Nat.lt_trans hk (((ih k2 v2).1 hw).2.1 e he)⟩, hw⟩
    · rintro ⟨hv, ⟨hk, _⟩, hw⟩
      exact ⟨⟨hv, hk⟩, hw⟩

/-- Storing adds no key but its own. -/
theorem NMap.mem_set [DecidableEq α] (d : Nat → α) (m : NMap α) (k : Nat) (v : α) (e : Nat × α)
    (h : e ∈ NMap.set d m k v) : e ∈ m ∨ e = (k, v) := by
  fun_induction NMap.set d m k v with
  | case1 k => cases h
  | case2 k v hv => exact .inr (List.mem_singleton.1 h)
  | case3 k' v' t k hlt => exact .inl h
  | case4 k' v' t k v hlt hv => exact (List.mem_cons.1 h).elim .inr .inl
  | case5 v' t k hlt => exact .inl (List.mem_cons_of_mem _ h)
  | case6 v' t k v hlt hv => exact (List.mem_cons.1 h).elim .inr (fun h => .inl (List.mem_cons_of_mem _ h))
  | case7 k' v' t k v h1 h2 ih =>
    rcases List.mem_cons.1 h with rfl | h
    · exact .inl List.mem_cons_self
    · exact (ih h).imp (List.mem_cons_of_mem _) id

/-- Storing keeps the canonical form. -/
theorem NMap.wf_set [DecidableEq α] (d : Nat → α) (m : NMap α) (k : Nat) (v : α) (h : NMap.wf d m = true) :
    NMap.wf d (NMap.set d m k v) = true := by
  fun_induction NMap.set d m k v with
  | case1 k => rfl
  | case2 k v hv => simpa [NMap.wf] using hv
  | case3 k' v' t k hlt => exact h
  | case4 k' v' t k v hlt hv =>
    refine (NMap.wf_cons d _ _ _).2 ⟨hv, ?_, h⟩
    intro e he
    rcases List.mem_cons.1 he with rfl | he
    · exact hlt
    · exact Nat.lt_trans hlt (((NMap.wf_cons d _ _ _).1 h).2.1 e he)
  | case5 v' t k hlt => exact ((NMap.wf_cons d _ _ _).1 h).2.2
  | case6 v' t k v hlt hv =>
    have := (NMap.wf_cons d _ _ _).1 h
    exact (NMap.wf_cons d _ _ _).2 ⟨‹_›, this.2.1, this.2.2⟩
  | case7 k' v' t k v h1 h2 ih =>
    have hc := (NMap.wf_cons d _ _ _).1 h
    refine (NMap.wf_cons d _ _ _).2 ⟨hc.1, ?_, ih hc.2.2⟩
    intro e he
    rcases NMap.mem_set d t k v e he with he | rfl
    · exact hc.2.1 e he
    · show k' < k; omega

/-- Keeping some entries keeps the canonical form. -/
theorem NMap.wf_filter [DecidableEq α] (d : Nat → α) (m : NMap α) (p : Nat × α → Bool) (h : NMap.wf d m = true) :
    NMap.wf d (m.filter p) = true := by
  induction m with
  | nil => rfl
  | cons e t ih =>
    obtain ⟨k, v⟩ := e
    have hc := (NMap.wf_cons d _ _ _).1 h
    by_cases hp : p (k, v)
    · rw [List.filter_cons_of_pos hp]
      exact (NMap.wf_cons d _ _ _).2 ⟨hc.1, fun e he => hc.2.1 e (List.mem_filter.1 he).1, ih hc.2.2⟩
    · rw [List.filter_cons_of_neg hp]
      exact ih hc.2.2

/-- The same of `keep`. -/
theorem NMap.wf_keep [DecidableEq α] (d : Nat → α) (m : NMap α) (p : Nat → Bool) (h : NMap.wf d m = true) :
    NMap.wf d (NMap.keep m p) = true := NMap.wf_filter d m _ h

/-- The same of storing a list of pairs. -/
theorem NMap.wf_setAll [DecidableEq α] (d : Nat → α) (l : List (Nat × α)) (m : NMap α) (h : NMap.wf d m = true) :
    NMap.wf d (NMap.setAll d m l) = true := by
  induction l generalizing m with
  | nil => exact h
  | cons e t ih => exact ih _ (NMap.wf_set d m e.1 e.2 h)

/-- In a canonical store a key below every listed one reads as the default. -/
theorem NMap.get_below [DecidableEq α] (d : Nat → α) (m : NMap α) (k : Nat) (h : ∀ e ∈ m, k < e.1) :
    NMap.get d m k = d k := by
  cases m with
  | nil => rfl
  | cons e t =>
    obtain ⟨k', v⟩ := e
    have := h (k', v) (List.mem_cons_self)
    simp [NMap.get, Nat.ne_of_lt this, this]

/-- Canonical stores that read the same at every key are equal. -/
theorem NMap.ext_of_get [DecidableEq α] (d : Nat → α) (m n : NMap α) (hm : NMap.wf d m = true)
    (hn : NMap.wf d n = true) (h : ∀ k, NMap.get d m k = NMap.get d n k) : m = n := by
  induction m generalizing n with
  | nil =>
    cases n with
    | nil => rfl
    | cons e t =>
      obtain ⟨k, v⟩ := e
      have := h k
      simp [NMap.get] at this
      exact absurd this.symm ((NMap.wf_cons d _ _ _).1 hn).1
  | cons e t ih =>
    obtain ⟨k, v⟩ := e
    have hm' := (NMap.wf_cons d _ _ _).1 hm
    cases n with
    | nil =>
      have := h k
      simp [NMap.get] at this
      exact absurd this hm'.1
    | cons e2 t2 =>
      obtain ⟨k2, v2⟩ := e2
      have hn' := (NMap.wf_cons d _ _ _).1 hn
      have hk : k = k2 := by
        rcases Nat.lt_trichotomy k k2 with hlt | heq | hgt
        · have := h k
          simp [NMap.get, Nat.ne_of_lt hlt, hlt] at this
          exact absurd this hm'.1
        · exact heq
        · have := h k2
          simp [NMap.get, Nat.ne_of_lt hgt, hgt] at this
          exact absurd this.symm hn'.1
      subst hk
      have hv : v = v2 := by simpa [NMap.get] using h k
      subst hv
      congr 1
      refine ih t2 hm'.2.2 hn'.2.2 (fun j => ?_)
      have := h j
      by_cases hj : j = k
      · subst hj
        rw [NMap.get_below d t j hm'.2.1, NMap.get_below d t2 j hn'.2.1]
      · by_cases hlt : j < k
        · rw [NMap.get_below d t j (fun e he => Nat.lt_trans hlt (hm'.2.1 e he)),
            NMap.get_below d t2 j (fun e he => Nat.lt_trans hlt (hn'.2.1 e he))]
        · simpa [NMap.get, hj, hlt] using this

end Sys2Proof.Machine
end

