-- ==== Sys2Proof/Laws/Frame.lean ====
section
/-! SUPPORT. Frames by parts: what an operation leaves alone, with a mask of the parts it may change (bit n: the n-th
constructor of Comp), and how frames of composed operations follow. -/

namespace Sys2Proof.Machine

/-- The bit of a part. -/
def Comp.bit : Comp → Nat
  | .regs => 0
  | .freeCtr => 1
  | .part => 2
  | .fab => 3
  | .sched => 4
  | .mem => 5
  | .echo => 6
  | .rim => 7
  | .psg => 8
  | .img => 9
  | .mbx => 10
  | .noc => 11
  | .host => 12
  | .dma => 13
  | .cic => 14
  | .wiu => 15
  | .tb => 16
  | .lnt => 17
  | .flash => 18
  | .key => 19
  | .trc => 20
  | .pwr => 21

/-- Outside the parts of mask `m` state `t` is as state `s`, its queue is the same, and its registers and memories are
in canonical form if those of `s` are. -/
def Touch (m : Nat) (s t : State) : Prop :=
  t.pending = s.pending ∧ (∀ c : Comp, m.testBit c.bit = false → Comp.same c s t) ∧ (s.canon → t.canon)

theorem Comp.same_refl (c : Comp) (s : State) : Comp.same c s s := by cases c <;> rfl

theorem Comp.same_trans {c : Comp} {s t u : State} (h : Comp.same c s t) (g : Comp.same c t u) : Comp.same c s u := by
  cases c <;> exact Eq.trans g h

theorem Touch.refl (m : Nat) (s : State) : Touch m s s := ⟨rfl, fun c _ => c.same_refl s, id⟩

theorem testBit_of_land {m n i : Nat} (h : m &&& n = m) (hn : n.testBit i = false) : m.testBit i = false := by
  rw [← h, Nat.testBit_and, hn, Bool.and_false]

/-- A step of mask `m` after steps of a wider mask. -/
theorem Touch.then {m n : Nat} {s t u : State} (h : Touch n s t) (g : Touch m t u) (hm : m &&& n = m) : Touch n s u :=
  ⟨g.1.trans h.1, fun c hc => Comp.same_trans (h.2.1 c hc) (g.2.1 c (testBit_of_land hm hc)), fun hs => g.2.2 (h.2.2 hs)⟩

theorem Touch.ite {m : Nat} {c : Prop} [Decidable c] {s a b : State} (ha : Touch m s a) (hb : Touch m s b) :
    Touch m s (if c then a else b) := by split <;> assumption

theorem Touch.foldl {α : Type} {m : Nat} {f : State → α → State} (hf : ∀ t x, Touch m t (f t x)) (l : List α) (s : State) :
    Touch m s (l.foldl f s) := by
  induction l generalizing s with
  | nil => exact Touch.refl m s
  | cons x xs ih => exact (hf s x).then (ih (f s x)) (Nat.and_self m)

/-- An outcome whose next state, if it is one, has changed only in the parts of mask `m`. -/
def OutTouch (m : Nat) (s : State) (o : Out) : Prop := ∀ t, o = .next t → Touch m s t

theorem OutTouch.next {m : Nat} {s t : State} (h : Touch m s t) : OutTouch m s (.next t) := by
  intro u hu; cases hu; exact h

theorem OutTouch.fault {m : Nat} {s : State} {f : Fault} : OutTouch m s (.fault f) := by
  intro u hu; cases hu

theorem OutTouch.ite {m : Nat} {c : Prop} [Decidable c] {s : State} {a b : Out} (ha : OutTouch m s a)
    (hb : OutTouch m s b) : OutTouch m s (if c then a else b) := by split <;> assumption

theorem Touch.mono {m n : Nat} {s t : State} (g : Touch m s t) (hm : m &&& n = m) : Touch n s t :=
  (Touch.refl n s).then g hm

theorem OutTouch.mono {m n : Nat} {s : State} {o : Out} (g : OutTouch m s o) (hm : m &&& n = m) : OutTouch n s o :=
  fun t ht => (g t ht).mono hm

theorem Touch.cutP {m : Nat} {s x : State} {P : Prop} (k : Touch m s x → P) (h : Touch m s x) : P := k h

theorem Touch.foldl' {α : Type} {m : Nat} {f : State → α → State} {l : List α} {s t : State} (h : Touch m s t)
    (hf : ∀ t x, Touch m t (f t x)) : Touch m s (l.foldl f t) := h.then (Touch.foldl hf l t) (Nat.and_self m)

theorem Touch.foldlFst {α β : Type} {m : Nat} {f : State × β → α → State × β} {l : List α} {s t : State} {b : β}
    (h : Touch m s t) (hf : ∀ (a : State × β) x, Touch m a.1 (f a x).1) : Touch m s (l.foldl f (t, b)).1 := by
  induction l generalizing t b with
  | nil => exact h
  | cons x xs ih => exact ih (h.then (hf (t, b) x) (Nat.and_self m))

theorem Touch.foldlSnd {α β : Type} {m : Nat} {f : β × State → α → β × State} {l : List α} {s t : State} {b : β}
    (h : Touch m s t) (hf : ∀ (a : β × State) x, Touch m a.2 (f a x).2) : Touch m s (l.foldl f (b, t)).2 := by
  induction l generalizing t b with
  | nil => exact h
  | cons x xs ih => exact ih (h.then (hf (b, t) x) (Nat.and_self m))

theorem Touch.pair {α : Type} {m : Nat} {s t : State} {a : α} (h : Touch m s t) : Touch m s (a, t).2 := h

theorem Touch.trip {α β : Type} {m : Nat} {s t : State} {a : α} {b : β} (h : Touch m s t) : Touch m s (a, b, t).2.2 := h

theorem Touch.fst {α : Type} {m : Nat} {s t : State} {a : α} (h : Touch m s t) : Touch m s (t, a).1 := h

theorem Memory.wf_iff (m : Mem) : Memory.wf m = true ↔ NMap.wf dZero64 m.dm = true ∧ NMap.wf dGood m.dmEcc = true ∧
    NMap.wf dByte m.ds = true ∧ NMap.wf dGood m.dsEcc = true := by
  simp [Memory.wf, Bool.and_eq_true, and_assoc]

/-- The memories are canonical when each is the old one or a canonical one. -/
theorem Memory.wf_of {m n : Mem} (h1 : NMap.wf dZero64 m.dm = true → NMap.wf dZero64 n.dm = true)
    (h2 : NMap.wf dGood m.dmEcc = true → NMap.wf dGood n.dmEcc = true)
    (h3 : NMap.wf dByte m.ds = true → NMap.wf dByte n.ds = true)
    (h4 : NMap.wf dGood m.dsEcc = true → NMap.wf dGood n.dsEcc = true) (h : Memory.wf m = true) : Memory.wf n = true := by
  have := (Memory.wf_iff m).1 h
  exact (Memory.wf_iff n).2 ⟨h1 this.1, h2 this.2.1, h3 this.2.2.1, h4 this.2.2.2⟩

theorem Touch.set_regs {m : Nat} {s t : State} {e0} (h : Touch m s t) (h0 : m.testBit 0 = true) (hr : NMap.wf regReset t.regs = true → NMap.wf regReset e0 = true) :
    Touch m s { t with regs := e0 } := by
  refine ⟨h.1, fun c hc => ?_, fun hs => ⟨hr (h.2.2 hs).1, (h.2.2 hs).2⟩⟩
  cases c
  case regs => exact absurd (h0.symm.trans hc) (by decide)
  all_goals exact h.2.1 _ hc

theorem Touch.set_freeCtr {m : Nat} {s t : State} {e0} (h : Touch m s t) (h0 : m.testBit 1 = true) :
    Touch m s { t with freeCtr := e0 } := by
  refine ⟨h.1, fun c hc => ?_, h.2.2⟩
  cases c
  case freeCtr => exact absurd (h0.symm.trans hc) (by decide)
  all_goals exact h.2.1 _ hc

theorem Touch.set_part {m : Nat} {s t : State} {e0} (h : Touch m s t) (h0 : m.testBit 2 = true) :
    Touch m s { t with part := e0 } := by
  refine ⟨h.1, fun c hc => ?_, h.2.2⟩
  cases c
  case part => exact absurd (h0.symm.trans hc) (by decide)
  all_goals exact h.2.1 _ hc

theorem Touch.set_fab {m : Nat} {s t : State} {e0} (h : Touch m s t) (h0 : m.testBit 3 = true) :
    Touch m s { t with fab := e0 } := by
  refine ⟨h.1, fun c hc => ?_, h.2.2⟩
  cases c
  case fab => exact absurd (h0.symm.trans hc) (by decide)
  all_goals exact h.2.1 _ hc

theorem Touch.set_sched {m : Nat} {s t : State} {e0} (h : Touch m s t) (h0 : m.testBit 4 = true) :
    Touch m s { t with sched := e0 } := by
  refine ⟨h.1, fun c hc => ?_, h.2.2⟩
  cases c
  case sched => exact absurd (h0.symm.trans hc) (by decide)
  all_goals exact h.2.1 _ hc

theorem Touch.set_mem {m : Nat} {s t : State} {e0} (h : Touch m s t) (h0 : m.testBit 5 = true) (hw : Memory.wf t.mem = true → Memory.wf e0 = true) :
    Touch m s { t with mem := e0 } := by
  refine ⟨h.1, fun c hc => ?_, fun hs => ⟨(h.2.2 hs).1, hw (h.2.2 hs).2⟩⟩
  cases c
  case mem => exact absurd (h0.symm.trans hc) (by decide)
  all_goals exact h.2.1 _ hc

theorem Touch.set_echo {m : Nat} {s t : State} {e0} (h : Touch m s t) (h0 : m.testBit 6 = true) :
    Touch m s { t with echo := e0 } := by
  refine ⟨h.1, fun c hc => ?_, h.2.2⟩
  cases c
  case echo => exact absurd (h0.symm.trans hc) (by decide)
  all_goals exact h.2.1 _ hc

theorem Touch.set_rim {m : Nat} {s t : State} {e0} (h : Touch m s t) (h0 : m.testBit 7 = true) :
    Touch m s { t with rim := e0 } := by
  refine ⟨h.1, fun c hc => ?_, h.2.2⟩
  cases c
  case rim => exact absurd (h0.symm.trans hc) (by decide)
  all_goals exact h.2.1 _ hc

theorem Touch.set_psg {m : Nat} {s t : State} {e0} (h : Touch m s t) (h0 : m.testBit 8 = true) :
    Touch m s { t with psg := e0 } := by
  refine ⟨h.1, fun c hc => ?_, h.2.2⟩
  cases c
  case psg => exact absurd (h0.symm.trans hc) (by decide)
  all_goals exact h.2.1 _ hc

theorem Touch.set_img {m : Nat} {s t : State} {e0} (h : Touch m s t) (h0 : m.testBit 9 = true) :
    Touch m s { t with img := e0 } := by
  refine ⟨h.1, fun c hc => ?_, h.2.2⟩
  cases c
  case img => exact absurd (h0.symm.trans hc) (by decide)
  all_goals exact h.2.1 _ hc

theorem Touch.set_mbx {m : Nat} {s t : State} {e0} (h : Touch m s t) (h0 : m.testBit 10 = true) :
    Touch m s { t with mbx := e0 } := by
  refine ⟨h.1, fun c hc => ?_, h.2.2⟩
  cases c
  case mbx => exact absurd (h0.symm.trans hc) (by decide)
  all_goals exact h.2.1 _ hc

theorem Touch.set_noc {m : Nat} {s t : State} {e0} (h : Touch m s t) (h0 : m.testBit 11 = true) :
    Touch m s { t with noc := e0 } := by
  refine ⟨h.1, fun c hc => ?_, h.2.2⟩
  cases c
  case noc => exact absurd (h0.symm.trans hc) (by decide)
  all_goals exact h.2.1 _ hc

theorem Touch.set_host {m : Nat} {s t : State} {e0} (h : Touch m s t) (h0 : m.testBit 12 = true) :
    Touch m s { t with host := e0 } := by
  refine ⟨h.1, fun c hc => ?_, h.2.2⟩
  cases c
  case host => exact absurd (h0.symm.trans hc) (by decide)
  all_goals exact h.2.1 _ hc

theorem Touch.set_dma {m : Nat} {s t : State} {e0} (h : Touch m s t) (h0 : m.testBit 13 = true) :
    Touch m s { t with dma := e0 } := by
  refine ⟨h.1, fun c hc => ?_, h.2.2⟩
  cases c
  case dma => exact absurd (h0.symm.trans hc) (by decide)
  all_goals exact h.2.1 _ hc

theorem Touch.set_cic {m : Nat} {s t : State} {e0} (h : Touch m s t) (h0 : m.testBit 14 = true) :
    Touch m s { t with cic := e0 } := by
  refine ⟨h.1, fun c hc => ?_, h.2.2⟩
  cases c
  case cic => exact absurd (h0.symm.trans hc) (by decide)
  all_goals exact h.2.1 _ hc

theorem Touch.set_wiu {m : Nat} {s t : State} {e0} (h : Touch m s t) (h0 : m.testBit 15 = true) :
    Touch m s { t with wiu := e0 } := by
  refine ⟨h.1, fun c hc => ?_, h.2.2⟩
  cases c
  case wiu => exact absurd (h0.symm.trans hc) (by decide)
  all_goals exact h.2.1 _ hc

theorem Touch.set_tb {m : Nat} {s t : State} {e0} (h : Touch m s t) (h0 : m.testBit 16 = true) :
    Touch m s { t with tb := e0 } := by
  refine ⟨h.1, fun c hc => ?_, h.2.2⟩
  cases c
  case tb => exact absurd (h0.symm.trans hc) (by decide)
  all_goals exact h.2.1 _ hc

theorem Touch.set_lnt {m : Nat} {s t : State} {e0} (h : Touch m s t) (h0 : m.testBit 17 = true) :
    Touch m s { t with lnt := e0 } := by
  refine ⟨h.1, fun c hc => ?_, h.2.2⟩
  cases c
  case lnt => exact absurd (h0.symm.trans hc) (by decide)
  all_goals exact h.2.1 _ hc

theorem Touch.set_flash {m : Nat} {s t : State} {e0} (h : Touch m s t) (h0 : m.testBit 18 = true) :
    Touch m s { t with flash := e0 } := by
  refine ⟨h.1, fun c hc => ?_, h.2.2⟩
  cases c
  case flash => exact absurd (h0.symm.trans hc) (by decide)
  all_goals exact h.2.1 _ hc

theorem Touch.set_key {m : Nat} {s t : State} {e0} (h : Touch m s t) (h0 : m.testBit 19 = true) :
    Touch m s { t with key := e0 } := by
  refine ⟨h.1, fun c hc => ?_, h.2.2⟩
  cases c
  case key => exact absurd (h0.symm.trans hc) (by decide)
  all_goals exact h.2.1 _ hc

theorem Touch.set_trc {m : Nat} {s t : State} {e0} (h : Touch m s t) (h0 : m.testBit 20 = true) :
    Touch m s { t with trc := e0 } := by
  refine ⟨h.1, fun c hc => ?_, h.2.2⟩
  cases c
  case trc => exact absurd (h0.symm.trans hc) (by decide)
  all_goals exact h.2.1 _ hc

theorem Touch.set_pwr {m : Nat} {s t : State} {e0} (h : Touch m s t) (h0 : m.testBit 21 = true) :
    Touch m s { t with pwr := e0 } := by
  refine ⟨h.1, fun c hc => ?_, h.2.2⟩
  cases c
  case pwr => exact absurd (h0.symm.trans hc) (by decide)
  all_goals exact h.2.1 _ hc

theorem Touch.set_raised {m : Nat} {s t : State} {e0} (h : Touch m s t) (h0 : m.testBit 0 = true) :
    Touch m s { t with raised := e0 } := by
  refine ⟨h.1, fun c hc => ?_, h.2.2⟩
  cases c
  case regs => exact absurd (h0.symm.trans hc) (by decide)
  all_goals exact h.2.1 _ hc

theorem Touch.set_fab_echo {m : Nat} {s t : State} {e0} {e1} (h : Touch m s t) (h0 : m.testBit 3 = true) (h1 : m.testBit 6 = true) :
    Touch m s { t with fab := e0, echo := e1 } := by
  refine ⟨h.1, fun c hc => ?_, h.2.2⟩
  cases c
  case fab => exact absurd (h0.symm.trans hc) (by decide)
  case echo => exact absurd (h1.symm.trans hc) (by decide)
  all_goals exact h.2.1 _ hc

theorem Touch.set_fab_img {m : Nat} {s t : State} {e0} {e1} (h : Touch m s t) (h0 : m.testBit 3 = true) (h1 : m.testBit 9 = true) :
    Touch m s { t with fab := e0, img := e1 } := by
  refine ⟨h.1, fun c hc => ?_, h.2.2⟩
  cases c
  case fab => exact absurd (h0.symm.trans hc) (by decide)
  case img => exact absurd (h1.symm.trans hc) (by decide)
  all_goals exact h.2.1 _ hc

theorem Touch.set_fab_mem {m : Nat} {s t : State} {e0} {e1} (h : Touch m s t) (h0 : m.testBit 3 = true) (h1 : m.testBit 5 = true) (hw : Memory.wf t.mem = true → Memory.wf e1 = true) :
    Touch m s { t with fab := e0, mem := e1 } := by
  refine ⟨h.1, fun c hc => ?_, fun hs => ⟨(h.2.2 hs).1, hw (h.2.2 hs).2⟩⟩
  cases c
  case fab => exact absurd (h0.symm.trans hc) (by decide)
  case mem => exact absurd (h1.symm.trans hc) (by decide)
  all_goals exact h.2.1 _ hc

theorem Touch.set_fab_psg {m : Nat} {s t : State} {e0} {e1} (h : Touch m s t) (h0 : m.testBit 3 = true) (h1 : m.testBit 8 = true) :
    Touch m s { t with fab := e0, psg := e1 } := by
  refine ⟨h.1, fun c hc => ?_, h.2.2⟩
  cases c
  case fab => exact absurd (h0.symm.trans hc) (by decide)
  case psg => exact absurd (h1.symm.trans hc) (by decide)
  all_goals exact h.2.1 _ hc

theorem Touch.set_fab_sched {m : Nat} {s t : State} {e0} {e1} (h : Touch m s t) (h0 : m.testBit 3 = true) (h1 : m.testBit 4 = true) :
    Touch m s { t with fab := e0, sched := e1 } := by
  refine ⟨h.1, fun c hc => ?_, h.2.2⟩
  cases c
  case fab => exact absurd (h0.symm.trans hc) (by decide)
  case sched => exact absurd (h1.symm.trans hc) (by decide)
  all_goals exact h.2.1 _ hc

theorem Touch.set_fab_sched_echo_psg_img_mbx {m : Nat} {s t : State} {e0} {e1} {e2} {e3} {e4} {e5} (h : Touch m s t) (h0 : m.testBit 3 = true) (h1 : m.testBit 4 = true) (h2 : m.testBit 6 = true) (h3 : m.testBit 8 = true) (h4 : m.testBit 9 = true) (h5 : m.testBit 10 = true) :
    Touch m s { t with fab := e0, sched := e1, echo := e2, psg := e3, img := e4, mbx := e5 } := by
  refine ⟨h.1, fun c hc => ?_, h.2.2⟩
  cases c
  case fab => exact absurd (h0.symm.trans hc) (by decide)
  case sched => exact absurd (h1.symm.trans hc) (by decide)
  case echo => exact absurd (h2.symm.trans hc) (by decide)
  case psg => exact absurd (h3.symm.trans hc) (by decide)
  case img => exact absurd (h4.symm.trans hc) (by decide)
  case mbx => exact absurd (h5.symm.trans hc) (by decide)
  all_goals exact h.2.1 _ hc

theorem Touch.set_fab_sched_echo_rim_psg {m : Nat} {s t : State} {e0} {e1} {e2} {e3} {e4} (h : Touch m s t) (h0 : m.testBit 3 = true) (h1 : m.testBit 4 = true) (h2 : m.testBit 6 = true) (h3 : m.testBit 7 = true) (h4 : m.testBit 8 = true) :
    Touch m s { t with fab := e0, sched := e1, echo := e2, rim := e3, psg := e4 } := by
  refine ⟨h.1, fun c hc => ?_, h.2.2⟩
  cases c
  case fab => exact absurd (h0.symm.trans hc) (by decide)
  case sched => exact absurd (h1.symm.trans hc) (by decide)
  case echo => exact absurd (h2.symm.trans hc) (by decide)
  case rim => exact absurd (h3.symm.trans hc) (by decide)
  case psg => exact absurd (h4.symm.trans hc) (by decide)
  all_goals exact h.2.1 _ hc

theorem Touch.set_key_pwr {m : Nat} {s t : State} {e0} {e1} (h : Touch m s t) (h0 : m.testBit 19 = true) (h1 : m.testBit 21 = true) :
    Touch m s { t with key := e0, pwr := e1 } := by
  refine ⟨h.1, fun c hc => ?_, h.2.2⟩
  cases c
  case key => exact absurd (h0.symm.trans hc) (by decide)
  case pwr => exact absurd (h1.symm.trans hc) (by decide)
  all_goals exact h.2.1 _ hc

theorem Touch.set_mem_dma {m : Nat} {s t : State} {e0} {e1} (h : Touch m s t) (h0 : m.testBit 5 = true) (h1 : m.testBit 13 = true) (hw : Memory.wf t.mem = true → Memory.wf e0 = true) :
    Touch m s { t with mem := e0, dma := e1 } := by
  refine ⟨h.1, fun c hc => ?_, fun hs => ⟨(h.2.2 hs).1, hw (h.2.2 hs).2⟩⟩
  cases c
  case mem => exact absurd (h0.symm.trans hc) (by decide)
  case dma => exact absurd (h1.symm.trans hc) (by decide)
  all_goals exact h.2.1 _ hc

theorem Touch.set_mem_noc_host {m : Nat} {s t : State} {e0} {e1} {e2} (h : Touch m s t) (h0 : m.testBit 5 = true) (h1 : m.testBit 11 = true) (h2 : m.testBit 12 = true) (hw : Memory.wf t.mem = true → Memory.wf e0 = true) :
    Touch m s { t with mem := e0, noc := e1, host := e2 } := by
  refine ⟨h.1, fun c hc => ?_, fun hs => ⟨(h.2.2 hs).1, hw (h.2.2 hs).2⟩⟩
  cases c
  case mem => exact absurd (h0.symm.trans hc) (by decide)
  case noc => exact absurd (h1.symm.trans hc) (by decide)
  case host => exact absurd (h2.symm.trans hc) (by decide)
  all_goals exact h.2.1 _ hc

theorem Touch.set_noc_host {m : Nat} {s t : State} {e0} {e1} (h : Touch m s t) (h0 : m.testBit 11 = true) (h1 : m.testBit 12 = true) :
    Touch m s { t with noc := e0, host := e1 } := by
  refine ⟨h.1, fun c hc => ?_, h.2.2⟩
  cases c
  case noc => exact absurd (h0.symm.trans hc) (by decide)
  case host => exact absurd (h1.symm.trans hc) (by decide)
  all_goals exact h.2.1 _ hc

theorem Touch.set_psg_noc {m : Nat} {s t : State} {e0} {e1} (h : Touch m s t) (h0 : m.testBit 8 = true) (h1 : m.testBit 11 = true) :
    Touch m s { t with psg := e0, noc := e1 } := by
  refine ⟨h.1, fun c hc => ?_, h.2.2⟩
  cases c
  case psg => exact absurd (h0.symm.trans hc) (by decide)
  case noc => exact absurd (h1.symm.trans hc) (by decide)
  all_goals exact h.2.1 _ hc

theorem Touch.set_raised_fab_sched_tb {m : Nat} {s t : State} {e0} {e1} {e2} {e3} (h : Touch m s t) (h0 : m.testBit 0 = true) (h1 : m.testBit 3 = true) (h2 : m.testBit 4 = true) (h3 : m.testBit 16 = true) :
    Touch m s { t with raised := e0, fab := e1, sched := e2, tb := e3 } := by
  refine ⟨h.1, fun c hc => ?_, h.2.2⟩
  cases c
  case regs => exact absurd (h0.symm.trans hc) (by decide)
  case fab => exact absurd (h1.symm.trans hc) (by decide)
  case sched => exact absurd (h2.symm.trans hc) (by decide)
  case tb => exact absurd (h3.symm.trans hc) (by decide)
  all_goals exact h.2.1 _ hc

theorem Touch.set_regs_fab {m : Nat} {s t : State} {e0} {e1} (h : Touch m s t) (h0 : m.testBit 0 = true) (h1 : m.testBit 3 = true) (hr : NMap.wf regReset t.regs = true → NMap.wf regReset e0 = true) :
    Touch m s { t with regs := e0, fab := e1 } := by
  refine ⟨h.1, fun c hc => ?_, fun hs => ⟨hr (h.2.2 hs).1, (h.2.2 hs).2⟩⟩
  cases c
  case regs => exact absurd (h0.symm.trans hc) (by decide)
  case fab => exact absurd (h1.symm.trans hc) (by decide)
  all_goals exact h.2.1 _ hc

theorem Touch.set_regs_fab_mem {m : Nat} {s t : State} {e0} {e1} {e2} (h : Touch m s t) (h0 : m.testBit 0 = true) (h1 : m.testBit 3 = true) (h2 : m.testBit 5 = true) (hr : NMap.wf regReset t.regs = true → NMap.wf regReset e0 = true) (hw : Memory.wf t.mem = true → Memory.wf e2 = true) :
    Touch m s { t with regs := e0, fab := e1, mem := e2 } := by
  refine ⟨h.1, fun c hc => ?_, fun hs => ⟨hr (h.2.2 hs).1, hw (h.2.2 hs).2⟩⟩
  cases c
  case regs => exact absurd (h0.symm.trans hc) (by decide)
  case fab => exact absurd (h1.symm.trans hc) (by decide)
  case mem => exact absurd (h2.symm.trans hc) (by decide)
  all_goals exact h.2.1 _ hc

theorem Touch.set_sched_echo_rim {m : Nat} {s t : State} {e0} {e1} {e2} (h : Touch m s t) (h0 : m.testBit 4 = true) (h1 : m.testBit 6 = true) (h2 : m.testBit 7 = true) :
    Touch m s { t with sched := e0, echo := e1, rim := e2 } := by
  refine ⟨h.1, fun c hc => ?_, h.2.2⟩
  cases c
  case sched => exact absurd (h0.symm.trans hc) (by decide)
  case echo => exact absurd (h1.symm.trans hc) (by decide)
  case rim => exact absurd (h2.symm.trans hc) (by decide)
  all_goals exact h.2.1 _ hc

theorem Touch.set_sched_img {m : Nat} {s t : State} {e0} {e1} (h : Touch m s t) (h0 : m.testBit 4 = true) (h1 : m.testBit 9 = true) :
    Touch m s { t with sched := e0, img := e1 } := by
  refine ⟨h.1, fun c hc => ?_, h.2.2⟩
  cases c
  case sched => exact absurd (h0.symm.trans hc) (by decide)
  case img => exact absurd (h1.symm.trans hc) (by decide)
  all_goals exact h.2.1 _ hc

theorem Touch.set_sched_psg {m : Nat} {s t : State} {e0} {e1} (h : Touch m s t) (h0 : m.testBit 4 = true) (h1 : m.testBit 8 = true) :
    Touch m s { t with sched := e0, psg := e1 } := by
  refine ⟨h.1, fun c hc => ?_, h.2.2⟩
  cases c
  case sched => exact absurd (h0.symm.trans hc) (by decide)
  case psg => exact absurd (h1.symm.trans hc) (by decide)
  all_goals exact h.2.1 _ hc

theorem Touch.set_sched_psg_img {m : Nat} {s t : State} {e0} {e1} {e2} (h : Touch m s t) (h0 : m.testBit 4 = true) (h1 : m.testBit 8 = true) (h2 : m.testBit 9 = true) :
    Touch m s { t with sched := e0, psg := e1, img := e2 } := by
  refine ⟨h.1, fun c hc => ?_, h.2.2⟩
  cases c
  case sched => exact absurd (h0.symm.trans hc) (by decide)
  case psg => exact absurd (h1.symm.trans hc) (by decide)
  case img => exact absurd (h2.symm.trans hc) (by decide)
  all_goals exact h.2.1 _ hc

end Sys2Proof.Machine
end

