-- ==== Sys2Proof/Laws/State.lean ====
section
/-! SUPPORT. What each named update of the state leaves: one lemma per field per update. -/

namespace Sys2Proof.Machine

@[simp] theorem State.setReg_pending (s : State) (o : Nat) (w : Word) : (s.setReg o w).pending = s.pending := rfl
@[simp] theorem State.setReg_regs (s : State) (o : Nat) (w : Word) : (s.setReg o w).regs = NMap.set regReset s.regs o w := rfl
@[simp] theorem State.setReg_raised (s : State) (o : Nat) (w : Word) : (s.setReg o w).raised = s.raised := rfl
@[simp] theorem State.setReg_freeCtr (s : State) (o : Nat) (w : Word) : (s.setReg o w).freeCtr = s.freeCtr := rfl
@[simp] theorem State.setReg_part (s : State) (o : Nat) (w : Word) : (s.setReg o w).part = s.part := rfl
@[simp] theorem State.setReg_fab (s : State) (o : Nat) (w : Word) : (s.setReg o w).fab = s.fab := rfl
@[simp] theorem State.setReg_sched (s : State) (o : Nat) (w : Word) : (s.setReg o w).sched = s.sched := rfl
@[simp] theorem State.setReg_mem (s : State) (o : Nat) (w : Word) : (s.setReg o w).mem = s.mem := rfl
@[simp] theorem State.setReg_echo (s : State) (o : Nat) (w : Word) : (s.setReg o w).echo = s.echo := rfl
@[simp] theorem State.setReg_rim (s : State) (o : Nat) (w : Word) : (s.setReg o w).rim = s.rim := rfl
@[simp] theorem State.setReg_psg (s : State) (o : Nat) (w : Word) : (s.setReg o w).psg = s.psg := rfl
@[simp] theorem State.setReg_img (s : State) (o : Nat) (w : Word) : (s.setReg o w).img = s.img := rfl
@[simp] theorem State.setReg_mbx (s : State) (o : Nat) (w : Word) : (s.setReg o w).mbx = s.mbx := rfl
@[simp] theorem State.setReg_noc (s : State) (o : Nat) (w : Word) : (s.setReg o w).noc = s.noc := rfl
@[simp] theorem State.setReg_host (s : State) (o : Nat) (w : Word) : (s.setReg o w).host = s.host := rfl
@[simp] theorem State.setReg_dma (s : State) (o : Nat) (w : Word) : (s.setReg o w).dma = s.dma := rfl
@[simp] theorem State.setReg_cic (s : State) (o : Nat) (w : Word) : (s.setReg o w).cic = s.cic := rfl
@[simp] theorem State.setReg_wiu (s : State) (o : Nat) (w : Word) : (s.setReg o w).wiu = s.wiu := rfl
@[simp] theorem State.setReg_tb (s : State) (o : Nat) (w : Word) : (s.setReg o w).tb = s.tb := rfl
@[simp] theorem State.setReg_lnt (s : State) (o : Nat) (w : Word) : (s.setReg o w).lnt = s.lnt := rfl
@[simp] theorem State.setReg_flash (s : State) (o : Nat) (w : Word) : (s.setReg o w).flash = s.flash := rfl
@[simp] theorem State.setReg_key (s : State) (o : Nat) (w : Word) : (s.setReg o w).key = s.key := rfl
@[simp] theorem State.setReg_trc (s : State) (o : Nat) (w : Word) : (s.setReg o w).trc = s.trc := rfl
@[simp] theorem State.setReg_pwr (s : State) (o : Nat) (w : Word) : (s.setReg o w).pwr = s.pwr := rfl

@[simp] theorem State.put_pending (s : State) (o : Nat) (f : Field) (n : Nat) : (s.put o f n).pending = s.pending := rfl
@[simp] theorem State.put_regs (s : State) (o : Nat) (f : Field) (n : Nat) : (s.put o f n).regs = NMap.set regReset s.regs o (f.put (s.reg o) n) := rfl
@[simp] theorem State.put_raised (s : State) (o : Nat) (f : Field) (n : Nat) : (s.put o f n).raised = s.raised := rfl
@[simp] theorem State.put_freeCtr (s : State) (o : Nat) (f : Field) (n : Nat) : (s.put o f n).freeCtr = s.freeCtr := rfl
@[simp] theorem State.put_part (s : State) (o : Nat) (f : Field) (n : Nat) : (s.put o f n).part = s.part := rfl
@[simp] theorem State.put_fab (s : State) (o : Nat) (f : Field) (n : Nat) : (s.put o f n).fab = s.fab := rfl
@[simp] theorem State.put_sched (s : State) (o : Nat) (f : Field) (n : Nat) : (s.put o f n).sched = s.sched := rfl
@[simp] theorem State.put_mem (s : State) (o : Nat) (f : Field) (n : Nat) : (s.put o f n).mem = s.mem := rfl
@[simp] theorem State.put_echo (s : State) (o : Nat) (f : Field) (n : Nat) : (s.put o f n).echo = s.echo := rfl
@[simp] theorem State.put_rim (s : State) (o : Nat) (f : Field) (n : Nat) : (s.put o f n).rim = s.rim := rfl
@[simp] theorem State.put_psg (s : State) (o : Nat) (f : Field) (n : Nat) : (s.put o f n).psg = s.psg := rfl
@[simp] theorem State.put_img (s : State) (o : Nat) (f : Field) (n : Nat) : (s.put o f n).img = s.img := rfl
@[simp] theorem State.put_mbx (s : State) (o : Nat) (f : Field) (n : Nat) : (s.put o f n).mbx = s.mbx := rfl
@[simp] theorem State.put_noc (s : State) (o : Nat) (f : Field) (n : Nat) : (s.put o f n).noc = s.noc := rfl
@[simp] theorem State.put_host (s : State) (o : Nat) (f : Field) (n : Nat) : (s.put o f n).host = s.host := rfl
@[simp] theorem State.put_dma (s : State) (o : Nat) (f : Field) (n : Nat) : (s.put o f n).dma = s.dma := rfl
@[simp] theorem State.put_cic (s : State) (o : Nat) (f : Field) (n : Nat) : (s.put o f n).cic = s.cic := rfl
@[simp] theorem State.put_wiu (s : State) (o : Nat) (f : Field) (n : Nat) : (s.put o f n).wiu = s.wiu := rfl
@[simp] theorem State.put_tb (s : State) (o : Nat) (f : Field) (n : Nat) : (s.put o f n).tb = s.tb := rfl
@[simp] theorem State.put_lnt (s : State) (o : Nat) (f : Field) (n : Nat) : (s.put o f n).lnt = s.lnt := rfl
@[simp] theorem State.put_flash (s : State) (o : Nat) (f : Field) (n : Nat) : (s.put o f n).flash = s.flash := rfl
@[simp] theorem State.put_key (s : State) (o : Nat) (f : Field) (n : Nat) : (s.put o f n).key = s.key := rfl
@[simp] theorem State.put_trc (s : State) (o : Nat) (f : Field) (n : Nat) : (s.put o f n).trc = s.trc := rfl
@[simp] theorem State.put_pwr (s : State) (o : Nat) (f : Field) (n : Nat) : (s.put o f n).pwr = s.pwr := rfl

@[simp] theorem State.raise_pending (s : State) (o : Nat) (f : Field) : (s.raise o f).pending = s.pending := rfl
@[simp] theorem State.raise_regs (s : State) (o : Nat) (f : Field) : (s.raise o f).regs = NMap.set regReset s.regs o (f.put (s.reg o) 1) := rfl
@[simp] theorem State.raise_raised (s : State) (o : Nat) (f : Field) :
    (s.raise o f).raised = NMap.set (fun _ => 0) s.raised o (f.put (NMap.get (fun _ => 0) s.raised o) 1) := rfl
@[simp] theorem State.raise_freeCtr (s : State) (o : Nat) (f : Field) : (s.raise o f).freeCtr = s.freeCtr := rfl
@[simp] theorem State.raise_part (s : State) (o : Nat) (f : Field) : (s.raise o f).part = s.part := rfl
@[simp] theorem State.raise_fab (s : State) (o : Nat) (f : Field) : (s.raise o f).fab = s.fab := rfl
@[simp] theorem State.raise_sched (s : State) (o : Nat) (f : Field) : (s.raise o f).sched = s.sched := rfl
@[simp] theorem State.raise_mem (s : State) (o : Nat) (f : Field) : (s.raise o f).mem = s.mem := rfl
@[simp] theorem State.raise_echo (s : State) (o : Nat) (f : Field) : (s.raise o f).echo = s.echo := rfl
@[simp] theorem State.raise_rim (s : State) (o : Nat) (f : Field) : (s.raise o f).rim = s.rim := rfl
@[simp] theorem State.raise_psg (s : State) (o : Nat) (f : Field) : (s.raise o f).psg = s.psg := rfl
@[simp] theorem State.raise_img (s : State) (o : Nat) (f : Field) : (s.raise o f).img = s.img := rfl
@[simp] theorem State.raise_mbx (s : State) (o : Nat) (f : Field) : (s.raise o f).mbx = s.mbx := rfl
@[simp] theorem State.raise_noc (s : State) (o : Nat) (f : Field) : (s.raise o f).noc = s.noc := rfl
@[simp] theorem State.raise_host (s : State) (o : Nat) (f : Field) : (s.raise o f).host = s.host := rfl
@[simp] theorem State.raise_dma (s : State) (o : Nat) (f : Field) : (s.raise o f).dma = s.dma := rfl
@[simp] theorem State.raise_cic (s : State) (o : Nat) (f : Field) : (s.raise o f).cic = s.cic := rfl
@[simp] theorem State.raise_wiu (s : State) (o : Nat) (f : Field) : (s.raise o f).wiu = s.wiu := rfl
@[simp] theorem State.raise_tb (s : State) (o : Nat) (f : Field) : (s.raise o f).tb = s.tb := rfl
@[simp] theorem State.raise_lnt (s : State) (o : Nat) (f : Field) : (s.raise o f).lnt = s.lnt := rfl
@[simp] theorem State.raise_flash (s : State) (o : Nat) (f : Field) : (s.raise o f).flash = s.flash := rfl
@[simp] theorem State.raise_key (s : State) (o : Nat) (f : Field) : (s.raise o f).key = s.key := rfl
@[simp] theorem State.raise_trc (s : State) (o : Nat) (f : Field) : (s.raise o f).trc = s.trc := rfl
@[simp] theorem State.raise_pwr (s : State) (o : Nat) (f : Field) : (s.raise o f).pwr = s.pwr := rfl

@[simp] theorem State.bump_pending (s : State) (o : Nat) (f : Field) (n : Nat) : (s.bump o f n).pending = s.pending := rfl
@[simp] theorem State.bump_regs (s : State) (o : Nat) (f : Field) (n : Nat) : (s.bump o f n).regs =
    NMap.set regReset s.regs o (f.put (s.reg o) (satAdd (f.size - 1) (s.fld o f) n)) := rfl
@[simp] theorem State.bump_raised (s : State) (o : Nat) (f : Field) (n : Nat) : (s.bump o f n).raised = s.raised := rfl
@[simp] theorem State.bump_freeCtr (s : State) (o : Nat) (f : Field) (n : Nat) : (s.bump o f n).freeCtr = s.freeCtr := rfl
@[simp] theorem State.bump_part (s : State) (o : Nat) (f : Field) (n : Nat) : (s.bump o f n).part = s.part := rfl
@[simp] theorem State.bump_fab (s : State) (o : Nat) (f : Field) (n : Nat) : (s.bump o f n).fab = s.fab := rfl
@[simp] theorem State.bump_sched (s : State) (o : Nat) (f : Field) (n : Nat) : (s.bump o f n).sched = s.sched := rfl
@[simp] theorem State.bump_mem (s : State) (o : Nat) (f : Field) (n : Nat) : (s.bump o f n).mem = s.mem := rfl
@[simp] theorem State.bump_echo (s : State) (o : Nat) (f : Field) (n : Nat) : (s.bump o f n).echo = s.echo := rfl
@[simp] theorem State.bump_rim (s : State) (o : Nat) (f : Field) (n : Nat) : (s.bump o f n).rim = s.rim := rfl
@[simp] theorem State.bump_psg (s : State) (o : Nat) (f : Field) (n : Nat) : (s.bump o f n).psg = s.psg := rfl
@[simp] theorem State.bump_img (s : State) (o : Nat) (f : Field) (n : Nat) : (s.bump o f n).img = s.img := rfl
@[simp] theorem State.bump_mbx (s : State) (o : Nat) (f : Field) (n : Nat) : (s.bump o f n).mbx = s.mbx := rfl
@[simp] theorem State.bump_noc (s : State) (o : Nat) (f : Field) (n : Nat) : (s.bump o f n).noc = s.noc := rfl
@[simp] theorem State.bump_host (s : State) (o : Nat) (f : Field) (n : Nat) : (s.bump o f n).host = s.host := rfl
@[simp] theorem State.bump_dma (s : State) (o : Nat) (f : Field) (n : Nat) : (s.bump o f n).dma = s.dma := rfl
@[simp] theorem State.bump_cic (s : State) (o : Nat) (f : Field) (n : Nat) : (s.bump o f n).cic = s.cic := rfl
@[simp] theorem State.bump_wiu (s : State) (o : Nat) (f : Field) (n : Nat) : (s.bump o f n).wiu = s.wiu := rfl
@[simp] theorem State.bump_tb (s : State) (o : Nat) (f : Field) (n : Nat) : (s.bump o f n).tb = s.tb := rfl
@[simp] theorem State.bump_lnt (s : State) (o : Nat) (f : Field) (n : Nat) : (s.bump o f n).lnt = s.lnt := rfl
@[simp] theorem State.bump_flash (s : State) (o : Nat) (f : Field) (n : Nat) : (s.bump o f n).flash = s.flash := rfl
@[simp] theorem State.bump_key (s : State) (o : Nat) (f : Field) (n : Nat) : (s.bump o f n).key = s.key := rfl
@[simp] theorem State.bump_trc (s : State) (o : Nat) (f : Field) (n : Nat) : (s.bump o f n).trc = s.trc := rfl
@[simp] theorem State.bump_pwr (s : State) (o : Nat) (f : Field) (n : Nat) : (s.bump o f n).pwr = s.pwr := rfl

@[simp] theorem State.used_pending (s : State) : (s.used).pending = s.pending := rfl
@[simp] theorem State.used_regs (s : State) : (s.used).regs = s.regs := rfl
@[simp] theorem State.used_raised (s : State) : (s.used).raised = s.raised := rfl
@[simp] theorem State.used_freeCtr (s : State) : (s.used).freeCtr = s.freeCtr + 1 := rfl
@[simp] theorem State.used_part (s : State) : (s.used).part = s.part := rfl
@[simp] theorem State.used_fab (s : State) : (s.used).fab = s.fab := rfl
@[simp] theorem State.used_sched (s : State) : (s.used).sched = s.sched := rfl
@[simp] theorem State.used_mem (s : State) : (s.used).mem = s.mem := rfl
@[simp] theorem State.used_echo (s : State) : (s.used).echo = s.echo := rfl
@[simp] theorem State.used_rim (s : State) : (s.used).rim = s.rim := rfl
@[simp] theorem State.used_psg (s : State) : (s.used).psg = s.psg := rfl
@[simp] theorem State.used_img (s : State) : (s.used).img = s.img := rfl
@[simp] theorem State.used_mbx (s : State) : (s.used).mbx = s.mbx := rfl
@[simp] theorem State.used_noc (s : State) : (s.used).noc = s.noc := rfl
@[simp] theorem State.used_host (s : State) : (s.used).host = s.host := rfl
@[simp] theorem State.used_dma (s : State) : (s.used).dma = s.dma := rfl
@[simp] theorem State.used_cic (s : State) : (s.used).cic = s.cic := rfl
@[simp] theorem State.used_wiu (s : State) : (s.used).wiu = s.wiu := rfl
@[simp] theorem State.used_tb (s : State) : (s.used).tb = s.tb := rfl
@[simp] theorem State.used_lnt (s : State) : (s.used).lnt = s.lnt := rfl
@[simp] theorem State.used_flash (s : State) : (s.used).flash = s.flash := rfl
@[simp] theorem State.used_key (s : State) : (s.used).key = s.key := rfl
@[simp] theorem State.used_trc (s : State) : (s.used).trc = s.trc := rfl
@[simp] theorem State.used_pwr (s : State) : (s.used).pwr = s.pwr := rfl

@[simp] theorem State.haltAtEnd_pending (s : State) : (s.haltAtEnd).pending = s.pending := rfl
@[simp] theorem State.haltAtEnd_regs (s : State) : (s.haltAtEnd).regs = s.regs := rfl
@[simp] theorem State.haltAtEnd_raised (s : State) : (s.haltAtEnd).raised = s.raised := rfl
@[simp] theorem State.haltAtEnd_freeCtr (s : State) : (s.haltAtEnd).freeCtr = s.freeCtr := rfl
@[simp] theorem State.haltAtEnd_part (s : State) : (s.haltAtEnd).part = s.part := rfl
@[simp] theorem State.haltAtEnd_fab (s : State) : (s.haltAtEnd).fab = s.fab := rfl
@[simp] theorem State.haltAtEnd_mem (s : State) : (s.haltAtEnd).mem = s.mem := rfl
@[simp] theorem State.haltAtEnd_echo (s : State) : (s.haltAtEnd).echo = s.echo := rfl
@[simp] theorem State.haltAtEnd_rim (s : State) : (s.haltAtEnd).rim = s.rim := rfl
@[simp] theorem State.haltAtEnd_psg (s : State) : (s.haltAtEnd).psg = s.psg := rfl
@[simp] theorem State.haltAtEnd_img (s : State) : (s.haltAtEnd).img = s.img := rfl
@[simp] theorem State.haltAtEnd_mbx (s : State) : (s.haltAtEnd).mbx = s.mbx := rfl
@[simp] theorem State.haltAtEnd_noc (s : State) : (s.haltAtEnd).noc = s.noc := rfl
@[simp] theorem State.haltAtEnd_host (s : State) : (s.haltAtEnd).host = s.host := rfl
@[simp] theorem State.haltAtEnd_dma (s : State) : (s.haltAtEnd).dma = s.dma := rfl
@[simp] theorem State.haltAtEnd_cic (s : State) : (s.haltAtEnd).cic = s.cic := rfl
@[simp] theorem State.haltAtEnd_wiu (s : State) : (s.haltAtEnd).wiu = s.wiu := rfl
@[simp] theorem State.haltAtEnd_tb (s : State) : (s.haltAtEnd).tb = s.tb := rfl
@[simp] theorem State.haltAtEnd_lnt (s : State) : (s.haltAtEnd).lnt = s.lnt := rfl
@[simp] theorem State.haltAtEnd_flash (s : State) : (s.haltAtEnd).flash = s.flash := rfl
@[simp] theorem State.haltAtEnd_key (s : State) : (s.haltAtEnd).key = s.key := rfl
@[simp] theorem State.haltAtEnd_trc (s : State) : (s.haltAtEnd).trc = s.trc := rfl
@[simp] theorem State.haltAtEnd_pwr (s : State) : (s.haltAtEnd).pwr = s.pwr := rfl

@[simp] theorem State.writeCq_pending (s : State) (c : CmdId) (st r : Nat) (p : Bool) (a b : Dword) : (s.writeCq c st r p a b).pending = s.pending := rfl
@[simp] theorem State.writeCq_regs (s : State) (c : CmdId) (st r : Nat) (p : Bool) (a b : Dword) : (s.writeCq c st r p a b).regs = s.regs := rfl
@[simp] theorem State.writeCq_raised (s : State) (c : CmdId) (st r : Nat) (p : Bool) (a b : Dword) : (s.writeCq c st r p a b).raised = s.raised := rfl
@[simp] theorem State.writeCq_freeCtr (s : State) (c : CmdId) (st r : Nat) (p : Bool) (a b : Dword) : (s.writeCq c st r p a b).freeCtr = s.freeCtr := rfl
@[simp] theorem State.writeCq_part (s : State) (c : CmdId) (st r : Nat) (p : Bool) (a b : Dword) : (s.writeCq c st r p a b).part = s.part := rfl
@[simp] theorem State.writeCq_fab (s : State) (c : CmdId) (st r : Nat) (p : Bool) (a b : Dword) : (s.writeCq c st r p a b).fab = s.fab := rfl
@[simp] theorem State.writeCq_sched (s : State) (c : CmdId) (st r : Nat) (p : Bool) (a b : Dword) : (s.writeCq c st r p a b).sched = s.sched := rfl
@[simp] theorem State.writeCq_mem (s : State) (c : CmdId) (st r : Nat) (p : Bool) (a b : Dword) : (s.writeCq c st r p a b).mem = s.mem := rfl
@[simp] theorem State.writeCq_echo (s : State) (c : CmdId) (st r : Nat) (p : Bool) (a b : Dword) : (s.writeCq c st r p a b).echo = s.echo := rfl
@[simp] theorem State.writeCq_rim (s : State) (c : CmdId) (st r : Nat) (p : Bool) (a b : Dword) : (s.writeCq c st r p a b).rim = s.rim := rfl
@[simp] theorem State.writeCq_psg (s : State) (c : CmdId) (st r : Nat) (p : Bool) (a b : Dword) : (s.writeCq c st r p a b).psg = s.psg := rfl
@[simp] theorem State.writeCq_img (s : State) (c : CmdId) (st r : Nat) (p : Bool) (a b : Dword) : (s.writeCq c st r p a b).img = s.img := rfl
@[simp] theorem State.writeCq_noc (s : State) (c : CmdId) (st r : Nat) (p : Bool) (a b : Dword) : (s.writeCq c st r p a b).noc = s.noc := rfl
@[simp] theorem State.writeCq_host (s : State) (c : CmdId) (st r : Nat) (p : Bool) (a b : Dword) : (s.writeCq c st r p a b).host = s.host := rfl
@[simp] theorem State.writeCq_dma (s : State) (c : CmdId) (st r : Nat) (p : Bool) (a b : Dword) : (s.writeCq c st r p a b).dma = s.dma := rfl
@[simp] theorem State.writeCq_cic (s : State) (c : CmdId) (st r : Nat) (p : Bool) (a b : Dword) : (s.writeCq c st r p a b).cic = s.cic := rfl
@[simp] theorem State.writeCq_wiu (s : State) (c : CmdId) (st r : Nat) (p : Bool) (a b : Dword) : (s.writeCq c st r p a b).wiu = s.wiu := rfl
@[simp] theorem State.writeCq_tb (s : State) (c : CmdId) (st r : Nat) (p : Bool) (a b : Dword) : (s.writeCq c st r p a b).tb = s.tb := rfl
@[simp] theorem State.writeCq_lnt (s : State) (c : CmdId) (st r : Nat) (p : Bool) (a b : Dword) : (s.writeCq c st r p a b).lnt = s.lnt := rfl
@[simp] theorem State.writeCq_flash (s : State) (c : CmdId) (st r : Nat) (p : Bool) (a b : Dword) : (s.writeCq c st r p a b).flash = s.flash := rfl
@[simp] theorem State.writeCq_key (s : State) (c : CmdId) (st r : Nat) (p : Bool) (a b : Dword) : (s.writeCq c st r p a b).key = s.key := rfl
@[simp] theorem State.writeCq_trc (s : State) (c : CmdId) (st r : Nat) (p : Bool) (a b : Dword) : (s.writeCq c st r p a b).trc = s.trc := rfl
@[simp] theorem State.writeCq_pwr (s : State) (c : CmdId) (st r : Nat) (p : Bool) (a b : Dword) : (s.writeCq c st r p a b).pwr = s.pwr := rfl

@[simp] theorem State.msixDue_pending (s : State) (v : Nat) : (s.msixDue v).pending = s.pending := rfl
@[simp] theorem State.msixDue_regs (s : State) (v : Nat) : (s.msixDue v).regs = s.regs := rfl
@[simp] theorem State.msixDue_raised (s : State) (v : Nat) : (s.msixDue v).raised = s.raised := rfl
@[simp] theorem State.msixDue_freeCtr (s : State) (v : Nat) : (s.msixDue v).freeCtr = s.freeCtr := rfl
@[simp] theorem State.msixDue_part (s : State) (v : Nat) : (s.msixDue v).part = s.part := rfl
@[simp] theorem State.msixDue_fab (s : State) (v : Nat) : (s.msixDue v).fab = s.fab := rfl
@[simp] theorem State.msixDue_sched (s : State) (v : Nat) : (s.msixDue v).sched = s.sched := rfl
@[simp] theorem State.msixDue_mem (s : State) (v : Nat) : (s.msixDue v).mem = s.mem := rfl
@[simp] theorem State.msixDue_echo (s : State) (v : Nat) : (s.msixDue v).echo = s.echo := rfl
@[simp] theorem State.msixDue_rim (s : State) (v : Nat) : (s.msixDue v).rim = s.rim := rfl
@[simp] theorem State.msixDue_psg (s : State) (v : Nat) : (s.msixDue v).psg = s.psg := rfl
@[simp] theorem State.msixDue_img (s : State) (v : Nat) : (s.msixDue v).img = s.img := rfl
@[simp] theorem State.msixDue_mbx (s : State) (v : Nat) : (s.msixDue v).mbx = s.mbx := rfl
@[simp] theorem State.msixDue_noc (s : State) (v : Nat) : (s.msixDue v).noc = s.noc := rfl
@[simp] theorem State.msixDue_dma (s : State) (v : Nat) : (s.msixDue v).dma = s.dma := rfl
@[simp] theorem State.msixDue_cic (s : State) (v : Nat) : (s.msixDue v).cic = s.cic := rfl
@[simp] theorem State.msixDue_wiu (s : State) (v : Nat) : (s.msixDue v).wiu = s.wiu := rfl
@[simp] theorem State.msixDue_tb (s : State) (v : Nat) : (s.msixDue v).tb = s.tb := rfl
@[simp] theorem State.msixDue_lnt (s : State) (v : Nat) : (s.msixDue v).lnt = s.lnt := rfl
@[simp] theorem State.msixDue_flash (s : State) (v : Nat) : (s.msixDue v).flash = s.flash := rfl
@[simp] theorem State.msixDue_key (s : State) (v : Nat) : (s.msixDue v).key = s.key := rfl
@[simp] theorem State.msixDue_trc (s : State) (v : Nat) : (s.msixDue v).trc = s.trc := rfl
@[simp] theorem State.msixDue_pwr (s : State) (v : Nat) : (s.msixDue v).pwr = s.pwr := rfl

@[simp] theorem State.dmStore_pending (s : State) (c w : Nat) (d : Dword) : (s.dmStore c w d).pending = s.pending := rfl
@[simp] theorem State.dmStore_regs (s : State) (c w : Nat) (d : Dword) : (s.dmStore c w d).regs = s.regs := rfl
@[simp] theorem State.dmStore_raised (s : State) (c w : Nat) (d : Dword) : (s.dmStore c w d).raised = s.raised := rfl
@[simp] theorem State.dmStore_freeCtr (s : State) (c w : Nat) (d : Dword) : (s.dmStore c w d).freeCtr = s.freeCtr := rfl
@[simp] theorem State.dmStore_part (s : State) (c w : Nat) (d : Dword) : (s.dmStore c w d).part = s.part := rfl
@[simp] theorem State.dmStore_fab (s : State) (c w : Nat) (d : Dword) : (s.dmStore c w d).fab = s.fab := rfl
@[simp] theorem State.dmStore_sched (s : State) (c w : Nat) (d : Dword) : (s.dmStore c w d).sched = s.sched := rfl
@[simp] theorem State.dmStore_echo (s : State) (c w : Nat) (d : Dword) : (s.dmStore c w d).echo = s.echo := rfl
@[simp] theorem State.dmStore_rim (s : State) (c w : Nat) (d : Dword) : (s.dmStore c w d).rim = s.rim := rfl
@[simp] theorem State.dmStore_psg (s : State) (c w : Nat) (d : Dword) : (s.dmStore c w d).psg = s.psg := rfl
@[simp] theorem State.dmStore_img (s : State) (c w : Nat) (d : Dword) : (s.dmStore c w d).img = s.img := rfl
@[simp] theorem State.dmStore_mbx (s : State) (c w : Nat) (d : Dword) : (s.dmStore c w d).mbx = s.mbx := rfl
@[simp] theorem State.dmStore_noc (s : State) (c w : Nat) (d : Dword) : (s.dmStore c w d).noc = s.noc := rfl
@[simp] theorem State.dmStore_host (s : State) (c w : Nat) (d : Dword) : (s.dmStore c w d).host = s.host := rfl
@[simp] theorem State.dmStore_dma (s : State) (c w : Nat) (d : Dword) : (s.dmStore c w d).dma = s.dma := rfl
@[simp] theorem State.dmStore_cic (s : State) (c w : Nat) (d : Dword) : (s.dmStore c w d).cic = s.cic := rfl
@[simp] theorem State.dmStore_wiu (s : State) (c w : Nat) (d : Dword) : (s.dmStore c w d).wiu = s.wiu := rfl
@[simp] theorem State.dmStore_tb (s : State) (c w : Nat) (d : Dword) : (s.dmStore c w d).tb = s.tb := rfl
@[simp] theorem State.dmStore_lnt (s : State) (c w : Nat) (d : Dword) : (s.dmStore c w d).lnt = s.lnt := rfl
@[simp] theorem State.dmStore_flash (s : State) (c w : Nat) (d : Dword) : (s.dmStore c w d).flash = s.flash := rfl
@[simp] theorem State.dmStore_key (s : State) (c w : Nat) (d : Dword) : (s.dmStore c w d).key = s.key := rfl
@[simp] theorem State.dmStore_trc (s : State) (c w : Nat) (d : Dword) : (s.dmStore c w d).trc = s.trc := rfl
@[simp] theorem State.dmStore_pwr (s : State) (c w : Nat) (d : Dword) : (s.dmStore c w d).pwr = s.pwr := rfl

@[simp] theorem State.dsPut_pending (s : State) (a : Nat) (b : Byte) : (s.dsPut a b).pending = s.pending := rfl
@[simp] theorem State.dsPut_regs (s : State) (a : Nat) (b : Byte) : (s.dsPut a b).regs = s.regs := rfl
@[simp] theorem State.dsPut_raised (s : State) (a : Nat) (b : Byte) : (s.dsPut a b).raised = s.raised := rfl
@[simp] theorem State.dsPut_freeCtr (s : State) (a : Nat) (b : Byte) : (s.dsPut a b).freeCtr = s.freeCtr := rfl
@[simp] theorem State.dsPut_part (s : State) (a : Nat) (b : Byte) : (s.dsPut a b).part = s.part := rfl
@[simp] theorem State.dsPut_fab (s : State) (a : Nat) (b : Byte) : (s.dsPut a b).fab = s.fab := rfl
@[simp] theorem State.dsPut_sched (s : State) (a : Nat) (b : Byte) : (s.dsPut a b).sched = s.sched := rfl
@[simp] theorem State.dsPut_echo (s : State) (a : Nat) (b : Byte) : (s.dsPut a b).echo = s.echo := rfl
@[simp] theorem State.dsPut_rim (s : State) (a : Nat) (b : Byte) : (s.dsPut a b).rim = s.rim := rfl
@[simp] theorem State.dsPut_psg (s : State) (a : Nat) (b : Byte) : (s.dsPut a b).psg = s.psg := rfl
@[simp] theorem State.dsPut_img (s : State) (a : Nat) (b : Byte) : (s.dsPut a b).img = s.img := rfl
@[simp] theorem State.dsPut_mbx (s : State) (a : Nat) (b : Byte) : (s.dsPut a b).mbx = s.mbx := rfl
@[simp] theorem State.dsPut_noc (s : State) (a : Nat) (b : Byte) : (s.dsPut a b).noc = s.noc := rfl
@[simp] theorem State.dsPut_host (s : State) (a : Nat) (b : Byte) : (s.dsPut a b).host = s.host := rfl
@[simp] theorem State.dsPut_dma (s : State) (a : Nat) (b : Byte) : (s.dsPut a b).dma = s.dma := rfl
@[simp] theorem State.dsPut_cic (s : State) (a : Nat) (b : Byte) : (s.dsPut a b).cic = s.cic := rfl
@[simp] theorem State.dsPut_wiu (s : State) (a : Nat) (b : Byte) : (s.dsPut a b).wiu = s.wiu := rfl
@[simp] theorem State.dsPut_tb (s : State) (a : Nat) (b : Byte) : (s.dsPut a b).tb = s.tb := rfl
@[simp] theorem State.dsPut_lnt (s : State) (a : Nat) (b : Byte) : (s.dsPut a b).lnt = s.lnt := rfl
@[simp] theorem State.dsPut_flash (s : State) (a : Nat) (b : Byte) : (s.dsPut a b).flash = s.flash := rfl
@[simp] theorem State.dsPut_key (s : State) (a : Nat) (b : Byte) : (s.dsPut a b).key = s.key := rfl
@[simp] theorem State.dsPut_trc (s : State) (a : Nat) (b : Byte) : (s.dsPut a b).trc = s.trc := rfl
@[simp] theorem State.dsPut_pwr (s : State) (a : Nat) (b : Byte) : (s.dsPut a b).pwr = s.pwr := rfl

@[simp] theorem State.writeCur_pending (s : State) (b n : Nat) (x : Nv) : (s.writeCur b n x).pending = s.pending := rfl
@[simp] theorem State.writeCur_regs (s : State) (b n : Nat) (x : Nv) : (s.writeCur b n x).regs = s.regs := rfl
@[simp] theorem State.writeCur_raised (s : State) (b n : Nat) (x : Nv) : (s.writeCur b n x).raised = s.raised := rfl
@[simp] theorem State.writeCur_freeCtr (s : State) (b n : Nat) (x : Nv) : (s.writeCur b n x).freeCtr = s.freeCtr := rfl
@[simp] theorem State.writeCur_part (s : State) (b n : Nat) (x : Nv) : (s.writeCur b n x).part = s.part := rfl
@[simp] theorem State.writeCur_sched (s : State) (b n : Nat) (x : Nv) : (s.writeCur b n x).sched = s.sched := rfl
@[simp] theorem State.writeCur_mem (s : State) (b n : Nat) (x : Nv) : (s.writeCur b n x).mem = s.mem := rfl
@[simp] theorem State.writeCur_echo (s : State) (b n : Nat) (x : Nv) : (s.writeCur b n x).echo = s.echo := rfl
@[simp] theorem State.writeCur_rim (s : State) (b n : Nat) (x : Nv) : (s.writeCur b n x).rim = s.rim := rfl
@[simp] theorem State.writeCur_psg (s : State) (b n : Nat) (x : Nv) : (s.writeCur b n x).psg = s.psg := rfl
@[simp] theorem State.writeCur_img (s : State) (b n : Nat) (x : Nv) : (s.writeCur b n x).img = s.img := rfl
@[simp] theorem State.writeCur_mbx (s : State) (b n : Nat) (x : Nv) : (s.writeCur b n x).mbx = s.mbx := rfl
@[simp] theorem State.writeCur_noc (s : State) (b n : Nat) (x : Nv) : (s.writeCur b n x).noc = s.noc := rfl
@[simp] theorem State.writeCur_host (s : State) (b n : Nat) (x : Nv) : (s.writeCur b n x).host = s.host := rfl
@[simp] theorem State.writeCur_dma (s : State) (b n : Nat) (x : Nv) : (s.writeCur b n x).dma = s.dma := rfl
@[simp] theorem State.writeCur_cic (s : State) (b n : Nat) (x : Nv) : (s.writeCur b n x).cic = s.cic := rfl
@[simp] theorem State.writeCur_wiu (s : State) (b n : Nat) (x : Nv) : (s.writeCur b n x).wiu = s.wiu := rfl
@[simp] theorem State.writeCur_tb (s : State) (b n : Nat) (x : Nv) : (s.writeCur b n x).tb = s.tb := rfl
@[simp] theorem State.writeCur_lnt (s : State) (b n : Nat) (x : Nv) : (s.writeCur b n x).lnt = s.lnt := rfl
@[simp] theorem State.writeCur_flash (s : State) (b n : Nat) (x : Nv) : (s.writeCur b n x).flash = s.flash := rfl
@[simp] theorem State.writeCur_key (s : State) (b n : Nat) (x : Nv) : (s.writeCur b n x).key = s.key := rfl
@[simp] theorem State.writeCur_trc (s : State) (b n : Nat) (x : Nv) : (s.writeCur b n x).trc = s.trc := rfl
@[simp] theorem State.writeCur_pwr (s : State) (b n : Nat) (x : Nv) : (s.writeCur b n x).pwr = s.pwr := rfl

@[simp] theorem State.writePrev_pending (s : State) (b n : Nat) (x : Nv) : (s.writePrev b n x).pending = s.pending := rfl
@[simp] theorem State.writePrev_regs (s : State) (b n : Nat) (x : Nv) : (s.writePrev b n x).regs = s.regs := rfl
@[simp] theorem State.writePrev_raised (s : State) (b n : Nat) (x : Nv) : (s.writePrev b n x).raised = s.raised := rfl
@[simp] theorem State.writePrev_freeCtr (s : State) (b n : Nat) (x : Nv) : (s.writePrev b n x).freeCtr = s.freeCtr := rfl
@[simp] theorem State.writePrev_part (s : State) (b n : Nat) (x : Nv) : (s.writePrev b n x).part = s.part := rfl
@[simp] theorem State.writePrev_sched (s : State) (b n : Nat) (x : Nv) : (s.writePrev b n x).sched = s.sched := rfl
@[simp] theorem State.writePrev_mem (s : State) (b n : Nat) (x : Nv) : (s.writePrev b n x).mem = s.mem := rfl
@[simp] theorem State.writePrev_echo (s : State) (b n : Nat) (x : Nv) : (s.writePrev b n x).echo = s.echo := rfl
@[simp] theorem State.writePrev_rim (s : State) (b n : Nat) (x : Nv) : (s.writePrev b n x).rim = s.rim := rfl
@[simp] theorem State.writePrev_psg (s : State) (b n : Nat) (x : Nv) : (s.writePrev b n x).psg = s.psg := rfl
@[simp] theorem State.writePrev_img (s : State) (b n : Nat) (x : Nv) : (s.writePrev b n x).img = s.img := rfl
@[simp] theorem State.writePrev_mbx (s : State) (b n : Nat) (x : Nv) : (s.writePrev b n x).mbx = s.mbx := rfl
@[simp] theorem State.writePrev_noc (s : State) (b n : Nat) (x : Nv) : (s.writePrev b n x).noc = s.noc := rfl
@[simp] theorem State.writePrev_host (s : State) (b n : Nat) (x : Nv) : (s.writePrev b n x).host = s.host := rfl
@[simp] theorem State.writePrev_dma (s : State) (b n : Nat) (x : Nv) : (s.writePrev b n x).dma = s.dma := rfl
@[simp] theorem State.writePrev_cic (s : State) (b n : Nat) (x : Nv) : (s.writePrev b n x).cic = s.cic := rfl
@[simp] theorem State.writePrev_wiu (s : State) (b n : Nat) (x : Nv) : (s.writePrev b n x).wiu = s.wiu := rfl
@[simp] theorem State.writePrev_tb (s : State) (b n : Nat) (x : Nv) : (s.writePrev b n x).tb = s.tb := rfl
@[simp] theorem State.writePrev_lnt (s : State) (b n : Nat) (x : Nv) : (s.writePrev b n x).lnt = s.lnt := rfl
@[simp] theorem State.writePrev_flash (s : State) (b n : Nat) (x : Nv) : (s.writePrev b n x).flash = s.flash := rfl
@[simp] theorem State.writePrev_key (s : State) (b n : Nat) (x : Nv) : (s.writePrev b n x).key = s.key := rfl
@[simp] theorem State.writePrev_trc (s : State) (b n : Nat) (x : Nv) : (s.writePrev b n x).trc = s.trc := rfl
@[simp] theorem State.writePrev_pwr (s : State) (b n : Nat) (x : Nv) : (s.writePrev b n x).pwr = s.pwr := rfl

@[simp] theorem State.useBank_pending (s : State) (c : Nat) : (s.useBank c).pending = s.pending := rfl
@[simp] theorem State.useBank_regs (s : State) (c : Nat) : (s.useBank c).regs = s.regs := rfl
@[simp] theorem State.useBank_raised (s : State) (c : Nat) : (s.useBank c).raised = s.raised := rfl
@[simp] theorem State.useBank_freeCtr (s : State) (c : Nat) : (s.useBank c).freeCtr = s.freeCtr := rfl
@[simp] theorem State.useBank_part (s : State) (c : Nat) : (s.useBank c).part = s.part := rfl
@[simp] theorem State.useBank_sched (s : State) (c : Nat) : (s.useBank c).sched = s.sched := rfl
@[simp] theorem State.useBank_mem (s : State) (c : Nat) : (s.useBank c).mem = s.mem := rfl
@[simp] theorem State.useBank_echo (s : State) (c : Nat) : (s.useBank c).echo = s.echo := rfl
@[simp] theorem State.useBank_rim (s : State) (c : Nat) : (s.useBank c).rim = s.rim := rfl
@[simp] theorem State.useBank_psg (s : State) (c : Nat) : (s.useBank c).psg = s.psg := rfl
@[simp] theorem State.useBank_img (s : State) (c : Nat) : (s.useBank c).img = s.img := rfl
@[simp] theorem State.useBank_mbx (s : State) (c : Nat) : (s.useBank c).mbx = s.mbx := rfl
@[simp] theorem State.useBank_noc (s : State) (c : Nat) : (s.useBank c).noc = s.noc := rfl
@[simp] theorem State.useBank_host (s : State) (c : Nat) : (s.useBank c).host = s.host := rfl
@[simp] theorem State.useBank_dma (s : State) (c : Nat) : (s.useBank c).dma = s.dma := rfl
@[simp] theorem State.useBank_cic (s : State) (c : Nat) : (s.useBank c).cic = s.cic := rfl
@[simp] theorem State.useBank_wiu (s : State) (c : Nat) : (s.useBank c).wiu = s.wiu := rfl
@[simp] theorem State.useBank_tb (s : State) (c : Nat) : (s.useBank c).tb = s.tb := rfl
@[simp] theorem State.useBank_lnt (s : State) (c : Nat) : (s.useBank c).lnt = s.lnt := rfl
@[simp] theorem State.useBank_flash (s : State) (c : Nat) : (s.useBank c).flash = s.flash := rfl
@[simp] theorem State.useBank_key (s : State) (c : Nat) : (s.useBank c).key = s.key := rfl
@[simp] theorem State.useBank_trc (s : State) (c : Nat) : (s.useBank c).trc = s.trc := rfl
@[simp] theorem State.useBank_pwr (s : State) (c : Nat) : (s.useBank c).pwr = s.pwr := rfl

end Sys2Proof.Machine
end

