-- ==== Sys2Proof/Laws/Regs.lean ====
section
/-! SUPPORT. Registers and their fields: reading what was stored, leaving the others alone (00, R4 to R6). -/

namespace Sys2Proof

/-- The bits of a register word below `a` and from `a` on. -/
theorem Word.parts (w : Word) (a : Nat) : w.toNat % 2 ^ a + w.toNat / 2 ^ a * 2 ^ a = w.toNat := by
  rw [Nat.mul_comm]; exact Nat.mod_add_div _ _

theorem Field.of_lt (f : Field) (w : Word) : f.of w < f.size := Nat.mod_lt _ (Nat.two_pow_pos _)

/-- What `Field.put` makes fits 32 bits. -/
theorem Field.put_toNat (f : Field) (w : Word) (n : Nat) (h : f.lo ≤ f.hi) (h' : f.hi < 32) :
    (f.put w n).toNat =
      w.toNat % 2 ^ f.lo + (n % f.size) * 2 ^ f.lo + w.toNat / 2 ^ (f.hi + 1) * 2 ^ (f.hi + 1) := by
  have hs : f.size * 2 ^ f.lo = 2 ^ (f.hi + 1) := by
    rw [Field.size, ← Nat.pow_add]; congr 1; omega
  have h1 : w.toNat % 2 ^ f.lo < 2 ^ f.lo := Nat.mod_lt _ (Nat.two_pow_pos _)
  have h2 : n % f.size + 1 ≤ f.size := Nat.mod_lt _ (Nat.two_pow_pos _)
  have h3 : (n % f.size) * 2 ^ f.lo + 2 ^ f.lo ≤ 2 ^ (f.hi + 1) := by
    rw [← hs, ← Nat.succ_mul]; exact Nat.mul_le_mul_right _ h2
  have h4 : w.toNat / 2 ^ (f.hi + 1) < 2 ^ (32 - (f.hi + 1)) := by
    rw [Nat.div_lt_iff_lt_mul (Nat.two_pow_pos _), ← Nat.pow_add]
    have : 32 - (f.hi + 1) + (f.hi + 1) = 32 := by omega
    rw [this]; exact w.isLt
  have h5 : w.toNat / 2 ^ (f.hi + 1) * 2 ^ (f.hi + 1) + 2 ^ (f.hi + 1) ≤ 2 ^ 32 := by
    have e : (2 : Nat) ^ 32 = 2 ^ (32 - (f.hi + 1)) * 2 ^ (f.hi + 1) := by rw [← Nat.pow_add]; congr 1; omega
    rw [← Nat.succ_mul, e]; exact Nat.mul_le_mul_right _ h4
  rw [Field.put, BitVec.toNat_ofNat, Nat.mod_eq_of_lt (by omega)]

/-- A field reads what was put into it. -/
theorem Field.of_put (f : Field) (w : Word) (n : Nat) (h : f.lo ≤ f.hi) (h' : f.hi < 32) :
    f.of (f.put w n) = n % f.size := by
  have hs : 2 ^ (f.hi + 1) = 2 ^ f.lo * f.size := by
    rw [Field.size, ← Nat.pow_add]; congr 1; omega
  rw [Field.of, Field.put_toNat f w n h h', hs]
  have h1 : w.toNat % 2 ^ f.lo < 2 ^ f.lo := Nat.mod_lt _ (Nat.two_pow_pos _)
  have e : w.toNat % 2 ^ f.lo + n % f.size * 2 ^ f.lo + w.toNat / (2 ^ f.lo * f.size) * (2 ^ f.lo * f.size)
      = w.toNat % 2 ^ f.lo + 2 ^ f.lo * (n % f.size + f.size * (w.toNat / (2 ^ f.lo * f.size))) := by
    rw [Nat.mul_add, Nat.mul_comm (n % f.size), Nat.mul_comm (w.toNat / (2 ^ f.lo * f.size)), Nat.mul_assoc]; omega
  rw [e, Nat.add_mul_div_left _ _ (Nat.two_pow_pos _), Nat.div_eq_of_lt h1, Nat.zero_add, Nat.add_mul_mod_self_left]
  exact Nat.mod_mod _ _

/-- The other fields read as before: a field above. -/
theorem Field.of_put_above (f g : Field) (w : Word) (n : Nat) (h : f.lo ≤ f.hi) (h' : f.hi < 32) (hg : f.hi < g.lo) :
    g.of (f.put w n) = g.of w := by
  have hs : 2 ^ (f.hi + 1) = 2 ^ f.lo * f.size := by
    rw [Field.size, ← Nat.pow_add]; congr 1; omega
  have h1 : w.toNat % 2 ^ f.lo < 2 ^ f.lo := Nat.mod_lt _ (Nat.two_pow_pos _)
  have h2 : n % f.size + 1 ≤ f.size := Nat.mod_lt _ (Nat.two_pow_pos _)
  have h3 : (n % f.size) * 2 ^ f.lo + 2 ^ f.lo ≤ 2 ^ (f.hi + 1) := by
    rw [hs, Nat.mul_comm (2 ^ f.lo), ← Nat.succ_mul]; exact Nat.mul_le_mul_right _ h2
  have hd : 2 ^ g.lo = 2 ^ (f.hi + 1) * 2 ^ (g.lo - (f.hi + 1)) := by rw [← Nat.pow_add]; congr 1; omega
  have key : (f.put w n).toNat / 2 ^ g.lo = w.toNat / 2 ^ g.lo := by
    rw [hd, ← Nat.div_div_eq_div_mul, ← Nat.div_div_eq_div_mul, Field.put_toNat f w n h h',
      Nat.add_mul_div_right _ _ (Nat.two_pow_pos _), Nat.div_eq_of_lt (Nat.lt_of_lt_of_le (Nat.add_lt_add_right h1 _)
        (by rw [Nat.add_comm]; exact h3)), Nat.zero_add]
  rw [Field.of, Field.of, key]

/-- The other fields read as before: a field below. -/
theorem Field.of_put_below (f g : Field) (w : Word) (n : Nat) (h : f.lo ≤ f.hi) (h' : f.hi < 32) (hl : g.lo ≤ g.hi)
    (hg : g.hi < f.lo) : g.of (f.put w n) = g.of w := by
  have hs : 2 ^ (f.hi + 1) = 2 ^ f.lo * f.size := by
    rw [Field.size, ← Nat.pow_add]; congr 1; omega
  have hd : 2 ^ f.lo = 2 ^ (g.hi + 1) * 2 ^ (f.lo - (g.hi + 1)) := by rw [← Nat.pow_add]; congr 1; omega
  have hz : 2 ^ g.lo * g.size = 2 ^ (g.hi + 1) := by rw [Field.size, ← Nat.pow_add]; congr 1; omega
  have low : ∀ x : Nat, x / 2 ^ g.lo % g.size = x % 2 ^ (g.hi + 1) / 2 ^ g.lo := by
    intro x; rw [← hz, Nat.mod_mul_right_div_self]
  have e : (f.put w n).toNat % 2 ^ (g.hi + 1) = w.toNat % 2 ^ (g.hi + 1) := by
    rw [Field.put_toNat f w n h h', hs, hd]
    have : w.toNat % (2 ^ (g.hi + 1) * 2 ^ (f.lo - (g.hi + 1))) + n % f.size * (2 ^ (g.hi + 1) * 2 ^ (f.lo - (g.hi + 1))) +
        w.toNat / (2 ^ (g.hi + 1) * 2 ^ (f.lo - (g.hi + 1)) * f.size) * (2 ^ (g.hi + 1) * 2 ^ (f.lo - (g.hi + 1)) * f.size)
        = w.toNat % (2 ^ (g.hi + 1) * 2 ^ (f.lo - (g.hi + 1))) + 2 ^ (g.hi + 1) * (n % f.size * 2 ^ (f.lo - (g.hi + 1)) +
          w.toNat / (2 ^ (g.hi + 1) * 2 ^ (f.lo - (g.hi + 1)) * f.size) * 2 ^ (f.lo - (g.hi + 1)) * f.size) := by
      ring
    rw [this, Nat.add_mul_mod_self_left, Nat.mod_mul_right_mod]
  rw [Field.of, Field.of, low, low, e]

end Sys2Proof

namespace Sys2Proof.Machine

@[simp] theorem State.put_reg_self (s : State) (o : Nat) (f : Field) (n : Nat) (h : NMap.wf regReset s.regs = true) :
    (s.put o f n).reg o = f.put (s.reg o) n := NMap.get_set_self _ _ _ _ h

@[simp] theorem State.setReg_reg_self (s : State) (o : Nat) (w : Word) (h : NMap.wf regReset s.regs = true) :
    (s.setReg o w).reg o = w := NMap.get_set_self _ _ _ _ h

theorem State.setReg_reg_of_ne (s : State) (o k : Nat) (w : Word) (h : NMap.wf regReset s.regs = true) (hk : k ≠ o) :
    (s.setReg o w).reg k = s.reg k := NMap.get_set_of_ne _ _ _ _ _ h hk

theorem State.put_reg_of_ne (s : State) (o k : Nat) (f : Field) (n : Nat) (h : NMap.wf regReset s.regs = true)
    (hk : k ≠ o) : (s.put o f n).reg k = s.reg k := NMap.get_set_of_ne _ _ _ _ _ h hk

theorem State.setReg_wf (s : State) (o : Nat) (w : Word) (h : NMap.wf regReset s.regs = true) :
    NMap.wf regReset (s.setReg o w).regs = true := NMap.wf_set _ _ _ _ h

theorem State.put_wf (s : State) (o : Nat) (f : Field) (n : Nat) (h : NMap.wf regReset s.regs = true) :
    NMap.wf regReset (s.put o f n).regs = true := NMap.wf_set _ _ _ _ h

/-- A field holds what was put into it. -/
theorem State.fld_put (s : State) (o : Nat) (f : Field) (n : Nat) (hw : NMap.wf regReset s.regs = true)
    (h : f.lo ≤ f.hi) (h' : f.hi < 32) : (s.put o f n).fld o f = n % f.size := by
  rw [State.fld, State.put_reg_self s o f n hw, Field.of_put f _ n h h']

/-- Fields of the other registers are as before. -/
theorem State.fld_put_of_ne (s : State) (o k : Nat) (f g : Field) (n : Nat) (hw : NMap.wf regReset s.regs = true)
    (hk : k ≠ o) : (s.put o f n).fld k g = s.fld k g := by
  rw [State.fld, State.fld, State.put_reg_of_ne s o k f n hw hk]

end Sys2Proof.Machine
end

