-- ==== Sys2Proof/Laws/TouchBase.lean ====
section
/-! SUPPORT. Frames by parts: what the shared register, logging, interrupt and network operations change. Each lemma gives the mask of the parts that an operation may change (Touch); registers
and memories stay canonical. -/

namespace Sys2Proof.Machine

set_option linter.all false
set_option linter.unusedTactic false
set_option linter.unreachableTactic false
set_option linter.tactic.unusedName false

/-! RegFile -/

theorem State.setReg_touch (s : State) (off : Nat) (w : Word) :
    Touch 1 s (State.setReg s off w) := by
  unfold State.setReg
  repeat' first
    | with_reducible apply Touch.refl
    | fail_if_no_progress ((with_reducible apply Touch.set_regs); rotate_left; decide; (intro h; first | exact h | exact NMap.wf_set _ _ _ _ h | exact NMap.wf_keep _ _ _ h))

theorem State.put_touch (s : State) (off : Nat) (f : Field) (n : Nat) :
    Touch 1 s (State.put s off f n) := by
  unfold State.put
  repeat' first
    | with_reducible apply Touch.refl
    | ((with_reducible apply Touch.then ?_ (State.setReg_touch _ _ _) ?_); rotate_left; decide)

theorem State.raise_touch (s : State) (off : Nat) (f : Field) :
    Touch 1 s (State.raise s off f) := by
  unfold State.raise
  repeat' first
    | (with_reducible intro x; with_reducible refine Touch.cutP (m := 1) (s := s) (x := x) (fun hx => ?_) ?_; (clear_value x; rotate_left; subst x))
    | with_reducible apply Touch.refl
    | with_reducible assumption
    | ((with_reducible apply Touch.then ?_ (State.put_touch _ _ _ _) ?_); rotate_left; decide)
    | fail_if_no_progress ((with_reducible apply Touch.set_raised); rotate_left; decide)

theorem State.bump_touch (s : State) (off : Nat) (f : Field) (n : Nat) :
    Touch 1 s (State.bump s off f n) := by
  unfold State.bump
  repeat' first
    | with_reducible apply Touch.refl
    | ((with_reducible apply Touch.then ?_ (State.put_touch _ _ _ _) ?_); rotate_left; decide)

/-! Ops -/

theorem State.used_touch (s : State) :
    Touch 2 s (State.used s) := by
  unfold State.used
  repeat' first
    | with_reducible apply Touch.refl
    | fail_if_no_progress ((with_reducible apply Touch.set_freeCtr); rotate_left; decide)

theorem State.setGalPower_touch (s : State) (g n : Nat) :
    Touch 1 s (State.setGalPower s g n) := by
  unfold State.setGalPower
  repeat' first
    | with_reducible apply Touch.refl
    | ((with_reducible apply Touch.then ?_ (State.put_touch _ _ _ _) ?_); rotate_left; decide)

theorem State.haltAtEnd_touch (s : State) :
    Touch 16 s (State.haltAtEnd s) := by
  unfold State.haltAtEnd
  repeat' first
    | with_reducible apply Touch.refl
    | fail_if_no_progress ((with_reducible apply Touch.set_sched); rotate_left; decide)

theorem State.cicEvent_touch (s : State) (n : Nat) :
    Touch 16384 s (State.cicEvent s n) := by
  unfold State.cicEvent
  repeat' first
    | with_reducible apply Touch.refl
    | fail_if_no_progress ((with_reducible apply Touch.set_cic); rotate_left; decide)
    | apply Touch.ite

theorem State.queueEvent_touch (s : State) (e : LogEvent) :
    Touch 131074 s (State.queueEvent s e) := by
  unfold State.queueEvent
  repeat' first
    | (with_reducible intro x; with_reducible refine Touch.cutP (m := 131074) (s := s) (x := x) (fun hx => ?_) ?_; (clear_value x; rotate_left; subst x))
    | with_reducible apply Touch.refl
    | with_reducible assumption
    | ((with_reducible apply Touch.then ?_ (State.used_touch _) ?_); rotate_left; decide)
    | fail_if_no_progress ((with_reducible apply Touch.set_lnt); rotate_left; decide)
    | apply Touch.ite

theorem State.logEvent_touch (s : State) (source code unit : Nat) (inj : Bool) (data : List Byte) :
    Touch 131074 s (State.logEvent s source code unit inj data) := by
  unfold State.logEvent
  repeat' first
    | with_reducible apply Touch.refl
    | ((with_reducible apply Touch.then ?_ (State.queueEvent_touch _ _) ?_); rotate_left; decide)

theorem State.platformEvent_touch (s : State) (block code unit : Nat) :
    Touch 131072 s (State.platformEvent s block code unit) := by
  unfold State.platformEvent
  repeat' first
    | with_reducible apply Touch.refl
    | fail_if_no_progress ((with_reducible apply Touch.set_lnt); rotate_left; decide)
    | apply Touch.ite

theorem State.detect_touch (s : State) (block code unit : Nat) (data : List Byte) :
    Touch 131091 s (State.detect s block code unit data) := by
  unfold State.detect
  repeat' first
    | (with_reducible intro x; with_reducible refine Touch.cutP (m := 131091) (s := s) (x := x) (fun hx => ?_) ?_; (clear_value x; rotate_left; subst x))
    | with_reducible apply Touch.refl
    | with_reducible assumption
    | ((with_reducible apply Touch.then ?_ (State.bump_touch _ _ _ _) ?_); rotate_left; decide)
    | ((with_reducible apply Touch.then ?_ (State.put_touch _ _ _ _) ?_); rotate_left; decide)
    | ((with_reducible apply Touch.then ?_ (State.raise_touch _ _ _) ?_); rotate_left; decide)
    | ((with_reducible apply Touch.then ?_ (State.haltAtEnd_touch _) ?_); rotate_left; decide)
    | ((with_reducible apply Touch.then ?_ (State.used_touch _) ?_); rotate_left; decide)
    | fail_if_no_progress ((with_reducible apply Touch.set_lnt); rotate_left; decide)
    | split
    | apply Touch.ite

theorem State.record_touch (s : State) (g n : Nat) (l : Loc) :
    Touch 131091 s (State.record s g n l) := by
  unfold State.record
  repeat' first
    | (with_reducible intro x; with_reducible refine Touch.cutP (m := 131091) (s := s) (x := x) (fun hx => ?_) ?_; (clear_value x; rotate_left; subst x))
    | with_reducible apply Touch.refl
    | with_reducible assumption
    | ((with_reducible apply Touch.then ?_ (State.detect_touch _ _ _ _ _) ?_); rotate_left; decide)
    | ((with_reducible apply Touch.then ?_ (State.put_touch _ _ _ _) ?_); rotate_left; decide)
    | ((with_reducible apply Touch.then ?_ (State.raise_touch _ _ _) ?_); rotate_left; decide)
    | ((with_reducible apply Touch.then ?_ (State.haltAtEnd_touch _) ?_); rotate_left; decide)
    | apply Touch.ite

theorem State.recordSched_touch (s : State) (g n : Nat) (l : Loc) (port : Nat) (entry : Nat) :
    Touch 131091 s (State.recordSched s g n l port entry) := by
  unfold State.recordSched
  repeat' first
    | (with_reducible intro x; with_reducible refine Touch.cutP (m := 131091) (s := s) (x := x) (fun hx => ?_) ?_; (clear_value x; rotate_left; subst x))
    | with_reducible apply Touch.refl
    | with_reducible assumption
    | ((with_reducible apply Touch.then ?_ (State.detect_touch _ _ _ _ _) ?_); rotate_left; decide)
    | ((with_reducible apply Touch.then ?_ (State.put_touch _ _ _ _) ?_); rotate_left; decide)
    | ((with_reducible apply Touch.then ?_ (State.raise_touch _ _ _) ?_); rotate_left; decide)
    | ((with_reducible apply Touch.then ?_ (State.haltAtEnd_touch _) ?_); rotate_left; decide)
    | apply Touch.ite

theorem State.recordDm_touch (s : State) (g n : Nat) (a : DmAgent) (cham word step : Nat) :
    Touch 131091 s (State.recordDm s g n a cham word step) := by
  unfold State.recordDm
  repeat' first
    | (with_reducible intro x; with_reducible refine Touch.cutP (m := 131091) (s := s) (x := x) (fun hx => ?_) ?_; (clear_value x; rotate_left; subst x))
    | with_reducible apply Touch.refl
    | with_reducible assumption
    | ((with_reducible apply Touch.then ?_ (State.detect_touch _ _ _ _ _) ?_); rotate_left; decide)
    | ((with_reducible apply Touch.then ?_ (State.put_touch _ _ _ _) ?_); rotate_left; decide)
    | ((with_reducible apply Touch.then ?_ (State.raise_touch _ _ _) ?_); rotate_left; decide)
    | ((with_reducible apply Touch.then ?_ (State.haltAtEnd_touch _) ?_); rotate_left; decide)
    | ((with_reducible apply Touch.then ?_ (State.setReg_touch _ _ _) ?_); rotate_left; decide)
    | split
    | apply Touch.ite

theorem State.writeCq_touch (s : State) (c : CmdId) (status reason : Nat) (progress : Bool) (r0 r1 : Dword) :
    Touch 1026 s (State.writeCq s c status reason progress r0 r1) := by
  unfold State.writeCq
  repeat' first
    | with_reducible apply Touch.refl
    | fail_if_no_progress ((with_reducible apply Touch.set_mbx); rotate_left; decide)

theorem State.msixDue_touch (s : State) (v : Nat) :
    Touch 4096 s (State.msixDue s v) := by
  unfold State.msixDue
  repeat' first
    | with_reducible apply Touch.refl
    | fail_if_no_progress ((with_reducible apply Touch.set_host); rotate_left; decide)

theorem State.queueStatus_touch (s : State) (q : Nat) :
    Touch 1 s (State.queueStatus s q) := by
  unfold State.queueStatus
  repeat' first
    | (with_reducible intro x; with_reducible refine Touch.cutP (m := 1) (s := s) (x := x) (fun hx => ?_) ?_; (clear_value x; rotate_left; subst x))
    | with_reducible apply Touch.refl
    | with_reducible assumption
    | ((with_reducible apply Touch.then ?_ (State.put_touch _ _ _ _) ?_); rotate_left; decide)

theorem State.complete_touch (s : State) (c : CmdId) (status : Nat) (r0 : Dword) (r1 : Dword) (reason : Nat) :
    Touch 5123 s (State.complete s c status r0 r1 reason) := by
  unfold State.complete
  repeat' first
    | with_reducible apply Touch.refl
    | with_reducible assumption
    | ((with_reducible apply Touch.then ?_ (State.queueStatus_touch _ _) ?_); rotate_left; decide)
    | ((with_reducible apply Touch.then ?_ (State.writeCq_touch _ _ _ _ _ _ _) ?_); rotate_left; decide)
    | ((with_reducible apply Touch.then ?_ (State.msixDue_touch _ _) ?_); rotate_left; decide)
    | fail_if_no_progress ((with_reducible apply Touch.set_mbx); rotate_left; decide)
    | split

theorem State.completeOpt_touch (s : State) (c : Option CmdId) (status : Nat) (r0 : Dword) (r1 : Dword) (reason : Nat) :
    Touch 5123 s (State.completeOpt s c status r0 r1 reason) := by
  unfold State.completeOpt
  repeat' first
    | with_reducible apply Touch.refl
    | ((with_reducible apply Touch.then ?_ (State.complete_touch _ _ _ _ _ _) ?_); rotate_left; decide)
    | split

theorem State.countOff_touch (s : State) (g : Nat) (posted : Bool) :
    Touch 1 s (State.countOff s g posted) := by
  unfold State.countOff
  repeat' first
    | with_reducible apply Touch.refl
    | ((with_reducible apply Touch.then ?_ (State.bump_touch _ _ _ _) ?_); rotate_left; decide)
    | apply Touch.ite

theorem State.window_touch {m : Nat} (s : State) (g : Nat) (f : State → State) (hf : ∀ t, Touch m t (f t))
    (hm : 1 &&& m = 1) : OutTouch m s (State.window s g f) := by
  unfold State.window
  exact OutTouch.next (Touch.ite ((State.countOff_touch s g true).mono hm) (hf s))

theorem State.dmStore_touch (s : State) (c w : Nat) (d : Dword) :
    Touch 32 s (State.dmStore s c w d) := by
  unfold State.dmStore
  repeat' first
    | (with_reducible intro (x : Mem); subst x)
    | with_reducible apply Touch.refl
    | fail_if_no_progress ((with_reducible apply Touch.set_mem); rotate_left; decide; (refine Memory.wf_of ?_ ?_ ?_ ?_ <;> intro h <;> first | with_reducible exact h | with_reducible exact NMap.wf_keep _ _ _ h | with_reducible exact NMap.wf_setAll _ _ _ h | with_reducible exact NMap.wf_setAll _ _ _ (NMap.wf_keep _ _ _ h) | exact h | exact NMap.wf_set _ _ _ _ h | exact NMap.wf_keep _ _ _ h))

theorem State.dsPut_touch (s : State) (a : Nat) (b : Byte) :
    Touch 32 s (State.dsPut s a b) := by
  unfold State.dsPut
  repeat' first
    | (with_reducible intro (x : Mem); subst x)
    | with_reducible apply Touch.refl
    | fail_if_no_progress ((with_reducible apply Touch.set_mem); rotate_left; decide; (refine Memory.wf_of ?_ ?_ ?_ ?_ <;> intro h <;> first | with_reducible exact h | with_reducible exact NMap.wf_keep _ _ _ h | with_reducible exact NMap.wf_setAll _ _ _ h | with_reducible exact NMap.wf_setAll _ _ _ (NMap.wf_keep _ _ _ h) | exact h | exact NMap.wf_set _ _ _ _ h | exact NMap.wf_keep _ _ _ h))

theorem State.dsPutAll_touch (s : State) (a : Nat) (l : List Byte) : Touch 32 s (s.dsPutAll a l) := by
  induction l generalizing s a with
  | nil => exact Touch.refl _ _
  | cons b bs ih => exact ((State.dsPut_touch s a b).mono (by decide)).then (ih _ _) (by decide)

theorem State.dsWordPut_touch (s : State) (w : Nat) (mask : BitVec 8) (d : Dword) :
    Touch 32 s (State.dsWordPut s w mask d) := by
  unfold State.dsWordPut
  repeat' first
    | with_reducible apply Touch.refl
    | ((with_reducible apply Touch.then ?_ (State.dsPutAll_touch _ _ _) ?_); rotate_left; decide)

theorem State.setGalReady_touch (s : State) (g : Nat) (v : Bool) :
    Touch 1 s (State.setGalReady s g v) := by
  unfold State.setGalReady
  repeat' first
    | with_reducible apply Touch.refl
    | ((with_reducible apply Touch.then ?_ (State.put_touch _ _ _ _) ?_); rotate_left; decide)
    | apply Touch.ite

theorem State.assignRegion_touch (s : State) (n kind base size : Nat) :
    Touch 1 s (State.assignRegion s n kind base size) := by
  unfold State.assignRegion
  repeat' first
    | with_reducible apply Touch.refl
    | ((with_reducible apply Touch.then ?_ (State.put_touch _ _ _ _) ?_); rotate_left; decide)
    | ((with_reducible apply Touch.then ?_ (State.raise_touch _ _ _) ?_); rotate_left; decide)
    | ((with_reducible apply Touch.then ?_ (State.setReg_touch _ _ _) ?_); rotate_left; decide)

theorem State.releaseRegion_touch (s : State) (n : Nat) :
    Touch 1 s (State.releaseRegion s n) := by
  unfold State.releaseRegion
  repeat' first
    | with_reducible apply Touch.refl
    | ((with_reducible apply Touch.then ?_ (State.setReg_touch _ _ _) ?_); rotate_left; decide)

theorem State.recordPsg_touch (s : State) (p n : Nat) (flit : Nat) :
    Touch 131091 s (State.recordPsg s p n flit) := by
  unfold State.recordPsg
  repeat' first
    | (with_reducible intro x; with_reducible refine Touch.cutP (m := 131091) (s := s) (x := x) (fun hx => ?_) ?_; (clear_value x; rotate_left; subst x))
    | with_reducible apply Touch.refl
    | with_reducible assumption
    | ((with_reducible apply Touch.then ?_ (State.detect_touch _ _ _ _ _) ?_); rotate_left; decide)
    | ((with_reducible apply Touch.then ?_ (State.put_touch _ _ _ _) ?_); rotate_left; decide)
    | ((with_reducible apply Touch.then ?_ (State.raise_touch _ _ _) ?_); rotate_left; decide)
    | apply Touch.ite

theorem State.recordLtc_touch (s : State) (n : Nat) :
    Touch 131091 s (State.recordLtc s n) := by
  unfold State.recordLtc
  repeat' first
    | with_reducible apply Touch.refl
    | ((with_reducible apply Touch.then ?_ (State.detect_touch _ _ _ _ _) ?_); rotate_left; decide)
    | ((with_reducible apply Touch.then ?_ (State.raise_touch _ _ _) ?_); rotate_left; decide)

/-! Intr -/

theorem State.wardenPend_touch (s : State) (g i : Nat) :
    Touch 32768 s (State.wardenPend s g i) := by
  unfold State.wardenPend
  repeat' first
    | with_reducible apply Touch.refl
    | fail_if_no_progress ((with_reducible apply Touch.set_wiu); rotate_left; decide)
    | apply Touch.ite

theorem State.wardenPendAll_touch (s : State) (gs : List Nat) (i : Nat) :
    Touch 32768 s (State.wardenPendAll s gs i) := by
  unfold State.wardenPendAll
  repeat' first
    | with_reducible intro accT accX
    | with_reducible apply Touch.refl
    | ((with_reducible apply Touch.then ?_ (State.wardenPend_touch _ _ _) ?_); rotate_left; decide)
    | with_reducible apply Touch.foldl'

/-! TrcOps -/

theorem State.setFifo_touch (s : State) (k : Nat) (l : List Dword) :
    Touch 1048577 s (State.setFifo s k l) := by
  unfold State.setFifo
  repeat' first
    | (with_reducible intro x; with_reducible refine Touch.cutP (m := 1048577) (s := s) (x := x) (fun hx => ?_) ?_; (clear_value x; rotate_left; subst x))
    | with_reducible apply Touch.refl
    | with_reducible assumption
    | ((with_reducible apply Touch.then ?_ (State.put_touch _ _ _ _) ?_); rotate_left; decide)
    | fail_if_no_progress ((with_reducible apply Touch.set_trc); rotate_left; decide)

theorem State.setLost_touch (s : State) (k n : Nat) :
    Touch 1048577 s (State.setLost s k n) := by
  unfold State.setLost
  repeat' first
    | with_reducible apply Touch.refl
    | ((with_reducible apply Touch.then ?_ (State.put_touch _ _ _ _) ?_); rotate_left; decide)
    | fail_if_no_progress ((with_reducible apply Touch.set_trc); rotate_left; decide)

theorem State.dropPacket_touch (s : State) (k : Nat) :
    Touch 1064961 s (State.dropPacket s k) := by
  unfold State.dropPacket
  repeat' first
    | (with_reducible intro x; with_reducible refine Touch.cutP (m := 1064961) (s := s) (x := x) (fun hx => ?_) ?_; (clear_value x; rotate_left; subst x))
    | with_reducible apply Touch.refl
    | with_reducible assumption
    | ((with_reducible apply Touch.then ?_ (State.raise_touch _ _ _) ?_); rotate_left; decide)
    | ((with_reducible apply Touch.then ?_ (State.setLost_touch _ _ _) ?_); rotate_left; decide)
    | ((with_reducible apply Touch.then ?_ (State.cicEvent_touch _ _) ?_); rotate_left; decide)
    | apply Touch.ite

theorem State.pushPacket_touch (s : State) (k ty payload : Nat) :
    Touch 1064961 s (State.pushPacket s k ty payload) := by
  unfold State.pushPacket
  repeat' first
    | (with_reducible intro x; with_reducible refine Touch.cutP (m := 1064961) (s := s) (x := x) (fun hx => ?_) ?_; (clear_value x; rotate_left; subst x))
    | with_reducible apply Touch.refl
    | with_reducible assumption
    | ((with_reducible apply Touch.then ?_ (State.dropPacket_touch _ _) ?_); rotate_left; decide)
    | ((with_reducible apply Touch.then ?_ (State.setFifo_touch _ _ _) ?_); rotate_left; decide)
    | fail_if_no_progress ((with_reducible apply Touch.set_trc); rotate_left; decide)
    | apply Touch.ite

theorem State.setOutcomes_touch (s : State) (k : Nat) (l : List Bool) :
    Touch 1048576 s (State.setOutcomes s k l) := by
  unfold State.setOutcomes
  repeat' first
    | with_reducible apply Touch.refl
    | fail_if_no_progress ((with_reducible apply Touch.set_trc); rotate_left; decide)

theorem State.flushBranch_touch (s : State) (k : Nat) :
    Touch 1064961 s (State.flushBranch s k) := by
  unfold State.flushBranch
  repeat' first
    | with_reducible apply Touch.refl
    | ((with_reducible apply Touch.then ?_ (State.pushPacket_touch _ _ _ _) ?_); rotate_left; decide)
    | ((with_reducible apply Touch.then ?_ (State.setOutcomes_touch _ _ _) ?_); rotate_left; decide)
    | apply Touch.ite

theorem State.syncPackets_touch (s : State) (k : Nat) :
    Touch 1064961 s (State.syncPackets s k) := by
  unfold State.syncPackets
  repeat' first
    | (with_reducible intro x; with_reducible refine Touch.cutP (m := 1064961) (s := s) (x := x) (fun hx => ?_) ?_; (clear_value x; rotate_left; subst x))
    | with_reducible apply Touch.refl
    | with_reducible assumption
    | ((with_reducible apply Touch.then ?_ (State.pushPacket_touch _ _ _ _) ?_); rotate_left; decide)
    | fail_if_no_progress ((with_reducible apply Touch.set_trc); rotate_left; decide)

theorem State.stamped_touch (s : State) (k : Nat) :
    Touch 1048576 s (State.stamped s k) := by
  unfold State.stamped
  repeat' first
    | with_reducible apply Touch.refl
    | fail_if_no_progress ((with_reducible apply Touch.set_trc); rotate_left; decide)

theorem State.startPackets_touch (s : State) (k : Nat) :
    Touch 1064961 s (State.startPackets s k) := by
  unfold State.startPackets
  repeat' first
    | with_reducible apply Touch.refl
    | ((with_reducible apply Touch.then ?_ (State.stamped_touch _ _) ?_); rotate_left; decide)
    | ((with_reducible apply Touch.then ?_ (State.syncPackets_touch _ _) ?_); rotate_left; decide)

theorem State.syncDue_touch (s : State) (k : Nat) :
    Touch 1064961 s (State.syncDue s k) := by
  unfold State.syncDue
  repeat' first
    | with_reducible apply Touch.refl
    | ((with_reducible apply Touch.then ?_ (State.syncPackets_touch _ _) ?_); rotate_left; decide)
    | apply Touch.ite

theorem State.packet_touch (s : State) (k ty payload : Nat) :
    Touch 1064961 s (State.packet s k ty payload) := by
  unfold State.packet
  repeat' first
    | with_reducible apply Touch.refl
    | ((with_reducible apply Touch.then ?_ (State.flushBranch_touch _ _) ?_); rotate_left; decide)
    | ((with_reducible apply Touch.then ?_ (State.pushPacket_touch _ _ _ _) ?_); rotate_left; decide)
    | ((with_reducible apply Touch.then ?_ (State.syncDue_touch _ _) ?_); rotate_left; decide)

theorem State.setTrcAddr_touch (s : State) (k mode addr : Nat) :
    Touch 1048576 s (State.setTrcAddr s k mode addr) := by
  unfold State.setTrcAddr
  repeat' first
    | with_reducible apply Touch.refl
    | fail_if_no_progress ((with_reducible apply Touch.set_trc); rotate_left; decide)

theorem State.trcMark_touch (s : State) :
    Touch 1064961 s (State.trcMark s) := by
  unfold State.trcMark
  repeat' first
    | (with_reducible intro x; with_reducible refine Touch.cutP (m := 1064961) (s := s) (x := x) (fun hx => ?_) ?_; (clear_value x; rotate_left; subst x))
    | with_reducible apply Touch.refl
    | with_reducible assumption
    | ((with_reducible apply Touch.then ?_ (State.put_touch _ _ _ _) ?_); rotate_left; decide)
    | ((with_reducible apply Touch.then ?_ (State.raise_touch _ _ _) ?_); rotate_left; decide)
    | ((with_reducible apply Touch.then ?_ (State.cicEvent_touch _ _) ?_); rotate_left; decide)
    | fail_if_no_progress ((with_reducible apply Touch.set_trc); rotate_left; decide)
    | apply Touch.ite

theorem State.acceptPacket_touch (s : State) (k : Nat) :
    Touch 1064961 s (State.acceptPacket s k) := by
  unfold State.acceptPacket
  repeat' first
    | (with_reducible intro x; with_reducible refine Touch.cutP (m := 1064961) (s := s) (x := x) (fun hx => ?_) ?_; (clear_value x; rotate_left; subst x))
    | with_reducible apply Touch.refl
    | with_reducible assumption
    | ((with_reducible apply Touch.then ?_ (State.trcMark_touch _) ?_); rotate_left; decide)
    | ((with_reducible apply Touch.then ?_ (State.put_touch _ _ _ _) ?_); rotate_left; decide)
    | ((with_reducible apply Touch.then ?_ (State.raise_touch _ _ _) ?_); rotate_left; decide)
    | ((with_reducible apply Touch.then ?_ (State.setFifo_touch _ _ _) ?_); rotate_left; decide)
    | fail_if_no_progress ((with_reducible apply Touch.set_trc); rotate_left; decide)
    | split

theorem State.trcStop_touch (s : State) (k : Nat) :
    Touch 1064961 s (State.trcStop s k) := by
  unfold State.trcStop
  repeat' first
    | (with_reducible intro x; with_reducible refine Touch.cutP (m := 1064961) (s := s) (x := x) (fun hx => ?_) ?_; (clear_value x; rotate_left; subst x))
    | with_reducible apply Touch.refl
    | with_reducible assumption
    | ((with_reducible apply Touch.then ?_ (State.flushBranch_touch _ _) ?_); rotate_left; decide)
    | ((with_reducible apply Touch.then ?_ (State.pushPacket_touch _ _ _ _) ?_); rotate_left; decide)
    | ((with_reducible apply Touch.then ?_ (State.put_touch _ _ _ _) ?_); rotate_left; decide)
    | apply Touch.ite

theorem State.trcStart_touch (s : State) (k kind : Nat) :
    Touch 1064961 s (State.trcStart s k kind) := by
  unfold State.trcStart
  repeat' first
    | (with_reducible intro x; with_reducible refine Touch.cutP (m := 1064961) (s := s) (x := x) (fun hx => ?_) ?_; (clear_value x; rotate_left; subst x))
    | with_reducible apply Touch.refl
    | with_reducible assumption
    | ((with_reducible apply Touch.then ?_ (State.pushPacket_touch _ _ _ _) ?_); rotate_left; decide)
    | ((with_reducible apply Touch.then ?_ (State.raise_touch _ _ _) ?_); rotate_left; decide)
    | ((with_reducible apply Touch.then ?_ (State.startPackets_touch _ _) ?_); rotate_left; decide)
    | apply Touch.ite

theorem State.drainFifo_touch (s : State) (k n : Nat) : Touch 1064961 s (s.drainFifo k n) := by
  induction n generalizing s with
  | zero => exact Touch.refl _ _
  | succ n ih =>
    unfold State.drainFifo
    split
    · exact ((State.acceptPacket_touch s k).mono (by decide)).then (ih _) (by decide)
    · exact Touch.refl _ _

theorem State.trcOff_touch (s : State) (k : Nat) :
    Touch 1064961 s (State.trcOff s k) := by
  unfold State.trcOff
  repeat' first
    | (with_reducible intro x; with_reducible refine Touch.cutP (m := 1064961) (s := s) (x := x) (fun hx => ?_) ?_; (clear_value x; rotate_left; subst x))
    | with_reducible apply Touch.refl
    | with_reducible assumption
    | ((with_reducible apply Touch.then ?_ (State.flushBranch_touch _ _) ?_); rotate_left; decide)
    | ((with_reducible apply Touch.then ?_ (State.pushPacket_touch _ _ _ _) ?_); rotate_left; decide)
    | ((with_reducible apply Touch.then ?_ (State.drainFifo_touch _ _ _) ?_); rotate_left; decide)
    | ((with_reducible apply Touch.then ?_ (State.put_touch _ _ _ _) ?_); rotate_left; decide)
    | ((with_reducible apply Touch.then ?_ (State.setFifo_touch _ _ _) ?_); rotate_left; decide)
    | ((with_reducible apply Touch.then ?_ (State.setLost_touch _ _ _) ?_); rotate_left; decide)
    | apply Touch.ite

theorem State.trcReset_touch (s : State) (k kind : Nat) :
    Touch 1064963 s (State.trcReset s k kind) := by
  unfold State.trcReset
  repeat' first
    | with_reducible apply Touch.refl
    | ((with_reducible apply Touch.then ?_ (State.trcStart_touch _ _ _) ?_); rotate_left; decide)
    | ((with_reducible apply Touch.then ?_ (State.setTrcAddr_touch _ _ _ _) ?_); rotate_left; decide)
    | ((with_reducible apply Touch.then ?_ (State.used_touch _) ?_); rotate_left; decide)

theorem State.galleryOn_touch (s : State) (g : Nat) :
    Touch 1097729 s (State.galleryOn s g) := by
  unfold State.galleryOn
  repeat' first
    | with_reducible apply Touch.refl
    | ((with_reducible apply Touch.then ?_ (State.trcStart_touch _ _ _) ?_); rotate_left; decide)
    | ((with_reducible apply Touch.then ?_ (State.setGalPower_touch _ _ _) ?_); rotate_left; decide)
    | ((with_reducible apply Touch.then ?_ (State.wardenPend_touch _ _ _) ?_); rotate_left; decide)

theorem State.wardenUp_touch (s : State) (g : Nat) :
    Touch 1064963 s (State.wardenUp s g) := by
  unfold State.wardenUp
  repeat' first
    | with_reducible apply Touch.refl
    | ((with_reducible apply Touch.then ?_ (State.trcReset_touch _ _ _) ?_); rotate_left; decide)
    | ((with_reducible apply Touch.then ?_ (State.setGalPower_touch _ _ _) ?_); rotate_left; decide)

/-! RegOps -/

theorem State.typedStore_touch (s : State) (o : Nat) (w : Word) :
    Touch 1 s (State.typedStore s o w) := by
  unfold State.typedStore
  repeat' first
    | with_reducible apply Touch.refl
    | ((with_reducible apply Touch.then ?_ (State.setReg_touch _ _ _) ?_); rotate_left; decide)
    | split

/-! Operands -/

theorem State.writeCur_touch (s : State) (b n : Nat) (x : Nv) :
    Touch 8 s (State.writeCur s b n x) := by
  unfold State.writeCur
  repeat' first
    | with_reducible apply Touch.refl
    | fail_if_no_progress ((with_reducible apply Touch.set_fab); rotate_left; decide)

theorem State.writePrev_touch (s : State) (b n : Nat) (x : Nv) :
    Touch 8 s (State.writePrev s b n x) := by
  unfold State.writePrev
  repeat' first
    | with_reducible apply Touch.refl
    | fail_if_no_progress ((with_reducible apply Touch.set_fab); rotate_left; decide)

theorem State.useArmed_touch (s : State) (block code unit : Nat) :
    Touch 131075 s (State.useArmed s block code unit) := by
  unfold State.useArmed
  repeat' first
    | with_reducible apply Touch.refl
    | with_reducible assumption
    | ((with_reducible apply Touch.then ?_ (State.put_touch _ _ _ _) ?_); rotate_left; decide)
    | fail_if_no_progress ((with_reducible apply Touch.set_lnt); rotate_left; decide)
    | apply Touch.ite

theorem State.parityCheck_touch (s : State) (b n : Nat) :
    Touch 131099 s (State.parityCheck s b n) := by
  unfold State.parityCheck
  repeat' first
    | with_reducible apply Touch.refl
    | with_reducible assumption
    | ((with_reducible apply Touch.then ?_ (State.record_touch _ _ _ _) ?_); rotate_left; decide)
    | ((with_reducible apply Touch.then ?_ (State.useArmed_touch _ _ _ _) ?_); rotate_left; decide)
    | fail_if_no_progress ((with_reducible apply Touch.set_fab); rotate_left; decide)
    | apply Touch.ite

theorem State.readOpnd_touch (s : State) (b : Nat) (o : Operand) :
    Touch 131099 s (State.readOpnd s b o).2 := by
  unfold State.readOpnd
  repeat' first
    | (with_reducible intro x; with_reducible refine Touch.cutP (m := 131099) (s := s) (x := x) (fun hx => ?_) ?_; (clear_value x; rotate_left; subst x))
    | (with_reducible intro x; subst x)
    | with_reducible lift_lets -underBinder
    | with_reducible apply Touch.refl
    | with_reducible assumption
    | with_reducible apply Touch.ite
    | ((with_reducible apply Touch.then ?_ (State.record_touch _ _ _ _) ?_); rotate_left; decide)
    | ((with_reducible apply Touch.then ?_ (State.parityCheck_touch _ _ _) ?_); rotate_left; decide)
    | split
    | apply Touch.ite

theorem State.readAll_touch (s : State) (b : Nat) (l : List Operand) : Touch 131099 s (s.readAll b l).2 := by
  induction l generalizing s with
  | nil => exact Touch.refl _ _
  | cons o os ih => exact ((State.readOpnd_touch s b o).mono (by decide)).then (ih _) (by decide)

theorem State.readTable_touch (s : State) (b : Nat) (fn : BitVec 8) :
    Touch 131091 s (State.readTable s b fn).2 := by
  unfold State.readTable
  repeat' first
    | (with_reducible intro x; with_reducible refine Touch.cutP (m := 131091) (s := s) (x := x) (fun hx => ?_) ?_; (clear_value x; rotate_left; subst x))
    | (with_reducible intro x; subst x)
    | with_reducible lift_lets -underBinder
    | with_reducible apply Touch.refl
    | with_reducible assumption
    | with_reducible apply Touch.ite
    | ((with_reducible apply Touch.then ?_ (State.record_touch _ _ _ _) ?_); rotate_left; decide)
    | ((with_reducible apply Touch.then ?_ (State.useArmed_touch _ _ _ _) ?_); rotate_left; decide)
    | split
    | apply Touch.ite

/-! DeepStore -/

theorem State.dsUe_touch (s : State) (ch : Nat) :
    Touch 131091 s (State.dsUe s ch) := by
  unfold State.dsUe
  repeat' first
    | with_reducible apply Touch.refl
    | ((with_reducible apply Touch.then ?_ (State.detect_touch _ _ _ _ _) ?_); rotate_left; decide)
    | ((with_reducible apply Touch.then ?_ (State.bump_touch _ _ _ _) ?_); rotate_left; decide)

theorem State.writeDone_touch (s : State) (w n : Nat) :
    Touch 32 s (State.writeDone s w n) := by
  unfold State.writeDone
  repeat' first
    | (with_reducible intro (x : Mem); subst x)
    | with_reducible apply Touch.refl
    | fail_if_no_progress ((with_reducible apply Touch.set_mem); rotate_left; decide; (refine Memory.wf_of ?_ ?_ ?_ ?_ <;> intro h <;> first | with_reducible exact h | with_reducible exact NMap.wf_keep _ _ _ h | with_reducible exact NMap.wf_setAll _ _ _ h | with_reducible exact NMap.wf_setAll _ _ _ (NMap.wf_keep _ _ _ h) | exact h | exact NMap.wf_set _ _ _ _ h | exact NMap.wf_keep _ _ _ h))

theorem State.readDone_touch (s : State) (w n : Nat) :
    Touch 32 s (State.readDone s w n) := by
  unfold State.readDone
  repeat' first
    | (with_reducible intro (x : Mem); subst x)
    | with_reducible apply Touch.refl
    | fail_if_no_progress ((with_reducible apply Touch.set_mem); rotate_left; decide; (refine Memory.wf_of ?_ ?_ ?_ ?_ <;> intro h <;> first | with_reducible exact h | with_reducible exact NMap.wf_keep _ _ _ h | with_reducible exact NMap.wf_setAll _ _ _ h | with_reducible exact NMap.wf_setAll _ _ _ (NMap.wf_keep _ _ _ h) | exact h | exact NMap.wf_set _ _ _ _ h | exact NMap.wf_keep _ _ _ h))

theorem State.dsCheck_touch (s : State) (w : Nat) :
    Touch 131123 s (State.dsCheck s w).2.2 := by
  unfold State.dsCheck
  repeat' first
    | (with_reducible intro (x : Mem); subst x)
    | with_reducible apply Touch.refl
    | ((with_reducible apply Touch.then ?_ (State.detect_touch _ _ _ _ _) ?_); rotate_left; decide)
    | ((with_reducible apply Touch.then ?_ (State.dsUe_touch _ _) ?_); rotate_left; decide)
    | ((with_reducible apply Touch.then ?_ (State.bump_touch _ _ _ _) ?_); rotate_left; decide)
    | fail_if_no_progress ((with_reducible apply Touch.set_mem); rotate_left; decide; (refine Memory.wf_of ?_ ?_ ?_ ?_ <;> intro h <;> first | with_reducible exact h | with_reducible exact NMap.wf_keep _ _ _ h | with_reducible exact NMap.wf_setAll _ _ _ h | with_reducible exact NMap.wf_setAll _ _ _ (NMap.wf_keep _ _ _ h) | exact h | exact NMap.wf_set _ _ _ _ h | exact NMap.wf_keep _ _ _ h))
    | split

theorem State.dsRead_touch (s : State) (w : Nat) :
    Touch 131123 s (State.dsRead s w).2.2 := by
  unfold State.dsRead
  repeat' first
    | (with_reducible intro x; with_reducible refine Touch.cutP (m := 131123) (s := s) (x := x.2.2) (fun hx => ?_) ?_; (clear_value x; rotate_left; subst x))
    | with_reducible apply Touch.refl
    | with_reducible assumption
    | ((with_reducible apply Touch.then ?_ (State.dsCheck_touch _ _) ?_); rotate_left; decide)
    | ((with_reducible apply Touch.then ?_ (State.readDone_touch _ _ _) ?_); rotate_left; decide)

theorem State.dsCommit_touch (s : State) (w : Nat) (mask : BitVec 8) (d : Dword) :
    Touch 131107 s (State.dsCommit s w mask d) := by
  unfold State.dsCommit
  repeat' first
    | (with_reducible intro x; with_reducible refine Touch.cutP (m := 131107) (s := s) (x := x) (fun hx => ?_) ?_; (clear_value x; rotate_left; subst x))
    | (with_reducible intro (x : Mem); subst x)
    | with_reducible apply Touch.refl
    | with_reducible assumption
    | ((with_reducible apply Touch.then ?_ (State.useArmed_touch _ _ _ _) ?_); rotate_left; decide)
    | ((with_reducible apply Touch.then ?_ (State.dsWordPut_touch _ _ _ _) ?_); rotate_left; decide)
    | fail_if_no_progress ((with_reducible apply Touch.set_mem); rotate_left; decide; (refine Memory.wf_of ?_ ?_ ?_ ?_ <;> intro h <;> first | with_reducible exact h | with_reducible exact NMap.wf_keep _ _ _ h | with_reducible exact NMap.wf_setAll _ _ _ h | with_reducible exact NMap.wf_setAll _ _ _ (NMap.wf_keep _ _ _ h) | exact h | exact NMap.wf_set _ _ _ _ h | exact NMap.wf_keep _ _ _ h))
    | apply Touch.ite

theorem State.dsPutWord_touch (s : State) (w : Nat) (mask : BitVec 8) (d : Dword) :
    Touch 131123 s (State.dsPutWord s w mask d) := by
  unfold State.dsPutWord
  repeat' first
    | (with_reducible intro x; with_reducible refine Touch.cutP (m := 131123) (s := s) (x := x.2.2) (fun hx => ?_) ?_; (clear_value x; rotate_left; subst x))
    | with_reducible apply Touch.refl
    | with_reducible assumption
    | ((with_reducible apply Touch.then ?_ (State.dsCheck_touch _ _) ?_); rotate_left; decide)
    | ((with_reducible apply Touch.then ?_ (State.dsCommit_touch _ _ _ _) ?_); rotate_left; decide)
    | apply Touch.ite

theorem State.dsWrite_touch (s : State) (w : Nat) (mask : BitVec 8) (d : Dword) :
    Touch 131123 s (State.dsWrite s w mask d) := by
  unfold State.dsWrite
  repeat' first
    | with_reducible apply Touch.refl
    | ((with_reducible apply Touch.then ?_ (State.dsPutWord_touch _ _ _ _) ?_); rotate_left; decide)
    | ((with_reducible apply Touch.then ?_ (State.writeDone_touch _ _ _) ?_); rotate_left; decide)

theorem State.dsReadWords_touch (s : State) (w n : Nat) : Touch 131123 s (s.dsReadWords w n).2.2 := by
  induction n generalizing s w with
  | zero => exact Touch.refl _ _
  | succ n ih => exact ((State.dsCheck_touch s w).mono (by decide)).then (ih _ _) (by decide)

theorem State.dsReadBytes_touch (s : State) (a n : Nat) :
    Touch 131123 s (State.dsReadBytes s a n).2.2 := by
  unfold State.dsReadBytes
  repeat' first
    | (with_reducible intro x; with_reducible refine Touch.cutP (m := 131123) (s := s) (x := x.2.2) (fun hx => ?_) ?_; (clear_value x; rotate_left; subst x))
    | with_reducible apply Touch.refl
    | with_reducible assumption
    | ((with_reducible apply Touch.then ?_ (State.dsReadWords_touch _ _ _) ?_); rotate_left; decide)
    | ((with_reducible apply Touch.then ?_ (State.readDone_touch _ _ _) ?_); rotate_left; decide)

theorem State.dsWriteWords_touch (s : State) (w : Nat) (l : List (BitVec 8 × Dword)) :
    Touch 131123 s (s.dsWriteWords w l) := by
  induction l generalizing s w with
  | nil => exact Touch.refl _ _
  | cons x t ih =>
    obtain ⟨m, d⟩ := x
    unfold State.dsWriteWords
    refine Touch.then ?_ (ih _ _) (by decide)
    split
    · exact Touch.refl _ _
    · exact (State.dsPutWord_touch s w m d).mono (by decide)

theorem State.dsWriteSome_touch (s : State) (a : Nat) (bs : List (Option Byte)) :
    Touch 131123 s (State.dsWriteSome s a bs) := by
  unfold State.dsWriteSome
  repeat' first
    | with_reducible apply Touch.refl
    | ((with_reducible apply Touch.then ?_ (State.dsWriteWords_touch _ _ _) ?_); rotate_left; decide)
    | ((with_reducible apply Touch.then ?_ (State.writeDone_touch _ _ _) ?_); rotate_left; decide)

theorem State.dsWriteBytes_touch (s : State) (a : Nat) (bs : List Byte) :
    Touch 131123 s (State.dsWriteBytes s a bs) := by
  unfold State.dsWriteBytes
  repeat' first
    | with_reducible apply Touch.refl
    | ((with_reducible apply Touch.then ?_ (State.dsWriteSome_touch _ _ _) ?_); rotate_left; decide)

theorem State.dsZero_touch (s : State) (lo hi : Nat) :
    Touch 32 s (State.dsZero s lo hi) := by
  unfold State.dsZero
  repeat' first
    | (with_reducible intro (x : Mem); subst x)
    | with_reducible apply Touch.refl
    | fail_if_no_progress ((with_reducible apply Touch.set_mem); rotate_left; decide; (refine Memory.wf_of ?_ ?_ ?_ ?_ <;> intro h <;> first | with_reducible exact h | with_reducible exact NMap.wf_keep _ _ _ h | with_reducible exact NMap.wf_setAll _ _ _ h | with_reducible exact NMap.wf_setAll _ _ _ (NMap.wf_keep _ _ _ h) | exact h | exact NMap.wf_set _ _ _ _ h | exact NMap.wf_keep _ _ _ h))

/-! Network -/

theorem State.applyForce_touch (s : State) (b : Nat) (t : ForceTarget) (x : Nv) :
    Touch 64 s (State.applyForce s b t x).2 := by
  unfold State.applyForce
  repeat' first
    | with_reducible apply Touch.refl
    | fail_if_no_progress ((with_reducible apply Touch.set_echo); rotate_left; decide)
    | split

theorem State.rxDiscard_touch (s : State) (g : Nat) :
    Touch 1 s (State.rxDiscard s g) := by
  unfold State.rxDiscard
  repeat' first
    | with_reducible apply Touch.refl
    | ((with_reducible apply Touch.then ?_ (State.bump_touch _ _ _ _) ?_); rotate_left; decide)

theorem State.recvParity_touch (s : State) (b i : Nat) :
    Touch 131091 s (State.recvParity s b i) := by
  unfold State.recvParity
  repeat' first
    | (with_reducible intro x; with_reducible refine Touch.cutP (m := 131091) (s := s) (x := x) (fun hx => ?_) ?_; (clear_value x; rotate_left; subst x))
    | with_reducible apply Touch.refl
    | with_reducible assumption
    | ((with_reducible apply Touch.then ?_ (State.recordSched_touch _ _ _ _ _ _) ?_); rotate_left; decide)
    | ((with_reducible apply Touch.then ?_ (State.useArmed_touch _ _ _ _) ?_); rotate_left; decide)
    | apply Touch.ite

theorem State.land_touch (s : State) (b : Nat) (port : RxPort) (step : Nat) (x : Nv) :
    Touch 131163 s (State.land s b port step x) := by
  unfold State.land
  repeat' first
    | (with_reducible intro x; with_reducible refine Touch.cutP (m := 131163) (s := s) (x := x) (fun hx => ?_) ?_; (clear_value x; rotate_left; subst x))
    | (with_reducible intro x; with_reducible refine Touch.cutP (m := 131163) (s := s) (x := x.2) (fun hx => ?_) ?_; (clear_value x; rotate_left; subst x))
    | with_reducible apply Touch.refl
    | with_reducible assumption
    | ((with_reducible apply Touch.then ?_ (State.recordSched_touch _ _ _ _ _ _) ?_); rotate_left; decide)
    | ((with_reducible apply Touch.then ?_ (State.recvParity_touch _ _ _) ?_); rotate_left; decide)
    | ((with_reducible apply Touch.then ?_ (State.rxDiscard_touch _ _) ?_); rotate_left; decide)
    | ((with_reducible apply Touch.then ?_ (State.applyForce_touch _ _ _ _) ?_); rotate_left; decide)
    | ((with_reducible apply Touch.then ?_ (State.writeCur_touch _ _ _ _) ?_); rotate_left; decide)
    | fail_if_no_progress ((with_reducible apply Touch.set_fab); rotate_left; decide)
    | split
    | apply Touch.ite

theorem State.launch_touch (s : State) (b : Nat) (port : RxPort) (step lat : Nat) (x : Nv) :
    Touch 8 s (State.launch s b port step lat x) := by
  unfold State.launch
  repeat' first
    | with_reducible apply Touch.refl
    | fail_if_no_progress ((with_reducible apply Touch.set_fab); rotate_left; decide)

theorem landDue_touch (l : List Arrival) (u : List (Nat × Nat)) (s : State) : Touch 131163 s (landDue l u s).1 := by
  induction l generalizing u s with
  | nil => exact Touch.refl _ _
  | cons a as ih =>
    unfold landDue
    split
    · exact ((State.land_touch s _ _ _ _).mono (by decide)).then (ih _ _) (by decide)
    · exact ih _ _

theorem State.elapse_touch (s : State) :
    Touch 196699 s (State.elapse s) := by
  unfold State.elapse
  repeat' first
    | (with_reducible intro x; with_reducible refine Touch.cutP (m := 196699) (s := s) (x := x) (fun hx => ?_) ?_; (clear_value x; rotate_left; subst x))
    | (with_reducible intro x; with_reducible refine Touch.cutP (m := 196699) (s := s) (x := x.1) (fun hx => ?_) ?_; (clear_value x; rotate_left; subst x))
    | with_reducible apply Touch.refl
    | with_reducible assumption
    | ((with_reducible apply Touch.then ?_ (landDue_touch _ _ _) ?_); rotate_left; decide)
    | ((with_reducible apply Touch.then ?_ (State.put_touch _ _ _ _) ?_); rotate_left; decide)
    | ((with_reducible apply Touch.then ?_ (State.setReg_touch _ _ _) ?_); rotate_left; decide)
    | fail_if_no_progress ((with_reducible apply Touch.set_raised_fab_sched_tb); rotate_left; decide; decide; decide; decide)

theorem State.elapseN_touch (n : Nat) (s : State) : Touch 196699 s (State.elapseN n s) := by
  induction n generalizing s with
  | zero => exact Touch.refl _ _
  | succ n ih => exact ((State.elapse_touch s).mono (by decide)).then (ih _) (by decide)

theorem State.hold_touch (s : State) (ws : List Waiter) (sync : Bool) :
    Touch 196699 s (State.hold s ws sync) := by
  unfold State.hold
  repeat' first
    | (with_reducible intro x; with_reducible refine Touch.cutP (m := 196699) (s := s) (x := x) (fun hx => ?_) ?_; (clear_value x; rotate_left; subst x))
    | with_reducible intro accT accX
    | with_reducible apply Touch.refl
    | with_reducible assumption
    | ((with_reducible apply Touch.then ?_ (State.elapse_touch _) ?_); rotate_left; decide)
    | ((with_reducible apply Touch.then ?_ (State.bump_touch _ _ _ _) ?_); rotate_left; decide)
    | fail_if_no_progress ((with_reducible apply Touch.set_sched); rotate_left; decide)
    | with_reducible apply Touch.foldl'
    | apply Touch.ite

theorem State.slipLast_touch (s : State) (r : SlipRec) :
    Touch 32769 s (State.slipLast s r) := by
  unfold State.slipLast
  repeat' first
    | with_reducible apply Touch.refl
    | ((with_reducible apply Touch.then ?_ (State.put_touch _ _ _ _) ?_); rotate_left; decide)
    | ((with_reducible apply Touch.then ?_ (State.raise_touch _ _ _) ?_); rotate_left; decide)
    | ((with_reducible apply Touch.then ?_ (State.setReg_touch _ _ _) ?_); rotate_left; decide)
    | ((with_reducible apply Touch.then ?_ (State.wardenPend_touch _ _ _) ?_); rotate_left; decide)

theorem State.endHold_touch (s : State) :
    Touch 32785 s (State.endHold s) := by
  unfold State.endHold
  repeat' first
    | (with_reducible intro x; with_reducible refine Touch.cutP (m := 32785) (s := s) (x := x) (fun hx => ?_) ?_; (clear_value x; rotate_left; subst x))
    | with_reducible intro accT accX
    | with_reducible apply Touch.refl
    | with_reducible assumption
    | ((with_reducible apply Touch.then ?_ (State.slipLast_touch _ _) ?_); rotate_left; decide)
    | fail_if_no_progress ((with_reducible apply Touch.set_sched); rotate_left; decide)
    | with_reducible apply Touch.foldl'

theorem State.linkPlace_touch (s : State) (four : Bool) (r : Word) (x : Nv) :
    Touch 256 s (State.linkPlace s four r x) := by
  unfold State.linkPlace
  repeat' first
    | with_reducible apply Touch.refl
    | fail_if_no_progress ((with_reducible apply Touch.set_psg); rotate_left; decide)

theorem State.slotParity_touch (s : State) (b i : Nat) :
    Touch 131091 s (State.slotParity s b i) := by
  unfold State.slotParity
  repeat' first
    | (with_reducible intro x; with_reducible refine Touch.cutP (m := 131091) (s := s) (x := x) (fun hx => ?_) ?_; (clear_value x; rotate_left; subst x))
    | with_reducible apply Touch.refl
    | with_reducible assumption
    | ((with_reducible apply Touch.then ?_ (State.recordSched_touch _ _ _ _ _ _) ?_); rotate_left; decide)
    | ((with_reducible apply Touch.then ?_ (State.useArmed_touch _ _ _ _) ?_); rotate_left; decide)
    | apply Touch.ite

theorem State.sendRec_touch (s : State) (b : Nat) (r : Word) (x : Nv) :
    Touch 264 s (State.sendRec s b r x) := by
  unfold State.sendRec
  repeat' first
    | with_reducible apply Touch.refl
    | ((with_reducible apply Touch.then ?_ (State.linkPlace_touch _ _ _ _) ?_); rotate_left; decide)
    | fail_if_no_progress ((with_reducible apply Touch.set_fab); rotate_left; decide)
    | split
    | apply Touch.ite

theorem State.sendOn_touch (s : State) (b i : Nat) (x : Nv) :
    Touch 264 s (State.sendOn s b i x) := by
  unfold State.sendOn
  repeat' first
    | with_reducible apply Touch.refl
    | ((with_reducible apply Touch.then ?_ (State.sendRec_touch _ _ _ _) ?_); rotate_left; decide)

theorem State.send_touch (s : State) (b : Nat) (x : Nv) :
    Touch 131355 s (State.send s b x) := by
  unfold State.send
  repeat' first
    | (with_reducible intro x; with_reducible refine Touch.cutP (m := 131355) (s := s) (x := x) (fun hx => ?_) ?_; (clear_value x; rotate_left; subst x))
    | with_reducible apply Touch.refl
    | with_reducible assumption
    | ((with_reducible apply Touch.then ?_ (State.slotParity_touch _ _ _) ?_); rotate_left; decide)
    | ((with_reducible apply Touch.then ?_ (State.sendOn_touch _ _ _ _) ?_); rotate_left; decide)
    | fail_if_no_progress ((with_reducible apply Touch.set_fab); rotate_left; decide)

theorem State.isoView_touch (s : State) :
    Touch 9 s (State.isoView s) := by
  unfold State.isoView
  repeat' first
    | (with_reducible intro x; with_reducible refine Touch.cutP (m := 9) (s := s) (x := x) (fun hx => ?_) ?_; (clear_value x; rotate_left; subst x))
    | with_reducible intro accT accX
    | with_reducible apply Touch.refl
    | with_reducible assumption
    | ((with_reducible apply Touch.then ?_ (State.put_touch _ _ _ _) ?_); rotate_left; decide)
    | fail_if_no_progress ((with_reducible apply Touch.set_fab); rotate_left; decide)
    | with_reducible apply Touch.foldl'

theorem State.replay_touch (s : State) (b : Nat) :
    Touch 265 s (State.replay s b) := by
  unfold State.replay
  repeat' first
    | with_reducible apply Touch.refl
    | ((with_reducible apply Touch.then ?_ (State.isoView_touch _) ?_); rotate_left; decide)
    | ((with_reducible apply Touch.then ?_ (State.sendRec_touch _ _ _ _) ?_); rotate_left; decide)
    | apply Touch.ite

/-! Answers -/

theorem State.hostErr_touch (s : State) (n bar addr : Nat) (st : Nat) :
    Touch 131091 s (State.hostErr s n bar addr st) := by
  unfold State.hostErr
  repeat' first
    | (with_reducible intro x; with_reducible refine Touch.cutP (m := 131091) (s := s) (x := x) (fun hx => ?_) ?_; (clear_value x; rotate_left; subst x))
    | with_reducible apply Touch.refl
    | with_reducible assumption
    | ((with_reducible apply Touch.then ?_ (State.detect_touch _ _ _ _ _) ?_); rotate_left; decide)
    | ((with_reducible apply Touch.then ?_ (State.put_touch _ _ _ _) ?_); rotate_left; decide)
    | ((with_reducible apply Touch.then ?_ (State.raise_touch _ _ _) ?_); rotate_left; decide)
    | apply Touch.ite

theorem State.reply_touch (s : State) (r : HostReply) :
    Touch 4096 s (State.reply s r) := by
  unfold State.reply
  repeat' first
    | with_reducible apply Touch.refl
    | fail_if_no_progress ((with_reducible apply Touch.set_host); rotate_left; decide)

theorem State.aerCor_touch (s : State) (n : Nat) :
    Touch 135187 s (State.aerCor s n) := by
  unfold State.aerCor
  repeat' first
    | with_reducible apply Touch.refl
    | ((with_reducible apply Touch.then ?_ (State.detect_touch _ _ _ _ _) ?_); rotate_left; decide)
    | fail_if_no_progress ((with_reducible apply Touch.set_host); rotate_left; decide)

theorem State.aer_touch (s : State) (k : UncErr) (hdr : List Word) :
    Touch 135187 s (State.aer s k hdr) := by
  unfold State.aer
  repeat' first
    | (with_reducible intro x; with_reducible refine Touch.cutP (m := 135187) (s := s) (x := x) (fun hx => ?_) ?_; (clear_value x; rotate_left; subst x))
    | with_reducible apply Touch.refl
    | with_reducible assumption
    | ((with_reducible apply Touch.then ?_ (State.detect_touch _ _ _ _ _) ?_); rotate_left; decide)
    | ((with_reducible apply Touch.then ?_ (State.aerCor_touch _ _) ?_); rotate_left; decide)
    | ((with_reducible apply Touch.then ?_ (State.used_touch _) ?_); rotate_left; decide)
    | fail_if_no_progress ((with_reducible apply Touch.set_host); rotate_left; decide)
    | apply Touch.ite

theorem State.hostReadErr_touch (s : State) (e : Nat) :
    Touch 135187 s (State.hostReadErr s e) := by
  unfold State.hostReadErr
  repeat' first
    | with_reducible apply Touch.refl
    | ((with_reducible apply Touch.then ?_ (State.aer_touch _ _ _) ?_); rotate_left; decide)
    | ((with_reducible apply Touch.then ?_ (State.used_touch _) ?_); rotate_left; decide)
    | apply Touch.ite

theorem State.abortRead_touch (s : State) (addr len : Nat) :
    Touch 135187 s (State.abortRead s addr len) := by
  unfold State.abortRead
  repeat' first
    | with_reducible apply Touch.refl
    | ((with_reducible apply Touch.then ?_ (State.aer_touch _ _ _) ?_); rotate_left; decide)
    | ((with_reducible apply Touch.then ?_ (State.reply_touch _ _) ?_); rotate_left; decide)

theorem State.refusedBit_touch (s : State) (bar addr st : Nat) :
    Touch 131091 s (State.refusedBit s bar addr st) := by
  unfold State.refusedBit
  repeat' first
    | with_reducible apply Touch.refl
    | ((with_reducible apply Touch.then ?_ (State.hostErr_touch _ _ _ _ _) ?_); rotate_left; decide)
    | apply Touch.ite

theorem State.hostAnswer_touch (s : State) (bar addr len : Nat) (read : Bool) (st : Nat) (bs : List Byte) :
    Touch 135187 s (State.hostAnswer s bar addr len read st bs) := by
  unfold State.hostAnswer
  repeat' first
    | (with_reducible intro x; with_reducible refine Touch.cutP (m := 135187) (s := s) (x := x) (fun hx => ?_) ?_; (clear_value x; rotate_left; subst x))
    | with_reducible apply Touch.refl
    | with_reducible assumption
    | ((with_reducible apply Touch.then ?_ (State.hostErr_touch _ _ _ _ _) ?_); rotate_left; decide)
    | ((with_reducible apply Touch.then ?_ (State.abortRead_touch _ _ _) ?_); rotate_left; decide)
    | ((with_reducible apply Touch.then ?_ (State.reply_touch _ _) ?_); rotate_left; decide)
    | apply Touch.ite

theorem State.toHost_touch (s : State) (c : CmdId) (bs : List Byte) :
    Touch 1024 s (State.toHost s c bs) := by
  unfold State.toHost
  repeat' first
    | with_reducible apply Touch.refl
    | fail_if_no_progress ((with_reducible apply Touch.set_mbx); rotate_left; decide)

theorem State.sendResponse_touch (s : State) (p : NocPkt) :
    Touch 2048 s (State.sendResponse s p) := by
  unfold State.sendResponse
  repeat' first
    | with_reducible apply Touch.refl
    | fail_if_no_progress ((with_reducible apply Touch.set_noc); rotate_left; decide)
    | split

theorem State.answerPkt_touch (s : State) (p : NocPkt) (st : Nat) (data : List Dword) :
    Touch 2048 s (State.answerPkt s p st data) := by
  unfold State.answerPkt
  repeat' first
    | with_reducible apply Touch.refl
    | fail_if_no_progress ((with_reducible apply Touch.set_noc); rotate_left; decide)
    | split
    | apply Touch.ite

theorem State.answerBank_touch (s : State) (r : BankReq) (st : Nat) :
    Touch 146483 s (State.answerBank s r st) := by
  unfold State.answerBank
  repeat' first
    | (with_reducible intro (x : Mem); subst x)
    | with_reducible apply Touch.refl
    | ((with_reducible apply Touch.then ?_ (State.hostAnswer_touch _ _ _ _ _ _ _) ?_); rotate_left; decide)
    | ((with_reducible apply Touch.then ?_ (State.complete_touch _ _ _ _ _ _) ?_); rotate_left; decide)
    | ((with_reducible apply Touch.then ?_ (State.answerPkt_touch _ _ _ _) ?_); rotate_left; decide)
    | ((with_reducible apply Touch.then ?_ (State.toHost_touch _ _ _) ?_); rotate_left; decide)
    | fail_if_no_progress ((with_reducible apply Touch.set_dma); rotate_left; decide)
    | fail_if_no_progress ((with_reducible apply Touch.set_mem); rotate_left; decide; (refine Memory.wf_of ?_ ?_ ?_ ?_ <;> intro h <;> first | with_reducible exact h | with_reducible exact NMap.wf_keep _ _ _ h | with_reducible exact NMap.wf_setAll _ _ _ h | with_reducible exact NMap.wf_setAll _ _ _ (NMap.wf_keep _ _ _ h) | exact h | exact NMap.wf_set _ _ _ _ h | exact NMap.wf_keep _ _ _ h))
    | split

end Sys2Proof.Machine
end

