-- ==== Sys2Proof/Laws/TouchSteps.lean ====
section
/-! SUPPORT. Frames by parts: what step words, arrivals and Echo recording change. Each lemma gives the mask of the parts that an operation may change (Touch); registers
and memories stay canonical. -/

namespace Sys2Proof.Machine

set_option linter.all false
set_option linter.unusedTactic false
set_option linter.unreachableTactic false
set_option linter.tactic.unusedName false

/-! BpOps -/

theorem State.dmRead_touch (s : State) (c w : Nat) (a : DmAgent) (step : Nat) :
    Touch 131131 s (State.dmRead s c w a step).2.2 := by
  unfold State.dmRead
  repeat' first
    | (with_reducible intro x; with_reducible refine Touch.cutP (m := 131131) (s := s) (x := x) (fun hx => ?_) ?_; (clear_value x; rotate_left; subst x))
    | (with_reducible intro (x : Mem); subst x)
    | with_reducible apply Touch.refl
    | with_reducible assumption
    | ((with_reducible apply Touch.then ?_ (State.recordDm_touch _ _ _ _ _ _ _) ?_); rotate_left; decide)
    | ((with_reducible apply Touch.then ?_ (State.bump_touch _ _ _ _) ?_); rotate_left; decide)
    | fail_if_no_progress ((with_reducible apply Touch.set_mem); rotate_left; decide; (refine Memory.wf_of ?_ ?_ ?_ ?_ <;> intro h <;> first | with_reducible exact h | with_reducible exact NMap.wf_keep _ _ _ h | with_reducible exact NMap.wf_setAll _ _ _ h | with_reducible exact NMap.wf_setAll _ _ _ (NMap.wf_keep _ _ _ h) | exact h | exact NMap.wf_set _ _ _ _ h | exact NMap.wf_keep _ _ _ h))
    | split

theorem State.dmCommit_touch (s : State) (c w : Nat) (d : Dword) :
    Touch 131107 s (State.dmCommit s c w d) := by
  unfold State.dmCommit
  repeat' first
    | (with_reducible intro x; with_reducible refine Touch.cutP (m := 131107) (s := s) (x := x) (fun hx => ?_) ?_; (clear_value x; rotate_left; subst x))
    | (with_reducible intro (x : Mem); subst x)
    | with_reducible apply Touch.refl
    | with_reducible assumption
    | ((with_reducible apply Touch.then ?_ (State.useArmed_touch _ _ _ _) ?_); rotate_left; decide)
    | ((with_reducible apply Touch.then ?_ (State.dmStore_touch _ _ _ _) ?_); rotate_left; decide)
    | fail_if_no_progress ((with_reducible apply Touch.set_mem); rotate_left; decide; (refine Memory.wf_of ?_ ?_ ?_ ?_ <;> intro h <;> first | with_reducible exact h | with_reducible exact NMap.wf_keep _ _ _ h | with_reducible exact NMap.wf_setAll _ _ _ h | with_reducible exact NMap.wf_setAll _ _ _ (NMap.wf_keep _ _ _ h) | exact h | exact NMap.wf_set _ _ _ _ h | exact NMap.wf_keep _ _ _ h))
    | apply Touch.ite

theorem State.dmWrite_touch (s : State) (c w : Nat) (mask : BitVec 8) (d : Dword) (a : DmAgent) (step : Nat) :
    Touch 131131 s (State.dmWrite s c w mask d a step) := by
  unfold State.dmWrite
  repeat' first
    | (with_reducible intro x; with_reducible refine Touch.cutP (m := 131131) (s := s) (x := x.2.2) (fun hx => ?_) ?_; (clear_value x; rotate_left; subst x))
    | with_reducible apply Touch.refl
    | with_reducible assumption
    | ((with_reducible apply Touch.then ?_ (State.dmRead_touch _ _ _ _ _) ?_); rotate_left; decide)
    | ((with_reducible apply Touch.then ?_ (State.dmCommit_touch _ _ _ _) ?_); rotate_left; decide)
    | apply Touch.ite

theorem State.dmAtomic_touch (s : State) (c w : Nat) (swap : Bool) (d : Dword) (a : DmAgent) (step : Nat) :
    Touch 131131 s (State.dmAtomic s c w swap d a step).2.2 := by
  unfold State.dmAtomic
  repeat' first
    | (with_reducible intro x; with_reducible refine Touch.cutP (m := 131131) (s := s) (x := x.2.2) (fun hx => ?_) ?_; (clear_value x; rotate_left; subst x))
    | with_reducible apply Touch.refl
    | with_reducible assumption
    | ((with_reducible apply Touch.then ?_ (State.dmRead_touch _ _ _ _ _) ?_); rotate_left; decide)
    | ((with_reducible apply Touch.then ?_ (State.dmCommit_touch _ _ _ _) ?_); rotate_left; decide)
    | apply Touch.ite

theorem State.checkAccess_touch (s : State) (b : Nat) (deep : Bool) (en : Nv) :
    Touch 131091 s (State.checkAccess s b deep en).2 := by
  unfold State.checkAccess
  repeat' first
    | (with_reducible intro x; subst x)
    | with_reducible lift_lets -underBinder
    | with_reducible apply Touch.refl
    | with_reducible assumption
    | with_reducible apply Touch.ite
    | ((with_reducible apply Touch.then ?_ (State.recordDm_touch _ _ _ _ _ _ _) ?_); rotate_left; decide)
    | ((with_reducible apply Touch.then ?_ (State.record_touch _ _ _ _) ?_); rotate_left; decide)
    | split
    | apply Touch.ite

theorem State.deliver_touch (s : State) (c step lat : Nat) (f : Nat → Nv) :
    Touch 8 s (State.deliver s c step lat f) := by
  unfold State.deliver
  repeat' first
    | with_reducible intro accT accX
    | with_reducible apply Touch.refl
    | ((with_reducible apply Touch.then ?_ (State.launch_touch _ _ _ _ _ _) ?_); rotate_left; decide)
    | with_reducible apply Touch.foldl'

theorem State.claimChamber_touch (s : State) (b : Nat) (bank : Bool) :
    Touch 131099 s (State.claimChamber s b bank).2 := by
  unfold State.claimChamber
  repeat' first
    | (with_reducible intro x; subst x)
    | with_reducible lift_lets -underBinder
    | with_reducible apply Touch.refl
    | with_reducible assumption
    | with_reducible apply Touch.ite
    | ((with_reducible apply Touch.then ?_ (State.record_touch _ _ _ _) ?_); rotate_left; decide)
    | fail_if_no_progress ((with_reducible apply Touch.set_fab); rotate_left; decide)
    | split
    | apply Touch.ite

theorem State.xdata_touch (s : State) (b : Nat) (x : Bool) :
    Touch 131091 s (State.xdata s b x) := by
  unfold State.xdata
  repeat' first
    | with_reducible apply Touch.refl
    | ((with_reducible apply Touch.then ?_ (State.record_touch _ _ _ _) ?_); rotate_left; decide)
    | apply Touch.ite

theorem opMrd_touch (s : State) (b : Nat) (en : Nv) :
    Touch 131131 s (opMrd s b en) := by
  unfold opMrd
  repeat' first
    | (with_reducible intro x; with_reducible refine Touch.cutP (m := 131131) (s := s) (x := x.2) (fun hx => ?_) ?_; (clear_value x; rotate_left; subst x))
    | (with_reducible intro x; with_reducible refine Touch.cutP (m := 131131) (s := s) (x := x.2.2) (fun hx => ?_) ?_; (clear_value x; rotate_left; subst x))
    | with_reducible lift_lets -underBinder
    | with_reducible apply Touch.refl
    | with_reducible assumption
    | with_reducible apply Touch.ite
    | ((with_reducible apply Touch.then ?_ (State.dmRead_touch _ _ _ _ _) ?_); rotate_left; decide)
    | ((with_reducible apply Touch.then ?_ (State.checkAccess_touch _ _ _ _) ?_); rotate_left; decide)
    | ((with_reducible apply Touch.then ?_ (State.claimChamber_touch _ _ _) ?_); rotate_left; decide)
    | ((with_reducible apply Touch.then ?_ (State.deliver_touch _ _ _ _ _) ?_); rotate_left; decide)
    | split

theorem opMwr_touch (s : State) (b : Nat) (mask : BitVec 8) (en : Nv) :
    Touch 131131 s (opMwr s b mask en) := by
  unfold opMwr
  repeat' first
    | (with_reducible intro x; with_reducible refine Touch.cutP (m := 131131) (s := s) (x := x.2) (fun hx => ?_) ?_; (clear_value x; rotate_left; subst x))
    | with_reducible lift_lets -underBinder
    | with_reducible apply Touch.refl
    | with_reducible assumption
    | ((with_reducible apply Touch.then ?_ (State.checkAccess_touch _ _ _ _) ?_); rotate_left; decide)
    | ((with_reducible apply Touch.then ?_ (State.dmWrite_touch _ _ _ _ _ _ _) ?_); rotate_left; decide)
    | ((with_reducible apply Touch.then ?_ (State.claimChamber_touch _ _ _) ?_); rotate_left; decide)
    | ((with_reducible apply Touch.then ?_ (State.xdata_touch _ _ _) ?_); rotate_left; decide)
    | split

theorem opMatom_touch (s : State) (b : Nat) (swap : Bool) (en : Nv) :
    Touch 131131 s (opMatom s b swap en) := by
  unfold opMatom
  repeat' first
    | (with_reducible intro x; with_reducible refine Touch.cutP (m := 131131) (s := s) (x := x.2) (fun hx => ?_) ?_; (clear_value x; rotate_left; subst x))
    | (with_reducible intro x; with_reducible refine Touch.cutP (m := 131131) (s := s) (x := x.2.2) (fun hx => ?_) ?_; (clear_value x; rotate_left; subst x))
    | with_reducible lift_lets -underBinder
    | with_reducible apply Touch.refl
    | with_reducible assumption
    | with_reducible apply Touch.ite
    | ((with_reducible apply Touch.then ?_ (State.checkAccess_touch _ _ _ _) ?_); rotate_left; decide)
    | ((with_reducible apply Touch.then ?_ (State.dmAtomic_touch _ _ _ _ _ _ _) ?_); rotate_left; decide)
    | ((with_reducible apply Touch.then ?_ (State.claimChamber_touch _ _ _) ?_); rotate_left; decide)
    | ((with_reducible apply Touch.then ?_ (State.deliver_touch _ _ _ _ _) ?_); rotate_left; decide)
    | ((with_reducible apply Touch.then ?_ (State.xdata_touch _ _ _) ?_); rotate_left; decide)
    | split

theorem opMdeeprd_touch (s : State) (b : Nat) (en : Nv) :
    Touch 131099 s (opMdeeprd s b en) := by
  unfold opMdeeprd
  repeat' first
    | (with_reducible intro x; with_reducible refine Touch.cutP (m := 131099) (s := s) (x := x) (fun hx => ?_) ?_; (clear_value x; rotate_left; subst x))
    | (with_reducible intro x; with_reducible refine Touch.cutP (m := 131099) (s := s) (x := x.2) (fun hx => ?_) ?_; (clear_value x; rotate_left; subst x))
    | with_reducible lift_lets -underBinder
    | with_reducible apply Touch.refl
    | with_reducible assumption
    | with_reducible apply Touch.ite
    | ((with_reducible apply Touch.then ?_ (State.checkAccess_touch _ _ _ _) ?_); rotate_left; decide)
    | ((with_reducible apply Touch.then ?_ (State.claimChamber_touch _ _ _) ?_); rotate_left; decide)
    | ((with_reducible apply Touch.then ?_ (State.deliver_touch _ _ _ _ _) ?_); rotate_left; decide)
    | fail_if_no_progress ((with_reducible apply Touch.set_fab); rotate_left; decide)
    | split

theorem opMdeepwr_touch (s : State) (b : Nat) (mask : BitVec 8) (en : Nv) :
    Touch 131099 s (opMdeepwr s b mask en) := by
  unfold opMdeepwr
  repeat' first
    | (with_reducible intro x; with_reducible refine Touch.cutP (m := 131099) (s := s) (x := x) (fun hx => ?_) ?_; (clear_value x; rotate_left; subst x))
    | (with_reducible intro x; with_reducible refine Touch.cutP (m := 131099) (s := s) (x := x.2) (fun hx => ?_) ?_; (clear_value x; rotate_left; subst x))
    | with_reducible lift_lets -underBinder
    | with_reducible apply Touch.refl
    | with_reducible assumption
    | ((with_reducible apply Touch.then ?_ (State.checkAccess_touch _ _ _ _) ?_); rotate_left; decide)
    | ((with_reducible apply Touch.then ?_ (State.claimChamber_touch _ _ _) ?_); rotate_left; decide)
    | ((with_reducible apply Touch.then ?_ (State.xdata_touch _ _ _) ?_); rotate_left; decide)
    | fail_if_no_progress ((with_reducible apply Touch.set_fab); rotate_left; decide)
    | split

theorem opPinout_touch (s : State) (pin : Nat) (a : Nv) :
    Touch 128 s (opPinout s pin a) := by
  unfold opPinout
  repeat' first
    | with_reducible apply Touch.refl
    | fail_if_no_progress ((with_reducible apply Touch.set_rim); rotate_left; decide)

theorem opPinin_touch (s : State) (b pin : Nat) :
    Touch 8 s (opPinin s b pin) := by
  unfold opPinin
  repeat' first
    | with_reducible apply Touch.refl
    | ((with_reducible apply Touch.then ?_ (State.launch_touch _ _ _ _ _ _) ?_); rotate_left; decide)

theorem State.pushAssert_touch (s : State) (b : Nat) (act : AssertAct) (a : Nv) :
    Touch 131099 s (State.pushAssert s b act a) := by
  unfold State.pushAssert
  repeat' first
    | (with_reducible intro x; with_reducible refine Touch.cutP (m := 131099) (s := s) (x := x) (fun hx => ?_) ?_; (clear_value x; rotate_left; subst x))
    | with_reducible apply Touch.refl
    | with_reducible assumption
    | ((with_reducible apply Touch.then ?_ (State.record_touch _ _ _ _) ?_); rotate_left; decide)
    | ((with_reducible apply Touch.then ?_ (State.bump_touch _ _ _ _) ?_); rotate_left; decide)
    | fail_if_no_progress ((with_reducible apply Touch.set_fab); rotate_left; decide)
    | apply Touch.ite

theorem opAssert_touch (s : State) (b : Nat) (act : AssertAct) (a : Nv) :
    Touch 147547 s (opAssert s b act a) := by
  unfold opAssert
  repeat' first
    | (with_reducible intro x; with_reducible refine Touch.cutP (m := 147547) (s := s) (x := x) (fun hx => ?_) ?_; (clear_value x; rotate_left; subst x))
    | with_reducible apply Touch.refl
    | with_reducible assumption
    | ((with_reducible apply Touch.then ?_ (State.pushAssert_touch _ _ _ _) ?_); rotate_left; decide)
    | ((with_reducible apply Touch.then ?_ (State.cicEvent_touch _ _) ?_); rotate_left; decide)
    | ((with_reducible apply Touch.then ?_ (State.haltAtEnd_touch _) ?_); rotate_left; decide)
    | fail_if_no_progress ((with_reducible apply Touch.set_fab_echo); rotate_left; decide; decide)
    | apply Touch.ite

theorem opTrig_touch (s : State) (b leaf : Nat) (a : Nv) :
    Touch 8 s (opTrig s b leaf a) := by
  unfold opTrig
  repeat' first
    | with_reducible apply Touch.refl
    | fail_if_no_progress ((with_reducible apply Touch.set_fab); rotate_left; decide)
    | apply Touch.ite

theorem opConst_touch (s : State) (b : Nat) (c : ConstSel) :
    Touch 8 s (opConst s b c).2 := by
  unfold opConst
  repeat' first
    | with_reducible apply Touch.refl
    | fail_if_no_progress ((with_reducible apply Touch.set_fab); rotate_left; decide)
    | split

theorem State.contention_touch (s : State) (b : Nat) (act : BusAction) (hit : Bool) :
    Touch 180243 s (State.contention s b act hit) := by
  unfold State.contention
  repeat' first
    | with_reducible apply Touch.refl
    | ((with_reducible apply Touch.then ?_ (State.record_touch _ _ _ _) ?_); rotate_left; decide)
    | ((with_reducible apply Touch.then ?_ (State.cicEvent_touch _ _) ?_); rotate_left; decide)
    | ((with_reducible apply Touch.then ?_ (State.haltAtEnd_touch _) ?_); rotate_left; decide)
    | ((with_reducible apply Touch.then ?_ (State.wardenPend_touch _ _ _) ?_); rotate_left; decide)
    | split

theorem State.evalWith_touch (s : State) (b : Nat) (fn : BitVec 8) (os : List Operand) (exact : Bool) :
    Touch 131099 s (State.evalWith s b fn os exact).2 := by
  unfold State.evalWith
  repeat' first
    | (with_reducible intro x; with_reducible refine Touch.cutP (m := 131099) (s := s) (x := x.2) (fun hx => ?_) ?_; (clear_value x; rotate_left; subst x))
    | with_reducible lift_lets -underBinder
    | with_reducible apply Touch.refl
    | with_reducible assumption
    | ((with_reducible apply Touch.then ?_ (State.readTable_touch _ _ _) ?_); rotate_left; decide)
    | ((with_reducible apply Touch.then ?_ (State.readAll_touch _ _ _) ?_); rotate_left; decide)
    | split

theorem State.opResolve_touch (s : State) (b : Nat) (start : Bool) (p : Pull) (act : BusAction) (x y : Operand) (d1 : Option (Operand × Operand)) :
    Touch 181275 s (State.opResolve s b start p act x y d1).2 := by
  unfold State.opResolve
  repeat' first
    | (with_reducible intro x; with_reducible refine Touch.cutP (m := 181275) (s := s) (x := x.2) (fun hx => ?_) ?_; (clear_value x; rotate_left; subst x))
    | with_reducible apply Touch.refl
    | with_reducible assumption
    | ((with_reducible apply Touch.then ?_ (State.contention_touch _ _ _ _) ?_); rotate_left; decide)
    | ((with_reducible apply Touch.then ?_ (State.readOpnd_touch _ _ _) ?_); rotate_left; decide)
    | split

theorem State.runOp_touch (s : State) (b : Nat) (op : StepOp) :
    Touch 181499 s (State.runOp s b op).2 := by
  unfold State.runOp
  repeat' first
    | (with_reducible intro x; with_reducible refine Touch.cutP (m := 181499) (s := s) (x := x.2) (fun hx => ?_) ?_; (clear_value x; rotate_left; subst x))
    | with_reducible apply Touch.refl
    | with_reducible assumption
    | ((with_reducible apply Touch.then ?_ (opMatom_touch _ _ _ _) ?_); rotate_left; decide)
    | ((with_reducible apply Touch.then ?_ (opMrd_touch _ _ _) ?_); rotate_left; decide)
    | ((with_reducible apply Touch.then ?_ (opMwr_touch _ _ _ _) ?_); rotate_left; decide)
    | ((with_reducible apply Touch.then ?_ (State.opResolve_touch _ _ _ _ _ _ _ _) ?_); rotate_left; decide)
    | ((with_reducible apply Touch.then ?_ (opAssert_touch _ _ _ _) ?_); rotate_left; decide)
    | ((with_reducible apply Touch.then ?_ (opMdeeprd_touch _ _ _) ?_); rotate_left; decide)
    | ((with_reducible apply Touch.then ?_ (opMdeepwr_touch _ _ _ _) ?_); rotate_left; decide)
    | ((with_reducible apply Touch.then ?_ (State.evalWith_touch _ _ _ _ _) ?_); rotate_left; decide)
    | ((with_reducible apply Touch.then ?_ (State.readOpnd_touch _ _ _) ?_); rotate_left; decide)
    | ((with_reducible apply Touch.then ?_ (opPinin_touch _ _ _) ?_); rotate_left; decide)
    | ((with_reducible apply Touch.then ?_ (opConst_touch _ _ _) ?_); rotate_left; decide)
    | ((with_reducible apply Touch.then ?_ (opPinout_touch _ _ _) ?_); rotate_left; decide)
    | ((with_reducible apply Touch.then ?_ (opTrig_touch _ _ _ _) ?_); rotate_left; decide)
    | unfold State.withA
    | split

theorem State.deposit_touch (s : State) (b : Nat) (op : StepOp) (r : Nv) :
    Touch 9 s (State.deposit s b op r) := by
  unfold State.deposit
  repeat' first
    | with_reducible apply Touch.refl
    | fail_if_no_progress ((with_reducible apply Touch.set_fab); rotate_left; decide)
    | split

theorem State.captureBit_touch (s : State) (b : Nat) (r : Nv) :
    Touch 8 s (State.captureBit s b r) := by
  unfold State.captureBit
  repeat' first
    | with_reducible apply Touch.refl
    | fail_if_no_progress ((with_reducible apply Touch.set_fab); rotate_left; decide)

theorem State.finish_touch (s : State) (b : Nat) (w : StepWord) (r : Nv) :
    Touch 131419 s (State.finish s b w r) := by
  unfold State.finish
  repeat' first
    | (with_reducible intro x; with_reducible refine Touch.cutP (m := 131419) (s := s) (x := x) (fun hx => ?_) ?_; (clear_value x; rotate_left; subst x))
    | (with_reducible intro x; with_reducible refine Touch.cutP (m := 131419) (s := s) (x := x.2) (fun hx => ?_) ?_; (clear_value x; rotate_left; subst x))
    | with_reducible apply Touch.refl
    | with_reducible assumption
    | ((with_reducible apply Touch.then ?_ (State.send_touch _ _ _) ?_); rotate_left; decide)
    | ((with_reducible apply Touch.then ?_ (State.deposit_touch _ _ _ _) ?_); rotate_left; decide)
    | ((with_reducible apply Touch.then ?_ (State.applyForce_touch _ _ _ _) ?_); rotate_left; decide)
    | ((with_reducible apply Touch.then ?_ (State.captureBit_touch _ _ _) ?_); rotate_left; decide)
    | ((with_reducible apply Touch.then ?_ (State.writeCur_touch _ _ _ _) ?_); rotate_left; decide)
    | fail_if_no_progress ((with_reducible apply Touch.set_fab); rotate_left; decide)
    | apply Touch.ite

theorem State.runWord_touch (s : State) (b : Nat) (w : StepWord) :
    Touch 181755 s (State.runWord s b w) := by
  unfold State.runWord
  repeat' first
    | (with_reducible intro x; with_reducible refine Touch.cutP (m := 181755) (s := s) (x := x.2) (fun hx => ?_) ?_; (clear_value x; rotate_left; subst x))
    | with_reducible apply Touch.refl
    | with_reducible assumption
    | ((with_reducible apply Touch.then ?_ (State.runOp_touch _ _ _) ?_); rotate_left; decide)
    | ((with_reducible apply Touch.then ?_ (State.finish_touch _ _ _ _) ?_); rotate_left; decide)

/-! BpRows -/

theorem State.useFlag_touch (s : State) (b : Nat) (op : StepOp) :
    Touch 16 s (State.useFlag s b op) := by
  unfold State.useFlag
  repeat' first
    | with_reducible apply Touch.refl
    | fail_if_no_progress ((with_reducible apply Touch.set_sched); rotate_left; decide)
    | split

theorem State.oneWord_touch (s : State) (b : Nat) (op : StepOp) (m : Marks) :
    OutTouch 247291 s (State.oneWord s b op m) := by
  unfold State.oneWord
  repeat' first
    | with_reducible apply Touch.refl
    | with_reducible apply OutTouch.next
    | with_reducible exact OutTouch.fault
    | ((with_reducible apply Touch.then ?_ (State.hold_touch _ _ _) ?_); rotate_left; decide)
    | ((with_reducible apply Touch.then ?_ (State.runWord_touch _ _ _) ?_); rotate_left; decide)
    | ((with_reducible apply Touch.then ?_ (State.useFlag_touch _ _ _) ?_); rotate_left; decide)
    | apply OutTouch.ite

theorem execNop_touch (b : Bp) (m : Marks) (s : State) :
    OutTouch 247291 s (execNop b m s) := by
  unfold execNop
  repeat' first
    | ((with_reducible apply OutTouch.mono (State.oneWord_touch _ _ _ _) ?_); decide)

theorem execEval_touch (b : Bp) (fn : BitVec 8) (x y z u : Operand) (m : Marks) (s : State) :
    OutTouch 247291 s (execEval b fn x y z u m s) := by
  unfold execEval
  repeat' first
    | ((with_reducible apply OutTouch.mono (State.oneWord_touch _ _ _ _) ?_); decide)

theorem execEvalx_touch (b : Bp) (fn : BitVec 8) (x y z u : Operand) (m : Marks) (s : State) :
    OutTouch 247291 s (execEvalx b fn x y z u m s) := by
  unfold execEvalx
  repeat' first
    | ((with_reducible apply OutTouch.mono (State.oneWord_touch _ _ _ _) ?_); decide)

theorem execResolve_touch (b : Bp) (st : Bool) (p : Pull) (act : BusAction) (x y : Operand) (d1 : Option (Operand × Operand)) (m : Marks) (s : State) :
    OutTouch 247291 s (execResolve b st p act x y d1 m s) := by
  unfold execResolve
  repeat' first
    | ((with_reducible apply OutTouch.mono (State.oneWord_touch _ _ _ _) ?_); decide)

theorem execMaddr_touch (b : Bp) (fn : BitVec 8) (x y z u : Operand) (m : Marks) (s : State) :
    OutTouch 247291 s (execMaddr b fn x y z u m s) := by
  unfold execMaddr
  repeat' first
    | ((with_reducible apply OutTouch.mono (State.oneWord_touch _ _ _ _) ?_); decide)

theorem execMwdat_touch (b : Bp) (fn : BitVec 8) (x y z u : Operand) (m : Marks) (s : State) :
    OutTouch 247291 s (execMwdat b fn x y z u m s) := by
  unfold execMwdat
  repeat' first
    | ((with_reducible apply OutTouch.mono (State.oneWord_touch _ _ _ _) ?_); decide)

theorem execMrd_touch (b : Bp) (en : Operand) (m : Marks) (s : State) :
    OutTouch 247291 s (execMrd b en m s) := by
  unfold execMrd
  repeat' first
    | ((with_reducible apply OutTouch.mono (State.oneWord_touch _ _ _ _) ?_); decide)

theorem execMwr_touch (b : Bp) (mask : BitVec 8) (en : Operand) (m : Marks) (s : State) :
    OutTouch 247291 s (execMwr b mask en m s) := by
  unfold execMwr
  repeat' first
    | ((with_reducible apply OutTouch.mono (State.oneWord_touch _ _ _ _) ?_); decide)

theorem execMatom_touch (b : Bp) (swap : Bool) (en : Operand) (m : Marks) (s : State) :
    OutTouch 247291 s (execMatom b swap en m s) := by
  unfold execMatom
  repeat' first
    | ((with_reducible apply OutTouch.mono (State.oneWord_touch _ _ _ _) ?_); decide)

theorem execMdeeprd_touch (b : Bp) (en : Operand) (m : Marks) (s : State) :
    OutTouch 247291 s (execMdeeprd b en m s) := by
  unfold execMdeeprd
  repeat' first
    | ((with_reducible apply OutTouch.mono (State.oneWord_touch _ _ _ _) ?_); decide)

theorem execMdeepwr_touch (b : Bp) (mask : BitVec 8) (en : Operand) (m : Marks) (s : State) :
    OutTouch 247291 s (execMdeepwr b mask en m s) := by
  unfold execMdeepwr
  repeat' first
    | ((with_reducible apply OutTouch.mono (State.oneWord_touch _ _ _ _) ?_); decide)

theorem execPinin_touch (b : Bp) (pin : Fin 192) (m : Marks) (s : State) :
    OutTouch 247291 s (execPinin b pin m s) := by
  unfold execPinin
  repeat' first
    | ((with_reducible apply OutTouch.mono (State.oneWord_touch _ _ _ _) ?_); decide)

theorem execPinout_touch (b : Bp) (pin : Fin 192) (x : Operand) (m : Marks) (s : State) :
    OutTouch 247291 s (execPinout b pin x m s) := by
  unfold execPinout
  repeat' first
    | ((with_reducible apply OutTouch.mono (State.oneWord_touch _ _ _ _) ?_); decide)

theorem execAssert_touch (b : Bp) (act : AssertAct) (x : Operand) (m : Marks) (s : State) :
    OutTouch 247291 s (execAssert b act x m s) := by
  unfold execAssert
  repeat' first
    | ((with_reducible apply OutTouch.mono (State.oneWord_touch _ _ _ _) ?_); decide)

theorem execTrig_touch (b : Bp) (leaf : Fin 64) (x : Operand) (m : Marks) (s : State) :
    OutTouch 247291 s (execTrig b leaf x m s) := by
  unfold execTrig
  repeat' first
    | ((with_reducible apply OutTouch.mono (State.oneWord_touch _ _ _ _) ?_); decide)

theorem execSync_touch (b : Bp) (bar : Fin 16) (m : Marks) (s : State) :
    OutTouch 247291 s (execSync b bar m s) := by
  unfold execSync
  repeat' first
    | ((with_reducible apply OutTouch.mono (State.oneWord_touch _ _ _ _) ?_); decide)

theorem execConst_touch (b : Bp) (sel : ConstSel) (m : Marks) (s : State) :
    OutTouch 247291 s (execConst b sel m s) := by
  unfold execConst
  repeat' first
    | ((with_reducible apply OutTouch.mono (State.oneWord_touch _ _ _ _) ?_); decide)

theorem State.recordFetch_touch (s : State) (f : Fetched) :
    Touch 131091 s (State.recordFetch s f) := by
  unfold State.recordFetch
  repeat' first
    | (with_reducible intro x; with_reducible refine Touch.cutP (m := 131091) (s := s) (x := x) (fun hx => ?_) ?_; (clear_value x; rotate_left; subst x))
    | (with_reducible intro x; subst x)
    | with_reducible lift_lets -underBinder
    | with_reducible apply Touch.refl
    | with_reducible assumption
    | with_reducible apply Touch.ite
    | ((with_reducible apply Touch.then ?_ (State.record_touch _ _ _ _) ?_); rotate_left; decide)
    | ((with_reducible apply Touch.then ?_ (State.useArmed_touch _ _ _ _) ?_); rotate_left; decide)
    | ((with_reducible apply Touch.then ?_ (State.bump_touch _ _ _ _) ?_); rotate_left; decide)
    | split
    | apply Touch.ite

theorem State.frameParity_touch (s : State) (p f : Nat) :
    Touch 131091 s (State.frameParity s p f) := by
  unfold State.frameParity
  repeat' first
    | with_reducible apply Touch.refl
    | ((with_reducible apply Touch.then ?_ (State.recordPsg_touch _ _ _ _) ?_); rotate_left; decide)
    | apply Touch.ite

theorem State.departFlits_touch (s : State) :
    Touch 131347 s (State.departFlits s) := by
  unfold State.departFlits
  repeat' first
    | (with_reducible intro x; with_reducible refine Touch.cutP (m := 131347) (s := accT) (x := x) (fun hx => ?_) ?_; (clear_value x; rotate_left; subst x))
    | (with_reducible intro x; with_reducible refine Touch.cutP (m := 131347) (s := s) (x := x) (fun hx => ?_) ?_; (clear_value x; rotate_left; subst x))
    | with_reducible intro accT accX
    | with_reducible apply Touch.refl
    | with_reducible assumption
    | ((with_reducible apply Touch.then ?_ (State.frameParity_touch _ _ _) ?_); rotate_left; decide)
    | fail_if_no_progress ((with_reducible apply Touch.set_psg); rotate_left; decide)
    | with_reducible apply Touch.foldl'

theorem State.issueStep_touch (s : State) (fs : List Fetched) (ws : List (Nat × StepWord)) :
    Touch 247291 s (State.issueStep s fs ws) := by
  unfold State.issueStep
  repeat' first
    | (with_reducible intro x; with_reducible refine Touch.cutP (m := 247291) (s := s) (x := x) (fun hx => ?_) ?_; (clear_value x; rotate_left; subst x))
    | with_reducible intro accT accX
    | with_reducible apply Touch.refl
    | with_reducible assumption
    | ((with_reducible apply Touch.then ?_ (State.elapse_touch _) ?_); rotate_left; decide)
    | ((with_reducible apply Touch.then ?_ (State.recordFetch_touch _ _) ?_); rotate_left; decide)
    | ((with_reducible apply Touch.then ?_ (State.replay_touch _ _) ?_); rotate_left; decide)
    | ((with_reducible apply Touch.then ?_ (State.runWord_touch _ _ _) ?_); rotate_left; decide)
    | ((with_reducible apply Touch.then ?_ (State.departFlits_touch _) ?_); rotate_left; decide)
    | ((with_reducible apply Touch.then ?_ (State.endHold_touch _) ?_); rotate_left; decide)
    | ((with_reducible apply Touch.then ?_ (State.useFlag_touch _ _ _) ?_); rotate_left; decide)
    | fail_if_no_progress ((with_reducible apply Touch.set_fab); rotate_left; decide)
    | fail_if_no_progress ((with_reducible apply Touch.set_sched); rotate_left; decide)
    | with_reducible apply Touch.foldl'
    | apply Touch.ite

theorem execStepIssue_touch (s : State) :
    OutTouch 247291 s (execStepIssue s) := by
  unfold execStepIssue
  repeat' first
    | with_reducible lift_lets -underBinder
    | with_reducible apply Touch.refl
    | with_reducible apply OutTouch.ite
    | with_reducible apply OutTouch.next
    | with_reducible exact OutTouch.fault
    | with_reducible apply Touch.ite
    | ((with_reducible apply Touch.then ?_ (State.issueStep_touch _ _ _) ?_); rotate_left; decide)
    | ((with_reducible apply Touch.then ?_ (State.hold_touch _ _ _) ?_); rotate_left; decide)
    | split
    | apply Touch.ite
    | apply OutTouch.ite

theorem State.endWait_touch (s : State) (b off port : Nat) :
    Touch 131099 s (State.endWait s b off port) := by
  unfold State.endWait
  repeat' first
    | (with_reducible intro x; with_reducible refine Touch.cutP (m := 131099) (s := s) (x := x) (fun hx => ?_) ?_; (clear_value x; rotate_left; subst x))
    | with_reducible apply Touch.refl
    | with_reducible assumption
    | ((with_reducible apply Touch.then ?_ (State.recordSched_touch _ _ _ _ _ _) ?_); rotate_left; decide)
    | fail_if_no_progress ((with_reducible apply Touch.set_fab); rotate_left; decide)

theorem State.endSync_touch (s : State) (w : Nat × StepWord) :
    Touch 131091 s (State.endSync s w) := by
  unfold State.endSync
  repeat' first
    | with_reducible apply Touch.refl
    | ((with_reducible apply Touch.then ?_ (State.recordSched_touch _ _ _ _ _ _) ?_); rotate_left; decide)
    | apply Touch.ite

theorem State.endStepWaits_touch (s : State) (ws : List (Nat × StepWord)) :
    Touch 131099 s (State.endStepWaits s ws) := by
  unfold State.endStepWaits
  repeat' first
    | with_reducible intro accT accX
    | with_reducible apply Touch.refl
    | ((with_reducible apply Touch.then ?_ (State.endSync_touch _ _) ?_); rotate_left; decide)
    | ((with_reducible apply Touch.then ?_ (State.endWait_touch _ _ _ _) ?_); rotate_left; decide)
    | with_reducible apply Touch.foldl'

theorem State.endFlit_touch (s : State) (p f : Nat) (only : Nat × Nat → Bool) :
    Touch 131099 s (State.endFlit s p f only) := by
  unfold State.endFlit
  repeat' first
    | with_reducible intro accT accX
    | with_reducible apply Touch.refl
    | ((with_reducible apply Touch.then ?_ (State.endWait_touch _ _ _ _) ?_); rotate_left; decide)
    | with_reducible apply Touch.foldl'

theorem State.endFlipWaits_touch (s : State) :
    Touch 131099 s (State.endFlipWaits s) := by
  unfold State.endFlipWaits
  repeat' first
    | (with_reducible intro x; with_reducible refine Touch.cutP (m := 131099) (s := s) (x := x) (fun hx => ?_) ?_; (clear_value x; rotate_left; subst x))
    | with_reducible intro accT accX
    | with_reducible apply Touch.refl
    | with_reducible assumption
    | ((with_reducible apply Touch.then ?_ (State.endFlit_touch _ _ _ _) ?_); rotate_left; decide)
    | ((with_reducible apply Touch.then ?_ (State.endWait_touch _ _ _ _) ?_); rotate_left; decide)
    | with_reducible apply Touch.foldl'
    | split

theorem execHoldLimit_touch (s : State) :
    OutTouch 131099 s (execHoldLimit s) := by
  unfold execHoldLimit
  repeat' first
    | with_reducible apply Touch.refl
    | with_reducible assumption
    | with_reducible apply OutTouch.next
    | ((with_reducible apply Touch.then ?_ (State.endFlipWaits_touch _) ?_); rotate_left; decide)
    | ((with_reducible apply Touch.then ?_ (State.endStepWaits_touch _ _) ?_); rotate_left; decide)
    | ((with_reducible apply Touch.then ?_ (State.haltAtEnd_touch _) ?_); rotate_left; decide)
    | fail_if_no_progress ((with_reducible apply Touch.set_sched); rotate_left; decide)
    | split

theorem State.landDeep_touch (s : State) (o : DeepOp) :
    Touch 131195 s (State.landDeep s o) := by
  unfold State.landDeep
  repeat' first
    | (with_reducible intro x; with_reducible refine Touch.cutP (m := 131195) (s := s) (x := x) (fun hx => ?_) ?_; (clear_value x; rotate_left; subst x))
    | (with_reducible intro x; with_reducible refine Touch.cutP (m := 131195) (s := s) (x := x.2.2) (fun hx => ?_) ?_; (clear_value x; rotate_left; subst x))
    | with_reducible intro accT accX
    | with_reducible apply Touch.refl
    | with_reducible assumption
    | ((with_reducible apply Touch.then ?_ (State.land_touch _ _ _ _ _) ?_); rotate_left; decide)
    | ((with_reducible apply Touch.then ?_ (State.recordDm_touch _ _ _ _ _ _ _) ?_); rotate_left; decide)
    | ((with_reducible apply Touch.then ?_ (State.dsRead_touch _ _) ?_); rotate_left; decide)
    | ((with_reducible apply Touch.then ?_ (State.used_touch _) ?_); rotate_left; decide)
    | fail_if_no_progress ((with_reducible apply Touch.set_fab); rotate_left; decide)
    | with_reducible apply Touch.foldl'
    | apply Touch.ite

theorem execArrival_touch (b : Bp) (port : RxPort) (step : Fin 1024) (x : Nv) (s : State) :
    OutTouch 131195 s (execArrival b port step x s) := by
  unfold execArrival
  repeat' first
    | with_reducible apply Touch.refl
    | with_reducible apply OutTouch.next
    | ((with_reducible apply Touch.then ?_ (State.land_touch _ _ _ _ _) ?_); rotate_left; decide)
    | ((with_reducible apply Touch.then ?_ (State.landDeep_touch _ _) ?_); rotate_left; decide)
    | split

theorem execDeepWriteAccept_touch (c : Cham) (s : State) :
    OutTouch 131131 s (execDeepWriteAccept c s) := by
  unfold execDeepWriteAccept
  repeat' first
    | with_reducible apply Touch.refl
    | with_reducible apply OutTouch.next
    | ((with_reducible apply Touch.then ?_ (State.dsWrite_touch _ _ _ _) ?_); rotate_left; decide)
    | fail_if_no_progress ((with_reducible apply Touch.set_fab); rotate_left; decide)
    | split

/-! EchoOps -/

theorem State.pushRecord_touch (s : State) (keep lost : List Nat) (place : Bool × Nat) :
    Touch 64 s (State.pushRecord s keep lost place) := by
  unfold State.pushRecord
  repeat' first
    | with_reducible apply Touch.refl
    | fail_if_no_progress ((with_reducible apply Touch.set_echo); rotate_left; decide)

theorem State.countLoss_touch (s : State) (gs : List Nat) :
    Touch 49153 s (State.countLoss s gs) := by
  unfold State.countLoss
  repeat' first
    | (with_reducible intro x; with_reducible refine Touch.cutP (m := 49153) (s := s) (x := x) (fun hx => ?_) ?_; (clear_value x; rotate_left; subst x))
    | with_reducible intro accT accX
    | with_reducible apply Touch.refl
    | with_reducible assumption
    | ((with_reducible apply Touch.then ?_ (State.bump_touch _ _ _ _) ?_); rotate_left; decide)
    | ((with_reducible apply Touch.then ?_ (State.raise_touch _ _ _) ?_); rotate_left; decide)
    | ((with_reducible apply Touch.then ?_ (State.cicEvent_touch _ _) ?_); rotate_left; decide)
    | ((with_reducible apply Touch.then ?_ (State.wardenPend_touch _ _ _) ?_); rotate_left; decide)
    | with_reducible apply Touch.foldl'
    | apply Touch.ite

theorem State.closeWhole_touch {s t : State} (h : s.closeWhole = some t) : Touch 64 s t := by
  unfold State.closeWhole at h
  extract_lets at h
  split at h
  · split at h
    · cases h; exact (State.pushRecord_touch _ _ _ _).mono (by decide)
    · cases h
  · cases h

theorem State.closeDropping_touch (s : State) :
    Touch 49217 s (State.closeDropping s) := by
  unfold State.closeDropping
  repeat' first
    | (with_reducible intro x; with_reducible refine Touch.cutP (m := 49217) (s := s) (x := x) (fun hx => ?_) ?_; (clear_value x; rotate_left; subst x))
    | with_reducible lift_lets -underBinder
    | with_reducible intro accT accX
    | with_reducible apply Touch.refl
    | with_reducible assumption
    | ((with_reducible apply Touch.then ?_ (State.countLoss_touch _ _) ?_); rotate_left; decide)
    | ((with_reducible apply Touch.then ?_ (State.pushRecord_touch _ _ _ _) ?_); rotate_left; decide)
    | fail_if_no_progress ((with_reducible apply Touch.set_echo); rotate_left; decide)
    | with_reducible apply Touch.foldl'
    | with_reducible apply Touch.foldlFst
    | with_reducible apply Touch.foldlSnd
    | split
    | apply Touch.ite

theorem State.windowStep_touch (s : State) :
    Touch 80 s (State.windowStep s) := by
  unfold State.windowStep
  repeat' first
    | (with_reducible intro x; with_reducible refine Touch.cutP (m := 80) (s := s) (x := x) (fun hx => ?_) ?_; (clear_value x; rotate_left; subst x))
    | with_reducible apply Touch.refl
    | with_reducible assumption
    | ((with_reducible apply Touch.then ?_ (State.haltAtEnd_touch _) ?_); rotate_left; decide)
    | fail_if_no_progress ((with_reducible apply Touch.set_echo); rotate_left; decide)
    | apply Touch.ite

theorem State.setOldest_touch (s : State) :
    Touch 1 s (State.setOldest s) := by
  unfold State.setOldest
  repeat' first
    | with_reducible apply Touch.refl
    | ((with_reducible apply Touch.then ?_ (State.put_touch _ _ _ _) ?_); rotate_left; decide)
    | split

theorem State.dsWriteUp_touch (s : State) (a : Nat) (bs : List Byte) :
    Touch 131123 s (State.dsWriteUp s a bs) := by
  unfold State.dsWriteUp
  repeat' first
    | with_reducible apply Touch.refl
    | ((with_reducible apply Touch.then ?_ (State.dsWriteSome_touch _ _ _) ?_); rotate_left; decide)

theorem State.recordWritten_touch (s : State) (r : EchoRec) :
    Touch 131187 s (State.recordWritten s r) := by
  unfold State.recordWritten
  repeat' first
    | (with_reducible intro x; with_reducible refine Touch.cutP (m := 131187) (s := s) (x := x) (fun hx => ?_) ?_; (clear_value x; rotate_left; subst x))
    | with_reducible apply Touch.refl
    | with_reducible assumption
    | ((with_reducible apply Touch.then ?_ (State.dsWriteUp_touch _ _ _) ?_); rotate_left; decide)
    | ((with_reducible apply Touch.then ?_ (State.put_touch _ _ _ _) ?_); rotate_left; decide)
    | ((with_reducible apply Touch.then ?_ (State.setOldest_touch _) ?_); rotate_left; decide)
    | fail_if_no_progress ((with_reducible apply Touch.set_echo); rotate_left; decide)
    | apply Touch.ite

theorem State.onRecord_touch (s : State) (f : EchoRec → EchoRec) :
    Touch 64 s (State.onRecord s f) := by
  unfold State.onRecord
  repeat' first
    | with_reducible apply Touch.refl
    | fail_if_no_progress ((with_reducible apply Touch.set_echo); rotate_left; decide)

theorem State.triggerTree_touch (s : State) :
    Touch 65 s (State.triggerTree s) := by
  unfold State.triggerTree
  repeat' first
    | with_reducible intro accT accX
    | with_reducible apply Touch.refl
    | with_reducible assumption
    | ((with_reducible apply Touch.then ?_ (State.onRecord_touch _ _) ?_); rotate_left; decide)
    | ((with_reducible apply Touch.then ?_ (State.setReg_touch _ _ _) ?_); rotate_left; decide)
    | fail_if_no_progress ((with_reducible apply Touch.set_echo); rotate_left; decide)
    | with_reducible apply Touch.foldl'

theorem State.snapEnded_touch (s : State) (slot r : Nat) :
    Touch 1 s (State.snapEnded s slot r) := by
  unfold State.snapEnded
  repeat' first
    | with_reducible apply Touch.refl
    | ((with_reducible apply Touch.then ?_ (State.put_touch _ _ _ _) ?_); rotate_left; decide)
    | ((with_reducible apply Touch.then ?_ (State.setReg_touch _ _ _) ?_); rotate_left; decide)

theorem State.abortSnap_touch (s : State) :
    Touch 5187 s (State.abortSnap s) := by
  unfold State.abortSnap
  repeat' first
    | (with_reducible intro x; with_reducible refine Touch.cutP (m := 5187) (s := s) (x := x) (fun hx => ?_) ?_; (clear_value x; rotate_left; subst x))
    | with_reducible apply Touch.refl
    | with_reducible assumption
    | ((with_reducible apply Touch.then ?_ (State.snapEnded_touch _ _ _) ?_); rotate_left; decide)
    | ((with_reducible apply Touch.then ?_ (State.completeOpt_touch _ _ _ _ _ _) ?_); rotate_left; decide)
    | fail_if_no_progress ((with_reducible apply Touch.set_echo); rotate_left; decide)
    | split

theorem State.abortSnapPhase2_touch (s : State) :
    Touch 5187 s (State.abortSnapPhase2 s) := by
  unfold State.abortSnapPhase2
  repeat' first
    | with_reducible apply Touch.refl
    | ((with_reducible apply Touch.then ?_ (State.abortSnap_touch _) ?_); rotate_left; decide)
    | split

theorem State.clearTrig_touch (s : State) (g : Nat) :
    Touch 1 s (State.clearTrig s g) := by
  unfold State.clearTrig
  repeat' first
    | (with_reducible intro x; with_reducible refine Touch.cutP (m := 1) (s := s) (x := x) (fun hx => ?_) ?_; (clear_value x; rotate_left; subst x))
    | with_reducible intro accT accX
    | with_reducible apply Touch.refl
    | with_reducible assumption
    | ((with_reducible apply Touch.then ?_ (State.setReg_touch _ _ _) ?_); rotate_left; decide)
    | with_reducible apply Touch.foldl'

theorem State.disarm_touch (s : State) :
    Touch 65 s (State.disarm s) := by
  unfold State.disarm
  repeat' first
    | (with_reducible intro x; with_reducible refine Touch.cutP (m := 65) (s := s) (x := x) (fun hx => ?_) ?_; (clear_value x; rotate_left; subst x))
    | with_reducible intro accT accX
    | with_reducible apply Touch.refl
    | with_reducible assumption
    | ((with_reducible apply Touch.then ?_ (State.clearTrig_touch _ _) ?_); rotate_left; decide)
    | ((with_reducible apply Touch.then ?_ (State.put_touch _ _ _ _) ?_); rotate_left; decide)
    | ((with_reducible apply Touch.then ?_ (State.releaseRegion_touch _ _) ?_); rotate_left; decide)
    | ((with_reducible apply Touch.then ?_ (State.setReg_touch _ _ _) ?_); rotate_left; decide)
    | fail_if_no_progress ((with_reducible apply Touch.set_echo); rotate_left; decide)
    | with_reducible apply Touch.foldl'

theorem State.disarmIfIdle_touch (s : State) :
    Touch 5187 s (State.disarmIfIdle s) := by
  unfold State.disarmIfIdle
  repeat' first
    | with_reducible intro accT accX
    | with_reducible apply Touch.refl
    | ((with_reducible apply Touch.then ?_ (State.disarm_touch _) ?_); rotate_left; decide)
    | ((with_reducible apply Touch.then ?_ (State.complete_touch _ _ _ _ _ _) ?_); rotate_left; decide)
    | with_reducible apply Touch.foldl'
    | apply Touch.ite

end Sys2Proof.Machine
end

