-- ==== Sys2Proof/Laws/TouchStorage.lean ====
section
/-! SUPPORT. Frames by parts: what the memories, the interrupt controllers, the links and the pin fabric change. Each lemma gives the mask of the parts that an operation may change (Touch); registers
and memories stay canonical. -/

namespace Sys2Proof.Machine

set_option linter.all false
set_option linter.unusedTactic false
set_option linter.unreachableTactic false
set_option linter.tactic.unusedName false

/-! Storage -/

theorem State.useBank_touch (s : State) (c : Nat) :
    Touch 8 s (State.useBank s c) := by
  unfold State.useBank
  repeat' first
    | with_reducible apply Touch.refl
    | fail_if_no_progress ((with_reducible apply Touch.set_fab); rotate_left; decide)

theorem State.fillQueue_touch (s : State) (g : Nat) :
    Touch 32 s (State.fillQueue s g) := by
  unfold State.fillQueue
  repeat' first
    | (with_reducible intro (x : Mem); subst x)
    | with_reducible apply Touch.refl
    | fail_if_no_progress ((with_reducible apply Touch.set_mem); rotate_left; decide; (refine Memory.wf_of ?_ ?_ ?_ ?_ <;> intro h <;> first | with_reducible exact h | with_reducible exact NMap.wf_keep _ _ _ h | with_reducible exact NMap.wf_setAll _ _ _ h | with_reducible exact NMap.wf_setAll _ _ _ (NMap.wf_keep _ _ _ h) | exact h | exact NMap.wf_set _ _ _ _ h | exact NMap.wf_keep _ _ _ h))
    | apply Touch.ite

theorem State.bankRequest_touch (s : State) (r : BankReq) :
    Touch 146483 s (State.bankRequest s r) := by
  unfold State.bankRequest
  repeat' first
    | (with_reducible intro (x : Mem); subst x)
    | with_reducible apply Touch.refl
    | ((with_reducible apply Touch.then ?_ (State.answerBank_touch _ _ _) ?_); rotate_left; decide)
    | ((with_reducible apply Touch.then ?_ (State.countOff_touch _ _ _) ?_); rotate_left; decide)
    | fail_if_no_progress ((with_reducible apply Touch.set_mem); rotate_left; decide; (refine Memory.wf_of ?_ ?_ ?_ ?_ <;> intro h <;> first | with_reducible exact h | with_reducible exact NMap.wf_keep _ _ _ h | with_reducible exact NMap.wf_setAll _ _ _ h | with_reducible exact NMap.wf_setAll _ _ _ (NMap.wf_keep _ _ _ h) | exact h | exact NMap.wf_set _ _ _ _ h | exact NMap.wf_keep _ _ _ h))
    | apply Touch.ite

theorem execBankRequest_touch (g : Gal) (word : Fin 131072) (ops : List BankOp) (posted : Bool) (s : State) :
    OutTouch 146483 s (execBankRequest g word ops posted s) := by
  unfold execBankRequest
  repeat' first
    | with_reducible apply Touch.refl
    | with_reducible apply OutTouch.next
    | ((with_reducible apply Touch.then ?_ (State.answerBank_touch _ _ _) ?_); rotate_left; decide)
    | ((with_reducible apply Touch.then ?_ (State.bankRequest_touch _ _) ?_); rotate_left; decide)
    | apply OutTouch.ite

theorem execBankAtomic_touch (g : Gal) (word : Fin 131072) (swap : Bool) (d : Dword) (s : State) :
    OutTouch 146483 s (execBankAtomic g word swap d s) := by
  unfold execBankAtomic
  repeat' first
    | with_reducible apply Touch.refl
    | with_reducible apply OutTouch.next
    | ((with_reducible apply Touch.then ?_ (State.bankRequest_touch _ _) ?_); rotate_left; decide)

theorem State.serveOp_touch (s : State) (c w : Nat) (op : BankOp) :
    Touch 131131 s (State.serveOp s c w op).2.2 := by
  unfold State.serveOp
  repeat' first
    | (with_reducible intro x; with_reducible refine Touch.cutP (m := 131131) (s := s) (x := x.2.2) (fun hx => ?_) ?_; (clear_value x; rotate_left; subst x))
    | with_reducible apply Touch.refl
    | with_reducible assumption
    | ((with_reducible apply Touch.then ?_ (State.dmRead_touch _ _ _ _ _) ?_); rotate_left; decide)
    | ((with_reducible apply Touch.then ?_ (State.dmAtomic_touch _ _ _ _ _ _ _) ?_); rotate_left; decide)
    | ((with_reducible apply Touch.then ?_ (State.dmWrite_touch _ _ _ _ _ _ _) ?_); rotate_left; decide)
    | split

theorem execBankServe_touch (c : Cham) (s : State) :
    OutTouch 146491 s (execBankServe c s) := by
  unfold execBankServe
  repeat' first
    | (with_reducible intro x; with_reducible refine Touch.cutP (m := 146491) (s := s) (x := x) (fun hx => ?_) ?_; (clear_value x; rotate_left; subst x))
    | (with_reducible intro x; with_reducible refine Touch.cutP (m := 146491) (s := s) (x := x.2.2) (fun hx => ?_) ?_; (clear_value x; rotate_left; subst x))
    | (with_reducible intro (x : Mem); subst x)
    | with_reducible apply Touch.refl
    | with_reducible assumption
    | with_reducible apply OutTouch.next
    | ((with_reducible apply Touch.then ?_ (State.answerBank_touch _ _ _) ?_); rotate_left; decide)
    | ((with_reducible apply Touch.then ?_ (State.serveOp_touch _ _ _ _) ?_); rotate_left; decide)
    | ((with_reducible apply Touch.then ?_ (State.useBank_touch _ _) ?_); rotate_left; decide)
    | fail_if_no_progress ((with_reducible apply Touch.set_mem); rotate_left; decide; (refine Memory.wf_of ?_ ?_ ?_ ?_ <;> intro h <;> first | with_reducible exact h | with_reducible exact NMap.wf_keep _ _ _ h | with_reducible exact NMap.wf_setAll _ _ _ h | with_reducible exact NMap.wf_setAll _ _ _ (NMap.wf_keep _ _ _ h) | exact h | exact NMap.wf_set _ _ _ _ h | exact NMap.wf_keep _ _ _ h))
    | split
    | apply Touch.ite

theorem execStealTimeout_touch (g : Gal) (s : State) :
    OutTouch 146483 s (execStealTimeout g s) := by
  unfold execStealTimeout
  repeat' first
    | (with_reducible intro x; with_reducible refine Touch.cutP (m := 146483) (s := s) (x := x) (fun hx => ?_) ?_; (clear_value x; rotate_left; subst x))
    | (with_reducible intro (x : Mem); subst x)
    | with_reducible apply Touch.refl
    | with_reducible assumption
    | with_reducible apply OutTouch.next
    | ((with_reducible apply Touch.then ?_ (State.answerBank_touch _ _ _) ?_); rotate_left; decide)
    | ((with_reducible apply Touch.then ?_ (State.recordDm_touch _ _ _ _ _ _ _) ?_); rotate_left; decide)
    | fail_if_no_progress ((with_reducible apply Touch.set_mem); rotate_left; decide; (refine Memory.wf_of ?_ ?_ ?_ ?_ <;> intro h <;> first | with_reducible exact h | with_reducible exact NMap.wf_keep _ _ _ h | with_reducible exact NMap.wf_setAll _ _ _ h | with_reducible exact NMap.wf_setAll _ _ _ (NMap.wf_keep _ _ _ h) | exact h | exact NMap.wf_set _ _ _ _ h | exact NMap.wf_keep _ _ _ h))
    | split
    | apply Touch.ite

theorem State.zeroArrays_touch (s : State) (g arrays : Nat) :
    Touch 131131 s (State.zeroArrays s g arrays) := by
  unfold State.zeroArrays
  repeat' first
    | with_reducible apply Touch.refl
    | with_reducible assumption
    | fail_if_no_progress ((with_reducible apply Touch.set_regs_fab); rotate_left; decide; decide; (intro h; first | exact h | exact NMap.wf_set _ _ _ _ h | exact NMap.wf_keep _ _ _ h))
    | fail_if_no_progress ((with_reducible apply Touch.set_mem); rotate_left; decide; (refine Memory.wf_of ?_ ?_ ?_ ?_ <;> intro h <;> first | with_reducible exact h | with_reducible exact NMap.wf_keep _ _ _ h | with_reducible exact NMap.wf_setAll _ _ _ h | with_reducible exact NMap.wf_setAll _ _ _ (NMap.wf_keep _ _ _ h) | exact h | exact NMap.wf_set _ _ _ _ h | exact NMap.wf_keep _ _ _ h))
    | apply Touch.ite

theorem State.loadSpare_touch (s : State) (c spare col : Nat) (soft : Bool) :
    Touch 1 s (State.loadSpare s c spare col soft) := by
  unfold State.loadSpare
  repeat' first
    | with_reducible apply Touch.refl
    | ((with_reducible apply Touch.then ?_ (State.put_touch _ _ _ _) ?_); rotate_left; decide)

theorem State.loadRepair_touch (s : State) (g : Nat) :
    Touch 1 s (State.loadRepair s g) := by
  unfold State.loadRepair
  repeat' first
    | with_reducible intro accT accX
    | with_reducible apply Touch.refl
    | with_reducible assumption
    | ((with_reducible apply Touch.then ?_ (State.loadSpare_touch _ _ _ _ _) ?_); rotate_left; decide)
    | ((with_reducible apply Touch.then ?_ (State.setReg_touch _ _ _) ?_); rotate_left; decide)
    | with_reducible apply Touch.foldl'
    | apply Touch.ite

theorem State.repair_touch (s : State) (g : Nat) (f : MarchFault) :
    Touch 131095 s (State.repair s g f) := by
  unfold State.repair
  repeat' first
    | (with_reducible intro x; with_reducible refine Touch.cutP (m := 131095) (s := s) (x := x) (fun hx => ?_) ?_; (clear_value x; rotate_left; subst x))
    | (with_reducible intro x; subst x)
    | with_reducible lift_lets -underBinder
    | with_reducible apply Touch.refl
    | with_reducible assumption
    | with_reducible apply Touch.ite
    | ((with_reducible apply Touch.then ?_ (State.detect_touch _ _ _ _ _) ?_); rotate_left; decide)
    | ((with_reducible apply Touch.then ?_ (State.recordDm_touch _ _ _ _ _ _ _) ?_); rotate_left; decide)
    | ((with_reducible apply Touch.then ?_ (State.loadSpare_touch _ _ _ _ _) ?_); rotate_left; decide)
    | fail_if_no_progress ((with_reducible apply Touch.set_part); rotate_left; decide)
    | split
    | apply Touch.ite

theorem State.judge_touch (s : State) (g : Nat) (r : Bool) (l : List MarchFault) : Touch 131095 s (s.judge g r l).2 := by
  induction l generalizing s with
  | nil => exact Touch.refl _ _
  | cons f fs ih =>
    unfold State.judge
    split
    · exact ih _
    · split
      · exact ((State.repair_touch s g f).mono (by decide)).then (ih _) (by decide)
      · exact ih _

theorem State.marchResult_touch (s : State) (g : Nat) (f : Option MarchFault) :
    Touch 1 s (State.marchResult s g f) := by
  unfold State.marchResult
  repeat' first
    | (with_reducible intro x; with_reducible refine Touch.cutP (m := 1) (s := s) (x := x) (fun hx => ?_) ?_; (clear_value x; rotate_left; subst x))
    | with_reducible apply Touch.refl
    | with_reducible assumption
    | ((with_reducible apply Touch.then ?_ (State.put_touch _ _ _ _) ?_); rotate_left; decide)
    | ((with_reducible apply Touch.then ?_ (State.setReg_touch _ _ _) ?_); rotate_left; decide)
    | split

theorem State.finishMarch_touch (s : State) (m : March) (found : List MarchFault) :
    Touch 131135 s (State.finishMarch s m found).2 := by
  unfold State.finishMarch
  repeat' first
    | (with_reducible intro x; with_reducible refine Touch.cutP (m := 131135) (s := s) (x := x) (fun hx => ?_) ?_; (clear_value x; rotate_left; subst x))
    | (with_reducible intro x; with_reducible refine Touch.cutP (m := 131135) (s := s) (x := x.2) (fun hx => ?_) ?_; (clear_value x; rotate_left; subst x))
    | (with_reducible intro (x : Mem); subst x)
    | with_reducible apply Touch.refl
    | with_reducible assumption
    | ((with_reducible apply Touch.then ?_ (State.recordDm_touch _ _ _ _ _ _ _) ?_); rotate_left; decide)
    | ((with_reducible apply Touch.then ?_ (State.marchResult_touch _ _ _) ?_); rotate_left; decide)
    | ((with_reducible apply Touch.then ?_ (State.judge_touch _ _ _ _) ?_); rotate_left; decide)
    | ((with_reducible apply Touch.then ?_ (State.put_touch _ _ _ _) ?_); rotate_left; decide)
    | ((with_reducible apply Touch.then ?_ (State.raise_touch _ _ _) ?_); rotate_left; decide)
    | ((with_reducible apply Touch.then ?_ (State.zeroArrays_touch _ _ _) ?_); rotate_left; decide)
    | fail_if_no_progress ((with_reducible apply Touch.set_mem); rotate_left; decide; (refine Memory.wf_of ?_ ?_ ?_ ?_ <;> intro h <;> first | with_reducible exact h | with_reducible exact NMap.wf_keep _ _ _ h | with_reducible exact NMap.wf_setAll _ _ _ h | with_reducible exact NMap.wf_setAll _ _ _ (NMap.wf_keep _ _ _ h) | exact h | exact NMap.wf_set _ _ _ _ h | exact NMap.wf_keep _ _ _ h))
    | apply Touch.ite

theorem State.flushQueue_touch (s : State) (g st : Nat) :
    Touch 146483 s (State.flushQueue s g st) := by
  unfold State.flushQueue
  repeat' first
    | (with_reducible intro x; with_reducible refine Touch.cutP (m := 146483) (s := s) (x := x) (fun hx => ?_) ?_; (clear_value x; rotate_left; subst x))
    | (with_reducible intro (x : Mem); subst x)
    | with_reducible intro accT accX
    | with_reducible apply Touch.refl
    | with_reducible assumption
    | ((with_reducible apply Touch.then ?_ (State.answerBank_touch _ _ _) ?_); rotate_left; decide)
    | ((with_reducible apply Touch.then ?_ (State.countOff_touch _ _ _) ?_); rotate_left; decide)
    | fail_if_no_progress ((with_reducible apply Touch.set_mem); rotate_left; decide; (refine Memory.wf_of ?_ ?_ ?_ ?_ <;> intro h <;> first | with_reducible exact h | with_reducible exact NMap.wf_keep _ _ _ h | with_reducible exact NMap.wf_setAll _ _ _ h | with_reducible exact NMap.wf_setAll _ _ _ (NMap.wf_keep _ _ _ h) | exact h | exact NMap.wf_set _ _ _ _ h | exact NMap.wf_keep _ _ _ h))
    | with_reducible apply Touch.foldl'
    | apply Touch.ite

theorem State.proxyPkt_touch (s : State) (g : Nat) (p : NocPkt) :
    Touch 2049 s (State.proxyPkt s g p) := by
  unfold State.proxyPkt
  repeat' first
    | with_reducible apply Touch.refl
    | ((with_reducible apply Touch.then ?_ (State.answerPkt_touch _ _ _ _) ?_); rotate_left; decide)
    | ((with_reducible apply Touch.then ?_ (State.bump_touch _ _ _ _) ?_); rotate_left; decide)
    | split
    | apply Touch.ite

theorem State.proxyBar0_touch (s : State) (g : Nat) (addr : BitVec 64) (op : HostOp) :
    Touch 135187 s (State.proxyBar0 s g addr op) := by
  unfold State.proxyBar0
  repeat' first
    | with_reducible intro accT accX
    | with_reducible apply Touch.refl
    | ((with_reducible apply Touch.then ?_ (State.hostAnswer_touch _ _ _ _ _ _ _) ?_); rotate_left; decide)
    | ((with_reducible apply Touch.then ?_ (State.countOff_touch _ _ _) ?_); rotate_left; decide)
    | with_reducible apply Touch.foldl'
    | split

theorem State.flushNet_touch (s : State) (g : Nat) :
    Touch 137235 s (State.flushNet s g) := by
  unfold State.flushNet
  repeat' first
    | (with_reducible intro x; with_reducible refine Touch.cutP (m := 137235) (s := s) (x := x) (fun hx => ?_) ?_; (clear_value x; rotate_left; subst x))
    | with_reducible intro accT accX
    | with_reducible apply Touch.refl
    | with_reducible assumption
    | ((with_reducible apply Touch.then ?_ (State.hostAnswer_touch _ _ _ _ _ _ _) ?_); rotate_left; decide)
    | ((with_reducible apply Touch.then ?_ (State.proxyPkt_touch _ _ _) ?_); rotate_left; decide)
    | ((with_reducible apply Touch.then ?_ (State.proxyBar0_touch _ _ _ _) ?_); rotate_left; decide)
    | ((with_reducible apply Touch.then ?_ (State.countOff_touch _ _ _) ?_); rotate_left; decide)
    | fail_if_no_progress ((with_reducible apply Touch.set_noc_host); rotate_left; decide; decide)
    | with_reducible apply Touch.foldl'
    | split

theorem execMarchStart_touch (g : Gal) (w : Word) (s : State) :
    OutTouch 146547 s (execMarchStart g w s) := by
  unfold execMarchStart
  repeat' first
    | (with_reducible intro x; with_reducible refine Touch.cutP (m := 146547) (s := s) (x := x) (fun hx => ?_) ?_; (clear_value x; rotate_left; subst x))
    | (with_reducible intro (x : Mem); subst x)
    | with_reducible apply Touch.refl
    | with_reducible assumption
    | with_reducible apply OutTouch.next
    | ((with_reducible apply Touch.then ?_ (State.flushQueue_touch _ _ _) ?_); rotate_left; decide)
    | ((with_reducible apply Touch.then ?_ (State.abortSnapPhase2_touch _) ?_); rotate_left; decide)
    | ((with_reducible apply Touch.then ?_ (State.countOff_touch _ _ _) ?_); rotate_left; decide)
    | ((with_reducible apply Touch.then ?_ (State.put_touch _ _ _ _) ?_); rotate_left; decide)
    | ((with_reducible apply Touch.then ?_ (State.raise_touch _ _ _) ?_); rotate_left; decide)
    | ((with_reducible apply Touch.then ?_ (State.setReg_touch _ _ _) ?_); rotate_left; decide)
    | fail_if_no_progress ((with_reducible apply Touch.set_mem); rotate_left; decide; (refine Memory.wf_of ?_ ?_ ?_ ?_ <;> intro h <;> first | with_reducible exact h | with_reducible exact NMap.wf_keep _ _ _ h | with_reducible exact NMap.wf_setAll _ _ _ h | with_reducible exact NMap.wf_setAll _ _ _ (NMap.wf_keep _ _ _ h) | exact h | exact NMap.wf_set _ _ _ _ h | exact NMap.wf_keep _ _ _ h))
    | apply Touch.ite
    | apply OutTouch.ite

theorem execStartupMarchEnd_touch (g : Gal) (found : List MarchFault) (s : State) :
    OutTouch 132159 s (execStartupMarchEnd g found s) := by
  unfold execStartupMarchEnd
  repeat' first
    | (with_reducible intro x; with_reducible refine Touch.cutP (m := 132159) (s := s) (x := x.2) (fun hx => ?_) ?_; (clear_value x; rotate_left; subst x))
    | with_reducible apply Touch.refl
    | with_reducible assumption
    | with_reducible apply OutTouch.next
    | ((with_reducible apply Touch.then ?_ (State.finishMarch_touch _ _ _) ?_); rotate_left; decide)
    | ((with_reducible apply Touch.then ?_ (State.setGalReady_touch _ _ _) ?_); rotate_left; decide)

theorem State.startWake_touch (s : State) (g : Nat) :
    Touch 1057 s (State.startWake s g) := by
  unfold State.startWake
  repeat' first
    | (with_reducible intro x; with_reducible refine Touch.cutP (m := 1057) (s := s) (x := x) (fun hx => ?_) ?_; (clear_value x; rotate_left; subst x))
    | (with_reducible intro (x : Mem); subst x)
    | with_reducible apply Touch.refl
    | with_reducible assumption
    | ((with_reducible apply Touch.then ?_ (State.loadRepair_touch _ _) ?_); rotate_left; decide)
    | ((with_reducible apply Touch.then ?_ (State.raise_touch _ _ _) ?_); rotate_left; decide)
    | ((with_reducible apply Touch.then ?_ (State.setGalPower_touch _ _ _) ?_); rotate_left; decide)
    | fail_if_no_progress ((with_reducible apply Touch.set_mem); rotate_left; decide; (refine Memory.wf_of ?_ ?_ ?_ ?_ <;> intro h <;> first | with_reducible exact h | with_reducible exact NMap.wf_keep _ _ _ h | with_reducible exact NMap.wf_setAll _ _ _ h | with_reducible exact NMap.wf_setAll _ _ _ (NMap.wf_keep _ _ _ h) | exact h | exact NMap.wf_set _ _ _ _ h | exact NMap.wf_keep _ _ _ h))
    | apply Touch.ite

theorem State.wakeEnd_touch (s : State) (m : March) (found : List MarchFault) :
    Touch 1196095 s (State.wakeEnd s m found) := by
  unfold State.wakeEnd
  repeat' first
    | (with_reducible intro x; with_reducible refine Touch.cutP (m := 1196095) (s := s) (x := x) (fun hx => ?_) ?_; (clear_value x; rotate_left; subst x))
    | (with_reducible intro x; with_reducible refine Touch.cutP (m := 1196095) (s := s) (x := x.2) (fun hx => ?_) ?_; (clear_value x; rotate_left; subst x))
    | (with_reducible intro (x : Mem); subst x)
    | with_reducible apply Touch.refl
    | with_reducible assumption
    | ((with_reducible apply Touch.then ?_ (State.finishMarch_touch _ _ _) ?_); rotate_left; decide)
    | ((with_reducible apply Touch.then ?_ (State.wardenUp_touch _ _) ?_); rotate_left; decide)
    | ((with_reducible apply Touch.then ?_ (State.setGalReady_touch _ _ _) ?_); rotate_left; decide)
    | ((with_reducible apply Touch.then ?_ (State.zeroArrays_touch _ _ _) ?_); rotate_left; decide)
    | fail_if_no_progress ((with_reducible apply Touch.set_mem); rotate_left; decide; (refine Memory.wf_of ?_ ?_ ?_ ?_ <;> intro h <;> first | with_reducible exact h | with_reducible exact NMap.wf_keep _ _ _ h | with_reducible exact NMap.wf_setAll _ _ _ h | with_reducible exact NMap.wf_setAll _ _ _ (NMap.wf_keep _ _ _ h) | exact h | exact NMap.wf_set _ _ _ _ h | exact NMap.wf_keep _ _ _ h))
    | fail_if_no_progress ((with_reducible apply Touch.set_regs); rotate_left; decide; (intro h; first | exact h | exact NMap.wf_set _ _ _ _ h | exact NMap.wf_keep _ _ _ h))
    | apply Touch.ite

theorem execDsClear_touch (n : Chan) (s : State) :
    OutTouch 33 s (execDsClear n s) := by
  unfold execDsClear
  repeat' first
    | (with_reducible intro x; with_reducible refine Touch.cutP (m := 33) (s := s) (x := x) (fun hx => ?_) ?_; (clear_value x; rotate_left; subst x))
    | (with_reducible intro (x : Mem); subst x)
    | with_reducible apply Touch.refl
    | with_reducible assumption
    | with_reducible apply OutTouch.next
    | ((with_reducible apply Touch.then ?_ (State.put_touch _ _ _ _) ?_); rotate_left; decide)
    | fail_if_no_progress ((with_reducible apply Touch.set_mem); rotate_left; decide; (refine Memory.wf_of ?_ ?_ ?_ ?_ <;> intro h <;> first | with_reducible exact h | with_reducible exact NMap.wf_keep _ _ _ h | with_reducible exact NMap.wf_setAll _ _ _ h | with_reducible exact NMap.wf_setAll _ _ _ (NMap.wf_keep _ _ _ h) | exact h | exact NMap.wf_set _ _ _ _ h | exact NMap.wf_keep _ _ _ h))

theorem execDsBurst_touch (block : Fin 536870912) (write : Bool) (waiting : List DsClass) (crcFails : Fin 6) (s : State) :
    OutTouch 131123 s (execDsBurst block write waiting crcFails s) := by
  unfold execDsBurst
  repeat' first
    | (with_reducible intro x; with_reducible refine Touch.cutP (m := 131123) (s := s) (x := x) (fun hx => ?_) ?_; (clear_value x; rotate_left; subst x))
    | (with_reducible intro (x : Mem); subst x)
    | (with_reducible intro x; subst x)
    | with_reducible lift_lets -underBinder
    | with_reducible apply Touch.refl
    | with_reducible assumption
    | with_reducible apply OutTouch.next
    | ((with_reducible apply Touch.then ?_ (State.detect_touch _ _ _ _ _) ?_); rotate_left; decide)
    | ((with_reducible apply Touch.then ?_ (State.useArmed_touch _ _ _ _) ?_); rotate_left; decide)
    | ((with_reducible apply Touch.then ?_ (State.bump_touch _ _ _ _) ?_); rotate_left; decide)
    | fail_if_no_progress ((with_reducible apply Touch.set_mem); rotate_left; decide; (refine Memory.wf_of ?_ ?_ ?_ ?_ <;> intro h <;> first | with_reducible exact h | with_reducible exact NMap.wf_keep _ _ _ h | with_reducible exact NMap.wf_setAll _ _ _ h | with_reducible exact NMap.wf_setAll _ _ _ (NMap.wf_keep _ _ _ h) | exact h | exact NMap.wf_set _ _ _ _ h | exact NMap.wf_keep _ _ _ h))
    | split

theorem execDsErrClr_touch (s : State) :
    OutTouch 1 s (execDsErrClr s) := by
  unfold execDsErrClr
  repeat' first
    | with_reducible intro accT accX
    | with_reducible apply Touch.refl
    | with_reducible apply OutTouch.next
    | ((with_reducible apply Touch.then ?_ (State.setReg_touch _ _ _) ?_); rotate_left; decide)
    | with_reducible apply Touch.foldl'

theorem execDmCeCountClear_touch (g : Gal) (s : State) :
    OutTouch 1 s (execDmCeCountClear g s) := by
  unfold execDmCeCountClear
  repeat' first
    | ((with_reducible apply State.window_touch); rotate_left; decide)
    | with_reducible intro accT
    | with_reducible apply Touch.refl
    | ((with_reducible apply Touch.then ?_ (State.setReg_touch _ _ _) ?_); rotate_left; decide)

theorem State.dripRecord_touch (s : State) (b n step : Nat) :
    Touch 131091 s (State.dripRecord s b n step) := by
  unfold State.dripRecord
  repeat' first
    | with_reducible apply Touch.refl
    | ((with_reducible apply Touch.then ?_ (State.record_touch _ _ _ _) ?_); rotate_left; decide)

theorem State.dripIstore_touch (s : State) (b i : Nat) :
    Touch 131099 s (State.dripIstore s b i) := by
  unfold State.dripIstore
  repeat' first
    | (with_reducible intro x; with_reducible refine Touch.cutP (m := 131099) (s := s) (x := x) (fun hx => ?_) ?_; (clear_value x; rotate_left; subst x))
    | (with_reducible intro x; subst x)
    | with_reducible lift_lets -underBinder
    | with_reducible apply Touch.refl
    | with_reducible assumption
    | with_reducible apply Touch.ite
    | ((with_reducible apply Touch.then ?_ (State.bump_touch _ _ _ _) ?_); rotate_left; decide)
    | ((with_reducible apply Touch.then ?_ (State.dripRecord_touch _ _ _ _) ?_); rotate_left; decide)
    | fail_if_no_progress ((with_reducible apply Touch.set_fab); rotate_left; decide)
    | split
    | apply Touch.ite

theorem State.dripNet_touch (s : State) (b i : Nat) :
    Touch 131099 s (State.dripNet s b i) := by
  unfold State.dripNet
  repeat' first
    | with_reducible apply Touch.refl
    | ((with_reducible apply Touch.then ?_ (State.dripRecord_touch _ _ _ _) ?_); rotate_left; decide)
    | fail_if_no_progress ((with_reducible apply Touch.set_fab); rotate_left; decide)
    | apply Touch.ite

theorem State.dripBank_touch (s : State) (c w : Nat) :
    Touch 131131 s (State.dripBank s c w) := by
  unfold State.dripBank
  repeat' first
    | (with_reducible intro x; with_reducible refine Touch.cutP (m := 131131) (s := s) (x := x) (fun hx => ?_) ?_; (clear_value x; rotate_left; subst x))
    | (with_reducible intro (x : Mem); subst x)
    | with_reducible apply Touch.refl
    | with_reducible assumption
    | ((with_reducible apply Touch.then ?_ (State.dmRead_touch _ _ _ _ _) ?_); rotate_left; decide)
    | fail_if_no_progress ((with_reducible apply Touch.set_mem); rotate_left; decide; (refine Memory.wf_of ?_ ?_ ?_ ?_ <;> intro h <;> first | with_reducible exact h | with_reducible exact NMap.wf_keep _ _ _ h | with_reducible exact NMap.wf_setAll _ _ _ h | with_reducible exact NMap.wf_setAll _ _ _ (NMap.wf_keep _ _ _ h) | exact h | exact NMap.wf_set _ _ _ _ h | exact NMap.wf_keep _ _ _ h))
    | apply Touch.ite

theorem State.dripDeep_touch (s : State) (block : Nat) :
    Touch 131123 s (State.dripDeep s block) := by
  unfold State.dripDeep
  repeat' first
    | (with_reducible intro x; with_reducible refine Touch.cutP (m := 131123) (s := accT) (x := x) (fun hx => ?_) ?_; (clear_value x; rotate_left; subst x))
    | (with_reducible intro (x : Mem); subst x)
    | (with_reducible intro x; subst x)
    | with_reducible lift_lets -underBinder
    | with_reducible intro accT accX
    | with_reducible apply Touch.refl
    | with_reducible assumption
    | with_reducible apply Touch.ite
    | ((with_reducible apply Touch.then ?_ (State.detect_touch _ _ _ _ _) ?_); rotate_left; decide)
    | ((with_reducible apply Touch.then ?_ (State.dsUe_touch _ _) ?_); rotate_left; decide)
    | ((with_reducible apply Touch.then ?_ (State.bump_touch _ _ _ _) ?_); rotate_left; decide)
    | fail_if_no_progress ((with_reducible apply Touch.set_mem); rotate_left; decide; (refine Memory.wf_of ?_ ?_ ?_ ?_ <;> intro h <;> first | with_reducible exact h | with_reducible exact NMap.wf_keep _ _ _ h | with_reducible exact NMap.wf_setAll _ _ _ h | with_reducible exact NMap.wf_setAll _ _ _ (NMap.wf_keep _ _ _ h) | exact h | exact NMap.wf_set _ _ _ _ h | exact NMap.wf_keep _ _ _ h))
    | with_reducible apply Touch.foldl'
    | with_reducible apply Touch.foldlFst
    | with_reducible apply Touch.foldlSnd
    | split
    | apply Touch.ite

theorem State.drip_touch (s : State) (t : DripTarget) :
    Touch 131131 s (State.drip s t) := by
  unfold State.drip
  repeat' first
    | with_reducible apply Touch.refl
    | ((with_reducible apply Touch.then ?_ (State.record_touch _ _ _ _) ?_); rotate_left; decide)
    | ((with_reducible apply Touch.then ?_ (State.recordSched_touch _ _ _ _ _ _) ?_); rotate_left; decide)
    | ((with_reducible apply Touch.then ?_ (State.dripDeep_touch _ _) ?_); rotate_left; decide)
    | ((with_reducible apply Touch.then ?_ (State.recordPsg_touch _ _ _ _) ?_); rotate_left; decide)
    | ((with_reducible apply Touch.then ?_ (State.dripBank_touch _ _ _) ?_); rotate_left; decide)
    | ((with_reducible apply Touch.then ?_ (State.dripIstore_touch _ _ _) ?_); rotate_left; decide)
    | ((with_reducible apply Touch.then ?_ (State.dripNet_touch _ _ _) ?_); rotate_left; decide)
    | ((with_reducible apply Touch.then ?_ (State.useBank_touch _ _) ?_); rotate_left; decide)
    | split

theorem execDripScrub_touch (t : DripTarget) (endOfPass : Bool) (s : State) :
    OutTouch 131131 s (execDripScrub t endOfPass s) := by
  unfold execDripScrub
  repeat' first
    | (with_reducible intro x; with_reducible refine Touch.cutP (m := 131131) (s := s) (x := x) (fun hx => ?_) ?_; (clear_value x; rotate_left; subst x))
    | with_reducible apply Touch.refl
    | with_reducible assumption
    | with_reducible apply OutTouch.next
    | ((with_reducible apply Touch.then ?_ (State.drip_touch _ _) ?_); rotate_left; decide)
    | ((with_reducible apply Touch.then ?_ (State.bump_touch _ _ _ _) ?_); rotate_left; decide)
    | split

theorem execDripWriteBack_touch (t : DripTarget) (s : State) :
    OutTouch 40 s (execDripWriteBack t s) := by
  unfold execDripWriteBack
  repeat' first
    | (with_reducible intro x; with_reducible refine Touch.cutP (m := 40) (s := s) (x := x) (fun hx => ?_) ?_; (clear_value x; rotate_left; subst x))
    | (with_reducible intro (x : Mem); subst x)
    | with_reducible intro accT accX
    | with_reducible apply Touch.refl
    | with_reducible assumption
    | with_reducible apply OutTouch.next
    | ((with_reducible apply Touch.then ?_ (State.dmStore_touch _ _ _ _) ?_); rotate_left; decide)
    | ((with_reducible apply Touch.then ?_ (State.useBank_touch _ _) ?_); rotate_left; decide)
    | fail_if_no_progress ((with_reducible apply Touch.set_mem); rotate_left; decide; (refine Memory.wf_of ?_ ?_ ?_ ?_ <;> intro h <;> first | with_reducible exact h | with_reducible exact NMap.wf_keep _ _ _ h | with_reducible exact NMap.wf_setAll _ _ _ h | with_reducible exact NMap.wf_setAll _ _ _ (NMap.wf_keep _ _ _ h) | exact h | exact NMap.wf_set _ _ _ _ h | exact NMap.wf_keep _ _ _ h))
    | with_reducible apply Touch.foldl'
    | split

/-! Cic -/

theorem State.cicKeep_touch (s : State) (o : Nat) :
    Touch 16384 s (State.cicKeep s o) := by
  unfold State.cicKeep
  repeat' first
    | with_reducible apply Touch.refl
    | fail_if_no_progress ((with_reducible apply Touch.set_cic); rotate_left; decide)
    | apply Touch.ite

theorem State.take_touch (s : State) (t n : Nat) :
    Touch 20480 s (State.take s t n) := by
  unfold State.take
  repeat' first
    | (with_reducible intro x; with_reducible refine Touch.cutP (m := 20480) (s := s) (x := x) (fun hx => ?_) ?_; (clear_value x; rotate_left; subst x))
    | with_reducible apply Touch.refl
    | with_reducible assumption
    | ((with_reducible apply Touch.then ?_ (State.msixDue_touch _ _) ?_); rotate_left; decide)
    | fail_if_no_progress ((with_reducible apply Touch.set_cic); rotate_left; decide)
    | apply Touch.ite

theorem State.claimOne_touch (s : State) (t n : Nat) (lost : Bool) :
    Touch 20481 s (State.claimOne s t n lost) := by
  unfold State.claimOne
  repeat' first
    | (with_reducible intro x; with_reducible refine Touch.cutP (m := 20481) (s := s) (x := x) (fun hx => ?_) ?_; (clear_value x; rotate_left; subst x))
    | with_reducible apply Touch.refl
    | with_reducible assumption
    | ((with_reducible apply Touch.then ?_ (State.bump_touch _ _ _ _) ?_); rotate_left; decide)
    | ((with_reducible apply Touch.then ?_ (State.take_touch _ _ _) ?_); rotate_left; decide)
    | fail_if_no_progress ((with_reducible apply Touch.set_cic); rotate_left; decide)
    | apply Touch.ite

theorem State.claimAll_touch (s : State) (k : List Nat) (l : List (Nat × Nat)) : Touch 20481 s (s.claimAll k l) := by
  induction l generalizing s k with
  | nil => exact Touch.refl _ _
  | cons x r ih =>
    obtain ⟨t, n⟩ := x
    exact ((State.claimOne_touch s t n _).mono (by decide)).then (ih _ _) (by decide)

theorem execCicClaim_touch (ts : BitVec 5) (s : State) :
    OutTouch 20481 s (execCicClaim ts s) := by
  unfold execCicClaim
  repeat' first
    | with_reducible apply Touch.refl
    | with_reducible apply OutTouch.next
    | ((with_reducible apply Touch.then ?_ (State.claimAll_touch _ _ _) ?_); rotate_left; decide)

theorem execHostForward_touch (s : State) :
    OutTouch 20480 s (execHostForward s) := by
  unfold execHostForward
  repeat' first
    | with_reducible apply Touch.refl
    | with_reducible apply OutTouch.next
    | ((with_reducible apply Touch.then ?_ (State.take_touch _ _ _) ?_); rotate_left; decide)
    | apply OutTouch.ite

theorem execCicComplete_touch (t : Fin 5) (id : BitVec 9) (host : Bool) (s : State) :
    OutTouch 16385 s (execCicComplete t id host s) := by
  unfold execCicComplete
  repeat' first
    | (with_reducible intro x; with_reducible refine Touch.cutP (m := 16385) (s := s) (x := x) (fun hx => ?_) ?_; (clear_value x; rotate_left; subst x))
    | with_reducible apply Touch.refl
    | with_reducible assumption
    | with_reducible apply OutTouch.next
    | ((with_reducible apply Touch.then ?_ (State.bump_touch _ _ _ _) ?_); rotate_left; decide)
    | ((with_reducible apply Touch.then ?_ (State.put_touch _ _ _ _) ?_); rotate_left; decide)
    | ((with_reducible apply Touch.then ?_ (State.raise_touch _ _ _) ?_); rotate_left; decide)
    | fail_if_no_progress ((with_reducible apply Touch.set_cic); rotate_left; decide)
    | apply OutTouch.ite

theorem execSourceEvent_touch (n : Fin 512) (level : Bool) (s : State) :
    OutTouch 16384 s (execSourceEvent n level s) := by
  unfold execSourceEvent
  repeat' first
    | with_reducible apply Touch.refl
    | with_reducible apply OutTouch.next
    | fail_if_no_progress ((with_reducible apply Touch.set_cic); rotate_left; decide)
    | apply Touch.ite
    | apply OutTouch.ite

theorem execCicSwSet_touch (k : Fin 2) (w : Word) (s : State) :
    OutTouch 16384 s (execCicSwSet k w s) := by
  unfold execCicSwSet
  repeat' first
    | with_reducible intro accT accX
    | with_reducible apply Touch.refl
    | with_reducible apply OutTouch.next
    | ((with_reducible apply Touch.then ?_ (State.cicEvent_touch _ _) ?_); rotate_left; decide)
    | with_reducible apply Touch.foldl'
    | apply Touch.ite

theorem execCicSrcWrite_touch (n : Fin 512) (w : Word) (s : State) :
    OutTouch 16385 s (execCicSrcWrite n w s) := by
  unfold execCicSrcWrite
  repeat' first
    | with_reducible apply Touch.refl
    | with_reducible apply OutTouch.next
    | ((with_reducible apply Touch.then ?_ (State.put_touch _ _ _ _) ?_); rotate_left; decide)
    | ((with_reducible apply Touch.then ?_ (State.cicKeep_touch _ _) ?_); rotate_left; decide)
    | apply OutTouch.ite

theorem execCicCountsClear_touch (s : State) :
    OutTouch 1 s (execCicCountsClear s) := by
  unfold execCicCountsClear
  repeat' first
    | with_reducible apply Touch.refl
    | with_reducible apply OutTouch.next
    | ((with_reducible apply Touch.then ?_ (State.setReg_touch _ _ _) ?_); rotate_left; decide)

theorem State.cicCoreDown_touch (s : State) (t : Nat) :
    Touch 16384 s (State.cicCoreDown s t) := by
  unfold State.cicCoreDown
  repeat' first
    | with_reducible apply Touch.refl
    | fail_if_no_progress ((with_reducible apply Touch.set_cic); rotate_left; decide)

theorem State.cicCoreUp_touch (s : State) (t : Nat) :
    Touch 16384 s (State.cicCoreUp s t) := by
  unfold State.cicCoreUp
  repeat' first
    | with_reducible apply Touch.refl
    | fail_if_no_progress ((with_reducible apply Touch.set_cic); rotate_left; decide)

theorem State.cicHostReset_touch (s : State) :
    Touch 16385 s (State.cicHostReset s) := by
  unfold State.cicHostReset
  repeat' first
    | with_reducible apply Touch.refl
    | ((with_reducible apply Touch.then ?_ (State.setReg_touch _ _ _) ?_); rotate_left; decide)
    | fail_if_no_progress ((with_reducible apply Touch.set_cic); rotate_left; decide)

/-! Warden -/

theorem State.setStack_touch (s : State) (g : Nat) (l : List WardenFrame) :
    Touch 32768 s (State.setStack s g l) := by
  unfold State.setStack
  repeat' first
    | with_reducible apply Touch.refl
    | fail_if_no_progress ((with_reducible apply Touch.set_wiu); rotate_left; decide)

theorem State.wiuClear_touch (s : State) (g i : Nat) :
    Touch 32768 s (State.wiuClear s g i) := by
  unfold State.wiuClear
  repeat' first
    | with_reducible apply Touch.refl
    | fail_if_no_progress ((with_reducible apply Touch.set_wiu); rotate_left; decide)

theorem execNormalEntry_touch (g : Gal) (s : State) :
    OutTouch 32768 s (execNormalEntry g s) := by
  unfold execNormalEntry
  repeat' first
    | with_reducible apply Touch.refl
    | with_reducible apply OutTouch.next
    | ((with_reducible apply Touch.then ?_ (State.setStack_touch _ _ _) ?_); rotate_left; decide)
    | ((with_reducible apply Touch.then ?_ (State.wiuClear_touch _ _ _) ?_); rotate_left; decide)
    | split
    | apply OutTouch.ite

theorem State.abandonEntry_touch (s : State) (g : Nat) :
    Touch 32769 s (State.abandonEntry s g) := by
  unfold State.abandonEntry
  repeat' first
    | (with_reducible intro x; with_reducible refine Touch.cutP (m := 32769) (s := s) (x := x) (fun hx => ?_) ?_; (clear_value x; rotate_left; subst x))
    | with_reducible apply Touch.refl
    | with_reducible assumption
    | ((with_reducible apply Touch.then ?_ (State.bump_touch _ _ _ _) ?_); rotate_left; decide)
    | ((with_reducible apply Touch.then ?_ (State.setStack_touch _ _ _) ?_); rotate_left; decide)
    | ((with_reducible apply Touch.then ?_ (State.wardenPend_touch _ _ _) ?_); rotate_left; decide)
    | split

theorem execFastEntry_touch (g : Gal) (s : State) :
    OutTouch 32769 s (execFastEntry g s) := by
  unfold execFastEntry
  repeat' first
    | (with_reducible intro x; with_reducible refine Touch.cutP (m := 32769) (s := s) (x := x) (fun hx => ?_) ?_; (clear_value x; rotate_left; subst x))
    | with_reducible apply Touch.refl
    | with_reducible assumption
    | with_reducible apply OutTouch.next
    | ((with_reducible apply Touch.then ?_ (State.abandonEntry_touch _ _) ?_); rotate_left; decide)
    | ((with_reducible apply Touch.then ?_ (State.setStack_touch _ _ _) ?_); rotate_left; decide)
    | ((with_reducible apply Touch.then ?_ (State.wiuClear_touch _ _ _) ?_); rotate_left; decide)
    | split

theorem execNormalExit_touch (g : Gal) (s : State) :
    OutTouch 32769 s (execNormalExit g s) := by
  unfold execNormalExit
  repeat' first
    | with_reducible apply Touch.refl
    | with_reducible apply OutTouch.next
    | ((with_reducible apply Touch.then ?_ (State.bump_touch _ _ _ _) ?_); rotate_left; decide)
    | ((with_reducible apply Touch.then ?_ (State.setStack_touch _ _ _) ?_); rotate_left; decide)
    | ((with_reducible apply Touch.then ?_ (State.wiuClear_touch _ _ _) ?_); rotate_left; decide)
    | split

theorem execFastExit_touch (g : Gal) (s : State) :
    OutTouch 32769 s (execFastExit g s) := by
  unfold execFastExit
  repeat' first
    | with_reducible apply Touch.refl
    | with_reducible apply OutTouch.next
    | ((with_reducible apply Touch.then ?_ (State.bump_touch _ _ _ _) ?_); rotate_left; decide)
    | ((with_reducible apply Touch.then ?_ (State.setStack_touch _ _ _) ?_); rotate_left; decide)
    | ((with_reducible apply Touch.then ?_ (State.wiuClear_touch _ _ _) ?_); rotate_left; decide)
    | split

theorem execWardenSourcePend_touch (g : Gal) (i : Fin 32) (s : State) :
    OutTouch 32768 s (execWardenSourcePend g i s) := by
  unfold execWardenSourcePend
  repeat' first
    | with_reducible apply Touch.refl
    | with_reducible apply OutTouch.next
    | ((with_reducible apply Touch.then ?_ (State.wardenPend_touch _ _ _) ?_); rotate_left; decide)
    | apply OutTouch.ite

theorem execWardenTimer_touch (g : Gal) (s : State) :
    OutTouch 32768 s (execWardenTimer g s) := by
  unfold execWardenTimer
  repeat' first
    | with_reducible apply Touch.refl
    | with_reducible apply OutTouch.next
    | ((with_reducible apply Touch.then ?_ (State.wardenPend_touch _ _ _) ?_); rotate_left; decide)

theorem execSoftSet_touch (g : Gal) (w : BitVec 16) (s : State) :
    OutTouch 32769 s (execSoftSet g w s) := by
  unfold execSoftSet
  repeat' first
    | ((with_reducible apply State.window_touch); rotate_left; decide)
    | with_reducible intro accT
    | with_reducible apply Touch.refl
    | ((with_reducible apply Touch.then ?_ (State.wardenPend_touch _ _ _) ?_); rotate_left; decide)
    | with_reducible apply Touch.foldl'
    | apply Touch.ite

theorem execWiuCountClear_touch (g : Gal) (s : State) :
    OutTouch 1 s (execWiuCountClear g s) := by
  unfold execWiuCountClear
  repeat' first
    | ((with_reducible apply State.window_touch); rotate_left; decide)
    | with_reducible intro accT
    | with_reducible apply Touch.refl
    | ((with_reducible apply Touch.then ?_ (State.setReg_touch _ _ _) ?_); rotate_left; decide)

theorem State.wiuReset_touch (s : State) (g : Nat) :
    Touch 32769 s (State.wiuReset s g) := by
  unfold State.wiuReset
  repeat' first
    | (with_reducible intro x; with_reducible refine Touch.cutP (m := 32769) (s := s) (x := x) (fun hx => ?_) ?_; (clear_value x; rotate_left; subst x))
    | with_reducible intro accT accX
    | with_reducible apply Touch.refl
    | with_reducible assumption
    | ((with_reducible apply Touch.then ?_ (State.setReg_touch _ _ _) ?_); rotate_left; decide)
    | fail_if_no_progress ((with_reducible apply Touch.set_wiu); rotate_left; decide)
    | with_reducible apply Touch.foldl'

/-! LatOps -/

theorem State.tx_touch (s : State) (f : TxFlit) :
    Touch 256 s (State.tx s f) := by
  unfold State.tx
  repeat' first
    | with_reducible apply Touch.refl
    | fail_if_no_progress ((with_reducible apply Touch.set_psg); rotate_left; decide)

theorem State.floodOn_touch (s : State) (ports : List Nat) (f : LatFlit) (except : Option Nat) :
    Touch 256 s (State.floodOn s ports f except) := by
  unfold State.floodOn
  repeat' first
    | (with_reducible intro x; with_reducible refine Touch.cutP (m := 256) (s := s) (x := x) (fun hx => ?_) ?_; (clear_value x; rotate_left; subst x))
    | with_reducible intro accT accX
    | with_reducible apply Touch.refl
    | with_reducible assumption
    | ((with_reducible apply Touch.then ?_ (State.tx_touch _ _) ?_); rotate_left; decide)
    | fail_if_no_progress ((with_reducible apply Touch.set_psg); rotate_left; decide)
    | with_reducible apply Touch.foldl'
    | apply Touch.ite

theorem State.flood_touch (s : State) (f : LatFlit) (except : Option Nat) :
    Touch 256 s (State.flood s f except) := by
  unfold State.flood
  repeat' first
    | with_reducible apply Touch.refl
    | ((with_reducible apply Touch.then ?_ (State.floodOn_touch _ _ _ _) ?_); rotate_left; decide)

theorem State.sendIdent_touch (s : State) (p : Nat) :
    Touch 256 s (State.sendIdent s p) := by
  unfold State.sendIdent
  repeat' first
    | with_reducible apply Touch.refl
    | ((with_reducible apply Touch.then ?_ (State.tx_touch _ _) ?_); rotate_left; decide)

theorem State.sendIdents_touch (s : State) :
    Touch 256 s (State.sendIdents s) := by
  unfold State.sendIdents
  repeat' first
    | with_reducible intro accT accX
    | with_reducible apply Touch.refl
    | ((with_reducible apply Touch.then ?_ (State.sendIdent_touch _ _) ?_); rotate_left; decide)
    | with_reducible apply Touch.foldl'

theorem State.floodFault_touch (s : State) (t : BitVec 64) :
    Touch 256 s (State.floodFault s t) := by
  unfold State.floodFault
  repeat' first
    | with_reducible apply Touch.refl
    | ((with_reducible apply Touch.then ?_ (State.flood_touch _ _ _) ?_); rotate_left; decide)

/-! LinkOps -/

theorem State.landParity_touch (s : State) (p f i : Nat) :
    Touch 131091 s (State.landParity s p f i) := by
  unfold State.landParity
  repeat' first
    | with_reducible apply Touch.refl
    | ((with_reducible apply Touch.then ?_ (State.recordPsg_touch _ _ _ _) ?_); rotate_left; decide)
    | apply Touch.ite

theorem State.landPosition_touch (s : State) (p f close : Nat) (vals : List Bool) (i : Nat) :
    Touch 131099 s (State.landPosition s p f close vals i) := by
  unfold State.landPosition
  repeat' first
    | (with_reducible intro x; with_reducible refine Touch.cutP (m := 131099) (s := s) (x := x) (fun hx => ?_) ?_; (clear_value x; rotate_left; subst x))
    | with_reducible apply Touch.refl
    | with_reducible assumption
    | ((with_reducible apply Touch.then ?_ (State.landParity_touch _ _ _ _) ?_); rotate_left; decide)
    | fail_if_no_progress ((with_reducible apply Touch.set_fab); rotate_left; decide)
    | apply Touch.ite

theorem State.forwardFlit_touch (s : State) (x : SlotFlit) (d : Nat × Nat × Nat) :
    Touch 131347 s (State.forwardFlit s x d) := by
  unfold State.forwardFlit
  repeat' first
    | (with_reducible intro x; with_reducible refine Touch.cutP (m := 131347) (s := s) (x := x) (fun hx => ?_) ?_; (clear_value x; rotate_left; subst x))
    | with_reducible apply Touch.refl
    | with_reducible assumption
    | ((with_reducible apply Touch.then ?_ (State.frameParity_touch _ _ _) ?_); rotate_left; decide)
    | ((with_reducible apply Touch.then ?_ (State.tx_touch _ _) ?_); rotate_left; decide)
    | fail_if_no_progress ((with_reducible apply Touch.set_psg); rotate_left; decide)
    | apply Touch.ite

theorem State.takeFlit_touch (s : State) (x : SlotFlit) (close : Nat) :
    Touch 131355 s (State.takeFlit s x close) := by
  unfold State.takeFlit
  repeat' first
    | (with_reducible intro x; with_reducible refine Touch.cutP (m := 131355) (s := s) (x := x) (fun hx => ?_) ?_; (clear_value x; rotate_left; subst x))
    | with_reducible intro accT accX
    | with_reducible apply Touch.refl
    | with_reducible assumption
    | ((with_reducible apply Touch.then ?_ (State.recordPsg_touch _ _ _ _) ?_); rotate_left; decide)
    | ((with_reducible apply Touch.then ?_ (State.forwardFlit_touch _ _ _) ?_); rotate_left; decide)
    | ((with_reducible apply Touch.then ?_ (State.landPosition_touch _ _ _ _ _ _) ?_); rotate_left; decide)
    | fail_if_no_progress ((with_reducible apply Touch.set_psg); rotate_left; decide)
    | with_reducible apply Touch.foldl'
    | apply Touch.ite

theorem State.takeEarly_touch (s : State) :
    Touch 131355 s (State.takeEarly s) := by
  unfold State.takeEarly
  repeat' first
    | (with_reducible intro x; with_reducible refine Touch.cutP (m := 131355) (s := s) (x := x) (fun hx => ?_) ?_; (clear_value x; rotate_left; subst x))
    | with_reducible intro accT accX
    | with_reducible apply Touch.refl
    | with_reducible assumption
    | ((with_reducible apply Touch.then ?_ (State.takeFlit_touch _ _ _) ?_); rotate_left; decide)
    | fail_if_no_progress ((with_reducible apply Touch.set_psg); rotate_left; decide)
    | with_reducible apply Touch.foldl'

theorem State.pruneNotices_touch (s : State) (t : BitVec 64) :
    Touch 256 s (State.pruneNotices s t) := by
  unfold State.pruneNotices
  repeat' first
    | with_reducible apply Touch.refl
    | fail_if_no_progress ((with_reducible apply Touch.set_psg); rotate_left; decide)

theorem State.stopStart_touch (s : State) :
    Touch 273 s (State.stopStart s) := by
  unfold State.stopStart
  repeat' first
    | with_reducible apply Touch.refl
    | ((with_reducible apply Touch.then ?_ (State.put_touch _ _ _ _) ?_); rotate_left; decide)
    | fail_if_no_progress ((with_reducible apply Touch.set_sched_psg); rotate_left; decide; decide)
    | apply Touch.ite

theorem State.revokeStart_touch (s : State) :
    Touch 273 s (State.revokeStart s) := by
  unfold State.revokeStart
  repeat' first
    | with_reducible apply Touch.refl
    | ((with_reducible apply Touch.then ?_ (State.flood_touch _ _ _) ?_); rotate_left; decide)
    | ((with_reducible apply Touch.then ?_ (State.stopStart_touch _) ?_); rotate_left; decide)
    | apply Touch.ite

theorem State.endBarrier_touch (s : State) (st : Nat) :
    Touch 5395 s (State.endBarrier s st) := by
  unfold State.endBarrier
  repeat' first
    | (with_reducible intro x; with_reducible refine Touch.cutP (m := 5395) (s := s) (x := x) (fun hx => ?_) ?_; (clear_value x; rotate_left; subst x))
    | with_reducible apply Touch.refl
    | with_reducible assumption
    | ((with_reducible apply Touch.then ?_ (State.revokeStart_touch _) ?_); rotate_left; decide)
    | ((with_reducible apply Touch.then ?_ (State.completeOpt_touch _ _ _ _ _ _) ?_); rotate_left; decide)
    | fail_if_no_progress ((with_reducible apply Touch.set_psg); rotate_left; decide)
    | apply Touch.ite

theorem State.judgeBarrier_touch (s : State) :
    Touch 5395 s (State.judgeBarrier s) := by
  unfold State.judgeBarrier
  repeat' first
    | (with_reducible intro x; with_reducible refine Touch.cutP (m := 5395) (s := s) (x := x) (fun hx => ?_) ?_; (clear_value x; rotate_left; subst x))
    | with_reducible apply Touch.refl
    | with_reducible assumption
    | ((with_reducible apply Touch.then ?_ (State.endBarrier_touch _ _) ?_); rotate_left; decide)
    | ((with_reducible apply Touch.then ?_ (State.revokeStart_touch _) ?_); rotate_left; decide)
    | apply Touch.ite

theorem State.reportTo_touch (s : State) (d reason : Nat) :
    Touch 5395 s (State.reportTo s d reason) := by
  unfold State.reportTo
  repeat' first
    | with_reducible apply Touch.refl
    | ((with_reducible apply Touch.then ?_ (State.judgeBarrier_touch _) ?_); rotate_left; decide)
    | fail_if_no_progress ((with_reducible apply Touch.set_psg); rotate_left; decide)
    | apply Touch.ite

theorem State.reportHalt_touch (s : State) :
    Touch 5395 s (State.reportHalt s) := by
  unfold State.reportHalt
  repeat' first
    | with_reducible apply Touch.refl
    | ((with_reducible apply Touch.then ?_ (State.reportTo_touch _ _ _) ?_); rotate_left; decide)
    | fail_if_no_progress ((with_reducible apply Touch.set_psg); rotate_left; decide)
    | split

theorem State.sendTunnel_touch (s : State) (p ttl : Nat) (k : NocPkt) :
    Touch 256 s (State.sendTunnel s p ttl k) := by
  unfold State.sendTunnel
  repeat' first
    | with_reducible apply Touch.refl
    | fail_if_no_progress ((with_reducible apply Touch.set_psg); rotate_left; decide)

theorem drainTunnel_touch (l k : List (Nat × Nat × NocPkt)) (s : State) : Touch 2304 s (drainTunnel l k s) := by
  induction l generalizing k s with
  | nil => exact Touch.set_noc (Touch.refl _ _) (by decide)
  | cons e t ih =>
    unfold drainTunnel
    split
    · exact ((State.sendTunnel_touch s _ _ _).mono (by decide)).then (ih _ _) (by decide)
    · exact ih _ _

theorem State.drained_touch (s : State) :
    Touch 2304 s (State.drained s) := by
  unfold State.drained
  repeat' first
    | with_reducible apply Touch.refl
    | ((with_reducible apply Touch.then ?_ (drainTunnel_touch _ _ _) ?_); rotate_left; decide)

theorem State.tunnel_touch (s : State) (p ttl : Nat) (k : NocPkt) :
    Touch 2304 s (State.tunnel s p ttl k) := by
  unfold State.tunnel
  repeat' first
    | with_reducible apply Touch.refl
    | ((with_reducible apply Touch.then ?_ (State.drained_touch _) ?_); rotate_left; decide)
    | fail_if_no_progress ((with_reducible apply Touch.set_noc); rotate_left; decide)

theorem State.giveCredit_touch (s : State) (p : Nat) (k : NocPkt) :
    Touch 256 s (State.giveCredit s p k) := by
  unfold State.giveCredit
  repeat' first
    | with_reducible apply Touch.refl
    | ((with_reducible apply Touch.then ?_ (State.tx_touch _ _) ?_); rotate_left; decide)

/-! MbxOps -/

theorem State.showCores_touch (s : State) :
    Touch 1 s (State.showCores s) := by
  unfold State.showCores
  repeat' first
    | with_reducible intro accT accX
    | with_reducible apply Touch.refl
    | ((with_reducible apply Touch.then ?_ (State.put_touch _ _ _ _) ?_); rotate_left; decide)
    | with_reducible apply Touch.foldl'
    | apply Touch.ite

theorem State.start_touch (s : State) (c : CmdId) :
    Touch 1025 s (State.start s c) := by
  unfold State.start
  repeat' first
    | with_reducible apply Touch.refl
    | ((with_reducible apply Touch.then ?_ (State.queueStatus_touch _ _) ?_); rotate_left; decide)
    | fail_if_no_progress ((with_reducible apply Touch.set_mbx); rotate_left; decide)
    | apply Touch.ite

theorem State.begin_touch (s : State) (c : CmdId) (cls : CmdClass) :
    Touch 1025 s (State.begin s c cls) := by
  unfold State.begin
  repeat' first
    | (with_reducible intro x; with_reducible refine Touch.cutP (m := 1025) (s := s) (x := x) (fun hx => ?_) ?_; (clear_value x; rotate_left; subst x))
    | with_reducible apply Touch.refl
    | with_reducible assumption
    | ((with_reducible apply Touch.then ?_ (State.start_touch _ _) ?_); rotate_left; decide)
    | fail_if_no_progress ((with_reducible apply Touch.set_mbx); rotate_left; decide)

theorem State.setReady_touch (s : State) (n : Nat) (v : Bool) :
    Touch 1 s (State.setReady s n v) := by
  unfold State.setReady
  repeat' first
    | with_reducible apply Touch.refl
    | ((with_reducible apply Touch.then ?_ (State.put_touch _ _ _ _) ?_); rotate_left; decide)

theorem State.command_touch {m : Nat} (s : State) (h : Hdr) (row : Instr) (takesTarget : Bool) (needs : List Nat)
    (f : CmdId → State → State) (always : Bool) (cls : CmdClass) (buf : HostBuf) (ok : Bool)
    (hf : ∀ c t, Touch m t (f c t)) (hm : 5123 &&& m = 5123) :
    OutTouch m s (State.command s h row takesTarget needs f always cls buf ok) := by
  have sub : ∀ a, a &&& 5123 = a → a &&& m = a := fun a h => by rw [← h, Nat.and_assoc, hm]
  have done : ∀ (t : State) c st a b r, Touch m t (t.complete c st a b r) := fun t c st a b r =>
    (State.complete_touch t c st a b r).mono (sub _ (by decide))
  have start : Touch m s (s.begin (cmdOf h) cls) := (State.begin_touch s _ _).mono (sub _ (by decide))
  have free : ∀ t : State, Touch m t t.used := fun t => (State.used_touch t).mono (sub _ (by decide))
  have self : m &&& m = m := Nat.and_self m
  unfold State.command
  extract_lets c t
  split
  · exact OutTouch.next (Touch.refl _ _)
  · split
    · exact OutTouch.next ((start.then (free _) self).then (done _ _ _ _ _ _) self)
    · split
      · exact OutTouch.next (start.then (done _ _ _ _ _ _) self)
      · split
        · exact OutTouch.next (start.then (done _ _ _ _ _ _) self)
        · exact OutTouch.next (start.then (hf _ _) self)

theorem State.await_touch (s : State) (act : BoundaryAct) (target : Option (BitVec 64)) (c : Option CmdId) :
    Touch 16 s (State.await s act target c) := by
  unfold State.await
  repeat' first
    | with_reducible apply Touch.refl
    | fail_if_no_progress ((with_reducible apply Touch.set_sched); rotate_left; decide)

theorem State.dropPending_touch (s : State) (p : Pending) :
    Touch 16 s (State.dropPending s p) := by
  unfold State.dropPending
  repeat' first
    | with_reducible apply Touch.refl
    | fail_if_no_progress ((with_reducible apply Touch.set_sched); rotate_left; decide)

theorem State.awaitCmd_touch (s : State) (act : BoundaryAct) (target : Option (BitVec 64)) (c : CmdId) :
    Touch 5139 s (State.awaitCmd s act target c) := by
  unfold State.awaitCmd
  repeat' first
    | with_reducible apply Touch.refl
    | ((with_reducible apply Touch.then ?_ (State.complete_touch _ _ _ _ _ _) ?_); rotate_left; decide)
    | ((with_reducible apply Touch.then ?_ (State.await_touch _ _ _ _) ?_); rotate_left; decide)
    | split

theorem State.regrid_touch (s : State) :
    Touch 16 s (State.regrid s) := by
  unfold State.regrid
  repeat' first
    | with_reducible apply Touch.refl
    | fail_if_no_progress ((with_reducible apply Touch.set_sched); rotate_left; decide)
    | apply Touch.ite

theorem State.wakeIdle_touch (s : State) :
    Touch 1097729 s (State.wakeIdle s) := by
  unfold State.wakeIdle
  repeat' first
    | with_reducible intro accT accX
    | with_reducible apply Touch.refl
    | ((with_reducible apply Touch.then ?_ (State.galleryOn_touch _ _) ?_); rotate_left; decide)
    | with_reducible apply Touch.foldl'

theorem State.goRunning_touch (s : State) :
    Touch 1097745 s (State.goRunning s) := by
  unfold State.goRunning
  repeat' first
    | (with_reducible intro x; with_reducible refine Touch.cutP (m := 1097745) (s := s) (x := x) (fun hx => ?_) ?_; (clear_value x; rotate_left; subst x))
    | with_reducible apply Touch.refl
    | with_reducible assumption
    | ((with_reducible apply Touch.then ?_ (State.put_touch _ _ _ _) ?_); rotate_left; decide)
    | ((with_reducible apply Touch.then ?_ (State.wakeIdle_touch _) ?_); rotate_left; decide)
    | fail_if_no_progress ((with_reducible apply Touch.set_sched); rotate_left; decide)
    | apply Touch.ite

theorem State.cancelPending_touch (s : State) (p : Pending → Bool) :
    Touch 5139 s (State.cancelPending s p) := by
  unfold State.cancelPending
  repeat' first
    | (with_reducible intro x; with_reducible refine Touch.cutP (m := 5139) (s := s) (x := x) (fun hx => ?_) ?_; (clear_value x; rotate_left; subst x))
    | with_reducible intro accT accX
    | with_reducible apply Touch.refl
    | with_reducible assumption
    | ((with_reducible apply Touch.then ?_ (State.completeOpt_touch _ _ _ _ _ _) ?_); rotate_left; decide)
    | fail_if_no_progress ((with_reducible apply Touch.set_sched); rotate_left; decide)
    | with_reducible apply Touch.foldl'

/-! RimOps -/

theorem State.usedN_touch (s : State) (n : Nat) :
    Touch 2 s (State.usedN s n) := by
  unfold State.usedN
  repeat' first
    | with_reducible apply Touch.refl
    | fail_if_no_progress ((with_reducible apply Touch.set_freeCtr); rotate_left; decide)

theorem State.settleReset_touch (s0 s : State) (m : Nat) :
    Touch 128 s (State.settleReset s0 s m) := by
  unfold State.settleReset
  repeat' first
    | with_reducible apply Touch.refl
    | fail_if_no_progress ((with_reducible apply Touch.set_rim); rotate_left; decide)
    | apply Touch.ite

theorem State.settleWire_touch (s0 s : State) (m : Nat) :
    Touch 128 s (State.settleWire s0 s m) := by
  unfold State.settleWire
  repeat' first
    | with_reducible apply Touch.refl
    | fail_if_no_progress ((with_reducible apply Touch.set_rim); rotate_left; decide)
    | apply Touch.ite

theorem State.settle_touch (s : State) :
    Touch 128 s (State.settle s) := by
  unfold State.settle
  repeat' first
    | (with_reducible intro x; with_reducible refine Touch.cutP (m := 128) (s := s) (x := x) (fun hx => ?_) ?_; (clear_value x; rotate_left; subst x))
    | with_reducible intro accT accX
    | with_reducible apply Touch.refl
    | with_reducible assumption
    | fail_if_no_progress ((with_reducible apply Touch.set_rim); rotate_left; decide)
    | with_reducible apply Touch.foldl'
    | apply Touch.ite

theorem State.clockPin_touch (s0 s : State) (samples : List (Fin 192 × BitVec 16)) (p : Nat) :
    Touch 128 s (State.clockPin s0 s samples p) := by
  unfold State.clockPin
  repeat' first
    | with_reducible apply Touch.refl
    | fail_if_no_progress ((with_reducible apply Touch.set_rim); rotate_left; decide)

theorem State.takeSamples_touch (s : State) (samples : List (Fin 192 × BitVec 16)) :
    Touch 128 s (State.takeSamples s samples) := by
  unfold State.takeSamples
  repeat' first
    | with_reducible apply Touch.refl
    | fail_if_no_progress ((with_reducible apply Touch.set_rim); rotate_left; decide)

theorem State.stepSync_touch (s0 s : State) (p : Nat) :
    Touch 128 s (State.stepSync s0 s p) := by
  unfold State.stepSync
  repeat' first
    | with_reducible apply Touch.refl
    | fail_if_no_progress ((with_reducible apply Touch.set_rim); rotate_left; decide)

theorem State.clearBank_touch (s : State) (b : Nat) :
    Touch 128 s (State.clearBank s b) := by
  unfold State.clearBank
  repeat' first
    | with_reducible apply Touch.refl
    | fail_if_no_progress ((with_reducible apply Touch.set_rim); rotate_left; decide)

theorem State.setVioOk_touch (s : State) (b : Nat) :
    Touch 1 s (State.setVioOk s b) := by
  unfold State.setVioOk
  repeat' first
    | with_reducible apply Touch.refl
    | ((with_reducible apply Touch.then ?_ (State.put_touch _ _ _ _) ?_); rotate_left; decide)

theorem State.vioLimits_touch (s : State) (b : Nat) :
    Touch 1 s (State.vioLimits s b) := by
  unfold State.vioLimits
  repeat' first
    | with_reducible apply Touch.refl
    | ((with_reducible apply Touch.then ?_ (State.setReg_touch _ _ _) ?_); rotate_left; decide)

theorem State.releaseBank_touch (s : State) (b : Nat) :
    Touch 129 s (State.releaseBank s b) := by
  unfold State.releaseBank
  repeat' first
    | (with_reducible intro x; with_reducible refine Touch.cutP (m := 129) (s := s) (x := x) (fun hx => ?_) ?_; (clear_value x; rotate_left; subst x))
    | with_reducible intro accT accX
    | with_reducible apply Touch.refl
    | with_reducible assumption
    | ((with_reducible apply Touch.then ?_ (State.put_touch _ _ _ _) ?_); rotate_left; decide)
    | ((with_reducible apply Touch.then ?_ (State.setVioOk_touch _ _) ?_); rotate_left; decide)
    | ((with_reducible apply Touch.then ?_ (State.vioLimits_touch _ _) ?_); rotate_left; decide)
    | fail_if_no_progress ((with_reducible apply Touch.set_rim); rotate_left; decide)
    | with_reducible apply Touch.foldl'

/-! Rimstone -/

theorem State.clockMc_touch (s0 s : State) (m : Nat) :
    Touch 128 s (State.clockMc s0 s m) := by
  unfold State.clockMc
  repeat' first
    | with_reducible apply Touch.refl
    | fail_if_no_progress ((with_reducible apply Touch.set_rim); rotate_left; decide)
    | apply Touch.ite

theorem State.closeLatch_touch (s0 s : State) (m : Nat) :
    Touch 128 s (State.closeLatch s0 s m) := by
  unfold State.closeLatch
  repeat' first
    | with_reducible apply Touch.refl
    | fail_if_no_progress ((with_reducible apply Touch.set_rim); rotate_left; decide)
    | apply Touch.ite

theorem State.rxByte_touch (s : State) (p n : Nat) :
    Touch 128 s (State.rxByte s p n) := by
  unfold State.rxByte
  repeat' first
    | with_reducible apply Touch.refl
    | fail_if_no_progress ((with_reducible apply Touch.set_rim); rotate_left; decide)

theorem State.spReceive_touch (s0 s : State) (p : Nat) :
    Touch 384 s (State.spReceive s0 s p) := by
  unfold State.spReceive
  repeat' first
    | with_reducible apply Touch.refl
    | with_reducible apply Touch.ite
    | ((with_reducible apply Touch.then ?_ (State.rxByte_touch _ _ _) ?_); rotate_left; decide)
    | ((with_reducible apply Touch.then ?_ (State.tx_touch _ _) ?_); rotate_left; decide)
    | fail_if_no_progress ((with_reducible apply Touch.set_rim); rotate_left; decide)
    | split
    | apply Touch.ite

theorem State.spClock_touch (s0 s : State) (p : Nat) :
    Touch 384 s (State.spClock s0 s p) := by
  unfold State.spClock
  repeat' first
    | (with_reducible intro x; with_reducible refine Touch.cutP (m := 384) (s := s) (x := x) (fun hx => ?_) ?_; (clear_value x; rotate_left; subst x))
    | with_reducible apply Touch.refl
    | with_reducible assumption
    | ((with_reducible apply Touch.then ?_ (State.spReceive_touch _ _ _) ?_); rotate_left; decide)
    | fail_if_no_progress ((with_reducible apply Touch.set_rim); rotate_left; decide)
    | apply Touch.ite

theorem State.tree0Tick_touch (s0 s : State) :
    Touch 384 s (State.tree0Tick s0 s) := by
  unfold State.tree0Tick
  repeat' first
    | (with_reducible intro x; with_reducible refine Touch.cutP (m := 384) (s := s) (x := x) (fun hx => ?_) ?_; (clear_value x; rotate_left; subst x))
    | with_reducible intro accT accX
    | with_reducible apply Touch.refl
    | with_reducible assumption
    | ((with_reducible apply Touch.then ?_ (State.spClock_touch _ _ _) ?_); rotate_left; decide)
    | ((with_reducible apply Touch.then ?_ (State.stepSync_touch _ _ _) ?_); rotate_left; decide)
    | fail_if_no_progress ((with_reducible apply Touch.set_rim); rotate_left; decide)
    | with_reducible apply Touch.foldl'

theorem State.pwEdge_touch (s : State) :
    Touch 128 s (State.pwEdge s) := by
  unfold State.pwEdge
  repeat' first
    | with_reducible apply Touch.refl
    | fail_if_no_progress ((with_reducible apply Touch.set_rim); rotate_left; decide)

theorem State.clockTree_touch (s : State) (t : Nat) (rising : Bool) (samples : List (Fin 192 × BitVec 16)) :
    Touch 386 s (State.clockTree s t rising samples) := by
  unfold State.clockTree
  repeat' first
    | with_reducible intro accT accX
    | with_reducible apply Touch.refl
    | with_reducible assumption
    | ((with_reducible apply Touch.then ?_ (State.tree0Tick_touch _ _) ?_); rotate_left; decide)
    | ((with_reducible apply Touch.then ?_ (State.clockPin_touch _ _ _ _) ?_); rotate_left; decide)
    | ((with_reducible apply Touch.then ?_ (State.pwEdge_touch _) ?_); rotate_left; decide)
    | ((with_reducible apply Touch.then ?_ (State.usedN_touch _ _) ?_); rotate_left; decide)
    | fail_if_no_progress ((with_reducible apply Touch.set_rim); rotate_left; decide)
    | with_reducible apply Touch.foldl'
    | apply Touch.ite

theorem execMacrocellClockEdge_touch (t : Fin 4) (rising : Bool) (samples : List (Fin 192 × BitVec 16)) (s : State) :
    OutTouch 386 s (execMacrocellClockEdge t rising samples s) := by
  unfold execMacrocellClockEdge
  repeat' first
    | (with_reducible intro x; with_reducible refine Touch.cutP (m := 386) (s := s) (x := x) (fun hx => ?_) ?_; (clear_value x; rotate_left; subst x))
    | with_reducible apply Touch.refl
    | with_reducible assumption
    | with_reducible apply OutTouch.next
    | ((with_reducible apply Touch.then ?_ (State.clockTree_touch _ _ _ _) ?_); rotate_left; decide)
    | ((with_reducible apply Touch.then ?_ (State.settle_touch _) ?_); rotate_left; decide)
    | ((with_reducible apply Touch.then ?_ (State.takeSamples_touch _ _) ?_); rotate_left; decide)
    | ((with_reducible apply Touch.then ?_ (State.usedN_touch _ _) ?_); rotate_left; decide)
    | apply Touch.ite
    | apply OutTouch.ite

theorem State.pwLost_touch (s : State) (f : Field) :
    Touch 131091 s (State.pwLost s f) := by
  unfold State.pwLost
  repeat' first
    | with_reducible apply Touch.refl
    | ((with_reducible apply Touch.then ?_ (State.detect_touch _ _ _ _ _) ?_); rotate_left; decide)
    | ((with_reducible apply Touch.then ?_ (State.bump_touch _ _ _ _) ?_); rotate_left; decide)
    | ((with_reducible apply Touch.then ?_ (State.raise_touch _ _ _) ?_); rotate_left; decide)

theorem State.leaveWord_touch (s : State) (w : PinWord) (retries : Option Nat) :
    Touch 131219 s (State.leaveWord s w retries) := by
  unfold State.leaveWord
  repeat' first
    | split
    | with_reducible apply Touch.refl
    | ((with_reducible apply Touch.then ?_ (State.pwLost_touch _ _) ?_); rotate_left; decide)
    | fail_if_no_progress ((with_reducible apply Touch.set_rim); rotate_left; decide)
    | apply Touch.ite

theorem execPinWordSend_touch (retries : Option Nat) (s : State) :
    OutTouch 131219 s (execPinWordSend retries s) := by
  unfold execPinWordSend
  repeat' first
    | with_reducible apply Touch.refl
    | with_reducible apply OutTouch.next
    | ((with_reducible apply Touch.then ?_ (State.leaveWord_touch _ _ _) ?_); rotate_left; decide)
    | fail_if_no_progress ((with_reducible apply Touch.set_rim); rotate_left; decide)
    | split

theorem State.applyWord_touch (s : State) (w : PinWord) (late : Bool) :
    Touch 131 s (State.applyWord s w late) := by
  unfold State.applyWord
  repeat' first
    | (with_reducible intro x; with_reducible refine Touch.cutP (m := 131) (s := s) (x := x) (fun hx => ?_) ?_; (clear_value x; rotate_left; subst x))
    | with_reducible apply Touch.refl
    | with_reducible assumption
    | ((with_reducible apply Touch.then ?_ (State.settle_touch _) ?_); rotate_left; decide)
    | ((with_reducible apply Touch.then ?_ (State.bump_touch _ _ _ _) ?_); rotate_left; decide)
    | ((with_reducible apply Touch.then ?_ (State.raise_touch _ _ _) ?_); rotate_left; decide)
    | ((with_reducible apply Touch.then ?_ (State.usedN_touch _ _) ?_); rotate_left; decide)
    | fail_if_no_progress ((with_reducible apply Touch.set_rim); rotate_left; decide)
    | with_reducible apply Touch.foldl'
    | with_reducible apply Touch.foldlFst
    | with_reducible apply Touch.foldlSnd
    | split
    | apply Touch.ite

theorem execPinWordApply_touch (late : Bool) (s : State) :
    OutTouch 131 s (execPinWordApply late s) := by
  unfold execPinWordApply
  repeat' first
    | (with_reducible intro x; with_reducible refine Touch.cutP (m := 131) (s := s) (x := x) (fun hx => ?_) ?_; (clear_value x; rotate_left; subst x))
    | with_reducible apply Touch.refl
    | with_reducible assumption
    | with_reducible apply OutTouch.next
    | ((with_reducible apply Touch.then ?_ (State.applyWord_touch _ _ _) ?_); rotate_left; decide)
    | fail_if_no_progress ((with_reducible apply Touch.set_rim); rotate_left; decide)
    | split

theorem execTickStrobe_touch (s : State) :
    OutTouch 128 s (execTickStrobe s) := by
  unfold execTickStrobe
  repeat' first
    | with_reducible apply Touch.refl
    | with_reducible apply OutTouch.next
    | ((with_reducible apply Touch.then ?_ (State.settle_touch _) ?_); rotate_left; decide)
    | fail_if_no_progress ((with_reducible apply Touch.set_rim); rotate_left; decide)
    | apply OutTouch.ite

theorem execInputWordSample_touch (s : State) :
    OutTouch 130 s (execInputWordSample s) := by
  unfold execInputWordSample
  repeat' first
    | with_reducible apply Touch.refl
    | with_reducible apply OutTouch.next
    | ((with_reducible apply Touch.then ?_ (State.usedN_touch _ _) ?_); rotate_left; decide)
    | fail_if_no_progress ((with_reducible apply Touch.set_rim); rotate_left; decide)
    | apply OutTouch.ite

theorem execInputWordComplete_touch (dropped : Bool) (s : State) :
    OutTouch 131219 s (execInputWordComplete dropped s) := by
  unfold execInputWordComplete
  repeat' first
    | (with_reducible intro x; with_reducible refine Touch.cutP (m := 131219) (s := s) (x := x) (fun hx => ?_) ?_; (clear_value x; rotate_left; subst x))
    | with_reducible apply Touch.refl
    | with_reducible assumption
    | with_reducible apply OutTouch.next
    | ((with_reducible apply Touch.then ?_ (State.pwLost_touch _ _) ?_); rotate_left; decide)
    | ((with_reducible apply Touch.then ?_ (State.raise_touch _ _ _) ?_); rotate_left; decide)
    | fail_if_no_progress ((with_reducible apply Touch.set_rim); rotate_left; decide)
    | fail_if_no_progress ((with_reducible apply Touch.set_sched); rotate_left; decide)
    | split
    | apply OutTouch.ite

theorem State.wireStatus_touch (s : State) :
    Touch 1 s (State.wireStatus s) := by
  unfold State.wireStatus
  repeat' first
    | with_reducible apply Touch.refl
    | ((with_reducible apply Touch.then ?_ (State.put_touch _ _ _ _) ?_); rotate_left; decide)
    | split

theorem execWireContention_touch (b : Bank) (w : Fin 64) (s : State) :
    OutTouch 131219 s (execWireContention b w s) := by
  unfold execWireContention
  repeat' first
    | (with_reducible intro x; with_reducible refine Touch.cutP (m := 131219) (s := s) (x := x) (fun hx => ?_) ?_; (clear_value x; rotate_left; subst x))
    | with_reducible apply Touch.refl
    | with_reducible assumption
    | with_reducible apply OutTouch.next
    | ((with_reducible apply Touch.then ?_ (State.detect_touch _ _ _ _ _) ?_); rotate_left; decide)
    | ((with_reducible apply Touch.then ?_ (State.raise_touch _ _ _) ?_); rotate_left; decide)
    | ((with_reducible apply Touch.then ?_ (State.wireStatus_touch _) ?_); rotate_left; decide)
    | fail_if_no_progress ((with_reducible apply Touch.set_rim); rotate_left; decide)
    | apply OutTouch.ite

theorem State.scrubLoc_touch (s : State) (f : Nat) :
    Touch 1 s (State.scrubLoc s f) := by
  unfold State.scrubLoc
  repeat' first
    | with_reducible apply Touch.refl
    | ((with_reducible apply Touch.then ?_ (State.put_touch _ _ _ _) ?_); rotate_left; decide)
    | ((with_reducible apply Touch.then ?_ (State.raise_touch _ _ _) ?_); rotate_left; decide)
    | apply Touch.ite

theorem State.scrubFrame_touch (mapsBad : Bool) (golden : List Nat) (s : State) (f : Nat) :
    Touch 131219 s (State.scrubFrame mapsBad golden s f) := by
  unfold State.scrubFrame
  repeat' first
    | (with_reducible intro x; with_reducible refine Touch.cutP (m := 131219) (s := s) (x := x) (fun hx => ?_) ?_; (clear_value x; rotate_left; subst x))
    | with_reducible apply Touch.refl
    | with_reducible assumption
    | ((with_reducible apply Touch.then ?_ (State.detect_touch _ _ _ _ _) ?_); rotate_left; decide)
    | ((with_reducible apply Touch.then ?_ (State.scrubLoc_touch _ _) ?_); rotate_left; decide)
    | ((with_reducible apply Touch.then ?_ (State.bump_touch _ _ _ _) ?_); rotate_left; decide)
    | ((with_reducible apply Touch.then ?_ (State.raise_touch _ _ _) ?_); rotate_left; decide)
    | fail_if_no_progress ((with_reducible apply Touch.set_rim); rotate_left; decide)
    | split

theorem State.recheckWire_touch (s : State) (w : Nat × Nat) :
    Touch 131219 s (State.recheckWire s w) := by
  unfold State.recheckWire
  repeat' first
    | (with_reducible intro x; with_reducible refine Touch.cutP (m := 131219) (s := s) (x := x) (fun hx => ?_) ?_; (clear_value x; rotate_left; subst x))
    | with_reducible apply Touch.refl
    | with_reducible assumption
    | ((with_reducible apply Touch.then ?_ (State.detect_touch _ _ _ _ _) ?_); rotate_left; decide)
    | ((with_reducible apply Touch.then ?_ (State.raise_touch _ _ _) ?_); rotate_left; decide)
    | fail_if_no_progress ((with_reducible apply Touch.set_rim); rotate_left; decide)
    | apply Touch.ite

theorem State.scrubInject_touch (s : State) (code unit : Nat) (e : EccMark) :
    Touch 131203 s (State.scrubInject s code unit e) := by
  unfold State.scrubInject
  repeat' first
    | with_reducible apply Touch.refl
    | ((with_reducible apply Touch.then ?_ (State.useArmed_touch _ _ _ _) ?_); rotate_left; decide)
    | fail_if_no_progress ((with_reducible apply Touch.set_rim); rotate_left; decide)
    | apply Touch.ite

theorem State.voteFix_touch (s : State) :
    Touch 131219 s (State.voteFix s) := by
  unfold State.voteFix
  repeat' first
    | (with_reducible intro x; with_reducible refine Touch.cutP (m := 131219) (s := s) (x := x) (fun hx => ?_) ?_; (clear_value x; rotate_left; subst x))
    | with_reducible apply Touch.refl
    | with_reducible assumption
    | ((with_reducible apply Touch.then ?_ (State.detect_touch _ _ _ _ _) ?_); rotate_left; decide)
    | ((with_reducible apply Touch.then ?_ (State.bump_touch _ _ _ _) ?_); rotate_left; decide)
    | fail_if_no_progress ((with_reducible apply Touch.set_rim); rotate_left; decide)

theorem execScrubPass_touch (x : ScrubFinding) (s : State) :
    OutTouch 131219 s (execScrubPass x s) := by
  unfold execScrubPass
  repeat' first
    | with_reducible intro accT accX
    | with_reducible apply Touch.refl
    | with_reducible assumption
    | with_reducible apply OutTouch.next
    | ((with_reducible apply Touch.then ?_ (State.detect_touch _ _ _ _ _) ?_); rotate_left; decide)
    | ((with_reducible apply Touch.then ?_ (State.scrubFrame_touch _ _ _ _) ?_); rotate_left; decide)
    | ((with_reducible apply Touch.then ?_ (State.recheckWire_touch _ _) ?_); rotate_left; decide)
    | ((with_reducible apply Touch.then ?_ (State.voteFix_touch _) ?_); rotate_left; decide)
    | ((with_reducible apply Touch.then ?_ (State.put_touch _ _ _ _) ?_); rotate_left; decide)
    | ((with_reducible apply Touch.then ?_ (State.scrubInject_touch _ _ _ _) ?_); rotate_left; decide)
    | ((with_reducible apply Touch.then ?_ (State.wireStatus_touch _) ?_); rotate_left; decide)
    | fail_if_no_progress ((with_reducible apply Touch.set_rim); rotate_left; decide)
    | with_reducible apply Touch.foldl'
    | apply Touch.ite
    | apply OutTouch.ite

theorem execScrubStall_touch (s : State) :
    OutTouch 131219 s (execScrubStall s) := by
  unfold execScrubStall
  repeat' first
    | with_reducible apply Touch.refl
    | with_reducible apply OutTouch.next
    | ((with_reducible apply Touch.then ?_ (State.detect_touch _ _ _ _ _) ?_); rotate_left; decide)
    | ((with_reducible apply Touch.then ?_ (State.raise_touch _ _ _) ?_); rotate_left; decide)
    | fail_if_no_progress ((with_reducible apply Touch.set_rim); rotate_left; decide)
    | apply OutTouch.ite

theorem execOscLock_touch (k : Fin 4) (s : State) :
    OutTouch 1 s (execOscLock k s) := by
  unfold execOscLock
  repeat' first
    | with_reducible apply Touch.refl
    | with_reducible apply OutTouch.next
    | ((with_reducible apply Touch.then ?_ (State.raise_touch _ _ _) ?_); rotate_left; decide)
    | apply OutTouch.ite

theorem execSwReset_touch (r : Fin 2) (v : Bool) (s : State) :
    OutTouch 131 s (execSwReset r v s) := by
  unfold execSwReset
  repeat' first
    | with_reducible apply Touch.refl
    | with_reducible apply OutTouch.next
    | ((with_reducible apply Touch.then ?_ (State.settle_touch _) ?_); rotate_left; decide)
    | ((with_reducible apply Touch.then ?_ (State.put_touch _ _ _ _) ?_); rotate_left; decide)
    | ((with_reducible apply Touch.then ?_ (State.usedN_touch _ _) ?_); rotate_left; decide)

theorem execFabricFlashRead_touch (s : State) :
    OutTouch 130 s (execFabricFlashRead s) := by
  unfold execFabricFlashRead
  repeat' first
    | with_reducible apply Touch.refl
    | with_reducible apply OutTouch.next
    | ((with_reducible apply Touch.then ?_ (State.usedN_touch _ _) ?_); rotate_left; decide)
    | fail_if_no_progress ((with_reducible apply Touch.set_rim); rotate_left; decide)
    | apply OutTouch.ite

theorem execFlashDataValid_touch (s : State) :
    OutTouch 128 s (execFlashDataValid s) := by
  unfold execFlashDataValid
  repeat' first
    | with_reducible apply Touch.refl
    | with_reducible apply OutTouch.next
    | ((with_reducible apply Touch.then ?_ (State.settle_touch _) ?_); rotate_left; decide)
    | fail_if_no_progress ((with_reducible apply Touch.set_rim); rotate_left; decide)
    | split

theorem State.uflStart_touch (s : State) (op : UflOp) :
    Touch 131219 s (State.uflStart s op) := by
  unfold State.uflStart
  repeat' first
    | with_reducible apply Touch.refl
    | ((with_reducible apply Touch.then ?_ (State.detect_touch _ _ _ _ _) ?_); rotate_left; decide)
    | ((with_reducible apply Touch.then ?_ (State.raise_touch _ _ _) ?_); rotate_left; decide)
    | fail_if_no_progress ((with_reducible apply Touch.set_rim); rotate_left; decide)
    | apply Touch.ite

theorem execUflProgram_touch (s : State) :
    OutTouch 131219 s (execUflProgram s) := by
  unfold execUflProgram
  repeat' first
    | with_reducible apply Touch.refl
    | with_reducible apply OutTouch.next
    | ((with_reducible apply Touch.then ?_ (State.uflStart_touch _ _) ?_); rotate_left; decide)

theorem execUflErase_touch (s : State) :
    OutTouch 131219 s (execUflErase s) := by
  unfold execUflErase
  repeat' first
    | with_reducible apply Touch.refl
    | with_reducible apply OutTouch.next
    | ((with_reducible apply Touch.then ?_ (State.uflStart_touch _ _) ?_); rotate_left; decide)

theorem execUflOpEnd_touch (s : State) :
    OutTouch 129 s (execUflOpEnd s) := by
  unfold execUflOpEnd
  repeat' first
    | (with_reducible intro x; with_reducible refine Touch.cutP (m := 129) (s := s) (x := x) (fun hx => ?_) ?_; (clear_value x; rotate_left; subst x))
    | with_reducible apply Touch.refl
    | with_reducible assumption
    | with_reducible apply OutTouch.next
    | ((with_reducible apply Touch.then ?_ (State.put_touch _ _ _ _) ?_); rotate_left; decide)
    | fail_if_no_progress ((with_reducible apply Touch.set_rim); rotate_left; decide)
    | split

theorem execSpDataWrite_touch (p : Sp) (b : Byte) (s : State) :
    OutTouch 385 s (execSpDataWrite p b s) := by
  unfold execSpDataWrite
  repeat' first
    | with_reducible apply Touch.refl
    | with_reducible apply OutTouch.next
    | ((with_reducible apply Touch.then ?_ (State.settle_touch _) ?_); rotate_left; decide)
    | ((with_reducible apply Touch.then ?_ (State.raise_touch _ _ _) ?_); rotate_left; decide)
    | fail_if_no_progress ((with_reducible apply Touch.set_rim); rotate_left; decide)
    | apply OutTouch.ite

theorem execSpDataRead_touch (p : Sp) (s : State) :
    OutTouch 4224 s (execSpDataRead p s) := by
  unfold execSpDataRead
  repeat' first
    | with_reducible apply Touch.refl
    | with_reducible apply OutTouch.next
    | ((with_reducible apply Touch.then ?_ (State.settle_touch _) ?_); rotate_left; decide)
    | ((with_reducible apply Touch.then ?_ (State.reply_touch _ _) ?_); rotate_left; decide)
    | fail_if_no_progress ((with_reducible apply Touch.set_rim); rotate_left; decide)
    | split

theorem execSerialByteReceive_touch (p : Sp) (b : Byte) (s : State) :
    OutTouch 129 s (execSerialByteReceive p b s) := by
  unfold execSerialByteReceive
  repeat' first
    | (with_reducible intro x; with_reducible refine Touch.cutP (m := 129) (s := s) (x := x) (fun hx => ?_) ?_; (clear_value x; rotate_left; subst x))
    | with_reducible apply Touch.refl
    | with_reducible assumption
    | with_reducible apply OutTouch.next
    | ((with_reducible apply Touch.then ?_ (State.settle_touch _) ?_); rotate_left; decide)
    | ((with_reducible apply Touch.then ?_ (State.raise_touch _ _ _) ?_); rotate_left; decide)
    | fail_if_no_progress ((with_reducible apply Touch.set_rim); rotate_left; decide)
    | split
    | apply OutTouch.ite

theorem execSerialByteTransmit_touch (p : Sp) (s : State) :
    OutTouch 385 s (execSerialByteTransmit p s) := by
  unfold execSerialByteTransmit
  repeat' first
    | (with_reducible intro x; with_reducible refine Touch.cutP (m := 385) (s := s) (x := x) (fun hx => ?_) ?_; (clear_value x; rotate_left; subst x))
    | (with_reducible intro x; subst x)
    | with_reducible lift_lets -underBinder
    | with_reducible apply Touch.refl
    | with_reducible assumption
    | with_reducible apply OutTouch.ite
    | with_reducible apply OutTouch.next
    | with_reducible exact OutTouch.fault
    | with_reducible apply Touch.ite
    | ((with_reducible apply Touch.then ?_ (State.settle_touch _) ?_); rotate_left; decide)
    | ((with_reducible apply Touch.then ?_ (State.setReg_touch _ _ _) ?_); rotate_left; decide)
    | ((with_reducible apply Touch.then ?_ (State.tx_touch _ _) ?_); rotate_left; decide)
    | fail_if_no_progress ((with_reducible apply Touch.set_rim); rotate_left; decide)
    | split
    | apply Touch.ite
    | apply OutTouch.ite

theorem execRimPwCountClear_touch (s : State) :
    OutTouch 1 s (execRimPwCountClear s) := by
  unfold execRimPwCountClear
  repeat' first
    | with_reducible apply Touch.refl
    | with_reducible apply OutTouch.next
    | ((with_reducible apply Touch.then ?_ (State.setReg_touch _ _ _) ?_); rotate_left; decide)

theorem execBankVioChange_touch (b : Bank) (v : Fin 6) (s : State) :
    OutTouch 131 s (execBankVioChange b v s) := by
  unfold execBankVioChange
  repeat' first
    | (with_reducible intro x; with_reducible refine Touch.cutP (m := 131) (s := s) (x := x) (fun hx => ?_) ?_; (clear_value x; rotate_left; subst x))
    | with_reducible apply Touch.refl
    | with_reducible assumption
    | with_reducible apply OutTouch.next
    | ((with_reducible apply Touch.then ?_ (State.settle_touch _) ?_); rotate_left; decide)
    | ((with_reducible apply Touch.then ?_ (State.setVioOk_touch _ _) ?_); rotate_left; decide)
    | ((with_reducible apply Touch.then ?_ (State.clearBank_touch _ _) ?_); rotate_left; decide)
    | ((with_reducible apply Touch.then ?_ (State.usedN_touch _ _) ?_); rotate_left; decide)
    | fail_if_no_progress ((with_reducible apply Touch.set_rim); rotate_left; decide)
    | apply Touch.ite

end Sys2Proof.Machine
end

