-- ==== Sys2Proof/Laws/TouchCycle.lean ====
section
/-! SUPPORT. Frames by parts: what the emulated cycle, the loader and Echo change. Each lemma gives the mask of the parts that an operation may change (Touch); registers
and memories stay canonical. -/

namespace Sys2Proof.Machine

set_option linter.all false
set_option linter.unusedTactic false
set_option linter.unreachableTactic false
set_option linter.tactic.unusedName false

/-! Boundary -/

theorem State.settleEntry_touch (s : State) (t : BitVec 64) (dep : Bool) (e : ForceEntry) :
    Touch 5131 s (State.settleEntry s t dep e) := by
  unfold State.settleEntry
  repeat' first
    | with_reducible intro accT accX
    | with_reducible apply Touch.refl
    | ((with_reducible apply Touch.then ?_ (State.completeOpt_touch _ _ _ _ _ _) ?_); rotate_left; decide)
    | with_reducible apply Touch.foldl'

theorem State.settleForces_touch (s : State) (t : BitVec 64) :
    Touch 5131 s (State.settleForces s t) := by
  unfold State.settleForces
  repeat' first
    | with_reducible intro accT accX
    | with_reducible apply Touch.refl
    | with_reducible assumption
    | ((with_reducible apply Touch.then ?_ (State.settleEntry_touch _ _ _ _) ?_); rotate_left; decide)
    | fail_if_no_progress ((with_reducible apply Touch.set_fab); rotate_left; decide)
    | with_reducible apply Touch.foldl'

theorem State.settleReleases_touch (s : State) (t : BitVec 64) :
    Touch 5131 s (State.settleReleases s t) := by
  unfold State.settleReleases
  repeat' first
    | with_reducible intro accT accX
    | with_reducible apply Touch.refl
    | with_reducible assumption
    | ((with_reducible apply Touch.then ?_ (State.settleEntry_touch _ _ _ _) ?_); rotate_left; decide)
    | fail_if_no_progress ((with_reducible apply Touch.set_fab); rotate_left; decide)
    | with_reducible apply Touch.foldl'

theorem State.freeDeposits_touch (s : State) :
    Touch 9 s (State.freeDeposits s) := by
  unfold State.freeDeposits
  repeat' first
    | with_reducible apply Touch.refl
    | fail_if_no_progress ((with_reducible apply Touch.set_fab); rotate_left; decide)

theorem State.cancelForces_touch (s : State) (es : List ForceEntry) :
    Touch 5123 s (State.cancelForces s es) := by
  unfold State.cancelForces
  repeat' first
    | with_reducible intro accT accX
    | with_reducible apply Touch.refl
    | ((with_reducible apply Touch.then ?_ (State.completeOpt_touch _ _ _ _ _ _) ?_); rotate_left; decide)
    | with_reducible apply Touch.foldl'

theorem State.cancelWaits_touch (s : State) (own : Option CmdId → Bool) :
    Touch 5147 s (State.cancelWaits s own) := by
  unfold State.cancelWaits
  repeat' first
    | with_reducible intro accT accX
    | with_reducible apply Touch.refl
    | with_reducible assumption
    | ((with_reducible apply Touch.then ?_ (State.complete_touch _ _ _ _ _ _) ?_); rotate_left; decide)
    | fail_if_no_progress ((with_reducible apply Touch.set_fab_sched); rotate_left; decide; decide)
    | with_reducible apply Touch.foldl'

theorem State.clearForces_touch (s : State) (p : Nat → Bool) :
    Touch 5131 s (State.clearForces s p) := by
  unfold State.clearForces
  repeat' first
    | (with_reducible intro x; with_reducible refine Touch.cutP (m := 5131) (s := s) (x := x) (fun hx => ?_) ?_; (clear_value x; rotate_left; subst x))
    | with_reducible apply Touch.refl
    | with_reducible assumption
    | ((with_reducible apply Touch.then ?_ (State.cancelForces_touch _ _) ?_); rotate_left; decide)
    | fail_if_no_progress ((with_reducible apply Touch.set_fab); rotate_left; decide)

theorem State.takeOverrun_touch (s : State) :
    Touch 147475 s (State.takeOverrun s) := by
  unfold State.takeOverrun
  repeat' first
    | (with_reducible intro x; with_reducible refine Touch.cutP (m := 147475) (s := s) (x := x) (fun hx => ?_) ?_; (clear_value x; rotate_left; subst x))
    | with_reducible apply Touch.refl
    | with_reducible assumption
    | ((with_reducible apply Touch.then ?_ (State.detect_touch _ _ _ _ _) ?_); rotate_left; decide)
    | ((with_reducible apply Touch.then ?_ (State.bump_touch _ _ _ _) ?_); rotate_left; decide)
    | ((with_reducible apply Touch.then ?_ (State.raise_touch _ _ _) ?_); rotate_left; decide)
    | ((with_reducible apply Touch.then ?_ (State.cicEvent_touch _ _) ?_); rotate_left; decide)
    | ((with_reducible apply Touch.then ?_ (State.haltAtEnd_touch _) ?_); rotate_left; decide)
    | fail_if_no_progress ((with_reducible apply Touch.set_sched); rotate_left; decide)
    | apply Touch.ite

theorem State.overrunAtT5_touch (s : State) :
    Touch 147475 s (State.overrunAtT5 s) := by
  unfold State.overrunAtT5
  repeat' first
    | with_reducible apply Touch.refl
    | ((with_reducible apply Touch.then ?_ (State.takeOverrun_touch _) ?_); rotate_left; decide)
    | apply Touch.ite

theorem State.realign_touch (s : State) :
    Touch 17 s (State.realign s) := by
  unfold State.realign
  repeat' first
    | (with_reducible intro x; with_reducible refine Touch.cutP (m := 17) (s := s) (x := x) (fun hx => ?_) ?_; (clear_value x; rotate_left; subst x))
    | with_reducible apply Touch.refl
    | with_reducible assumption
    | ((with_reducible apply Touch.then ?_ (State.bump_touch _ _ _ _) ?_); rotate_left; decide)
    | fail_if_no_progress ((with_reducible apply Touch.set_sched); rotate_left; decide)
    | apply Touch.ite

theorem State.sendRelease_touch (s : State) :
    Touch 256 s (State.sendRelease s) := by
  unfold State.sendRelease
  repeat' first
    | (with_reducible intro x; with_reducible refine Touch.cutP (m := 256) (s := s) (x := x) (fun hx => ?_) ?_; (clear_value x; rotate_left; subst x))
    | with_reducible apply Touch.refl
    | with_reducible assumption
    | ((with_reducible apply Touch.then ?_ (State.flood_touch _ _ _) ?_); rotate_left; decide)
    | fail_if_no_progress ((with_reducible apply Touch.set_psg); rotate_left; decide)
    | apply Touch.ite

theorem State.select_touch (s : State) (c : Nat) :
    Touch 81 s (State.select s c) := by
  unfold State.select
  repeat' first
    | (with_reducible intro x; with_reducible refine Touch.cutP (m := 81) (s := s) (x := x) (fun hx => ?_) ?_; (clear_value x; rotate_left; subst x))
    | (with_reducible intro x; subst x)
    | with_reducible lift_lets -underBinder
    | with_reducible apply Touch.refl
    | with_reducible assumption
    | with_reducible apply Touch.ite
    | ((with_reducible apply Touch.then ?_ (State.put_touch _ _ _ _) ?_); rotate_left; decide)
    | fail_if_no_progress ((with_reducible apply Touch.set_echo); rotate_left; decide)
    | fail_if_no_progress ((with_reducible apply Touch.set_sched); rotate_left; decide)
    | split
    | apply Touch.ite

theorem State.pinContext_touch (s : State) :
    Touch 131155 s (State.pinContext s) := by
  unfold State.pinContext
  repeat' first
    | (with_reducible intro x; with_reducible refine Touch.cutP (m := 131155) (s := s) (x := x) (fun hx => ?_) ?_; (clear_value x; rotate_left; subst x))
    | with_reducible lift_lets -underBinder
    | with_reducible apply Touch.refl
    | with_reducible assumption
    | with_reducible apply Touch.ite
    | ((with_reducible apply Touch.then ?_ (State.detect_touch _ _ _ _ _) ?_); rotate_left; decide)
    | ((with_reducible apply Touch.then ?_ (State.raise_touch _ _ _) ?_); rotate_left; decide)
    | ((with_reducible apply Touch.then ?_ (State.select_touch _ _) ?_); rotate_left; decide)
    | fail_if_no_progress ((with_reducible apply Touch.set_sched); rotate_left; decide)
    | split

theorem State.clearFlags_touch (s : State) :
    Touch 1 s (State.clearFlags s) := by
  unfold State.clearFlags
  repeat' first
    | with_reducible intro accT accX
    | with_reducible apply Touch.refl
    | ((with_reducible apply Touch.then ?_ (State.put_touch _ _ _ _) ?_); rotate_left; decide)
    | with_reducible apply Touch.foldl'

theorem State.showState_touch (s : State) :
    Touch 1 s (State.showState s) := by
  unfold State.showState
  repeat' first
    | (with_reducible intro x; with_reducible refine Touch.cutP (m := 1) (s := s) (x := x) (fun hx => ?_) ?_; (clear_value x; rotate_left; subst x))
    | with_reducible apply Touch.refl
    | with_reducible assumption
    | ((with_reducible apply Touch.then ?_ (State.put_touch _ _ _ _) ?_); rotate_left; decide)
    | apply Touch.ite

theorem State.postDone_touch (s : State) :
    Touch 256 s (State.postDone s) := by
  unfold State.postDone
  repeat' first
    | with_reducible intro accT accX
    | with_reducible apply Touch.refl
    | ((with_reducible apply Touch.then ?_ (State.tx_touch _ _) ?_); rotate_left; decide)
    | with_reducible apply Touch.foldl'
    | apply Touch.ite

theorem State.wrapUp_touch (s : State) :
    Touch 202075 s (State.wrapUp s) := by
  unfold State.wrapUp
  repeat' first
    | (with_reducible intro x; with_reducible refine Touch.cutP (m := 202075) (s := s) (x := x) (fun hx => ?_) ?_; (clear_value x; rotate_left; subst x))
    | with_reducible apply Touch.refl
    | with_reducible assumption
    | ((with_reducible apply Touch.then ?_ (State.elapse_touch _) ?_); rotate_left; decide)
    | ((with_reducible apply Touch.then ?_ (State.pinContext_touch _) ?_); rotate_left; decide)
    | ((with_reducible apply Touch.then ?_ (State.disarmIfIdle_touch _) ?_); rotate_left; decide)
    | ((with_reducible apply Touch.then ?_ (State.clearFlags_touch _) ?_); rotate_left; decide)
    | ((with_reducible apply Touch.then ?_ (State.elapseN_touch _ _) ?_); rotate_left; decide)
    | ((with_reducible apply Touch.then ?_ (State.postDone_touch _) ?_); rotate_left; decide)
    | ((with_reducible apply Touch.then ?_ (State.realign_touch _) ?_); rotate_left; decide)
    | ((with_reducible apply Touch.then ?_ (State.sendRelease_touch _) ?_); rotate_left; decide)
    | ((with_reducible apply Touch.then ?_ (State.showState_touch _) ?_); rotate_left; decide)
    | fail_if_no_progress ((with_reducible apply Touch.set_sched); rotate_left; decide)

theorem State.resumeIf_touch (s : State) :
    Touch 1097745 s (State.resumeIf s) := by
  unfold State.resumeIf
  repeat' first
    | with_reducible apply Touch.refl
    | ((with_reducible apply Touch.then ?_ (State.goRunning_touch _) ?_); rotate_left; decide)
    | fail_if_no_progress ((with_reducible apply Touch.set_sched); rotate_left; decide)
    | apply Touch.ite

theorem State.afterBoundary_touch (s : State) :
    Touch 1299803 s (State.afterBoundary s) := by
  unfold State.afterBoundary
  repeat' first
    | with_reducible apply Touch.refl
    | ((with_reducible apply Touch.then ?_ (State.wrapUp_touch _) ?_); rotate_left; decide)
    | ((with_reducible apply Touch.then ?_ (State.resumeIf_touch _) ?_); rotate_left; decide)
    | split

theorem State.haltNow_touch (s : State) :
    Touch 5395 s (State.haltNow s) := by
  unfold State.haltNow
  repeat' first
    | (with_reducible intro x; with_reducible refine Touch.cutP (m := 5395) (s := s) (x := x) (fun hx => ?_) ?_; (clear_value x; rotate_left; subst x))
    | with_reducible apply Touch.refl
    | with_reducible assumption
    | ((with_reducible apply Touch.then ?_ (State.completeOpt_touch _ _ _ _ _ _) ?_); rotate_left; decide)
    | ((with_reducible apply Touch.then ?_ (State.put_touch _ _ _ _) ?_); rotate_left; decide)
    | ((with_reducible apply Touch.then ?_ (State.reportHalt_touch _) ?_); rotate_left; decide)
    | fail_if_no_progress ((with_reducible apply Touch.set_sched); rotate_left; decide)
    | apply Touch.ite

theorem State.stopBefore_touch (s : State) (t : BitVec 64) :
    Touch 5395 s (State.stopBefore s t) := by
  unfold State.stopBefore
  repeat' first
    | with_reducible apply Touch.refl
    | ((with_reducible apply Touch.then ?_ (State.haltNow_touch _) ?_); rotate_left; decide)
    | ((with_reducible apply Touch.then ?_ (State.haltAtEnd_touch _) ?_); rotate_left; decide)
    | fail_if_no_progress ((with_reducible apply Touch.set_psg); rotate_left; decide)
    | apply Touch.ite

theorem State.lateOverrun_touch (s : State) (t : BitVec 64) :
    Touch 136467 s (State.lateOverrun s t) := by
  unfold State.lateOverrun
  repeat' first
    | with_reducible apply Touch.refl
    | ((with_reducible apply Touch.then ?_ (State.recordLtc_touch _ _) ?_); rotate_left; decide)
    | ((with_reducible apply Touch.then ?_ (State.stopBefore_touch _ _) ?_); rotate_left; decide)
    | ((with_reducible apply Touch.then ?_ (State.floodFault_touch _ _) ?_); rotate_left; decide)

/-! Cycle -/

theorem State.heldTick_touch (s : State) :
    Touch 131091 s (State.heldTick s) := by
  unfold State.heldTick
  repeat' first
    | (with_reducible intro x; with_reducible refine Touch.cutP (m := 131091) (s := s) (x := x) (fun hx => ?_) ?_; (clear_value x; rotate_left; subst x))
    | with_reducible apply Touch.refl
    | with_reducible assumption
    | ((with_reducible apply Touch.then ?_ (State.detect_touch _ _ _ _ _) ?_); rotate_left; decide)
    | ((with_reducible apply Touch.then ?_ (State.bump_touch _ _ _ _) ?_); rotate_left; decide)
    | ((with_reducible apply Touch.then ?_ (State.raise_touch _ _ _) ?_); rotate_left; decide)
    | fail_if_no_progress ((with_reducible apply Touch.set_sched); rotate_left; decide)
    | apply Touch.ite

theorem State.stampTick_touch (s : State) :
    Touch 1 s (State.stampTick s) := by
  unfold State.stampTick
  repeat' first
    | (with_reducible intro x; with_reducible refine Touch.cutP (m := 1) (s := s) (x := x) (fun hx => ?_) ?_; (clear_value x; rotate_left; subst x))
    | with_reducible apply Touch.refl
    | with_reducible assumption
    | ((with_reducible apply Touch.then ?_ (State.put_touch _ _ _ _) ?_); rotate_left; decide)
    | apply Touch.ite

theorem State.beginTick_touch (s : State) :
    Touch 136667 s (State.beginTick s) := by
  unfold State.beginTick
  repeat' first
    | (with_reducible intro x; with_reducible refine Touch.cutP (m := 136667) (s := s) (x := x) (fun hx => ?_) ?_; (clear_value x; rotate_left; subst x))
    | with_reducible apply Touch.refl
    | with_reducible assumption
    | ((with_reducible apply Touch.then ?_ (State.heldTick_touch _) ?_); rotate_left; decide)
    | ((with_reducible apply Touch.then ?_ (State.settleForces_touch _ _) ?_); rotate_left; decide)
    | ((with_reducible apply Touch.then ?_ (State.settleReleases_touch _ _) ?_); rotate_left; decide)
    | ((with_reducible apply Touch.then ?_ (State.stampTick_touch _) ?_); rotate_left; decide)
    | ((with_reducible apply Touch.then ?_ (State.takeEarly_touch _) ?_); rotate_left; decide)
    | ((with_reducible apply Touch.then ?_ (State.pruneNotices_touch _ _) ?_); rotate_left; decide)
    | fail_if_no_progress ((with_reducible apply Touch.set_fab_sched_echo_rim_psg); rotate_left; decide; decide; decide; decide; decide)

theorem execTick_touch (s : State) :
    OutTouch 202203 s (execTick s) := by
  unfold execTick
  repeat' first
    | with_reducible apply Touch.refl
    | with_reducible apply OutTouch.next
    | ((with_reducible apply Touch.then ?_ (State.beginTick_touch _) ?_); rotate_left; decide)
    | ((with_reducible apply Touch.then ?_ (State.elapse_touch _) ?_); rotate_left; decide)
    | fail_if_no_progress ((with_reducible apply Touch.set_sched_psg); rotate_left; decide; decide)
    | apply OutTouch.ite

theorem execTurnover_touch (s : State) :
    OutTouch 229595 s (execTurnover s) := by
  unfold execTurnover
  repeat' first
    | (with_reducible intro x; with_reducible refine Touch.cutP (m := 229595) (s := s) (x := x) (fun hx => ?_) ?_; (clear_value x; rotate_left; subst x))
    | with_reducible apply Touch.refl
    | with_reducible assumption
    | with_reducible apply OutTouch.next
    | ((with_reducible apply Touch.then ?_ (State.elapseN_touch _ _) ?_); rotate_left; decide)
    | ((with_reducible apply Touch.then ?_ (State.endHold_touch _) ?_); rotate_left; decide)
    | fail_if_no_progress ((with_reducible apply Touch.set_rim); rotate_left; decide)
    | fail_if_no_progress ((with_reducible apply Touch.set_sched); rotate_left; decide)
    | split

theorem State.toT3_touch (s : State) :
    Touch 229467 s (State.toT3 s) := by
  unfold State.toT3
  repeat' first
    | (with_reducible intro x; with_reducible refine Touch.cutP (m := 229467) (s := s) (x := x) (fun hx => ?_) ?_; (clear_value x; rotate_left; subst x))
    | with_reducible apply Touch.refl
    | with_reducible assumption
    | ((with_reducible apply Touch.then ?_ (State.elapse_touch _) ?_); rotate_left; decide)
    | ((with_reducible apply Touch.then ?_ (State.endHold_touch _) ?_); rotate_left; decide)
    | fail_if_no_progress ((with_reducible apply Touch.set_sched); rotate_left; decide)
    | apply Touch.ite

theorem execEchoRecordClose_touch (s : State) :
    OutTouch 245851 s (execEchoRecordClose s) := by
  unfold execEchoRecordClose
  repeat' first
    | (with_reducible intro x; with_reducible refine Touch.cutP (m := 245851) (s := s) (x := x) (fun hx => ?_) ?_; (clear_value x; rotate_left; subst x))
    | with_reducible apply Touch.refl
    | with_reducible assumption
    | with_reducible apply OutTouch.next
    | ((with_reducible apply Touch.then ?_ (State.closeDropping_touch _) ?_); rotate_left; decide)
    | ((with_reducible apply Touch.then ?_ (State.hold_touch _ _ _) ?_); rotate_left; decide)
    | ((with_reducible apply Touch.then ?_ (State.toT3_touch _) ?_); rotate_left; decide)
    | ((with_reducible apply Touch.then ?_ (State.bump_touch _ _ _ _) ?_); rotate_left; decide)
    | ((with_reducible apply Touch.then ?_ (State.raise_touch _ _ _) ?_); rotate_left; decide)
    | ((with_reducible apply Touch.then ?_ (State.windowStep_touch _) ?_); rotate_left; decide)
    | fail_if_no_progress ((with_reducible apply Touch.set_echo); rotate_left; decide)
    | exact Touch.mono (State.closeWhole_touch (by assumption)) (by decide)
    | split

theorem execEchoRecordWritten_touch (s : State) :
    OutTouch 136307 s (execEchoRecordWritten s) := by
  unfold execEchoRecordWritten
  repeat' first
    | with_reducible apply Touch.refl
    | with_reducible apply OutTouch.next
    | ((with_reducible apply Touch.then ?_ (State.recordWritten_touch _ _) ?_); rotate_left; decide)
    | ((with_reducible apply Touch.then ?_ (State.disarmIfIdle_touch _) ?_); rotate_left; decide)
    | split
    | apply OutTouch.ite

theorem State.dropLate_touch (s : State) :
    Touch 9 s (State.dropLate s) := by
  unfold State.dropLate
  repeat' first
    | (with_reducible intro x; with_reducible refine Touch.cutP (m := 9) (s := s) (x := x) (fun hx => ?_) ?_; (clear_value x; rotate_left; subst x))
    | with_reducible intro accT accX
    | with_reducible apply Touch.refl
    | with_reducible assumption
    | ((with_reducible apply Touch.then ?_ (State.rxDiscard_touch _ _) ?_); rotate_left; decide)
    | fail_if_no_progress ((with_reducible apply Touch.set_fab); rotate_left; decide)
    | with_reducible apply Touch.foldl'
    | apply Touch.ite

theorem State.flip_touch (s : State) :
    Touch 264 s (State.flip s) := by
  unfold State.flip
  repeat' first
    | with_reducible apply Touch.refl
    | fail_if_no_progress ((with_reducible apply Touch.set_fab_psg); rotate_left; decide; decide)

theorem State.logAsserts_touch (s : State) :
    Touch 131099 s (State.logAsserts s) := by
  unfold State.logAsserts
  repeat' first
    | with_reducible intro accT accX
    | with_reducible apply Touch.refl
    | with_reducible assumption
    | ((with_reducible apply Touch.then ?_ (State.detect_touch _ _ _ _ _) ?_); rotate_left; decide)
    | fail_if_no_progress ((with_reducible apply Touch.set_fab); rotate_left; decide)
    | with_reducible apply Touch.foldl'

theorem State.t5Events_touch (s : State) :
    Touch 163867 s (State.t5Events s) := by
  unfold State.t5Events
  repeat' first
    | (with_reducible intro x; with_reducible refine Touch.cutP (m := 163867) (s := s) (x := x) (fun hx => ?_) ?_; (clear_value x; rotate_left; subst x))
    | with_reducible apply Touch.refl
    | with_reducible assumption
    | ((with_reducible apply Touch.then ?_ (State.logAsserts_touch _) ?_); rotate_left; decide)
    | ((with_reducible apply Touch.then ?_ (State.wardenPendAll_touch _ _ _) ?_); rotate_left; decide)
    | ((with_reducible apply Touch.then ?_ (State.haltAtEnd_touch _) ?_); rotate_left; decide)
    | apply Touch.ite

theorem State.stepEnds_touch (s : State) :
    Touch 16 s (State.stepEnds s) := by
  unfold State.stepEnds
  repeat' first
    | with_reducible apply Touch.refl
    | ((with_reducible apply Touch.then ?_ (State.haltAtEnd_touch _) ?_); rotate_left; decide)
    | fail_if_no_progress ((with_reducible apply Touch.set_sched); rotate_left; decide)
    | split

theorem State.haltNames_touch (s : State) :
    Touch 272 s (State.haltNames s) := by
  unfold State.haltNames
  repeat' first
    | with_reducible apply Touch.refl
    | ((with_reducible apply Touch.then ?_ (State.haltAtEnd_touch _) ?_); rotate_left; decide)
    | fail_if_no_progress ((with_reducible apply Touch.set_psg); rotate_left; decide)
    | apply Touch.ite

theorem State.setPhase_touch (s : State) (p : Phase) :
    Touch 16 s (State.setPhase s p) := by
  unfold State.setPhase
  repeat' first
    | with_reducible apply Touch.refl
    | fail_if_no_progress ((with_reducible apply Touch.set_sched); rotate_left; decide)

theorem State.enterT5_touch (s : State) :
    Touch 1299803 s (State.enterT5 s) := by
  unfold State.enterT5
  repeat' first
    | with_reducible apply Touch.refl
    | ((with_reducible apply Touch.then ?_ (State.t5Events_touch _) ?_); rotate_left; decide)
    | ((with_reducible apply Touch.then ?_ (State.afterBoundary_touch _) ?_); rotate_left; decide)
    | ((with_reducible apply Touch.then ?_ (State.haltNames_touch _) ?_); rotate_left; decide)
    | ((with_reducible apply Touch.then ?_ (State.overrunAtT5_touch _) ?_); rotate_left; decide)
    | ((with_reducible apply Touch.then ?_ (State.stepEnds_touch _) ?_); rotate_left; decide)
    | ((with_reducible apply Touch.then ?_ (State.setPhase_touch _ _) ?_); rotate_left; decide)

theorem execGenerationFlip_touch (s : State) :
    OutTouch 1299803 s (execGenerationFlip s) := by
  unfold execGenerationFlip
  repeat' first
    | (with_reducible intro x; with_reducible refine Touch.cutP (m := 1299803) (s := s) (x := x) (fun hx => ?_) ?_; (clear_value x; rotate_left; subst x))
    | with_reducible apply Touch.refl
    | with_reducible assumption
    | with_reducible apply OutTouch.next
    | ((with_reducible apply Touch.then ?_ (State.enterT5_touch _) ?_); rotate_left; decide)
    | ((with_reducible apply Touch.then ?_ (State.triggerTree_touch _) ?_); rotate_left; decide)
    | ((with_reducible apply Touch.then ?_ (State.hold_touch _ _ _) ?_); rotate_left; decide)
    | ((with_reducible apply Touch.then ?_ (State.dropLate_touch _) ?_); rotate_left; decide)
    | ((with_reducible apply Touch.then ?_ (State.elapseN_touch _ _) ?_); rotate_left; decide)
    | ((with_reducible apply Touch.then ?_ (State.endHold_touch _) ?_); rotate_left; decide)
    | ((with_reducible apply Touch.then ?_ (State.freeDeposits_touch _) ?_); rotate_left; decide)
    | ((with_reducible apply Touch.then ?_ (State.flip_touch _) ?_); rotate_left; decide)
    | apply Touch.ite
    | apply OutTouch.ite

theorem execOverrun_touch (s : State) :
    OutTouch 152851 s (execOverrun s) := by
  unfold execOverrun
  repeat' first
    | (with_reducible intro x; with_reducible refine Touch.cutP (m := 152851) (s := s) (x := x) (fun hx => ?_) ?_; (clear_value x; rotate_left; subst x))
    | with_reducible apply Touch.refl
    | with_reducible assumption
    | with_reducible apply OutTouch.next
    | ((with_reducible apply Touch.then ?_ (State.takeOverrun_touch _) ?_); rotate_left; decide)
    | ((with_reducible apply Touch.then ?_ (State.lateOverrun_touch _ _) ?_); rotate_left; decide)
    | fail_if_no_progress ((with_reducible apply Touch.set_sched); rotate_left; decide)
    | apply OutTouch.ite

theorem execContextSwitch_touch (s : State) :
    OutTouch 1299803 s (execContextSwitch s) := by
  unfold execContextSwitch
  repeat' first
    | with_reducible apply Touch.refl
    | with_reducible apply OutTouch.next
    | ((with_reducible apply Touch.then ?_ (State.afterBoundary_touch _) ?_); rotate_left; decide)
    | ((with_reducible apply Touch.then ?_ (State.completeOpt_touch _ _ _ _ _ _) ?_); rotate_left; decide)
    | ((with_reducible apply Touch.then ?_ (State.select_touch _ _) ?_); rotate_left; decide)
    | ((with_reducible apply Touch.then ?_ (State.dropPending_touch _ _) ?_); rotate_left; decide)
    | split

theorem State.setTickCfg_touch (s : State) (c : TickCfg) :
    Touch 17 s (State.setTickCfg s c) := by
  unfold State.setTickCfg
  repeat' first
    | (with_reducible intro x; with_reducible refine Touch.cutP (m := 17) (s := s) (x := x) (fun hx => ?_) ?_; (clear_value x; rotate_left; subst x))
    | with_reducible apply Touch.refl
    | with_reducible assumption
    | ((with_reducible apply Touch.then ?_ (State.put_touch _ _ _ _) ?_); rotate_left; decide)
    | fail_if_no_progress ((with_reducible apply Touch.set_sched); rotate_left; decide)
    | apply Touch.ite

theorem execTickConfigApply_touch (s : State) :
    OutTouch 1299803 s (execTickConfigApply s) := by
  unfold execTickConfigApply
  repeat' first
    | (with_reducible intro x; with_reducible refine Touch.cutP (m := 1299803) (s := s) (x := x) (fun hx => ?_) ?_; (clear_value x; rotate_left; subst x))
    | with_reducible apply Touch.refl
    | with_reducible assumption
    | with_reducible apply OutTouch.next
    | ((with_reducible apply Touch.then ?_ (State.pinContext_touch _) ?_); rotate_left; decide)
    | ((with_reducible apply Touch.then ?_ (State.afterBoundary_touch _) ?_); rotate_left; decide)
    | ((with_reducible apply Touch.then ?_ (State.setTickCfg_touch _ _) ?_); rotate_left; decide)
    | ((with_reducible apply Touch.then ?_ (State.completeOpt_touch _ _ _ _ _ _) ?_); rotate_left; decide)
    | ((with_reducible apply Touch.then ?_ (State.dropPending_touch _ _) ?_); rotate_left; decide)
    | split

theorem State.finishHalt_touch (s : State) (p : Pending) :
    Touch 5147 s (State.finishHalt s p) := by
  unfold State.finishHalt
  repeat' first
    | with_reducible apply Touch.refl
    | with_reducible assumption
    | ((with_reducible apply Touch.then ?_ (State.cancelWaits_touch _ _) ?_); rotate_left; decide)
    | ((with_reducible apply Touch.then ?_ (State.completeOpt_touch _ _ _ _ _ _) ?_); rotate_left; decide)
    | ((with_reducible apply Touch.then ?_ (State.dropPending_touch _ _) ?_); rotate_left; decide)
    | apply Touch.ite

theorem execHaltAtBoundary_touch (s : State) :
    OutTouch 1299803 s (execHaltAtBoundary s) := by
  unfold execHaltAtBoundary
  repeat' first
    | (with_reducible intro x; with_reducible refine Touch.cutP (m := 1299803) (s := s) (x := x) (fun hx => ?_) ?_; (clear_value x; rotate_left; subst x))
    | with_reducible intro accT accX
    | with_reducible apply Touch.refl
    | with_reducible assumption
    | with_reducible apply OutTouch.next
    | ((with_reducible apply Touch.then ?_ (State.finishHalt_touch _ _) ?_); rotate_left; decide)
    | ((with_reducible apply Touch.then ?_ (State.haltNow_touch _) ?_); rotate_left; decide)
    | ((with_reducible apply Touch.then ?_ (State.pinContext_touch _) ?_); rotate_left; decide)
    | ((with_reducible apply Touch.then ?_ (State.afterBoundary_touch _) ?_); rotate_left; decide)
    | with_reducible apply Touch.foldl'
    | apply Touch.ite
    | apply OutTouch.ite

theorem execForceApply_touch (s : State) :
    OutTouch 5131 s (execForceApply s) := by
  unfold execForceApply
  repeat' first
    | with_reducible apply Touch.refl
    | with_reducible apply OutTouch.next
    | ((with_reducible apply Touch.then ?_ (State.settleForces_touch _ _) ?_); rotate_left; decide)
    | apply OutTouch.ite

theorem execReleaseApply_touch (s : State) :
    OutTouch 5131 s (execReleaseApply s) := by
  unfold execReleaseApply
  repeat' first
    | with_reducible apply Touch.refl
    | with_reducible apply OutTouch.next
    | ((with_reducible apply Touch.then ?_ (State.settleReleases_touch _ _) ?_); rotate_left; decide)
    | apply OutTouch.ite

theorem execSchedBarrierReleaseWrite_touch (flags : BitVec 16) (s : State) :
    OutTouch 17 s (execSchedBarrierReleaseWrite flags s) := by
  unfold execSchedBarrierReleaseWrite
  repeat' first
    | (with_reducible intro x; with_reducible refine Touch.cutP (m := 17) (s := s) (x := x) (fun hx => ?_) ?_; (clear_value x; rotate_left; subst x))
    | with_reducible intro accT accX
    | with_reducible apply Touch.refl
    | with_reducible assumption
    | with_reducible apply OutTouch.next
    | ((with_reducible apply Touch.then ?_ (State.put_touch _ _ _ _) ?_); rotate_left; decide)
    | fail_if_no_progress ((with_reducible apply Touch.set_sched); rotate_left; decide)
    | with_reducible apply Touch.foldl'

theorem execClrHold_touch (s : State) :
    OutTouch 1 s (execClrHold s) := by
  unfold execClrHold
  repeat' first
    | with_reducible apply Touch.refl
    | with_reducible apply OutTouch.next
    | ((with_reducible apply Touch.then ?_ (State.setReg_touch _ _ _) ?_); rotate_left; decide)

theorem execClrSync_touch (s : State) :
    OutTouch 1 s (execClrSync s) := by
  unfold execClrSync
  repeat' first
    | with_reducible apply Touch.refl
    | with_reducible apply OutTouch.next
    | ((with_reducible apply Touch.then ?_ (State.setReg_touch _ _ _) ?_); rotate_left; decide)

theorem execClrOverrun_touch (s : State) :
    OutTouch 1 s (execClrOverrun s) := by
  unfold execClrOverrun
  repeat' first
    | with_reducible apply Touch.refl
    | with_reducible apply OutTouch.next
    | ((with_reducible apply Touch.then ?_ (State.setReg_touch _ _ _) ?_); rotate_left; decide)

theorem execClrSlip_touch (g : Gal) (s : State) :
    OutTouch 1 s (execClrSlip g s) := by
  unfold execClrSlip
  repeat' first
    | ((with_reducible apply State.window_touch); rotate_left; decide)
    | with_reducible intro accT
    | with_reducible apply Touch.refl
    | ((with_reducible apply Touch.then ?_ (State.setReg_touch _ _ _) ?_); rotate_left; decide)

theorem execClrDiscard_touch (g : Gal) (s : State) :
    OutTouch 1 s (execClrDiscard g s) := by
  unfold execClrDiscard
  repeat' first
    | ((with_reducible apply State.window_touch); rotate_left; decide)
    | with_reducible intro accT
    | with_reducible apply Touch.refl
    | ((with_reducible apply Touch.then ?_ (State.setReg_touch _ _ _) ?_); rotate_left; decide)

theorem execClrSlipLast_touch (g : Gal) (s : State) :
    OutTouch 1 s (execClrSlipLast g s) := by
  unfold execClrSlipLast
  repeat' first
    | ((with_reducible apply State.window_touch); rotate_left; decide)
    | with_reducible intro accT
    | with_reducible apply Touch.refl
    | ((with_reducible apply Touch.then ?_ (State.setReg_touch _ _ _) ?_); rotate_left; decide)

theorem execGalClrCe_touch (g : Gal) (s : State) :
    OutTouch 1 s (execGalClrCe g s) := by
  unfold execGalClrCe
  repeat' first
    | ((with_reducible apply State.window_touch); rotate_left; decide)
    | with_reducible intro accT
    | with_reducible apply Touch.refl
    | ((with_reducible apply Touch.then ?_ (State.setReg_touch _ _ _) ?_); rotate_left; decide)

theorem execGalClrLost_touch (g : Gal) (s : State) :
    OutTouch 1 s (execGalClrLost g s) := by
  unfold execGalClrLost
  repeat' first
    | ((with_reducible apply State.window_touch); rotate_left; decide)
    | with_reducible intro accT
    | with_reducible apply Touch.refl
    | ((with_reducible apply Touch.then ?_ (State.put_touch _ _ _ _) ?_); rotate_left; decide)

theorem execAssertPop_touch (g : Gal) (s : State) :
    OutTouch 9 s (execAssertPop g s) := by
  unfold execAssertPop
  repeat' first
    | ((with_reducible apply State.window_touch); rotate_left; decide)
    | with_reducible intro accT
    | with_reducible apply Touch.refl
    | fail_if_no_progress ((with_reducible apply Touch.set_fab); rotate_left; decide)

/-! ImgLoad -/

theorem State.clearGal_touch (s : State) (g : Nat) :
    Touch 131131 s (State.clearGal s g) := by
  unfold State.clearGal
  repeat' first
    | (with_reducible intro (x : Mem); subst x)
    | with_reducible apply Touch.refl
    | fail_if_no_progress ((with_reducible apply Touch.set_regs_fab_mem); rotate_left; decide; decide; decide; (intro h; first | exact h | exact NMap.wf_set _ _ _ _ h | exact NMap.wf_keep _ _ _ h); (refine Memory.wf_of ?_ ?_ ?_ ?_ <;> intro h <;> first | with_reducible exact h | exact NMap.wf_keep _ _ (fun k => k / _ != g) h | with_reducible exact NMap.wf_keep _ _ _ h | with_reducible exact NMap.wf_setAll _ _ _ h | with_reducible exact NMap.wf_setAll _ _ _ (NMap.wf_keep _ _ _ h) | exact h | exact NMap.wf_set _ _ _ _ h | exact NMap.wf_keep _ _ _ h))

theorem State.setMode_touch (s : State) (g kind ctxs : Nat) :
    Touch 1 s (State.setMode s g kind ctxs) := by
  unfold State.setMode
  repeat' first
    | with_reducible apply Touch.refl
    | ((with_reducible apply Touch.then ?_ (State.put_touch _ _ _ _) ?_); rotate_left; decide)

theorem State.loadGalSec_touch (s : State) (pace : Bool) (lens : List Nat) (kind g : Nat) (b : List Byte) :
    Touch 41 s (State.loadGalSec s pace lens kind g b) := by
  unfold State.loadGalSec
  repeat' first
    | (with_reducible intro (x : Mem); subst x)
    | with_reducible intro accT accX
    | with_reducible apply Touch.refl
    | ((with_reducible apply Touch.then ?_ (State.setReg_touch _ _ _) ?_); rotate_left; decide)
    | fail_if_no_progress ((with_reducible apply Touch.set_fab); rotate_left; decide)
    | fail_if_no_progress ((with_reducible apply Touch.set_mem); rotate_left; decide; (refine Memory.wf_of ?_ ?_ ?_ ?_ <;> intro h <;> first | with_reducible exact h | with_reducible exact NMap.wf_keep _ _ _ h | with_reducible exact NMap.wf_setAll _ _ _ h | with_reducible exact NMap.wf_setAll _ _ _ (NMap.wf_keep _ _ _ h) | exact h | exact NMap.wf_set _ _ _ _ h | exact NMap.wf_keep _ _ _ h))
    | with_reducible apply Touch.foldl'
    | split

theorem State.clearRim_touch (s : State) (unit : Nat) :
    Touch 1 s (State.clearRim s unit) := by
  unfold State.clearRim
  repeat' first
    | (with_reducible intro x; with_reducible refine Touch.cutP (m := 1) (s := s) (x := x) (fun hx => ?_) ?_; (clear_value x; rotate_left; subst x))
    | with_reducible intro accT accX
    | with_reducible apply Touch.refl
    | with_reducible assumption
    | ((with_reducible apply Touch.then ?_ (State.put_touch _ _ _ _) ?_); rotate_left; decide)
    | ((with_reducible apply Touch.then ?_ (State.setReg_touch _ _ _) ?_); rotate_left; decide)
    | with_reducible apply Touch.foldl'
    | apply Touch.ite

theorem State.writeFrames_touch (s : State) (unit : Nat) (b : List Byte) :
    Touch 1 s (State.writeFrames s unit b) := by
  unfold State.writeFrames
  repeat' first
    | (with_reducible intro x; with_reducible refine Touch.cutP (m := 1) (s := s) (x := x) (fun hx => ?_) ?_; (clear_value x; rotate_left; subst x))
    | with_reducible intro accT accX
    | with_reducible apply Touch.refl
    | with_reducible assumption
    | ((with_reducible apply Touch.then ?_ (State.put_touch _ _ _ _) ?_); rotate_left; decide)
    | ((with_reducible apply Touch.then ?_ (State.setReg_touch _ _ _) ?_); rotate_left; decide)
    | with_reducible apply Touch.foldl'
    | apply Touch.ite

theorem State.stopBank_touch (s : State) (b st : Nat) :
    Touch 129 s (State.stopBank s b st) := by
  unfold State.stopBank
  repeat' first
    | with_reducible apply Touch.refl
    | ((with_reducible apply Touch.then ?_ (State.put_touch _ _ _ _) ?_); rotate_left; decide)
    | ((with_reducible apply Touch.then ?_ (State.clearBank_touch _ _) ?_); rotate_left; decide)

theorem State.freshFrames_touch (s : State) (unit : Nat) :
    Touch 128 s (State.freshFrames s unit) := by
  unfold State.freshFrames
  repeat' first
    | with_reducible apply Touch.refl
    | fail_if_no_progress ((with_reducible apply Touch.set_rim); rotate_left; decide)

theorem State.setHeld_touch (s : State) (p : Nat) :
    Touch 1 s (State.setHeld s p) := by
  unfold State.setHeld
  repeat' first
    | with_reducible apply Touch.refl
    | ((with_reducible apply Touch.then ?_ (State.put_touch _ _ _ _) ?_); rotate_left; decide)
    | apply Touch.ite

theorem State.setBudget_touch (s : State) (p n : Nat) :
    Touch 131091 s (State.setBudget s p n) := by
  unfold State.setBudget
  repeat' first
    | (with_reducible intro x; with_reducible refine Touch.cutP (m := 131091) (s := s) (x := x) (fun hx => ?_) ?_; (clear_value x; rotate_left; subst x))
    | with_reducible apply Touch.refl
    | with_reducible assumption
    | ((with_reducible apply Touch.then ?_ (State.detect_touch _ _ _ _ _) ?_); rotate_left; decide)
    | ((with_reducible apply Touch.then ?_ (State.put_touch _ _ _ _) ?_); rotate_left; decide)
    | apply Touch.ite

theorem State.loadDevSec_touch (s : State) (kind unit : Nat) (b : List Byte) :
    Touch 131387 s (State.loadDevSec s kind unit b) := by
  unfold State.loadDevSec
  repeat' first
    | (with_reducible intro x; with_reducible refine Touch.cutP (m := 131387) (s := s) (x := x) (fun hx => ?_) ?_; (clear_value x; rotate_left; subst x))
    | with_reducible intro accT accX
    | with_reducible apply Touch.refl
    | with_reducible assumption
    | ((with_reducible apply Touch.then ?_ (State.dsWriteBytes_touch _ _ _) ?_); rotate_left; decide)
    | ((with_reducible apply Touch.then ?_ (State.put_touch _ _ _ _) ?_); rotate_left; decide)
    | fail_if_no_progress ((with_reducible apply Touch.set_fab); rotate_left; decide)
    | fail_if_no_progress ((with_reducible apply Touch.set_psg); rotate_left; decide)
    | with_reducible apply Touch.foldl'
    | split

theorem State.clearPorts_touch (s : State) :
    Touch 256 s (State.clearPorts s) := by
  unfold State.clearPorts
  repeat' first
    | with_reducible apply Touch.refl
    | fail_if_no_progress ((with_reducible apply Touch.set_psg); rotate_left; decide)

theorem State.loadTables_touch (s : State) (pace : Bool) (lens : List Nat) (m : List Byte) (bodies : List (Sec × List Byte)) :
    Touch 131387 s (State.loadTables s pace lens m bodies) := by
  unfold State.loadTables
  repeat' first
    | (with_reducible intro x; with_reducible refine Touch.cutP (m := 131387) (s := s) (x := x) (fun hx => ?_) ?_; (clear_value x; rotate_left; subst x))
    | with_reducible intro accT accX
    | with_reducible apply Touch.refl
    | with_reducible assumption
    | ((with_reducible apply Touch.then ?_ (State.loadDevSec_touch _ _ _ _) ?_); rotate_left; decide)
    | ((with_reducible apply Touch.then ?_ (State.loadGalSec_touch _ _ _ _ _ _) ?_); rotate_left; decide)
    | ((with_reducible apply Touch.then ?_ (State.clearGal_touch _ _) ?_); rotate_left; decide)
    | ((with_reducible apply Touch.then ?_ (State.setMode_touch _ _ _ _) ?_); rotate_left; decide)
    | with_reducible apply Touch.foldl'
    | apply Touch.ite

/-! ImgChecks -/

theorem State.bare_touch (s : State) :
    Touch 131387 s (State.bare s) := by
  unfold State.bare
  repeat' first
    | (with_reducible intro x; with_reducible refine Touch.cutP (m := 131387) (s := s) (x := x) (fun hx => ?_) ?_; (clear_value x; rotate_left; subst x))
    | with_reducible intro accT accX
    | with_reducible apply Touch.refl
    | with_reducible assumption
    | ((with_reducible apply Touch.then ?_ (State.clearGal_touch _ _) ?_); rotate_left; decide)
    | ((with_reducible apply Touch.then ?_ (State.put_touch _ _ _ _) ?_); rotate_left; decide)
    | ((with_reducible apply Touch.then ?_ (State.clearPorts_touch _) ?_); rotate_left; decide)
    | ((with_reducible apply Touch.then ?_ (State.setReg_touch _ _ _) ?_); rotate_left; decide)
    | fail_if_no_progress ((with_reducible apply Touch.set_fab); rotate_left; decide)
    | with_reducible apply Touch.foldl'

theorem State.candidate_touch (s : State) (m : List Byte) (bodies : List (Sec × List Byte)) :
    Touch 131387 s (State.candidate s m bodies) := by
  unfold State.candidate
  repeat' first
    | (with_reducible intro x; with_reducible refine Touch.cutP (m := 131387) (s := s) (x := x) (fun hx => ?_) ?_; (clear_value x; rotate_left; subst x))
    | with_reducible intro accT accX
    | with_reducible apply Touch.refl
    | with_reducible assumption
    | ((with_reducible apply Touch.then ?_ (State.bare_touch _) ?_); rotate_left; decide)
    | ((with_reducible apply Touch.then ?_ (State.loadTables_touch _ _ _ _ _) ?_); rotate_left; decide)
    | ((with_reducible apply Touch.then ?_ (State.put_touch _ _ _ _) ?_); rotate_left; decide)
    | with_reducible apply Touch.foldl'
    | apply Touch.ite

theorem State.atCtx_touch (s : State) (c : Nat) :
    Touch 16 s (State.atCtx s c) := by
  unfold State.atCtx
  repeat' first
    | with_reducible apply Touch.refl
    | fail_if_no_progress ((with_reducible apply Touch.set_sched); rotate_left; decide)

/-! RimChecks -/

theorem State.rimCandidate_touch (s : State) (bodies : List (Sec × List Byte)) :
    Touch 1 s (State.rimCandidate s bodies) := by
  unfold State.rimCandidate
  repeat' first
    | (with_reducible intro x; with_reducible refine Touch.cutP (m := 1) (s := s) (x := x) (fun hx => ?_) ?_; (clear_value x; rotate_left; subst x))
    | with_reducible intro accT accX
    | with_reducible apply Touch.refl
    | with_reducible assumption
    | ((with_reducible apply Touch.then ?_ (State.clearRim_touch _ _) ?_); rotate_left; decide)
    | ((with_reducible apply Touch.then ?_ (State.writeFrames_touch _ _ _) ?_); rotate_left; decide)
    | with_reducible apply Touch.foldl'
    | apply Touch.ite

/-! Echo -/

theorem State.triggerSnap_touch (s : State) :
    Touch 17 s (State.triggerSnap s) := by
  unfold State.triggerSnap
  repeat' first
    | with_reducible apply Touch.refl
    | ((with_reducible apply Touch.then ?_ (State.put_touch _ _ _ _) ?_); rotate_left; decide)
    | fail_if_no_progress ((with_reducible apply Touch.set_sched); rotate_left; decide)
    | apply Touch.ite

theorem State.fire_touch (s : State) :
    Touch 16465 s (State.fire s) := by
  unfold State.fire
  repeat' first
    | (with_reducible intro x; with_reducible refine Touch.cutP (m := 16465) (s := s) (x := x) (fun hx => ?_) ?_; (clear_value x; rotate_left; subst x))
    | with_reducible apply Touch.refl
    | with_reducible assumption
    | ((with_reducible apply Touch.then ?_ (State.put_touch _ _ _ _) ?_); rotate_left; decide)
    | ((with_reducible apply Touch.then ?_ (State.raise_touch _ _ _) ?_); rotate_left; decide)
    | ((with_reducible apply Touch.then ?_ (State.triggerSnap_touch _) ?_); rotate_left; decide)
    | ((with_reducible apply Touch.then ?_ (State.cicEvent_touch _ _) ?_); rotate_left; decide)
    | ((with_reducible apply Touch.then ?_ (State.haltAtEnd_touch _) ?_); rotate_left; decide)
    | ((with_reducible apply Touch.then ?_ (State.onRecord_touch _ _) ?_); rotate_left; decide)
    | fail_if_no_progress ((with_reducible apply Touch.set_echo); rotate_left; decide)
    | apply Touch.ite

theorem execSequencerStageComplete_touch (s : State) :
    OutTouch 1299803 s (execSequencerStageComplete s) := by
  unfold execSequencerStageComplete
  repeat' first
    | (with_reducible intro x; with_reducible refine Touch.cutP (m := 1299803) (s := s) (x := x) (fun hx => ?_) ?_; (clear_value x; rotate_left; subst x))
    | with_reducible apply Touch.refl
    | with_reducible assumption
    | with_reducible apply OutTouch.next
    | ((with_reducible apply Touch.then ?_ (State.fire_touch _) ?_); rotate_left; decide)
    | ((with_reducible apply Touch.then ?_ (State.afterBoundary_touch _) ?_); rotate_left; decide)
    | ((with_reducible apply Touch.then ?_ (State.onRecord_touch _ _) ?_); rotate_left; decide)
    | fail_if_no_progress ((with_reducible apply Touch.set_echo); rotate_left; decide)
    | apply Touch.ite
    | apply OutTouch.ite

theorem execWindowDone_touch (s : State) :
    OutTouch 16449 s (execWindowDone s) := by
  unfold execWindowDone
  repeat' first
    | (with_reducible intro x; with_reducible refine Touch.cutP (m := 16449) (s := s) (x := x) (fun hx => ?_) ?_; (clear_value x; rotate_left; subst x))
    | with_reducible apply Touch.refl
    | with_reducible assumption
    | with_reducible apply OutTouch.next
    | ((with_reducible apply Touch.then ?_ (State.raise_touch _ _ _) ?_); rotate_left; decide)
    | ((with_reducible apply Touch.then ?_ (State.cicEvent_touch _ _) ?_); rotate_left; decide)
    | fail_if_no_progress ((with_reducible apply Touch.set_echo); rotate_left; decide)
    | apply OutTouch.ite

theorem State.armGal_touch (s : State) (b : List Byte) (g : Nat) :
    Touch 1 s (State.armGal s b g) := by
  unfold State.armGal
  repeat' first
    | (with_reducible intro x; with_reducible refine Touch.cutP (m := 1) (s := s) (x := x) (fun hx => ?_) ?_; (clear_value x; rotate_left; subst x))
    | with_reducible intro accT accX
    | with_reducible apply Touch.refl
    | with_reducible assumption
    | ((with_reducible apply Touch.then ?_ (State.setReg_touch _ _ _) ?_); rotate_left; decide)
    | with_reducible apply Touch.foldl'

theorem State.arm_touch (s : State) (b : List Byte) :
    Touch 65 s (State.arm s b) := by
  unfold State.arm
  repeat' first
    | (with_reducible intro x; with_reducible refine Touch.cutP (m := 65) (s := s) (x := x) (fun hx => ?_) ?_; (clear_value x; rotate_left; subst x))
    | with_reducible intro accT accX
    | with_reducible apply Touch.refl
    | with_reducible assumption
    | ((with_reducible apply Touch.then ?_ (State.assignRegion_touch _ _ _ _ _) ?_); rotate_left; decide)
    | ((with_reducible apply Touch.then ?_ (State.armGal_touch _ _ _) ?_); rotate_left; decide)
    | ((with_reducible apply Touch.then ?_ (State.put_touch _ _ _ _) ?_); rotate_left; decide)
    | ((with_reducible apply Touch.then ?_ (State.raise_touch _ _ _) ?_); rotate_left; decide)
    | ((with_reducible apply Touch.then ?_ (State.setReg_touch _ _ _) ?_); rotate_left; decide)
    | fail_if_no_progress ((with_reducible apply Touch.set_echo); rotate_left; decide)
    | with_reducible apply Touch.foldl'
    | apply Touch.ite

theorem execEchoArm_touch (h : Hdr) (buf : HostBuf) (s : State) :
    OutTouch 5203 s (execEchoArm h buf s) := by
  unfold execEchoArm
  repeat' first
    | ((with_reducible apply State.command_touch); rotate_left; decide)
    | with_reducible intro cmdC accT
    | with_reducible apply Touch.refl
    | ((with_reducible apply Touch.then ?_ (State.complete_touch _ _ _ _ _ _) ?_); rotate_left; decide)
    | ((with_reducible apply Touch.then ?_ (State.awaitCmd_touch _ _ _ _) ?_); rotate_left; decide)
    | split

theorem State.beginDisarm_touch (s : State) (c : Option CmdId) :
    Touch 5187 s (State.beginDisarm s c) := by
  unfold State.beginDisarm
  repeat' first
    | (with_reducible intro x; with_reducible refine Touch.cutP (m := 5187) (s := s) (x := x) (fun hx => ?_) ?_; (clear_value x; rotate_left; subst x))
    | with_reducible apply Touch.refl
    | with_reducible assumption
    | ((with_reducible apply Touch.then ?_ (State.abortSnap_touch _) ?_); rotate_left; decide)
    | ((with_reducible apply Touch.then ?_ (State.disarmIfIdle_touch _) ?_); rotate_left; decide)
    | ((with_reducible apply Touch.then ?_ (State.completeOpt_touch _ _ _ _ _ _) ?_); rotate_left; decide)
    | fail_if_no_progress ((with_reducible apply Touch.set_echo); rotate_left; decide)
    | apply Touch.ite

theorem execEchoArmApply_touch (s : State) :
    OutTouch 1299803 s (execEchoArmApply s) := by
  unfold execEchoArmApply
  repeat' first
    | (with_reducible intro x; with_reducible refine Touch.cutP (m := 1299803) (s := s) (x := x) (fun hx => ?_) ?_; (clear_value x; rotate_left; subst x))
    | with_reducible lift_lets -underBinder
    | with_reducible apply Touch.refl
    | with_reducible assumption
    | with_reducible apply OutTouch.next
    | ((with_reducible apply Touch.then ?_ (State.arm_touch _ _) ?_); rotate_left; decide)
    | ((with_reducible apply Touch.then ?_ (State.beginDisarm_touch _ _) ?_); rotate_left; decide)
    | ((with_reducible apply Touch.then ?_ (State.afterBoundary_touch _) ?_); rotate_left; decide)
    | ((with_reducible apply Touch.then ?_ (State.completeOpt_touch _ _ _ _ _ _) ?_); rotate_left; decide)
    | ((with_reducible apply Touch.then ?_ (State.dropPending_touch _ _) ?_); rotate_left; decide)
    | split

theorem execEchoDisarm_touch (h : Hdr) (s : State) :
    OutTouch 5203 s (execEchoDisarm h s) := by
  unfold execEchoDisarm
  repeat' first
    | ((with_reducible apply State.command_touch); rotate_left; decide)
    | with_reducible intro cmdC accT
    | with_reducible apply Touch.refl
    | ((with_reducible apply Touch.then ?_ (State.beginDisarm_touch _ _) ?_); rotate_left; decide)
    | ((with_reducible apply Touch.then ?_ (State.complete_touch _ _ _ _ _ _) ?_); rotate_left; decide)
    | ((with_reducible apply Touch.then ?_ (State.awaitCmd_touch _ _ _ _) ?_); rotate_left; decide)
    | apply Touch.ite

theorem State.ringBytes_touch (s : State) (a n : Nat) : Touch 131123 s (State.ringBytes s a n).2.2 := by
  have go : ∀ (t : State) (b k : Nat), Touch 131123 t (t.dsReadBytes b k).2.2 := fun t b k => (State.dsReadBytes_touch t b k).mono (by decide)
  unfold State.ringBytes
  extract_lets base ring k r t
  have h : Touch 131123 s t.2.2 := (go s _ _).then (go _ _ _) (by decide)
  clear_value t
  exact Touch.trip h

theorem execEchoRead_touch (h : Hdr) (off : BitVec 64) (consume : Bool) (buf : HostBuf) (s : State) :
    OutTouch 136243 s (execEchoRead h off consume buf s) := by
  unfold execEchoRead
  repeat' first
    | (with_reducible intro x; with_reducible refine Touch.cutP (m := 136243) (s := accT) (x := x) (fun hx => ?_) ?_; (clear_value x; rotate_left; subst x))
    | (with_reducible intro x; with_reducible refine Touch.cutP (m := 136243) (s := accT) (x := x.2.2) (fun hx => ?_) ?_; (clear_value x; rotate_left; subst x))
    | (with_reducible intro x; subst x)
    | with_reducible lift_lets -underBinder
    | ((with_reducible apply State.command_touch); rotate_left; decide)
    | with_reducible intro cmdC accT
    | with_reducible apply Touch.refl
    | with_reducible assumption
    | with_reducible apply OutTouch.ite
    | with_reducible apply OutTouch.next
    | with_reducible exact OutTouch.fault
    | with_reducible apply Touch.ite
    | ((with_reducible apply Touch.then ?_ (State.complete_touch _ _ _ _ _ _) ?_); rotate_left; decide)
    | ((with_reducible apply Touch.then ?_ (State.put_touch _ _ _ _) ?_); rotate_left; decide)
    | ((with_reducible apply Touch.then ?_ (State.ringBytes_touch _ _ _) ?_); rotate_left; decide)
    | ((with_reducible apply Touch.then ?_ (State.toHost_touch _ _ _) ?_); rotate_left; decide)
    | split
    | apply Touch.ite
    | apply OutTouch.ite

theorem execEchoTrigger_touch (h : Hdr) (fire : Bool) (s : State) :
    OutTouch 21587 s (execEchoTrigger h fire s) := by
  unfold execEchoTrigger
  repeat' first
    | (with_reducible intro x; with_reducible refine Touch.cutP (m := 21587) (s := accT) (x := x) (fun hx => ?_) ?_; (clear_value x; rotate_left; subst x))
    | ((with_reducible apply State.command_touch); rotate_left; decide)
    | with_reducible intro cmdC accT
    | with_reducible apply Touch.refl
    | with_reducible assumption
    | ((with_reducible apply Touch.then ?_ (State.complete_touch _ _ _ _ _ _) ?_); rotate_left; decide)
    | fail_if_no_progress ((with_reducible apply Touch.set_echo); rotate_left; decide)
    | apply Touch.ite

theorem execClrStretch_touch (s : State) :
    OutTouch 1 s (execClrStretch s) := by
  unfold execClrStretch
  repeat' first
    | with_reducible apply Touch.refl
    | with_reducible apply OutTouch.next
    | ((with_reducible apply Touch.then ?_ (State.setReg_touch _ _ _) ?_); rotate_left; decide)

theorem execEchoClrLost_touch (s : State) :
    OutTouch 1 s (execEchoClrLost s) := by
  unfold execEchoClrLost
  repeat' first
    | with_reducible intro accT accX
    | with_reducible apply Touch.refl
    | with_reducible apply OutTouch.next
    | ((with_reducible apply Touch.then ?_ (State.put_touch _ _ _ _) ?_); rotate_left; decide)
    | ((with_reducible apply Touch.then ?_ (State.setReg_touch _ _ _) ?_); rotate_left; decide)
    | with_reducible apply Touch.foldl'

theorem execSnapshot_touch (h : Hdr) (slot : BitVec 8) (s : State) :
    OutTouch 5139 s (execSnapshot h slot s) := by
  unfold execSnapshot
  repeat' first
    | ((with_reducible apply State.command_touch); rotate_left; decide)
    | with_reducible intro cmdC accT
    | with_reducible apply Touch.refl
    | ((with_reducible apply Touch.then ?_ (State.complete_touch _ _ _ _ _ _) ?_); rotate_left; decide)
    | ((with_reducible apply Touch.then ?_ (State.awaitCmd_touch _ _ _ _) ?_); rotate_left; decide)
    | apply Touch.ite

theorem State.clearMagic_touch (s : State) (a : Nat) :
    Touch 131123 s (State.clearMagic s a) := by
  unfold State.clearMagic
  repeat' first
    | with_reducible apply Touch.refl
    | ((with_reducible apply Touch.then ?_ (State.dsWriteBytes_touch _ _ _) ?_); rotate_left; decide)

theorem State.captureSnap_touch (s : State) (slot : Nat) (emu : Bool) (c : Option CmdId) :
    Touch 81 s (State.captureSnap s slot emu c) := by
  unfold State.captureSnap
  repeat' first
    | (with_reducible intro x; with_reducible refine Touch.cutP (m := 81) (s := s) (x := x) (fun hx => ?_) ?_; (clear_value x; rotate_left; subst x))
    | with_reducible apply Touch.refl
    | with_reducible assumption
    | ((with_reducible apply Touch.then ?_ (State.raise_touch _ _ _) ?_); rotate_left; decide)
    | ((with_reducible apply Touch.then ?_ (State.haltAtEnd_touch _) ?_); rotate_left; decide)
    | ((with_reducible apply Touch.then ?_ (State.onRecord_touch _ _) ?_); rotate_left; decide)
    | fail_if_no_progress ((with_reducible apply Touch.set_echo); rotate_left; decide)
    | apply Touch.ite

theorem State.takeSnap_touch (s : State) (slot : Nat) (emu : Bool) (c : Option CmdId) :
    Touch 131187 s (State.takeSnap s slot emu c) := by
  unfold State.takeSnap
  repeat' first
    | with_reducible apply Touch.refl
    | ((with_reducible apply Touch.then ?_ (State.captureSnap_touch _ _ _ _) ?_); rotate_left; decide)
    | ((with_reducible apply Touch.then ?_ (State.clearMagic_touch _ _) ?_); rotate_left; decide)

theorem execSnapshotTake_touch (s : State) :
    OutTouch 1299835 s (execSnapshotTake s) := by
  unfold execSnapshotTake
  repeat' first
    | (with_reducible intro x; with_reducible refine Touch.cutP (m := 1299835) (s := s) (x := x) (fun hx => ?_) ?_; (clear_value x; rotate_left; subst x))
    | with_reducible apply Touch.refl
    | with_reducible assumption
    | with_reducible apply OutTouch.next
    | ((with_reducible apply Touch.then ?_ (State.complete_touch _ _ _ _ _ _) ?_); rotate_left; decide)
    | ((with_reducible apply Touch.then ?_ (State.afterBoundary_touch _) ?_); rotate_left; decide)
    | ((with_reducible apply Touch.then ?_ (State.takeSnap_touch _ _ _ _) ?_); rotate_left; decide)
    | ((with_reducible apply Touch.then ?_ (State.completeOpt_touch _ _ _ _ _ _) ?_); rotate_left; decide)
    | ((with_reducible apply Touch.then ?_ (State.put_touch _ _ _ _) ?_); rotate_left; decide)
    | ((with_reducible apply Touch.then ?_ (State.dropPending_touch _ _) ?_); rotate_left; decide)
    | split
    | apply OutTouch.ite

theorem State.setSnap_touch (s : State) (j : SnapJob) :
    Touch 64 s (State.setSnap s j) := by
  unfold State.setSnap
  repeat' first
    | with_reducible apply Touch.refl
    | fail_if_no_progress ((with_reducible apply Touch.set_echo); rotate_left; decide)

theorem execSnapshotShadowEnd_touch (s : State) :
    OutTouch 5187 s (execSnapshotShadowEnd s) := by
  unfold execSnapshotShadowEnd
  repeat' first
    | with_reducible apply Touch.refl
    | with_reducible apply OutTouch.next
    | ((with_reducible apply Touch.then ?_ (State.abortSnap_touch _) ?_); rotate_left; decide)
    | ((with_reducible apply Touch.then ?_ (State.put_touch _ _ _ _) ?_); rotate_left; decide)
    | ((with_reducible apply Touch.then ?_ (State.raise_touch _ _ _) ?_); rotate_left; decide)
    | ((with_reducible apply Touch.then ?_ (State.setSnap_touch _ _) ?_); rotate_left; decide)
    | split

theorem State.copyErrors_touch (s : State) :
    Touch 131131 s (State.copyErrors s).2 := by
  unfold State.copyErrors
  repeat' first
    | (with_reducible intro x; with_reducible refine Touch.cutP (m := 131131) (s := accT.2) (x := x.2.2) (fun hx => ?_) ?_; (clear_value x; rotate_left; subst x))
    | with_reducible intro accT accX
    | with_reducible apply Touch.refl
    | with_reducible assumption
    | ((with_reducible apply Touch.then ?_ (State.dmRead_touch _ _ _ _ _) ?_); rotate_left; decide)
    | with_reducible apply Touch.foldlSnd

theorem State.copyEnd_touch (s : State) (j : SnapJob) :
    Touch 131195 s (State.copyEnd s j) := by
  unfold State.copyEnd
  repeat' first
    | (with_reducible intro x; with_reducible refine Touch.cutP (m := 131195) (s := s) (x := x.2) (fun hx => ?_) ?_; (clear_value x; rotate_left; subst x))
    | with_reducible apply Touch.refl
    | with_reducible assumption
    | ((with_reducible apply Touch.then ?_ (State.copyErrors_touch _) ?_); rotate_left; decide)
    | ((with_reducible apply Touch.then ?_ (State.put_touch _ _ _ _) ?_); rotate_left; decide)
    | ((with_reducible apply Touch.then ?_ (State.raise_touch _ _ _) ?_); rotate_left; decide)
    | ((with_reducible apply Touch.then ?_ (State.setSnap_touch _ _) ?_); rotate_left; decide)

theorem execSnapshotCopyEnd_touch (s : State) :
    OutTouch 131195 s (execSnapshotCopyEnd s) := by
  unfold execSnapshotCopyEnd
  repeat' first
    | with_reducible apply Touch.refl
    | with_reducible apply OutTouch.next
    | ((with_reducible apply Touch.then ?_ (State.copyEnd_touch _ _) ?_); rotate_left; decide)
    | split

theorem State.finishCopy_touch (s : State) :
    Touch 131195 s (State.finishCopy s) := by
  unfold State.finishCopy
  repeat' first
    | with_reducible apply Touch.refl
    | ((with_reducible apply Touch.then ?_ (State.copyEnd_touch _ _) ?_); rotate_left; decide)
    | split

theorem execSnapDone_touch (s : State) :
    OutTouch 152691 s (execSnapDone s) := by
  unfold execSnapDone
  repeat' first
    | (with_reducible intro x; with_reducible refine Touch.cutP (m := 152691) (s := s) (x := x) (fun hx => ?_) ?_; (clear_value x; rotate_left; subst x))
    | with_reducible intro accT accX
    | with_reducible apply Touch.refl
    | with_reducible assumption
    | with_reducible apply OutTouch.next
    | ((with_reducible apply Touch.then ?_ (State.disarmIfIdle_touch _) ?_); rotate_left; decide)
    | ((with_reducible apply Touch.then ?_ (State.snapEnded_touch _ _ _) ?_); rotate_left; decide)
    | ((with_reducible apply Touch.then ?_ (State.completeOpt_touch _ _ _ _ _ _) ?_); rotate_left; decide)
    | ((with_reducible apply Touch.then ?_ (State.dsWriteUp_touch _ _ _) ?_); rotate_left; decide)
    | ((with_reducible apply Touch.then ?_ (State.put_touch _ _ _ _) ?_); rotate_left; decide)
    | ((with_reducible apply Touch.then ?_ (State.cicEvent_touch _ _) ?_); rotate_left; decide)
    | ((with_reducible apply Touch.then ?_ (State.dsPut_touch _ _ _) ?_); rotate_left; decide)
    | ((with_reducible apply Touch.then ?_ (State.dsZero_touch _ _ _) ?_); rotate_left; decide)
    | fail_if_no_progress ((with_reducible apply Touch.set_echo); rotate_left; decide)
    | with_reducible apply Touch.foldl'
    | split

theorem execSnapshotAbort_touch (s : State) :
    OutTouch 5187 s (execSnapshotAbort s) := by
  unfold execSnapshotAbort
  repeat' first
    | with_reducible apply Touch.refl
    | with_reducible apply OutTouch.next
    | ((with_reducible apply Touch.then ?_ (State.abortSnapPhase2_touch _) ?_); rotate_left; decide)

theorem execRestore_touch (h : Hdr) (addr : BitVec 64) (resume : Bool) (s : State) :
    OutTouch 5139 s (execRestore h addr resume s) := by
  unfold execRestore
  repeat' first
    | ((with_reducible apply State.command_touch); rotate_left; decide)
    | with_reducible intro cmdC accT
    | with_reducible apply Touch.refl
    | ((with_reducible apply Touch.then ?_ (State.complete_touch _ _ _ _ _ _) ?_); rotate_left; decide)
    | ((with_reducible apply Touch.then ?_ (State.awaitCmd_touch _ _ _ _) ?_); rotate_left; decide)
    | apply Touch.ite

theorem State.readErrors_touch (s : State) (a len : Nat) :
    Touch 131123 s (State.readErrors s a len) := by
  unfold State.readErrors
  repeat' first
    | with_reducible intro accT accX
    | with_reducible apply Touch.refl
    | ((with_reducible apply Touch.then ?_ (State.dsRead_touch _ _) ?_); rotate_left; decide)
    | with_reducible apply Touch.foldl'

theorem State.loadEmu_touch (s : State) (a n : Nat) :
    Touch 32 s (State.loadEmu s a n) := by
  unfold State.loadEmu
  repeat' first
    | with_reducible intro accT accX
    | with_reducible apply Touch.refl
    | ((with_reducible apply Touch.then ?_ (State.dsPut_touch _ _ _) ?_); rotate_left; decide)
    | ((with_reducible apply Touch.then ?_ (State.dsZero_touch _ _ _) ?_); rotate_left; decide)
    | with_reducible apply Touch.foldl'

theorem State.loadSnap_touch (s : State) (a : Nat) :
    Touch 131131 s (State.loadSnap s a) := by
  unfold State.loadSnap
  repeat' first
    | with_reducible intro accT accX
    | with_reducible apply Touch.refl
    | with_reducible assumption
    | ((with_reducible apply Touch.then ?_ (State.loadEmu_touch _ _ _) ?_); rotate_left; decide)
    | fail_if_no_progress ((with_reducible apply Touch.set_fab_mem); rotate_left; decide; decide; (refine Memory.wf_of ?_ ?_ ?_ ?_ <;> intro h <;> first | with_reducible exact h | with_reducible exact NMap.wf_keep _ _ _ h | with_reducible exact NMap.wf_setAll _ _ _ h | with_reducible exact NMap.wf_setAll _ _ _ (NMap.wf_keep _ _ _ h) | exact h | exact NMap.wf_set _ _ _ _ h | exact NMap.wf_keep _ _ _ h))
    | with_reducible apply Touch.foldlFst

theorem State.restoreForces_touch (s : State) (old new : BitVec 64) :
    Touch 5131 s (State.restoreForces s old new) := by
  unfold State.restoreForces
  repeat' first
    | with_reducible intro accT accX
    | with_reducible apply Touch.refl
    | with_reducible assumption
    | ((with_reducible apply Touch.then ?_ (State.cancelForces_touch _ _) ?_); rotate_left; decide)
    | ((with_reducible apply Touch.then ?_ (State.completeOpt_touch _ _ _ _ _ _) ?_); rotate_left; decide)
    | fail_if_no_progress ((with_reducible apply Touch.set_fab); rotate_left; decide)
    | with_reducible apply Touch.foldl'

theorem State.restoreTargets_touch (s : State) (new : BitVec 64) :
    Touch 5267 s (State.restoreTargets s new) := by
  unfold State.restoreTargets
  repeat' first
    | with_reducible apply Touch.refl
    | with_reducible assumption
    | ((with_reducible apply Touch.then ?_ (State.cancelPending_touch _ _) ?_); rotate_left; decide)
    | fail_if_no_progress ((with_reducible apply Touch.set_sched); rotate_left; decide)

theorem State.dropRun_touch (s : State) :
    Touch 256 s (State.dropRun s) := by
  unfold State.dropRun
  repeat' first
    | with_reducible apply Touch.refl
    | fail_if_no_progress ((with_reducible apply Touch.set_psg); rotate_left; decide)

theorem execRestoreApply_touch (s : State) :
    OutTouch 1299963 s (execRestoreApply s) := by
  unfold execRestoreApply
  repeat' first
    | (with_reducible intro x; with_reducible refine Touch.cutP (m := 1299963) (s := s) (x := x) (fun hx => ?_) ?_; (clear_value x; rotate_left; subst x))
    | with_reducible lift_lets -underBinder
    | with_reducible apply Touch.refl
    | with_reducible assumption
    | with_reducible apply OutTouch.next
    | ((with_reducible apply Touch.then ?_ (State.haltNow_touch _) ?_); rotate_left; decide)
    | ((with_reducible apply Touch.then ?_ (State.restoreForces_touch _ _ _) ?_); rotate_left; decide)
    | ((with_reducible apply Touch.then ?_ (State.afterBoundary_touch _) ?_); rotate_left; decide)
    | ((with_reducible apply Touch.then ?_ (State.loadSnap_touch _ _) ?_); rotate_left; decide)
    | ((with_reducible apply Touch.then ?_ (State.restoreTargets_touch _ _) ?_); rotate_left; decide)
    | ((with_reducible apply Touch.then ?_ (State.completeOpt_touch _ _ _ _ _ _) ?_); rotate_left; decide)
    | ((with_reducible apply Touch.then ?_ (State.put_touch _ _ _ _) ?_); rotate_left; decide)
    | ((with_reducible apply Touch.then ?_ (State.readErrors_touch _ _ _) ?_); rotate_left; decide)
    | ((with_reducible apply Touch.then ?_ (State.dropPending_touch _ _) ?_); rotate_left; decide)
    | ((with_reducible apply Touch.then ?_ (State.dropRun_touch _) ?_); rotate_left; decide)
    | fail_if_no_progress ((with_reducible apply Touch.set_sched_echo_rim); rotate_left; decide; decide; decide)
    | split

theorem execRestoreEnd_touch (s : State) :
    OutTouch 1299803 s (execRestoreEnd s) := by
  unfold execRestoreEnd
  repeat' first
    | (with_reducible intro x; with_reducible refine Touch.cutP (m := 1299803) (s := s) (x := x) (fun hx => ?_) ?_; (clear_value x; rotate_left; subst x))
    | with_reducible apply Touch.refl
    | with_reducible assumption
    | with_reducible apply OutTouch.next
    | ((with_reducible apply Touch.then ?_ (State.afterBoundary_touch _) ?_); rotate_left; decide)
    | ((with_reducible apply Touch.then ?_ (State.completeOpt_touch _ _ _ _ _ _) ?_); rotate_left; decide)
    | fail_if_no_progress ((with_reducible apply Touch.set_sched); rotate_left; decide)
    | apply OutTouch.ite

end Sys2Proof.Machine
end

