-- ==== Sys2Proof/Laws/TouchImage.lean ====
section
/-! SUPPORT. Frames by parts: what staging, commits, ports and the lattice change. Each lemma gives the mask of the parts that an operation may change (Touch); registers
and memories stay canonical. -/

namespace Sys2Proof.Machine

set_option linter.all false
set_option linter.unusedTactic false
set_option linter.unreachableTactic false
set_option linter.tactic.unusedName false

/-! Stage -/

theorem State.setImgState_touch (s : State) (n : Nat) :
    Touch 16641 s (State.setImgState s n) := by
  unfold State.setImgState
  repeat' first
    | (with_reducible intro x; with_reducible refine Touch.cutP (m := 16641) (s := s) (x := x) (fun hx => ?_) ?_; (clear_value x; rotate_left; subst x))
    | with_reducible apply Touch.refl
    | with_reducible assumption
    | ((with_reducible apply Touch.then ?_ (State.put_touch _ _ _ _) ?_); rotate_left; decide)
    | ((with_reducible apply Touch.then ?_ (State.sendIdents_touch _) ?_); rotate_left; decide)
    | ((with_reducible apply Touch.then ?_ (State.cicEvent_touch _ _) ?_); rotate_left; decide)
    | apply Touch.ite

theorem State.setProgress_touch (s : State) (n : Nat) :
    Touch 1 s (State.setProgress s n) := by
  unfold State.setProgress
  repeat' first
    | with_reducible apply Touch.refl
    | ((with_reducible apply Touch.then ?_ (State.put_touch _ _ _ _) ?_); rotate_left; decide)

theorem State.setReason_touch (s : State) (f : ImgFail) (pos : Nat) :
    Touch 1 s (State.setReason s f pos) := by
  unfold State.setReason
  repeat' first
    | (with_reducible intro x; with_reducible refine Touch.cutP (m := 1) (s := s) (x := x) (fun hx => ?_) ?_; (clear_value x; rotate_left; subst x))
    | with_reducible apply Touch.refl
    | with_reducible assumption
    | ((with_reducible apply Touch.then ?_ (State.put_touch _ _ _ _) ?_); rotate_left; decide)
    | ((with_reducible apply Touch.then ?_ (State.raise_touch _ _ _) ?_); rotate_left; decide)
    | ((with_reducible apply Touch.then ?_ (State.setReg_touch _ _ _) ?_); rotate_left; decide)
    | split

theorem State.discard_touch (s : State) :
    Touch 513 s (State.discard s) := by
  unfold State.discard
  repeat' first
    | (with_reducible intro x; with_reducible refine Touch.cutP (m := 513) (s := s) (x := x) (fun hx => ?_) ?_; (clear_value x; rotate_left; subst x))
    | with_reducible apply Touch.refl
    | with_reducible assumption
    | ((with_reducible apply Touch.then ?_ (State.releaseRegion_touch _ _) ?_); rotate_left; decide)
    | fail_if_no_progress ((with_reducible apply Touch.set_img); rotate_left; decide)

theorem State.toEmpty_touch (s : State) :
    Touch 17153 s (State.toEmpty s) := by
  unfold State.toEmpty
  repeat' first
    | with_reducible apply Touch.refl
    | ((with_reducible apply Touch.then ?_ (State.setImgState_touch _ _) ?_); rotate_left; decide)
    | ((with_reducible apply Touch.then ?_ (State.discard_touch _) ?_); rotate_left; decide)
    | ((with_reducible apply Touch.then ?_ (State.put_touch _ _ _ _) ?_); rotate_left; decide)
    | ((with_reducible apply Touch.then ?_ (State.setProgress_touch _ _) ?_); rotate_left; decide)

theorem State.report_touch (s : State) (kind reason : Nat) (loc : Word) :
    Touch 512 s (State.report s kind reason loc) := by
  unfold State.report
  repeat' first
    | with_reducible apply Touch.refl
    | fail_if_no_progress ((with_reducible apply Touch.set_img); rotate_left; decide)

theorem State.stageFail_touch (s : State) (reason : Nat) :
    Touch 153363 s (State.stageFail s reason) := by
  unfold State.stageFail
  repeat' first
    | (with_reducible intro x; with_reducible refine Touch.cutP (m := 153363) (s := s) (x := x) (fun hx => ?_) ?_; (clear_value x; rotate_left; subst x))
    | with_reducible apply Touch.refl
    | with_reducible assumption
    | ((with_reducible apply Touch.then ?_ (State.detect_touch _ _ _ _ _) ?_); rotate_left; decide)
    | ((with_reducible apply Touch.then ?_ (State.setImgState_touch _ _) ?_); rotate_left; decide)
    | ((with_reducible apply Touch.then ?_ (State.setReason_touch _ _ _) ?_); rotate_left; decide)
    | ((with_reducible apply Touch.then ?_ (State.completeOpt_touch _ _ _ _ _ _) ?_); rotate_left; decide)
    | ((with_reducible apply Touch.then ?_ (State.discard_touch _) ?_); rotate_left; decide)
    | ((with_reducible apply Touch.then ?_ (State.report_touch _ _ _ _) ?_); rotate_left; decide)
    | fail_if_no_progress ((with_reducible apply Touch.set_img); rotate_left; decide)
    | apply Touch.ite

theorem State.startStage_touch (s : State) (chain : Bool) (len : Nat) (r : StageRegs) (c : Option CmdId) (host : Nat) :
    Touch 17153 s (State.startStage s chain len r c host) := by
  unfold State.startStage
  repeat' first
    | (with_reducible intro x; with_reducible refine Touch.cutP (m := 17153) (s := s) (x := x) (fun hx => ?_) ?_; (clear_value x; rotate_left; subst x))
    | with_reducible apply Touch.refl
    | with_reducible assumption
    | ((with_reducible apply Touch.then ?_ (State.toEmpty_touch _) ?_); rotate_left; decide)
    | ((with_reducible apply Touch.then ?_ (State.assignRegion_touch _ _ _ _ _) ?_); rotate_left; decide)
    | ((with_reducible apply Touch.then ?_ (State.setImgState_touch _ _) ?_); rotate_left; decide)
    | ((with_reducible apply Touch.then ?_ (State.put_touch _ _ _ _) ?_); rotate_left; decide)
    | fail_if_no_progress ((with_reducible apply Touch.set_img); rotate_left; decide)

theorem execImageStage_touch (h : Hdr) (src : StageSource) (len : BitVec 64) (b14 s14 b15 s15 : BitVec 16) (s : State) :
    OutTouch 22275 s (execImageStage h src len b14 s14 b15 s15 s) := by
  unfold execImageStage
  repeat' first
    | ((with_reducible apply State.command_touch); rotate_left; decide)
    | with_reducible intro cmdC accT
    | with_reducible apply Touch.refl
    | ((with_reducible apply Touch.then ?_ (State.startStage_touch _ _ _ _ _ _) ?_); rotate_left; decide)
    | ((with_reducible apply Touch.then ?_ (State.toEmpty_touch _) ?_); rotate_left; decide)
    | ((with_reducible apply Touch.then ?_ (State.complete_touch _ _ _ _ _ _) ?_); rotate_left; decide)
    | ((with_reducible apply Touch.then ?_ (State.completeOpt_touch _ _ _ _ _ _) ?_); rotate_left; decide)
    | apply Touch.ite

theorem State.takeBytes_touch (s : State) (bs : List Byte) :
    Touch 513 s (State.takeBytes s bs) := by
  unfold State.takeBytes
  repeat' first
    | (with_reducible intro x; with_reducible refine Touch.cutP (m := 513) (s := s) (x := x) (fun hx => ?_) ?_; (clear_value x; rotate_left; subst x))
    | with_reducible apply Touch.refl
    | with_reducible assumption
    | ((with_reducible apply Touch.then ?_ (State.setProgress_touch _ _) ?_); rotate_left; decide)
    | fail_if_no_progress ((with_reducible apply Touch.set_img); rotate_left; decide)

theorem State.streamOut_touch (s : State) (off : Nat) (bs : List Byte) :
    Touch 256 s (State.streamOut s off bs) := by
  unfold State.streamOut
  repeat' first
    | with_reducible intro accT accX
    | with_reducible apply Touch.refl
    | ((with_reducible apply Touch.then ?_ (State.tx_touch _ _) ?_); rotate_left; decide)
    | with_reducible apply Touch.foldl'
    | apply Touch.ite

theorem State.forwardOwn_touch (s : State) (bs : List Byte) :
    Touch 768 s (State.forwardOwn s bs) := by
  unfold State.forwardOwn
  repeat' first
    | (with_reducible intro x; with_reducible refine Touch.cutP (m := 768) (s := s) (x := x) (fun hx => ?_) ?_; (clear_value x; rotate_left; subst x))
    | with_reducible apply Touch.refl
    | with_reducible assumption
    | ((with_reducible apply Touch.then ?_ (State.streamOut_touch _ _ _) ?_); rotate_left; decide)
    | fail_if_no_progress ((with_reducible apply Touch.set_img); rotate_left; decide)
    | split

theorem State.hostBytesIn_touch (s : State) (bs : List Byte) :
    Touch 769 s (State.hostBytesIn s bs) := by
  unfold State.hostBytesIn
  repeat' first
    | (with_reducible intro x; with_reducible refine Touch.cutP (m := 769) (s := s) (x := x) (fun hx => ?_) ?_; (clear_value x; rotate_left; subst x))
    | with_reducible apply Touch.refl
    | with_reducible assumption
    | ((with_reducible apply Touch.then ?_ (State.forwardOwn_touch _ _) ?_); rotate_left; decide)
    | ((with_reducible apply Touch.then ?_ (State.takeBytes_touch _ _) ?_); rotate_left; decide)
    | fail_if_no_progress ((with_reducible apply Touch.set_img); rotate_left; decide)
    | apply Touch.ite

theorem State.startStream_touch (s : State) :
    Touch 768 s (State.startStream s) := by
  unfold State.startStream
  repeat' first
    | with_reducible apply Touch.refl
    | ((with_reducible apply Touch.then ?_ (State.forwardOwn_touch _ _) ?_); rotate_left; decide)
    | fail_if_no_progress ((with_reducible apply Touch.set_img); rotate_left; decide)
    | apply Touch.ite

theorem State.checkHeader_touch (s : State) :
    Touch 153363 s (State.checkHeader s) := by
  unfold State.checkHeader
  repeat' first
    | (with_reducible intro x; with_reducible refine Touch.cutP (m := 153363) (s := s) (x := x) (fun hx => ?_) ?_; (clear_value x; rotate_left; subst x))
    | with_reducible lift_lets -underBinder
    | with_reducible apply Touch.refl
    | with_reducible assumption
    | with_reducible apply Touch.ite
    | ((with_reducible apply Touch.then ?_ (State.stageFail_touch _ _) ?_); rotate_left; decide)
    | ((with_reducible apply Touch.then ?_ (State.put_touch _ _ _ _) ?_); rotate_left; decide)
    | ((with_reducible apply Touch.then ?_ (State.startStream_touch _) ?_); rotate_left; decide)
    | fail_if_no_progress ((with_reducible apply Touch.set_img); rotate_left; decide)
    | split

theorem State.checkSpace_touch (s : State) :
    Touch 153363 s (State.checkSpace s) := by
  unfold State.checkSpace
  repeat' first
    | with_reducible apply Touch.refl
    | ((with_reducible apply Touch.then ?_ (State.stageFail_touch _ _) ?_); rotate_left; decide)
    | fail_if_no_progress ((with_reducible apply Touch.set_img); rotate_left; decide)
    | apply Touch.ite

theorem State.flushStage_touch (s : State) :
    Touch 131635 s (State.flushStage s) := by
  unfold State.flushStage
  repeat' first
    | (with_reducible intro x; with_reducible refine Touch.cutP (m := 131635) (s := s) (x := x) (fun hx => ?_) ?_; (clear_value x; rotate_left; subst x))
    | with_reducible intro accT accX
    | with_reducible apply Touch.refl
    | with_reducible assumption
    | ((with_reducible apply Touch.then ?_ (State.dsWriteBytes_touch _ _ _) ?_); rotate_left; decide)
    | fail_if_no_progress ((with_reducible apply Touch.set_img); rotate_left; decide)
    | with_reducible apply Touch.foldl'
    | apply Touch.ite

theorem execHeaderArrival_touch (bs : List Byte) (s : State) :
    OutTouch 153395 s (execHeaderArrival bs s) := by
  unfold execHeaderArrival
  repeat' first
    | with_reducible apply Touch.refl
    | with_reducible apply OutTouch.next
    | ((with_reducible apply Touch.then ?_ (State.checkHeader_touch _) ?_); rotate_left; decide)
    | ((with_reducible apply Touch.then ?_ (State.hostBytesIn_touch _ _) ?_); rotate_left; decide)
    | ((with_reducible apply Touch.then ?_ (State.flushStage_touch _) ?_); rotate_left; decide)
    | apply OutTouch.ite

theorem execStageSpaceCheck_touch (bs : List Byte) (s : State) :
    OutTouch 153395 s (execStageSpaceCheck bs s) := by
  unfold execStageSpaceCheck
  repeat' first
    | with_reducible apply Touch.refl
    | with_reducible apply OutTouch.next
    | ((with_reducible apply Touch.then ?_ (State.hostBytesIn_touch _ _) ?_); rotate_left; decide)
    | ((with_reducible apply Touch.then ?_ (State.checkSpace_touch _) ?_); rotate_left; decide)
    | ((with_reducible apply Touch.then ?_ (State.flushStage_touch _) ?_); rotate_left; decide)
    | apply OutTouch.ite

theorem State.staged_touch (s : State) :
    Touch 153395 s (State.staged s) := by
  unfold State.staged
  repeat' first
    | (with_reducible intro x; with_reducible refine Touch.cutP (m := 153395) (s := s) (x := x) (fun hx => ?_) ?_; (clear_value x; rotate_left; subst x))
    | with_reducible apply Touch.refl
    | with_reducible assumption
    | ((with_reducible apply Touch.then ?_ (State.setImgState_touch _ _) ?_); rotate_left; decide)
    | ((with_reducible apply Touch.then ?_ (State.completeOpt_touch _ _ _ _ _ _) ?_); rotate_left; decide)
    | ((with_reducible apply Touch.then ?_ (State.flushStage_touch _) ?_); rotate_left; decide)
    | fail_if_no_progress ((with_reducible apply Touch.set_img); rotate_left; decide)
    | apply Touch.ite

theorem State.endStage_touch (s : State) :
    Touch 153395 s (State.endStage s) := by
  unfold State.endStage
  repeat' first
    | with_reducible apply Touch.refl
    | ((with_reducible apply Touch.then ?_ (State.stageFail_touch _ _) ?_); rotate_left; decide)
    | ((with_reducible apply Touch.then ?_ (State.staged_touch _) ?_); rotate_left; decide)
    | apply Touch.ite

theorem execStageEnd_touch (bs : List Byte) (s : State) :
    OutTouch 153395 s (execStageEnd bs s) := by
  unfold execStageEnd
  repeat' first
    | (with_reducible intro x; with_reducible refine Touch.cutP (m := 153395) (s := s) (x := x) (fun hx => ?_) ?_; (clear_value x; rotate_left; subst x))
    | with_reducible apply Touch.refl
    | with_reducible assumption
    | with_reducible apply OutTouch.next
    | ((with_reducible apply Touch.then ?_ (State.checkHeader_touch _) ?_); rotate_left; decide)
    | ((with_reducible apply Touch.then ?_ (State.endStage_touch _) ?_); rotate_left; decide)
    | ((with_reducible apply Touch.then ?_ (State.hostBytesIn_touch _ _) ?_); rotate_left; decide)
    | ((with_reducible apply Touch.then ?_ (State.checkSpace_touch _) ?_); rotate_left; decide)
    | ((with_reducible apply Touch.then ?_ (State.flushStage_touch _) ?_); rotate_left; decide)
    | fail_if_no_progress ((with_reducible apply Touch.set_img); rotate_left; decide)
    | apply OutTouch.ite

theorem execStageTimeout_touch (s : State) :
    OutTouch 153363 s (execStageTimeout s) := by
  unfold execStageTimeout
  repeat' first
    | with_reducible apply Touch.refl
    | with_reducible apply OutTouch.next
    | ((with_reducible apply Touch.then ?_ (State.stageFail_touch _ _) ?_); rotate_left; decide)
    | apply OutTouch.ite

theorem State.selfStage_touch (s : State) :
    Touch 153363 s (State.selfStage s) := by
  unfold State.selfStage
  repeat' first
    | with_reducible apply Touch.refl
    | ((with_reducible apply Touch.then ?_ (State.stageFail_touch _ _) ?_); rotate_left; decide)
    | ((with_reducible apply Touch.then ?_ (State.startStage_touch _ _ _ _ _ _) ?_); rotate_left; decide)
    | ((with_reducible apply Touch.then ?_ (State.toEmpty_touch _) ?_); rotate_left; decide)
    | ((with_reducible apply Touch.then ?_ (State.put_touch _ _ _ _) ?_); rotate_left; decide)
    | split
    | apply Touch.ite

theorem State.ownBurst_touch (s : State) (off : Nat) (bs : List Byte) :
    Touch 153395 s (State.ownBurst s off bs) := by
  unfold State.ownBurst
  repeat' first
    | (with_reducible intro x; with_reducible refine Touch.cutP (m := 153395) (s := s) (x := x) (fun hx => ?_) ?_; (clear_value x; rotate_left; subst x))
    | with_reducible apply Touch.refl
    | with_reducible assumption
    | ((with_reducible apply Touch.then ?_ (State.stageFail_touch _ _) ?_); rotate_left; decide)
    | ((with_reducible apply Touch.then ?_ (State.selfStage_touch _) ?_); rotate_left; decide)
    | ((with_reducible apply Touch.then ?_ (State.flushStage_touch _) ?_); rotate_left; decide)
    | ((with_reducible apply Touch.then ?_ (State.takeBytes_touch _ _) ?_); rotate_left; decide)
    | ((with_reducible apply Touch.then ?_ (State.report_touch _ _ _ _) ?_); rotate_left; decide)
    | fail_if_no_progress ((with_reducible apply Touch.set_img); rotate_left; decide)
    | apply Touch.ite

theorem execImageBurst_touch (p : PortNo) (off : BitVec 40) (bs : List Byte) (s : State) :
    OutTouch 153395 s (execImageBurst p off bs s) := by
  unfold execImageBurst
  repeat' first
    | with_reducible apply Touch.refl
    | with_reducible apply OutTouch.next
    | ((with_reducible apply Touch.then ?_ (State.ownBurst_touch _ _ _) ?_); rotate_left; decide)
    | ((with_reducible apply Touch.then ?_ (State.streamOut_touch _ _ _) ?_); rotate_left; decide)
    | apply OutTouch.ite

theorem execImageVerify_touch (h : Hdr) (s : State) :
    OutTouch 22275 s (execImageVerify h s) := by
  unfold execImageVerify
  repeat' first
    | ((with_reducible apply State.command_touch); rotate_left; decide)
    | with_reducible intro cmdC accT
    | with_reducible apply Touch.refl
    | ((with_reducible apply Touch.then ?_ (State.complete_touch _ _ _ _ _ _) ?_); rotate_left; decide)
    | ((with_reducible apply Touch.then ?_ (State.setImgState_touch _ _) ?_); rotate_left; decide)
    | fail_if_no_progress ((with_reducible apply Touch.set_img); rotate_left; decide)
    | apply Touch.ite

theorem State.markPeers_touch (s : State) (m : List Byte) :
    Touch 131091 s (State.markPeers s m) := by
  unfold State.markPeers
  repeat' first
    | with_reducible intro accT accX
    | with_reducible apply Touch.refl
    | ((with_reducible apply Touch.then ?_ (State.recordPsg_touch _ _ _ _) ?_); rotate_left; decide)
    | with_reducible apply Touch.foldl'

theorem State.writePlain_touch (s : State) (bodies : List (Sec × List Byte)) :
    Touch 131123 s (State.writePlain s bodies) := by
  unfold State.writePlain
  repeat' first
    | with_reducible intro accT accX
    | with_reducible apply Touch.refl
    | ((with_reducible apply Touch.then ?_ (State.dsWriteBytes_touch _ _ _) ?_); rotate_left; decide)
    | with_reducible apply Touch.foldl'
    | split

theorem State.writeGolden_touch (s : State) (bodies : List (Sec × List Byte)) :
    Touch 262144 s (State.writeGolden s bodies) := by
  unfold State.writeGolden
  repeat' first
    | with_reducible apply Touch.refl
    | fail_if_no_progress ((with_reducible apply Touch.set_flash); rotate_left; decide)
    | apply Touch.ite

theorem State.verifyAll_touch (s : State) (golden : Bool) :
    Touch 393267 s (State.verifyAll s golden).2 := by
  unfold State.verifyAll
  repeat' first
    | (with_reducible intro x; with_reducible refine Touch.cutP (m := 393267) (s := s) (x := x) (fun hx => ?_) ?_; (clear_value x; rotate_left; subst x))
    | (with_reducible intro x; subst x)
    | with_reducible lift_lets -underBinder
    | with_reducible apply Touch.refl
    | with_reducible assumption
    | with_reducible apply Touch.ite
    | ((with_reducible apply Touch.then ?_ (State.markPeers_touch _ _) ?_); rotate_left; decide)
    | ((with_reducible apply Touch.then ?_ (State.writePlain_touch _ _) ?_); rotate_left; decide)
    | ((with_reducible apply Touch.then ?_ (State.writeGolden_touch _ _) ?_); rotate_left; decide)
    | split
    | apply Touch.ite

theorem State.verifyFailed_touch (s : State) (reason : Nat) :
    Touch 153363 s (State.verifyFailed s reason) := by
  unfold State.verifyFailed
  repeat' first
    | (with_reducible intro x; with_reducible refine Touch.cutP (m := 153363) (s := s) (x := x) (fun hx => ?_) ?_; (clear_value x; rotate_left; subst x))
    | with_reducible apply Touch.refl
    | with_reducible assumption
    | ((with_reducible apply Touch.then ?_ (State.detect_touch _ _ _ _ _) ?_); rotate_left; decide)
    | ((with_reducible apply Touch.then ?_ (State.setImgState_touch _ _) ?_); rotate_left; decide)
    | ((with_reducible apply Touch.then ?_ (State.completeOpt_touch _ _ _ _ _ _) ?_); rotate_left; decide)
    | fail_if_no_progress ((with_reducible apply Touch.set_img); rotate_left; decide)

theorem State.verified_touch (s : State) :
    Touch 22275 s (State.verified s) := by
  unfold State.verified
  repeat' first
    | (with_reducible intro x; with_reducible refine Touch.cutP (m := 22275) (s := s) (x := x) (fun hx => ?_) ?_; (clear_value x; rotate_left; subst x))
    | with_reducible apply Touch.refl
    | with_reducible assumption
    | ((with_reducible apply Touch.then ?_ (State.setImgState_touch _ _) ?_); rotate_left; decide)
    | ((with_reducible apply Touch.then ?_ (State.completeOpt_touch _ _ _ _ _ _) ?_); rotate_left; decide)
    | fail_if_no_progress ((with_reducible apply Touch.set_img); rotate_left; decide)

theorem State.judgeChain_touch (s : State) :
    Touch 153363 s (State.judgeChain s) := by
  unfold State.judgeChain
  repeat' first
    | with_reducible lift_lets -underBinder
    | with_reducible apply Touch.refl
    | with_reducible apply Touch.ite
    | ((with_reducible apply Touch.then ?_ (State.setReason_touch _ _ _) ?_); rotate_left; decide)
    | ((with_reducible apply Touch.then ?_ (State.verifyFailed_touch _ _) ?_); rotate_left; decide)
    | ((with_reducible apply Touch.then ?_ (State.verified_touch _) ?_); rotate_left; decide)
    | ((with_reducible apply Touch.then ?_ (State.setReg_touch _ _ _) ?_); rotate_left; decide)
    | split

theorem State.ownVerdict_touch (s : State) (f : Option ImgFail) :
    Touch 153363 s (State.ownVerdict s f) := by
  unfold State.ownVerdict
  repeat' first
    | (with_reducible intro x; with_reducible refine Touch.cutP (m := 153363) (s := s) (x := x) (fun hx => ?_) ?_; (clear_value x; rotate_left; subst x))
    | with_reducible apply Touch.refl
    | with_reducible assumption
    | ((with_reducible apply Touch.then ?_ (State.judgeChain_touch _) ?_); rotate_left; decide)
    | ((with_reducible apply Touch.then ?_ (State.setReason_touch _ _ _) ?_); rotate_left; decide)
    | ((with_reducible apply Touch.then ?_ (State.verifyFailed_touch _ _) ?_); rotate_left; decide)
    | ((with_reducible apply Touch.then ?_ (State.verified_touch _) ?_); rotate_left; decide)
    | ((with_reducible apply Touch.then ?_ (State.report_touch _ _ _ _) ?_); rotate_left; decide)
    | fail_if_no_progress ((with_reducible apply Touch.set_img); rotate_left; decide)
    | split
    | apply Touch.ite

theorem execVerifyEnd_touch (golden : Bool) (s : State) :
    OutTouch 415539 s (execVerifyEnd golden s) := by
  unfold execVerifyEnd
  repeat' first
    | (with_reducible intro x; with_reducible refine Touch.cutP (m := 415539) (s := s) (x := x.2) (fun hx => ?_) ?_; (clear_value x; rotate_left; subst x))
    | with_reducible apply Touch.refl
    | with_reducible assumption
    | with_reducible apply OutTouch.next
    | ((with_reducible apply Touch.then ?_ (State.ownVerdict_touch _ _) ?_); rotate_left; decide)
    | ((with_reducible apply Touch.then ?_ (State.verifyAll_touch _ _) ?_); rotate_left; decide)
    | apply OutTouch.ite

theorem execChainResult_touch (pos : Fin 512) (reason : BitVec 8) (loc : Word) (s : State) :
    OutTouch 153363 s (execChainResult pos reason loc s) := by
  unfold execChainResult
  repeat' first
    | with_reducible apply Touch.refl
    | with_reducible apply OutTouch.next
    | ((with_reducible apply Touch.then ?_ (State.judgeChain_touch _) ?_); rotate_left; decide)
    | fail_if_no_progress ((with_reducible apply Touch.set_img); rotate_left; decide)
    | apply OutTouch.ite

theorem execChainTimeout_touch (s : State) :
    OutTouch 153363 s (execChainTimeout s) := by
  unfold execChainTimeout
  repeat' first
    | with_reducible apply Touch.refl
    | with_reducible apply OutTouch.next
    | ((with_reducible apply Touch.then ?_ (State.setReason_touch _ _ _) ?_); rotate_left; decide)
    | ((with_reducible apply Touch.then ?_ (State.verifyFailed_touch _ _) ?_); rotate_left; decide)
    | split

/-! Commit -/

theorem execImageCommit_touch (h : Hdr) (resume : Bool) (s : State) :
    OutTouch 5139 s (execImageCommit h resume s) := by
  unfold execImageCommit
  repeat' first
    | ((with_reducible apply State.command_touch); rotate_left; decide)
    | with_reducible intro cmdC accT
    | with_reducible apply Touch.refl
    | ((with_reducible apply Touch.then ?_ (State.complete_touch _ _ _ _ _ _) ?_); rotate_left; decide)
    | ((with_reducible apply Touch.then ?_ (State.awaitCmd_touch _ _ _ _) ?_); rotate_left; decide)
    | ((with_reducible apply Touch.then ?_ (State.await_touch _ _ _ _) ?_); rotate_left; decide)
    | split

theorem execLatticeCommit_touch (h : Hdr) (resume : Bool) (s : State) :
    OutTouch 5907 s (execLatticeCommit h resume s) := by
  unfold execLatticeCommit
  repeat' first
    | (with_reducible intro x; with_reducible refine Touch.cutP (m := 5907) (s := accT) (x := x) (fun hx => ?_) ?_; (clear_value x; rotate_left; subst x))
    | ((with_reducible apply State.command_touch); rotate_left; decide)
    | with_reducible intro cmdC accT
    | with_reducible apply Touch.refl
    | with_reducible assumption
    | ((with_reducible apply Touch.then ?_ (State.complete_touch _ _ _ _ _ _) ?_); rotate_left; decide)
    | ((with_reducible apply Touch.then ?_ (State.floodOn_touch _ _ _ _) ?_); rotate_left; decide)
    | ((with_reducible apply Touch.then ?_ (State.await_touch _ _ _ _) ?_); rotate_left; decide)
    | fail_if_no_progress ((with_reducible apply Touch.set_img); rotate_left; decide)
    | split

theorem execCommitAt_touch (p : PortNo) (origin : Fin 512) (t : BitVec 64) (digest : Word) (resume : Bool) (s : State) :
    OutTouch 785 s (execCommitAt p origin t digest resume s) := by
  unfold execCommitAt
  repeat' first
    | (with_reducible intro x; with_reducible refine Touch.cutP (m := 785) (s := s) (x := x) (fun hx => ?_) ?_; (clear_value x; rotate_left; subst x))
    | with_reducible apply Touch.refl
    | with_reducible assumption
    | with_reducible apply OutTouch.next
    | ((with_reducible apply Touch.then ?_ (State.setReason_touch _ _ _) ?_); rotate_left; decide)
    | ((with_reducible apply Touch.then ?_ (State.floodFault_touch _ _) ?_); rotate_left; decide)
    | ((with_reducible apply Touch.then ?_ (State.floodOn_touch _ _ _ _) ?_); rotate_left; decide)
    | ((with_reducible apply Touch.then ?_ (State.await_touch _ _ _ _) ?_); rotate_left; decide)
    | ((with_reducible apply Touch.then ?_ (State.haltAtEnd_touch _) ?_); rotate_left; decide)
    | ((with_reducible apply Touch.then ?_ (State.report_touch _ _ _ _) ?_); rotate_left; decide)
    | apply OutTouch.ite

theorem State.readPlain_cons (s : State) (stop : Bool) (x : Sec × Nat) (xs : List (Sec × Nat)) :
    s.readPlain stop (x :: xs) = 
    if ((s.dsReadBytes (s.regionBase 15 + x.2) x.1.len).2.1 && stop) = true then ([], true, (s.dsReadBytes (s.regionBase 15 + x.2) x.1.len).2.2)
    else ((x.1, (s.dsReadBytes (s.regionBase 15 + x.2) x.1.len).1) :: (State.readPlain (s.dsReadBytes (s.regionBase 15 + x.2) x.1.len).2.2 stop xs).1, 
     (s.dsReadBytes (s.regionBase 15 + x.2) x.1.len).2.1 || (State.readPlain (s.dsReadBytes (s.regionBase 15 + x.2) x.1.len).2.2 stop xs).2.1,
     (State.readPlain (s.dsReadBytes (s.regionBase 15 + x.2) x.1.len).2.2 stop xs).2.2) := by
  rw [State.readPlain]

theorem State.readPlain_touch (s : State) (stop : Bool) (l : List (Sec × Nat)) :
    Touch 131123 s (s.readPlain stop l).2.2 := by
  induction l generalizing s with
  | nil => exact Touch.refl _ _
  | cons x xs ih =>
    have go : ∀ a n, Touch 131123 s (s.dsReadBytes a n).2.2 := fun a n => (State.dsReadBytes_touch s a n).mono (by decide)
    rw [State.readPlain_cons]
    generalize hr : s.dsReadBytes (s.regionBase 15 + x.2) x.1.len = r
    have gr : Touch 131123 s r.2.2 := hr ▸ go _ _
    have gu : Touch 131123 s (State.readPlain r.2.2 stop xs).2.2 := gr.then (ih _) (by decide)
    split
    · exact Touch.trip gr
    · exact Touch.trip gu

theorem State.clearAsserts_touch (s : State) (g : Nat) :
    Touch 9 s (State.clearAsserts s g) := by
  unfold State.clearAsserts
  repeat' first
    | with_reducible apply Touch.refl
    | ((with_reducible apply Touch.then ?_ (State.put_touch _ _ _ _) ?_); rotate_left; decide)
    | fail_if_no_progress ((with_reducible apply Touch.set_fab); rotate_left; decide)

theorem State.bringOn_touch (s : State) (g : Nat) :
    Touch 1098785 s (State.bringOn s g) := by
  unfold State.bringOn
  repeat' first
    | with_reducible apply Touch.refl
    | ((with_reducible apply Touch.then ?_ (State.startWake_touch _ _) ?_); rotate_left; decide)
    | ((with_reducible apply Touch.then ?_ (State.galleryOn_touch _ _) ?_); rotate_left; decide)
    | apply Touch.ite

theorem State.commitDisarm_touch (s : State) :
    Touch 5187 s (State.commitDisarm s) := by
  unfold State.commitDisarm
  repeat' first
    | with_reducible apply Touch.refl
    | ((with_reducible apply Touch.then ?_ (State.disarmIfIdle_touch _) ?_); rotate_left; decide)
    | fail_if_no_progress ((with_reducible apply Touch.set_echo); rotate_left; decide)
    | apply Touch.ite

theorem State.assignEmu_touch (s : State) (m : List Byte) :
    Touch 1 s (State.assignEmu s m) := by
  unfold State.assignEmu
  repeat' first
    | (with_reducible intro x; with_reducible refine Touch.cutP (m := 1) (s := s) (x := x) (fun hx => ?_) ?_; (clear_value x; rotate_left; subst x))
    | with_reducible intro accT accX
    | with_reducible apply Touch.refl
    | with_reducible assumption
    | ((with_reducible apply Touch.then ?_ (State.assignRegion_touch _ _ _ _ _) ?_); rotate_left; decide)
    | ((with_reducible apply Touch.then ?_ (State.put_touch _ _ _ _) ?_); rotate_left; decide)
    | ((with_reducible apply Touch.then ?_ (State.releaseRegion_touch _ _) ?_); rotate_left; decide)
    | with_reducible apply Touch.foldl'

theorem State.assignPorts_touch (s : State) (m : List Byte) :
    Touch 131091 s (State.assignPorts s m) := by
  unfold State.assignPorts
  repeat' first
    | with_reducible intro accT accX
    | with_reducible apply Touch.refl
    | ((with_reducible apply Touch.then ?_ (State.setBudget_touch _ _ _) ?_); rotate_left; decide)
    | ((with_reducible apply Touch.then ?_ (State.put_touch _ _ _ _) ?_); rotate_left; decide)
    | with_reducible apply Touch.foldl'

theorem State.commitRim_touch (s : State) (m : List Byte) (bodies : List (Sec × List Byte)) :
    Touch 129 s (State.commitRim s m bodies) := by
  unfold State.commitRim
  repeat' first
    | (with_reducible intro x; with_reducible refine Touch.cutP (m := 129) (s := s) (x := x) (fun hx => ?_) ?_; (clear_value x; rotate_left; subst x))
    | with_reducible intro accT accX
    | with_reducible apply Touch.refl
    | with_reducible assumption
    | ((with_reducible apply Touch.then ?_ (State.releaseBank_touch _ _) ?_); rotate_left; decide)
    | ((with_reducible apply Touch.then ?_ (State.clearRim_touch _ _) ?_); rotate_left; decide)
    | ((with_reducible apply Touch.then ?_ (State.stopBank_touch _ _ _) ?_); rotate_left; decide)
    | ((with_reducible apply Touch.then ?_ (State.writeFrames_touch _ _ _) ?_); rotate_left; decide)
    | ((with_reducible apply Touch.then ?_ (State.put_touch _ _ _ _) ?_); rotate_left; decide)
    | ((with_reducible apply Touch.then ?_ (State.setVioOk_touch _ _) ?_); rotate_left; decide)
    | ((with_reducible apply Touch.then ?_ (State.wireStatus_touch _) ?_); rotate_left; decide)
    | ((with_reducible apply Touch.then ?_ (State.freshFrames_touch _ _) ?_); rotate_left; decide)
    | fail_if_no_progress ((with_reducible apply Touch.set_rim); rotate_left; decide)
    | with_reducible apply Touch.foldl'
    | apply Touch.ite

theorem State.fitPeriod_touch (s : State) :
    Touch 131091 s (State.fitPeriod s) := by
  unfold State.fitPeriod
  repeat' first
    | (with_reducible intro x; with_reducible refine Touch.cutP (m := 131091) (s := s) (x := x) (fun hx => ?_) ?_; (clear_value x; rotate_left; subst x))
    | with_reducible apply Touch.refl
    | with_reducible assumption
    | ((with_reducible apply Touch.then ?_ (State.detect_touch _ _ _ _ _) ?_); rotate_left; decide)
    | ((with_reducible apply Touch.then ?_ (State.put_touch _ _ _ _) ?_); rotate_left; decide)
    | ((with_reducible apply Touch.then ?_ (State.raise_touch _ _ _) ?_); rotate_left; decide)
    | ((with_reducible apply Touch.then ?_ (State.setReg_touch _ _ _) ?_); rotate_left; decide)
    | apply Touch.ite

theorem State.setDigest_touch (s : State) (o : Nat → Nat) (bs : List Byte) :
    Touch 1 s (State.setDigest s o bs) := by
  unfold State.setDigest
  repeat' first
    | with_reducible intro accT accX
    | with_reducible apply Touch.refl
    | ((with_reducible apply Touch.then ?_ (State.setReg_touch _ _ _) ?_); rotate_left; decide)
    | with_reducible apply Touch.foldl'

theorem State.setCommitTick_touch (s : State) (t : BitVec 64) :
    Touch 1 s (State.setCommitTick s t) := by
  unfold State.setCommitTick
  repeat' first
    | with_reducible apply Touch.refl
    | ((with_reducible apply Touch.then ?_ (State.put_touch _ _ _ _) ?_); rotate_left; decide)

theorem State.setLat_touch (s : State) :
    Touch 131091 s (State.setLat s) := by
  unfold State.setLat
  repeat' first
    | (with_reducible intro x; with_reducible refine Touch.cutP (m := 131091) (s := s) (x := x) (fun hx => ?_) ?_; (clear_value x; rotate_left; subst x))
    | with_reducible intro accT accX
    | with_reducible apply Touch.refl
    | with_reducible assumption
    | ((with_reducible apply Touch.then ?_ (State.detect_touch _ _ _ _ _) ?_); rotate_left; decide)
    | ((with_reducible apply Touch.then ?_ (State.put_touch _ _ _ _) ?_); rotate_left; decide)
    | ((with_reducible apply Touch.then ?_ (State.raise_touch _ _ _) ?_); rotate_left; decide)
    | ((with_reducible apply Touch.then ?_ (State.setReg_touch _ _ _) ?_); rotate_left; decide)
    | with_reducible apply Touch.foldl'
    | apply Touch.ite

theorem State.commitPrepare_touch (s : State) :
    Touch 1234043 s (State.commitPrepare s) := by
  unfold State.commitPrepare
  repeat' first
    | (with_reducible intro x; with_reducible refine Touch.cutP (m := 1234043) (s := s) (x := x) (fun hx => ?_) ?_; (clear_value x; rotate_left; subst x))
    | with_reducible intro accT accX
    | with_reducible apply Touch.refl
    | with_reducible assumption
    | ((with_reducible apply Touch.then ?_ (State.bringOn_touch _ _) ?_); rotate_left; decide)
    | ((with_reducible apply Touch.then ?_ (State.clearAsserts_touch _ _) ?_); rotate_left; decide)
    | ((with_reducible apply Touch.then ?_ (State.clearForces_touch _ _) ?_); rotate_left; decide)
    | ((with_reducible apply Touch.then ?_ (State.commitDisarm_touch _) ?_); rotate_left; decide)
    | ((with_reducible apply Touch.then ?_ (State.finishCopy_touch _) ?_); rotate_left; decide)
    | with_reducible apply Touch.foldl'

theorem State.writeBodies_touch (s : State) (m : List Byte) (lens : List Nat) (bodies : List (Sec × List Byte)) :
    Touch 131387 s (State.writeBodies s m lens bodies) := by
  unfold State.writeBodies
  repeat' first
    | (with_reducible intro x; with_reducible refine Touch.cutP (m := 131387) (s := s) (x := x) (fun hx => ?_) ?_; (clear_value x; rotate_left; subst x))
    | with_reducible intro accT accX
    | with_reducible apply Touch.refl
    | with_reducible assumption
    | ((with_reducible apply Touch.then ?_ (State.loadTables_touch _ _ _ _ _) ?_); rotate_left; decide)
    | ((with_reducible apply Touch.then ?_ (State.loadDevSec_touch _ _ _ _) ?_); rotate_left; decide)
    | ((with_reducible apply Touch.then ?_ (State.clearPorts_touch _) ?_); rotate_left; decide)
    | with_reducible apply Touch.foldl'

theorem State.applyCommit_touch (s : State) (m : List Byte) (bodies : List (Sec × List Byte)) :
    Touch 131987 s (State.applyCommit s m bodies) := by
  unfold State.applyCommit
  repeat' first
    | (with_reducible intro x; with_reducible refine Touch.cutP (m := 131987) (s := s) (x := x) (fun hx => ?_) ?_; (clear_value x; rotate_left; subst x))
    | with_reducible intro accT accX
    | with_reducible apply Touch.refl
    | with_reducible assumption
    | ((with_reducible apply Touch.then ?_ (State.commitRim_touch _ _ _) ?_); rotate_left; decide)
    | ((with_reducible apply Touch.then ?_ (State.fitPeriod_touch _) ?_); rotate_left; decide)
    | ((with_reducible apply Touch.then ?_ (State.setLat_touch _) ?_); rotate_left; decide)
    | ((with_reducible apply Touch.then ?_ (State.assignPorts_touch _ _) ?_); rotate_left; decide)
    | ((with_reducible apply Touch.then ?_ (State.put_touch _ _ _ _) ?_); rotate_left; decide)
    | ((with_reducible apply Touch.then ?_ (State.setCommitTick_touch _ _) ?_); rotate_left; decide)
    | ((with_reducible apply Touch.then ?_ (State.setDigest_touch _ _ _) ?_); rotate_left; decide)
    | fail_if_no_progress ((with_reducible apply Touch.set_sched_psg_img); rotate_left; decide; decide; decide)
    | with_reducible apply Touch.foldl'

theorem State.noImage_touch (s : State) :
    Touch 257 s (State.noImage s) := by
  unfold State.noImage
  repeat' first
    | (with_reducible intro x; with_reducible refine Touch.cutP (m := 257) (s := s) (x := x) (fun hx => ?_) ?_; (clear_value x; rotate_left; subst x))
    | with_reducible intro accT accX
    | with_reducible apply Touch.refl
    | with_reducible assumption
    | ((with_reducible apply Touch.then ?_ (State.put_touch _ _ _ _) ?_); rotate_left; decide)
    | ((with_reducible apply Touch.then ?_ (State.sendIdents_touch _) ?_); rotate_left; decide)
    | ((with_reducible apply Touch.then ?_ (State.setDigest_touch _ _ _) ?_); rotate_left; decide)
    | ((with_reducible apply Touch.then ?_ (State.setReg_touch _ _ _) ?_); rotate_left; decide)
    | with_reducible apply Touch.foldl'

theorem State.startLattice_touch (s : State) :
    Touch 1098001 s (State.startLattice s) := by
  unfold State.startLattice
  repeat' first
    | (with_reducible intro x; with_reducible refine Touch.cutP (m := 1098001) (s := s) (x := x) (fun hx => ?_) ?_; (clear_value x; rotate_left; subst x))
    | with_reducible apply Touch.refl
    | with_reducible assumption
    | ((with_reducible apply Touch.then ?_ (State.goRunning_touch _) ?_); rotate_left; decide)
    | ((with_reducible apply Touch.then ?_ (State.flood_touch _ _ _) ?_); rotate_left; decide)
    | fail_if_no_progress ((with_reducible apply Touch.set_sched_psg); rotate_left; decide; decide)

theorem State.latticeDone_touch (s : State) (reason pos : Nat) :
    Touch 1103635 s (State.latticeDone s reason pos) := by
  unfold State.latticeDone
  repeat' first
    | (with_reducible intro x; with_reducible refine Touch.cutP (m := 1103635) (s := s) (x := x) (fun hx => ?_) ?_; (clear_value x; rotate_left; subst x))
    | with_reducible apply Touch.refl
    | with_reducible assumption
    | ((with_reducible apply Touch.then ?_ (State.setReason_touch _ _ _) ?_); rotate_left; decide)
    | ((with_reducible apply Touch.then ?_ (State.startLattice_touch _) ?_); rotate_left; decide)
    | ((with_reducible apply Touch.then ?_ (State.completeOpt_touch _ _ _ _ _ _) ?_); rotate_left; decide)
    | fail_if_no_progress ((with_reducible apply Touch.set_img); rotate_left; decide)
    | apply Touch.ite

theorem State.judgeCommit_touch (s : State) :
    Touch 1103635 s (State.judgeCommit s) := by
  unfold State.judgeCommit
  repeat' first
    | with_reducible apply Touch.refl
    | ((with_reducible apply Touch.then ?_ (State.latticeDone_touch _ _ _) ?_); rotate_left; decide)
    | split
    | apply Touch.ite

theorem State.ownCommit_touch (s : State) (reason : Nat) :
    Touch 1103635 s (State.ownCommit s reason) := by
  unfold State.ownCommit
  repeat' first
    | with_reducible apply Touch.refl
    | ((with_reducible apply Touch.then ?_ (State.judgeCommit_touch _) ?_); rotate_left; decide)
    | ((with_reducible apply Touch.then ?_ (State.report_touch _ _ _ _) ?_); rotate_left; decide)
    | fail_if_no_progress ((with_reducible apply Touch.set_img); rotate_left; decide)
    | apply Touch.ite

theorem State.commitRefuse_touch (s : State) (lattice : Bool) (c : Option CmdId) (st reason : Nat) :
    Touch 1234707 s (State.commitRefuse s lattice c st reason) := by
  unfold State.commitRefuse
  repeat' first
    | (with_reducible intro x; with_reducible refine Touch.cutP (m := 1234707) (s := s) (x := x) (fun hx => ?_) ?_; (clear_value x; rotate_left; subst x))
    | with_reducible apply Touch.refl
    | with_reducible assumption
    | ((with_reducible apply Touch.then ?_ (State.detect_touch _ _ _ _ _) ?_); rotate_left; decide)
    | ((with_reducible apply Touch.then ?_ (State.setReason_touch _ _ _) ?_); rotate_left; decide)
    | ((with_reducible apply Touch.then ?_ (State.ownCommit_touch _ _) ?_); rotate_left; decide)
    | ((with_reducible apply Touch.then ?_ (State.completeOpt_touch _ _ _ _ _ _) ?_); rotate_left; decide)
    | ((with_reducible apply Touch.then ?_ (State.markPeers_touch _ _) ?_); rotate_left; decide)
    | ((with_reducible apply Touch.then ?_ (State.haltAtEnd_touch _) ?_); rotate_left; decide)
    | apply Touch.ite

theorem State.cancelTargets_touch (s : State) :
    Touch 5139 s (State.cancelTargets s) := by
  unfold State.cancelTargets
  repeat' first
    | with_reducible apply Touch.refl
    | with_reducible assumption
    | ((with_reducible apply Touch.then ?_ (State.cancelPending_touch _ _) ?_); rotate_left; decide)
    | fail_if_no_progress ((with_reducible apply Touch.set_sched); rotate_left; decide)

theorem State.commitLost_touch (s : State) :
    Touch 1300315 s (State.commitLost s) := by
  unfold State.commitLost
  repeat' first
    | (with_reducible intro x; with_reducible refine Touch.cutP (m := 1300315) (s := s) (x := x) (fun hx => ?_) ?_; (clear_value x; rotate_left; subst x))
    | with_reducible apply Touch.refl
    | with_reducible assumption
    | ((with_reducible apply Touch.then ?_ (State.detect_touch _ _ _ _ _) ?_); rotate_left; decide)
    | ((with_reducible apply Touch.then ?_ (State.noImage_touch _) ?_); rotate_left; decide)
    | ((with_reducible apply Touch.then ?_ (State.setImgState_touch _ _) ?_); rotate_left; decide)
    | ((with_reducible apply Touch.then ?_ (State.setReason_touch _ _ _) ?_); rotate_left; decide)
    | ((with_reducible apply Touch.then ?_ (State.afterBoundary_touch _) ?_); rotate_left; decide)
    | ((with_reducible apply Touch.then ?_ (State.ownCommit_touch _ _) ?_); rotate_left; decide)
    | ((with_reducible apply Touch.then ?_ (State.completeOpt_touch _ _ _ _ _ _) ?_); rotate_left; decide)
    | fail_if_no_progress ((with_reducible apply Touch.set_sched_img); rotate_left; decide; decide)
    | apply Touch.ite

theorem State.commitWrites_touch (s : State) :
    Touch 1300475 s (State.commitWrites s) := by
  unfold State.commitWrites
  repeat' first
    | (with_reducible intro x; with_reducible refine Touch.cutP (m := 1300475) (s := s) (x := x) (fun hx => ?_) ?_; (clear_value x; rotate_left; subst x))
    | (with_reducible intro x; with_reducible refine Touch.cutP (m := 1300475) (s := s) (x := x.2.2) (fun hx => ?_) ?_; (clear_value x; rotate_left; subst x))
    | with_reducible apply Touch.refl
    | with_reducible assumption
    | ((with_reducible apply Touch.then ?_ (State.applyCommit_touch _ _ _) ?_); rotate_left; decide)
    | ((with_reducible apply Touch.then ?_ (State.commitLost_touch _) ?_); rotate_left; decide)
    | ((with_reducible apply Touch.then ?_ (State.assignEmu_touch _ _) ?_); rotate_left; decide)
    | ((with_reducible apply Touch.then ?_ (State.writeBodies_touch _ _ _ _) ?_); rotate_left; decide)
    | ((with_reducible apply Touch.then ?_ (State.put_touch _ _ _ _) ?_); rotate_left; decide)
    | ((with_reducible apply Touch.then ?_ (State.readPlain_touch _ _ _) ?_); rotate_left; decide)
    | ((with_reducible apply Touch.then ?_ (State.setProgress_touch _ _) ?_); rotate_left; decide)
    | fail_if_no_progress ((with_reducible apply Touch.set_img); rotate_left; decide)
    | apply Touch.ite

theorem State.commitIfReady_touch (s : State) :
    Touch 1300475 s (State.commitIfReady s) := by
  unfold State.commitIfReady
  repeat' first
    | with_reducible apply Touch.refl
    | ((with_reducible apply Touch.then ?_ (State.commitWrites_touch _) ?_); rotate_left; decide)
    | apply Touch.ite

theorem execWakeClearEnd_touch (g : Gal) (found : List MarchFault) (s : State) :
    OutTouch 1300479 s (execWakeClearEnd g found s) := by
  unfold execWakeClearEnd
  repeat' first
    | with_reducible apply Touch.refl
    | with_reducible apply OutTouch.next
    | ((with_reducible apply Touch.then ?_ (State.wakeEnd_touch _ _ _) ?_); rotate_left; decide)
    | ((with_reducible apply Touch.then ?_ (State.commitIfReady_touch _) ?_); rotate_left; decide)
    | split

theorem execCommitApply_touch (s : State) :
    OutTouch 1300475 s (execCommitApply s) := by
  unfold execCommitApply
  repeat' first
    | (with_reducible intro x; with_reducible refine Touch.cutP (m := 1300475) (s := s) (x := x) (fun hx => ?_) ?_; (clear_value x; rotate_left; subst x))
    | with_reducible lift_lets -underBinder
    | with_reducible apply Touch.refl
    | with_reducible assumption
    | with_reducible apply OutTouch.next
    | ((with_reducible apply Touch.then ?_ (State.commitRefuse_touch _ _ _ _ _) ?_); rotate_left; decide)
    | ((with_reducible apply Touch.then ?_ (State.commitPrepare_touch _) ?_); rotate_left; decide)
    | ((with_reducible apply Touch.then ?_ (State.haltNow_touch _) ?_); rotate_left; decide)
    | ((with_reducible apply Touch.then ?_ (State.setImgState_touch _ _) ?_); rotate_left; decide)
    | ((with_reducible apply Touch.then ?_ (State.afterBoundary_touch _) ?_); rotate_left; decide)
    | ((with_reducible apply Touch.then ?_ (State.cancelTargets_touch _) ?_); rotate_left; decide)
    | ((with_reducible apply Touch.then ?_ (State.commitIfReady_touch _) ?_); rotate_left; decide)
    | ((with_reducible apply Touch.then ?_ (State.dropPending_touch _ _) ?_); rotate_left; decide)
    | fail_if_no_progress ((with_reducible apply Touch.set_sched_img); rotate_left; decide; decide)
    | split

theorem execCommitEnd_touch (s : State) :
    OutTouch 1300315 s (execCommitEnd s) := by
  unfold execCommitEnd
  repeat' first
    | (with_reducible intro x; with_reducible refine Touch.cutP (m := 1300315) (s := s) (x := x) (fun hx => ?_) ?_; (clear_value x; rotate_left; subst x))
    | with_reducible apply Touch.refl
    | with_reducible assumption
    | with_reducible apply OutTouch.next
    | ((with_reducible apply Touch.then ?_ (State.detect_touch _ _ _ _ _) ?_); rotate_left; decide)
    | ((with_reducible apply Touch.then ?_ (State.toEmpty_touch _) ?_); rotate_left; decide)
    | ((with_reducible apply Touch.then ?_ (State.afterBoundary_touch _) ?_); rotate_left; decide)
    | ((with_reducible apply Touch.then ?_ (State.ownCommit_touch _ _) ?_); rotate_left; decide)
    | ((with_reducible apply Touch.then ?_ (State.completeOpt_touch _ _ _ _ _ _) ?_); rotate_left; decide)
    | ((with_reducible apply Touch.then ?_ (State.sendIdents_touch _) ?_); rotate_left; decide)
    | fail_if_no_progress ((with_reducible apply Touch.set_sched_img); rotate_left; decide; decide)
    | apply OutTouch.ite

theorem execCommitReport_touch (pos : Fin 512) (reason : BitVec 8) (s : State) :
    OutTouch 1103635 s (execCommitReport pos reason s) := by
  unfold execCommitReport
  repeat' first
    | with_reducible apply Touch.refl
    | with_reducible apply OutTouch.next
    | ((with_reducible apply Touch.then ?_ (State.judgeCommit_touch _) ?_); rotate_left; decide)
    | fail_if_no_progress ((with_reducible apply Touch.set_img); rotate_left; decide)
    | apply OutTouch.ite

theorem execLatticeCommitTimeout_touch (s : State) :
    OutTouch 1103635 s (execLatticeCommitTimeout s) := by
  unfold execLatticeCommitTimeout
  repeat' first
    | (with_reducible intro x; subst x)
    | with_reducible lift_lets -underBinder
    | with_reducible apply Touch.refl
    | with_reducible assumption
    | with_reducible apply OutTouch.ite
    | with_reducible apply OutTouch.next
    | with_reducible exact OutTouch.fault
    | with_reducible apply Touch.ite
    | ((with_reducible apply Touch.then ?_ (State.latticeDone_touch _ _ _) ?_); rotate_left; decide)
    | split
    | apply Touch.ite
    | apply OutTouch.ite

theorem execRegionReload_touch (h : Hdr) (join : BitVec 64) (s : State) :
    OutTouch 5139 s (execRegionReload h join s) := by
  unfold execRegionReload
  repeat' first
    | ((with_reducible apply State.command_touch); rotate_left; decide)
    | with_reducible intro cmdC accT
    | with_reducible apply Touch.refl
    | ((with_reducible apply Touch.then ?_ (State.complete_touch _ _ _ _ _ _) ?_); rotate_left; decide)
    | ((with_reducible apply Touch.then ?_ (State.await_touch _ _ _ _) ?_); rotate_left; decide)
    | split

theorem execReloadIsolate_touch (s : State) :
    OutTouch 1310715 s (execReloadIsolate s) := by
  unfold execReloadIsolate
  repeat' first
    | (with_reducible intro x; with_reducible refine Touch.cutP (m := 1310715) (s := s) (x := x) (fun hx => ?_) ?_; (clear_value x; rotate_left; subst x))
    | with_reducible intro accT accX
    | with_reducible apply Touch.refl
    | with_reducible assumption
    | with_reducible apply OutTouch.next
    | ((with_reducible apply Touch.then ?_ (State.setImgState_touch _ _) ?_); rotate_left; decide)
    | ((with_reducible apply Touch.then ?_ (State.afterBoundary_touch _) ?_); rotate_left; decide)
    | ((with_reducible apply Touch.then ?_ (State.bringOn_touch _ _) ?_); rotate_left; decide)
    | ((with_reducible apply Touch.then ?_ (State.flushQueue_touch _ _ _) ?_); rotate_left; decide)
    | ((with_reducible apply Touch.then ?_ (State.stopBank_touch _ _ _) ?_); rotate_left; decide)
    | ((with_reducible apply Touch.then ?_ (State.abortSnapPhase2_touch _) ?_); rotate_left; decide)
    | ((with_reducible apply Touch.then ?_ (State.clearAsserts_touch _ _) ?_); rotate_left; decide)
    | ((with_reducible apply Touch.then ?_ (State.clearForces_touch _ _) ?_); rotate_left; decide)
    | ((with_reducible apply Touch.then ?_ (State.completeOpt_touch _ _ _ _ _ _) ?_); rotate_left; decide)
    | ((with_reducible apply Touch.then ?_ (State.put_touch _ _ _ _) ?_); rotate_left; decide)
    | ((with_reducible apply Touch.then ?_ (State.dropPending_touch _ _) ?_); rotate_left; decide)
    | fail_if_no_progress ((with_reducible apply Touch.set_fab_img); rotate_left; decide; decide)
    | with_reducible apply Touch.foldl'
    | split
    | apply OutTouch.ite

theorem execReloadWriteEnd_touch (s : State) :
    OutTouch 132027 s (execReloadWriteEnd s) := by
  unfold execReloadWriteEnd
  repeat' first
    | (with_reducible intro x; with_reducible refine Touch.cutP (m := 132027) (s := s) (x := x) (fun hx => ?_) ?_; (clear_value x; rotate_left; subst x))
    | (with_reducible intro x; with_reducible refine Touch.cutP (m := 132027) (s := s) (x := x.2.2) (fun hx => ?_) ?_; (clear_value x; rotate_left; subst x))
    | with_reducible intro accT accX
    | with_reducible apply Touch.refl
    | with_reducible assumption
    | with_reducible apply OutTouch.next
    | ((with_reducible apply Touch.then ?_ (State.loadTables_touch _ _ _ _ _) ?_); rotate_left; decide)
    | ((with_reducible apply Touch.then ?_ (State.clearRim_touch _ _) ?_); rotate_left; decide)
    | ((with_reducible apply Touch.then ?_ (State.loadDevSec_touch _ _ _ _) ?_); rotate_left; decide)
    | ((with_reducible apply Touch.then ?_ (State.writeFrames_touch _ _ _) ?_); rotate_left; decide)
    | ((with_reducible apply Touch.then ?_ (State.readPlain_touch _ _ _) ?_); rotate_left; decide)
    | ((with_reducible apply Touch.then ?_ (State.setProgress_touch _ _) ?_); rotate_left; decide)
    | ((with_reducible apply Touch.then ?_ (State.wireStatus_touch _) ?_); rotate_left; decide)
    | ((with_reducible apply Touch.then ?_ (State.freshFrames_touch _ _) ?_); rotate_left; decide)
    | fail_if_no_progress ((with_reducible apply Touch.set_sched_img); rotate_left; decide; decide)
    | with_reducible apply Touch.foldl'
    | apply OutTouch.ite

theorem execRegionJoin_touch (s : State) :
    OutTouch 1300443 s (execRegionJoin s) := by
  unfold execRegionJoin
  repeat' first
    | (with_reducible intro x; with_reducible refine Touch.cutP (m := 1300443) (s := s) (x := x) (fun hx => ?_) ?_; (clear_value x; rotate_left; subst x))
    | with_reducible intro accT accX
    | with_reducible apply Touch.refl
    | with_reducible assumption
    | with_reducible apply OutTouch.next
    | ((with_reducible apply Touch.then ?_ (State.detect_touch _ _ _ _ _) ?_); rotate_left; decide)
    | ((with_reducible apply Touch.then ?_ (State.toEmpty_touch _) ?_); rotate_left; decide)
    | ((with_reducible apply Touch.then ?_ (State.releaseBank_touch _ _) ?_); rotate_left; decide)
    | ((with_reducible apply Touch.then ?_ (State.afterBoundary_touch _) ?_); rotate_left; decide)
    | ((with_reducible apply Touch.then ?_ (State.completeOpt_touch _ _ _ _ _ _) ?_); rotate_left; decide)
    | ((with_reducible apply Touch.then ?_ (State.put_touch _ _ _ _) ?_); rotate_left; decide)
    | ((with_reducible apply Touch.then ?_ (State.setCommitTick_touch _ _) ?_); rotate_left; decide)
    | ((with_reducible apply Touch.then ?_ (State.setDigest_touch _ _ _) ?_); rotate_left; decide)
    | ((with_reducible apply Touch.then ?_ (State.dropPending_touch _ _) ?_); rotate_left; decide)
    | fail_if_no_progress ((with_reducible apply Touch.set_fab); rotate_left; decide)
    | fail_if_no_progress ((with_reducible apply Touch.set_img); rotate_left; decide)
    | with_reducible apply Touch.foldl'
    | split

/-! Ports -/

theorem State.setPort_touch (s : State) (p n : Nat) :
    Touch 1 s (State.setPort s p n) := by
  unfold State.setPort
  repeat' first
    | with_reducible apply Touch.refl
    | ((with_reducible apply Touch.then ?_ (State.put_touch _ _ _ _) ?_); rotate_left; decide)

theorem State.resetLink_touch (s : State) (p : Nat) :
    Touch 2304 s (State.resetLink s p) := by
  unfold State.resetLink
  repeat' first
    | with_reducible apply Touch.refl
    | fail_if_no_progress ((with_reducible apply Touch.set_psg_noc); rotate_left; decide; decide)

theorem State.trainOver_touch (s : State) (p : Nat) (ok : Bool) :
    Touch 5379 s (State.trainOver s p ok) := by
  unfold State.trainOver
  repeat' first
    | (with_reducible intro x; with_reducible refine Touch.cutP (m := 5379) (s := s) (x := x) (fun hx => ?_) ?_; (clear_value x; rotate_left; subst x))
    | with_reducible apply Touch.refl
    | with_reducible assumption
    | ((with_reducible apply Touch.then ?_ (State.completeOpt_touch _ _ _ _ _ _) ?_); rotate_left; decide)
    | fail_if_no_progress ((with_reducible apply Touch.set_psg); rotate_left; decide)
    | apply Touch.ite

theorem State.untrain_touch (s : State) (p : Nat) :
    Touch 2305 s (State.untrain s p) := by
  unfold State.untrain
  repeat' first
    | (with_reducible intro x; with_reducible refine Touch.cutP (m := 2305) (s := s) (x := x) (fun hx => ?_) ?_; (clear_value x; rotate_left; subst x))
    | with_reducible apply Touch.refl
    | with_reducible assumption
    | ((with_reducible apply Touch.then ?_ (State.put_touch _ _ _ _) ?_); rotate_left; decide)
    | ((with_reducible apply Touch.then ?_ (State.setReady_touch _ _ _) ?_); rotate_left; decide)
    | ((with_reducible apply Touch.then ?_ (State.resetLink_touch _ _) ?_); rotate_left; decide)
    | ((with_reducible apply Touch.then ?_ (State.setReg_touch _ _ _) ?_); rotate_left; decide)
    | apply Touch.ite

theorem State.leaveTrained_touch (s : State) (p n : Nat) :
    Touch 133395 s (State.leaveTrained s p n) := by
  unfold State.leaveTrained
  repeat' first
    | with_reducible apply Touch.refl
    | ((with_reducible apply Touch.then ?_ (State.untrain_touch _ _) ?_); rotate_left; decide)
    | ((with_reducible apply Touch.then ?_ (State.recordPsg_touch _ _ _ _) ?_); rotate_left; decide)
    | ((with_reducible apply Touch.then ?_ (State.setPort_touch _ _ _) ?_); rotate_left; decide)
    | apply Touch.ite

theorem State.portDown_touch (s : State) (p : Nat) :
    Touch 138515 s (State.portDown s p) := by
  unfold State.portDown
  repeat' first
    | with_reducible apply Touch.refl
    | ((with_reducible apply Touch.then ?_ (State.leaveTrained_touch _ _ _) ?_); rotate_left; decide)
    | ((with_reducible apply Touch.then ?_ (State.trainOver_touch _ _ _) ?_); rotate_left; decide)

theorem State.attempt_touch (s : State) (p : Nat) :
    Touch 1 s (State.attempt s p) := by
  unfold State.attempt
  repeat' first
    | with_reducible apply Touch.refl
    | ((with_reducible apply Touch.then ?_ (State.put_touch _ _ _ _) ?_); rotate_left; decide)
    | ((with_reducible apply Touch.then ?_ (State.setPort_touch _ _ _) ?_); rotate_left; decide)

theorem State.train_touch (s : State) (p : Nat) :
    Touch 133395 s (State.train s p) := by
  unfold State.train
  repeat' first
    | with_reducible apply Touch.refl
    | ((with_reducible apply Touch.then ?_ (State.leaveTrained_touch _ _ _) ?_); rotate_left; decide)
    | ((with_reducible apply Touch.then ?_ (State.attempt_touch _ _) ?_); rotate_left; decide)
    | ((with_reducible apply Touch.then ?_ (State.put_touch _ _ _ _) ?_); rotate_left; decide)

theorem State.attemptFails_touch (s : State) (p : Nat) :
    Touch 136467 s (State.attemptFails s p) := by
  unfold State.attemptFails
  repeat' first
    | (with_reducible intro x; with_reducible refine Touch.cutP (m := 136467) (s := s) (x := x) (fun hx => ?_) ?_; (clear_value x; rotate_left; subst x))
    | with_reducible apply Touch.refl
    | with_reducible assumption
    | ((with_reducible apply Touch.then ?_ (State.recordPsg_touch _ _ _ _) ?_); rotate_left; decide)
    | ((with_reducible apply Touch.then ?_ (State.attempt_touch _ _) ?_); rotate_left; decide)
    | ((with_reducible apply Touch.then ?_ (State.bump_touch _ _ _ _) ?_); rotate_left; decide)
    | ((with_reducible apply Touch.then ?_ (State.setPort_touch _ _ _) ?_); rotate_left; decide)
    | ((with_reducible apply Touch.then ?_ (State.trainOver_touch _ _ _) ?_); rotate_left; decide)
    | apply Touch.ite

theorem State.portOff_touch (s : State) (p : Nat) :
    Touch 138515 s (State.portOff s p) := by
  unfold State.portOff
  repeat' first
    | with_reducible apply Touch.refl
    | ((with_reducible apply Touch.then ?_ (State.leaveTrained_touch _ _ _) ?_); rotate_left; decide)
    | ((with_reducible apply Touch.then ?_ (State.trainOver_touch _ _ _) ?_); rotate_left; decide)

theorem State.writePsgCtl_touch (s : State) (p : Nat) (w : Word) :
    Touch 138515 s (State.writePsgCtl s p w) := by
  unfold State.writePsgCtl
  repeat' first
    | (with_reducible intro x; with_reducible refine Touch.cutP (m := 138515) (s := s) (x := x) (fun hx => ?_) ?_; (clear_value x; rotate_left; subst x))
    | with_reducible apply Touch.refl
    | with_reducible assumption
    | ((with_reducible apply Touch.then ?_ (State.detect_touch _ _ _ _ _) ?_); rotate_left; decide)
    | ((with_reducible apply Touch.then ?_ (State.train_touch _ _) ?_); rotate_left; decide)
    | ((with_reducible apply Touch.then ?_ (State.portDown_touch _ _) ?_); rotate_left; decide)
    | ((with_reducible apply Touch.then ?_ (State.portOff_touch _ _) ?_); rotate_left; decide)
    | ((with_reducible apply Touch.then ?_ (State.put_touch _ _ _ _) ?_); rotate_left; decide)
    | apply Touch.ite

theorem execPsgTrain_touch (p : PortNo) (w : Word) (s : State) :
    OutTouch 138515 s (execPsgTrain p w s) := by
  unfold execPsgTrain
  repeat' first
    | with_reducible apply Touch.refl
    | with_reducible apply OutTouch.next
    | ((with_reducible apply Touch.then ?_ (State.writePsgCtl_touch _ _ _) ?_); rotate_left; decide)

theorem execPsgDown_touch (p : PortNo) (w : Word) (s : State) :
    OutTouch 138515 s (execPsgDown p w s) := by
  unfold execPsgDown
  repeat' first
    | with_reducible apply Touch.refl
    | with_reducible apply OutTouch.next
    | ((with_reducible apply Touch.then ?_ (State.writePsgCtl_touch _ _ _) ?_); rotate_left; decide)

theorem execClrFec_touch (p : PortNo) (s : State) :
    OutTouch 1 s (execClrFec p s) := by
  unfold execClrFec
  repeat' first
    | with_reducible apply Touch.refl
    | with_reducible apply OutTouch.next
    | ((with_reducible apply Touch.then ?_ (State.setReg_touch _ _ _) ?_); rotate_left; decide)

theorem execClrRetry_touch (p : PortNo) (s : State) :
    OutTouch 1 s (execClrRetry p s) := by
  unfold execClrRetry
  repeat' first
    | with_reducible apply Touch.refl
    | with_reducible apply OutTouch.next
    | ((with_reducible apply Touch.then ?_ (State.setReg_touch _ _ _) ?_); rotate_left; decide)

theorem execClrDrop_touch (p : PortNo) (s : State) :
    OutTouch 1 s (execClrDrop p s) := by
  unfold execClrDrop
  repeat' first
    | with_reducible apply Touch.refl
    | with_reducible apply OutTouch.next
    | ((with_reducible apply Touch.then ?_ (State.setReg_touch _ _ _) ?_); rotate_left; decide)

theorem execLaneEqualised_touch (p : PortNo) (k : Fin 4) (s : State) :
    OutTouch 1 s (execLaneEqualised p k s) := by
  unfold execLaneEqualised
  repeat' first
    | with_reducible apply Touch.refl
    | with_reducible apply OutTouch.next
    | ((with_reducible apply Touch.then ?_ (State.put_touch _ _ _ _) ?_); rotate_left; decide)
    | apply OutTouch.ite

theorem execBlockLock_touch (p : PortNo) (s : State) :
    OutTouch 2305 s (execBlockLock p s) := by
  unfold execBlockLock
  repeat' first
    | (with_reducible intro x; with_reducible refine Touch.cutP (m := 2305) (s := s) (x := x) (fun hx => ?_) ?_; (clear_value x; rotate_left; subst x))
    | with_reducible apply Touch.refl
    | with_reducible assumption
    | with_reducible apply OutTouch.next
    | ((with_reducible apply Touch.then ?_ (State.put_touch _ _ _ _) ?_); rotate_left; decide)
    | ((with_reducible apply Touch.then ?_ (State.sendIdent_touch _ _) ?_); rotate_left; decide)
    | ((with_reducible apply Touch.then ?_ (State.setPort_touch _ _ _) ?_); rotate_left; decide)
    | ((with_reducible apply Touch.then ?_ (State.resetLink_touch _ _) ?_); rotate_left; decide)
    | apply OutTouch.ite

theorem execLatencyMeasured_touch (p : PortNo) (dmax mean rtt : Word) (s : State) :
    OutTouch 136467 s (execLatencyMeasured p dmax mean rtt s) := by
  unfold execLatencyMeasured
  repeat' first
    | (with_reducible intro x; with_reducible refine Touch.cutP (m := 136467) (s := s) (x := x) (fun hx => ?_) ?_; (clear_value x; rotate_left; subst x))
    | with_reducible apply Touch.refl
    | with_reducible assumption
    | with_reducible apply OutTouch.next
    | ((with_reducible apply Touch.then ?_ (State.attemptFails_touch _ _) ?_); rotate_left; decide)
    | ((with_reducible apply Touch.then ?_ (State.put_touch _ _ _ _) ?_); rotate_left; decide)
    | ((with_reducible apply Touch.then ?_ (State.setPort_touch _ _ _) ?_); rotate_left; decide)
    | ((with_reducible apply Touch.then ?_ (State.setReg_touch _ _ _) ?_); rotate_left; decide)
    | apply OutTouch.ite

theorem execPortTrained_touch (p : PortNo) (s : State) :
    OutTouch 138515 s (execPortTrained p s) := by
  unfold execPortTrained
  repeat' first
    | (with_reducible intro x; with_reducible refine Touch.cutP (m := 138515) (s := s) (x := x) (fun hx => ?_) ?_; (clear_value x; rotate_left; subst x))
    | with_reducible apply Touch.refl
    | with_reducible assumption
    | with_reducible apply OutTouch.next
    | ((with_reducible apply Touch.then ?_ (State.detect_touch _ _ _ _ _) ?_); rotate_left; decide)
    | ((with_reducible apply Touch.then ?_ (State.drained_touch _) ?_); rotate_left; decide)
    | ((with_reducible apply Touch.then ?_ (State.raise_touch _ _ _) ?_); rotate_left; decide)
    | ((with_reducible apply Touch.then ?_ (State.setHeld_touch _ _) ?_); rotate_left; decide)
    | ((with_reducible apply Touch.then ?_ (State.setPort_touch _ _ _) ?_); rotate_left; decide)
    | ((with_reducible apply Touch.then ?_ (State.setReady_touch _ _ _) ?_); rotate_left; decide)
    | ((with_reducible apply Touch.then ?_ (State.trainOver_touch _ _ _) ?_); rotate_left; decide)
    | apply Touch.ite
    | apply OutTouch.ite

theorem execTrainingFail_touch (p : PortNo) (s : State) :
    OutTouch 136467 s (execTrainingFail p s) := by
  unfold execTrainingFail
  repeat' first
    | with_reducible apply Touch.refl
    | with_reducible apply OutTouch.next
    | ((with_reducible apply Touch.then ?_ (State.attemptFails_touch _ _) ?_); rotate_left; decide)
    | apply OutTouch.ite

theorem execLaneFail_touch (p : PortNo) (k : Fin 4) (s : State) :
    OutTouch 138515 s (execLaneFail p k s) := by
  unfold execLaneFail
  repeat' first
    | (with_reducible intro x; with_reducible refine Touch.cutP (m := 138515) (s := s) (x := x) (fun hx => ?_) ?_; (clear_value x; rotate_left; subst x))
    | with_reducible apply Touch.refl
    | with_reducible assumption
    | with_reducible apply OutTouch.next
    | ((with_reducible apply Touch.then ?_ (State.recordPsg_touch _ _ _ _) ?_); rotate_left; decide)
    | ((with_reducible apply Touch.then ?_ (State.portDown_touch _ _) ?_); rotate_left; decide)
    | ((with_reducible apply Touch.then ?_ (State.put_touch _ _ _ _) ?_); rotate_left; decide)
    | apply OutTouch.ite

theorem State.setPeer_touch (s : State) (p : Nat) (x : Ident) :
    Touch 1 s (State.setPeer s p x) := by
  unfold State.setPeer
  repeat' first
    | with_reducible apply Touch.refl
    | ((with_reducible apply Touch.then ?_ (State.put_touch _ _ _ _) ?_); rotate_left; decide)

theorem execLatticeIdent_touch (p : PortNo) (x : Ident) (own : Bool) (s : State) :
    OutTouch 138515 s (execLatticeIdent p x own s) := by
  unfold execLatticeIdent
  repeat' first
    | (with_reducible intro x; with_reducible refine Touch.cutP (m := 138515) (s := s) (x := x) (fun hx => ?_) ?_; (clear_value x; rotate_left; subst x))
    | with_reducible apply Touch.refl
    | with_reducible assumption
    | with_reducible apply OutTouch.next
    | ((with_reducible apply Touch.then ?_ (State.attemptFails_touch _ _) ?_); rotate_left; decide)
    | ((with_reducible apply Touch.then ?_ (State.recordPsg_touch _ _ _ _) ?_); rotate_left; decide)
    | ((with_reducible apply Touch.then ?_ (State.portDown_touch _ _) ?_); rotate_left; decide)
    | ((with_reducible apply Touch.then ?_ (State.recordLtc_touch _ _) ?_); rotate_left; decide)
    | ((with_reducible apply Touch.then ?_ (State.put_touch _ _ _ _) ?_); rotate_left; decide)
    | ((with_reducible apply Touch.then ?_ (State.setPeer_touch _ _ _) ?_); rotate_left; decide)
    | ((with_reducible apply Touch.then ?_ (State.setPort_touch _ _ _) ?_); rotate_left; decide)
    | apply OutTouch.ite

theorem State.txBlock_touch (s : State) (p seq : Nat) (flits : List BlockFlit) :
    Touch 257 s (State.txBlock s p seq flits) := by
  unfold State.txBlock
  repeat' first
    | (with_reducible intro x; with_reducible refine Touch.cutP (m := 257) (s := s) (x := x) (fun hx => ?_) ?_; (clear_value x; rotate_left; subst x))
    | with_reducible apply Touch.refl
    | with_reducible assumption
    | ((with_reducible apply Touch.then ?_ (State.bump_touch _ _ _ _) ?_); rotate_left; decide)
    | fail_if_no_progress ((with_reducible apply Touch.set_psg); rotate_left; decide)
    | apply Touch.ite

theorem State.useFec_touch (s : State) (p : Nat) :
    Touch 131075 s (State.useFec s p) := by
  unfold State.useFec
  repeat' first
    | (with_reducible intro x; with_reducible refine Touch.cutP (m := 131075) (s := s) (x := x) (fun hx => ?_) ?_; (clear_value x; rotate_left; subst x))
    | with_reducible apply Touch.refl
    | with_reducible assumption
    | ((with_reducible apply Touch.then ?_ (State.useArmed_touch _ _ _ _) ?_); rotate_left; decide)
    | apply Touch.ite

theorem State.sendBlock_touch (s : State) (p : Nat) :
    Touch 131331 s (State.sendBlock s p) := by
  unfold State.sendBlock
  repeat' first
    | with_reducible apply Touch.refl
    | with_reducible assumption
    | ((with_reducible apply Touch.then ?_ (State.txBlock_touch _ _ _ _) ?_); rotate_left; decide)
    | ((with_reducible apply Touch.then ?_ (State.useFec_touch _ _) ?_); rotate_left; decide)
    | fail_if_no_progress ((with_reducible apply Touch.set_psg); rotate_left; decide)
    | apply Touch.ite

theorem State.resend_touch (s : State) (p : Nat) :
    Touch 138515 s (State.resend s p) := by
  unfold State.resend
  repeat' first
    | with_reducible intro accT accX
    | with_reducible apply Touch.refl
    | with_reducible assumption
    | ((with_reducible apply Touch.then ?_ (State.recordPsg_touch _ _ _ _) ?_); rotate_left; decide)
    | ((with_reducible apply Touch.then ?_ (State.portDown_touch _ _) ?_); rotate_left; decide)
    | ((with_reducible apply Touch.then ?_ (State.bump_touch _ _ _ _) ?_); rotate_left; decide)
    | ((with_reducible apply Touch.then ?_ (State.txBlock_touch _ _ _ _) ?_); rotate_left; decide)
    | fail_if_no_progress ((with_reducible apply Touch.set_psg); rotate_left; decide)
    | with_reducible apply Touch.foldl'
    | apply Touch.ite

theorem State.acked_touch (s : State) (p a : Nat) :
    Touch 256 s (State.acked s p a) := by
  unfold State.acked
  repeat' first
    | with_reducible apply Touch.refl
    | fail_if_no_progress ((with_reducible apply Touch.set_psg); rotate_left; decide)
    | apply Touch.ite

theorem State.protoErrs_touch (n p : Nat) (s : State) : Touch 131091 s (State.protoErrs n p s) := by
  induction n generalizing s with
  | zero => exact Touch.refl _ _
  | succ n ih => exact ((State.recordPsg_touch s p 9 _).mono (by decide)).then (ih _) (by decide)

theorem State.setDiscard_touch (s : State) (p : Nat) (on : Bool) :
    Touch 256 s (State.setDiscard s p on) := by
  unfold State.setDiscard
  repeat' first
    | with_reducible apply Touch.refl
    | fail_if_no_progress ((with_reducible apply Touch.set_psg); rotate_left; decide)

theorem execBlockReceive_touch (p : PortNo) (b : BlockIn) (s : State) :
    OutTouch 138515 s (execBlockReceive p b s) := by
  unfold execBlockReceive
  repeat' first
    | (with_reducible intro x; with_reducible refine Touch.cutP (m := 138515) (s := s) (x := x) (fun hx => ?_) ?_; (clear_value x; rotate_left; subst x))
    | with_reducible apply Touch.refl
    | with_reducible assumption
    | with_reducible apply OutTouch.ite
    | with_reducible apply OutTouch.next
    | with_reducible apply Touch.ite
    | ((with_reducible apply Touch.then ?_ (State.detect_touch _ _ _ _ _) ?_); rotate_left; decide)
    | ((with_reducible apply Touch.then ?_ (State.resend_touch _ _) ?_); rotate_left; decide)
    | ((with_reducible apply Touch.then ?_ (State.sendBlock_touch _ _) ?_); rotate_left; decide)
    | ((with_reducible apply Touch.then ?_ (State.bump_touch _ _ _ _) ?_); rotate_left; decide)
    | ((with_reducible apply Touch.then ?_ (State.protoErrs_touch _ _ _) ?_); rotate_left; decide)
    | ((with_reducible apply Touch.then ?_ (State.acked_touch _ _ _) ?_); rotate_left; decide)
    | ((with_reducible apply Touch.then ?_ (State.setDiscard_touch _ _ _) ?_); rotate_left; decide)
    | fail_if_no_progress ((with_reducible apply Touch.set_psg); rotate_left; decide)
    | split
    | apply Touch.ite
    | apply OutTouch.ite

theorem execRetryTimeout_touch (p : PortNo) (s : State) :
    OutTouch 138515 s (execRetryTimeout p s) := by
  unfold execRetryTimeout
  repeat' first
    | with_reducible apply Touch.refl
    | with_reducible apply OutTouch.next
    | ((with_reducible apply Touch.then ?_ (State.resend_touch _ _) ?_); rotate_left; decide)
    | split

theorem execLatticeTrain_touch (h : Hdr) (ports : BitVec 16) (width : BitVec 8) (s : State) :
    OutTouch 138515 s (execLatticeTrain h ports width s) := by
  unfold execLatticeTrain
  repeat' first
    | (with_reducible intro x; with_reducible refine Touch.cutP (m := 138515) (s := accT) (x := x) (fun hx => ?_) ?_; (clear_value x; rotate_left; subst x))
    | ((with_reducible apply State.command_touch); rotate_left; decide)
    | with_reducible intro cmdC accT
    | with_reducible apply Touch.refl
    | with_reducible assumption
    | ((with_reducible apply Touch.then ?_ (State.complete_touch _ _ _ _ _ _) ?_); rotate_left; decide)
    | ((with_reducible apply Touch.then ?_ (State.train_touch _ _) ?_); rotate_left; decide)
    | ((with_reducible apply Touch.then ?_ (State.put_touch _ _ _ _) ?_); rotate_left; decide)
    | fail_if_no_progress ((with_reducible apply Touch.set_psg); rotate_left; decide)
    | with_reducible apply Touch.foldl'
    | apply Touch.ite

theorem State.applyMap_touch (s : State) (b : List Byte) :
    Touch 257 s (State.applyMap s b) := by
  unfold State.applyMap
  repeat' first
    | (with_reducible intro x; with_reducible refine Touch.cutP (m := 257) (s := s) (x := x) (fun hx => ?_) ?_; (clear_value x; rotate_left; subst x))
    | with_reducible intro accT accX
    | with_reducible apply Touch.refl
    | with_reducible assumption
    | ((with_reducible apply Touch.then ?_ (State.put_touch _ _ _ _) ?_); rotate_left; decide)
    | ((with_reducible apply Touch.then ?_ (State.setReg_touch _ _ _) ?_); rotate_left; decide)
    | fail_if_no_progress ((with_reducible apply Touch.set_psg); rotate_left; decide)
    | with_reducible apply Touch.foldl'

theorem State.dropPeer_touch (s : State) (p : Nat) :
    Touch 138515 s (State.dropPeer s p) := by
  unfold State.dropPeer
  repeat' first
    | with_reducible apply Touch.refl
    | ((with_reducible apply Touch.then ?_ (State.recordPsg_touch _ _ _ _) ?_); rotate_left; decide)
    | ((with_reducible apply Touch.then ?_ (State.portDown_touch _ _) ?_); rotate_left; decide)
    | ((with_reducible apply Touch.then ?_ (State.recordLtc_touch _ _) ?_); rotate_left; decide)

theorem execLatticeMap_touch (h : Hdr) (buf : HostBuf) (s : State) :
    OutTouch 138515 s (execLatticeMap h buf s) := by
  unfold execLatticeMap
  repeat' first
    | (with_reducible intro x; with_reducible refine Touch.cutP (m := 138515) (s := accT) (x := x) (fun hx => ?_) ?_; (clear_value x; rotate_left; subst x))
    | ((with_reducible apply State.command_touch); rotate_left; decide)
    | with_reducible intro cmdC accT
    | with_reducible apply Touch.refl
    | with_reducible assumption
    | ((with_reducible apply Touch.then ?_ (State.complete_touch _ _ _ _ _ _) ?_); rotate_left; decide)
    | ((with_reducible apply Touch.then ?_ (State.dropPeer_touch _ _) ?_); rotate_left; decide)
    | ((with_reducible apply Touch.then ?_ (State.applyMap_touch _ _) ?_); rotate_left; decide)
    | ((with_reducible apply Touch.then ?_ (State.sendIdents_touch _) ?_); rotate_left; decide)
    | with_reducible apply Touch.foldl'
    | split

/-! Lattice -/

theorem execSlotFlit_touch (p : PortNo) (ctx tag : Fin 8) (flit : Fin 64) (vals : BitVec 240) (close : Fin 1024) (s : State) :
    OutTouch 131355 s (execSlotFlit p ctx tag flit vals close s) := by
  unfold execSlotFlit
  repeat' first
    | with_reducible apply Touch.refl
    | with_reducible apply OutTouch.next
    | ((with_reducible apply Touch.then ?_ (State.recordPsg_touch _ _ _ _) ?_); rotate_left; decide)
    | ((with_reducible apply Touch.then ?_ (State.takeFlit_touch _ _ _) ?_); rotate_left; decide)
    | fail_if_no_progress ((with_reducible apply Touch.set_psg); rotate_left; decide)
    | apply OutTouch.ite

theorem State.markTick_touch (s : State) (p f : Nat) :
    Touch 131347 s (State.markTick s p f) := by
  unfold State.markTick
  repeat' first
    | (with_reducible intro x; with_reducible refine Touch.cutP (m := 131347) (s := s) (x := x) (fun hx => ?_) ?_; (clear_value x; rotate_left; subst x))
    | with_reducible apply Touch.refl
    | with_reducible assumption
    | ((with_reducible apply Touch.then ?_ (State.recordPsg_touch _ _ _ _) ?_); rotate_left; decide)
    | ((with_reducible apply Touch.then ?_ (State.recordLtc_touch _ _) ?_); rotate_left; decide)
    | ((with_reducible apply Touch.then ?_ (State.floodFault_touch _ _) ?_); rotate_left; decide)
    | ((with_reducible apply Touch.then ?_ (State.haltAtEnd_touch _) ?_); rotate_left; decide)
    | ((with_reducible apply Touch.then ?_ (State.setReg_touch _ _ _) ?_); rotate_left; decide)
    | fail_if_no_progress ((with_reducible apply Touch.set_psg); rotate_left; decide)

theorem execLinkTimeout_touch (p : PortNo) (flit : Fin 64) (close : Fin 1024) (s : State) :
    OutTouch 131355 s (execLinkTimeout p flit close s) := by
  unfold execLinkTimeout
  repeat' first
    | (with_reducible intro x; with_reducible refine Touch.cutP (m := 131355) (s := s) (x := x) (fun hx => ?_) ?_; (clear_value x; rotate_left; subst x))
    | with_reducible apply Touch.refl
    | with_reducible assumption
    | with_reducible apply OutTouch.next
    | ((with_reducible apply Touch.then ?_ (State.markTick_touch _ _ _) ?_); rotate_left; decide)
    | ((with_reducible apply Touch.then ?_ (State.endFlit_touch _ _ _ _) ?_); rotate_left; decide)
    | fail_if_no_progress ((with_reducible apply Touch.set_psg); rotate_left; decide)
    | split
    | apply OutTouch.ite

theorem execDecisionPoint_touch (s : State) :
    OutTouch 147731 s (execDecisionPoint s) := by
  unfold execDecisionPoint
  repeat' first
    | (with_reducible intro x; with_reducible refine Touch.cutP (m := 147731) (s := s) (x := x) (fun hx => ?_) ?_; (clear_value x; rotate_left; subst x))
    | with_reducible apply Touch.refl
    | with_reducible assumption
    | with_reducible apply OutTouch.next
    | ((with_reducible apply Touch.then ?_ (State.takeOverrun_touch _) ?_); rotate_left; decide)
    | ((with_reducible apply Touch.then ?_ (State.flood_touch _ _ _) ?_); rotate_left; decide)
    | ((with_reducible apply Touch.then ?_ (State.floodFault_touch _ _) ?_); rotate_left; decide)
    | fail_if_no_progress ((with_reducible apply Touch.set_psg); rotate_left; decide)
    | apply OutTouch.ite

theorem execLatticeDone_touch (p : PortNo) (tick : BitVec 64) (s : State) :
    OutTouch 256 s (execLatticeDone p tick s) := by
  unfold execLatticeDone
  repeat' first
    | with_reducible apply Touch.refl
    | with_reducible apply OutTouch.next
    | fail_if_no_progress ((with_reducible apply Touch.set_psg); rotate_left; decide)
    | apply OutTouch.ite

theorem State.holdBefore_touch (s : State) (d : Nat) (t : BitVec 64) :
    Touch 5395 s (State.holdBefore s d t) := by
  unfold State.holdBefore
  repeat' first
    | with_reducible apply Touch.refl
    | ((with_reducible apply Touch.then ?_ (State.stopBefore_touch _ _) ?_); rotate_left; decide)
    | ((with_reducible apply Touch.then ?_ (State.reportTo_touch _ _ _) ?_); rotate_left; decide)
    | ((with_reducible apply Touch.then ?_ (State.stopStart_touch _) ?_); rotate_left; decide)
    | fail_if_no_progress ((with_reducible apply Touch.set_psg); rotate_left; decide)
    | apply Touch.ite

theorem execLatticeHold_touch (p : PortNo) (origin : Fin 512) (tick : BitVec 64) (time : BitVec 48) (halt : Bool) (s : State) :
    OutTouch 136467 s (execLatticeHold p origin tick time halt s) := by
  unfold execLatticeHold
  repeat' first
    | (with_reducible intro x; with_reducible refine Touch.cutP (m := 136467) (s := s) (x := x) (fun hx => ?_) ?_; (clear_value x; rotate_left; subst x))
    | with_reducible apply Touch.refl
    | with_reducible assumption
    | with_reducible apply OutTouch.next
    | ((with_reducible apply Touch.then ?_ (State.holdBefore_touch _ _ _) ?_); rotate_left; decide)
    | ((with_reducible apply Touch.then ?_ (State.lateOverrun_touch _ _) ?_); rotate_left; decide)
    | ((with_reducible apply Touch.then ?_ (State.flood_touch _ _ _) ?_); rotate_left; decide)
    | fail_if_no_progress ((with_reducible apply Touch.set_psg); rotate_left; decide)
    | apply OutTouch.ite

theorem State.startAtTime_touch (s : State) (g : Nat) :
    Touch 1098001 s (State.startAtTime s g) := by
  unfold State.startAtTime
  repeat' first
    | (with_reducible intro x; with_reducible refine Touch.cutP (m := 1098001) (s := s) (x := x) (fun hx => ?_) ?_; (clear_value x; rotate_left; subst x))
    | with_reducible apply Touch.refl
    | with_reducible assumption
    | ((with_reducible apply Touch.then ?_ (State.goRunning_touch _) ?_); rotate_left; decide)
    | fail_if_no_progress ((with_reducible apply Touch.set_sched_psg); rotate_left; decide; decide)

theorem execLatticeRelease_touch (p : PortNo) (origin : Fin 512) (tick : BitVec 64) (time : BitVec 48) (s : State) :
    OutTouch 1103123 s (execLatticeRelease p origin tick time s) := by
  unfold execLatticeRelease
  repeat' first
    | (with_reducible intro x; with_reducible refine Touch.cutP (m := 1103123) (s := s) (x := x) (fun hx => ?_) ?_; (clear_value x; rotate_left; subst x))
    | with_reducible apply Touch.refl
    | with_reducible assumption
    | with_reducible apply OutTouch.next
    | ((with_reducible apply Touch.then ?_ (State.flood_touch _ _ _) ?_); rotate_left; decide)
    | ((with_reducible apply Touch.then ?_ (State.reportTo_touch _ _ _) ?_); rotate_left; decide)
    | ((with_reducible apply Touch.then ?_ (State.startAtTime_touch _ _) ?_); rotate_left; decide)
    | fail_if_no_progress ((with_reducible apply Touch.set_psg); rotate_left; decide)
    | apply OutTouch.ite

theorem execLatticeFault_touch (p : PortNo) (origin : Fin 512) (tick : BitVec 64) (time : BitVec 48) (s : State) :
    OutTouch 136467 s (execLatticeFault p origin tick time s) := by
  unfold execLatticeFault
  repeat' first
    | (with_reducible intro x; with_reducible refine Touch.cutP (m := 136467) (s := s) (x := x) (fun hx => ?_) ?_; (clear_value x; rotate_left; subst x))
    | with_reducible apply Touch.refl
    | with_reducible assumption
    | with_reducible apply OutTouch.next
    | ((with_reducible apply Touch.then ?_ (State.lateOverrun_touch _ _) ?_); rotate_left; decide)
    | ((with_reducible apply Touch.then ?_ (State.recordLtc_touch _ _) ?_); rotate_left; decide)
    | ((with_reducible apply Touch.then ?_ (State.stopBefore_touch _ _) ?_); rotate_left; decide)
    | ((with_reducible apply Touch.then ?_ (State.flood_touch _ _ _) ?_); rotate_left; decide)
    | apply OutTouch.ite

theorem State.creditBack_touch (s : State) (p vc n : Nat) :
    Touch 131347 s (State.creditBack s p vc n) := by
  unfold State.creditBack
  repeat' first
    | (with_reducible intro x; with_reducible refine Touch.cutP (m := 131347) (s := s) (x := x) (fun hx => ?_) ?_; (clear_value x; rotate_left; subst x))
    | with_reducible apply Touch.refl
    | with_reducible assumption
    | ((with_reducible apply Touch.then ?_ (State.recordPsg_touch _ _ _ _) ?_); rotate_left; decide)
    | fail_if_no_progress ((with_reducible apply Touch.set_psg); rotate_left; decide)
    | apply Touch.ite

theorem execLatticeCredit_touch (p : PortNo) (w : Word) (s : State) :
    OutTouch 133395 s (execLatticeCredit p w s) := by
  unfold execLatticeCredit
  repeat' first
    | with_reducible intro accT accX
    | with_reducible apply Touch.refl
    | with_reducible apply OutTouch.next
    | ((with_reducible apply Touch.then ?_ (State.creditBack_touch _ _ _ _) ?_); rotate_left; decide)
    | ((with_reducible apply Touch.then ?_ (State.drained_touch _) ?_); rotate_left; decide)
    | with_reducible apply Touch.foldl'
    | apply OutTouch.ite

theorem State.nameSilent_touch (s : State) (p : Nat) :
    Touch 3 s (State.nameSilent s p) := by
  unfold State.nameSilent
  repeat' first
    | with_reducible apply Touch.refl
    | ((with_reducible apply Touch.then ?_ (State.put_touch _ _ _ _) ?_); rotate_left; decide)
    | ((with_reducible apply Touch.then ?_ (State.raise_touch _ _ _) ?_); rotate_left; decide)
    | ((with_reducible apply Touch.then ?_ (State.setReg_touch _ _ _) ?_); rotate_left; decide)
    | ((with_reducible apply Touch.then ?_ (State.used_touch _) ?_); rotate_left; decide)
    | apply Touch.ite

theorem execBarrierTimeout_touch (s : State) :
    OutTouch 136467 s (execBarrierTimeout s) := by
  unfold execBarrierTimeout
  repeat' first
    | with_reducible intro accT accX
    | with_reducible apply Touch.refl
    | with_reducible apply OutTouch.next
    | ((with_reducible apply Touch.then ?_ (State.nameSilent_touch _ _) ?_); rotate_left; decide)
    | ((with_reducible apply Touch.then ?_ (State.haltNow_touch _) ?_); rotate_left; decide)
    | ((with_reducible apply Touch.then ?_ (State.recordLtc_touch _ _) ?_); rotate_left; decide)
    | ((with_reducible apply Touch.then ?_ (State.floodFault_touch _ _) ?_); rotate_left; decide)
    | with_reducible apply Touch.foldl'
    | apply OutTouch.ite

theorem State.ownBarrier_touch (s : State) (c : CmdId) (run : Bool) :
    Touch 256 s (State.ownBarrier s c run) := by
  unfold State.ownBarrier
  repeat' first
    | with_reducible apply Touch.refl
    | fail_if_no_progress ((with_reducible apply Touch.set_psg); rotate_left; decide)

theorem execRunFrom_touch (h : Hdr) (s : State) :
    OutTouch 1103123 s (execRunFrom h s) := by
  unfold execRunFrom
  repeat' first
    | (with_reducible intro x; with_reducible refine Touch.cutP (m := 1103123) (s := accT) (x := x) (fun hx => ?_) ?_; (clear_value x; rotate_left; subst x))
    | ((with_reducible apply State.command_touch); rotate_left; decide)
    | with_reducible intro cmdC accT
    | with_reducible apply Touch.refl
    | with_reducible assumption
    | ((with_reducible apply Touch.then ?_ (State.complete_touch _ _ _ _ _ _) ?_); rotate_left; decide)
    | ((with_reducible apply Touch.then ?_ (State.startLattice_touch _) ?_); rotate_left; decide)
    | ((with_reducible apply Touch.then ?_ (State.reportTo_touch _ _ _) ?_); rotate_left; decide)
    | ((with_reducible apply Touch.then ?_ (State.ownBarrier_touch _ _ _) ?_); rotate_left; decide)
    | split

theorem execHaltBefore_touch (h : Hdr) (s : State) :
    OutTouch 5395 s (execHaltBefore h s) := by
  unfold execHaltBefore
  repeat' first
    | (with_reducible intro x; with_reducible refine Touch.cutP (m := 5395) (s := accT) (x := x) (fun hx => ?_) ?_; (clear_value x; rotate_left; subst x))
    | ((with_reducible apply State.command_touch); rotate_left; decide)
    | with_reducible intro cmdC accT
    | with_reducible apply Touch.refl
    | with_reducible assumption
    | ((with_reducible apply Touch.then ?_ (State.complete_touch _ _ _ _ _ _) ?_); rotate_left; decide)
    | ((with_reducible apply Touch.then ?_ (State.holdBefore_touch _ _ _) ?_); rotate_left; decide)
    | ((with_reducible apply Touch.then ?_ (State.flood_touch _ _ _) ?_); rotate_left; decide)
    | ((with_reducible apply Touch.then ?_ (State.ownBarrier_touch _ _ _) ?_); rotate_left; decide)
    | split

theorem execBarrierReport_touch (dev : Fin 512) (reason : BitVec 8) (s : State) :
    OutTouch 5395 s (execBarrierReport dev reason s) := by
  unfold execBarrierReport
  repeat' first
    | with_reducible apply Touch.refl
    | with_reducible apply OutTouch.next
    | ((with_reducible apply Touch.then ?_ (State.judgeBarrier_touch _) ?_); rotate_left; decide)
    | fail_if_no_progress ((with_reducible apply Touch.set_psg); rotate_left; decide)
    | apply OutTouch.ite

theorem execLatticeBarrierTimeout_touch (s : State) :
    OutTouch 5395 s (execLatticeBarrierTimeout s) := by
  unfold execLatticeBarrierTimeout
  repeat' first
    | with_reducible apply Touch.refl
    | with_reducible apply OutTouch.next
    | ((with_reducible apply Touch.then ?_ (State.endBarrier_touch _ _) ?_); rotate_left; decide)
    | apply OutTouch.ite

end Sys2Proof.Machine
end

