-- ==== Sys2Proof/Laws/TouchMailbox.lean ====
section
/-! SUPPORT. Frames by parts: what the mailbox, its commands and the DMA engine change. Each lemma gives the mask of the parts that an operation may change (Touch); registers
and memories stay canonical. -/

namespace Sys2Proof.Machine

set_option linter.all false
set_option linter.unusedTactic false
set_option linter.unreachableTactic false
set_option linter.tactic.unusedName false

/-! Mailbox -/

theorem State.openQueue_touch (s : State) (q : Nat) :
    Touch 1025 s (State.openQueue s q) := by
  unfold State.openQueue
  repeat' first
    | (with_reducible intro x; with_reducible refine Touch.cutP (m := 1025) (s := s) (x := x) (fun hx => ?_) ?_; (clear_value x; rotate_left; subst x))
    | with_reducible apply Touch.refl
    | with_reducible assumption
    | ((with_reducible apply Touch.then ?_ (State.setReg_touch _ _ _) ?_); rotate_left; decide)
    | fail_if_no_progress ((with_reducible apply Touch.set_mbx); rotate_left; decide)

theorem State.writeQCfg_touch (s : State) (q : Nat) (enable : Bool) (size vector : Nat) :
    Touch 1025 s (State.writeQCfg s q enable size vector) := by
  unfold State.writeQCfg
  repeat' first
    | with_reducible apply Touch.refl
    | with_reducible assumption
    | ((with_reducible apply Touch.then ?_ (State.openQueue_touch _ _) ?_); rotate_left; decide)
    | ((with_reducible apply Touch.then ?_ (State.put_touch _ _ _ _) ?_); rotate_left; decide)
    | ((with_reducible apply Touch.then ?_ (State.queueStatus_touch _ _) ?_); rotate_left; decide)
    | ((with_reducible apply Touch.then ?_ (State.raise_touch _ _ _) ?_); rotate_left; decide)
    | ((with_reducible apply Touch.then ?_ (State.showCores_touch _) ?_); rotate_left; decide)
    | apply Touch.ite

theorem execQueueEnable_touch (q : Fin 16) (size : BitVec 11) (vector : BitVec 8) (s : State) :
    OutTouch 1025 s (execQueueEnable q size vector s) := by
  unfold execQueueEnable
  repeat' first
    | with_reducible apply Touch.refl
    | with_reducible apply OutTouch.next
    | ((with_reducible apply Touch.then ?_ (State.writeQCfg_touch _ _ _ _ _) ?_); rotate_left; decide)

theorem execQueueDisable_touch (q : Fin 16) (size : BitVec 11) (vector : BitVec 8) (s : State) :
    OutTouch 1025 s (execQueueDisable q size vector s) := by
  unfold execQueueDisable
  repeat' first
    | with_reducible apply Touch.refl
    | with_reducible apply OutTouch.next
    | ((with_reducible apply Touch.then ?_ (State.writeQCfg_touch _ _ _ _ _) ?_); rotate_left; decide)

theorem State.dbErr_touch (s : State) (q : Nat) :
    Touch 1 s (State.dbErr s q) := by
  unfold State.dbErr
  repeat' first
    | with_reducible apply Touch.refl
    | ((with_reducible apply Touch.then ?_ (State.raise_touch _ _ _) ?_); rotate_left; decide)

theorem execMbxSqTailWrite_touch (q : Fin 16) (v : BitVec 10) (s : State) :
    OutTouch 16385 s (execMbxSqTailWrite q v s) := by
  unfold execMbxSqTailWrite
  repeat' first
    | with_reducible apply Touch.refl
    | with_reducible apply OutTouch.next
    | ((with_reducible apply Touch.then ?_ (State.dbErr_touch _ _) ?_); rotate_left; decide)
    | ((with_reducible apply Touch.then ?_ (State.put_touch _ _ _ _) ?_); rotate_left; decide)
    | ((with_reducible apply Touch.then ?_ (State.cicEvent_touch _ _) ?_); rotate_left; decide)
    | apply OutTouch.ite

theorem execMbxCqHeadWrite_touch (q : Fin 16) (v : BitVec 10) (s : State) :
    OutTouch 1025 s (execMbxCqHeadWrite q v s) := by
  unfold execMbxCqHeadWrite
  repeat' first
    | (with_reducible intro x; with_reducible refine Touch.cutP (m := 1025) (s := s) (x := x) (fun hx => ?_) ?_; (clear_value x; rotate_left; subst x))
    | with_reducible apply Touch.refl
    | with_reducible assumption
    | with_reducible apply OutTouch.next
    | ((with_reducible apply Touch.then ?_ (State.dbErr_touch _ _) ?_); rotate_left; decide)
    | ((with_reducible apply Touch.then ?_ (State.put_touch _ _ _ _) ?_); rotate_left; decide)
    | fail_if_no_progress ((with_reducible apply Touch.set_mbx); rotate_left; decide)
    | apply OutTouch.ite

theorem State.takeEntry_touch (s : State) (q : Nat) (e : List Byte) :
    Touch 5123 s (State.takeEntry s q e) := by
  unfold State.takeEntry
  repeat' first
    | (with_reducible intro x; with_reducible refine Touch.cutP (m := 5123) (s := s) (x := x) (fun hx => ?_) ?_; (clear_value x; rotate_left; subst x))
    | with_reducible apply Touch.refl
    | with_reducible assumption
    | ((with_reducible apply Touch.then ?_ (State.complete_touch _ _ _ _ _ _) ?_); rotate_left; decide)
    | ((with_reducible apply Touch.then ?_ (State.put_touch _ _ _ _) ?_); rotate_left; decide)
    | ((with_reducible apply Touch.then ?_ (State.start_touch _ _) ?_); rotate_left; decide)
    | fail_if_no_progress ((with_reducible apply Touch.set_mbx); rotate_left; decide)
    | split

theorem execCommandFetch_touch (q : Fin 16) (e : Option (List Byte)) (s : State) :
    OutTouch 136211 s (execCommandFetch q e s) := by
  unfold execCommandFetch
  repeat' first
    | (with_reducible intro x; with_reducible refine Touch.cutP (m := 136211) (s := s) (x := x) (fun hx => ?_) ?_; (clear_value x; rotate_left; subst x))
    | with_reducible apply Touch.refl
    | with_reducible assumption
    | with_reducible apply OutTouch.next
    | ((with_reducible apply Touch.then ?_ (State.detect_touch _ _ _ _ _) ?_); rotate_left; decide)
    | ((with_reducible apply Touch.then ?_ (State.takeEntry_touch _ _ _) ?_); rotate_left; decide)
    | ((with_reducible apply Touch.then ?_ (State.put_touch _ _ _ _) ?_); rotate_left; decide)
    | ((with_reducible apply Touch.then ?_ (State.queueStatus_touch _ _) ?_); rotate_left; decide)
    | ((with_reducible apply Touch.then ?_ (State.raise_touch _ _ _) ?_); rotate_left; decide)
    | split

theorem execProgressEntry_touch (h : Hdr) (done total : Dword) (s : State) :
    OutTouch 1026 s (execProgressEntry h done total s) := by
  unfold execProgressEntry
  repeat' first
    | with_reducible apply Touch.refl
    | with_reducible apply OutTouch.next
    | ((with_reducible apply Touch.then ?_ (State.writeCq_touch _ _ _ _ _ _ _) ?_); rotate_left; decide)
    | fail_if_no_progress ((with_reducible apply Touch.set_mbx); rotate_left; decide)
    | apply OutTouch.ite

theorem execCmdDeadline_touch (q : Fin 16) (s : State) :
    OutTouch 131091 s (execCmdDeadline q s) := by
  unfold execCmdDeadline
  repeat' first
    | with_reducible apply Touch.refl
    | with_reducible apply OutTouch.next
    | ((with_reducible apply Touch.then ?_ (State.detect_touch _ _ _ _ _) ?_); rotate_left; decide)
    | apply OutTouch.ite

theorem State.forget_touch (s : State) (p : CmdId → Bool) :
    Touch 1880 s (State.forget s p) := by
  unfold State.forget
  repeat' first
    | with_reducible apply Touch.refl
    | fail_if_no_progress ((with_reducible apply Touch.set_fab_sched_echo_psg_img_mbx); rotate_left; decide; decide; decide; decide; decide; decide)

theorem State.dropWaits_touch (s : State) (p : CmdId → Bool) :
    Touch 24 s (State.dropWaits s p) := by
  unfold State.dropWaits
  repeat' first
    | with_reducible apply Touch.refl
    | fail_if_no_progress ((with_reducible apply Touch.set_fab_sched); rotate_left; decide; decide)

theorem execCoreFault_touch (k : Fin 4) (s : State) :
    OutTouch 1202011 s (execCoreFault k s) := by
  unfold execCoreFault
  repeat' first
    | (with_reducible intro x; with_reducible refine Touch.cutP (m := 1202011) (s := s) (x := x) (fun hx => ?_) ?_; (clear_value x; rotate_left; subst x))
    | with_reducible intro accT accX
    | with_reducible apply Touch.refl
    | with_reducible assumption
    | with_reducible apply OutTouch.next
    | ((with_reducible apply Touch.then ?_ (State.detect_touch _ _ _ _ _) ?_); rotate_left; decide)
    | ((with_reducible apply Touch.then ?_ (State.trcOff_touch _ _) ?_); rotate_left; decide)
    | ((with_reducible apply Touch.then ?_ (State.complete_touch _ _ _ _ _ _) ?_); rotate_left; decide)
    | ((with_reducible apply Touch.then ?_ (State.setReady_touch _ _ _) ?_); rotate_left; decide)
    | ((with_reducible apply Touch.then ?_ (State.showCores_touch _) ?_); rotate_left; decide)
    | ((with_reducible apply Touch.then ?_ (State.cicCoreDown_touch _ _) ?_); rotate_left; decide)
    | ((with_reducible apply Touch.then ?_ (State.dropWaits_touch _ _) ?_); rotate_left; decide)
    | ((with_reducible apply Touch.then ?_ (State.forget_touch _ _) ?_); rotate_left; decide)
    | with_reducible apply Touch.foldl'
    | apply Touch.ite
    | apply OutTouch.ite

theorem State.forward_touch (s : State) (e bs : List Byte) :
    Touch 2304 s (State.forward s e bs) := by
  unfold State.forward
  repeat' first
    | with_reducible intro accT accX
    | with_reducible apply Touch.refl
    | ((with_reducible apply Touch.then ?_ (State.tunnel_touch _ _ _ _) ?_); rotate_left; decide)
    | with_reducible apply Touch.foldl'
    | split

theorem execRemoteCommand_touch (h : Hdr) (e bytes : List Byte) (fault : Option Nat) (ans : Option RemoteAnswer)
    (back : List Byte) (s : State) : OutTouch 7427 s (execRemoteCommand h e bytes fault ans back s) := by
  unfold execRemoteCommand
  repeat' first
    | (with_reducible intro x; with_reducible refine Touch.cutP (m := 7427) (s := s) (x := x) (fun hx => ?_) ?_; (clear_value x; rotate_left; subst x))
    | with_reducible apply Touch.refl
    | with_reducible assumption
    | with_reducible apply OutTouch.next
    | ((with_reducible apply Touch.then ?_ (State.complete_touch _ _ _ _ _ _) ?_); rotate_left; decide)
    | ((with_reducible apply Touch.then ?_ (State.begin_touch _ _ _) ?_); rotate_left; decide)
    | ((with_reducible apply Touch.then ?_ (State.forward_touch _ _ _) ?_); rotate_left; decide)
    | ((with_reducible apply Touch.then ?_ (State.toHost_touch _ _ _) ?_); rotate_left; decide)
    | fail_if_no_progress ((with_reducible apply Touch.set_mbx); rotate_left; decide)
    | split
    | apply OutTouch.ite

theorem State.readyDone_touch (s : State) (c : CmdId) (st : Nat) :
    Touch 5123 s (State.readyDone s c st) := by
  unfold State.readyDone
  repeat' first
    | with_reducible apply Touch.refl
    | ((with_reducible apply Touch.then ?_ (State.complete_touch _ _ _ _ _ _) ?_); rotate_left; decide)

theorem execGetReady_touch (h : Hdr) (mask : BitVec 128) (ms : Word) (s : State) :
    OutTouch 5123 s (execGetReady h mask ms s) := by
  unfold execGetReady
  repeat' first
    | ((with_reducible apply State.command_touch); rotate_left; decide)
    | with_reducible intro cmdC accT
    | with_reducible apply Touch.refl
    | ((with_reducible apply Touch.then ?_ (State.readyDone_touch _ _ _) ?_); rotate_left; decide)
    | fail_if_no_progress ((with_reducible apply Touch.set_mbx); rotate_left; decide)
    | apply Touch.ite

theorem State.endWaitFor_touch (s : State) (w : ReadyWait) (st : Nat) :
    Touch 5123 s (State.endWaitFor s w st) := by
  unfold State.endWaitFor
  repeat' first
    | with_reducible apply Touch.refl
    | ((with_reducible apply Touch.then ?_ (State.readyDone_touch _ _ _) ?_); rotate_left; decide)
    | fail_if_no_progress ((with_reducible apply Touch.set_mbx); rotate_left; decide)

theorem execGetReadyComplete_touch (s : State) :
    OutTouch 5123 s (execGetReadyComplete s) := by
  unfold execGetReadyComplete
  repeat' first
    | with_reducible apply Touch.refl
    | with_reducible apply OutTouch.next
    | ((with_reducible apply Touch.then ?_ (State.endWaitFor_touch _ _ _) ?_); rotate_left; decide)
    | split

theorem execGetReadyTimeout_touch (s : State) :
    OutTouch 5123 s (execGetReadyTimeout s) := by
  unfold execGetReadyTimeout
  repeat' first
    | with_reducible apply Touch.refl
    | with_reducible apply OutTouch.next
    | ((with_reducible apply Touch.then ?_ (State.endWaitFor_touch _ _ _) ?_); rotate_left; decide)
    | split

/-! Control -/

theorem State.awaitMarch_touch (s : State) (c : CmdId) (cycles : Option Nat) :
    Touch 16 s (State.awaitMarch s c cycles) := by
  unfold State.awaitMarch
  repeat' first
    | with_reducible apply Touch.refl
    | fail_if_no_progress ((with_reducible apply Touch.set_sched); rotate_left; decide)

theorem State.startRun_touch (s : State) (c : CmdId) (cycles : Option Nat) :
    Touch 1102867 s (State.startRun s c cycles) := by
  unfold State.startRun
  repeat' first
    | (with_reducible intro x; with_reducible refine Touch.cutP (m := 1102867) (s := s) (x := x) (fun hx => ?_) ?_; (clear_value x; rotate_left; subst x))
    | with_reducible apply Touch.refl
    | with_reducible assumption
    | ((with_reducible apply Touch.then ?_ (State.complete_touch _ _ _ _ _ _) ?_); rotate_left; decide)
    | ((with_reducible apply Touch.then ?_ (State.goRunning_touch _) ?_); rotate_left; decide)
    | fail_if_no_progress ((with_reducible apply Touch.set_sched); rotate_left; decide)
    | split

theorem execRun_touch (h : Hdr) (s : State) :
    OutTouch 1102867 s (execRun h s) := by
  unfold execRun
  repeat' first
    | ((with_reducible apply State.command_touch); rotate_left; decide)
    | with_reducible intro cmdC accT
    | with_reducible apply Touch.refl
    | ((with_reducible apply Touch.then ?_ (State.complete_touch _ _ _ _ _ _) ?_); rotate_left; decide)
    | ((with_reducible apply Touch.then ?_ (State.startRun_touch _ _ _) ?_); rotate_left; decide)
    | ((with_reducible apply Touch.then ?_ (State.awaitMarch_touch _ _ _) ?_); rotate_left; decide)
    | apply Touch.ite

theorem execHalt_touch (h : Hdr) (cancel : Bool) (s : State) :
    OutTouch 5147 s (execHalt h cancel s) := by
  unfold execHalt
  repeat' first
    | ((with_reducible apply State.command_touch); rotate_left; decide)
    | with_reducible intro cmdC accT
    | with_reducible apply Touch.refl
    | ((with_reducible apply Touch.then ?_ (State.complete_touch _ _ _ _ _ _) ?_); rotate_left; decide)
    | ((with_reducible apply Touch.then ?_ (State.finishHalt_touch _ _) ?_); rotate_left; decide)
    | ((with_reducible apply Touch.then ?_ (State.awaitCmd_touch _ _ _ _) ?_); rotate_left; decide)
    | apply Touch.ite

theorem execStep_touch (h : Hdr) (cycles : Word) (s : State) :
    OutTouch 1102867 s (execStep h cycles s) := by
  unfold execStep
  repeat' first
    | ((with_reducible apply State.command_touch); rotate_left; decide)
    | with_reducible intro cmdC accT
    | with_reducible apply Touch.refl
    | ((with_reducible apply Touch.then ?_ (State.complete_touch _ _ _ _ _ _) ?_); rotate_left; decide)
    | ((with_reducible apply Touch.then ?_ (State.startRun_touch _ _ _) ?_); rotate_left; decide)
    | ((with_reducible apply Touch.then ?_ (State.awaitMarch_touch _ _ _) ?_); rotate_left; decide)
    | apply Touch.ite

theorem State.afterMarch_touch (s : State) :
    Touch 1102867 s (State.afterMarch s) := by
  unfold State.afterMarch
  repeat' first
    | with_reducible intro accT accX
    | with_reducible apply Touch.refl
    | ((with_reducible apply Touch.then ?_ (State.startRun_touch _ _ _) ?_); rotate_left; decide)
    | ((with_reducible apply Touch.then ?_ (State.resumeIf_touch _) ?_); rotate_left; decide)
    | fail_if_no_progress ((with_reducible apply Touch.set_sched); rotate_left; decide)
    | with_reducible apply Touch.foldl'
    | apply Touch.ite

theorem execMarchEnd_touch (g : Gal) (found : List MarchFault) (s : State) :
    OutTouch 1233983 s (execMarchEnd g found s) := by
  unfold execMarchEnd
  repeat' first
    | with_reducible apply Touch.refl
    | with_reducible apply OutTouch.next
    | ((with_reducible apply Touch.then ?_ (State.finishMarch_touch _ _ _) ?_); rotate_left; decide)
    | ((with_reducible apply Touch.then ?_ (State.afterMarch_touch _) ?_); rotate_left; decide)
    | split

theorem execSetTick_touch (h : Hdr) (mode policy realign source : BitVec 8) (ns : Word) (frac : BitVec 16) (s : State) :
    OutTouch 5139 s (execSetTick h mode policy realign source ns frac s) := by
  unfold execSetTick
  repeat' first
    | ((with_reducible apply State.command_touch); rotate_left; decide)
    | with_reducible intro cmdC accT
    | with_reducible apply Touch.refl
    | ((with_reducible apply Touch.then ?_ (State.complete_touch _ _ _ _ _ _) ?_); rotate_left; decide)
    | ((with_reducible apply Touch.then ?_ (State.awaitCmd_touch _ _ _ _) ?_); rotate_left; decide)
    | apply Touch.ite

theorem State.awaitT5_touch (s : State) (act : BoundaryAct) (c : CmdId) :
    Touch 16 s (State.awaitT5 s act c) := by
  unfold State.awaitT5
  repeat' first
    | with_reducible apply Touch.refl
    | fail_if_no_progress ((with_reducible apply Touch.set_sched); rotate_left; decide)

theorem execSelectContext_touch (h : Hdr) (ctx : BitVec 8) (s : State) :
    OutTouch 5139 s (execSelectContext h ctx s) := by
  unfold execSelectContext
  repeat' first
    | ((with_reducible apply State.command_touch); rotate_left; decide)
    | with_reducible intro cmdC accT
    | with_reducible apply Touch.refl
    | ((with_reducible apply Touch.then ?_ (State.complete_touch _ _ _ _ _ _) ?_); rotate_left; decide)
    | ((with_reducible apply Touch.then ?_ (State.awaitCmd_touch _ _ _ _) ?_); rotate_left; decide)
    | ((with_reducible apply Touch.then ?_ (State.awaitT5_touch _ _ _) ?_); rotate_left; decide)
    | apply Touch.ite

theorem State.setChanges_touch (s : State) (e : ForceEntry) (cs : List ForceChange) :
    Touch 8 s (State.setChanges s e cs) := by
  unfold State.setChanges
  repeat' first
    | with_reducible apply Touch.refl
    | fail_if_no_progress ((with_reducible apply Touch.set_fab); rotate_left; decide)

theorem State.claimForce_touch (s : State) (c : CmdId) (e : ForceEntry) :
    Touch 5131 s (State.claimForce s c e) := by
  unfold State.claimForce
  repeat' first
    | with_reducible apply Touch.refl
    | ((with_reducible apply Touch.then ?_ (State.complete_touch _ _ _ _ _ _) ?_); rotate_left; decide)
    | fail_if_no_progress ((with_reducible apply Touch.set_fab); rotate_left; decide)
    | apply Touch.ite

theorem State.settleNow_touch (s : State) :
    Touch 5131 s (State.settleNow s) := by
  unfold State.settleNow
  repeat' first
    | with_reducible apply Touch.refl
    | ((with_reducible apply Touch.then ?_ (State.settleForces_touch _ _) ?_); rotate_left; decide)
    | ((with_reducible apply Touch.then ?_ (State.settleReleases_touch _ _) ?_); rotate_left; decide)
    | apply Touch.ite

theorem execForce_touch (h : Hdr) (n : NetBlock) (s : State) :
    OutTouch 5131 s (execForce h n s) := by
  unfold execForce
  repeat' first
    | ((with_reducible apply State.command_touch); rotate_left; decide)
    | with_reducible intro cmdC accT
    | with_reducible apply Touch.refl
    | ((with_reducible apply Touch.then ?_ (State.complete_touch _ _ _ _ _ _) ?_); rotate_left; decide)
    | ((with_reducible apply Touch.then ?_ (State.settleNow_touch _) ?_); rotate_left; decide)
    | ((with_reducible apply Touch.then ?_ (State.claimForce_touch _ _ _) ?_); rotate_left; decide)
    | ((with_reducible apply Touch.then ?_ (State.completeOpt_touch _ _ _ _ _ _) ?_); rotate_left; decide)
    | ((with_reducible apply Touch.then ?_ (State.setChanges_touch _ _ _) ?_); rotate_left; decide)
    | split

theorem execRelease_touch (h : Hdr) (n : NetBlock) (s : State) :
    OutTouch 5131 s (execRelease h n s) := by
  unfold execRelease
  repeat' first
    | (with_reducible intro x; with_reducible refine Touch.cutP (m := 5131) (s := accT) (x := x) (fun hx => ?_) ?_; (clear_value x; rotate_left; subst x))
    | ((with_reducible apply State.command_touch); rotate_left; decide)
    | with_reducible intro cmdC accT
    | with_reducible apply Touch.refl
    | with_reducible assumption
    | ((with_reducible apply Touch.then ?_ (State.complete_touch _ _ _ _ _ _) ?_); rotate_left; decide)
    | ((with_reducible apply Touch.then ?_ (State.settleNow_touch _) ?_); rotate_left; decide)
    | ((with_reducible apply Touch.then ?_ (State.setChanges_touch _ _ _) ?_); rotate_left; decide)
    | with_reducible apply Touch.foldl'
    | split

theorem execDeposit_touch (h : Hdr) (n : NetBlock) (s : State) :
    OutTouch 5131 s (execDeposit h n s) := by
  unfold execDeposit
  repeat' first
    | ((with_reducible apply State.command_touch); rotate_left; decide)
    | with_reducible intro cmdC accT
    | with_reducible apply Touch.refl
    | ((with_reducible apply Touch.then ?_ (State.complete_touch _ _ _ _ _ _) ?_); rotate_left; decide)
    | ((with_reducible apply Touch.then ?_ (State.settleNow_touch _) ?_); rotate_left; decide)
    | ((with_reducible apply Touch.then ?_ (State.claimForce_touch _ _ _) ?_); rotate_left; decide)
    | split

theorem execStateDeposit_touch (h : Hdr) (n : NetBlock) (s : State) :
    OutTouch 5131 s (execStateDeposit h n s) := by
  unfold execStateDeposit
  repeat' first
    | ((with_reducible apply State.command_touch); rotate_left; decide)
    | with_reducible intro cmdC accT
    | with_reducible apply Touch.refl
    | ((with_reducible apply Touch.then ?_ (State.complete_touch _ _ _ _ _ _) ?_); rotate_left; decide)
    | ((with_reducible apply Touch.then ?_ (State.writePrev_touch _ _ _ _) ?_); rotate_left; decide)
    | split

theorem execPeek_touch (h : Hdr) (n : NetBlock) (buf : HostBuf) (s : State) :
    OutTouch 5123 s (execPeek h n buf s) := by
  unfold execPeek
  repeat' first
    | ((with_reducible apply State.command_touch); rotate_left; decide)
    | with_reducible intro cmdC accT
    | with_reducible apply Touch.refl
    | ((with_reducible apply Touch.then ?_ (State.complete_touch _ _ _ _ _ _) ?_); rotate_left; decide)
    | ((with_reducible apply Touch.then ?_ (State.toHost_touch _ _ _) ?_); rotate_left; decide)
    | split
    | apply Touch.ite

theorem State.denyDs_touch (s : State) (x : Nat) :
    Touch 131091 s (State.denyDs s x) := by
  unfold State.denyDs
  repeat' first
    | with_reducible apply Touch.refl
    | ((with_reducible apply Touch.then ?_ (State.detect_touch _ _ _ _ _) ?_); rotate_left; decide)

theorem execMemRead_touch (h : Hdr) (space : BitVec 8) (addr : Dword) (buf : HostBuf) (s : State) :
    OutTouch 146483 s (execMemRead h space addr buf s) := by
  unfold execMemRead
  repeat' first
    | (with_reducible intro x; with_reducible refine Touch.cutP (m := 146483) (s := accT) (x := x.2.2) (fun hx => ?_) ?_; (clear_value x; rotate_left; subst x))
    | ((with_reducible apply State.command_touch); rotate_left; decide)
    | with_reducible intro cmdC accT
    | with_reducible apply Touch.refl
    | with_reducible assumption
    | ((with_reducible apply Touch.then ?_ (State.bankRequest_touch _ _) ?_); rotate_left; decide)
    | ((with_reducible apply Touch.then ?_ (State.complete_touch _ _ _ _ _ _) ?_); rotate_left; decide)
    | ((with_reducible apply Touch.then ?_ (State.dsReadBytes_touch _ _ _) ?_); rotate_left; decide)
    | ((with_reducible apply Touch.then ?_ (State.denyDs_touch _ _) ?_); rotate_left; decide)
    | ((with_reducible apply Touch.then ?_ (State.toHost_touch _ _ _) ?_); rotate_left; decide)
    | split
    | apply Touch.ite

theorem execMemWrite_touch (h : Hdr) (space : BitVec 8) (addr : Dword) (buf : HostBuf) (s : State) :
    OutTouch 146483 s (execMemWrite h space addr buf s) := by
  unfold execMemWrite
  repeat' first
    | (with_reducible intro x; with_reducible refine Touch.cutP (m := 146483) (s := accT) (x := x) (fun hx => ?_) ?_; (clear_value x; rotate_left; subst x))
    | ((with_reducible apply State.command_touch); rotate_left; decide)
    | with_reducible intro cmdC accT
    | with_reducible apply Touch.refl
    | with_reducible assumption
    | ((with_reducible apply Touch.then ?_ (State.bankRequest_touch _ _) ?_); rotate_left; decide)
    | ((with_reducible apply Touch.then ?_ (State.complete_touch _ _ _ _ _ _) ?_); rotate_left; decide)
    | ((with_reducible apply Touch.then ?_ (State.denyDs_touch _ _) ?_); rotate_left; decide)
    | ((with_reducible apply Touch.then ?_ (State.dsWriteBytes_touch _ _ _) ?_); rotate_left; decide)
    | split
    | apply Touch.ite

theorem execMemAtomic_touch (h : Hdr) (space : BitVec 8) (addr : Dword) (op : BitVec 8) (d : Dword) (s : State) :
    OutTouch 146483 s (execMemAtomic h space addr op d s) := by
  unfold execMemAtomic
  repeat' first
    | ((with_reducible apply State.command_touch); rotate_left; decide)
    | with_reducible intro cmdC accT
    | with_reducible apply Touch.refl
    | ((with_reducible apply Touch.then ?_ (State.bankRequest_touch _ _) ?_); rotate_left; decide)
    | ((with_reducible apply Touch.then ?_ (State.complete_touch _ _ _ _ _ _) ?_); rotate_left; decide)
    | apply Touch.ite

/-! DmaOps -/

theorem State.setCh_touch (s : State) (n k : Nat) :
    Touch 1 s (State.setCh s n k) := by
  unfold State.setCh
  repeat' first
    | with_reducible apply Touch.refl
    | ((with_reducible apply Touch.then ?_ (State.put_touch _ _ _ _) ?_); rotate_left; decide)

theorem State.setJob_touch (s : State) (n : Nat) (j : DmaJob) :
    Touch 8192 s (State.setJob s n j) := by
  unfold State.setJob
  repeat' first
    | with_reducible apply Touch.refl
    | fail_if_no_progress ((with_reducible apply Touch.set_dma); rotate_left; decide)

theorem State.clearJob_touch (s : State) (n : Nat) :
    Touch 8192 s (State.clearJob s n) := by
  unfold State.clearJob
  repeat' first
    | with_reducible apply Touch.refl
    | fail_if_no_progress ((with_reducible apply Touch.set_dma); rotate_left; decide)

theorem State.freeRun_touch (s : State) (k : Nat) :
    Touch 2 s (State.freeRun s k).2 := by
  unfold State.freeRun
  repeat' first
    | with_reducible apply Touch.refl
    | fail_if_no_progress ((with_reducible apply Touch.set_freeCtr); rotate_left; decide)

theorem State.overlapFree_touch (s : State) (d : Desc) (off : Nat) (bs : List Byte) :
    Touch 2 s (State.overlapFree s d off bs).2 := by
  unfold State.overlapFree
  repeat' first
    | (with_reducible intro x; subst x; beta_reduce)
    | with_reducible lift_lets -underBinder
    | with_reducible apply Touch.refl
    | with_reducible assumption
    | ((with_reducible apply Touch.then ?_ (State.freeRun_touch _ _) ?_); rotate_left; decide)
    | split

theorem State.dmByte_touch (s : State) (a : Nat) (b : Byte) :
    Touch 32 s (State.dmByte s a b) := by
  unfold State.dmByte
  repeat' first
    | with_reducible apply Touch.refl
    | ((with_reducible apply Touch.then ?_ (State.dmStore_touch _ _ _ _) ?_); rotate_left; decide)

theorem State.freeLocal_touch (s : State) (space a n : Nat) :
    Touch 34 s (State.freeLocal s space a n) := by
  unfold State.freeLocal
  repeat' first
    | (with_reducible intro x; with_reducible refine Touch.cutP (m := 34) (s := s) (x := x.2) (fun hx => ?_) ?_; (clear_value x; rotate_left; subst x))
    | with_reducible intro accT accX
    | with_reducible apply Touch.refl
    | with_reducible assumption
    | ((with_reducible apply Touch.then ?_ (State.dmByte_touch _ _ _) ?_); rotate_left; decide)
    | ((with_reducible apply Touch.then ?_ (State.dsPut_touch _ _ _) ?_); rotate_left; decide)
    | ((with_reducible apply Touch.then ?_ (State.freeRun_touch _ _) ?_); rotate_left; decide)
    | with_reducible apply Touch.foldl'
    | apply Touch.ite

theorem State.freeTail_touch (s : State) (j : DmaJob) (k : Nat) :
    Touch 34 s (State.freeTail s j k) := by
  unfold State.freeTail
  repeat' first
    | with_reducible apply Touch.refl
    | ((with_reducible apply Touch.then ?_ (State.freeLocal_touch _ _ _ _) ?_); rotate_left; decide)
    | apply Touch.ite

theorem State.pick_touch {s t : State} {e n : Nat} {w : List Nat} (h : s.pick e w = some (n, t)) : Touch 8192 s t := by
  unfold State.pick at h
  extract_lets at h
  split at h
  · cases h; exact Touch.set_dma (Touch.refl _ _) (by decide)
  · cases h

theorem State.dmaBank_touch (s : State) (n off a : Nat) (ops : List BankOp) :
    Touch 146483 s (State.dmaBank s n off a ops) := by
  unfold State.dmaBank
  repeat' first
    | with_reducible apply Touch.refl
    | ((with_reducible apply Touch.then ?_ (State.bankRequest_touch _ _) ?_); rotate_left; decide)

theorem State.farRequest_touch (s : State) (kind : PktKind) (dev space a : Nat) (words : List (BitVec 8 × Dword)) :
    Touch 2304 s (State.farRequest s kind dev space a words) := by
  unfold State.farRequest
  repeat' first
    | with_reducible apply Touch.refl
    | ((with_reducible apply Touch.then ?_ (State.tunnel_touch _ _ _ _) ?_); rotate_left; decide)
    | split

theorem State.issueRead_touch (s : State) (n : Nat) (j : DmaJob) :
    Touch 146739 s (State.issueRead s n j) := by
  unfold State.issueRead
  repeat' first
    | (with_reducible intro x; with_reducible refine Touch.cutP (m := 146739) (s := s) (x := x) (fun hx => ?_) ?_; (clear_value x; rotate_left; subst x))
    | with_reducible apply Touch.refl
    | with_reducible assumption
    | ((with_reducible apply Touch.then ?_ (State.dmaBank_touch _ _ _ _ _) ?_); rotate_left; decide)
    | ((with_reducible apply Touch.then ?_ (State.farRequest_touch _ _ _ _ _ _) ?_); rotate_left; decide)
    | ((with_reducible apply Touch.then ?_ (State.setJob_touch _ _ _) ?_); rotate_left; decide)
    | apply Touch.ite

theorem State.issueWrite_touch (s : State) (n : Nat) (j : DmaJob) :
    Touch 146739 s (State.issueWrite s n j) := by
  unfold State.issueWrite
  repeat' first
    | (with_reducible intro x; with_reducible refine Touch.cutP (m := 146739) (s := s) (x := x) (fun hx => ?_) ?_; (clear_value x; rotate_left; subst x))
    | (with_reducible intro x; with_reducible refine Touch.cutP (m := 146739) (s := s) (x := x.2) (fun hx => ?_) ?_; (clear_value x; rotate_left; subst x))
    | with_reducible apply Touch.refl
    | with_reducible assumption
    | ((with_reducible apply Touch.then ?_ (State.dmaBank_touch _ _ _ _ _) ?_); rotate_left; decide)
    | ((with_reducible apply Touch.then ?_ (State.farRequest_touch _ _ _ _ _ _) ?_); rotate_left; decide)
    | ((with_reducible apply Touch.then ?_ (State.overlapFree_touch _ _ _ _) ?_); rotate_left; decide)
    | ((with_reducible apply Touch.then ?_ (State.setJob_touch _ _ _) ?_); rotate_left; decide)
    | fail_if_no_progress ((with_reducible apply Touch.set_dma); rotate_left; decide)
    | split
    | apply Touch.ite

theorem State.pump_touch (k : Nat) (s : State) : Touch 146747 s (State.pump k s) := by
  induction k generalizing s with
  | zero => exact Touch.refl _ _
  | succ k ih =>
    unfold State.pump
    extract_lets
    split
    · rename_i h
      split
      · exact (((State.pick_touch h).mono (by decide)).then (State.issueWrite_touch _ _ _) (by decide)).then (ih _) (by decide)
      · exact Touch.refl _ _
    · split
      · exact Touch.refl _ _
      · split
        · rename_i h
          split
          · exact (((State.pick_touch h).mono (by decide)).then (State.issueRead_touch _ _ _) (by decide)).then (ih _) (by decide)
          · exact Touch.refl _ _
        · exact Touch.refl _ _

theorem State.pumped_touch (s : State) :
    Touch 146747 s (State.pumped s) := by
  unfold State.pumped
  repeat' first
    | (with_reducible intro x; with_reducible refine Touch.cutP (m := 146747) (s := s) (x := x) (fun hx => ?_) ?_; (clear_value x; rotate_left; subst x))
    | with_reducible apply Touch.refl
    | with_reducible assumption
    | ((with_reducible apply Touch.then ?_ (State.pump_touch _ _) ?_); rotate_left; decide)
    | ((with_reducible apply Touch.then ?_ (State.put_touch _ _ _ _) ?_); rotate_left; decide)

theorem State.latch_touch (s : State) (n : Nat) (e : DmaError) :
    Touch 1 s (State.latch s n e) := by
  unfold State.latch
  repeat' first
    | (with_reducible intro x; with_reducible refine Touch.cutP (m := 1) (s := s) (x := x) (fun hx => ?_) ?_; (clear_value x; rotate_left; subst x))
    | with_reducible apply Touch.refl
    | with_reducible assumption
    | ((with_reducible apply Touch.then ?_ (State.put_touch _ _ _ _) ?_); rotate_left; decide)
    | ((with_reducible apply Touch.then ?_ (State.raise_touch _ _ _) ?_); rotate_left; decide)
    | ((with_reducible apply Touch.then ?_ (State.setReg_touch _ _ _) ?_); rotate_left; decide)
    | apply Touch.ite

theorem State.haltCh_touch (s : State) (n : Nat) :
    Touch 8193 s (State.haltCh s n) := by
  unfold State.haltCh
  repeat' first
    | (with_reducible intro x; with_reducible refine Touch.cutP (m := 8193) (s := s) (x := x) (fun hx => ?_) ?_; (clear_value x; rotate_left; subst x))
    | with_reducible apply Touch.refl
    | with_reducible assumption
    | ((with_reducible apply Touch.then ?_ (State.raise_touch _ _ _) ?_); rotate_left; decide)
    | ((with_reducible apply Touch.then ?_ (State.setCh_touch _ _ _) ?_); rotate_left; decide)
    | ((with_reducible apply Touch.then ?_ (State.clearJob_touch _ _) ?_); rotate_left; decide)
    | fail_if_no_progress ((with_reducible apply Touch.set_dma); rotate_left; decide)

theorem State.ringError_touch (s : State) (n dir detail : Nat) :
    Touch 139283 s (State.ringError s n dir detail) := by
  unfold State.ringError
  repeat' first
    | with_reducible apply Touch.refl
    | ((with_reducible apply Touch.then ?_ (State.detect_touch _ _ _ _ _) ?_); rotate_left; decide)
    | ((with_reducible apply Touch.then ?_ (State.haltCh_touch _ _) ?_); rotate_left; decide)
    | ((with_reducible apply Touch.then ?_ (State.latch_touch _ _ _) ?_); rotate_left; decide)

theorem State.writeBack_touch (s : State) (n code detail done : Nat) (clear : Bool) :
    Touch 8193 s (State.writeBack s n code detail done clear) := by
  unfold State.writeBack
  repeat' first
    | with_reducible apply Touch.refl
    | ((with_reducible apply Touch.then ?_ (State.put_touch _ _ _ _) ?_); rotate_left; decide)
    | fail_if_no_progress ((with_reducible apply Touch.set_dma); rotate_left; decide)

theorem State.finishDesc_touch (s : State) (n code done : Nat) (intr : Bool) (w : RingWrite) :
    Touch 139283 s (State.finishDesc s n code done intr w) := by
  unfold State.finishDesc
  repeat' first
    | (with_reducible intro x; with_reducible refine Touch.cutP (m := 139283) (s := s) (x := x) (fun hx => ?_) ?_; (clear_value x; rotate_left; subst x))
    | with_reducible apply Touch.refl
    | with_reducible assumption
    | ((with_reducible apply Touch.then ?_ (State.ringError_touch _ _ _ _) ?_); rotate_left; decide)
    | ((with_reducible apply Touch.then ?_ (State.put_touch _ _ _ _) ?_); rotate_left; decide)
    | ((with_reducible apply Touch.then ?_ (State.raise_touch _ _ _) ?_); rotate_left; decide)
    | ((with_reducible apply Touch.then ?_ (State.writeBack_touch _ _ _ _ _ _) ?_); rotate_left; decide)
    | ((with_reducible apply Touch.then ?_ (State.clearJob_touch _ _) ?_); rotate_left; decide)
    | ((with_reducible apply Touch.then ?_ (State.setReg_touch _ _ _) ?_); rotate_left; decide)
    | fail_if_no_progress ((with_reducible apply Touch.set_dma); rotate_left; decide)
    | split

theorem State.failDesc_touch (s : State) (n code detail done : Nat) (w : RingWrite) :
    Touch 139283 s (State.failDesc s n code detail done w) := by
  unfold State.failDesc
  repeat' first
    | with_reducible apply Touch.refl
    | ((with_reducible apply Touch.then ?_ (State.haltCh_touch _ _) ?_); rotate_left; decide)
    | ((with_reducible apply Touch.then ?_ (State.ringError_touch _ _ _ _) ?_); rotate_left; decide)
    | ((with_reducible apply Touch.then ?_ (State.writeBack_touch _ _ _ _ _ _) ?_); rotate_left; decide)
    | split

theorem State.busError_touch (s : State) (n : Nat) (j : DmaJob) (e : DmaError) :
    Touch 139283 s (State.busError s n j e) := by
  unfold State.busError
  repeat' first
    | with_reducible apply Touch.refl
    | ((with_reducible apply Touch.then ?_ (State.detect_touch _ _ _ _ _) ?_); rotate_left; decide)
    | ((with_reducible apply Touch.then ?_ (State.latch_touch _ _ _) ?_); rotate_left; decide)
    | ((with_reducible apply Touch.then ?_ (State.setCh_touch _ _ _) ?_); rotate_left; decide)
    | ((with_reducible apply Touch.then ?_ (State.setJob_touch _ _ _) ?_); rotate_left; decide)
    | apply Touch.ite

/-! Dma -/

theorem execKick_touch (n : Fin 32) (s : State) :
    OutTouch 8193 s (execKick n s) := by
  unfold execKick
  repeat' first
    | with_reducible apply Touch.refl
    | with_reducible apply OutTouch.next
    | ((with_reducible apply Touch.then ?_ (State.setCh_touch _ _ _) ?_); rotate_left; decide)
    | fail_if_no_progress ((with_reducible apply Touch.set_dma); rotate_left; decide)
    | split

theorem execDmaHalt_touch (n : Fin 32) (s : State) :
    OutTouch 8193 s (execDmaHalt n s) := by
  unfold execDmaHalt
  repeat' first
    | with_reducible apply Touch.refl
    | with_reducible apply OutTouch.next
    | ((with_reducible apply Touch.then ?_ (State.setCh_touch _ _ _) ?_); rotate_left; decide)
    | fail_if_no_progress ((with_reducible apply Touch.set_dma); rotate_left; decide)
    | apply OutTouch.ite

theorem execAbort_touch (n : Fin 32) (s : State) :
    OutTouch 8193 s (execAbort n s) := by
  unfold execAbort
  repeat' first
    | with_reducible apply Touch.refl
    | with_reducible apply OutTouch.next
    | ((with_reducible apply Touch.then ?_ (State.setCh_touch _ _ _) ?_); rotate_left; decide)
    | ((with_reducible apply Touch.then ?_ (State.setJob_touch _ _ _) ?_); rotate_left; decide)
    | fail_if_no_progress ((with_reducible apply Touch.set_dma); rotate_left; decide)
    | split

theorem execDmaResume_touch (n : Fin 32) (s : State) :
    OutTouch 1 s (execDmaResume n s) := by
  unfold execDmaResume
  repeat' first
    | with_reducible apply Touch.refl
    | with_reducible apply OutTouch.next
    | ((with_reducible apply Touch.then ?_ (State.setCh_touch _ _ _) ?_); rotate_left; decide)
    | apply OutTouch.ite

theorem State.chCfgErr_touch (s : State) (n : Nat) :
    Touch 1 s (State.chCfgErr s n) := by
  unfold State.chCfgErr
  repeat' first
    | with_reducible apply Touch.refl
    | ((with_reducible apply Touch.then ?_ (State.raise_touch _ _ _) ?_); rotate_left; decide)

theorem State.writeChCfg_touch (s : State) (n : Nat) (w : Word) :
    Touch 8193 s (State.writeChCfg s n w) := by
  unfold State.writeChCfg
  repeat' first
    | (with_reducible intro x; with_reducible refine Touch.cutP (m := 8193) (s := s) (x := x) (fun hx => ?_) ?_; (clear_value x; rotate_left; subst x))
    | with_reducible apply Touch.refl
    | with_reducible assumption
    | ((with_reducible apply Touch.then ?_ (State.chCfgErr_touch _ _) ?_); rotate_left; decide)
    | ((with_reducible apply Touch.then ?_ (State.put_touch _ _ _ _) ?_); rotate_left; decide)
    | ((with_reducible apply Touch.then ?_ (State.raise_touch _ _ _) ?_); rotate_left; decide)
    | ((with_reducible apply Touch.then ?_ (State.setCh_touch _ _ _) ?_); rotate_left; decide)
    | ((with_reducible apply Touch.then ?_ (State.clearJob_touch _ _) ?_); rotate_left; decide)
    | apply Touch.ite

theorem execChannelEnable_touch (n : Fin 32) (w : Word) (s : State) :
    OutTouch 146747 s (execChannelEnable n w s) := by
  unfold execChannelEnable
  repeat' first
    | with_reducible apply Touch.refl
    | with_reducible apply OutTouch.next
    | ((with_reducible apply Touch.then ?_ (State.writeChCfg_touch _ _ _) ?_); rotate_left; decide)
    | ((with_reducible apply Touch.then ?_ (State.pumped_touch _) ?_); rotate_left; decide)

theorem execDmaHeadWrite_touch (n : Fin 32) (i : BitVec 16) (s : State) :
    OutTouch 1 s (execDmaHeadWrite n i s) := by
  unfold execDmaHeadWrite
  repeat' first
    | with_reducible apply Touch.refl
    | with_reducible apply OutTouch.next
    | ((with_reducible apply Touch.then ?_ (State.chCfgErr_touch _ _) ?_); rotate_left; decide)
    | ((with_reducible apply Touch.then ?_ (State.put_touch _ _ _ _) ?_); rotate_left; decide)
    | apply OutTouch.ite

theorem execDoneCountClear_touch (n : Fin 32) (s : State) :
    OutTouch 1 s (execDoneCountClear n s) := by
  unfold execDoneCountClear
  repeat' first
    | with_reducible apply Touch.refl
    | with_reducible apply OutTouch.next
    | ((with_reducible apply Touch.then ?_ (State.setReg_touch _ _ _) ?_); rotate_left; decide)

theorem execDescriptorFetch_touch (n : Fin 32) (r : DmaResult) (s : State) :
    OutTouch 139283 s (execDescriptorFetch n r s) := by
  unfold execDescriptorFetch
  repeat' first
    | with_reducible apply Touch.refl
    | with_reducible apply OutTouch.next
    | ((with_reducible apply Touch.then ?_ (State.ringError_touch _ _ _ _) ?_); rotate_left; decide)
    | ((with_reducible apply Touch.then ?_ (State.setCh_touch _ _ _) ?_); rotate_left; decide)
    | fail_if_no_progress ((with_reducible apply Touch.set_dma); rotate_left; decide)
    | split
    | apply OutTouch.ite

theorem execDescriptorStart_touch (n : Fin 32) (w : RingWrite) (s : State) :
    OutTouch 146747 s (execDescriptorStart n w s) := by
  unfold execDescriptorStart
  repeat' first
    | (with_reducible intro x; with_reducible refine Touch.cutP (m := 146747) (s := s) (x := x) (fun hx => ?_) ?_; (clear_value x; rotate_left; subst x))
    | with_reducible apply Touch.refl
    | with_reducible assumption
    | with_reducible apply OutTouch.next
    | ((with_reducible apply Touch.then ?_ (State.detect_touch _ _ _ _ _) ?_); rotate_left; decide)
    | ((with_reducible apply Touch.then ?_ (State.finishDesc_touch _ _ _ _ _ _) ?_); rotate_left; decide)
    | ((with_reducible apply Touch.then ?_ (State.failDesc_touch _ _ _ _ _ _) ?_); rotate_left; decide)
    | ((with_reducible apply Touch.then ?_ (State.latch_touch _ _ _) ?_); rotate_left; decide)
    | ((with_reducible apply Touch.then ?_ (State.pumped_touch _) ?_); rotate_left; decide)
    | ((with_reducible apply Touch.then ?_ (State.setJob_touch _ _ _) ?_); rotate_left; decide)
    | fail_if_no_progress ((with_reducible apply Touch.set_dma); rotate_left; decide)
    | split
    | apply OutTouch.ite

theorem State.tookAnswer_touch (s : State) (n off : Nat) :
    Touch 8192 s (State.tookAnswer s n off) := by
  unfold State.tookAnswer
  repeat' first
    | with_reducible apply Touch.refl
    | fail_if_no_progress ((with_reducible apply Touch.set_dma); rotate_left; decide)

theorem State.dmaDsRead_touch (s : State) (a k : Nat) :
    Touch 131123 s (State.dmaDsRead s a k).2.2 := by
  unfold State.dmaDsRead
  repeat' first
    | (with_reducible intro x; with_reducible refine Touch.cutP (m := 131123) (s := s) (x := x.2.2) (fun hx => ?_) ?_; (clear_value x; rotate_left; subst x))
    | with_reducible apply Touch.refl
    | with_reducible assumption
    | ((with_reducible apply Touch.then ?_ (State.detect_touch _ _ _ _ _) ?_); rotate_left; decide)
    | ((with_reducible apply Touch.then ?_ (State.dsReadBytes_touch _ _ _) ?_); rotate_left; decide)
    | split

theorem State.dmaDsWrite_touch (s : State) (a : Nat) (bs : List (Option Byte)) :
    Touch 131123 s (State.dmaDsWrite s a bs).2 := by
  unfold State.dmaDsWrite
  repeat' first
    | with_reducible apply Touch.refl
    | ((with_reducible apply Touch.then ?_ (State.detect_touch _ _ _ _ _) ?_); rotate_left; decide)
    | ((with_reducible apply Touch.then ?_ (State.dsWriteSome_touch _ _ _) ?_); rotate_left; decide)
    | split

theorem State.readResult_touch {s t : State} {n : Nat} {j : DmaJob} {x : Nat × Nat} {r : DmaResult} {st : Nat} {bs : List Byte}
    (h : s.readResult n j x r = some (st, bs, t)) : Touch 143411 s t := by
  unfold State.readResult at h
  extract_lets d a ext at h
  have hext : Touch 143411 s ext.2.2 := by
    cases r with
    | ok bs => exact Touch.refl _ _
    | fail e => exact Touch.trip (Touch.ite ((State.hostReadErr_touch s _).mono (by decide)) (Touch.refl _ _))
  have same : some ext = some (st, bs, t) → Touch 143411 s t := fun h => by
    have ht : ext.2.2 = t := congrArg (fun p => p.2.2) (Option.some.inj h)
    rw [← ht]; exact hext
  split at h
  · split at h
    · cases h; exact Touch.refl _ _
    · exact same h
  · split at h
    · exact same h
    · have e := State.dmaDsRead_touch s a x.2
      rw [Option.some.inj h] at e
      exact e.mono (by decide)
    · split at h
      · cases h; exact (State.tookAnswer_touch _ _ _).mono (by decide)
      · cases h

theorem execDmaReadCompletion_touch (n : Fin 32) (off : Fin 67108864) (r : DmaResult) (s : State) :
    OutTouch 146747 s (execDmaReadCompletion n off r s) := by
  unfold execDmaReadCompletion
  repeat' first
    | with_reducible apply Touch.refl
    | with_reducible apply OutTouch.next
    | ((with_reducible apply Touch.then ?_ (State.busError_touch _ _ _ _) ?_); rotate_left; decide)
    | ((with_reducible apply Touch.then ?_ (State.pumped_touch _) ?_); rotate_left; decide)
    | ((with_reducible apply Touch.then ?_ (State.setJob_touch _ _ _) ?_); rotate_left; decide)
    | exact Touch.mono (State.readResult_touch (by assumption)) (by decide)
    | split
    | apply OutTouch.ite

theorem State.writeResult_touch {s t : State} {n : Nat} {j : DmaJob} {x : Nat × List Byte} {c st : Nat}
    (h : s.writeResult n j x c = some (st, t)) : Touch 139315 s t := by
  unfold State.writeResult at h
  extract_lets at h
  split at h
  · split at h <;> (cases h; exact Touch.refl _ _)
  · split at h
    · have e := State.dmaDsWrite_touch s (j.desc.dst + x.1) (x.2.map some)
      rw [Option.some.inj h] at e
      exact e.mono (by decide)
    · rw [Option.map_eq_some_iff] at h
      obtain ⟨a, _, h⟩ := h
      cases h; exact (State.tookAnswer_touch _ _ _).mono (by decide)

theorem execDmaWriteResponse_touch (n : Fin 32) (off : Fin 67108864) (st : BitVec 8) (s : State) :
    OutTouch 146747 s (execDmaWriteResponse n off st s) := by
  unfold execDmaWriteResponse
  repeat' first
    | with_reducible apply Touch.refl
    | with_reducible apply OutTouch.next
    | ((with_reducible apply Touch.then ?_ (State.busError_touch _ _ _ _) ?_); rotate_left; decide)
    | ((with_reducible apply Touch.then ?_ (State.pumped_touch _) ?_); rotate_left; decide)
    | ((with_reducible apply Touch.then ?_ (State.setJob_touch _ _ _) ?_); rotate_left; decide)
    | exact Touch.mono (State.writeResult_touch (by assumption)) (by decide)
    | split

theorem State.readBackStatus_touch (s : State) (d : Desc) (a st : Nat) :
    Touch 131131 s (State.readBackStatus s d a st).2 := by
  unfold State.readBackStatus
  repeat' first
    | (with_reducible intro x; with_reducible refine Touch.cutP (m := 131131) (s := s) (x := x.2.2) (fun hx => ?_) ?_; (clear_value x; rotate_left; subst x))
    | (with_reducible intro x; subst x)
    | with_reducible lift_lets -underBinder
    | with_reducible apply Touch.refl
    | with_reducible assumption
    | with_reducible apply Touch.ite
    | ((with_reducible apply Touch.then ?_ (State.dmRead_touch _ _ _ _ _) ?_); rotate_left; decide)
    | ((with_reducible apply Touch.then ?_ (State.dmaDsRead_touch _ _ _) ?_); rotate_left; decide)
    | ((with_reducible apply Touch.then ?_ (State.bump_touch _ _ _ _) ?_); rotate_left; decide)
    | split
    | apply Touch.ite

theorem State.endFailed_touch (s : State) (n : Nat) (j : DmaJob) (w : RingWrite) :
    Touch 139315 s (State.endFailed s n j w) := by
  unfold State.endFailed
  repeat' first
    | (with_reducible intro x; with_reducible refine Touch.cutP (m := 139315) (s := s) (x := x) (fun hx => ?_) ?_; (clear_value x; rotate_left; subst x))
    | with_reducible apply Touch.refl
    | with_reducible assumption
    | ((with_reducible apply Touch.then ?_ (State.failDesc_touch _ _ _ _ _ _) ?_); rotate_left; decide)
    | ((with_reducible apply Touch.then ?_ (State.freeTail_touch _ _ _) ?_); rotate_left; decide)
    | split

theorem execReadBack_touch (n : Fin 32) (st : BitVec 8) (w : RingWrite) (s : State) :
    OutTouch 146747 s (execReadBack n st w s) := by
  unfold execReadBack
  repeat' first
    | (with_reducible intro x; with_reducible refine Touch.cutP (m := 146747) (s := s) (x := x) (fun hx => ?_) ?_; (clear_value x; rotate_left; subst x))
    | (with_reducible intro x; with_reducible refine Touch.cutP (m := 146747) (s := s) (x := x.2) (fun hx => ?_) ?_; (clear_value x; rotate_left; subst x))
    | with_reducible apply Touch.refl
    | with_reducible assumption
    | with_reducible apply OutTouch.next
    | ((with_reducible apply Touch.then ?_ (State.detect_touch _ _ _ _ _) ?_); rotate_left; decide)
    | ((with_reducible apply Touch.then ?_ (State.finishDesc_touch _ _ _ _ _ _) ?_); rotate_left; decide)
    | ((with_reducible apply Touch.then ?_ (State.busError_touch _ _ _ _) ?_); rotate_left; decide)
    | ((with_reducible apply Touch.then ?_ (State.failDesc_touch _ _ _ _ _ _) ?_); rotate_left; decide)
    | ((with_reducible apply Touch.then ?_ (State.latch_touch _ _ _) ?_); rotate_left; decide)
    | ((with_reducible apply Touch.then ?_ (State.readBackStatus_touch _ _ _ _) ?_); rotate_left; decide)
    | ((with_reducible apply Touch.then ?_ (State.endFailed_touch _ _ _ _) ?_); rotate_left; decide)
    | ((with_reducible apply Touch.then ?_ (State.pumped_touch _) ?_); rotate_left; decide)
    | split
    | apply OutTouch.ite

theorem execChannelHalt_touch (n : Fin 32) (w : RingWrite) (s : State) :
    OutTouch 146747 s (execChannelHalt n w s) := by
  unfold execChannelHalt
  repeat' first
    | with_reducible apply Touch.refl
    | with_reducible apply OutTouch.next
    | ((with_reducible apply Touch.then ?_ (State.haltCh_touch _ _) ?_); rotate_left; decide)
    | ((with_reducible apply Touch.then ?_ (State.endFailed_touch _ _ _ _) ?_); rotate_left; decide)
    | ((with_reducible apply Touch.then ?_ (State.pumped_touch _) ?_); rotate_left; decide)
    | split

end Sys2Proof.Machine
end

