-- ==== Sys2Proof/Laws/TouchDevice.lean ====
section
/-! SUPPORT. Frames by parts: what time, power, trace and Lantern change. Each lemma gives the mask of the parts that an operation may change (Touch); registers
and memories stay canonical. -/

namespace Sys2Proof.Machine

set_option linter.all false
set_option linter.unusedTactic false
set_option linter.unreachableTactic false
set_option linter.tactic.unusedName false

/-! Time -/

theorem State.setLocked_touch (s : State) (v : Bool) :
    Touch 147475 s (State.setLocked s v) := by
  unfold State.setLocked
  repeat' first
    | (with_reducible intro x; with_reducible refine Touch.cutP (m := 147475) (s := s) (x := x) (fun hx => ?_) ?_; (clear_value x; rotate_left; subst x))
    | with_reducible apply Touch.refl
    | with_reducible assumption
    | ((with_reducible apply Touch.then ?_ (State.detect_touch _ _ _ _ _) ?_); rotate_left; decide)
    | ((with_reducible apply Touch.then ?_ (State.put_touch _ _ _ _) ?_); rotate_left; decide)
    | ((with_reducible apply Touch.then ?_ (State.raise_touch _ _ _) ?_); rotate_left; decide)
    | ((with_reducible apply Touch.then ?_ (State.setReady_touch _ _ _) ?_); rotate_left; decide)
    | ((with_reducible apply Touch.then ?_ (State.cicEvent_touch _ _) ?_); rotate_left; decide)
    | apply Touch.ite

theorem State.restartServo_touch (s : State) :
    Touch 65536 s (State.restartServo s) := by
  unfold State.restartServo
  repeat' first
    | with_reducible apply Touch.refl
    | fail_if_no_progress ((with_reducible apply Touch.set_tb); rotate_left; decide)

theorem State.setIncr_touch (s : State) (n : Int) :
    Touch 131091 s (State.setIncr s n) := by
  unfold State.setIncr
  repeat' first
    | with_reducible apply Touch.refl
    | ((with_reducible apply Touch.then ?_ (State.detect_touch _ _ _ _ _) ?_); rotate_left; decide)
    | ((with_reducible apply Touch.then ?_ (State.raise_touch _ _ _) ?_); rotate_left; decide)
    | ((with_reducible apply Touch.then ?_ (State.setReg_touch _ _ _) ?_); rotate_left; decide)
    | apply Touch.ite

theorem State.stepDtc_touch (s : State) (d : Int) :
    Touch 65536 s (State.stepDtc s d) := by
  unfold State.stepDtc
  repeat' first
    | with_reducible apply Touch.refl
    | fail_if_no_progress ((with_reducible apply Touch.set_tb); rotate_left; decide)

theorem State.setSlew_touch (s : State) (d : Int) :
    Touch 65537 s (State.setSlew s d) := by
  unfold State.setSlew
  repeat' first
    | with_reducible apply Touch.refl
    | ((with_reducible apply Touch.then ?_ (State.put_touch _ _ _ _) ?_); rotate_left; decide)
    | ((with_reducible apply Touch.then ?_ (State.setReg_touch _ _ _) ?_); rotate_left; decide)
    | fail_if_no_progress ((with_reducible apply Touch.set_tb); rotate_left; decide)

theorem State.refuseTb_touch (s : State) :
    Touch 131091 s (State.refuseTb s) := by
  unfold State.refuseTb
  repeat' first
    | with_reducible apply Touch.refl
    | ((with_reducible apply Touch.then ?_ (State.detect_touch _ _ _ _ _) ?_); rotate_left; decide)
    | ((with_reducible apply Touch.then ?_ (State.raise_touch _ _ _) ?_); rotate_left; decide)

theorem State.roundDiv_touch (s : State) (a : Int) (b : Nat) :
    Touch 2 s (State.roundDiv s a b).2 := by
  unfold State.roundDiv
  repeat' first
    | with_reducible apply Touch.refl
    | ((with_reducible apply Touch.then ?_ (State.used_touch _) ?_); rotate_left; decide)
    | split

theorem State.lockSample_touch (s : State) (o : Int) :
    Touch 213011 s (State.lockSample s o) := by
  unfold State.lockSample
  repeat' first
    | (with_reducible intro x; with_reducible refine Touch.cutP (m := 213011) (s := s) (x := x) (fun hx => ?_) ?_; (clear_value x; rotate_left; subst x))
    | with_reducible apply Touch.refl
    | with_reducible assumption
    | ((with_reducible apply Touch.then ?_ (State.setLocked_touch _ _) ?_); rotate_left; decide)
    | ((with_reducible apply Touch.then ?_ (State.put_touch _ _ _ _) ?_); rotate_left; decide)
    | fail_if_no_progress ((with_reducible apply Touch.set_tb); rotate_left; decide)
    | apply Touch.ite

theorem State.tbOffset_touch (s : State) (o : Int) :
    Touch 3 s (State.tbOffset s o) := by
  unfold State.tbOffset
  repeat' first
    | (with_reducible intro x; with_reducible refine Touch.cutP (m := 3) (s := s) (x := x.2) (fun hx => ?_) ?_; (clear_value x; rotate_left; subst x))
    | with_reducible apply Touch.refl
    | with_reducible assumption
    | ((with_reducible apply Touch.then ?_ (State.roundDiv_touch _ _ _) ?_); rotate_left; decide)
    | ((with_reducible apply Touch.then ?_ (State.setReg_touch _ _ _) ?_); rotate_left; decide)

theorem State.servoJump_touch (s : State) (o : Int) :
    Touch 65539 s (State.servoJump s o) := by
  unfold State.servoJump
  repeat' first
    | (with_reducible intro x; with_reducible refine Touch.cutP (m := 65539) (s := s) (x := x) (fun hx => ?_) ?_; (clear_value x; rotate_left; subst x))
    | (with_reducible intro x; with_reducible refine Touch.cutP (m := 65539) (s := s) (x := x.2) (fun hx => ?_) ?_; (clear_value x; rotate_left; subst x))
    | with_reducible apply Touch.refl
    | with_reducible assumption
    | ((with_reducible apply Touch.then ?_ (State.setSlew_touch _ _) ?_); rotate_left; decide)
    | ((with_reducible apply Touch.then ?_ (State.roundDiv_touch _ _ _) ?_); rotate_left; decide)
    | ((with_reducible apply Touch.then ?_ (State.stepDtc_touch _ _) ?_); rotate_left; decide)
    | ((with_reducible apply Touch.then ?_ (State.used_touch _) ?_); rotate_left; decide)
    | fail_if_no_progress ((with_reducible apply Touch.set_tb); rotate_left; decide)
    | apply Touch.ite

theorem State.servo_touch (s : State) (o : Int) :
    Touch 213011 s (State.servo s o) := by
  unfold State.servo
  repeat' first
    | (with_reducible intro x; with_reducible refine Touch.cutP (m := 213011) (s := s) (x := x) (fun hx => ?_) ?_; (clear_value x; rotate_left; subst x))
    | (with_reducible intro x; with_reducible refine Touch.cutP (m := 213011) (s := s) (x := x.2) (fun hx => ?_) ?_; (clear_value x; rotate_left; subst x))
    | with_reducible apply Touch.refl
    | with_reducible assumption
    | ((with_reducible apply Touch.then ?_ (State.servoJump_touch _ _) ?_); rotate_left; decide)
    | ((with_reducible apply Touch.then ?_ (State.setIncr_touch _ _) ?_); rotate_left; decide)
    | ((with_reducible apply Touch.then ?_ (State.lockSample_touch _ _) ?_); rotate_left; decide)
    | ((with_reducible apply Touch.then ?_ (State.tbOffset_touch _ _) ?_); rotate_left; decide)
    | ((with_reducible apply Touch.then ?_ (State.roundDiv_touch _ _ _) ?_); rotate_left; decide)
    | fail_if_no_progress ((with_reducible apply Touch.set_tb); rotate_left; decide)
    | apply Touch.ite

theorem execTimeFlitSend_touch (s : State) :
    OutTouch 65792 s (execTimeFlitSend s) := by
  unfold execTimeFlitSend
  repeat' first
    | (with_reducible intro x; with_reducible refine Touch.cutP (m := 65792) (s := s) (x := x) (fun hx => ?_) ?_; (clear_value x; rotate_left; subst x))
    | with_reducible intro accT accX
    | with_reducible apply Touch.refl
    | with_reducible assumption
    | with_reducible apply OutTouch.next
    | ((with_reducible apply Touch.then ?_ (State.tx_touch _ _) ?_); rotate_left; decide)
    | fail_if_no_progress ((with_reducible apply Touch.set_tb); rotate_left; decide)
    | with_reducible apply Touch.foldl'
    | apply OutTouch.ite

theorem State.flitOrder_touch (s : State) (f : TimeFlit) :
    Touch 196627 s (State.flitOrder s f) := by
  unfold State.flitOrder
  repeat' first
    | (with_reducible intro x; with_reducible refine Touch.cutP (m := 196627) (s := s) (x := x) (fun hx => ?_) ?_; (clear_value x; rotate_left; subst x))
    | with_reducible apply Touch.refl
    | with_reducible assumption
    | ((with_reducible apply Touch.then ?_ (State.detect_touch _ _ _ _ _) ?_); rotate_left; decide)
    | ((with_reducible apply Touch.then ?_ (State.raise_touch _ _ _) ?_); rotate_left; decide)
    | ((with_reducible apply Touch.then ?_ (State.restartServo_touch _) ?_); rotate_left; decide)
    | fail_if_no_progress ((with_reducible apply Touch.set_tb); rotate_left; decide)
    | apply Touch.ite

theorem execTimeFlit_touch (p : PortNo) (f : TimeFlit) (resid : BitVec 32) (s : State) :
    OutTouch 213267 s (execTimeFlit p f resid s) := by
  unfold execTimeFlit
  repeat' first
    | (with_reducible intro x; with_reducible refine Touch.cutP (m := 213267) (s := s) (x := x) (fun hx => ?_) ?_; (clear_value x; rotate_left; subst x))
    | (with_reducible intro x; with_reducible refine Touch.cutP (m := 213267) (s := s) (x := x.2) (fun hx => ?_) ?_; (clear_value x; rotate_left; subst x))
    | with_reducible intro accT accX
    | with_reducible apply Touch.refl
    | with_reducible assumption
    | with_reducible apply OutTouch.next
    | ((with_reducible apply Touch.then ?_ (State.servo_touch _ _) ?_); rotate_left; decide)
    | ((with_reducible apply Touch.then ?_ (State.flitOrder_touch _ _) ?_); rotate_left; decide)
    | ((with_reducible apply Touch.then ?_ (State.recordPsg_touch _ _ _ _) ?_); rotate_left; decide)
    | ((with_reducible apply Touch.then ?_ (State.roundDiv_touch _ _ _) ?_); rotate_left; decide)
    | ((with_reducible apply Touch.then ?_ (State.tx_touch _ _) ?_); rotate_left; decide)
    | with_reducible apply Touch.foldl'
    | apply Touch.ite
    | apply OutTouch.ite

theorem execPtmDialog_touch (master : BitVec 64) (delay : BitVec 32) (s : State) :
    OutTouch 213011 s (execPtmDialog master delay s) := by
  unfold execPtmDialog
  repeat' first
    | (with_reducible intro x; with_reducible refine Touch.cutP (m := 213011) (s := s) (x := x) (fun hx => ?_) ?_; (clear_value x; rotate_left; subst x))
    | with_reducible apply Touch.refl
    | with_reducible assumption
    | with_reducible apply OutTouch.next
    | ((with_reducible apply Touch.then ?_ (State.servo_touch _ _) ?_); rotate_left; decide)
    | fail_if_no_progress ((with_reducible apply Touch.set_tb); rotate_left; decide)
    | apply OutTouch.ite

theorem execHoldover_touch (s : State) :
    OutTouch 147475 s (execHoldover s) := by
  unfold execHoldover
  repeat' first
    | with_reducible apply Touch.refl
    | with_reducible apply OutTouch.next
    | ((with_reducible apply Touch.then ?_ (State.setLocked_touch _ _) ?_); rotate_left; decide)
    | ((with_reducible apply Touch.then ?_ (State.raise_touch _ _ _) ?_); rotate_left; decide)
    | apply OutTouch.ite

theorem execDtcWrap_touch (s : State) :
    OutTouch 196699 s (execDtcWrap s) := by
  unfold execDtcWrap
  repeat' first
    | with_reducible apply Touch.refl
    | with_reducible apply OutTouch.next
    | ((with_reducible apply Touch.then ?_ (State.elapse_touch _) ?_); rotate_left; decide)
    | apply OutTouch.ite

theorem State.latchNow_touch (s : State) :
    Touch 1 s (State.latchNow s) := by
  unfold State.latchNow
  repeat' first
    | with_reducible apply Touch.refl
    | ((with_reducible apply Touch.then ?_ (State.put_touch _ _ _ _) ?_); rotate_left; decide)

theorem execTbNowNsRead_touch (s : State) :
    OutTouch 1 s (execTbNowNsRead s) := by
  unfold execTbNowNsRead
  repeat' first
    | with_reducible apply Touch.refl
    | with_reducible apply OutTouch.next
    | ((with_reducible apply Touch.then ?_ (State.latchNow_touch _) ?_); rotate_left; decide)
    | ((with_reducible apply Touch.then ?_ (State.put_touch _ _ _ _) ?_); rotate_left; decide)

theorem execSlewEnd_touch (s : State) :
    OutTouch 196699 s (execSlewEnd s) := by
  unfold execSlewEnd
  repeat' first
    | with_reducible apply Touch.refl
    | with_reducible apply OutTouch.next
    | ((with_reducible apply Touch.then ?_ (State.elapse_touch _) ?_); rotate_left; decide)
    | apply OutTouch.ite

theorem execTbIncrWrite_touch (by' : TbWriter) (w : Word) (s : State) :
    OutTouch 131091 s (execTbIncrWrite by' w s) := by
  unfold execTbIncrWrite
  repeat' first
    | with_reducible apply Touch.refl
    | with_reducible apply OutTouch.next
    | ((with_reducible apply Touch.then ?_ (State.setIncr_touch _ _) ?_); rotate_left; decide)
    | ((with_reducible apply Touch.then ?_ (State.refuseTb_touch _) ?_); rotate_left; decide)
    | apply OutTouch.ite

theorem execTbStepWrite_touch (by' : TbWriter) (w : Word) (s : State) :
    OutTouch 196627 s (execTbStepWrite by' w s) := by
  unfold execTbStepWrite
  repeat' first
    | with_reducible apply Touch.refl
    | with_reducible apply OutTouch.next
    | ((with_reducible apply Touch.then ?_ (State.refuseTb_touch _) ?_); rotate_left; decide)
    | ((with_reducible apply Touch.then ?_ (State.stepDtc_touch _ _) ?_); rotate_left; decide)
    | apply OutTouch.ite

theorem execTbSlewWrite_touch (by' : TbWriter) (w : Word) (s : State) :
    OutTouch 196627 s (execTbSlewWrite by' w s) := by
  unfold execTbSlewWrite
  repeat' first
    | with_reducible apply Touch.refl
    | with_reducible apply OutTouch.next
    | ((with_reducible apply Touch.then ?_ (State.refuseTb_touch _) ?_); rotate_left; decide)
    | ((with_reducible apply Touch.then ?_ (State.setSlew_touch _ _) ?_); rotate_left; decide)
    | apply OutTouch.ite

theorem execTbCfgWrite_touch (w : Word) (s : State) :
    OutTouch 213011 s (execTbCfgWrite w s) := by
  unfold execTbCfgWrite
  repeat' first
    | (with_reducible intro x; with_reducible refine Touch.cutP (m := 213011) (s := s) (x := x) (fun hx => ?_) ?_; (clear_value x; rotate_left; subst x))
    | with_reducible apply Touch.refl
    | with_reducible assumption
    | with_reducible apply OutTouch.next
    | ((with_reducible apply Touch.then ?_ (State.setLocked_touch _ _) ?_); rotate_left; decide)
    | ((with_reducible apply Touch.then ?_ (State.restartServo_touch _) ?_); rotate_left; decide)
    | ((with_reducible apply Touch.then ?_ (State.setReg_touch _ _ _) ?_); rotate_left; decide)
    | apply OutTouch.ite

theorem State.toFirmware_touch (s : State) (e : Nat) (m : PtpMsg) :
    Touch 65536 s (State.toFirmware s e m) := by
  unfold State.toFirmware
  repeat' first
    | with_reducible apply Touch.refl
    | fail_if_no_progress ((with_reducible apply Touch.set_tb); rotate_left; decide)

theorem execTcForward_touch (e : Fin 2) (m : PtpMsg) (resid : BitVec 32) (s : State) :
    OutTouch 65537 s (execTcForward e m resid s) := by
  unfold execTcForward
  repeat' first
    | (with_reducible intro x; with_reducible refine Touch.cutP (m := 65537) (s := s) (x := x) (fun hx => ?_) ?_; (clear_value x; rotate_left; subst x))
    | with_reducible apply Touch.refl
    | with_reducible assumption
    | with_reducible apply OutTouch.next
    | ((with_reducible apply Touch.then ?_ (State.bump_touch _ _ _ _) ?_); rotate_left; decide)
    | ((with_reducible apply Touch.then ?_ (State.toFirmware_touch _ _ _) ?_); rotate_left; decide)
    | fail_if_no_progress ((with_reducible apply Touch.set_tb); rotate_left; decide)
    | apply OutTouch.ite

theorem execPtpMessage_touch (e : Fin 2) (m : PtpMsg) (sample : Option (BitVec 64)) (s : State) :
    OutTouch 213011 s (execPtpMessage e m sample s) := by
  unfold execPtpMessage
  repeat' first
    | (with_reducible intro x; with_reducible refine Touch.cutP (m := 213011) (s := s) (x := x) (fun hx => ?_) ?_; (clear_value x; rotate_left; subst x))
    | with_reducible apply Touch.refl
    | with_reducible assumption
    | with_reducible apply OutTouch.next
    | ((with_reducible apply Touch.then ?_ (State.lockSample_touch _ _) ?_); rotate_left; decide)
    | ((with_reducible apply Touch.then ?_ (State.tbOffset_touch _ _) ?_); rotate_left; decide)
    | ((with_reducible apply Touch.then ?_ (State.toFirmware_touch _ _ _) ?_); rotate_left; decide)
    | split
    | apply OutTouch.ite

theorem execEthLinkChange_touch (e : Fin 2) (up : Bool) (s : State) :
    OutTouch 1 s (execEthLinkChange e up s) := by
  unfold execEthLinkChange
  repeat' first
    | with_reducible apply Touch.refl
    | with_reducible apply OutTouch.next
    | ((with_reducible apply Touch.then ?_ (State.put_touch _ _ _ _) ?_); rotate_left; decide)
    | ((with_reducible apply Touch.then ?_ (State.setReady_touch _ _ _) ?_); rotate_left; decide)

theorem execTcForwardedClear_touch (e : Fin 2) (s : State) :
    OutTouch 1 s (execTcForwardedClear e s) := by
  unfold execTcForwardedClear
  repeat' first
    | with_reducible apply Touch.refl
    | with_reducible apply OutTouch.next
    | ((with_reducible apply Touch.then ?_ (State.put_touch _ _ _ _) ?_); rotate_left; decide)

/-! Power -/

theorem State.refuseGal_touch (s : State) (g : Nat) :
    Touch 1 s (State.refuseGal s g) := by
  unfold State.refuseGal
  repeat' first
    | with_reducible apply Touch.refl
    | ((with_reducible apply Touch.then ?_ (State.put_touch _ _ _ _) ?_); rotate_left; decide)
    | ((with_reducible apply Touch.then ?_ (State.raise_touch _ _ _) ?_); rotate_left; decide)

theorem State.requestGal_touch (s : State) (g r : Nat) :
    Touch 32769 s (State.requestGal s g r) := by
  unfold State.requestGal
  repeat' first
    | (with_reducible intro x; with_reducible refine Touch.cutP (m := 32769) (s := s) (x := x) (fun hx => ?_) ?_; (clear_value x; rotate_left; subst x))
    | with_reducible apply Touch.refl
    | with_reducible assumption
    | ((with_reducible apply Touch.then ?_ (State.refuseGal_touch _ _) ?_); rotate_left; decide)
    | ((with_reducible apply Touch.then ?_ (State.put_touch _ _ _ _) ?_); rotate_left; decide)
    | ((with_reducible apply Touch.then ?_ (State.wardenPend_touch _ _ _) ?_); rotate_left; decide)
    | apply Touch.ite

theorem execGalleryPowerRequest_touch (k : Fin 4) (w : Word) (s : State) :
    OutTouch 32769 s (execGalleryPowerRequest k w s) := by
  unfold execGalleryPowerRequest
  repeat' first
    | with_reducible intro accT accX
    | with_reducible apply Touch.refl
    | with_reducible apply OutTouch.next
    | ((with_reducible apply Touch.then ?_ (State.requestGal_touch _ _ _) ?_); rotate_left; decide)
    | with_reducible apply Touch.foldl'

theorem execGalleryIdle_touch (g : Gal) (s : State) :
    OutTouch 1064961 s (execGalleryIdle g s) := by
  unfold execGalleryIdle
  repeat' first
    | with_reducible apply Touch.refl
    | with_reducible apply OutTouch.next
    | ((with_reducible apply Touch.then ?_ (State.trcStop_touch _ _) ?_); rotate_left; decide)
    | ((with_reducible apply Touch.then ?_ (State.refuseGal_touch _ _) ?_); rotate_left; decide)
    | ((with_reducible apply Touch.then ?_ (State.setGalPower_touch _ _ _) ?_); rotate_left; decide)
    | apply OutTouch.ite

theorem execGalleryOn_touch (g : Gal) (s : State) :
    OutTouch 1064961 s (execGalleryOn g s) := by
  unfold execGalleryOn
  repeat' first
    | with_reducible apply Touch.refl
    | with_reducible apply OutTouch.next
    | ((with_reducible apply Touch.then ?_ (State.trcStart_touch _ _ _) ?_); rotate_left; decide)
    | ((with_reducible apply Touch.then ?_ (State.setGalPower_touch _ _ _) ?_); rotate_left; decide)
    | apply OutTouch.ite

theorem execGalleryPowerDown_touch (g : Gal) (s : State) :
    OutTouch 1244283 s (execGalleryPowerDown g s) := by
  unfold execGalleryPowerDown
  repeat' first
    | (with_reducible intro x; with_reducible refine Touch.cutP (m := 1244283) (s := s) (x := x) (fun hx => ?_) ?_; (clear_value x; rotate_left; subst x))
    | with_reducible apply Touch.refl
    | with_reducible assumption
    | with_reducible apply OutTouch.next
    | ((with_reducible apply Touch.then ?_ (State.trcOff_touch _ _) ?_); rotate_left; decide)
    | ((with_reducible apply Touch.then ?_ (State.flushNet_touch _ _) ?_); rotate_left; decide)
    | ((with_reducible apply Touch.then ?_ (State.flushQueue_touch _ _ _) ?_); rotate_left; decide)
    | ((with_reducible apply Touch.then ?_ (State.refuseGal_touch _ _) ?_); rotate_left; decide)
    | ((with_reducible apply Touch.then ?_ (State.abortSnapPhase2_touch _) ?_); rotate_left; decide)
    | ((with_reducible apply Touch.then ?_ (State.clearGal_touch _ _) ?_); rotate_left; decide)
    | ((with_reducible apply Touch.then ?_ (State.setGalPower_touch _ _ _) ?_); rotate_left; decide)
    | ((with_reducible apply Touch.then ?_ (State.setGalReady_touch _ _ _) ?_); rotate_left; decide)
    | ((with_reducible apply Touch.then ?_ (State.wiuReset_touch _ _) ?_); rotate_left; decide)
    | fail_if_no_progress ((with_reducible apply Touch.set_fab); rotate_left; decide)
    | apply OutTouch.ite

theorem execGalleryWake_touch (g : Gal) (s : State) :
    OutTouch 1057 s (execGalleryWake g s) := by
  unfold execGalleryWake
  repeat' first
    | with_reducible apply Touch.refl
    | with_reducible apply OutTouch.next
    | ((with_reducible apply Touch.then ?_ (State.startWake_touch _ _) ?_); rotate_left; decide)
    | apply OutTouch.ite

theorem State.keepRegs_touch (s : State) (p : Nat → Bool) :
    Touch 1 s (State.keepRegs s p) := by
  unfold State.keepRegs
  repeat' first
    | with_reducible apply Touch.refl
    | fail_if_no_progress ((with_reducible apply Touch.set_regs); rotate_left; decide; (intro h; first | exact h | exact NMap.wf_set _ _ _ _ h | exact NMap.wf_keep _ _ _ h))

theorem State.afterReset_touch (s : State) : Touch 3932153 s (State.afterReset s) := by
  refine ⟨rfl, fun c hc => ?_, fun _ => ⟨rfl, rfl⟩⟩
  cases c <;> first | rfl | exact absurd hc (by decide)

theorem State.galStates_touch (s : State) (trip : Bool) :
    Touch 3932153 s (State.galStates s trip) := by
  unfold State.galStates
  repeat' first
    | with_reducible intro accT accX
    | with_reducible apply Touch.refl
    | ((with_reducible apply Touch.then ?_ (State.setGalPower_touch _ _ _) ?_); rotate_left; decide)
    | with_reducible apply Touch.foldl'

theorem State.deviceReset_touch (s : State) (trip : Bool) : Touch 3932153 s (State.deviceReset s trip) := by
  have start : Touch 3932153 s { s.afterReset with
      regs := NMap.keep s.regs inLantern, key := s.key, pwr := { s.pwr with d2dRate := 0, d2dFails := 0 },
      lnt := { s.lnt with armed := [], epoch := 0, lastWrap := 0 } } := by
    refine ⟨rfl, fun c hc => ?_, fun hs => ⟨NMap.wf_keep _ _ _ hs.1, rfl⟩⟩
    cases c <;> first | rfl | exact absurd hc (by decide)
  unfold State.deviceReset
  extract_lets _ _ _ t u
  have gals : Touch 3932153 s u := start.then (State.galStates_touch _ trip) (by decide)
  split
  · exact Touch.set_lnt gals (by decide)
  · exact gals

theorem execDeviceReset_touch (cause : DeviceCause) (s : State) :
    OutTouch 3932153 s (execDeviceReset cause s) := by
  unfold execDeviceReset
  repeat' first
    | with_reducible apply Touch.refl
    | with_reducible apply OutTouch.next
    | ((with_reducible apply Touch.then ?_ (State.deviceReset_touch _ _) ?_); rotate_left; decide)
    | ((with_reducible apply Touch.then ?_ (State.put_touch _ _ _ _) ?_); rotate_left; decide)
    | fail_if_no_progress ((with_reducible apply Touch.set_host); rotate_left; decide)
    | split

theorem State.pullStraps_touch (s : State) :
    Touch 1 s (State.pullStraps s) := by
  unfold State.pullStraps
  repeat' first
    | with_reducible intro accT accX
    | with_reducible apply Touch.refl
    | ((with_reducible apply Touch.then ?_ (State.put_touch _ _ _ _) ?_); rotate_left; decide)
    | with_reducible apply Touch.foldl'

theorem execPowerOn_touch (vbat : Bool) (s : State) :
    OutTouch 3932155 s (execPowerOn vbat s) := by
  unfold execPowerOn
  repeat' first
    | (with_reducible intro x; with_reducible refine Touch.cutP (m := 3932155) (s := s) (x := x) (fun hx => ?_) ?_; (clear_value x; rotate_left; subst x))
    | with_reducible apply Touch.refl
    | with_reducible assumption
    | with_reducible apply OutTouch.next
    | ((with_reducible apply Touch.then ?_ (State.detect_touch _ _ _ _ _) ?_); rotate_left; decide)
    | ((with_reducible apply Touch.then ?_ (State.pullStraps_touch _) ?_); rotate_left; decide)
    | ((with_reducible apply Touch.then ?_ (State.put_touch _ _ _ _) ?_); rotate_left; decide)
    | ((with_reducible apply Touch.then ?_ (State.afterReset_touch _) ?_); rotate_left; decide)
    | fail_if_no_progress ((with_reducible apply Touch.set_key); rotate_left; decide)
    | fail_if_no_progress ((with_reducible apply Touch.set_lnt); rotate_left; decide)
    | apply Touch.ite

theorem State.hostResetMbx_touch (s : State) :
    Touch 132955 s (State.hostResetMbx s) := by
  unfold State.hostResetMbx
  repeat' first
    | (with_reducible intro x; with_reducible refine Touch.cutP (m := 132955) (s := s) (x := x) (fun hx => ?_) ?_; (clear_value x; rotate_left; subst x))
    | with_reducible apply Touch.refl
    | with_reducible assumption
    | ((with_reducible apply Touch.then ?_ (State.detect_touch _ _ _ _ _) ?_); rotate_left; decide)
    | ((with_reducible apply Touch.then ?_ (State.forget_touch _ _) ?_); rotate_left; decide)
    | fail_if_no_progress ((with_reducible apply Touch.set_mbx); rotate_left; decide)

theorem State.hostResetDma_touch (s : State) :
    Touch 8226 s (State.hostResetDma s) := by
  unfold State.hostResetDma
  repeat' first
    | (with_reducible intro x; with_reducible refine Touch.cutP (m := 8226) (s := s) (x := x) (fun hx => ?_) ?_; (clear_value x; rotate_left; subst x))
    | (with_reducible intro (x : Mem); subst x)
    | with_reducible intro accT accX
    | with_reducible apply Touch.refl
    | with_reducible assumption
    | ((with_reducible apply Touch.then ?_ (State.freeTail_touch _ _ _) ?_); rotate_left; decide)
    | fail_if_no_progress ((with_reducible apply Touch.set_mem_dma); rotate_left; decide; decide; (refine Memory.wf_of ?_ ?_ ?_ ?_ <;> intro h <;> first | with_reducible exact h | with_reducible exact NMap.wf_keep _ _ _ h | with_reducible exact NMap.wf_setAll _ _ _ h | with_reducible exact NMap.wf_setAll _ _ _ (NMap.wf_keep _ _ _ h) | exact h | exact NMap.wf_set _ _ _ _ h | exact NMap.wf_keep _ _ _ h))
    | with_reducible apply Touch.foldl'

theorem execHostReset_touch (cause : HostCause) (s : State) :
    OutTouch 163707 s (execHostReset cause s) := by
  unfold execHostReset
  repeat' first
    | (with_reducible intro x; with_reducible refine Touch.cutP (m := 163707) (s := s) (x := x) (fun hx => ?_) ?_; (clear_value x; rotate_left; subst x))
    | with_reducible apply Touch.refl
    | with_reducible assumption
    | with_reducible apply OutTouch.next
    | ((with_reducible apply Touch.then ?_ (State.stageFail_touch _ _) ?_); rotate_left; decide)
    | ((with_reducible apply Touch.then ?_ (State.hostResetMbx_touch _) ?_); rotate_left; decide)
    | ((with_reducible apply Touch.then ?_ (State.cicHostReset_touch _) ?_); rotate_left; decide)
    | ((with_reducible apply Touch.then ?_ (State.hostResetDma_touch _) ?_); rotate_left; decide)
    | ((with_reducible apply Touch.then ?_ (State.keepRegs_touch _ _) ?_); rotate_left; decide)
    | ((with_reducible apply Touch.then ?_ (State.setReg_touch _ _ _) ?_); rotate_left; decide)
    | fail_if_no_progress ((with_reducible apply Touch.set_host); rotate_left; decide)
    | fail_if_no_progress ((with_reducible apply Touch.set_noc); rotate_left; decide)
    | apply Touch.ite

theorem State.coreUp_touch (s : State) (k : Nat) :
    Touch 1064963 s (State.coreUp s k) := by
  unfold State.coreUp
  repeat' first
    | with_reducible apply Touch.refl
    | ((with_reducible apply Touch.then ?_ (State.trcReset_touch _ _ _) ?_); rotate_left; decide)
    | ((with_reducible apply Touch.then ?_ (State.setReady_touch _ _ _) ?_); rotate_left; decide)
    | ((with_reducible apply Touch.then ?_ (State.cicCoreUp_touch _ _) ?_); rotate_left; decide)

theorem State.galleryUp_touch (s : State) (g : Nat) :
    Touch 1066019 s (State.galleryUp s g) := by
  unfold State.galleryUp
  repeat' first
    | (with_reducible intro x; with_reducible refine Touch.cutP (m := 1066019) (s := s) (x := x) (fun hx => ?_) ?_; (clear_value x; rotate_left; subst x))
    | (with_reducible intro x; with_reducible refine Touch.cutP (m := 1066019) (s := s) (x := x.2) (fun hx => ?_) ?_; (clear_value x; rotate_left; subst x))
    | (with_reducible intro x; with_reducible refine Touch.cutP (m := 1066019) (s := s) (x := x.2.2) (fun hx => ?_) ?_; (clear_value x; rotate_left; subst x))
    | (with_reducible intro x; with_reducible refine Touch.cutP (m := 1066019) (s := s) (x := x.1) (fun hx => ?_) ?_; (clear_value x; rotate_left; subst x))
    | (with_reducible intro (x : Mem); subst x)
    | (with_reducible intro x; clear_value x)
    | (with_reducible intro x; subst x)
    | with_reducible apply Touch.refl
    | with_reducible assumption
    | with_reducible apply Touch.ite
    | ((with_reducible apply Touch.then ?_ (State.loadRepair_touch _ _) ?_); rotate_left; decide)
    | ((with_reducible apply Touch.then ?_ (State.trcReset_touch _ _ _) ?_); rotate_left; decide)
    | ((with_reducible apply Touch.then ?_ (State.raise_touch _ _ _) ?_); rotate_left; decide)
    | ((with_reducible apply Touch.then ?_ (State.start_touch _ _) ?_); rotate_left; decide)
    | fail_if_no_progress ((with_reducible apply Touch.set_mem); rotate_left; decide; (refine Memory.wf_of ?_ ?_ ?_ ?_ <;> intro h <;> first | with_reducible exact h | with_reducible exact NMap.wf_keep _ _ _ h | with_reducible exact NMap.wf_setAll _ _ _ h | with_reducible exact NMap.wf_setAll _ _ _ (NMap.wf_keep _ _ _ h) | exact h | exact NMap.wf_set _ _ _ _ h | exact NMap.wf_keep _ _ _ h))
    | split
    | apply Touch.ite

theorem State.straps_touch (s : State) :
    Touch 1 s (State.straps s) := by
  unfold State.straps
  repeat' first
    | with_reducible apply Touch.refl
    | ((with_reducible apply Touch.then ?_ (State.pullStraps_touch _) ?_); rotate_left; decide)
    | ((with_reducible apply Touch.then ?_ (State.put_touch _ _ _ _) ?_); rotate_left; decide)

theorem State.bringUp_touch (s : State) :
    Touch 1197091 s (State.bringUp s) := by
  unfold State.bringUp
  repeat' first
    | (with_reducible intro x; with_reducible refine Touch.cutP (m := 1197091) (s := s) (x := x) (fun hx => ?_) ?_; (clear_value x; rotate_left; subst x))
    | with_reducible intro accT accX
    | with_reducible apply Touch.refl
    | with_reducible assumption
    | ((with_reducible apply Touch.then ?_ (State.galleryUp_touch _ _) ?_); rotate_left; decide)
    | ((with_reducible apply Touch.then ?_ (State.coreUp_touch _ _) ?_); rotate_left; decide)
    | ((with_reducible apply Touch.then ?_ (State.straps_touch _) ?_); rotate_left; decide)
    | ((with_reducible apply Touch.then ?_ (State.put_touch _ _ _ _) ?_); rotate_left; decide)
    | ((with_reducible apply Touch.then ?_ (State.setReady_touch _ _ _) ?_); rotate_left; decide)
    | ((with_reducible apply Touch.then ?_ (State.showCores_touch _) ?_); rotate_left; decide)
    | fail_if_no_progress ((with_reducible apply Touch.set_lnt); rotate_left; decide)
    | with_reducible apply Touch.foldl'

theorem execPerstDeassert_touch (s : State) :
    OutTouch 1201187 s (execPerstDeassert s) := by
  unfold execPerstDeassert
  repeat' first
    | (with_reducible intro x; with_reducible refine Touch.cutP (m := 1201187) (s := s) (x := x) (fun hx => ?_) ?_; (clear_value x; rotate_left; subst x))
    | with_reducible apply Touch.refl
    | with_reducible assumption
    | with_reducible apply OutTouch.next
    | ((with_reducible apply Touch.then ?_ (State.bringUp_touch _) ?_); rotate_left; decide)
    | fail_if_no_progress ((with_reducible apply Touch.set_host); rotate_left; decide)
    | apply OutTouch.ite

theorem execLntPgoodRise_touch (s : State) :
    OutTouch 1197091 s (execLntPgoodRise s) := by
  unfold execLntPgoodRise
  repeat' first
    | (with_reducible intro x; with_reducible refine Touch.cutP (m := 1197091) (s := s) (x := x) (fun hx => ?_) ?_; (clear_value x; rotate_left; subst x))
    | with_reducible apply Touch.refl
    | with_reducible assumption
    | with_reducible apply OutTouch.next
    | ((with_reducible apply Touch.then ?_ (State.bringUp_touch _) ?_); rotate_left; decide)
    | ((with_reducible apply Touch.then ?_ (State.raise_touch _ _ _) ?_); rotate_left; decide)
    | apply OutTouch.ite

theorem execD2dTrain_touch (ok : Bool) (s : State) :
    OutTouch 2228243 s (execD2dTrain ok s) := by
  unfold execD2dTrain
  repeat' first
    | (with_reducible intro x; with_reducible refine Touch.cutP (m := 2228243) (s := s) (x := x) (fun hx => ?_) ?_; (clear_value x; rotate_left; subst x))
    | with_reducible apply Touch.refl
    | with_reducible assumption
    | with_reducible apply OutTouch.next
    | ((with_reducible apply Touch.then ?_ (State.detect_touch _ _ _ _ _) ?_); rotate_left; decide)
    | ((with_reducible apply Touch.then ?_ (State.setReady_touch _ _ _) ?_); rotate_left; decide)
    | fail_if_no_progress ((with_reducible apply Touch.set_pwr); rotate_left; decide)
    | apply Touch.ite
    | apply OutTouch.ite

theorem execPcieLinkUp_touch (width : Fin 5) (rate : Fin 4) (partnerReversed : Bool) (s : State) :
    OutTouch 4096 s (execPcieLinkUp width rate partnerReversed s) := by
  unfold execPcieLinkUp
  repeat' first
    | with_reducible apply Touch.refl
    | with_reducible apply OutTouch.next
    | fail_if_no_progress ((with_reducible apply Touch.set_host); rotate_left; decide)

theorem execD3hotEntry_touch (s : State) :
    OutTouch 4096 s (execD3hotEntry s) := by
  unfold execD3hotEntry
  repeat' first
    | with_reducible apply Touch.refl
    | with_reducible apply OutTouch.next
    | fail_if_no_progress ((with_reducible apply Touch.set_host); rotate_left; decide)

/-! Trace -/

theorem execTraceSourceEnable_touch (src : Fin 68) (w : Word) (s : State) :
    OutTouch 1064961 s (execTraceSourceEnable src w s) := by
  unfold execTraceSourceEnable
  repeat' first
    | (with_reducible intro x; with_reducible refine Touch.cutP (m := 1064961) (s := s) (x := x) (fun hx => ?_) ?_; (clear_value x; rotate_left; subst x))
    | with_reducible apply Touch.refl
    | with_reducible assumption
    | with_reducible apply OutTouch.next
    | ((with_reducible apply Touch.then ?_ (State.put_touch _ _ _ _) ?_); rotate_left; decide)
    | ((with_reducible apply Touch.then ?_ (State.startPackets_touch _ _) ?_); rotate_left; decide)
    | ((with_reducible apply Touch.then ?_ (State.typedStore_touch _ _ _) ?_); rotate_left; decide)
    | ((with_reducible apply Touch.then ?_ (State.setOutcomes_touch _ _ _) ?_); rotate_left; decide)
    | apply Touch.ite
    | apply OutTouch.ite

theorem execComparatorMatch_touch (src : Fin 68) (addr : BitVec 48) (mode : BitVec 2) (s : State) :
    OutTouch 1064961 s (execComparatorMatch src addr mode s) := by
  unfold execComparatorMatch
  repeat' first
    | with_reducible apply Touch.refl
    | with_reducible apply OutTouch.next
    | ((with_reducible apply Touch.then ?_ (State.flushBranch_touch _ _) ?_); rotate_left; decide)
    | ((with_reducible apply Touch.then ?_ (State.pushPacket_touch _ _ _ _) ?_); rotate_left; decide)
    | ((with_reducible apply Touch.then ?_ (State.put_touch _ _ _ _) ?_); rotate_left; decide)
    | ((with_reducible apply Touch.then ?_ (State.startPackets_touch _ _) ?_); rotate_left; decide)
    | ((with_reducible apply Touch.then ?_ (State.setTrcAddr_touch _ _ _ _) ?_); rotate_left; decide)
    | split
    | apply OutTouch.ite

theorem State.encode_touch (s : State) (k : Nat) (e : TrcEvent) : Touch 1064961 s (s.encode k e) := by
  have adr : ∀ (t : State) a b, Touch 1064961 t (t.setTrcAddr k a b) := fun t a b => (State.setTrcAddr_touch t k a b).mono (by decide)
  have flu : ∀ t : State, Touch 1064961 t (t.flushBranch k) := fun t => (State.flushBranch_touch t k).mono (by decide)
  have pck : ∀ (t : State) a b, Touch 1064961 t (t.packet k a b) := fun t a b => (State.packet_touch t k a b).mono (by decide)
  have psh : ∀ (t : State) a b, Touch 1064961 t (t.pushPacket k a b) := fun t a b => (State.pushPacket_touch t k a b).mono (by decide)
  have syn : ∀ t : State, Touch 1064961 t (t.syncDue k) := fun t => (State.syncDue_touch t k).mono (by decide)
  have out : ∀ (t : State) l, Touch 1064961 t (t.setOutcomes k l) := fun t l => (State.setOutcomes_touch t k l).mono (by decide)
  have self : 1064961 &&& 1064961 = 1064961 := Nat.and_self _
  cases e with
  | branch tk mode next =>
    exact Touch.ite ((((out _ _).then (adr _ _ _) self).then (flu _) self).then (syn _) self) ((out _ _).then (adr _ _ _) self)
  | indirect mode next => exact (adr _ _ _).then (pck _ _ _) self
  | trap mode cause next => exact (((adr _ _ _).then (flu _) self).then (psh _ _ _) self).then (pck _ _ _) self
  | other mode next => exact adr _ _ _

theorem execEncoderPacket_touch (src : Fin 68) (ev : TrcEvent) (s : State) :
    OutTouch 1064961 s (execEncoderPacket src ev s) := by
  unfold execEncoderPacket
  repeat' first
    | with_reducible apply Touch.refl
    | with_reducible apply OutTouch.next
    | ((with_reducible apply Touch.then ?_ (State.encode_touch _ _ _) ?_); rotate_left; decide)
    | ((with_reducible apply Touch.then ?_ (State.setTrcAddr_touch _ _ _ _) ?_); rotate_left; decide)
    | apply OutTouch.ite

theorem execTimestampInterval_touch (src : Fin 68) (s : State) :
    OutTouch 1064961 s (execTimestampInterval src s) := by
  unfold execTimestampInterval
  repeat' first
    | with_reducible apply Touch.refl
    | with_reducible apply OutTouch.next
    | ((with_reducible apply Touch.then ?_ (State.packet_touch _ _ _ _) ?_); rotate_left; decide)
    | apply OutTouch.ite
    | ((with_reducible apply Touch.then ?_ (State.stamped_touch _ _) ?_); rotate_left; decide)

theorem execTracePacket_touch (s : State) :
    OutTouch 1064961 s (execTracePacket s) := by
  unfold execTracePacket
  repeat' first
    | with_reducible apply Touch.refl
    | with_reducible apply OutTouch.next
    | ((with_reducible apply Touch.then ?_ (State.acceptPacket_touch _ _) ?_); rotate_left; decide)
    | fail_if_no_progress ((with_reducible apply Touch.set_trc); rotate_left; decide)
    | split

theorem execTraceDrop_touch (src : Fin 68) (s : State) :
    OutTouch 1064961 s (execTraceDrop src s) := by
  unfold execTraceDrop
  repeat' first
    | with_reducible apply Touch.refl
    | with_reducible apply OutTouch.next
    | ((with_reducible apply Touch.then ?_ (State.dropPacket_touch _ _) ?_); rotate_left; decide)
    | apply OutTouch.ite

theorem execTraceOverflowPacket_touch (src : Fin 68) (s : State) :
    OutTouch 1064961 s (execTraceOverflowPacket src s) := by
  unfold execTraceOverflowPacket
  repeat' first
    | (with_reducible intro x; with_reducible refine Touch.cutP (m := 1064961) (s := s) (x := x) (fun hx => ?_) ?_; (clear_value x; rotate_left; subst x))
    | with_reducible apply Touch.refl
    | with_reducible assumption
    | with_reducible apply OutTouch.next
    | ((with_reducible apply Touch.then ?_ (State.flushBranch_touch _ _) ?_); rotate_left; decide)
    | ((with_reducible apply Touch.then ?_ (State.setFifo_touch _ _ _) ?_); rotate_left; decide)
    | ((with_reducible apply Touch.then ?_ (State.setLost_touch _ _ _) ?_); rotate_left; decide)
    | fail_if_no_progress ((with_reducible apply Touch.set_trc); rotate_left; decide)
    | apply OutTouch.ite

theorem execTraceClear_touch (s : State) :
    OutTouch 1048576 s (execTraceClear s) := by
  unfold execTraceClear
  repeat' first
    | with_reducible apply Touch.refl
    | with_reducible apply OutTouch.next
    | fail_if_no_progress ((with_reducible apply Touch.set_trc); rotate_left; decide)
    | apply OutTouch.ite

theorem execTraceClearEnd_touch (s : State) :
    OutTouch 1064961 s (execTraceClearEnd s) := by
  unfold execTraceClearEnd
  repeat' first
    | (with_reducible intro x; with_reducible refine Touch.cutP (m := 1064961) (s := s) (x := x) (fun hx => ?_) ?_; (clear_value x; rotate_left; subst x))
    | with_reducible apply Touch.refl
    | with_reducible assumption
    | with_reducible apply OutTouch.next
    | ((with_reducible apply Touch.then ?_ (State.trcMark_touch _) ?_); rotate_left; decide)
    | ((with_reducible apply Touch.then ?_ (State.put_touch _ _ _ _) ?_); rotate_left; decide)
    | fail_if_no_progress ((with_reducible apply Touch.set_trc); rotate_left; decide)
    | apply OutTouch.ite

theorem State.winLow_touch (s : State) (i : Nat) :
    Touch 1048577 s (State.winLow s i).2 := by
  unfold State.winLow
  repeat' first
    | with_reducible apply Touch.refl
    | fail_if_no_progress ((with_reducible apply Touch.set_trc); rotate_left; decide)

theorem State.winHigh_touch (s : State) (i : Nat) :
    Touch 1048577 s (State.winHigh s i).2 := by
  unfold State.winHigh
  repeat' first
    | with_reducible apply Touch.refl
    | fail_if_no_progress ((with_reducible apply Touch.set_trc); rotate_left; decide)
    | split

theorem execTraceWindowRead_touch (i : Fin 4096) (s : State) :
    OutTouch 1052673 s (execTraceWindowRead i s) := by
  unfold execTraceWindowRead
  repeat' first
    | (with_reducible intro x; with_reducible refine Touch.cutP (m := 1052673) (s := s) (x := x) (fun hx => ?_) ?_; (clear_value x; rotate_left; subst x))
    | (with_reducible intro x; with_reducible refine Touch.cutP (m := 1052673) (s := s) (x := x.2) (fun hx => ?_) ?_; (clear_value x; rotate_left; subst x))
    | with_reducible apply Touch.refl
    | with_reducible assumption
    | with_reducible apply OutTouch.next
    | ((with_reducible apply Touch.then ?_ (State.winLow_touch _ _) ?_); rotate_left; decide)
    | fail_if_no_progress ((with_reducible apply Touch.set_host); rotate_left; decide)

/-! LntOps -/

theorem State.setFwImage_touch (s : State) (i : Nat) (bs : List Byte) :
    Touch 262144 s (State.setFwImage s i bs) := by
  unfold State.setFwImage
  repeat' first
    | with_reducible apply Touch.refl
    | fail_if_no_progress ((with_reducible apply Touch.set_flash); rotate_left; decide)

theorem State.setFails_touch (s : State) (slot n : Nat) :
    Touch 262144 s (State.setFails s slot n) := by
  unfold State.setFails
  repeat' first
    | with_reducible apply Touch.refl
    | fail_if_no_progress ((with_reducible apply Touch.set_flash); rotate_left; decide)

theorem State.burn_touch (s : State) (setting index value : Nat) (digest : List Byte) :
    Touch 6 s (State.burn s setting index value digest) := by
  unfold State.burn
  repeat' first
    | with_reducible apply Touch.refl
    | fail_if_no_progress ((with_reducible apply Touch.set_part); rotate_left; decide)

theorem State.journalled_touch (s : State) (signer setting index value : Nat) (digest : List Byte) :
    Touch 131095 s (State.journalled s signer setting index value digest) := by
  unfold State.journalled
  repeat' first
    | (with_reducible intro x; with_reducible refine Touch.cutP (m := 131095) (s := s) (x := x) (fun hx => ?_) ?_; (clear_value x; rotate_left; subst x))
    | with_reducible apply Touch.refl
    | with_reducible assumption
    | ((with_reducible apply Touch.then ?_ (State.detect_touch _ _ _ _ _) ?_); rotate_left; decide)
    | ((with_reducible apply Touch.then ?_ (State.burn_touch _ _ _ _ _) ?_); rotate_left; decide)
    | fail_if_no_progress ((with_reducible apply Touch.set_part); rotate_left; decide)

theorem State.recoverEntry_touch (s : State) (k : Nat) :
    Touch 131095 s (State.recoverEntry s k) := by
  unfold State.recoverEntry
  repeat' first
    | (with_reducible intro x; with_reducible refine Touch.cutP (m := 131095) (s := s) (x := x) (fun hx => ?_) ?_; (clear_value x; rotate_left; subst x))
    | with_reducible apply Touch.refl
    | with_reducible assumption
    | ((with_reducible apply Touch.then ?_ (State.detect_touch _ _ _ _ _) ?_); rotate_left; decide)
    | ((with_reducible apply Touch.then ?_ (State.burn_touch _ _ _ _ _) ?_); rotate_left; decide)
    | ((with_reducible apply Touch.then ?_ (State.used_touch _) ?_); rotate_left; decide)
    | fail_if_no_progress ((with_reducible apply Touch.set_part); rotate_left; decide)
    | apply Touch.ite

theorem State.recoverJournal_touch (s : State) :
    Touch 131095 s (State.recoverJournal s) := by
  unfold State.recoverJournal
  repeat' first
    | with_reducible intro accT accX
    | with_reducible apply Touch.refl
    | ((with_reducible apply Touch.then ?_ (State.recoverEntry_touch _ _) ?_); rotate_left; decide)
    | with_reducible apply Touch.foldl'

theorem State.flashInjected_touch (s : State) :
    Touch 131091 s (State.flashInjected s) := by
  unfold State.flashInjected
  repeat' first
    | (with_reducible intro x; with_reducible refine Touch.cutP (m := 131091) (s := s) (x := x) (fun hx => ?_) ?_; (clear_value x; rotate_left; subst x))
    | with_reducible apply Touch.refl
    | with_reducible assumption
    | ((with_reducible apply Touch.then ?_ (State.detect_touch _ _ _ _ _) ?_); rotate_left; decide)
    | ((with_reducible apply Touch.then ?_ (State.useArmed_touch _ _ _ _) ?_); rotate_left; decide)
    | apply Touch.ite

theorem State.startFw_touch (s : State) (f : Nat) :
    Touch 393235 s (State.startFw s f) := by
  unfold State.startFw
  repeat' first
    | (with_reducible intro x; with_reducible refine Touch.cutP (m := 393235) (s := s) (x := x) (fun hx => ?_) ?_; (clear_value x; rotate_left; subst x))
    | with_reducible apply Touch.refl
    | with_reducible assumption
    | ((with_reducible apply Touch.then ?_ (State.detect_touch _ _ _ _ _) ?_); rotate_left; decide)
    | ((with_reducible apply Touch.then ?_ (State.put_touch _ _ _ _) ?_); rotate_left; decide)
    | ((with_reducible apply Touch.then ?_ (State.setReady_touch _ _ _) ?_); rotate_left; decide)
    | ((with_reducible apply Touch.then ?_ (State.setFails_touch _ _ _) ?_); rotate_left; decide)
    | fail_if_no_progress ((with_reducible apply Touch.set_lnt); rotate_left; decide)
    | apply Touch.ite

theorem State.appendLog_touch (s : State) (e : LogEvent) :
    Touch 131073 s (State.appendLog s e) := by
  unfold State.appendLog
  repeat' first
    | (with_reducible intro x; with_reducible refine Touch.cutP (m := 131073) (s := s) (x := x) (fun hx => ?_) ?_; (clear_value x; rotate_left; subst x))
    | with_reducible apply Touch.refl
    | with_reducible assumption
    | ((with_reducible apply Touch.then ?_ (State.setReg_touch _ _ _) ?_); rotate_left; decide)
    | fail_if_no_progress ((with_reducible apply Touch.set_lnt); rotate_left; decide)

theorem State.writeEvent_touch (s : State) (e : LogEvent) :
    Touch 131073 s (State.writeEvent s e) := by
  unfold State.writeEvent
  repeat' first
    | with_reducible apply Touch.refl
    | ((with_reducible apply Touch.then ?_ (State.appendLog_touch _ _) ?_); rotate_left; decide)
    | fail_if_no_progress ((with_reducible apply Touch.set_lnt); rotate_left; decide)
    | split

theorem State.setRailOk_touch (s : State) (r : Nat) (v : Bool) :
    Touch 2097153 s (State.setRailOk s r v) := by
  unfold State.setRailOk
  repeat' first
    | (with_reducible intro x; with_reducible refine Touch.cutP (m := 2097153) (s := s) (x := x) (fun hx => ?_) ?_; (clear_value x; rotate_left; subst x))
    | with_reducible apply Touch.refl
    | with_reducible assumption
    | ((with_reducible apply Touch.then ?_ (State.put_touch _ _ _ _) ?_); rotate_left; decide)
    | fail_if_no_progress ((with_reducible apply Touch.set_pwr); rotate_left; decide)

theorem State.tripEnd_touch (s : State) :
    Touch 2097153 s (State.tripEnd s) := by
  unfold State.tripEnd
  repeat' first
    | (with_reducible intro x; with_reducible refine Touch.cutP (m := 2097153) (s := s) (x := x) (fun hx => ?_) ?_; (clear_value x; rotate_left; subst x))
    | (with_reducible intro x; subst x)
    | with_reducible lift_lets -underBinder
    | with_reducible apply Touch.refl
    | with_reducible assumption
    | with_reducible apply Touch.ite
    | ((with_reducible apply Touch.then ?_ (State.put_touch _ _ _ _) ?_); rotate_left; decide)
    | fail_if_no_progress ((with_reducible apply Touch.set_pwr); rotate_left; decide)
    | split
    | apply Touch.ite

theorem State.thermHold_touch (s : State) :
    Touch 131073 s (State.thermHold s) := by
  unfold State.thermHold
  repeat' first
    | with_reducible apply Touch.refl
    | ((with_reducible apply Touch.then ?_ (State.put_touch _ _ _ _) ?_); rotate_left; decide)
    | fail_if_no_progress ((with_reducible apply Touch.set_lnt); rotate_left; decide)

theorem State.thermalHalt_touch (s : State) :
    Touch 131344 s (State.thermalHalt s) := by
  unfold State.thermalHalt
  repeat' first
    | (with_reducible intro x; with_reducible refine Touch.cutP (m := 131344) (s := s) (x := x) (fun hx => ?_) ?_; (clear_value x; rotate_left; subst x))
    | with_reducible apply Touch.refl
    | with_reducible assumption
    | ((with_reducible apply Touch.then ?_ (State.floodFault_touch _ _) ?_); rotate_left; decide)
    | ((with_reducible apply Touch.then ?_ (State.haltAtEnd_touch _) ?_); rotate_left; decide)
    | fail_if_no_progress ((with_reducible apply Touch.set_lnt); rotate_left; decide)
    | apply Touch.ite

theorem State.trip_touch (s : State) :
    Touch 3932153 s (State.trip s) := by
  unfold State.trip
  repeat' first
    | with_reducible apply Touch.refl
    | ((with_reducible apply Touch.then ?_ (State.deviceReset_touch _ _) ?_); rotate_left; decide)
    | ((with_reducible apply Touch.then ?_ (State.put_touch _ _ _ _) ?_); rotate_left; decide)
    | ((with_reducible apply Touch.then ?_ (State.raise_touch _ _ _) ?_); rotate_left; decide)

theorem State.lanternReset_touch (s : State) :
    Touch 3932153 s (State.lanternReset s) := by
  unfold State.lanternReset
  repeat' first
    | with_reducible apply Touch.refl
    | ((with_reducible apply Touch.then ?_ (State.deviceReset_touch _ _) ?_); rotate_left; decide)
    | ((with_reducible apply Touch.then ?_ (State.put_touch _ _ _ _) ?_); rotate_left; decide)

theorem State.railSample_touch (s : State) (i v : Nat) :
    Touch 2097153 s (State.railSample s i v) := by
  unfold State.railSample
  repeat' first
    | (with_reducible intro x; with_reducible refine Touch.cutP (m := 2097153) (s := s) (x := x) (fun hx => ?_) ?_; (clear_value x; rotate_left; subst x))
    | with_reducible apply Touch.refl
    | with_reducible assumption
    | ((with_reducible apply Touch.then ?_ (State.put_touch _ _ _ _) ?_); rotate_left; decide)
    | ((with_reducible apply Touch.then ?_ (State.setRailOk_touch _ _ _) ?_); rotate_left; decide)
    | ((with_reducible apply Touch.then ?_ (State.tripEnd_touch _) ?_); rotate_left; decide)
    | split

theorem State.warnCrossed_touch (s : State) (i : Nat) (high : Bool) :
    Touch 131091 s (State.warnCrossed s i high) := by
  unfold State.warnCrossed
  repeat' first
    | (with_reducible intro x; with_reducible refine Touch.cutP (m := 131091) (s := s) (x := x) (fun hx => ?_) ?_; (clear_value x; rotate_left; subst x))
    | with_reducible apply Touch.refl
    | with_reducible assumption
    | ((with_reducible apply Touch.then ?_ (State.detect_touch _ _ _ _ _) ?_); rotate_left; decide)
    | ((with_reducible apply Touch.then ?_ (State.platformEvent_touch _ _ _ _) ?_); rotate_left; decide)
    | apply Touch.ite

theorem State.takeSample_touch (s : State) (i v : Nat) :
    Touch 3932155 s (State.takeSample s i v) := by
  unfold State.takeSample
  repeat' first
    | with_reducible apply Touch.refl
    | with_reducible assumption
    | ((with_reducible apply Touch.then ?_ (State.detect_touch _ _ _ _ _) ?_); rotate_left; decide)
    | ((with_reducible apply Touch.then ?_ (State.railSample_touch _ _ _) ?_); rotate_left; decide)
    | ((with_reducible apply Touch.then ?_ (State.trip_touch _) ?_); rotate_left; decide)
    | ((with_reducible apply Touch.then ?_ (State.thermalHalt_touch _) ?_); rotate_left; decide)
    | ((with_reducible apply Touch.then ?_ (State.put_touch _ _ _ _) ?_); rotate_left; decide)
    | ((with_reducible apply Touch.then ?_ (State.thermHold_touch _) ?_); rotate_left; decide)
    | fail_if_no_progress ((with_reducible apply Touch.set_lnt); rotate_left; decide)
    | split
    | apply Touch.ite

theorem State.recordNoc_touch (s : State) (n node src : Nat) :
    Touch 131091 s (State.recordNoc s n node src) := by
  unfold State.recordNoc
  repeat' first
    | (with_reducible intro x; with_reducible refine Touch.cutP (m := 131091) (s := s) (x := x) (fun hx => ?_) ?_; (clear_value x; rotate_left; subst x))
    | with_reducible apply Touch.refl
    | with_reducible assumption
    | ((with_reducible apply Touch.then ?_ (State.detect_touch _ _ _ _ _) ?_); rotate_left; decide)
    | ((with_reducible apply Touch.then ?_ (State.put_touch _ _ _ _) ?_); rotate_left; decide)
    | ((with_reducible apply Touch.then ?_ (State.raise_touch _ _ _) ?_); rotate_left; decide)
    | apply Touch.ite

theorem State.fireDm_touch (s : State) (g n : Nat) :
    Touch 131091 s (State.fireDm s g n) := by
  unfold State.fireDm
  repeat' first
    | (with_reducible intro x; with_reducible refine Touch.cutP (m := 131091) (s := s) (x := x) (fun hx => ?_) ?_; (clear_value x; rotate_left; subst x))
    | with_reducible apply Touch.refl
    | with_reducible assumption
    | ((with_reducible apply Touch.then ?_ (State.recordDm_touch _ _ _ _ _ _ _) ?_); rotate_left; decide)
    | ((with_reducible apply Touch.then ?_ (State.bump_touch _ _ _ _) ?_); rotate_left; decide)
    | ((with_reducible apply Touch.then ?_ (State.put_touch _ _ _ _) ?_); rotate_left; decide)
    | apply Touch.ite

theorem State.fireDs_touch (s : State) (c n : Nat) :
    Touch 131091 s (State.fireDs s c n) := by
  unfold State.fireDs
  repeat' first
    | (with_reducible intro x; with_reducible refine Touch.cutP (m := 131091) (s := s) (x := x) (fun hx => ?_) ?_; (clear_value x; rotate_left; subst x))
    | with_reducible apply Touch.refl
    | with_reducible assumption
    | ((with_reducible apply Touch.then ?_ (State.detect_touch _ _ _ _ _) ?_); rotate_left; decide)
    | ((with_reducible apply Touch.then ?_ (State.bump_touch _ _ _ _) ?_); rotate_left; decide)
    | split

theorem State.firePsg_touch (s : State) (p n : Nat) :
    Touch 131091 s (State.firePsg s p n) := by
  unfold State.firePsg
  repeat' first
    | (with_reducible intro x; with_reducible refine Touch.cutP (m := 131091) (s := s) (x := x) (fun hx => ?_) ?_; (clear_value x; rotate_left; subst x))
    | with_reducible apply Touch.refl
    | with_reducible assumption
    | ((with_reducible apply Touch.then ?_ (State.detect_touch _ _ _ _ _) ?_); rotate_left; decide)
    | ((with_reducible apply Touch.then ?_ (State.recordPsg_touch _ _ _ _) ?_); rotate_left; decide)
    | ((with_reducible apply Touch.then ?_ (State.bump_touch _ _ _ _) ?_); rotate_left; decide)
    | apply Touch.ite

theorem State.fireSched_touch (s : State) (n u : Nat) :
    Touch 147475 s (State.fireSched s n u) := by
  unfold State.fireSched
  repeat' first
    | (with_reducible intro x; with_reducible refine Touch.cutP (m := 147475) (s := s) (x := x) (fun hx => ?_) ?_; (clear_value x; rotate_left; subst x))
    | with_reducible apply Touch.refl
    | with_reducible assumption
    | ((with_reducible apply Touch.then ?_ (State.detect_touch _ _ _ _ _) ?_); rotate_left; decide)
    | ((with_reducible apply Touch.then ?_ (State.raise_touch _ _ _) ?_); rotate_left; decide)
    | ((with_reducible apply Touch.then ?_ (State.cicEvent_touch _ _) ?_); rotate_left; decide)
    | ((with_reducible apply Touch.then ?_ (State.haltAtEnd_touch _) ?_); rotate_left; decide)
    | split
    | apply Touch.ite

theorem State.fireRim_touch (s : State) (n u : Nat) :
    Touch 131091 s (State.fireRim s n u) := by
  unfold State.fireRim
  repeat' first
    | (with_reducible intro x; with_reducible refine Touch.cutP (m := 131091) (s := s) (x := x) (fun hx => ?_) ?_; (clear_value x; rotate_left; subst x))
    | with_reducible apply Touch.refl
    | with_reducible assumption
    | ((with_reducible apply Touch.then ?_ (State.detect_touch _ _ _ _ _) ?_); rotate_left; decide)
    | ((with_reducible apply Touch.then ?_ (State.bump_touch _ _ _ _) ?_); rotate_left; decide)
    | ((with_reducible apply Touch.then ?_ (State.raise_touch _ _ _) ?_); rotate_left; decide)
    | split

theorem State.fireTb_touch (s : State) (n : Nat) :
    Touch 131091 s (State.fireTb s n) := by
  unfold State.fireTb
  repeat' first
    | (with_reducible intro x; with_reducible refine Touch.cutP (m := 131091) (s := s) (x := x) (fun hx => ?_) ?_; (clear_value x; rotate_left; subst x))
    | with_reducible apply Touch.refl
    | with_reducible assumption
    | ((with_reducible apply Touch.then ?_ (State.detect_touch _ _ _ _ _) ?_); rotate_left; decide)
    | ((with_reducible apply Touch.then ?_ (State.raise_touch _ _ _) ?_); rotate_left; decide)
    | split

theorem State.fireLantern_touch (s : State) (n u : Nat) :
    Touch 3932155 s (State.fireLantern s n u) := by
  unfold State.fireLantern
  repeat' first
    | (with_reducible intro x; with_reducible refine Touch.cutP (m := 3932155) (s := s) (x := x) (fun hx => ?_) ?_; (clear_value x; rotate_left; subst x))
    | with_reducible apply Touch.refl
    | with_reducible assumption
    | ((with_reducible apply Touch.then ?_ (State.detect_touch _ _ _ _ _) ?_); rotate_left; decide)
    | ((with_reducible apply Touch.then ?_ (State.trip_touch _) ?_); rotate_left; decide)
    | ((with_reducible apply Touch.then ?_ (State.lanternReset_touch _) ?_); rotate_left; decide)
    | ((with_reducible apply Touch.then ?_ (State.thermalHalt_touch _) ?_); rotate_left; decide)
    | apply Touch.ite

theorem State.fireDetector_touch (s : State) (block n u : Nat) :
    Touch 3932155 s (State.fireDetector s block n u) := by
  unfold State.fireDetector
  repeat' first
    | with_reducible apply Touch.refl
    | ((with_reducible apply Touch.then ?_ (State.detect_touch _ _ _ _ _) ?_); rotate_left; decide)
    | ((with_reducible apply Touch.then ?_ (State.fireLantern_touch _ _ _) ?_); rotate_left; decide)
    | ((with_reducible apply Touch.then ?_ (State.fireSched_touch _ _ _) ?_); rotate_left; decide)
    | ((with_reducible apply Touch.then ?_ (State.record_touch _ _ _ _) ?_); rotate_left; decide)
    | ((with_reducible apply Touch.then ?_ (State.recordSched_touch _ _ _ _ _ _) ?_); rotate_left; decide)
    | ((with_reducible apply Touch.then ?_ (State.fireDm_touch _ _ _) ?_); rotate_left; decide)
    | ((with_reducible apply Touch.then ?_ (State.firePsg_touch _ _ _) ?_); rotate_left; decide)
    | ((with_reducible apply Touch.then ?_ (State.fireRim_touch _ _ _) ?_); rotate_left; decide)
    | ((with_reducible apply Touch.then ?_ (State.hostErr_touch _ _ _ _ _) ?_); rotate_left; decide)
    | ((with_reducible apply Touch.then ?_ (State.latch_touch _ _ _) ?_); rotate_left; decide)
    | ((with_reducible apply Touch.then ?_ (State.recordNoc_touch _ _ _ _) ?_); rotate_left; decide)
    | ((with_reducible apply Touch.then ?_ (State.fireDs_touch _ _ _) ?_); rotate_left; decide)
    | ((with_reducible apply Touch.then ?_ (State.fireTb_touch _ _) ?_); rotate_left; decide)
    | ((with_reducible apply Touch.then ?_ (State.recordLtc_touch _ _) ?_); rotate_left; decide)
    | ((with_reducible apply Touch.then ?_ (State.bump_touch _ _ _ _) ?_); rotate_left; decide)
    | split

theorem State.atZero_touch {m : Nat} {s0 s : State} (f : State → State) (h : Touch m s0 s) (hf : ∀ t, Touch m t (f t))
    (hm : m.testBit 4 = true) : Touch m s0 (State.atZero s f) := by
  unfold State.atZero
  exact Touch.set_sched ((Touch.set_sched h hm).then (hf _) (Nat.and_self m)) hm

theorem State.extend_touch (s : State) :
    Touch 131072 s (State.extend s) := by
  unfold State.extend
  repeat' first
    | with_reducible apply Touch.refl
    | fail_if_no_progress ((with_reducible apply Touch.set_lnt); rotate_left; decide)

theorem State.giveHost_touch (s : State) (c : CmdId) (buf : HostBuf) (bs : List Byte) (r0 r1 : Dword) :
    Touch 5123 s (State.giveHost s c buf bs r0 r1) := by
  unfold State.giveHost
  repeat' first
    | with_reducible apply Touch.refl
    | ((with_reducible apply Touch.then ?_ (State.complete_touch _ _ _ _ _ _) ?_); rotate_left; decide)
    | ((with_reducible apply Touch.then ?_ (State.toHost_touch _ _ _) ?_); rotate_left; decide)
    | split

/-! Lantern -/

theorem execGetInfo_touch (h : Hdr) (buf : HostBuf) (s : State) :
    OutTouch 5123 s (execGetInfo h buf s) := by
  unfold execGetInfo
  repeat' first
    | ((with_reducible apply State.command_touch); rotate_left; decide)
    | with_reducible intro cmdC accT
    | with_reducible apply Touch.refl
    | ((with_reducible apply Touch.then ?_ (State.complete_touch _ _ _ _ _ _) ?_); rotate_left; decide)
    | ((with_reducible apply Touch.then ?_ (State.giveHost_touch _ _ _ _ _ _) ?_); rotate_left; decide)
    | apply Touch.ite

theorem State.programSlot_touch (s : State) (slot : Nat) (bs : List Byte) (readBack : Bool) :
    Touch 262144 s (State.programSlot s slot bs readBack) := by
  unfold State.programSlot
  repeat' first
    | with_reducible apply Touch.refl
    | ((with_reducible apply Touch.then ?_ (State.setFwImage_touch _ _ _) ?_); rotate_left; decide)

theorem State.activateSlot_touch (s : State) (slot : Nat) :
    Touch 262145 s (State.activateSlot s slot) := by
  unfold State.activateSlot
  repeat' first
    | (with_reducible intro x; with_reducible refine Touch.cutP (m := 262145) (s := s) (x := x) (fun hx => ?_) ?_; (clear_value x; rotate_left; subst x))
    | with_reducible apply Touch.refl
    | with_reducible assumption
    | ((with_reducible apply Touch.then ?_ (State.raise_touch _ _ _) ?_); rotate_left; decide)
    | ((with_reducible apply Touch.then ?_ (State.setFails_touch _ _ _) ?_); rotate_left; decide)
    | fail_if_no_progress ((with_reducible apply Touch.set_flash); rotate_left; decide)

theorem State.fwUpdate_touch (s : State) (c : CmdId) (slot : Nat) (activate : Bool) (bs : List Byte) (readBack : Bool) :
    Touch 267267 s (State.fwUpdate s c slot activate bs readBack) := by
  unfold State.fwUpdate
  repeat' first
    | (with_reducible intro x; with_reducible refine Touch.cutP (m := 267267) (s := s) (x := x) (fun hx => ?_) ?_; (clear_value x; rotate_left; subst x))
    | with_reducible apply Touch.refl
    | with_reducible assumption
    | ((with_reducible apply Touch.then ?_ (State.complete_touch _ _ _ _ _ _) ?_); rotate_left; decide)
    | ((with_reducible apply Touch.then ?_ (State.activateSlot_touch _ _) ?_); rotate_left; decide)
    | ((with_reducible apply Touch.then ?_ (State.programSlot_touch _ _ _ _) ?_); rotate_left; decide)
    | apply Touch.ite

theorem execFwUpdate_touch (h : Hdr) (slot flags : BitVec 8) (buf : HostBuf) (readBack : Bool) (s : State) :
    OutTouch 267267 s (execFwUpdate h slot flags buf readBack s) := by
  unfold execFwUpdate
  repeat' first
    | ((with_reducible apply State.command_touch); rotate_left; decide)
    | with_reducible intro cmdC accT
    | with_reducible apply Touch.refl
    | ((with_reducible apply Touch.then ?_ (State.complete_touch _ _ _ _ _ _) ?_); rotate_left; decide)
    | ((with_reducible apply Touch.then ?_ (State.fwUpdate_touch _ _ _ _ _ _) ?_); rotate_left; decide)
    | split

theorem execAttest_touch (h : Hdr) (nonce : BitVec 256) (buf : HostBuf) (s : State) :
    OutTouch 136195 s (execAttest h nonce buf s) := by
  unfold execAttest
  repeat' first
    | ((with_reducible apply State.command_touch); rotate_left; decide)
    | with_reducible intro cmdC accT
    | with_reducible apply Touch.refl
    | ((with_reducible apply Touch.then ?_ (State.complete_touch _ _ _ _ _ _) ?_); rotate_left; decide)
    | ((with_reducible apply Touch.then ?_ (State.giveHost_touch _ _ _ _ _ _) ?_); rotate_left; decide)
    | ((with_reducible apply Touch.then ?_ (State.extend_touch _) ?_); rotate_left; decide)
    | apply Touch.ite

theorem execLogRead_touch (h : Hdr) (start : Word) (count : BitVec 16) (buf : HostBuf) (s : State) :
    OutTouch 5123 s (execLogRead h start count buf s) := by
  unfold execLogRead
  repeat' first
    | ((with_reducible apply State.command_touch); rotate_left; decide)
    | with_reducible intro cmdC accT
    | with_reducible apply Touch.refl
    | ((with_reducible apply Touch.then ?_ (State.complete_touch _ _ _ _ _ _) ?_); rotate_left; decide)
    | ((with_reducible apply Touch.then ?_ (State.giveHost_touch _ _ _ _ _ _) ?_); rotate_left; decide)
    | apply Touch.ite

theorem State.noteInject_touch (s : State) (det unit : Nat) (fault : Bool) :
    Touch 131091 s (State.noteInject s det unit fault) := by
  unfold State.noteInject
  repeat' first
    | with_reducible apply Touch.refl
    | ((with_reducible apply Touch.then ?_ (State.detect_touch _ _ _ _ _) ?_); rotate_left; decide)
    | ((with_reducible apply Touch.then ?_ (State.setReg_touch _ _ _) ?_); rotate_left; decide)

theorem execInjectStatus_touch (h : Hdr) (det : Word) (unit : BitVec 16) (s : State) :
    OutTouch 3932155 s (execInjectStatus h det unit s) := by
  unfold execInjectStatus
  repeat' first
    | (with_reducible intro x; with_reducible refine Touch.cutP (m := 3932155) (s := accT) (x := x) (fun hx => ?_) ?_; (clear_value x; rotate_left; subst x))
    | ((with_reducible apply State.atZero_touch); rotate_right; decide)
    | with_reducible intro accT
    | ((with_reducible apply State.command_touch); rotate_left; decide)
    | with_reducible apply Touch.refl
    | with_reducible assumption
    | ((with_reducible apply Touch.then ?_ (State.fireDetector_touch _ _ _ _) ?_); rotate_left; decide)
    | ((with_reducible apply Touch.then ?_ (State.fireLantern_touch _ _ _) ?_); rotate_left; decide)
    | ((with_reducible apply Touch.then ?_ (State.complete_touch _ _ _ _ _ _) ?_); rotate_left; decide)
    | ((with_reducible apply Touch.then ?_ (State.noteInject_touch _ _ _ _) ?_); rotate_left; decide)
    | split
    | apply Touch.ite

theorem execInjectFault_touch (h : Hdr) (det : Word) (unit : BitVec 16) (s : State) :
    OutTouch 136211 s (execInjectFault h det unit s) := by
  unfold execInjectFault
  repeat' first
    | (with_reducible intro x; with_reducible refine Touch.cutP (m := 136211) (s := accT) (x := x) (fun hx => ?_) ?_; (clear_value x; rotate_left; subst x))
    | ((with_reducible apply State.command_touch); rotate_left; decide)
    | with_reducible intro cmdC accT
    | with_reducible apply Touch.refl
    | with_reducible assumption
    | ((with_reducible apply Touch.then ?_ (State.complete_touch _ _ _ _ _ _) ?_); rotate_left; decide)
    | ((with_reducible apply Touch.then ?_ (State.noteInject_touch _ _ _ _) ?_); rotate_left; decide)
    | fail_if_no_progress ((with_reducible apply Touch.set_lnt); rotate_left; decide)
    | split

theorem State.revokeStaged_touch (s : State) (index : Nat) :
    Touch 22275 s (State.revokeStaged s index) := by
  unfold State.revokeStaged
  repeat' first
    | (with_reducible intro x; with_reducible refine Touch.cutP (m := 22275) (s := s) (x := x) (fun hx => ?_) ?_; (clear_value x; rotate_left; subst x))
    | with_reducible apply Touch.refl
    | with_reducible assumption
    | ((with_reducible apply Touch.then ?_ (State.setImgState_touch _ _) ?_); rotate_left; decide)
    | ((with_reducible apply Touch.then ?_ (State.setReason_touch _ _ _) ?_); rotate_left; decide)
    | ((with_reducible apply Touch.then ?_ (State.completeOpt_touch _ _ _ _ _ _) ?_); rotate_left; decide)
    | fail_if_no_progress ((with_reducible apply Touch.set_img); rotate_left; decide)
    | apply Touch.ite

theorem State.fuseWrite_touch {m : Nat} (s : State) (c : CmdId) (setting index : Nat) (buf : HostBuf) (after : State → State)
    (hf : ∀ t, Touch m t (after t)) (hm : 136215 &&& m = 136215) : Touch m s (State.fuseWrite s c setting index buf after) := by
  have sub : ∀ a, a &&& 136215 = a → a &&& m = a := fun a h => by rw [← h, Nat.and_assoc, hm]
  have done : ∀ (t : State) st a b r, Touch m t (t.complete c st a b r) := fun t st a b r =>
    (State.complete_touch t c st a b r).mono (sub _ (by decide))
  have self : m &&& m = m := Nat.and_self m
  unfold State.fuseWrite
  split
  · exact done _ _ _ _ _
  · split
    · exact done _ _ _ _ _
    · split
      · exact done _ _ _ _ _
      · split
        · exact done _ _ _ _ _
        · exact ((((State.journalled_touch _ _ _ _ _ _).mono (sub _ (by decide))).then (hf _) self).then (done _ _ _ _ _) self)

theorem execFuseSvn_touch (h : Hdr) (index : BitVec 8) (buf : HostBuf) (s : State) :
    OutTouch 136215 s (execFuseSvn h index buf s) := by
  unfold execFuseSvn
  repeat' first
    | ((with_reducible apply State.fuseWrite_touch); rotate_left; decide)
    | with_reducible intro accT
    | exact Touch.refl _ _
    | ((with_reducible apply State.command_touch); rotate_left; decide)
    | with_reducible intro cmdC accT
    | with_reducible apply Touch.refl
    | with_reducible assumption
    | with_reducible apply OutTouch.ite
    | with_reducible apply OutTouch.next
    | with_reducible exact OutTouch.fault
    | with_reducible apply Touch.ite
    | split
    | apply Touch.ite
    | apply OutTouch.ite

theorem execOwnerProgram_touch (h : Hdr) (index : BitVec 8) (buf : HostBuf) (s : State) :
    OutTouch 136215 s (execOwnerProgram h index buf s) := by
  unfold execOwnerProgram
  repeat' first
    | ((with_reducible apply State.fuseWrite_touch); rotate_left; decide)
    | with_reducible intro accT
    | exact Touch.refl _ _
    | ((with_reducible apply State.command_touch); rotate_left; decide)
    | with_reducible intro cmdC accT
    | with_reducible apply Touch.refl
    | with_reducible assumption
    | with_reducible apply OutTouch.ite
    | with_reducible apply OutTouch.next
    | with_reducible exact OutTouch.fault
    | with_reducible apply Touch.ite
    | split
    | apply Touch.ite
    | apply OutTouch.ite

theorem execOwnerRevoke_touch (h : Hdr) (index : BitVec 8) (buf : HostBuf) (s : State) :
    OutTouch 153367 s (execOwnerRevoke h index buf s) := by
  unfold execOwnerRevoke
  repeat' first
    | ((with_reducible apply State.fuseWrite_touch); rotate_left; decide)
    | with_reducible intro accT
    | ((with_reducible apply State.command_touch); rotate_left; decide)
    | with_reducible apply Touch.refl
    | with_reducible assumption
    | with_reducible apply OutTouch.ite
    | with_reducible apply OutTouch.next
    | with_reducible exact OutTouch.fault
    | with_reducible apply Touch.ite
    | ((with_reducible apply Touch.then ?_ (State.revokeStaged_touch _ _) ?_); rotate_left; decide)
    | split
    | apply Touch.ite
    | apply OutTouch.ite

theorem execBedrockSelect_touch (h : Hdr) (index : BitVec 8) (buf : HostBuf) (s : State) :
    OutTouch 136215 s (execBedrockSelect h index buf s) := by
  unfold execBedrockSelect
  repeat' first
    | ((with_reducible apply State.fuseWrite_touch); rotate_left; decide)
    | with_reducible intro accT
    | exact Touch.refl _ _
    | ((with_reducible apply State.command_touch); rotate_left; decide)
    | with_reducible intro cmdC accT
    | with_reducible apply Touch.refl
    | with_reducible assumption
    | with_reducible apply OutTouch.ite
    | with_reducible apply OutTouch.next
    | with_reducible exact OutTouch.fault
    | with_reducible apply Touch.ite
    | split
    | apply Touch.ite
    | apply OutTouch.ite

theorem execLaneReversal_touch (h : Hdr) (index : BitVec 8) (buf : HostBuf) (s : State) :
    OutTouch 136215 s (execLaneReversal h index buf s) := by
  unfold execLaneReversal
  repeat' first
    | ((with_reducible apply State.fuseWrite_touch); rotate_left; decide)
    | with_reducible intro accT
    | exact Touch.refl _ _
    | ((with_reducible apply State.command_touch); rotate_left; decide)
    | with_reducible intro cmdC accT
    | with_reducible apply Touch.refl
    | with_reducible assumption
    | with_reducible apply OutTouch.ite
    | with_reducible apply OutTouch.next
    | with_reducible exact OutTouch.fault
    | with_reducible apply Touch.ite
    | split
    | apply Touch.ite
    | apply OutTouch.ite

theorem execDebugLock_touch (h : Hdr) (index : BitVec 8) (buf : HostBuf) (s : State) :
    OutTouch 136215 s (execDebugLock h index buf s) := by
  unfold execDebugLock
  repeat' first
    | ((with_reducible apply State.fuseWrite_touch); rotate_left; decide)
    | with_reducible intro accT
    | exact Touch.refl _ _
    | ((with_reducible apply State.command_touch); rotate_left; decide)
    | with_reducible intro cmdC accT
    | with_reducible apply Touch.refl
    | with_reducible assumption
    | with_reducible apply OutTouch.ite
    | with_reducible apply OutTouch.next
    | with_reducible exact OutTouch.fault
    | with_reducible apply Touch.ite
    | split
    | apply Touch.ite
    | apply OutTouch.ite

theorem State.setKek_touch (s : State) (i : Nat) (k : List Byte) :
    Touch 524288 s (State.setKek s i k) := by
  unfold State.setKek
  repeat' first
    | with_reducible apply Touch.refl
    | fail_if_no_progress ((with_reducible apply Touch.set_key); rotate_left; decide)

theorem State.storeKek_touch (s : State) (c : CmdId) (index : Nat) (bs : List Byte) :
    Touch 529411 s (State.storeKek s c index bs) := by
  unfold State.storeKek
  repeat' first
    | with_reducible apply Touch.refl
    | ((with_reducible apply Touch.then ?_ (State.complete_touch _ _ _ _ _ _) ?_); rotate_left; decide)
    | ((with_reducible apply Touch.then ?_ (State.setKek_touch _ _ _) ?_); rotate_left; decide)
    | ((with_reducible apply Touch.then ?_ (State.used_touch _) ?_); rotate_left; decide)
    | split

theorem execStoreKek_touch (h : Hdr) (index : BitVec 8) (buf : HostBuf) (s : State) :
    OutTouch 529411 s (execStoreKek h index buf s) := by
  unfold execStoreKek
  repeat' first
    | ((with_reducible apply State.command_touch); rotate_left; decide)
    | with_reducible intro cmdC accT
    | with_reducible apply Touch.refl
    | ((with_reducible apply Touch.then ?_ (State.complete_touch _ _ _ _ _ _) ?_); rotate_left; decide)
    | ((with_reducible apply Touch.then ?_ (State.storeKek_touch _ _ _ _) ?_); rotate_left; decide)
    | split

theorem execBootRom_touch (s : State) :
    OutTouch 393239 s (execBootRom s) := by
  unfold execBootRom
  repeat' first
    | (with_reducible intro x; with_reducible refine Touch.cutP (m := 393239) (s := s) (x := x) (fun hx => ?_) ?_; (clear_value x; rotate_left; subst x))
    | with_reducible lift_lets -underBinder
    | with_reducible apply Touch.refl
    | with_reducible assumption
    | with_reducible apply OutTouch.next
    | ((with_reducible apply Touch.then ?_ (State.startFw_touch _ _) ?_); rotate_left; decide)
    | ((with_reducible apply Touch.then ?_ (State.flashInjected_touch _) ?_); rotate_left; decide)
    | ((with_reducible apply Touch.then ?_ (State.put_touch _ _ _ _) ?_); rotate_left; decide)
    | ((with_reducible apply Touch.then ?_ (State.recoverJournal_touch _) ?_); rotate_left; decide)
    | split

theorem execWatchdogExpiry_touch (s : State) :
    OutTouch 131073 s (execWatchdogExpiry s) := by
  unfold execWatchdogExpiry
  repeat' first
    | (with_reducible intro x; with_reducible refine Touch.cutP (m := 131073) (s := s) (x := x) (fun hx => ?_) ?_; (clear_value x; rotate_left; subst x))
    | with_reducible apply Touch.refl
    | with_reducible assumption
    | with_reducible apply OutTouch.next
    | ((with_reducible apply Touch.then ?_ (State.put_touch _ _ _ _) ?_); rotate_left; decide)
    | ((with_reducible apply Touch.then ?_ (State.setReady_touch _ _ _) ?_); rotate_left; decide)
    | fail_if_no_progress ((with_reducible apply Touch.set_lnt); rotate_left; decide)

theorem execFailureCountClear_touch (s : State) :
    OutTouch 262144 s (execFailureCountClear s) := by
  unfold execFailureCountClear
  repeat' first
    | with_reducible apply Touch.refl
    | with_reducible apply OutTouch.next
    | ((with_reducible apply Touch.then ?_ (State.setFails_touch _ _ _) ?_); rotate_left; decide)
    | apply OutTouch.ite

theorem execSensorSample_touch (i : Sensor) (sample : Option (BitVec 16)) (s : State) :
    OutTouch 3932155 s (execSensorSample i sample s) := by
  unfold execSensorSample
  repeat' first
    | (with_reducible intro x; with_reducible refine Touch.cutP (m := 3932155) (s := s) (x := x) (fun hx => ?_) ?_; (clear_value x; rotate_left; subst x))
    | with_reducible apply Touch.refl
    | with_reducible assumption
    | with_reducible apply OutTouch.next
    | ((with_reducible apply Touch.then ?_ (State.takeSample_touch _ _ _) ?_); rotate_left; decide)
    | ((with_reducible apply Touch.then ?_ (State.detect_touch _ _ _ _ _) ?_); rotate_left; decide)
    | ((with_reducible apply Touch.then ?_ (State.put_touch _ _ _ _) ?_); rotate_left; decide)
    | ((with_reducible apply Touch.then ?_ (State.thermHold_touch _) ?_); rotate_left; decide)
    | fail_if_no_progress ((with_reducible apply Touch.set_lnt); rotate_left; decide)
    | split
    | apply OutTouch.ite

theorem execRailFault_touch (rail : Fin 6) (s : State) :
    OutTouch 3932155 s (execRailFault rail s) := by
  unfold execRailFault
  repeat' first
    | with_reducible apply Touch.refl
    | with_reducible apply OutTouch.next
    | ((with_reducible apply Touch.then ?_ (State.detect_touch _ _ _ _ _) ?_); rotate_left; decide)
    | ((with_reducible apply Touch.then ?_ (State.lanternReset_touch _) ?_); rotate_left; decide)
    | ((with_reducible apply Touch.then ?_ (State.setRailOk_touch _ _ _) ?_); rotate_left; decide)

theorem execRefclkLoss_touch (s : State) :
    OutTouch 3932155 s (execRefclkLoss s) := by
  unfold execRefclkLoss
  repeat' first
    | with_reducible apply Touch.refl
    | with_reducible apply OutTouch.next
    | ((with_reducible apply Touch.then ?_ (State.detect_touch _ _ _ _ _) ?_); rotate_left; decide)
    | ((with_reducible apply Touch.then ?_ (State.lanternReset_touch _) ?_); rotate_left; decide)

theorem execVauxLoss_touch (s : State) :
    OutTouch 3932153 s (execVauxLoss s) := by
  unfold execVauxLoss
  repeat' first
    | (with_reducible intro x; with_reducible refine Touch.cutP (m := 3932153) (s := s) (x := x) (fun hx => ?_) ?_; (clear_value x; rotate_left; subst x))
    | with_reducible apply Touch.refl
    | with_reducible assumption
    | with_reducible apply OutTouch.next
    | ((with_reducible apply Touch.then ?_ (State.afterReset_touch _) ?_); rotate_left; decide)
    | fail_if_no_progress ((with_reducible apply Touch.set_key_pwr); rotate_left; decide; decide)

theorem execVcoreReview_touch (s : State) :
    OutTouch 2097153 s (execVcoreReview s) := by
  unfold execVcoreReview
  repeat' first
    | with_reducible apply Touch.refl
    | with_reducible apply OutTouch.next
    | ((with_reducible apply Touch.then ?_ (State.put_touch _ _ _ _) ?_); rotate_left; decide)
    | fail_if_no_progress ((with_reducible apply Touch.set_pwr); rotate_left; decide)
    | apply OutTouch.ite

theorem execEpoch_touch (s : State) :
    OutTouch 131075 s (execEpoch s) := by
  unfold execEpoch
  repeat' first
    | (with_reducible intro x; with_reducible refine Touch.cutP (m := 131075) (s := s) (x := x) (fun hx => ?_) ?_; (clear_value x; rotate_left; subst x))
    | with_reducible apply Touch.refl
    | with_reducible assumption
    | with_reducible apply OutTouch.next
    | ((with_reducible apply Touch.then ?_ (State.appendLog_touch _ _) ?_); rotate_left; decide)
    | ((with_reducible apply Touch.then ?_ (State.extend_touch _) ?_); rotate_left; decide)
    | ((with_reducible apply Touch.then ?_ (State.used_touch _) ?_); rotate_left; decide)
    | apply Touch.ite
    | apply OutTouch.ite
    | fail_if_no_progress ((with_reducible apply Touch.set_lnt); rotate_left; decide)

theorem execEventLogWrite_touch (s : State) :
    OutTouch 131091 s (execEventLogWrite s) := by
  unfold execEventLogWrite
  repeat' first
    | with_reducible apply Touch.refl
    | with_reducible apply OutTouch.next
    | ((with_reducible apply Touch.then ?_ (State.detect_touch _ _ _ _ _) ?_); rotate_left; decide)
    | ((with_reducible apply Touch.then ?_ (State.writeEvent_touch _ _) ?_); rotate_left; decide)
    | fail_if_no_progress ((with_reducible apply Touch.set_lnt); rotate_left; decide)
    | split
    | apply OutTouch.ite

theorem execDetectorFire_touch (block code unit : BitVec 8) (s : State) :
    OutTouch 3932155 s (execDetectorFire block code unit s) := by
  unfold execDetectorFire
  repeat' first
    | with_reducible apply Touch.refl
    | with_reducible apply OutTouch.next
    | ((with_reducible apply Touch.then ?_ (State.detect_touch _ _ _ _ _) ?_); rotate_left; decide)
    | ((with_reducible apply Touch.then ?_ (State.fireLantern_touch _ _ _) ?_); rotate_left; decide)
    | ((with_reducible apply Touch.then ?_ (State.setReady_touch _ _ _) ?_); rotate_left; decide)
    | apply OutTouch.ite

theorem State.setLimit_touch (s : State) (i : Nat) (w : Word) :
    Touch 131075 s (State.setLimit s i w) := by
  unfold State.setLimit
  repeat' first
    | (with_reducible intro x; with_reducible refine Touch.cutP (m := 131075) (s := s) (x := x) (fun hx => ?_) ?_; (clear_value x; rotate_left; subst x))
    | with_reducible apply Touch.refl
    | with_reducible assumption
    | ((with_reducible apply Touch.then ?_ (State.queueEvent_touch _ _) ?_); rotate_left; decide)
    | ((with_reducible apply Touch.then ?_ (State.setReg_touch _ _ _) ?_); rotate_left; decide)
    | ((with_reducible apply Touch.then ?_ (State.used_touch _) ?_); rotate_left; decide)

theorem execSensorThresholdWrite_touch (i : Sensor) (w : Word) (s : State) :
    OutTouch 131075 s (execSensorThresholdWrite i w s) := by
  unfold execSensorThresholdWrite
  repeat' first
    | with_reducible apply Touch.refl
    | with_reducible apply OutTouch.next
    | ((with_reducible apply Touch.then ?_ (State.setLimit_touch _ _ _) ?_); rotate_left; decide)

theorem execErrCountClear_touch (s : State) :
    OutTouch 1 s (execErrCountClear s) := by
  unfold execErrCountClear
  repeat' first
    | with_reducible apply Touch.refl
    | with_reducible apply OutTouch.next
    | ((with_reducible apply Touch.then ?_ (State.setReg_touch _ _ _) ?_); rotate_left; decide)

/-! Pldm -/

theorem State.answer_touch (s : State) (r : LntReply) :
    Touch 131072 s (State.answer s r) := by
  unfold State.answer
  repeat' first
    | with_reducible apply Touch.refl
    | fail_if_no_progress ((with_reducible apply Touch.set_lnt); rotate_left; decide)

theorem State.served_touch {m : Nat} (s : State) (f : State → State) (hf : ∀ t, Touch m t (f t)) :
    OutTouch m s (State.served s f) := OutTouch.ite (OutTouch.next (Touch.refl m s)) (OutTouch.next (hf s))

theorem execSetEndpointId_touch (eid : BitVec 8) (s : State) :
    OutTouch 131072 s (execSetEndpointId eid s) := by
  unfold execSetEndpointId
  repeat' first
    | with_reducible apply Touch.refl
    | with_reducible apply OutTouch.next
    | ((with_reducible apply Touch.then ?_ (State.answer_touch _ _) ?_); rotate_left; decide)
    | fail_if_no_progress ((with_reducible apply Touch.set_lnt); rotate_left; decide)

theorem execGetEndpointId_touch (s : State) :
    OutTouch 131072 s (execGetEndpointId s) := by
  unfold execGetEndpointId
  repeat' first
    | with_reducible apply Touch.refl
    | with_reducible apply OutTouch.next
    | ((with_reducible apply Touch.then ?_ (State.answer_touch _ _) ?_); rotate_left; decide)

theorem execGetEndpointUuid_touch (s : State) :
    OutTouch 131072 s (execGetEndpointUuid s) := by
  unfold execGetEndpointUuid
  repeat' first
    | with_reducible apply Touch.refl
    | with_reducible apply OutTouch.next
    | ((with_reducible apply Touch.then ?_ (State.answer_touch _ _) ?_); rotate_left; decide)

theorem execGetMctpVersionSupport_touch (s : State) :
    OutTouch 131072 s (execGetMctpVersionSupport s) := by
  unfold execGetMctpVersionSupport
  repeat' first
    | with_reducible apply Touch.refl
    | with_reducible apply OutTouch.next
    | ((with_reducible apply Touch.then ?_ (State.answer_touch _ _) ?_); rotate_left; decide)

theorem execGetMessageTypeSupport_touch (s : State) :
    OutTouch 131072 s (execGetMessageTypeSupport s) := by
  unfold execGetMessageTypeSupport
  repeat' first
    | with_reducible apply Touch.refl
    | with_reducible apply OutTouch.next
    | ((with_reducible apply Touch.then ?_ (State.answer_touch _ _) ?_); rotate_left; decide)

theorem State.setTid_touch (s : State) (n : Nat) :
    Touch 131072 s (State.setTid s n) := by
  unfold State.setTid
  repeat' first
    | with_reducible apply Touch.refl
    | fail_if_no_progress ((with_reducible apply Touch.set_lnt); rotate_left; decide)

theorem execGetTid_touch (s : State) :
    OutTouch 131072 s (execGetTid s) := by
  unfold execGetTid
  repeat' first
    | with_reducible intro accT
    | with_reducible apply Touch.refl
    | with_reducible apply OutTouch.next
    | with_reducible exact OutTouch.fault
    | with_reducible apply Touch.ite
    | ((with_reducible apply Touch.then ?_ (State.answer_touch _ _) ?_); rotate_left; decide)
    | split
    | apply Touch.ite
    | apply OutTouch.ite

theorem execSetTid_touch (tid : BitVec 8) (s : State) :
    OutTouch 131072 s (execSetTid tid s) := by
  unfold execSetTid
  repeat' first
    | with_reducible intro accT
    | with_reducible apply Touch.refl
    | with_reducible apply OutTouch.next
    | with_reducible exact OutTouch.fault
    | with_reducible apply Touch.ite
    | ((with_reducible apply Touch.then ?_ (State.answer_touch _ _) ?_); rotate_left; decide)
    | ((with_reducible apply Touch.then ?_ (State.setTid_touch _ _) ?_); rotate_left; decide)
    | split
    | apply Touch.ite
    | apply OutTouch.ite

theorem execGetPldmVersion_touch (type : BitVec 8) (s : State) :
    OutTouch 131072 s (execGetPldmVersion type s) := by
  unfold execGetPldmVersion
  repeat' first
    | with_reducible intro accT
    | with_reducible apply Touch.refl
    | with_reducible apply OutTouch.next
    | with_reducible exact OutTouch.fault
    | with_reducible apply Touch.ite
    | ((with_reducible apply Touch.then ?_ (State.answer_touch _ _) ?_); rotate_left; decide)
    | split
    | apply Touch.ite
    | apply OutTouch.ite

theorem execGetPldmTypes_touch (s : State) :
    OutTouch 131072 s (execGetPldmTypes s) := by
  unfold execGetPldmTypes
  repeat' first
    | with_reducible intro accT
    | with_reducible apply Touch.refl
    | with_reducible apply OutTouch.next
    | with_reducible exact OutTouch.fault
    | with_reducible apply Touch.ite
    | ((with_reducible apply Touch.then ?_ (State.answer_touch _ _) ?_); rotate_left; decide)
    | split
    | apply Touch.ite
    | apply OutTouch.ite

theorem execGetPldmCommands_touch (type : BitVec 8) (s : State) :
    OutTouch 131072 s (execGetPldmCommands type s) := by
  unfold execGetPldmCommands
  repeat' first
    | with_reducible intro accT
    | with_reducible apply Touch.refl
    | with_reducible apply OutTouch.next
    | with_reducible exact OutTouch.fault
    | with_reducible apply Touch.ite
    | ((with_reducible apply Touch.then ?_ (State.answer_touch _ _) ?_); rotate_left; decide)
    | split
    | apply Touch.ite
    | apply OutTouch.ite

theorem execGetSensorReading_touch (i : Sensor) (s : State) :
    OutTouch 131072 s (execGetSensorReading i s) := by
  unfold execGetSensorReading
  repeat' first
    | with_reducible intro accT
    | with_reducible apply Touch.refl
    | with_reducible apply OutTouch.next
    | with_reducible exact OutTouch.fault
    | with_reducible apply Touch.ite
    | ((with_reducible apply Touch.then ?_ (State.answer_touch _ _) ?_); rotate_left; decide)
    | split
    | apply Touch.ite
    | apply OutTouch.ite

theorem execGetSensorThresholds_touch (i : Sensor) (s : State) :
    OutTouch 131072 s (execGetSensorThresholds i s) := by
  unfold execGetSensorThresholds
  repeat' first
    | with_reducible intro accT
    | with_reducible apply Touch.refl
    | with_reducible apply OutTouch.next
    | with_reducible exact OutTouch.fault
    | with_reducible apply Touch.ite
    | ((with_reducible apply Touch.then ?_ (State.answer_touch _ _) ?_); rotate_left; decide)
    | split
    | apply Touch.ite
    | apply OutTouch.ite

theorem execSetSensorThresholds_touch (i : Sensor) (high low : BitVec 16) (s : State) :
    OutTouch 131075 s (execSetSensorThresholds i high low s) := by
  unfold execSetSensorThresholds
  repeat' first
    | with_reducible intro accT
    | with_reducible apply Touch.refl
    | with_reducible apply OutTouch.next
    | with_reducible exact OutTouch.fault
    | with_reducible apply Touch.ite
    | ((with_reducible apply Touch.then ?_ (State.setLimit_touch _ _ _) ?_); rotate_left; decide)
    | ((with_reducible apply Touch.then ?_ (State.answer_touch _ _) ?_); rotate_left; decide)
    | split
    | apply Touch.ite
    | apply OutTouch.ite

theorem execGetStateSensorReadings_touch (s : State) :
    OutTouch 131072 s (execGetStateSensorReadings s) := by
  unfold execGetStateSensorReadings
  repeat' first
    | with_reducible intro accT
    | with_reducible apply Touch.refl
    | with_reducible apply OutTouch.next
    | with_reducible exact OutTouch.fault
    | with_reducible apply Touch.ite
    | ((with_reducible apply Touch.then ?_ (State.answer_touch _ _) ?_); rotate_left; decide)
    | split
    | apply Touch.ite
    | apply OutTouch.ite

theorem execGetPdrRepositoryInfo_touch (s : State) :
    OutTouch 131072 s (execGetPdrRepositoryInfo s) := by
  unfold execGetPdrRepositoryInfo
  repeat' first
    | with_reducible intro accT
    | with_reducible apply Touch.refl
    | with_reducible apply OutTouch.next
    | with_reducible exact OutTouch.fault
    | with_reducible apply Touch.ite
    | ((with_reducible apply Touch.then ?_ (State.answer_touch _ _) ?_); rotate_left; decide)
    | split
    | apply Touch.ite
    | apply OutTouch.ite

theorem execGetPdr_touch (record : Fin 94) (s : State) :
    OutTouch 131072 s (execGetPdr record s) := by
  unfold execGetPdr
  repeat' first
    | with_reducible intro accT
    | with_reducible apply Touch.refl
    | with_reducible apply OutTouch.next
    | with_reducible exact OutTouch.fault
    | with_reducible apply Touch.ite
    | ((with_reducible apply Touch.then ?_ (State.answer_touch _ _) ?_); rotate_left; decide)
    | split
    | apply Touch.ite
    | apply OutTouch.ite

theorem execSetEventReceiver_touch (eid : Option (BitVec 8)) (s : State) :
    OutTouch 131072 s (execSetEventReceiver eid s) := by
  unfold execSetEventReceiver
  repeat' first
    | with_reducible intro accT
    | with_reducible apply Touch.refl
    | with_reducible apply OutTouch.next
    | with_reducible apply Touch.ite
    | ((with_reducible apply Touch.then ?_ (State.answer_touch _ _) ?_); rotate_left; decide)
    | fail_if_no_progress ((with_reducible apply Touch.set_lnt); rotate_left; decide)
    | split
    | apply Touch.ite
    | apply OutTouch.ite

theorem execQueryDeviceIdentifiers_touch (s : State) :
    OutTouch 131072 s (execQueryDeviceIdentifiers s) := by
  unfold execQueryDeviceIdentifiers
  repeat' first
    | with_reducible apply Touch.refl
    | with_reducible apply OutTouch.next
    | ((with_reducible apply Touch.then ?_ (State.answer_touch _ _) ?_); rotate_left; decide)

theorem execGetFirmwareParameters_touch (s : State) :
    OutTouch 131072 s (execGetFirmwareParameters s) := by
  unfold execGetFirmwareParameters
  repeat' first
    | with_reducible apply Touch.refl
    | with_reducible apply OutTouch.next
    | ((with_reducible apply Touch.then ?_ (State.answer_touch _ _) ?_); rotate_left; decide)

theorem State.setUpd_touch (s : State) (u : Update) :
    Touch 131072 s (State.setUpd s u) := by
  unfold State.setUpd
  repeat' first
    | with_reducible apply Touch.refl
    | fail_if_no_progress ((with_reducible apply Touch.set_lnt); rotate_left; decide)

theorem State.endUpd_touch (s : State) :
    Touch 131073 s (State.endUpd s) := by
  unfold State.endUpd
  repeat' first
    | with_reducible apply Touch.refl
    | ((with_reducible apply Touch.then ?_ (State.put_touch _ _ _ _) ?_); rotate_left; decide)
    | ((with_reducible apply Touch.then ?_ (State.setUpd_touch _ _) ?_); rotate_left; decide)

theorem execRequestUpdate_touch (s : State) :
    OutTouch 131073 s (execRequestUpdate s) := by
  unfold execRequestUpdate
  repeat' first
    | with_reducible apply Touch.refl
    | with_reducible apply OutTouch.next
    | ((with_reducible apply Touch.then ?_ (State.raise_touch _ _ _) ?_); rotate_left; decide)
    | ((with_reducible apply Touch.then ?_ (State.answer_touch _ _) ?_); rotate_left; decide)
    | ((with_reducible apply Touch.then ?_ (State.setUpd_touch _ _) ?_); rotate_left; decide)
    | apply OutTouch.ite

theorem execPassComponentTable_touch (component : BitVec 16) (s : State) :
    OutTouch 131072 s (execPassComponentTable component s) := by
  unfold execPassComponentTable
  repeat' first
    | with_reducible apply Touch.refl
    | with_reducible apply OutTouch.next
    | ((with_reducible apply Touch.then ?_ (State.answer_touch _ _) ?_); rotate_left; decide)
    | ((with_reducible apply Touch.then ?_ (State.setUpd_touch _ _) ?_); rotate_left; decide)
    | apply OutTouch.ite

theorem execUpdateComponent_touch (component : BitVec 16) (size : Word) (s : State) :
    OutTouch 131072 s (execUpdateComponent component size s) := by
  unfold execUpdateComponent
  repeat' first
    | with_reducible apply Touch.refl
    | with_reducible apply OutTouch.next
    | ((with_reducible apply Touch.then ?_ (State.answer_touch _ _) ?_); rotate_left; decide)
    | ((with_reducible apply Touch.then ?_ (State.setUpd_touch _ _) ?_); rotate_left; decide)
    | apply OutTouch.ite

theorem execTransferComplete_touch (bs : List Byte) (s : State) :
    OutTouch 131072 s (execTransferComplete bs s) := by
  unfold execTransferComplete
  repeat' first
    | with_reducible apply Touch.refl
    | with_reducible apply OutTouch.next
    | ((with_reducible apply Touch.then ?_ (State.answer_touch _ _) ?_); rotate_left; decide)
    | ((with_reducible apply Touch.then ?_ (State.setUpd_touch _ _) ?_); rotate_left; decide)
    | apply OutTouch.ite

theorem execVerifyComplete_touch (s : State) :
    OutTouch 153347 s (execVerifyComplete s) := by
  unfold execVerifyComplete
  repeat' first
    | with_reducible apply Touch.refl
    | with_reducible apply OutTouch.next
    | ((with_reducible apply Touch.then ?_ (State.answer_touch _ _) ?_); rotate_left; decide)
    | ((with_reducible apply Touch.then ?_ (State.setUpd_touch _ _) ?_); rotate_left; decide)
    | apply OutTouch.ite

theorem execApplyComplete_touch (readBack : Bool) (s : State) :
    OutTouch 393216 s (execApplyComplete readBack s) := by
  unfold execApplyComplete
  repeat' first
    | (with_reducible intro x; with_reducible refine Touch.cutP (m := 393216) (s := s) (x := x) (fun hx => ?_) ?_; (clear_value x; rotate_left; subst x))
    | with_reducible apply Touch.refl
    | with_reducible assumption
    | with_reducible apply OutTouch.next
    | ((with_reducible apply Touch.then ?_ (State.programSlot_touch _ _ _ _) ?_); rotate_left; decide)
    | ((with_reducible apply Touch.then ?_ (State.answer_touch _ _) ?_); rotate_left; decide)
    | ((with_reducible apply Touch.then ?_ (State.setUpd_touch _ _) ?_); rotate_left; decide)
    | apply OutTouch.ite

theorem execActivateFirmware_touch (selfContained : Bool) (s : State) :
    OutTouch 393217 s (execActivateFirmware selfContained s) := by
  unfold execActivateFirmware
  repeat' first
    | with_reducible apply Touch.refl
    | with_reducible apply OutTouch.next
    | ((with_reducible apply Touch.then ?_ (State.activateSlot_touch _ _) ?_); rotate_left; decide)
    | ((with_reducible apply Touch.then ?_ (State.endUpd_touch _) ?_); rotate_left; decide)
    | ((with_reducible apply Touch.then ?_ (State.answer_touch _ _) ?_); rotate_left; decide)
    | apply OutTouch.ite

theorem execGetStatus_touch (s : State) :
    OutTouch 131072 s (execGetStatus s) := by
  unfold execGetStatus
  repeat' first
    | with_reducible apply Touch.refl
    | with_reducible apply OutTouch.next
    | ((with_reducible apply Touch.then ?_ (State.answer_touch _ _) ?_); rotate_left; decide)

theorem execCancelUpdate_touch (s : State) :
    OutTouch 131073 s (execCancelUpdate s) := by
  unfold execCancelUpdate
  repeat' first
    | with_reducible apply Touch.refl
    | with_reducible apply OutTouch.next
    | ((with_reducible apply Touch.then ?_ (State.endUpd_touch _) ?_); rotate_left; decide)
    | ((with_reducible apply Touch.then ?_ (State.answer_touch _ _) ?_); rotate_left; decide)
    | apply OutTouch.ite

theorem State.ethAnswer_touch {s t : State} {e : Nat} {m : EthMsg} (h : s.ethAnswer e m = some t) : Touch 131072 s t := by
  have via : ∀ (v4 : Bool) (u : State), Touch 131072 s u → (if s.ethAddr e v4 then some u else none) = some t → Touch 131072 s t := by
    intro v4 u hu h
    split at h
    · cases h; exact hu
    · cases h
  have ans : ∀ r, Touch 131072 s (s.answer r) := fun r => (State.answer_touch s r).mono (by decide)
  cases m with
  | neighbour => cases h; exact ans _
  | other => cases h
  | setTid v4 x => exact via _ _ (((State.setTid_touch s _).mono (by decide)).then (State.answer_touch _ _) (by decide)) h
  | _ => exact via _ _ (ans _) h

theorem execEthMgmtMessage_touch (e : Fin 2) (m : EthMsg) (s : State) :
    OutTouch 131072 s (execEthMgmtMessage e m s) := by
  unfold execEthMgmtMessage
  repeat' first
    | with_reducible apply Touch.refl
    | with_reducible apply OutTouch.next
    | exact Touch.mono (State.ethAnswer_touch (by assumption)) (by decide)
    | split

end Sys2Proof.Machine
end

