-- ==== Sys2Proof/Laws/TouchHost.lean ====
section
/-! SUPPORT. Frames by parts: what the Control NoC and the host change. Each lemma gives the mask of the parts that an operation may change (Touch); registers
and memories stay canonical. -/

namespace Sys2Proof.Machine

set_option linter.all false
set_option linter.unusedTactic false
set_option linter.unreachableTactic false
set_option linter.tactic.unusedName false

/-! Views -/

theorem State.takeByte_touch (s : State) (p : Nat) :
    Touch 128 s (State.takeByte s p).2 := by
  unfold State.takeByte
  repeat' first
    | with_reducible apply Touch.refl
    | ((with_reducible apply Touch.then ?_ (State.settle_touch _) ?_); rotate_left; decide)
    | fail_if_no_progress ((with_reducible apply Touch.set_rim); rotate_left; decide)
    | split

theorem State.readReg_touch (s : State) (o : Nat) :
    Touch 1048705 s (State.readReg s o).2 := by
  unfold State.readReg
  repeat' first
    | with_reducible apply Touch.refl
    | ((with_reducible apply Touch.then ?_ (State.latchNow_touch _) ?_); rotate_left; decide)
    | ((with_reducible apply Touch.then ?_ (State.put_touch _ _ _ _) ?_); rotate_left; decide)
    | ((with_reducible apply Touch.then ?_ (State.takeByte_touch _ _) ?_); rotate_left; decide)
    | ((with_reducible apply Touch.then ?_ (State.winHigh_touch _ _) ?_); rotate_left; decide)
    | ((with_reducible apply Touch.then ?_ (State.winLow_touch _ _) ?_); rotate_left; decide)
    | split

/-! Access -/

theorem State.after_touch {m : Nat} {s0 s : State} {o : Out} (h : Touch m s0 s) (ho : OutTouch m s o) :
    Touch m s0 (State.after s o) := by
  cases o with
  | next t => exact h.then (ho t rfl) (Nat.and_self m)
  | fault f => exact h
  | refused r => exact h

theorem State.bits_touch1 {m : Nat} {s0 s : State} {w : Word} {i : Nat} {f : State → Out} (h : Touch m s0 s)
    (hf : ∀ t, OutTouch m t (f t)) : Touch m s0 (State.bits s w [(i, f)]) :=
  Touch.ite (State.after_touch h (hf s)) h

theorem State.bits_touch2 {m : Nat} {s0 s : State} {w : Word} {i j : Nat} {f g : State → Out} (h : Touch m s0 s)
    (hf : ∀ t, OutTouch m t (f t)) (hg : ∀ t, OutTouch m t (g t)) : Touch m s0 (State.bits s w [(i, f), (j, g)]) :=
  State.bits_touch1 (s := State.bits s w [(i, f)]) (State.bits_touch1 h hf) hg

theorem State.bits_touch3 {m : Nat} {s0 s : State} {w : Word} {i j k : Nat} {f g e : State → Out} (h : Touch m s0 s)
    (hf : ∀ t, OutTouch m t (f t)) (hg : ∀ t, OutTouch m t (g t)) (he : ∀ t, OutTouch m t (e t)) :
    Touch m s0 (State.bits s w [(i, f), (j, g), (k, e)]) :=
  State.bits_touch1 (s := State.bits s w [(i, f), (j, g)]) (State.bits_touch2 h hf hg) he

theorem State.writeNocCtl_touch (s : State) (w : Word) :
    Touch 2049 s (State.writeNocCtl s w) := by
  unfold State.writeNocCtl
  repeat' first
    | (with_reducible intro x; with_reducible refine Touch.cutP (m := 2049) (s := s) (x := x) (fun hx => ?_) ?_; (clear_value x; rotate_left; subst x))
    | with_reducible apply Touch.refl
    | with_reducible assumption
    | ((with_reducible apply Touch.then ?_ (State.put_touch _ _ _ _) ?_); rotate_left; decide)
    | ((with_reducible apply Touch.then ?_ (State.raise_touch _ _ _) ?_); rotate_left; decide)
    | ((with_reducible apply Touch.then ?_ (State.setReg_touch _ _ _) ?_); rotate_left; decide)
    | fail_if_no_progress ((with_reducible apply Touch.set_noc); rotate_left; decide)
    | split

theorem State.writeCredit_touch (s : State) (w : Word) :
    Touch 2049 s (State.writeCredit s w) := by
  unfold State.writeCredit
  repeat' first
    | with_reducible apply Touch.refl
    | ((with_reducible apply Touch.then ?_ (State.setReg_touch _ _ _) ?_); rotate_left; decide)
    | fail_if_no_progress ((with_reducible apply Touch.set_noc); rotate_left; decide)
    | apply Touch.ite

theorem State.writeNoc_touch (s : State) (o : Nat) (w : Word) :
    Touch 2049 s (State.writeNoc s o w) := by
  unfold State.writeNoc
  repeat' first
    | with_reducible apply Touch.refl
    | ((with_reducible apply Touch.then ?_ (State.writeNocCtl_touch _ _) ?_); rotate_left; decide)
    | ((with_reducible apply Touch.then ?_ (State.typedStore_touch _ _ _) ?_); rotate_left; decide)
    | ((with_reducible apply Touch.then ?_ (State.writeCredit_touch _ _) ?_); rotate_left; decide)
    | ((with_reducible apply Touch.then ?_ (State.setReg_touch _ _ _) ?_); rotate_left; decide)
    | apply Touch.ite

theorem State.writeDevice_touch (s : State) (o : Nat) (w : Word) :
    Touch 17 s (State.writeDevice s o w) := by
  unfold State.writeDevice
  repeat' first
    | with_reducible intro accT
    | with_reducible apply State.after_touch
    | with_reducible apply Touch.refl
    | ((with_reducible apply OutTouch.mono (execEchoClrLost_touch _) ?_); decide)
    | ((with_reducible apply Touch.then ?_ (State.typedStore_touch _ _ _) ?_); rotate_left; decide)
    | ((with_reducible apply OutTouch.mono (execClrHold_touch _) ?_); decide)
    | ((with_reducible apply OutTouch.mono (execClrOverrun_touch _) ?_); decide)
    | ((with_reducible apply OutTouch.mono (execClrStretch_touch _) ?_); decide)
    | ((with_reducible apply OutTouch.mono (execClrSync_touch _) ?_); decide)
    | ((with_reducible apply OutTouch.mono (execDsErrClr_touch _) ?_); decide)
    | ((with_reducible apply OutTouch.mono (execSchedBarrierReleaseWrite_touch _ _) ?_); decide)
    | apply Touch.ite

theorem State.writeCic_touch (s : State) (o : Nat) (w : Word) (who : TbWriter) :
    Touch 16385 s (State.writeCic s o w who) := by
  unfold State.writeCic
  repeat' first
    | with_reducible apply State.after_touch
    | with_reducible apply Touch.refl
    | ((with_reducible apply OutTouch.mono (execCicComplete_touch _ _ _ _) ?_); decide)
    | ((with_reducible apply OutTouch.mono (execCicSrcWrite_touch _ _ _) ?_); decide)
    | ((with_reducible apply Touch.then ?_ (State.typedStore_touch _ _ _) ?_); rotate_left; decide)
    | ((with_reducible apply OutTouch.mono (execCicCountsClear_touch _) ?_); decide)
    | ((with_reducible apply OutTouch.mono (execCicSwSet_touch _ _ _) ?_); decide)
    | ((with_reducible apply Touch.then ?_ (State.cicKeep_touch _ _) ?_); rotate_left; decide)
    | split

theorem State.writeDmaCh_touch (s : State) (n : Fin 32) (d : Nat) (w : Word) :
    Touch 146747 s (State.writeDmaCh s n d w) := by
  unfold State.writeDmaCh
  repeat' first
    | with_reducible apply State.after_touch
    | with_reducible apply Touch.refl
    | ((with_reducible apply Touch.then ?_ (State.writeChCfg_touch _ _ _) ?_); rotate_left; decide)
    | ((with_reducible apply Touch.then ?_ (State.pumped_touch _) ?_); rotate_left; decide)
    | ((with_reducible apply OutTouch.mono (execAbort_touch _ _) ?_); decide)
    | ((with_reducible apply OutTouch.mono (execDmaHeadWrite_touch _ _ _) ?_); decide)
    | ((with_reducible apply Touch.then ?_ (State.chCfgErr_touch _ _) ?_); rotate_left; decide)
    | ((with_reducible apply Touch.then ?_ (State.typedStore_touch _ _ _) ?_); rotate_left; decide)
    | ((with_reducible apply OutTouch.mono (execDmaHalt_touch _ _) ?_); decide)
    | ((with_reducible apply OutTouch.mono (execDmaResume_touch _ _) ?_); decide)
    | ((with_reducible apply OutTouch.mono (execDoneCountClear_touch _ _) ?_); decide)
    | ((with_reducible apply OutTouch.mono (execKick_touch _ _) ?_); decide)
    | apply Touch.ite

theorem State.writeTb_touch (s : State) (o : Nat) (w : Word) (who : TbWriter) :
    Touch 213011 s (State.writeTb s o w who) := by
  unfold State.writeTb
  repeat' first
    | with_reducible apply State.after_touch
    | with_reducible apply Touch.refl
    | ((with_reducible apply OutTouch.mono (execTbCfgWrite_touch _ _) ?_); decide)
    | ((with_reducible apply OutTouch.mono (execTbIncrWrite_touch _ _ _) ?_); decide)
    | ((with_reducible apply OutTouch.mono (execTbSlewWrite_touch _ _ _) ?_); decide)
    | ((with_reducible apply OutTouch.mono (execTbStepWrite_touch _ _ _) ?_); decide)
    | ((with_reducible apply Touch.then ?_ (State.typedStore_touch _ _ _) ?_); rotate_left; decide)
    | ((with_reducible apply OutTouch.mono (execTcForwardedClear_touch _ _) ?_); decide)
    | apply Touch.ite

theorem State.writeQueue_touch (s : State) (q : Fin 16) (d : Nat) (w : Word) :
    Touch 17409 s (State.writeQueue s q d w) := by
  unfold State.writeQueue
  repeat' first
    | with_reducible apply State.after_touch
    | with_reducible apply Touch.refl
    | ((with_reducible apply Touch.then ?_ (State.writeQCfg_touch _ _ _ _ _) ?_); rotate_left; decide)
    | ((with_reducible apply OutTouch.mono (execMbxSqTailWrite_touch _ _ _) ?_); decide)
    | ((with_reducible apply OutTouch.mono (execMbxCqHeadWrite_touch _ _ _) ?_); decide)
    | ((with_reducible apply Touch.then ?_ (State.raise_touch _ _ _) ?_); rotate_left; decide)
    | ((with_reducible apply Touch.then ?_ (State.typedStore_touch _ _ _) ?_); rotate_left; decide)
    | apply Touch.ite

theorem State.writeTrace_touch (s : State) (o : Nat) (w : Word) :
    Touch 1064961 s (State.writeTrace s o w) := by
  unfold State.writeTrace
  repeat' first
    | (with_reducible intro x; with_reducible refine Touch.cutP (m := 1064961) (s := s) (x := x) (fun hx => ?_) ?_; (clear_value x; rotate_left; subst x))
    | with_reducible apply State.after_touch
    | with_reducible intro accT accX
    | with_reducible apply Touch.refl
    | with_reducible assumption
    | ((with_reducible apply OutTouch.mono (execTraceSourceEnable_touch _ _ _) ?_); decide)
    | ((with_reducible apply Touch.then ?_ (State.trcMark_touch _) ?_); rotate_left; decide)
    | ((with_reducible apply Touch.then ?_ (State.put_touch _ _ _ _) ?_); rotate_left; decide)
    | ((with_reducible apply Touch.then ?_ (State.startPackets_touch _ _) ?_); rotate_left; decide)
    | ((with_reducible apply Touch.then ?_ (State.typedStore_touch _ _ _) ?_); rotate_left; decide)
    | ((with_reducible apply OutTouch.mono (execTraceClear_touch _) ?_); decide)
    | with_reducible apply Touch.foldl'
    | split

theorem State.writePort_touch (s : State) (p : PortNo) (d : Nat) (w : Word) :
    Touch 138515 s (State.writePort s p d w) := by
  unfold State.writePort
  repeat' first
    | with_reducible apply State.bits_touch3
    | with_reducible intro accT
    | with_reducible apply Touch.refl
    | ((with_reducible apply Touch.then ?_ (State.writePsgCtl_touch _ _ _) ?_); rotate_left; decide)
    | ((with_reducible apply Touch.then ?_ (State.typedStore_touch _ _ _) ?_); rotate_left; decide)
    | ((with_reducible apply OutTouch.mono (execClrDrop_touch _ _) ?_); decide)
    | ((with_reducible apply OutTouch.mono (execClrFec_touch _ _) ?_); decide)
    | ((with_reducible apply OutTouch.mono (execClrRetry_touch _ _) ?_); decide)
    | apply Touch.ite

theorem State.writeSpCtl_touch (s : State) (p : Nat) (w : Word) :
    Touch 385 s (State.writeSpCtl s p w) := by
  unfold State.writeSpCtl
  repeat' first
    | with_reducible apply Touch.refl
    | ((with_reducible apply Touch.then ?_ (State.settle_touch _) ?_); rotate_left; decide)
    | ((with_reducible apply Touch.then ?_ (State.setReg_touch _ _ _) ?_); rotate_left; decide)
    | fail_if_no_progress ((with_reducible apply Touch.set_rim); rotate_left; decide)
    | apply Touch.ite

theorem State.writeRim_touch (s : State) (o : Nat) (w : Word) :
    Touch 131475 s (State.writeRim s o w) := by
  unfold State.writeRim
  repeat' first
    | (with_reducible intro x; with_reducible refine Touch.cutP (m := 131475) (s := s) (x := x) (fun hx => ?_) ?_; (clear_value x; rotate_left; subst x))
    | with_reducible intro accT
    | with_reducible apply State.after_touch
    | with_reducible apply Touch.refl
    | with_reducible assumption
    | ((with_reducible apply Touch.then ?_ (State.writeSpCtl_touch _ _ _) ?_); rotate_left; decide)
    | ((with_reducible apply OutTouch.mono (execSpDataWrite_touch _ _ _) ?_); decide)
    | ((with_reducible apply OutTouch.mono (execSwReset_touch _ _ _) ?_); decide)
    | ((with_reducible apply Touch.then ?_ (State.typedStore_touch _ _ _) ?_); rotate_left; decide)
    | ((with_reducible apply OutTouch.mono (execRimPwCountClear_touch _) ?_); decide)
    | ((with_reducible apply OutTouch.mono (execUflErase_touch _) ?_); decide)
    | ((with_reducible apply OutTouch.mono (execUflProgram_touch _) ?_); decide)
    | split
    | apply Touch.ite

theorem State.writeLantern_touch (s : State) (o : Nat) (w : Word) :
    Touch 163843 s (State.writeLantern s o w) := by
  unfold State.writeLantern
  repeat' first
    | with_reducible apply State.after_touch
    | with_reducible apply Touch.refl
    | ((with_reducible apply Touch.then ?_ (State.typedStore_touch _ _ _) ?_); rotate_left; decide)
    | ((with_reducible apply OutTouch.mono (execGalleryPowerRequest_touch _ _ _) ?_); decide)
    | ((with_reducible apply OutTouch.mono (execSensorThresholdWrite_touch _ _ _) ?_); decide)
    | split

theorem State.writeTable_touch (s : State) (g d : Nat) (w : Word) :
    Touch 131099 s (State.writeTable s g d w) := by
  unfold State.writeTable
  repeat' first
    | (with_reducible intro x; with_reducible refine Touch.cutP (m := 131099) (s := s) (x := x) (fun hx => ?_) ?_; (clear_value x; rotate_left; subst x))
    | with_reducible apply Touch.refl
    | with_reducible assumption
    | ((with_reducible apply Touch.then ?_ (State.record_touch _ _ _ _) ?_); rotate_left; decide)
    | ((with_reducible apply Touch.then ?_ (State.setReg_touch _ _ _) ?_); rotate_left; decide)
    | fail_if_no_progress ((with_reducible apply Touch.set_fab); rotate_left; decide)
    | apply Touch.ite

theorem State.writeGal_touch (s : State) (g : Gal) (d : Nat) (w : Word) :
    Touch 179323 s (State.writeGal s g d w) := by
  unfold State.writeGal
  repeat' first
    | with_reducible intro accT
    | with_reducible apply State.after_touch
    | with_reducible apply Touch.refl
    | ((with_reducible apply OutTouch.mono (execMarchStart_touch _ _ _) ?_); decide)
    | ((with_reducible apply Touch.then ?_ (State.writeTable_touch _ _ _ _) ?_); rotate_left; decide)
    | ((with_reducible apply OutTouch.mono (execClrDiscard_touch _ _) ?_); decide)
    | ((with_reducible apply OutTouch.mono (execClrSlip_touch _ _) ?_); decide)
    | ((with_reducible apply OutTouch.mono (execClrSlipLast_touch _ _) ?_); decide)
    | ((with_reducible apply OutTouch.mono (execDmCeCountClear_touch _ _) ?_); decide)
    | ((with_reducible apply OutTouch.mono (execGalClrCe_touch _ _) ?_); decide)
    | ((with_reducible apply OutTouch.mono (execGalClrLost_touch _ _) ?_); decide)
    | ((with_reducible apply OutTouch.mono (execSoftSet_touch _ _ _) ?_); decide)
    | ((with_reducible apply OutTouch.mono (execWiuCountClear_touch _ _) ?_); decide)
    | ((with_reducible apply Touch.then ?_ (State.typedStore_touch _ _ _) ?_); rotate_left; decide)
    | ((with_reducible apply OutTouch.mono (execAssertPop_touch _ _) ?_); decide)
    | apply Touch.ite

theorem State.writeReg_touch (s : State) (o : Nat) (w : Word) (who : TbWriter) :
    Touch 1310203 s (State.writeReg s o w who) := by
  unfold State.writeReg
  repeat' first
    | with_reducible apply Touch.refl
    | with_reducible assumption
    | with_reducible apply Touch.ite
    | ((with_reducible apply Touch.then ?_ (State.writeGal_touch _ _ _ _) ?_); rotate_left; decide)
    | ((with_reducible apply Touch.then ?_ (State.writeDmaCh_touch _ _ _ _) ?_); rotate_left; decide)
    | ((with_reducible apply Touch.then ?_ (State.writeDevice_touch _ _ _) ?_); rotate_left; decide)
    | ((with_reducible apply Touch.then ?_ (State.writeRim_touch _ _ _) ?_); rotate_left; decide)
    | ((with_reducible apply Touch.then ?_ (State.writeCic_touch _ _ _ _) ?_); rotate_left; decide)
    | ((with_reducible apply Touch.then ?_ (State.writeTb_touch _ _ _ _) ?_); rotate_left; decide)
    | ((with_reducible apply Touch.then ?_ (State.writeTrace_touch _ _ _) ?_); rotate_left; decide)
    | ((with_reducible apply Touch.then ?_ (State.writePort_touch _ _ _ _) ?_); rotate_left; decide)
    | ((with_reducible apply Touch.then ?_ (State.writeQueue_touch _ _ _ _) ?_); rotate_left; decide)
    | ((with_reducible apply Touch.then ?_ (State.writeLantern_touch _ _ _) ?_); rotate_left; decide)
    | ((with_reducible apply Touch.then ?_ (State.writeNoc_touch _ _ _) ?_); rotate_left; decide)
    | ((with_reducible apply Touch.then ?_ (State.typedStore_touch _ _ _) ?_); rotate_left; decide)
    | ((with_reducible apply Touch.then ?_ (State.setReg_touch _ _ _) ?_); rotate_left; decide)
    | split
    | apply Touch.ite

/-! NocOps -/

theorem State.msixWrite_touch (s : State) (o : Nat) (w : Word) :
    Touch 4096 s (State.msixWrite s o w) := by
  unfold State.msixWrite
  repeat' first
    | with_reducible apply Touch.refl
    | fail_if_no_progress ((with_reducible apply Touch.set_host); rotate_left; decide)
    | split

theorem State.hostRead32_touch (s : State) (o : Nat) :
    Touch 1048705 s (State.hostRead32 s o).2 := by
  unfold State.hostRead32
  repeat' first
    | with_reducible apply Touch.refl
    | ((with_reducible apply Touch.then ?_ (State.readReg_touch _ _) ?_); rotate_left; decide)
    | split

theorem State.hostWrite32_touch (s : State) (o : Nat) (w : Word) :
    Touch 1310203 s (State.hostWrite32 s o w) := by
  unfold State.hostWrite32
  repeat' first
    | with_reducible apply Touch.refl
    | ((with_reducible apply Touch.then ?_ (State.writeReg_touch _ _ _ _) ?_); rotate_left; decide)
    | ((with_reducible apply Touch.then ?_ (State.msixWrite_touch _ _ _) ?_); rotate_left; decide)
    | apply Touch.ite

theorem State.crossD2d_touch (s : State) (o : Nat) :
    Touch 131091 s (State.crossD2d s o) := by
  unfold State.crossD2d
  repeat' first
    | with_reducible apply Touch.refl
    | ((with_reducible apply Touch.then ?_ (State.detect_touch _ _ _ _ _) ?_); rotate_left; decide)
    | ((with_reducible apply Touch.then ?_ (State.useArmed_touch _ _ _ _) ?_); rotate_left; decide)
    | apply Touch.ite

theorem State.hostReadWords_touch (s : State) (o n : Nat) : Touch 1048705 s (s.hostReadWords o n).2 := by
  induction n generalizing s o with
  | zero => exact Touch.refl _ _
  | succ n ih => exact ((State.hostRead32_touch s o).mono (by decide)).then (ih _ _) (by decide)

theorem State.hostWriteWords_touch (s : State) (o n : Nat) (bs : List (Option Byte)) :
    Touch 1310203 s (s.hostWriteWords o n bs) := by
  induction n generalizing s o bs with
  | zero => exact Touch.refl _ _
  | succ n ih =>
    unfold State.hostWriteWords
    refine Touch.then ?_ (ih _ _ _) (Nat.and_self _)
    exact Touch.ite (Touch.refl _ _) ((State.hostWrite32_touch s o _).mono (by decide))

theorem State.serveBar0_touch (s : State) (addr : BitVec 64) (op : HostOp) :
    Touch 1310203 s (State.serveBar0 s addr op) := by
  unfold State.serveBar0
  repeat' first
    | (with_reducible intro x; with_reducible refine Touch.cutP (m := 1310203) (s := s) (x := x) (fun hx => ?_) ?_; (clear_value x; rotate_left; subst x))
    | (with_reducible intro x; with_reducible refine Touch.cutP (m := 1310203) (s := s) (x := x.2) (fun hx => ?_) ?_; (clear_value x; rotate_left; subst x))
    | with_reducible apply Touch.refl
    | with_reducible assumption
    | ((with_reducible apply Touch.then ?_ (State.crossD2d_touch _ _) ?_); rotate_left; decide)
    | ((with_reducible apply Touch.then ?_ (State.proxyBar0_touch _ _ _ _) ?_); rotate_left; decide)
    | ((with_reducible apply Touch.then ?_ (State.hostReadWords_touch _ _ _) ?_); rotate_left; decide)
    | ((with_reducible apply Touch.then ?_ (State.hostWriteWords_touch _ _ _ _) ?_); rotate_left; decide)
    | ((with_reducible apply Touch.then ?_ (State.reply_touch _ _) ?_); rotate_left; decide)
    | split
    | apply Touch.ite

theorem State.readRegBy_touch (s : State) (who : TbWriter) (o : Nat) :
    Touch 1069185 s (State.readRegBy s who o).2 := by
  unfold State.readRegBy
  repeat' first
    | (with_reducible intro x; subst x)
    | with_reducible lift_lets -underBinder
    | with_reducible apply Touch.refl
    | with_reducible assumption
    | with_reducible apply Touch.ite
    | ((with_reducible apply Touch.then ?_ (State.readReg_touch _ _) ?_); rotate_left; decide)
    | ((with_reducible apply Touch.then ?_ (State.claimOne_touch _ _ _ _) ?_); rotate_left; decide)
    | split
    | apply Touch.ite

theorem State.readRegs_touch (s : State) (who : TbWriter) (l : List Nat) : Touch 1069185 s (s.readRegs who l).2 := by
  induction l generalizing s with
  | nil => exact Touch.refl _ _
  | cons o os ih => exact ((State.readRegBy_touch s who o).mono (by decide)).then (ih _) (by decide)

theorem State.logBadSize_touch (s : State) (n : Nat) :
    Touch 131074 s (State.logBadSize s n) := by
  unfold State.logBadSize
  repeat' first
    | with_reducible apply Touch.refl
    | ((with_reducible apply Touch.then ?_ (State.queueEvent_touch _ _) ?_); rotate_left; decide)
    | ((with_reducible apply Touch.then ?_ (State.used_touch _) ?_); rotate_left; decide)

theorem State.badSize_touch (s : State) (n : Nat) (p : NocPkt) :
    Touch 133122 s (State.badSize s n p) := by
  unfold State.badSize
  repeat' first
    | with_reducible apply Touch.refl
    | ((with_reducible apply Touch.then ?_ (State.logBadSize_touch _ _) ?_); rotate_left; decide)
    | ((with_reducible apply Touch.then ?_ (State.answerPkt_touch _ _ _ _) ?_); rotate_left; decide)
    | apply Touch.ite

theorem State.regPkt_touch (s : State) (n : Nat) (p : NocPkt) :
    Touch 1310203 s (State.regPkt s n p) := by
  unfold State.regPkt
  repeat' first
    | (with_reducible intro x; with_reducible refine Touch.cutP (m := 1310203) (s := s) (x := x.2) (fun hx => ?_) ?_; (clear_value x; rotate_left; subst x))
    | with_reducible intro accT accX
    | with_reducible apply Touch.refl
    | with_reducible assumption
    | ((with_reducible apply Touch.then ?_ (State.writeReg_touch _ _ _ _) ?_); rotate_left; decide)
    | ((with_reducible apply Touch.then ?_ (State.badSize_touch _ _ _) ?_); rotate_left; decide)
    | ((with_reducible apply Touch.then ?_ (State.answerPkt_touch _ _ _ _) ?_); rotate_left; decide)
    | ((with_reducible apply Touch.then ?_ (State.readRegs_touch _ _ _) ?_); rotate_left; decide)
    | with_reducible apply Touch.foldl'
    | split
    | apply Touch.ite

theorem State.galPkt_touch (s : State) (g : Nat) (p : NocPkt) :
    Touch 1310203 s (State.galPkt s g p) := by
  unfold State.galPkt
  repeat' first
    | (with_reducible intro x; with_reducible refine Touch.cutP (m := 1310203) (s := s) (x := x) (fun hx => ?_) ?_; (clear_value x; rotate_left; subst x))
    | with_reducible lift_lets -underBinder
    | with_reducible apply Touch.refl
    | with_reducible assumption
    | with_reducible apply Touch.ite
    | ((with_reducible apply Touch.then ?_ (State.regPkt_touch _ _ _) ?_); rotate_left; decide)
    | ((with_reducible apply Touch.then ?_ (State.bankRequest_touch _ _) ?_); rotate_left; decide)
    | ((with_reducible apply Touch.then ?_ (State.proxyPkt_touch _ _ _) ?_); rotate_left; decide)
    | ((with_reducible apply Touch.then ?_ (State.badSize_touch _ _ _) ?_); rotate_left; decide)
    | ((with_reducible apply Touch.then ?_ (State.answerPkt_touch _ _ _ _) ?_); rotate_left; decide)
    | ((with_reducible apply Touch.then ?_ (State.used_touch _) ?_); rotate_left; decide)
    | split

theorem State.dsPkt_touch (s : State) (n ch : Nat) (p : NocPkt) :
    Touch 133171 s (State.dsPkt s n ch p) := by
  unfold State.dsPkt
  repeat' first
    | (with_reducible intro x; with_reducible refine Touch.cutP (m := 133171) (s := s) (x := x.2.2) (fun hx => ?_) ?_; (clear_value x; rotate_left; subst x))
    | with_reducible apply Touch.refl
    | with_reducible assumption
    | ((with_reducible apply Touch.then ?_ (State.detect_touch _ _ _ _ _) ?_); rotate_left; decide)
    | ((with_reducible apply Touch.then ?_ (State.badSize_touch _ _ _) ?_); rotate_left; decide)
    | ((with_reducible apply Touch.then ?_ (State.dmaDsRead_touch _ _ _) ?_); rotate_left; decide)
    | ((with_reducible apply Touch.then ?_ (State.answerPkt_touch _ _ _ _) ?_); rotate_left; decide)
    | ((with_reducible apply Touch.then ?_ (State.dsWriteWords_touch _ _ _) ?_); rotate_left; decide)
    | split
    | apply Touch.ite

theorem State.noEndpoint_touch (s : State) (p : NocPkt) :
    Touch 133139 s (State.noEndpoint s p) := by
  unfold State.noEndpoint
  repeat' first
    | with_reducible apply Touch.refl
    | ((with_reducible apply Touch.then ?_ (State.recordNoc_touch _ _ _ _) ?_); rotate_left; decide)
    | ((with_reducible apply Touch.then ?_ (State.answerPkt_touch _ _ _ _) ?_); rotate_left; decide)
    | ((with_reducible apply Touch.then ?_ (State.bump_touch _ _ _ _) ?_); rotate_left; decide)
    | split

theorem State.atNode_touch (s : State) (p : NocPkt) :
    Touch 1310203 s (State.atNode s p) := by
  unfold State.atNode
  repeat' first
    | with_reducible apply Touch.refl
    | ((with_reducible apply Touch.then ?_ (State.galPkt_touch _ _ _) ?_); rotate_left; decide)
    | ((with_reducible apply Touch.then ?_ (State.dsPkt_touch _ _ _ _) ?_); rotate_left; decide)
    | ((with_reducible apply Touch.then ?_ (State.regPkt_touch _ _ _) ?_); rotate_left; decide)
    | ((with_reducible apply Touch.then ?_ (State.noEndpoint_touch _ _) ?_); rotate_left; decide)
    | ((with_reducible apply Touch.then ?_ (State.proxyPkt_touch _ _ _) ?_); rotate_left; decide)
    | fail_if_no_progress ((with_reducible apply Touch.set_wiu); rotate_left; decide)
    | split
    | apply Touch.ite

theorem State.serveHeld_touch (s : State) (h : Held) : Touch 1310203 s (s.serveHeld h) := by
  cases h with
  | pkt p => exact (State.atNode_touch s p).mono (by decide)
  | bar0 a op _ => exact (State.serveBar0_touch s a op).mono (by decide)

theorem State.arrive_touch (s : State) (h : Held) :
    Touch 1310203 s (State.arrive s h) := by
  unfold State.arrive
  repeat' first
    | with_reducible apply Touch.refl
    | ((with_reducible apply Touch.then ?_ (State.serveHeld_touch _ _) ?_); rotate_left; decide)
    | fail_if_no_progress ((with_reducible apply Touch.set_noc); rotate_left; decide)
    | apply Touch.ite

theorem retryHeld_touch (l k : List Held) (s : State) : Touch 1310203 s (retryHeld l k s) := by
  induction l generalizing k s with
  | nil => exact Touch.set_noc (Touch.refl _ _) (by decide)
  | cons h t ih =>
    unfold retryHeld
    split
    · exact ih _ _
    · exact ((State.serveHeld_touch s h).mono (by decide)).then (ih _ _) (by decide)

theorem State.idlePeriod_touch (s : State) :
    Touch 1310203 s (State.idlePeriod s) := by
  unfold State.idlePeriod
  repeat' first
    | (with_reducible intro x; with_reducible refine Touch.cutP (m := 1310203) (s := s) (x := x) (fun hx => ?_) ?_; (clear_value x; rotate_left; subst x))
    | with_reducible apply Touch.refl
    | with_reducible assumption
    | ((with_reducible apply Touch.then ?_ (State.elapse_touch _) ?_); rotate_left; decide)
    | ((with_reducible apply Touch.then ?_ (State.drained_touch _) ?_); rotate_left; decide)
    | ((with_reducible apply Touch.then ?_ (retryHeld_touch _ _ _) ?_); rotate_left; decide)

/-! Host -/

theorem State.unsupported_touch (s : State) (addr : BitVec 64) (op : HostOp) :
    Touch 135187 s (State.unsupported s addr op) := by
  unfold State.unsupported
  repeat' first
    | (with_reducible intro x; with_reducible refine Touch.cutP (m := 135187) (s := s) (x := x) (fun hx => ?_) ?_; (clear_value x; rotate_left; subst x))
    | with_reducible apply Touch.refl
    | with_reducible assumption
    | ((with_reducible apply Touch.then ?_ (State.aer_touch _ _ _) ?_); rotate_left; decide)
    | ((with_reducible apply Touch.then ?_ (State.reply_touch _ _) ?_); rotate_left; decide)
    | apply Touch.ite

theorem State.hostGate_touch {m : Nat} (s : State) (bar : Nat) (addr : BitVec 64) (op : HostOp) (st : ReqState)
    (f : State → State) (hf : ∀ t, Touch m t (f t)) (hm : 135187 &&& m = 135187) :
    Touch m s (State.hostGate s bar addr op st f) := by
  have sub : ∀ a, a &&& 135187 = a → a &&& m = a := fun a h => by rw [← h, Nat.and_assoc, hm]
  have aer : ∀ (t : State) k h, Touch m t (t.aer k h) := fun t k h => (State.aer_touch t k h).mono (sub _ (by decide))
  have self : m &&& m = m := Nat.and_self m
  unfold State.hostGate
  extract_lets b hdr
  split
  · exact Touch.refl _ _
  · split
    · exact ((State.hostErr_touch s _ _ _ _).mono (sub _ (by decide))).then (aer _ _ _) self
    · split
      · exact (State.unsupported_touch s _ _).mono (sub _ (by decide))
      · split
        · exact aer s _ _
        · exact hf s

theorem State.bar0Request_touch (s : State) (addr : BitVec 64) (op : HostOp) :
    Touch 1310203 s (State.bar0Request s addr op) := by
  unfold State.bar0Request
  repeat' first
    | with_reducible apply Touch.refl
    | ((with_reducible apply Touch.then ?_ (State.hostErr_touch _ _ _ _ _) ?_); rotate_left; decide)
    | ((with_reducible apply Touch.then ?_ (State.abortRead_touch _ _ _) ?_); rotate_left; decide)
    | ((with_reducible apply Touch.then ?_ (State.arrive_touch _ _) ?_); rotate_left; decide)
    | ((with_reducible apply Touch.then ?_ (State.reply_touch _ _) ?_); rotate_left; decide)
    | split
    | apply Touch.ite

theorem execBar0Access_touch (addr : BitVec 64) (op : HostOp) (st : ReqState) (s : State) :
    OutTouch 1310203 s (execBar0Access addr op st s) := by
  unfold execBar0Access
  repeat' first
    | ((with_reducible apply State.hostGate_touch); rotate_left; decide)
    | with_reducible intro accT
    | with_reducible apply Touch.refl
    | with_reducible apply OutTouch.next
    | with_reducible exact OutTouch.fault
    | with_reducible apply Touch.ite
    | ((with_reducible apply Touch.then ?_ (State.bar0Request_touch _ _ _) ?_); rotate_left; decide)
    | split
    | apply Touch.ite
    | apply OutTouch.ite

theorem State.hostWrites32_touch (s : State) (o : Nat) (w : Word) :
    Touch 1310203 s (State.hostWrites32 s o w) := by
  unfold State.hostWrites32
  repeat' first
    | ((with_reducible apply State.hostGate_touch); rotate_left; decide)
    | with_reducible intro accT
    | with_reducible apply Touch.refl
    | ((with_reducible apply Touch.then ?_ (State.bar0Request_touch _ _ _) ?_); rotate_left; decide)

theorem State.bar2Read_touch (s : State) (addr k : Nat) : Touch 135219 s (State.bar2Read s addr k) := by
  unfold State.bar2Read
  generalize s.bar2Addr (addr % 2 ^ 32) = b
  have h := State.dmaDsRead_touch s b k
  dsimp only
  generalize State.dmaDsRead s b k = r at h ⊢
  split
  · exact ((State.hostErr_touch s _ _ _ _).mono (by decide)).then (State.reply_touch _ _) (by decide)
  · exact (h.mono (by decide)).then (State.hostAnswer_touch _ _ _ _ _ _ _) (by decide)

theorem State.bar2Write_touch (s : State) (addr : Nat) (bs : List (Option Byte)) : Touch 135219 s (State.bar2Write s addr bs) := by
  unfold State.bar2Write
  generalize s.bar2Addr (addr % 2 ^ 32) = b
  have h := State.dmaDsWrite_touch s b bs
  dsimp only
  generalize State.dmaDsWrite s b bs = r at h ⊢
  split
  · exact (State.hostErr_touch s _ _ _ _).mono (by decide)
  · exact (h.mono (by decide)).then (State.hostAnswer_touch _ _ _ _ _ _ _) (by decide)

theorem execBar2Access_touch (addr : BitVec 64) (op : HostOp) (st : ReqState) (s : State) :
    OutTouch 135219 s (execBar2Access addr op st s) := by
  unfold execBar2Access
  repeat' first
    | ((with_reducible apply State.hostGate_touch); rotate_left; decide)
    | with_reducible intro accT
    | with_reducible apply Touch.refl
    | with_reducible apply OutTouch.next
    | with_reducible exact OutTouch.fault
    | with_reducible apply Touch.ite
    | ((with_reducible apply Touch.then ?_ (State.bar2Read_touch _ _ _) ?_); rotate_left; decide)
    | ((with_reducible apply Touch.then ?_ (State.bar2Write_touch _ _ _) ?_); rotate_left; decide)
    | ((with_reducible apply Touch.then ?_ (State.reply_touch _ _) ?_); rotate_left; decide)
    | with_reducible apply Touch.foldl'
    | with_reducible apply Touch.foldlFst
    | with_reducible apply Touch.foldlSnd
    | split
    | apply Touch.ite
    | apply OutTouch.ite

theorem execBar2BaseWrite_touch (w : Word) (s : State) :
    OutTouch 1310203 s (execBar2BaseWrite w s) := by
  unfold execBar2BaseWrite
  repeat' first
    | with_reducible apply Touch.refl
    | with_reducible apply OutTouch.next
    | ((with_reducible apply Touch.then ?_ (State.hostWrites32_touch _ _ _) ?_); rotate_left; decide)

theorem State.bar4Dm_touch (s : State) (g r addr : Nat) (op : HostOp) :
    Touch 146483 s (State.bar4Dm s g r addr op) := by
  unfold State.bar4Dm
  repeat' first
    | with_reducible apply Touch.refl
    | ((with_reducible apply Touch.then ?_ (State.bankRequest_touch _ _) ?_); rotate_left; decide)

theorem State.bar4Net_touch (s : State) (g r addr : Nat) (op : HostOp) :
    Touch 135187 s (State.bar4Net s g r addr op) := by
  unfold State.bar4Net
  repeat' first
    | with_reducible apply Touch.refl
    | ((with_reducible apply Touch.then ?_ (State.hostAnswer_touch _ _ _ _ _ _ _) ?_); rotate_left; decide)
    | ((with_reducible apply Touch.then ?_ (State.countOff_touch _ _ _) ?_); rotate_left; decide)
    | fail_if_no_progress ((with_reducible apply Touch.set_host); rotate_left; decide)
    | apply Touch.ite

theorem execBar4Access_touch (addr : BitVec 64) (op : HostOp) (st : ReqState) (s : State) :
    OutTouch 146483 s (execBar4Access addr op st s) := by
  unfold execBar4Access
  repeat' first
    | ((with_reducible apply State.hostGate_touch); rotate_left; decide)
    | with_reducible intro accT
    | with_reducible apply Touch.refl
    | with_reducible apply OutTouch.next
    | with_reducible exact OutTouch.fault
    | with_reducible apply Touch.ite
    | ((with_reducible apply Touch.then ?_ (State.hostAnswer_touch _ _ _ _ _ _ _) ?_); rotate_left; decide)
    | ((with_reducible apply Touch.then ?_ (State.hostErr_touch _ _ _ _ _) ?_); rotate_left; decide)
    | ((with_reducible apply Touch.then ?_ (State.abortRead_touch _ _ _) ?_); rotate_left; decide)
    | ((with_reducible apply Touch.then ?_ (State.bar4Net_touch _ _ _ _ _) ?_); rotate_left; decide)
    | ((with_reducible apply Touch.then ?_ (State.bar4Dm_touch _ _ _ _ _) ?_); rotate_left; decide)
    | split
    | apply Touch.ite
    | apply OutTouch.ite

theorem execBar4SelWrite_touch (a : Fin 16) (w : Word) (s : State) :
    OutTouch 1310203 s (execBar4SelWrite a w s) := by
  unfold execBar4SelWrite
  repeat' first
    | with_reducible apply Touch.refl
    | with_reducible apply OutTouch.next
    | ((with_reducible apply Touch.then ?_ (State.hostWrites32_touch _ _ _) ?_); rotate_left; decide)

theorem State.netPut8_touch (s : State) (b n : Nat) (v : Byte) :
    Touch 8 s (State.netPut8 s b n v) := by
  unfold State.netPut8
  repeat' first
    | with_reducible intro accT accX
    | with_reducible apply Touch.refl
    | fail_if_no_progress ((with_reducible apply Touch.set_fab); rotate_left; decide)
    | with_reducible apply Touch.foldl'

theorem State.netWrite_touch (s : State) (b n : Nat) (bs : List (Option Byte)) : Touch 8 s (s.netWrite b n bs) := by
  induction bs generalizing s n with
  | nil => exact Touch.refl _ _
  | cons v vs ih =>
    cases v with
    | none => exact ih _ _
    | some v => exact ((State.netPut8_touch s b n v).mono (by decide)).then (ih _ _) (by decide)

theorem State.serveNet_touch (s : State) (r : NetReq) (k : Nat) :
    Touch 135195 s (State.serveNet s r k) := by
  unfold State.serveNet
  repeat' first
    | with_reducible apply Touch.refl
    | with_reducible apply Touch.ite
    | ((with_reducible apply Touch.then ?_ (State.hostAnswer_touch _ _ _ _ _ _ _) ?_); rotate_left; decide)
    | ((with_reducible apply Touch.then ?_ (State.hostErr_touch _ _ _ _ _) ?_); rotate_left; decide)
    | ((with_reducible apply Touch.then ?_ (State.netWrite_touch _ _ _ _) ?_); rotate_left; decide)
    | fail_if_no_progress ((with_reducible apply Touch.set_host); rotate_left; decide)
    | split
    | apply Touch.ite

theorem execNetStoreServe_touch (g : Gal) (s : State) :
    OutTouch 135195 s (execNetStoreServe g s) := by
  unfold execNetStoreServe
  repeat' first
    | with_reducible apply Touch.refl
    | with_reducible apply OutTouch.next
    | ((with_reducible apply Touch.then ?_ (State.serveNet_touch _ _ _) ?_); rotate_left; decide)
    | ((with_reducible apply Touch.then ?_ (State.useBank_touch _ _) ?_); rotate_left; decide)
    | split

theorem execNocRspTimeout_touch (addr : BitVec 64) (s : State) :
    OutTouch 137267 s (execNocRspTimeout addr s) := by
  unfold execNocRspTimeout
  repeat' first
    | (with_reducible intro x; with_reducible refine Touch.cutP (m := 137267) (s := s) (x := x) (fun hx => ?_) ?_; (clear_value x; rotate_left; subst x))
    | (with_reducible intro (x : Mem); subst x)
    | with_reducible intro accT accX
    | with_reducible apply Touch.refl
    | with_reducible assumption
    | with_reducible apply OutTouch.next
    | ((with_reducible apply Touch.then ?_ (State.recordNoc_touch _ _ _ _) ?_); rotate_left; decide)
    | ((with_reducible apply Touch.then ?_ (State.abortRead_touch _ _ _) ?_); rotate_left; decide)
    | fail_if_no_progress ((with_reducible apply Touch.set_mem_noc_host); rotate_left; decide; decide; decide; (refine Memory.wf_of ?_ ?_ ?_ ?_ <;> intro h <;> first | with_reducible exact h | with_reducible exact NMap.wf_keep _ _ _ h | with_reducible exact NMap.wf_setAll _ _ _ h | with_reducible exact NMap.wf_setAll _ _ _ (NMap.wf_keep _ _ _ h) | exact h | exact NMap.wf_set _ _ _ _ h | exact NMap.wf_keep _ _ _ h))
    | with_reducible apply Touch.foldl'

theorem State.msixSend_touch (s : State) (v : Nat) :
    Touch 4096 s (State.msixSend s v) := by
  unfold State.msixSend
  repeat' first
    | with_reducible apply Touch.refl
    | fail_if_no_progress ((with_reducible apply Touch.set_host); rotate_left; decide)
    | apply Touch.ite

theorem execMsixSend_touch (v : Fin 256) (s : State) :
    OutTouch 4096 s (execMsixSend v s) := by
  unfold execMsixSend
  repeat' first
    | with_reducible apply Touch.refl
    | with_reducible apply OutTouch.next
    | ((with_reducible apply Touch.then ?_ (State.msixSend_touch _ _) ?_); rotate_left; decide)

theorem execD3hotExit_touch (s : State) :
    OutTouch 146747 s (execD3hotExit s) := by
  unfold execD3hotExit
  repeat' first
    | (with_reducible intro x; with_reducible refine Touch.cutP (m := 146747) (s := s) (x := x) (fun hx => ?_) ?_; (clear_value x; rotate_left; subst x))
    | with_reducible intro accT accX
    | with_reducible apply Touch.refl
    | with_reducible assumption
    | with_reducible apply OutTouch.next
    | ((with_reducible apply Touch.then ?_ (State.pumped_touch _) ?_); rotate_left; decide)
    | fail_if_no_progress ((with_reducible apply Touch.set_host); rotate_left; decide)
    | with_reducible apply Touch.foldl'
    | apply Touch.ite
    | apply OutTouch.ite

theorem execSpiTransaction_touch (cmd : BitVec 8) (off : BitVec 24) (data : Word) (cut : Bool) (s : State) :
    OutTouch 1310203 s (execSpiTransaction cmd off data cut s) := by
  unfold execSpiTransaction
  repeat' first
    | (with_reducible intro x; with_reducible refine Touch.cutP (m := 1310203) (s := s) (x := x.2) (fun hx => ?_) ?_; (clear_value x; rotate_left; subst x))
    | with_reducible apply Touch.refl
    | with_reducible assumption
    | with_reducible apply OutTouch.next
    | ((with_reducible apply Touch.then ?_ (State.writeReg_touch _ _ _ _) ?_); rotate_left; decide)
    | ((with_reducible apply Touch.then ?_ (State.readReg_touch _ _) ?_); rotate_left; decide)
    | ((with_reducible apply Touch.then ?_ (State.reply_touch _ _) ?_); rotate_left; decide)
    | apply OutTouch.ite

theorem State.cfgWrite_touch (s : State) (r : CfgReg) (w : Word) :
    Touch 5123 s (State.cfgWrite s r w) := by
  unfold State.cfgWrite
  repeat' first
    | with_reducible apply Touch.refl
    | fail_if_no_progress ((with_reducible apply Touch.set_host); rotate_left; decide)

theorem execRegisterWrite_touch (t : RegTarget) (w : Word) (s : State) :
    OutTouch 1310203 s (execRegisterWrite t w s) := by
  unfold execRegisterWrite
  repeat' first
    | with_reducible apply Touch.refl
    | with_reducible apply OutTouch.next
    | ((with_reducible apply Touch.then ?_ (State.aer_touch _ _ _) ?_); rotate_left; decide)
    | ((with_reducible apply Touch.then ?_ (State.hostWrites32_touch _ _ _) ?_); rotate_left; decide)
    | ((with_reducible apply Touch.then ?_ (State.cfgWrite_touch _ _ _) ?_); rotate_left; decide)
    | ((with_reducible apply Touch.then ?_ (State.reply_touch _ _) ?_); rotate_left; decide)
    | fail_if_no_progress ((with_reducible apply Touch.set_host); rotate_left; decide)
    | split

/-! Noc -/

theorem State.noRoute_touch (s : State) (port : Nat) (p : NocPkt) :
    Touch 133139 s (State.noRoute s port p) := by
  unfold State.noRoute
  repeat' first
    | with_reducible apply Touch.refl
    | ((with_reducible apply Touch.then ?_ (State.recordPsg_touch _ _ _ _) ?_); rotate_left; decide)
    | ((with_reducible apply Touch.then ?_ (State.answerPkt_touch _ _ _ _) ?_); rotate_left; decide)
    | ((with_reducible apply Touch.then ?_ (State.bump_touch _ _ _ _) ?_); rotate_left; decide)
    | split

theorem execNocPacket_touch (p : NocPkt) (s : State) :
    OutTouch 1310203 s (execNocPacket p s) := by
  unfold execNocPacket
  repeat' first
    | with_reducible apply Touch.refl
    | with_reducible apply OutTouch.next
    | ((with_reducible apply Touch.then ?_ (State.noRoute_touch _ _ _) ?_); rotate_left; decide)
    | ((with_reducible apply Touch.then ?_ (State.recordNoc_touch _ _ _ _) ?_); rotate_left; decide)
    | ((with_reducible apply Touch.then ?_ (State.arrive_touch _ _) ?_); rotate_left; decide)
    | ((with_reducible apply Touch.then ?_ (State.tunnel_touch _ _ _ _) ?_); rotate_left; decide)
    | ((with_reducible apply Touch.then ?_ (State.used_touch _) ?_); rotate_left; decide)
    | split

theorem execNocTunnelPacket_touch (port : PortNo) (ttl : BitVec 8) (p : NocPkt) (s : State) :
    OutTouch 1310203 s (execNocTunnelPacket port ttl p s) := by
  unfold execNocTunnelPacket
  repeat' first
    | (with_reducible intro x; with_reducible refine Touch.cutP (m := 1310203) (s := s) (x := x) (fun hx => ?_) ?_; (clear_value x; rotate_left; subst x))
    | with_reducible apply Touch.refl
    | with_reducible assumption
    | with_reducible apply OutTouch.next
    | ((with_reducible apply Touch.then ?_ (State.noRoute_touch _ _ _) ?_); rotate_left; decide)
    | ((with_reducible apply Touch.then ?_ (State.recordNoc_touch _ _ _ _) ?_); rotate_left; decide)
    | ((with_reducible apply Touch.then ?_ (State.arrive_touch _ _) ?_); rotate_left; decide)
    | ((with_reducible apply Touch.then ?_ (State.giveCredit_touch _ _ _) ?_); rotate_left; decide)
    | ((with_reducible apply Touch.then ?_ (State.tunnel_touch _ _ _ _) ?_); rotate_left; decide)
    | split
    | apply OutTouch.ite

theorem execNocApply_touch (compat : Bool) (s : State) :
    OutTouch 2049 s (execNocApply compat s) := by
  unfold execNocApply
  repeat' first
    | with_reducible apply Touch.refl
    | with_reducible apply OutTouch.next
    | ((with_reducible apply Touch.then ?_ (State.writeNocCtl_touch _ _) ?_); rotate_left; decide)

theorem execRouterBarrierEnd_touch (s : State) :
    OutTouch 2049 s (execRouterBarrierEnd s) := by
  unfold execRouterBarrierEnd
  repeat' first
    | (with_reducible intro x; with_reducible refine Touch.cutP (m := 2049) (s := s) (x := x) (fun hx => ?_) ?_; (clear_value x; rotate_left; subst x))
    | with_reducible apply Touch.refl
    | with_reducible assumption
    | with_reducible apply OutTouch.next
    | ((with_reducible apply Touch.then ?_ (State.put_touch _ _ _ _) ?_); rotate_left; decide)
    | fail_if_no_progress ((with_reducible apply Touch.set_noc); rotate_left; decide)
    | apply OutTouch.ite

theorem execNocBarrierSlow_touch (node : BitVec 8) (s : State) :
    OutTouch 131091 s (execNocBarrierSlow node s) := by
  unfold execNocBarrierSlow
  repeat' first
    | with_reducible apply Touch.refl
    | with_reducible apply OutTouch.next
    | ((with_reducible apply Touch.then ?_ (State.recordNoc_touch _ _ _ _) ?_); rotate_left; decide)
    | ((with_reducible apply Touch.then ?_ (State.used_touch _) ?_); rotate_left; decide)
    | split

theorem execNocRspStall_touch (src : BitVec 8) (s : State) :
    OutTouch 131091 s (execNocRspStall src s) := by
  unfold execNocRspStall
  repeat' first
    | with_reducible apply Touch.refl
    | with_reducible apply OutTouch.next
    | ((with_reducible apply Touch.then ?_ (State.recordNoc_touch _ _ _ _) ?_); rotate_left; decide)
    | apply OutTouch.ite

theorem execNocNoepDropClear_touch (s : State) :
    OutTouch 1 s (execNocNoepDropClear s) := by
  unfold execNocNoepDropClear
  repeat' first
    | with_reducible apply Touch.refl
    | with_reducible apply OutTouch.next
    | ((with_reducible apply Touch.then ?_ (State.setReg_touch _ _ _) ?_); rotate_left; decide)

theorem execNocOffCountClear_touch (g : Gal) (s : State) :
    OutTouch 1 s (execNocOffCountClear g s) := by
  unfold execNocOffCountClear
  repeat' first
    | with_reducible apply Touch.refl
    | with_reducible apply OutTouch.next
    | ((with_reducible apply Touch.then ?_ (State.setReg_touch _ _ _) ?_); rotate_left; decide)

end Sys2Proof.Machine
end

