-- ==== Sys2Proof/Machine/Package.lean ====
section
/-! DEFINITION. Where the device's signals lie on the package (16, R411 to R413). A ball is (column, row), columns and rows
from 1 to 72; no command depends on it. -/

namespace Sys2Proof.Machine

/-- The place of a ball from the package centre in units of 0.5 mm, eastward and southward (R411). -/
def ballPlace (b : Nat × Nat) : Int × Int := (2 * b.1 - 73, 2 * b.2 - 73)

/-- The P ball of PCIe transmit lane `n`; the N ball of a pair is in the next column (R413). -/
def pcieTxBall (n : Nat) : Nat × Nat := (2, 21 + 2 * n)

/-- The P ball of PCIe receive lane `n`. -/
def pcieRxBall (n : Nat) : Nat × Nat := (6, 22 + 2 * n)

/-- The P ball of transmit lane `l` of Passage port `p`. -/
def psgTxBall (p l : Nat) : Nat × Nat := (65 + 4 * (l % 2), 5 + 4 * p + l / 2)

/-- The P ball of receive lane `l` of Passage port `p`. -/
def psgRxBall (p l : Nat) : Nat × Nat := (67 + 4 * (l % 2), 7 + 4 * p + l / 2)

/-- The N ball of a pair. -/
def nBall (b : Nat × Nat) : Nat × Nat := (b.1 + 1, b.2)

/-- The ball of Rimstone pin `i` of bank `b`. -/
def rimBall (b i : Nat) : Nat × Nat := (6 * b + 1 + i % 6, 72 - 2 * (i / 6))

/-- The balls of VIO of bank `b`. -/
def vioBalls (b : Nat) : List (Nat × Nat) := [71, 69].flatMap (fun r => (List.range 6).map (fun i => (6 * b + 1 + i, r)))

/-- The balls of VAUX. -/
def vauxBalls : List (Nat × Nat) := [64, 65, 66, 67].flatMap (fun r => [(59, r), (60, r)])

/-- The ball of strap PULL_SEL of bank `b` (R405). -/
def pullSelBall (b : Nat) : Nat × Nat := (50 + b, 61)

/-- The signals at single balls, clock, reset and management (R413). -/
def namedBalls : List (String × Nat × Nat) :=
  [("PCIE_REFCLK_P", 2, 54), ("PCIE_REFCLK_N", 3, 54), ("PERST_N", 6, 54), ("SER_REFCLK_P", 66, 2), ("SER_REFCLK_N", 67, 2),
   ("VCORE_SENSE_P", 36, 30), ("VCORE_SENSE_N", 37, 30), ("SVC_CLK25", 50, 72), ("ETH_REFCLK_P", 52, 72),
   ("ETH_REFCLK_N", 53, 72), ("ETH0_TX_P", 55, 72), ("ETH0_TX_N", 56, 72), ("ETH0_RX_P", 55, 70), ("ETH0_RX_N", 56, 70),
   ("ETH1_TX_P", 58, 72), ("ETH1_TX_N", 59, 72), ("ETH1_RX_P", 58, 70), ("ETH1_RX_N", 59, 70)] ++
  [("SMB_SCL", 50, 68), ("SMB_SDA", 51, 68), ("SMB_ALERT_N", 52, 68), ("SPI_SCK", 50, 66), ("SPI_CS_N", 51, 66),
   ("SPI_MOSI", 52, 66), ("SPI_MISO", 53, 66), ("UART_TX", 55, 66), ("UART_RX", 56, 66), ("TCK", 50, 64), ("TMS", 51, 64),
   ("TDI", 52, 64), ("TDO", 53, 64), ("TRST_N", 54, 64), ("AVS_CLK", 56, 64), ("AVS_MDATA", 57, 64), ("AVS_SDATA", 58, 64),
   ("THERMTRIP_N", 50, 62), ("LNT_PGOOD", 51, 62), ("STRAP_VDD", 52, 62), ("BOOT_SEL", 54, 62), ("CHAIN_ROLE", 55, 62),
   ("VBAT", 59, 62), ("VBAT", 60, 62)]

/-- The reserved balls (R412). -/
def reservedBalls : List (Nat × Nat) := [(1, 1), (72, 1), (1, 60), (72, 72)]

/-- The balls of each group (R412). -/
def ballCounts : List (String × Nat) :=
  [("signals, sense and STRAP_VDD", 560), ("VCORE", 900), ("VSRAM", 160), ("VDRAM", 200), ("VSER09", 96), ("VSER12", 48),
   ("VSVC", 40), ("VIO", 96), ("VAUX", 8), ("VBAT", 2), ("reserved", 4), ("VSS", 3070)]

end Sys2Proof.Machine
end

