-- ==== Sys2Proof/Tests/Slice0.lean ====
section
/-! SUPPORT. Small tests, and for each obligation with hypotheses a state and operands that meet them. -/

open Sys2Proof Sys2Proof.Machine

namespace Sys2Proof.Tests

/-- The reset state with some registers stored. -/
def regd (l : List (Nat × Word)) (s : State) : State := l.foldl (fun s p => s.setReg p.1 p.2) s

/-- The reset state. -/
abbrev r0 : State := State.reset

/-- The state after a command, for a test. -/
def after (o : Host.Outcome State Fault Refusal) : State := match o with | .next t => t | _ => State.reset

/-- Did a command answer a next state? -/
def ran (o : Host.Outcome State Fault Refusal) : Bool := match o with | .next _ => true | _ => false

/-- A state with a committed four-state image in gallery 0. -/
def four0 : State := regd [(R.GAL_MODE 0, 3)] r0

/-- A state with a committed two-state image in gallery 0. -/
def two0 : State := regd [(R.GAL_MODE 0, 2)] r0

/-- The state at step 0 of a schedule of one step. -/
def atStep (s : State) : State :=
  let s := regd [(R.SCHED_CTX_LEN 0, 1)] s
  { s with sched := { s.sched with phase := .steps } }

/-- Operand: the previous value of the net at an address. -/
def prev (n : BitVec 11) : Operand := ⟨true, n⟩

/-- Operand: the current value of the net at an address. -/
def cur (n : BitVec 11) : Operand := ⟨false, n⟩

/-- A state whose BP 0 has its net 0 (previous) at known 1 and net 2047 at known 0. -/
def net1 (s : State) : State := { s with fab := { s.fab with nsPrev := netPut s.fab.nsPrev (s.four 0) 0 0 Nv.one } }

theorem wit_StepRunsTheFrontCommand : ({ r0 with pending := [.clrHold, .tbNowNsRead] } : State).pending = .clrHold :: [.tbNowNsRead] := by decide

theorem wit_EmptyQueueIsAPeriod : r0.pending = [] ∧ r0.noc.waiting = [] ∧ r0.tb.slew = 0 ∧ r0.tb.stepDue = 0 := by decide

theorem wit_OnlyRejectedWordsStop : (atStep two0).stepDue = true ∧ (atStep two0).takesSteps (galOf 1) = true ∧
    legalIn ((atStep two0).four (galOf 1)) (1 % 64) (.const .x) = false := by decide

theorem wit_CommandsKeepTheirFrame : ran (exec .clrHold r0) = true := by decide

theorem wit_StepKeepsStoresCanonical : State.reset.canon ∧ ran (step State.reset) = true :=
  ⟨⟨by decide, by decide⟩, by decide⟩

theorem wit_ResetGivesTheResetValues : (regRow R.TB_INCR).isSome = true ∧
    ¬(0x10000 ≤ R.TB_INCR ∧ R.TB_INCR < 0x10800) ∧ ¬(0x201400 ≤ R.TB_INCR ∧ R.TB_INCR < 0x201574) := by decide

theorem wit_StepWordsRoundTrip : StepOpWf (.pinin 191) = true ∧
    (decodeStepWord (encodeStepWord ⟨.mwr 0xA5 (cur 2047), ⟨true, false, true⟩⟩)).isSome = true := by decide

theorem wit_EvalGivesTheTableBit : (atStep (net1 two0)).issues 0 (.eval 255 (prev 0) (prev 1) (prev 2047) (prev 0)) = true ∧
    (atStep (net1 two0)).readsClean 0 (.eval 255 (prev 0) (prev 1) (prev 2047) (prev 0)) = true ∧
    (atStep (net1 two0)).unforced 0 = true ∧ (atStep (net1 two0)).sendClean 0 ⟨true, true, true⟩ = true := by decide

theorem wit_EvalxGivesTheOnlyBit : (atStep (net1 four0)).issues 0 (.evalx 255 (prev 0) (prev 1) (prev 511) (prev 0)) = true ∧
    (atStep (net1 four0)).readsClean 0 (.evalx 255 (prev 0) (prev 1) (prev 511) (prev 0)) = true ∧
    (atStep (net1 four0)).unforced 0 = true ∧ (atStep (net1 four0)).sendClean 0 ⟨true, true, true⟩ = true := by decide

theorem wit_ResolveFollowsTheTables :
    let w : StepOp := .resolve true .up .record (prev 0) (prev 0) (some (prev 0, prev 1))
    (atStep (net1 four0)).issues 0 w = true ∧ (atStep (net1 four0)).readsClean 0 w = true ∧ (atStep (net1 four0)).unforced 0 = true ∧
    (atStep (net1 four0)).sendClean 0 ⟨true, true, true⟩ = true ∧ (atStep (net1 four0)).operandValue 0 (prev 0) = Quad.one.nv ∧
    (atStep (net1 four0)).operandValue 0 (prev 1) = Quad.x.nv ∧ (atStep (net1 four0)).chainOf 0 = Quad.zero.nv := by decide

/-- A state in which a source is in service with a target at priority 8. -/
def serving (t src : Nat) (s : State) : State :=
  { s with cic := { s.cic with service := [⟨t, src, 8, 0⟩] } }

theorem wit_LevelSourcesAreSampledAtCompletion :
    (∀ id : BitVec 9, id = 1 ∨ id = 17 →
      (serving 4 id.toNat r0).cic.service.any (fun v => v.target == 4 && v.src == id.toNat) = true ∧
      (∀ v ∈ (serving 4 id.toNat r0).cic.service, v.src = id.toNat → v.target = 4) ∧ cicListed id.toNat = true) ∧
    r0.cicIsEdge 17 = false ∧ r0.cicIsEdge 1 = true := by
  refine ⟨?_, by decide, by decide⟩
  rintro id (rfl | rfl) <;> decide

theorem wit_StepWordIssues : (atStep two0).issues 0 (.pinin 191) = true ∧ (atStep two0).readsClean 0 (.pinin 191) = true ∧
    [StepOp.nop, .maddr 255 (prev 0) (prev 1) (prev 2047) (prev 0), .mrd (prev 2047), .mwr 0xFF (prev 0), .matom true (prev 0),
      .mdeeprd (prev 0), .mdeepwr 1 (prev 0), .pinout 191 (prev 0), .trig 63 (prev 0), .const .one].all
        (fun w => (atStep (net1 two0)).issues 0 w && (atStep (net1 two0)).readsClean 0 w) = true := by decide

theorem wit_ResultGoesByMarks : two0.unforced 65535 = true ∧ two0.sendClean 65535 ⟨true, true, true⟩ = true := by decide

/-- BP 0 of a two-state image with the net 0 at 1, and a staged address and word in chamber 0. -/
def staged (a : Nat) (v : Dword) : State :=
  let s := net1 two0
  { s with fab := { s.fab with addrV := [(0, BitVec.ofNat 32 a)], wordV := [(0, v)] } }

theorem wit_BankAndDeepOperations_staged : (staged 8191 5).operandValue 0 (prev 0) = Nv.one ∧
    (staged 8191 5).fab.memOps.contains 0 = false ∧ ((staged 8191 5).stagedAddr 0).2 = 0 ∧
    ((staged 8191 5).stagedAddr 0).1 < 8192 ∧ (staged 8191 5).lnt.armed = [] ∧ (staged 8191 5).dmMark 0 8191 = .good ∧
    mergeBytes 0xFF 0 (NMap.get dZero64 (staged 8191 5).fab.wordX 0) = 0 ∧
    NMap.get dZero64 (staged 8191 5).fab.wordX 0 = 0 := by decide

/-- BP 0 of a four-state image whose net 0 is known 0 in the previous cycle; its net 1 is X. -/
def net0 : State :=
  { four0 with fab := { four0.fab with nsPrev := netPut four0.fab.nsPrev true 0 0 Nv.zero } }

theorem wit_BankAndDeepOperations_refused : net0.fab.memOps.contains 0 = false ∧ (net0.operandValue 0 (prev 1)).k = false ∧
    net0.operandValue 0 (prev 0) = Nv.zero ∧ (staged 8192 5).operandValue 0 (prev 0) = Nv.one ∧
    ((staged 8192 5).stagedAddr 0).2 = 0 ∧ 8192 ≤ ((staged 8192 5).stagedAddr 0).1 ∧
    (staged 8192 5).fab.memOps.contains 0 = false ∧
    ({ r0 with fab := { r0.fab with memOps := [1023] } } : State).fab.memOps.contains ((65535 : Bp).val / 64) = true := by decide

theorem wit_PinsEventsAndConstants : assertFires ⟨false, true, true, true⟩ (net0.operandValue 0 (prev 0)) = false ∧
    (net1 two0).operandValue 0 (prev 0) = Nv.one ∧
    (NMap.get (fun _ => []) (net1 two0).fab.asserts 0).length < 64 := by decide

theorem wit_WordsThatDoNotIssue : (r0.takesSteps (galOf 0) = false ∧ r0.sched.phase ≠ .steps ∧ r0.schedLen ≤ r0.sched.step) ∧
    (let s := atStep two0
     (s.takesSteps (galOf 0) = true ∧ s.stepDue = true ∧ legalIn (s.four (galOf 0)) 0 (.const .z) = false) ∧
     legalIn (s.four (galOf 0)) 0 (.trig 63 (cur 1024)) = true ∧
     ((operandsOf (.trig 63 (cur 1024))).any (fun o => s.awaits 0 o) || s.syncWaits 0 (.trig 63 (cur 1024)) ||
       s.deepWaits 0 (.trig 63 (cur 1024))) = true) := by decide

/-- A state whose region 1 is EMULATION at word 2^17 of the Deep Store, granted to gallery 0, on a ready channel. -/
def deep0 : State :=
  regd [(R.DS_REGION 1, 0x80000010), (R.DS_REGION_SIZE 1, 1), (R.GAL_DS_GRANT 0, 2), (R.DEVICE_READY2, 0xFFFFFFFF)]
    (staged (2 ^ 25) 5)

theorem wit_BankAndDeepOperations_deep : deep0.operandValue 0 (prev 0) = Nv.one ∧ deep0.fab.memOps.contains 0 = false ∧
    (deep0.stagedAddr 0).2 = 0 ∧ deep0.granted (galOf 0) ((deep0.stagedAddr 0).1 * 8) = true ∧
    deep0.chanReady (dsChannel ((deep0.stagedAddr 0).1 * 8)) = true ∧
    mergeBytes 0xFF 0 (NMap.get dZero64 deep0.fab.wordX 0) = 0 := by decide

/-- The outstanding deep write of the witness. -/
def dwrite : DeepOp := ⟨0, 3, 0, 2 ^ 25, true, 0xFF, 7, 0⟩

theorem wit_BankAndDeepOperations_accept : r0.nextDeepWrite 1023 = none ∧
    ({ r0 with fab := { r0.fab with deep := [dwrite] } } : State).nextDeepWrite 0 = some dwrite ∧ r0.lnt.armed = [] ∧
    r0.mem.dsDrop.contains (2 ^ 25 / 8) = false ∧ r0.mem.dsUnread.contains (2 ^ 25 / 8) = false ∧
    r0.dsMark (2 ^ 25) = .good := by decide

/-- A state with one receive record at entry 0 of BP 0: a mesh arrival of step 1,023 to entry 0. -/
def recv0 (w : Word) : State := { two0 with fab := { two0.fab with recv := [(0, w)] } }

theorem wit_ArrivalsLandInTheReceiveArea_discard :
    r0.fab.deep.any (fun o => !o.write && o.cham == (65535 : Bp).val / 64 && o.step == 1023) = false ∧ RxPort.link ≠ .memory ∧ r0.fab.isolated.contains (galOf 65535) = false ∧
    r0.recvFor 65535 RxPort.link.code 1023 = none ∧
    ({ r0 with fab := { r0.fab with isolated := [63] } } : State).fab.isolated.contains (galOf 65535) = true := by decide

theorem wit_ArrivalsLandInTheReceiveArea_land :
    (recv0 0xD01FFC03).fab.isolated.contains (galOf 0) = false ∧
    (recv0 0xD01FFC03).recvFor 0 RxPort.link.code 1023 = some (0, 0xD01FFC03) ∧ (recv0 0xD01FFC03).lnt.armed = [] ∧
    NMap.get dFalse (recv0 0xD01FFC03).fab.recvBad 0 = false ∧
    (recv0 0xD01FFC03).fab.landed.contains (0, RxPort.link.code, 1023) = false ∧
    (recv0 0xD01FFC03).fab.ended.contains (0, 3) = false ∧ (recv0 0xD01FFC03).unforced 0 = true ∧
    tagGet (recv0 0xD01FFC03).fab.nsTag false 0 (rxBase false + 3) = false ∧
    (let s := recv0 0xD01FFC03
     ({ s with fab := { s.fab with landed := [(0, RxPort.link.code, 1023)] } } : State).fab.landed.contains (0, RxPort.link.code, 1023)
       = true) := by decide

/-- The outstanding deep read of the witness: it was issued before a write of the same word. -/
def dread : DeepOp := ⟨0, 3, 1023, 2 ^ 25, false, 0, 0, 0⟩

theorem wit_ArrivalsLandInTheReceiveArea_deep :
    let s : State := { r0 with fab := { r0.fab with deep := [dread, dwrite] } }
    s.fab.deep.find? (fun o => !o.write && o.cham == (0 : Bp).val / 64 && o.step == 1023) = some dread ∧
    s.mem.dsUnread = [] ∧ s.dsMark dread.word = .good ∧
    s.deepMerge dread.cham dread.word (s.fab.deep.takeWhile (fun p => p != dread)) = dread.data := by decide

/-- A state at step 0 of a one-step schedule whose only word waits for an arrival, in a hold at its limit. -/
def waiting0 : State :=
  let s := atStep two0
  { s with sched := { s.sched with running := true, holdLen := 0x10000, holdMax := 0x10000 },
           fab := { s.fab with istore := [(0, encodeStepWord ⟨.trig 63 (cur 1024), ⟨false, false, true⟩⟩)] } }

/-- A state at step 0 of a one-step schedule whose only word waits for nothing. -/
def issuing0 : State :=
  { waiting0 with sched := { waiting0.sched with holdLen := 0 },
                  fab := { waiting0.fab with istore := [(0, encodeStepWord ⟨.trig 63 (prev 0), ⟨false, false, true⟩⟩)] } }

/-- A state at step 0 of a one-step schedule whose only word waits for a TIME barrier of period 1,023. -/
def timing0 : State :=
  { waiting0 with fab := { waiting0.fab with barriers := [(15, 0xD00003FF)], istore := [(0, encodeStepWord ⟨.sync 15, ⟨false, false, false⟩⟩)] } }

/-- What BP 0 issues in those states. -/
def words (op : StepOp) : List (Nat × StepWord) := [(0, ⟨op, ⟨false, false, true⟩⟩)]

theorem wit_StepAndHoldPeriods :
    (r0.sched.phase ≠ .steps ∧ r0.schedLen ≤ r0.sched.step) ∧
    (r0.sched.holdLen = 0 ∧ ({ issuing0 with sched := { issuing0.sched with holdLen := 0xFFFF } } : State).sched.holdLen < 0x10000) ∧
    (issuing0.stepDue = true ∧ issuing0.decodeFetched (issuing0.fetchStep false) = some (words (.trig 63 (prev 0))) ∧
      (words (.trig 63 (prev 0))).any (fun w => issuing0.wordWaits w.1 w.2.op) = false ∧ issuing0.sched.backlog = [] ∧
      ({ issuing0 with sched := { issuing0.sched with backlog := [[0, 1]] } } : State).sched.backlog ≠ [] ∧
      issuing0.sched.holdOver = false) ∧
    (waiting0.stepDue = true ∧ 0 < waiting0.sched.holdLen ∧ waiting0.sched.holdMax ≤ waiting0.sched.holdLen ∧
      waiting0.decodeFetched (waiting0.fetchStep false) = some (words (.trig 63 (cur 1024))) ∧
      (words (.trig 63 (cur 1024))).any (fun w => waiting0.wordWaits w.1 w.2.op) = true ∧
      waiting0.onlyTimeWaits (words (.trig 63 (cur 1024))) = false) ∧
    (timing0.stepDue = true ∧ timing0.decodeFetched (timing0.fetchStep false) = some [(0, ⟨.sync 15, ⟨false, false, false⟩⟩)] ∧
      timing0.onlyTimeWaits [(0, ⟨.sync 15, ⟨false, false, false⟩⟩)] = true) ∧
    (let s := { waiting0 with sched := { waiting0.sched with phase := .t3 } }
     s.sched.phase = .t3 ∧ 0 < s.sched.holdLen ∧ s.sched.holdMax ≤ s.sched.holdLen) := by decide

/-- A word that no operation has. -/
theorem wit_StepAndHoldPeriods_rejected :
    let s := { issuing0 with fab := { issuing0.fab with istore := [(0, 0xFFFFFFFFFFFFFFFF)] } }
    s.stepDue = true ∧ s.decodeFetched (s.fetchStep false) = none := by decide

/-- Gallery 63 Off. -/
def off63 : State := regd [(R.PWR_GAL_STATE 3, 0x80000000)] r0

theorem wit_CountersAreCleared : r0.canon ∧ clearedBy .cicCountsClear = some [R.CIC_COUNTS] ∧
    clearedBy (.clrSlip 63) = some [R.GAL_SLIP_COUNT 63] ∧ r0.windowOpen (.clrSlip 63) = true ∧
    r0.windowOpen .cicCountsClear = true ∧ r0.isOff (63 : Gal).val = false ∧
    windowOf (.clrSlip 63) = some 63 ∧ windowOf (.softSet 63 31) = some 63 ∧ off63.isOff (63 : Gal).val = true :=
  ⟨⟨by decide, by decide⟩, rfl, rfl, by decide⟩

/-- A running device with an image, between cycles, its first tick ahead. -/
def between0 : State :=
  let s := regd [(R.DEVICE_STATE, 2)] two0
  { s with sched := { s.sched with running := true } }

/-- The same device in a phase of its cycle, after the steps of a schedule of length 0. -/
def inPhase (p : Phase) (s : State) : State := { s with sched := { s.sched with phase := p } }

/-- An Echo record of one unit, of tick 7, for the ring's start. -/
def rec0 : EchoRec := ⟨0, 1, false, 0, 7, 0, 0, 0, 0, 0, 0, 0, 0, [], []⟩

/-- A state with a ring of 2^24 bytes that captures no gallery. -/
def ring0 (s : State) : State :=
  let s := regd [(R.DS_REGION 12, 0x80000020), (R.DS_REGION_SIZE 12, 1)] s
  { s with echo := { s.echo with capturing := true } }

theorem wit_CycleBeginsAndTurnsOver :
    (r0.sched.running = false ∧ r0.sched.phase ≠ .steps ∧ r0.sched.phase ≠ .t2 ∧ r0.echo.recs = []) ∧
    (between0.sched.phase = .between ∧ between0.sched.running = true ∧ between0.hasImage = true ∧
      between0.sched.engine = false ∧ between0.nextDue = none ∧ between0.tickWaits = false ∧ between0.psg.early = []) ∧
    (let s := { between0 with sched := { between0.sched with nextGrid := 1 } }
     s.sched.phase = .between ∧ s.hasImage = true ∧ s.nextDue = none ∧ s.tickWaits = true ∧ s.awaitsNotice = false) ∧
    (let s := regd [(R.LTC_CFG, 1)] { between0 with psg := { between0.psg with holds := [(3, 0)] } }
     s.sched.phase = .between ∧ s.hasImage = true ∧ s.nextDue = none ∧ s.tickWaits = true ∧ s.awaitsNotice = true) ∧
    ((inPhase .steps between0).schedLen ≤ (inPhase .steps between0).sched.step ∧ between0.sched.holdLen = 0 ∧
      between0.rim.lastPinout = none) ∧
    (inPhase .t2 between0).echo.capturing = false ∧
    ((inPhase .t2 (ring0 between0)).closeWhole.isSome = true ∧ (inPhase .t2 (ring0 between0)).echo.capturing = true) ∧
    ({ ring0 r0 with echo := { (ring0 r0).echo with recs := [rec0] } } : State).echo.recs = [rec0] ∧
    rec0.tick ≠ r0.sched.curTick := by decide

/-- An arrival that is still in flight at T3. -/
def flying0 : State :=
  let s := inPhase .t3 between0
  { s with fab := { s.fab with inflight := [⟨0, .mesh, 0, Nv.one, 5, 0⟩] } }

theorem wit_GenerationFlipCarriesForward :
    r0.sched.phase ≠ .t3 ∧ (flying0.sched.phase = .t3 ∧ flying0.flipWaits = true) ∧
    ((inPhase .t3 between0).sched.phase = .t3 ∧ between0.fab.inflight = [] ∧ between0.fab.flights = [] ∧
      between0.fab.deep.any (fun o => !o.write) = false ∧ (inPhase .t3 between0).missingFlits = [] ∧
      between0.echo.snap = none ∧ between0.sched.holdLen = 0 ∧ between0.sched.holdOver = false) ∧
    ({ flying0 with sched := { flying0.sched with holdOver := true } } : State).sched.holdOver = true ∧
    0 < ({ inPhase .t3 between0 with sched := { (inPhase .t3 between0).sched with holdLen := 1 } } : State).sched.holdLen ∧
    (NMap.wf dFalse between0.fab.nsPrev = true ∧ NMap.wf dFalse (tagSet [] true 65535 1023) = true ∧
      tagGet (tagSet [] true 65535 1023) false 65535 2047 = tagGet (tagSet [] true 65535 1023) true 65535 1023) := by decide

/-- A boundary action of the next boundary, asked for by nobody. -/
def due (a : BoundaryAct) : Pending := ⟨a, none, none, false⟩

/-- A running device at T5 with one due action. -/
def atT5 (ps : List Pending) : State := { between0 with sched := { between0.sched with phase := .t5, pending := ps } }

/-- A tick configuration that waits: LOCKED at 1,000 ns. -/
def cfg0 : TickCfg := ⟨false, 0, 0, 0, 1000, 0⟩

/-- A running device in its cycle whose grid instant has come. -/
def late0 : State :=
  let s := regd [(R.SCHED_PERIOD_NS, 1000)] (inPhase .steps between0)
  { s with sched := { s.sched with dtc := 5, nextGrid := 3 } }

theorem wit_BoundaryCommands :
    r0.sched.running = false ∧
    (late0.sched.running = true ∧ late0.sched.phase ≠ .between ∧ late0.sched.overrun = false ∧
      late0.missesGrid 0 = true ∧ late0.inLattice = false) ∧
    (let s := regd [(R.LTC_CFG, 1)] late0
     s.missesGrid 0 = true ∧ s.sched.phase ≠ .between ∧ s.inLattice = true) ∧
    ((atT5 [due (.context 7)]).sched.engine = false ∧ (atT5 [due (.context 7)]).echo.stageDue = false ∧
      (atT5 [due (.context 7)]).nextDue = some (due (.context 7))) ∧
    ((atT5 [due (.tickCfg cfg0)]).nextDue = some (due (.tickCfg cfg0)) ∧
      (atT5 [due (.tickCfg cfg0)]).pinContext.sched.nextTick = (atT5 [due (.tickCfg cfg0)]).sched.nextTick) ∧
    (({ r0 with sched := { r0.sched with pending := [⟨.tickCfg cfg0, none, none, true⟩] } } : State).nextDue =
      some ⟨.tickCfg cfg0, none, none, true⟩ ∧ r0.sched.phase ≠ .t5) ∧
    (let s := (atT5 []).haltAtEnd
     s.sched.engine = false ∧ s.echo.stageDue = false ∧ s.sched.phase = .t5 ∧
      s.sched.pending.any (fun p => s.isDue p && !isHalt p.act) = false ∧ s.sched.haltPending = true) ∧
    (let s := { r0 with sched := { r0.sched with pending := [⟨.halt false, none, none, true⟩] } }
     s.sched.running = false ∧ s.sched.phase ≠ .t5 ∧ s.sched.pending.filter (fun p => s.isDue p && isHalt p.act) ≠ [] ∧
      s.sched.pending.any (fun p => s.isDue p && !isHalt p.act) = false) ∧
    r0.isOff (63 : Gal).val = false ∧
    ({ r0 with sched := { r0.sched with engine := true } } : State).sched.engine = true ∧
    r0.sched.phase = .between ∧ (inPhase .steps between0).sched.phase = .steps := by decide

/-- A state in which every function of DEVICE_READY is ready. -/
def allUp (s : State) : State :=
  regd [(R.DEVICE_READY0, 0xFFFFFFFF), (R.DEVICE_READY1, 0xFFFFFFFF), (R.DEVICE_READY2, 0xFFFFFFFF),
    (R.DEVICE_READY3, 0xFFFFFFFF)] s

/-- The header of a command of queue 15. -/
def hdr0 : Hdr := ⟨15, 0xFFFF, 1023, true, none, none⟩

/-- A state with an image, in a run state. -/
def image (rs : Word) (s : State) : State := regd [(R.DEVICE_STATE, rs)] (allUp s)

/-- A queue that is enabled with two entries. -/
def queued (s : State) : State := regd [(R.MBX_Q_CFG 15, 0x80020000)] s

/-- A wait for readiness of `hdr0`. -/
abbrev ready0 : Instr := .getReady hdr0 1 0

/-- The command that `hdr0` stands for, fetched with an entry of zeros: OPCODE 0 spells no command. -/
def entered : State := { r0 with mbx := { r0.mbx with entries := [(cmdOf hdr0, List.replicate 64 0)] } }

theorem wit_MailboxCommandsAreGated :
    (let out := [((⟨15, 1, 0, false, false, none⟩ : CmdId), 0), (cmdOf hdr0, 0)]
     let m := { r0.mbx with barriers := [cmdOf hdr0], outstanding := out }
     ({ r0 with mbx := m } : State).barred (cmdOf hdr0) = true) ∧
    (r0.mailboxForm (.run hdr0)).any (fun f => !entered.mayStart f (.run hdr0)) = true ∧
    (r0.mailboxForm (.run hdr0)).any (fun f => r0.mayStart f (.run hdr0) && !f.always && (f.hdr.target == none) &&
      ((r0.begin (cmdOf f.hdr) f.cls).lnt.coreFw != 2) && (r0.firstUnready f.needs == some coreBit)) = true ∧
    ({ r0 with lnt := { r0.lnt with coreFw := 2 } } : State).lnt.coreFw = 2 ∧
    (r0.mailboxForm (.run { hdr0 with target := some 5 })).any (fun f => f.hdr.target.isSome && !f.target &&
      r0.mayStart f (.run { hdr0 with target := some 5 })) = true ∧
    (r0.mailboxForm (.imageVerify hdr0)).any (fun f => f.needs == chanBits && r0.mayStart f (.imageVerify hdr0) &&
      (r0.begin (cmdOf f.hdr) f.cls).firstUnready f.needs == some 112) = true ∧
    ((regd [(R.DEVICE_READY3, 0xFFFFFFFF), (R.DEVICE_READY2, 0x7FFFFFFF)] r0).begin (cmdOf hdr0) .long).firstUnready chanBits =
      some 95 ∧ (r0.mailboxForm ready0).any (fun f => f.always) = true := by decide

theorem wit_CompletionPostsOneEntry : r0.isOut (cmdOf hdr0) = false ∧ (r0.begunBy (.run hdr0)).isOut (cmdOf hdr0) = true ∧
    (cmdOf hdr0).origin = none ∧ (cmdOf hdr0).intr = true ∧ (cmdOf { hdr0 with intr := false }).intr = false := by decide

theorem wit_RunsForcesAndPeeks_run :
    (let s := allUp r0
     s.serves (.run hdr0) = true ∧ (s.begunBy (.run hdr0)).hasImage = false ∧ s.serves (.halt hdr0 true) = true ∧
     (s.begunBy (.halt hdr0 true)).hasImage = false ∧ s.serves (.step hdr0 0) = true ∧ s.serves (.selectContext hdr0 7) = true ∧
     s.serves (.setTick hdr0 0 0 0 0 1000 0) = true) ∧
    (let s := image 2 r0
     s.serves (.run hdr0) = true ∧ (s.begunBy (.run hdr0)).hasImage = true ∧ (s.begunBy (.run hdr0)).isRunning = true ∧
     (s.begunBy (.run hdr0)).inLattice = false ∧ s.serves (.halt hdr0 false) = true ∧
     (s.begunBy (.halt hdr0 false)).isRunning = true) ∧
    (let s := image 1 r0
     s.serves (.run hdr0) = true ∧ (s.begunBy (.run hdr0)).hasImage = true ∧ (s.begunBy (.run hdr0)).isRunning = false ∧
     (s.begunBy (.run hdr0)).inLattice = false ∧ (s.begunBy (.run hdr0)).keepMarch = false ∧
     (s.begunBy (.halt hdr0 false)).isRunning = false ∧ hdr0.target = none ∧
     (let h := { hdr0 with target := some 5 }
      s.serves (.halt h false) = true ∧ (5 : BitVec 64) ≠ (s.begunBy (.halt h false)).sched.nextTick)) ∧
    (let s := { image 1 r0 with mem := { r0.mem with marches := [⟨63, true, 15, false, false⟩] } }
     s.serves (.run hdr0) = true ∧ (s.begunBy (.run hdr0)).isRunning = false ∧ (s.begunBy (.run hdr0)).keepMarch = true) ∧
    (let s := regd [(R.LTC_CFG, 1)] (image 1 r0)
     s.serves (.run hdr0) = true ∧ (s.begunBy (.run hdr0)).hasImage = true ∧ (s.begunBy (.run hdr0)).inLattice = true) ∧
    (let s := regd [(R.DEVICE_STATE, 5), (R.SCHED_CTX_LEN 7, 1024)] (allUp r0)
     let u := s.begunBy (.selectContext hdr0 7)
     s.serves (.selectContext hdr0 7) = true ∧ u.fld R.SCHED_TICK_CFG F.SCHED_TICK_CFG_CTX_SOURCE ≠ 1 ∧ u.pace = true ∧
     u.resident 7 = true ∧ u.selecting = false) := by decide

/-- A net block: step 0 of BP 63 of chamber 15 of gallery 63, of kind and value. -/
def block0 (kind value : BitVec 8) : NetBlock := ⟨0, 15, 63, kind, 0, value, 0, 64⟩

/-- A running device of one context of two steps, ready for mailbox commands. -/
def forced (l : List ForceEntry) (rs : Word) : State :=
  let s := regd [(R.GAL_MODE 0, 2), (R.SCHED_CTX_LEN 0, 2)] (image rs r0)
  { s with fab := { s.fab with forces := l } }

/-- A force on the block's BP. -/
def force0 : ForceEntry := ⟨1023, .step 0 0, false, [⟨0, some Nv.one, none, false⟩]⟩

theorem wit_RunsForcesAndPeeks_force :
    (let s := allUp r0
     s.serves (.force hdr0 (block0 0 0)) = true ∧ (s.begunBy (.force hdr0 (block0 0 0))).forceRefused (block0 0 0) = some 0x32 ∧
     s.serves (.release hdr0 (block0 0 7)) = true ∧
     (s.begunBy (.release hdr0 (block0 0 7))).forceRefused { block0 0 7 with value := 0 } = some 0x32 ∧
     s.serves (.deposit hdr0 (block0 0 0)) = true ∧
     (s.begunBy (.deposit hdr0 (block0 0 0))).forceRefused (block0 0 0) = some 0x32) ∧
    (let s := forced [] 2
     let u := s.begunBy (.force hdr0 (block0 0 1))
     s.serves (.force hdr0 (block0 0 1)) = true ∧ u.forceRefused (block0 0 1) = none ∧ u.forceTick none = some 1 ∧
     u.isRunning = true ∧ (u.fab.forces.filter (fun x => x.bp == blockBp (block0 0 1))).length < 4 ∧
     u.forceEntry (blockBp (block0 0 1)) (blockTarget (block0 0 1)) = none ∧
     s.serves (.deposit hdr0 (block0 0 1)) = true ∧ s.serves (.release hdr0 (block0 0 7)) = true ∧
     (s.begunBy (.release hdr0 (block0 0 7))).forceRefused { block0 0 7 with value := 0 } = none ∧
     (s.begunBy (.release hdr0 (block0 0 7))).forceEntry (blockBp (block0 0 7)) (blockTarget (block0 0 7)) = none) ∧
    (let s := forced [force0, force0, force0, force0] 2
     4 ≤ ((s.begunBy (.force hdr0 (block0 0 1))).fab.forces.filter (fun x => x.bp == blockBp (block0 0 1))).length ∧
     s.serves (.force hdr0 (block0 0 1)) = true) ∧
    (let u := (forced [force0] 2).begunBy (.release hdr0 (block0 0 1))
     u.forceEntry (blockBp (block0 0 1)) (blockTarget (block0 0 1)) = some force0 ∧
      force0.changes.all (fun y => y.val.isSome) = true) := by decide

theorem wit_RunsForcesAndPeeks_late :
    let s := { forced [] 2 with sched := { (forced [] 2).sched with nextTick := 9, phase := .steps } }
    let h := { hdr0 with target := some 1 }
    s.serves (.force h (block0 0 1)) = true ∧ (s.begunBy (.force h (block0 0 1))).forceTick h.target = none ∧
    (s.begunBy (.force h (block0 0 1))).forceRefused (block0 0 1) = none := by decide

theorem wit_RunsForcesAndPeeks_peek :
    (let s := forced [] 1
     let u := s.begunBy (.stateDeposit hdr0 (block0 1 1))
     s.serves (.stateDeposit hdr0 (block0 1 1)) = true ∧ u.netRefused (block0 1 1) = none ∧ (1 : BitVec 8).toNat < 2 ∧
     (block0 1 1).addr.toNat < u.netCount (block0 1 1) ∧ u.halted = true ∧
     ((forced [] 2).begunBy (.stateDeposit hdr0 (block0 1 1))).halted = false) ∧
    (let s := forced [] 1
     let b : HostBuf := ⟨8, [], none⟩
     let u := s.begunBy (.peek hdr0 (block0 1 1) b)
     s.serves (.peek hdr0 (block0 1 1) b) = true ∧ u.netRefused (block0 1 1) = none ∧ u.netFour (block0 1 1) = false ∧
     0 < (block0 1 1).count.toNat ∧ (block0 1 1).count.toNat ≤ 64 ∧ (block0 1 1).kind = 1 ∧ 0 < b.len ∧ b.fault = none ∧
     (block0 1 1).addr.toNat + (block0 1 1).count.toNat ≤ 2048 ∧
     (bitBytes ((List.range 64).map (fun i => (u.prevNet (blockBp (block0 1 1)) i).v))).length ≤ b.len) := by decide

/-- A host buffer of zeros. -/
def buf0 (n : Nat) : HostBuf := ⟨n, List.replicate n 0, none⟩

theorem wit_MemoryCommandsAndQueues_memory :
    (buf0 8).fault = none ∧
    (let s := allUp r0
     let b := buf0 8
     (s.serves (.memRead hdr0 0 0x3FFFFF8 b) = true ∧ memLen 8 = true ∧ dmRange 0x3FFFFF8 8 = true ∧
       dmRange 0x4000000 8 = false ∧ s.serves (.memRead hdr0 2 0 b) = true ∧ 1 < (2 : BitVec 8).toNat) ∧
     (s.serves (.memWrite hdr0 0 0x3FFFFF8 b) = true ∧ b.bytes.take b.len ≠ [] ∧ s.serves (.memWrite hdr0 2 0 b) = true) ∧
     (s.serves (.memRead hdr0 1 0 b) = true ∧ deniedAt (s.begunBy (.memRead hdr0 1 0 b)).hostMayRead 0 8 = none ∧
       ((s.begunBy (.memRead hdr0 1 0 b)).dsReadBytes 0 8).2.1 = false ∧ s.serves (.memWrite hdr0 1 0 b) = true ∧
       deniedAt (s.begunBy (.memWrite hdr0 1 0 b)).hostMayWrite 0 8 = none) ∧
     (s.serves (.memRead hdr0 1 0x7F0000000 b) = true ∧ s.serves (.memWrite hdr0 1 0x7F0000000 b) = true ∧
       deniedAt (s.begunBy (.memRead hdr0 1 0x7F0000000 b)).hostMayRead 0x7F0000000 8 = some 0x7F0000000 ∧
       deniedAt (s.begunBy (.memWrite hdr0 1 0x7F0000000 b)).hostMayWrite 0x7F0000000 8 = some 0x7F0000000 ∧
       0x7F0000000 + 8 ≤ 2 ^ 35) ∧
     (s.serves (.memRead hdr0 1 0x7FFFFFFFF b) = true ∧ 2 ^ 35 < 0x7FFFFFFFF + 8) ∧
     (s.serves (.memAtomic hdr0 0 0x3FFFFF8 1 5) = true ∧ s.serves (.memAtomic hdr0 1 0 1 5) = true) ∧
     (let b := { b with fault := some 7 }
      s.serves (.memRead hdr0 1 0 b) = true ∧ s.serves (.memWrite hdr0 1 0 b) = true ∧ s.serves (.memWrite hdr0 0 1 b) = true ∧
      7 < b.len ∧ b.bytes.take 7 ≠ [])) := by decide

/-- A Deep Store word at 0 that a read finds uncorrectable. -/
theorem wit_MemoryCommandsAndQueues_ue :
    let s := { allUp r0 with mem := { r0.mem with dsEcc := [(0, .double)] } }
    s.serves (.memRead hdr0 1 0 (buf0 8)) = true ∧ deniedAt (s.begunBy (.memRead hdr0 1 0 (buf0 8))).hostMayRead 0 8 = none ∧
    ((s.begunBy (.memRead hdr0 1 0 (buf0 8))).dsReadBytes 0 8).2.1 = true := by decide

/-- A readiness wait that is over. -/
def wait0 : ReadyWait := ⟨cmdOf hdr0, 0, 0⟩

/-- The command of `hdr0` outstanding since period 0 with a class, its next progress entry due at 0. -/
def begun0 (cls : CmdClass) (now : Nat) : State :=
  let s := queued r0
  { s with sched := { s.sched with now := now },
           mbx := { s.mbx with outstanding := [(cmdOf hdr0, 0)], started := [⟨cmdOf hdr0, cls, 0, 0⟩] } }

/-- A remote access of 8 bytes at device 511. -/
def remoteEntry (op : Byte) : List Byte := [op, 4, 0, 0, 0xFF, 1] ++ List.replicate 10 0 ++ [8] ++ List.replicate 47 0

/-- A remote MEM_READ of 8 bytes at device 511. -/
def remote0 : List Byte := remoteEntry 0x40

theorem wit_MemoryCommandsAndQueues_queues :
    ((queued r0).qOn 15 = true ∧ (1 : BitVec 10).toNat < (queued r0).qSize 15 ∧ (queued r0).qSize 15 ≤ (2 : BitVec 10).toNat ∧
      ((0 : BitVec 10).toNat + (queued r0).qSize 15 - (queued r0).fld (R.MBX_CQ_HEAD 15) F.MBX_CQ_HEAD_HEAD %
        (queued r0).qSize 15) % (queued r0).qSize 15 ≤ (queued r0).cqUsed 15) ∧ r0.qOn 0 = false ∧
    (regd [(R.MBX_SQ_TAIL 15, 1)] (queued (allUp r0))).canFetch 15 = true ∧ r0.canFetch 15 = false ∧
    (let s := begun0 .long 0
     s.isOut (cmdOf hdr0) = true ∧ hdr0.origin = none ∧ s.mbx.started = [⟨cmdOf hdr0, .long, 0, 0⟩] ∧
     s.outstanding 15 + s.cqUsed 15 < s.qSize 15) ∧
    (∀ x ∈ (begun0 .normal 0).mbx.started, x.cmd = cmdOf hdr0 → x.cls ≠ .long ∨ (begun0 .normal 0).sched.now < x.next) ∧
    (let s := begun0 .prompt 375000
     ∀ x ∈ s.mbx.started, x.cmd.queue = (15 : Fin 16).val ∧ s.waitsBoundary x.cmd = false ∧ x.since + 375000 ≤ s.sched.now) ∧
    (let s := begun0 .normal 15000000
     ∀ x ∈ s.mbx.started, x.cls = .normal ∧ x.since + 15000000 ≤ s.sched.now) ∧
    (∀ x ∈ (begun0 .normal 374999).mbx.started, x.cls = .long ∨ (begun0 .normal 374999).sched.now < x.since + 375000) ∧
    r0.readyBit 115 = false ∧ (allUp r0).readyBit 115 = true ∧ (allUp r0).mbx.outstanding = [] ∧
    (let s := regd [(R.LTC_ID, 0x80000001), (R.LTC_ROUTE 127, 0x8F000000)] (allUp r0)
     let c := { cmdOf hdr0 with remote := true }
     let u := s.begin c (entryClass remote0)
     s.barred c = false ∧ s.mbx.forwarded.any (fun f => f.1 == c) = false ∧ s.fetchedEntry c = none ∧
     u.lowestCore.isSome = true ∧ remoteBad remote0 = false ∧ u.bit R.LTC_ID F.LTC_ID_MAPPED = true ∧
     (u.routePort (entryDev remote0)).isSome = true ∧ entryDev remote0 = 511 ∧
     entryOp (remoteEntry 0x41) = 0x41 ∧ entryOp remote0 ≠ 0x41 ∧ 7 < entryLen (remoteEntry 0x41) ∧
     remoteBad (remoteEntry 0x41) = false ∧ entryDev (remoteEntry 0x41) = 511 ∧
     ({ s with mbx := { s.mbx with forwarded := [(c, 511)] } } : State).mbx.forwarded.any (fun f => f.1 == c) = true) := by
  decide

theorem wit_MemoryCommandsAndQueues_ready :
    (allUp r0).serves ready0 = true ∧ ((allUp r0).begunBy ready0).allReady 1 = true ∧
    (let s := regd [(R.DEVICE_READY3, 0xFFFF0000)] r0
     s.serves ready0 = true ∧ (s.begunBy ready0).allReady 1 = false) ∧
    ({ r0 with mbx := { r0.mbx with waits := [wait0] } } : State).mbx.waits.find? (fun w => r0.allReady w.mask) = some wait0 ∧
    ({ r0 with mbx := { r0.mbx with waits := [wait0] } } : State).mbx.waits.find? (fun w => Nat.ble w.timeout r0.sched.now) =
      some wait0 := by decide

/-- Echo armed, with two sequencer stages and three snapshot slots. -/
def armed0 (s : State) : State := regd [(R.ECHO_CTL, 0x82000003)] s

/-- An arm block: WINDOW, one unit of ring at 0x20, everything else zero. -/
def armBlock : List Byte :=
  List.replicate 8 0 ++ [0x20, 0, 1, 0] ++ List.replicate 3124 0

theorem wit_EchoCapturesAndSnapshots_sequencer :
    (let s := { armed0 (atT5 []) with echo := { (armed0 (atT5 [])).echo with stageDue := true } }
     s.sched.phase = .t5 ∧ s.echo.stage + 1 < s.stages ∧
     ({ s with echo := { s.echo with stage := 1 } } : State).stages ≤ 1 + 1) ∧
    r0.echo.stageDue = false ∧ r0.echo.recs = [] ∧
    ({ r0 with echo := { r0.echo with windowDue := true } } : State).echo.windowDue = true ∧
    ((atT5 [due .disarm]).sched.engine = false ∧ (atT5 [due .disarm]).nextDue = some (due .disarm)) := by decide

theorem leNat_zeros (n : Nat) : leNat (List.replicate n 0) = 0 := by
  induction n with
  | zero => rfl
  | succ n ih => rw [List.replicate_succ, leNat, ih]; rfl

/-- From byte 12 on the block holds zeros. -/
theorem armNat_tail (a n : Nat) (h : 12 ≤ a) : armNat armBlock a n = 0 := by
  have e : armBlock.drop a = List.replicate (3136 - a) 0 := by
    have : armBlock = [0, 0, 0, 0, 0, 0, 0, 0, 0x20, 0, 1, 0] ++ List.replicate 3124 0 := by rfl
    rw [this, List.drop_append, List.drop_eq_nil_of_le (by simpa using h), List.drop_replicate]
    simp
    omega
  rw [armNat, e, List.take_replicate, leNat_zeros]

theorem armBlock_wf : armWf armBlock = true := by
  have g : (List.range 64).all (fun g => armNat armBlock (0x40 + 48 * g + 36) 12 == 0 &&
      Nat.blt (armNat armBlock (0x40 + 48 * g + 32) 4) 4096) = true := by
    rw [List.all_eq_true]
    intro g _
    rw [armNat_tail _ _ (by omega), armNat_tail _ _ (by omega)]
    rfl
  simp only [armWf, g, armNat_tail 0x2A 22 (by omega), Bool.and_true, List.all_cons, List.all_nil]
  decide

theorem armBlock_ok (s : State) (h : s.armed = false) (h1 : s.overlaps 0x20 1 [] = false) (h2 : s.recMax = 1) :
    s.armFail armBlock = none := by
  have a6 : armNat armBlock 6 1 = 0 := by decide
  have a8 : armNat armBlock 8 2 = 0x20 := by decide
  have a10 : armNat armBlock 0x0A 2 = 1 := by decide
  have a4 : armNat armBlock 4 1 = 0 := by decide
  have a0 : armNat armBlock 0 1 = 0 := by decide
  simp [State.armFail, armBlock_wf, h, a6, a8, a10, a4, a0, armNat_tail, h1, State.windowRefused, h2]

theorem wit_EchoCapturesAndSnapshots_arm :
    (atT5 [due (.arm armBlock)]).sched.engine = false ∧ (atT5 [due (.arm armBlock)]).echo.stageDue = false ∧
    (atT5 [due (.arm armBlock)]).nextDue = some (due (.arm armBlock)) ∧
    ((atT5 [due (.arm armBlock)]).dropPending (due (.arm armBlock))).armFail armBlock = none :=
  ⟨rfl, rfl, rfl, armBlock_ok _ rfl rfl rfl⟩

/-- The buffer of the arm block. -/
def armBuf : HostBuf := ⟨3136, armBlock, none⟩

theorem wit_EchoCapturesAndSnapshots_refused :
    (atT5 [due (.arm [])]).nextDue = some (due (.arm [])) ∧
    ((armed0 (atT5 [due (.arm [])])).dropPending (due (.arm []))).armFail [] = some 4 := by decide

theorem wit_EchoCapturesAndSnapshots_armBlock :
    3136 ≤ armBlock.length ∧ ((image 2 r0).begunBy (.echoArm hdr0 armBuf)).armFail armBlock = none ∧
    armBlock.take 3136 = armBlock := by
  have l : armBlock.length = 3136 := by rw [armBlock, List.length_append, List.length_append, List.length_replicate, List.length_replicate]; rfl
  exact ⟨by omega, armBlock_ok _ rfl rfl rfl, List.take_of_length_le (by omega)⟩

theorem wit_EchoCapturesAndSnapshots_commands :
    ((image 2 r0).serves (.echoArm hdr0 armBuf) = true ∧ ((image 2 r0).begunBy (.echoArm hdr0 armBuf)).armed = false ∧
      armBuf.fault = none) ∧
    ((image 2 r0).serves (.echoDisarm hdr0) = true ∧ (image 2 r0).serves (.echoTrigger hdr0 true) = true ∧
      ((image 2 r0).begunBy (.echoTrigger hdr0 true)).armed = false) ∧
    (let s := armed0 (image 2 r0)
     s.serves (.echoArm hdr0 armBuf) = true ∧ (s.begunBy (.echoArm hdr0 armBuf)).armed = true ∧
     s.serves (.echoTrigger hdr0 true) = true ∧ (s.begunBy (.echoTrigger hdr0 true)).armed = true) := by decide

/-- The armed device with its ring, and an ECHO_READ of its second unit. -/
def ringRead (s : State) : State := (ring0 (armed0 s)).begunBy (.echoRead hdr0 64 true (buf0 64))

theorem wit_EchoCapturesAndSnapshots_ring :
    (ring0 (armed0 (image 2 r0))).serves (.echoRead hdr0 64 true (buf0 64)) = true ∧
    (ringRead (image 2 r0)).armed = true ∧ (64 : BitVec 64).toNat % 64 = 0 ∧
    (64 : BitVec 64).toNat < (ringRead (image 2 r0)).regionSize 12 ∧ (buf0 64).len ≤ (ringRead (image 2 r0)).regionSize 12 ∧
    (ringRead (image 2 r0)).ringReady 64 64 = true ∧ ((ringRead (image 2 r0)).ringBytes 64 64).2.1 = false ∧
    (let s := regd [(R.DEVICE_READY3, 0xFFFFFFFF)] r0
     (ring0 (armed0 s)).serves (.echoRead hdr0 64 true (buf0 64)) = true ∧ (ringRead s).ringReady 64 64 = false) ∧
    (let s := { image 2 r0 with mem := { r0.mem with dsEcc := [(0x20000040 / 8, .double)] } }
     ((ringRead s).ringBytes 64 64).2.1 = true) := by decide

/-- A snapshot in progress, in a phase. -/
def job0 (p : Nat) : SnapJob := ⟨p, 0, false, none, [], [], [], [], 5, 0, 0, false, false, 0x7EF000000, 0, 2, 2, 1, 0, false, 0, []⟩

/-- A state with that snapshot. -/
def snapping (p : Nat) : State := { r0 with echo := { r0.echo with snap := some (job0 p) } }

theorem wit_EchoCapturesAndSnapshots_snapshot :
    r0.echo.snap = none ∧ (snapping 1).echo.snap = some (job0 1) ∧ (job0 1).phase = 1 ∧ (snapping 1).fab.isolated = [] ∧
    (job0 2).phase = 2 ∧ (job0 3).phase = 3 ∧ (job0 1).phase ≠ 2 ∧ (job0 2).phase ≠ 1 ∧ (job0 2).phase ≠ 3 ∧
    (let s := armed0 (atT5 [due (.snapshot 2 false)])
     s.sched.engine = false ∧ s.nextDue = some (due (.snapshot 2 false)) ∧
     (s.dropPending (due (.snapshot 2 false))).armed = true ∧
     (s.dropPending (due (.snapshot 2 false))).echo.snap = none ∧
     (let s := { s with echo := { s.echo with snap := some (job0 3) } }
      s.nextDue = some (due (.snapshot 2 false)) ∧ (s.dropPending (due (.snapshot 2 false))).echo.snap.isSome = true ∧
      (due (.snapshot 2 false)).cmd = none)) ∧
    ((atT5 [due (.snapshot 2 false)]).nextDue = some (due (.snapshot 2 false)) ∧
      ((atT5 [due (.snapshot 2 false)]).dropPending (due (.snapshot 2 false))).armed = false) ∧
    (armed0 (image 2 r0)).serves (.snapshot hdr0 2) = true ∧
    (let u := (armed0 (image 2 r0)).begunBy (.snapshot hdr0 2)
     (2 : BitVec 8).toNat < u.fld R.ECHO_CTL F.ECHO_CTL_SNAP_SLOTS ∧
     u.fld R.ECHO_CTL F.ECHO_CTL_SNAP_SLOTS ≤ (3 : BitVec 8).toNat ∧ u.echo.snap = none) ∧
    ((0x7EF000000 : BitVec 64).toNat % 2 ^ 24 = 0 ∧ (0x7EF000000 : BitVec 64).toNat < 2 ^ 35 ∧
      (image 2 r0).serves (.restore hdr0 0x7EF000000 true) = true ∧
      ((image 2 r0).begunBy (.restore hdr0 0x7EF000000 true)).hasImage = true ∧
      ((image 2 r0).begunBy (.restore hdr0 0x7EF000000 true)).kindAt 0x7EF000000 = 0) ∧
    ((allUp r0).serves (.restore hdr0 0 false) = true ∧ ((allUp r0).begunBy (.restore hdr0 0 false)).hasImage = false) := by
  decide

/-- The restore action of the witness. -/
def restore0 : Pending := ⟨.restore 0 false, none, none, true⟩

/-- A halted device with an image that is asked to restore the snapshot at 0, with some Deep Store bytes. -/
def restoring (ds : List Host.Cell) : State :=
  let s := regd [(R.DEVICE_STATE, 1)] r0
  { s with sched := { s.sched with pending := [restore0] }, mem := { s.mem with ds := ds } }

theorem wit_EchoCapturesAndSnapshots_badRestore :
    (restoring []).sched.engine = false ∧ (restoring []).nextDue = some restore0 ∧ (restoring []).sched.running = false ∧
    ((restoring []).dropPending restore0).hasImage = true ∧
    (((restoring []).dropPending restore0).readErrors 0 0).restoreFail 0 = some 0x1A ∧
    ({ restoring [] with regs := [] } : State).nextDue = some restore0 ∧
    (({ restoring [] with regs := [] } : State).dropPending restore0).hasImage = false := by decide

/-- The covered bytes of a slot of zeros at 0. -/
def zeroCovered : List Byte := ((restoring []).dropPending restore0).covered 0 0

/-- A snapshot of no gallery, whose digest is right. -/
def goodSnap : List Host.Cell :=
  [(0, 0x50), (1, 0x41), (2, 0x4E), (3, 0x53), (4, 1), (6, 2)] ++
    (List.range 32).map (fun i => (0x60 + i, Config.shake256 zeroCovered i))

/-- A key above every listed one reads as the default. -/
theorem get_above (m : NMap Byte) (k : Nat) (h : ∀ e ∈ m, e.1 < k) : NMap.get dByte m k = dByte k := by
  induction m with
  | nil => rfl
  | cons e t ih =>
    obtain ⟨j, v⟩ := e
    have hj := h (j, v) List.mem_cons_self
    have : ¬ k = j ∧ ¬ k < j := by constructor <;> simp at hj <;> omega
    simp [NMap.get, this.1, this.2, ih (fun e he => h e (List.mem_cons_of_mem _ he))]

theorem goodSnap_low : ∀ e ∈ goodSnap, e.1 < 0x80 := by
  intro e he
  simp only [goodSnap, List.mem_append, List.mem_cons, List.not_mem_nil, List.mem_map, List.mem_range] at he
  rcases he with (rfl | rfl | rfl | rfl | rfl | rfl | h) | ⟨i, hi, rfl⟩ <;> first | decide | contradiction | (simp; omega)

theorem goodSnap_covered : ((restoring goodSnap).dropPending restore0).covered 0 0 = zeroCovered := by
  have h : ∀ k, 0x80 ≤ k →
      ((restoring goodSnap).dropPending restore0).dsByte k = ((restoring []).dropPending restore0).dsByte k := fun k hk =>
    get_above goodSnap k (fun e he => Nat.lt_of_lt_of_le (goodSnap_low e he) hk)
  have hb : ∀ a n, 0x80 ≤ a →
      ((restoring goodSnap).dropPending restore0).dsBytes a n = ((restoring []).dropPending restore0).dsBytes a n := by
    intro a n ha
    simp only [State.dsBytes]
    exact List.map_congr_left (fun i _ => h (a + i) (by omega))
  simp only [zeroCovered, State.covered, coveredRanges, List.flatMap_cons, List.flatMap_nil]
  rw [hb _ _ (by omega), hb _ _ (by omega), hb _ _ (by omega), hb _ _ (by omega)]

theorem goodSnap_digest :
    ((((restoring goodSnap).dropPending restore0).dsBytes 0 128).drop 0x60).take 32 = shake32 zeroCovered := by rfl

theorem wit_EchoCapturesAndSnapshots_restore :
    (restoring goodSnap).nextDue = some restore0 ∧
    (((restoring goodSnap).dropPending restore0).readErrors 0
      (snapEmuLen (((restoring goodSnap).dropPending restore0).dsBytes 0 128))).restoreFail 0 = none := by
  refine ⟨by rfl, ?_⟩
  have l : snapEmuLen (((restoring goodSnap).dropPending restore0).dsBytes 0 128) = 0 := by rfl
  have e : ((restoring goodSnap).dropPending restore0).readErrors 0 0 = (restoring goodSnap).dropPending restore0 := by rfl
  rw [l, e]
  unfold State.restoreFail
  simp only [l, goodSnap_covered, goodSnap_digest]
  rw [if_neg (by decide), if_neg (by simp), if_neg (by decide)]

/-- Rimstone configured, with tree 0 of the device clock and bank 7 running. -/
def rim0 : State :=
  let s := regd [(R.RIM_STATUS, 0x100), (R.RIM_CLK 0, 0xA0000000), (R.RIM_BANK 7, 0x20)] r0
  { s with rim := { s.rim with vio := NMap.set dZero s.rim.vio 7 3 } }

/-- A pin word of no pin, which has arrived and was seen at the strobe's edge. -/
def pinWord0 : PinWord := ⟨0, [], [], 0, some 0, some 0⟩

/-- An input word. -/
def inWord0 : InWord := ⟨[], false, 0, 0⟩

/-- `rim0` with queues of words. -/
def rimQ (out : List PinWord) (fly : List InWord) (send : List (Nat × PinWord)) : State :=
  { rim0 with rim := { rim0.rim with outQ := out, inFlight := fly, sendQ := send, inSampled := false },
              pwr := { rim0.pwr with d2dRate := 32 } }

theorem wit_PinWordsAndStrobes :
    ((rimQ [] [] [(5, pinWord0)]).sched.now < 5 ∧ (0 : Nat) ≤ (rimQ [] [] [(0, pinWord0)]).sched.now ∧
      (rimQ [] [] [(0, pinWord0)]).pwr.d2dRate = 32 ∧ (rimQ [] [] [(0, pinWord0)]).rim.outQ = [] ∧
      pinWord0.tick = (rimQ [] [] [(0, pinWord0)]).sched.curTick ∧ r0.pwr.d2dRate = 0) ∧
    (let s := { r0 with rim := { r0.rim with lastPinout := some 0 }, sched := { r0.sched with now := 12 } }
     s.rim.sendQ = [] ∧ s.rim.lastPinout = some 0 ∧ s.pinoutsDone = true ∧ 0 + 12 ≤ s.sched.now) ∧
    (r0.rim.sendQ = [] ∧ r0.rim.lastPinout = none ∧ r0.rim.outQ = [] ∧ r0.rim.inFlight = [] ∧ r0.rimOn = false ∧
      r0.rim.strobeDue = false) ∧
    (({ r0 with rim := { r0.rim with outQ := [pinWord0] } } : State).rim.outQ = [pinWord0] ∧ pinWord0.arrives ≤ r0.sched.now) ∧
    (let s := rimQ [pinWord0] [] []
     s.rimOn = true ∧ s.bit R.RIM_PW_CFG F.RIM_PW_CFG_OUT_MODE = false ∧ pinWord0.seen = some 0 ∧
     0 + s.fld R.RIM_PW_CFG F.RIM_PW_CFG_OUT_OFFSET ≤ s.rim.pwCount ∧
     (let s := regd [(R.RIM_PW_CFG, 0)] s
      let s := s.put R.RIM_PW_CFG F.RIM_PW_CFG_OUT_OFFSET 1
      s.rimOn = true ∧ s.bit R.RIM_PW_CFG F.RIM_PW_CFG_OUT_MODE = false ∧
      s.rim.pwCount < 0 + s.fld R.RIM_PW_CFG F.RIM_PW_CFG_OUT_OFFSET)) ∧
    (let w := { pinWord0 with seen := some 2, strobe := some 0 }
     let s := (rimQ [w] [] []).put R.RIM_PW_CFG F.RIM_PW_CFG_OUT_MODE 1
     let s := { s with rim := { s.rim with pwCount := 2 } }
     s.rimOn = true ∧ s.bit R.RIM_PW_CFG F.RIM_PW_CFG_OUT_MODE = true ∧ s.rim.outQ = [w] ∧
     0 + 1 + s.fld R.RIM_PW_CFG F.RIM_PW_CFG_OUT_OFFSET < 2 ∧ 2 + s.fld R.RIM_PW_CFG F.RIM_PW_CFG_OUT_OFFSET ≤ s.rim.pwCount ∧
     2 ≤ 1 + 1 + s.fld R.RIM_PW_CFG F.RIM_PW_CFG_OUT_OFFSET) ∧
    ({ r0 with rim := { r0.rim with strobeDue := true } } : State).rim.strobeDue = true ∧
    (let s := rimQ [] [] []
     s.rimOn = true ∧ s.treeRuns (s.fld R.RIM_PW_CFG F.RIM_PW_CFG_PW_CLK) = true ∧ s.bit R.RIM_PW_CFG F.RIM_PW_CFG_IN_MODE = false ∧
     s.rim.inSampled = false ∧ s.rim.strobeEdge + s.fld R.RIM_PW_CFG F.RIM_PW_CFG_IN_ARG ≤ s.rim.pwCount ∧
     s.rim.streamNext = none ∧
     (let s := s.put R.RIM_PW_CFG F.RIM_PW_CFG_IN_MODE 1
      let s := { s with rim := { s.rim with streamNext := some 0 } }
      s.rimOn = true ∧ s.treeRuns (s.fld R.RIM_PW_CFG F.RIM_PW_CFG_PW_CLK) = true ∧
      s.bit R.RIM_PW_CFG F.RIM_PW_CFG_IN_MODE = true ∧ s.rim.streamNext = some 0 ∧ 0 ≤ s.rim.pwCount)) ∧
    ((rimQ [] [inWord0] []).rim.inFlight = [inWord0] ∧ (rimQ [] [inWord0] []).rimOn = true ∧
      (rimQ [] [inWord0] []).pwr.d2dRate ≠ 0 ∧ inWord0.sampledAt ≤ (rimQ [] [inWord0] []).sched.tickPeriod ∧
      (rimQ [] [inWord0] []).sched.tickPeriod < ({ inWord0 with sampledAt := 1 } : InWord).sampledAt ∧
      (rimQ [] [inWord0] []).sched.pinFreshAt = none) := by decide

/-- A serial port 3 that is enabled, with bytes to send and bytes received. -/
def serial0 (tx rx : List Byte) : State :=
  let s := regd [(R.SP_CTL 3, 0x80000000)] rim0
  { s with rim := { s.rim with tx := NMap.set dNoBytes [] 3 tx, rx := NMap.set dNoBytes [] 3 rx,
                               rxDone := [(3, [7])], txClk := [(3, 2 ^ 32)] } }

/-- The user flash in an operation, its word 131,071 programmed. -/
def ufl0 (op : UflOp) : State := { rim0 with rim := { rim0.rim with uflOp := op, ufl := [(131071, 7)] } }

/-- Block 95 of bank 7 reads the constant 1 at its input 17, the read strobe of the user flash. -/
def strobing0 : State := regd [(R.BLK_IN 95 17, 0x1482)] rim0

theorem wit_SerialPortsAndUserFlash :
    ((NMap.get dNoBytes (serial0 [1] [2]).rim.tx 3).length < 64 ∧
      64 ≤ (NMap.get dNoBytes (serial0 (List.replicate 64 1) []).rim.tx 3).length ∧
      r0.bit (R.SP_CTL 3) F.SP_CTL_ENABLE = false ∧ (serial0 [1] [2]).bit (R.SP_CTL 3) F.SP_CTL_ENABLE = true ∧
      (NMap.get dNoBytes (serial0 [1] [2]).rim.rx 3).length < 64 ∧
      64 ≤ (NMap.get dNoBytes (serial0 [] (List.replicate 64 1)).rim.rx 3).length ∧
      NMap.get dNoBytes r0.rim.rx 3 = [] ∧ NMap.get dNoBytes (serial0 [1] [2]).rim.rx 3 = 2 :: [] ∧
      NMap.get dNoBytes (serial0 [1] [2]).rim.tx 3 = 1 :: [] ∧ (serial0 [1] [2]).rim.spDefer = [] ∧
      (serial0 [1] [2]).spSent 3 = true ∧ NMap.get dNoBytes (serial0 [1] [2]).rim.rxDone 3 = 7 :: [] ∧
      NMap.get dNoBytes r0.rim.rxDone 3 = [] ∧
      ({ serial0 [1] [2] with rim := { (serial0 [1] [2]).rim with spDefer := [(3, 5)] } } : State).rim.spDefer = [(3, 5)]) ∧
    (r0.rim.uflOp = .idle ∧ NMap.wf dErased (ufl0 (.program 0 5)).rim.ufl = true ∧
      (ufl0 (.program 0 5)).rim.uflOp = .program 0 5 ∧ (ufl0 (.erase 127)).rim.uflOp = .erase 127 ∧
      (ufl0 (.erase 127)).rim.uflOp ≠ .idle) ∧
    (({ r0 with rim := { r0.rim with uflRead := some 131071 } } : State).rim.uflRead = some 131071 ∧
      r0.rim.uflRead = none) ∧
    (r0.bankRuns 7 = false ∧ strobing0.bankRuns 7 = true ∧ strobing0.blkIn strobing0.pool 95 17 = true ∧
      strobing0.rim.uflStrobe = false) := by decide

/-- Two extra drivers on wire 63 of bank 7 after one more. -/
def driven0 : State := { rim0 with rim := { rim0.rim with extraDriver := [(511, 1)] } }

/-- Tree 3 runs on oscillator 0 and clocks no bank's pins and no pin words. -/
def tree3 : State := regd [(R.RIM_CLK 3, 0x80000000), (R.RIM_OSC 0, 0xFFFFFFFF)] rim0

theorem wit_RimstoneFaultsAndClocks :
    (rim0.rimOn = true ∧ (regd [(R.RIM_OSC 3, 0xFFFFFFFF)] rim0).bit (R.RIM_OSC 3) F.RIM_OSC_ENABLE = true ∧ r0.rimOn = false) ∧
    (5 : Fin 6) ≠ 0 ∧ rim0.treeEdge 3 true = false ∧ tree3.treeEdge 3 false = true ∧
    (tree3.treeEdge 3 true = true ∧ (3 : Fin 4) ≠ 0 ∧ tree3.fld R.RIM_PW_CFG F.RIM_PW_CFG_PW_CLK ≠ (3 : Fin 4).val ∧
      ∀ b, b < 8 → tree3.fld (R.RIM_BANK b) F.RIM_BANK_IO_CLK ≠ (3 : Fin 4).val) ∧
    (let u := { rim0 with rim := { rim0.rim with extraDriver := [(511, 1)] } }; u.wireCount 7 63 ≤ 1) ∧
    (let u := { rim0 with rim := { rim0.rim with extraDriver := [(511, 2)] } }
     1 < u.wireCount 7 63 ∧ u.rim.wiresOff.any (fun x => x.1 == 511) = false) ∧
    (r0.sched.now < r0.rim.scrubAt + (3 * r0.scrubInterval + 2) * 1500000 ∧
      (let s := { r0 with sched := { r0.sched with now := (3 * r0.scrubInterval + 2) * 1500000 } }
       s.rim.scrubAt + (3 * s.scrubInterval + 2) * 1500000 ≤ s.sched.now)) ∧
    F.RIM_SCRUB_CTL_ENABLE.of (regd [(R.RIM_SCRUB_CTL, 10)] r0).scrubCtl = 0 ∧
    (F.RIM_SCRUB_CTL_ENABLE.of r0.scrubCtl ≠ 0 ∧ r0.lnt.armed = [] ∧ r0.rim.frameBad = [] ∧ r0.rim.wiresOff = [] ∧
      r0.goldenArea.maps = []) := by
  decide +kernel

/-- Samples after which tree 3 still has no edge. -/
theorem wit_RimstoneFaultsAndClocks_samples :
    (((rim0.takeSamples [(191, 0)]).usedN 4096).settle).treeEdge 3 true = false := by decide +kernel

/-- A march of gallery 63. -/
def march0 (keep wake : Bool) (arrays : Nat) : March := ⟨63, keep, arrays, wake, false⟩

/-- A state with that march, and a bank word of gallery 63 and of gallery 0. -/
def marching (keep wake : Bool) (arrays : Nat) : State :=
  { r0 with mem := { r0.mem with marches := [march0 keep wake arrays], dm := [(5, 7), (1023 * 8192 + 8191, 9)] } }

/-- A bank request of the last word of gallery 0, accepted at 0. -/
def breq0 (op : BankOp) : BankReq := { nocReq 0 131071 [op] true with since := some 0 }

/-- A state with that request in its queue. -/
def asked (op : BankOp) : State := { r0 with mem := { r0.mem with bankQ := [breq0 op], dm := [(131071, 9)] } }

theorem wit_BankRequestsAreQueuedAndServed :
    131072 < (131071 : Fin 131072).val + [BankOp.read, BankOp.read].length ∧
    ((marching true false 1).isOff 63 = false ∧ (marching true false 1).testing 63 = true) ∧
    (r0.isOff 63 = false ∧ r0.testing 63 = false ∧
      ({ r0 with fab := { r0.fab with isolated := [63] } } : State).fab.isolated.contains 63 = true) ∧
    (r0.fab.isolated.contains 63 = false ∧ r0.portCloses 63 = false ∧ [BankOp.read] ≠ [] ∧
      (r0.accepted 63).length < 32 ∧ r0.mem.bankQ.all (fun x => x.gal != 63 || x.since.isSome) = true) ∧
    (atT5 []).bankIdle 15 = false ∧
    ((asked .read).bankIdle 15 = true ∧ (asked .read).engineBusy = false ∧ (asked .read).nextReq 15 = some (breq0 .read) ∧
      (breq0 .read).status = 0 ∧ (asked .read).dmMark 15 ((breq0 .read).word % 8192) = .good ∧
      (asked .read).lnt.armed = [] ∧ (breq0 .read).left = [.read]) ∧
    ((asked (.write 0xF0 5)).nextReq 15 = some (breq0 (.write 0xF0 5)) ∧ (breq0 (.write 0xF0 5)).left = [.write 0xF0 5]) ∧
    r0.mem.bankQ = [] ∧
    (let s := { asked .read with sched := { r0.sched with now := 10000000 } }
     s.mem.bankQ = [breq0 .read] ∧ (breq0 .read).gal = (0 : Gal).val ∧ (breq0 .read).since = some 0 ∧
     0 + s.stealLimit (0 : Gal).val ≤ s.sched.now) := by decide

theorem canon_marching : ∀ k w : Bool, ∀ n : Nat, (marching k w n).canon := fun _ _ _ => ⟨rfl, rfl⟩

theorem wit_MarchesTestAndZero :
    F.GAL_MARCH_CTL_START.of 0xFFFFFFFE = 0 ∧ F.GAL_MARCH_CTL_START.of 1 = 1 ∧ (marching true false 15).testing 63 = true ∧
    (r0.isOff 63 = false ∧ r0.testing 63 = false ∧ r0.marchAllowed 63 true = true) ∧
    r0.mem.marches = [] ∧
    ((marching true false 15).mem.marches = [march0 true false 15] ∧ (march0 true false 15).gal = (63 : Gal).val ∧
      (march0 true false 15).wake = false ∧ (march0 true false 15).start = false ∧ (march0 true false 15).keep = true ∧
      (marching true false 15).sched.runWaits = [] ∧ (marching true false 15).sched.resume = false) ∧
    ((march0 false false 1).keep = false ∧ (march0 false false 1).arrays.testBit 0 = true) ∧
    (let s := { marching true false 15 with sched := { r0.sched with runWaits := [(⟨15, 1, 0, false, false, none⟩, none)] } }
     s.mem.marches = [march0 true false 15] ∧ s.sched.runWaits = [(⟨15, 1, 0, false, false, none⟩, none)] ∧
     s.isRunning = false) ∧
    ((march0 false true 15).wake = true ∧ (march0 false true 3).wake = true ∧ (march0 false true 3).arrays = 3 ∧
      (marching false true 3).mem.marches = [march0 false true 3] ∧ (marching false true 15).img.commitDue = false) := by decide

/-- A state in which a word of bank 1,023 waits for Drip's write back. -/
def dripping : State :=
  { r0 with mem := { r0.mem with dripBack := [(1023, 8191)], dm := [(1023 * 8192 + 8191, 9)], dmEcc := [(1023 * 8192 + 8191, .single)] } }

theorem canon_dripping : dripping.canon := ⟨by decide, by decide⟩

theorem wit_DeepStoreClearsAndScrubs :
    r0.canon ∧ r0.lnt.armed = [] ∧ (regd [(R.DRIP_CTL, 0)] r0).dripMay (.deep 536870911) = false ∧
    (allUp r0).dripMay (.deep 536870911) = true ∧ dripping.mem.dripBack.contains (1023, 8191) = true ∧
    dripping.dripMay (.bank 1023 8191) = true := ⟨⟨by decide, by decide⟩, by decide⟩

/-- Port 15 in a state, with all lanes. -/
def port0 (st : Nat) (s : State) : State := regd [(R.PSG_STATUS 15, BitVec.ofNat 32 (st * 4096 + 0x8F0))] s

/-- An IDENT of this family. -/
def ident0 : Ident := ⟨0x0E65, 1, 2, 511, true, 0⟩

/-- A clean block. -/
def block1 (seq : BitVec 8) : BlockIn := ⟨.clean, seq, 0, false, false, 0, false⟩

theorem wit_PortsTrainStepByStep :
    (r0.portInImage 15 = false ∧ (r0.put (R.PSG_STATUS 15) F.PSG_STATUS_IN_IMAGE 1).portInImage 15 = true) ∧
    (r0.portState 15 ≠ 1 ∧ (port0 1 r0).portState 15 = 1 ∧ (port0 1 r0).widthOf 15 ≠ 0) ∧
    (r0.trained 15 = false ∧ (port0 2 r0).portState 15 = 2 ∧ { ident0 with family := 0x0E64 }.family ≠ 0x0E65 ∧
      (port0 5 r0).trained 15 = true ∧ ident0.family = 0x0E65 ∧ (port0 2 r0).psg.discarding.contains 15 = false ∧
      ((port0 2 r0).setPeer 15 ident0).peerDiffers 15 = false ∧ ((port0 2 r0).setPeer 15 ident0).trained 15 = false ∧
      ((port0 2 r0).setPeer 15 ident0).bit (R.PSG_CTL 15) F.PSG_CTL_LOOPBACK = false ∧
      (regd [(R.PSG_CTL 15, 0xFFFFFFFF)] (port0 2 r0)).bit (R.PSG_CTL 15) F.PSG_CTL_LOOPBACK = true ∧
      ({ port0 2 r0 with psg := { r0.psg with expect := [(15, 7)] } }.setPeer 15 ident0).peerDiffers 15 = true ∧
      ({ port0 2 r0 with psg := { r0.psg with discarding := [15] } } : State).psg.discarding.contains 15 = true) ∧
    ((port0 3 r0).portState 15 = 3 ∧ 700000 < (port0 3 r0).delayOf 15 700001 ∧ (port0 3 r0).delayOf 15 700000 ≤ 700000) ∧
    ((port0 4 r0).portState 15 = 4 ∧
      (let u (s : State) : State := (((s.setPort 15 5).raise (R.LAT_PORT 15) F.LAT_PORT_VALID).setHeld 15).setReady (portBit 15) true
       (u (port0 4 r0)).bit (R.PSG_HELD 15) F.PSG_HELD_OVER_BUDGET = false ∧
       (u ((regd [(R.LAT_PORT 15, 0x3FF)] (port0 4 r0)).put (R.PSG_HELD 15) F.PSG_HELD_BUDGET 1)).bit (R.PSG_HELD 15) F.PSG_HELD_OVER_BUDGET = true)) ∧
    ((port0 4 r0).inTraining 15 = true ∧ (port0 5 r0).inTraining 15 = false) ∧
    ((port0 5 r0).laneActive 15 3 = true ∧ r0.laneActive 15 3 = false) := by decide

theorem blockNat_zeros (n a k : Nat) : blockNat (List.replicate n 0#8) a k = 0 := by
  rw [blockNat, List.drop_replicate, List.take_replicate]
  exact leNat_zeros _

theorem zero_map_ok (n : Nat) : mapReserved (List.replicate n 0) = true ∧ mapStageBad (List.replicate n 0) = false := by
  constructor
  · simp [mapReserved, blockNat_zeros]
  · have e (a k : Nat) : blockNat (List.replicate n 0) a k = 0 := blockNat_zeros n a k
    simp only [mapStageBad, e]
    rfl

/-- A block sent on port 15 in period 0, unacknowledged. -/
def sent0 : RetryBlock := ⟨15, 0, 0, 0, []⟩

/-- `n` such blocks. -/
def unacked (n : Nat) (now : Nat) : State :=
  let s := port0 5 r0
  { s with psg := { s.psg with retry := List.replicate n sent0 }, sched := { s.sched with now := now } }

theorem wit_BlocksAreCheckedAndRetried :
    (r0.linked 15 = false ∧ (port0 5 r0).linked 15 = true ∧ { block1 0 with fec := .lost }.fec = .lost ∧
      (block1 255).seq.toNat ≠ (port0 5 r0).gotBlocks 15 % 256 ∧ (block1 0).seq.toNat = (port0 5 r0).gotBlocks 15 % 256 ∧
      (block1 0).fec = .clean ∧ (block1 0).pattern = false ∧ (block1 0).nak = false ∧ (block1 0).bad = 0) ∧
    ((unacked 1 3000).psg.retry.find? (fun b => b.port == 15) = some sent0 ∧ (unacked 1 3000).linked 15 = true ∧
      sent0.since + 3000 ≤ (unacked 1 3000).sched.now ∧ (unacked 1 2999).sched.now < sent0.since + 3000 ∧
      r0.psg.retry.find? (fun b => b.port == 15) = none) ∧
    ((unacked 1 0).psg.retry.filter (fun b => b.port == 15)).length < 128 ∧
    (allUp r0).serves (.latticeTrain hdr0 0x8000 1) = true ∧
    (let i : Instr := .latticeMap hdr0 ⟨576, [], none⟩
     (allUp r0).serves i = true ∧ (image 2 r0).serves i = true ∧ ((image 2 r0).begunBy i).isRunning = true ∧
     ((allUp r0).begunBy i).isRunning = false) ∧
    (mapReserved (List.replicate 576 0) = true ∧ mapStageBad (List.replicate 576 0) = false) := by
  exact ⟨by decide, by decide, by decide, by decide, by decide, zero_map_ok 576⟩

theorem wit_BlocksAreCheckedAndRetried_full : 128 ≤ ((unacked 128 0).psg.retry.filter (fun b => b.port == 15)).length := by
  decide +kernel

/-- A device of a lattice with its image on port 15, trained, before the tick `n`. -/
def lattice0 (n : BitVec 64) : State :=
  let s := regd [(R.LTC_CFG, 1), (R.LTC_ID, 0x80000005), (R.PSG_STATUS 15, 0x5AF0), (R.SCHED_PERIOD_NS, 1000)] (allUp between0)
  { s with sched := { s.sched with nextTick := n } }

/-- The landing entry 0 of flit 63 of port 15 is used. -/
def timedOut : State :=
  let s := lattice0 1
  { s with sched := { s.sched with phase := .t3, holdLen := 1, now := 100000 }, psg := { s.psg with landing := [((15 * 64 + 63) * 240, 0x80000000)] } }

theorem wit_LatticeTicksAndBarriers_flits :
    r0.receives 15 = false ∧ (lattice0 8).receives 15 = true ∧
    ((0 + 8 - (lattice0 8).sched.nextTick.toNat % 8) % 8 = 0 ∧ (7 + 8 - (lattice0 8).sched.nextTick.toNat % 8) % 8 = 7 ∧
      (1 + 8 - (lattice0 8).sched.nextTick.toNat % 8) % 8 = 1 ∧ (2 + 8 - (lattice0 8).sched.nextTick.toNat % 8) % 8 = 2 ∧
      (3 + 8 - (lattice0 8).sched.nextTick.toNat % 8) % 8 = 3 ∧ (6 + 8 - (lattice0 8).sched.nextTick.toNat % 8) % 8 = 6) ∧
    r0.sched.holdLen = 0 ∧
    (timedOut.sched.holdLen ≠ 0 ∧ timedOut.flitExpected 15 63 = true ∧ timedOut.psg.got.contains (15, 63) = false ∧
      timedOut.sched.phase = .t3 ∧
      timedOut.sched.tickPeriod + 1023 + timedOut.fld (R.PSG_HELD 15) F.PSG_HELD_HELD +
        timedOut.heldBefore (1023 + timedOut.fld (R.PSG_HELD 15) F.PSG_HELD_HELD) + timedOut.linkTimeout ≤ timedOut.sched.now) := by
  decide

/-- At step 0 BP 0 waits for the receive entry 3, which flit 63 of port 15 fills. -/
def awaiting (n : BitVec 11) : State :=
  let s := atStep (lattice0 1)
  { s with sched := { s.sched with holdLen := 1, now := 100000 },
           psg := { s.psg with landing := [((15 * 64 + 63) * 240, 0x800003FF)] },
           fab := { s.fab with recv := [(0, 0xD01FFC03)],
                               istore := [(0, encodeStepWord ⟨.trig 63 (cur n), ⟨false, false, true⟩⟩)] } }

theorem wit_LatticeTicksAndBarriers_awaited :
    (awaiting 1027).sched.phase = .steps ∧ (awaiting 1027).sched.holdLen ≠ 0 ∧ (awaiting 1027).flitExpected 15 63 = true ∧
    ((awaiting 1027).flitEntries 15 63).any (fun e => (awaiting 1027).awaitedNow.contains e) = true ∧
    ((awaiting 1028).flitEntries 15 63).any (fun e => (awaiting 1028).awaitedNow.contains e) = false := by decide

/-- A running device of a lattice whose grid instant has come. -/
def deciding : State :=
  let s := inPhase .steps (lattice0 8)
  { s with sched := { s.sched with dtc := 5, nextGrid := 3 } }

theorem wit_LatticeTicksAndBarriers_decision :
    r0.missesGrid r0.margin = false ∧
    (deciding.inLattice = true ∧ deciding.locked = true ∧ deciding.sched.running = true ∧ deciding.sched.phase ≠ .between ∧
      deciding.psg.decided ≠ some deciding.sched.nextTick ∧ deciding.missesGrid deciding.margin = true) ∧
    (let u (s : State) : State := { s with psg := { s.psg with decided := some s.sched.nextTick } }
     ((u deciding).missesGrid ((u deciding).periodsLeft - 1) = true ∧ (u deciding).sched.overrun = false ∧
       (u deciding).bit R.SCHED_TICK_CFG F.SCHED_TICK_CFG_POLICY = false) ∧
     (let s := deciding.put R.SCHED_TICK_CFG F.SCHED_TICK_CFG_POLICY 1
      s.missesGrid s.margin = true ∧ (u s).missesGrid ((u s).periodsLeft - 1) = true ∧
      (u s).bit R.SCHED_TICK_CFG F.SCHED_TICK_CFG_POLICY = true) ∧
     (let s := { deciding with sched := { deciding.sched with nextGrid := 15 * 0xAAAAAAAA } }.put R.LTC_CFG F.LTC_CFG_MARGIN 64
      s.missesGrid s.margin = true ∧ (u s).missesGrid ((u s).periodsLeft - 1) = false)) := by
  decide

theorem wit_LatticeTicksAndBarriers_notices :
    r0.hears 15 = false ∧ (lattice0 8).hears 15 = true ∧ (lattice0 8).psg.doneFrom.contains (15, 7) = false ∧
    ({ lattice0 8 with psg := { (lattice0 8).psg with doneFrom := [(15, 7)] } } : State).psg.doneFrom.contains (15, 7) = true ∧
    (let s := lattice0 8
     s.heard (relayed 2 511 9 7 0) = false ∧ s.heard (relayed 2 511 9 7 1) = false ∧ s.heard (relayed 3 511 9 7 0) = false ∧
     s.heard (relayed 4 511 9 7 0) = false ∧
     ((s.flood (relayed 2 511 9 7 0) (some 15)).sched.running && (s.flood (relayed 2 511 9 7 0) (some 15)).begun 9) = false ∧
     ((s.flood (relayed 2 511 7 7 0) (some 15)).sched.running && (s.flood (relayed 2 511 7 7 0) (some 15)).begun 7) = true ∧
     (s.flood (relayed 3 511 9 7 0) (some 15)).sched.running = true ∧
     (let u := s.flood (relayed 4 511 9 7 0) (some 15)
      u.sched.running = true ∧ (u.recordLtc 2).begun (9 + 1) = false) ∧
     (let u := s.flood (relayed 4 511 6 7 0) (some 15)
      u.sched.running = true ∧ (u.recordLtc 2).begun (6 + 1) = true)) ∧
    (let s := regd [(R.DEVICE_STATE, 1)] (lattice0 8)
     let u := { s with sched := { s.sched with running := false } }.flood (relayed 3 511 9 7 0) (some 15)
     u.sched.running = false ∧ u.hasImage = true ∧ u.psg.holds.contains ((511 : Fin 512).val, 9) = false) ∧
    r0.awaitsNotice = false ∧
    (let s := regd [(R.SCHED_TICK_CFG, 1)] { lattice0 8 with psg := { (lattice0 8).psg with barrierWait := 0x200000 } }
     s.inLattice = true ∧ s.sched.running = true ∧ s.sched.phase = .between ∧ s.awaitsNotice = true ∧
     s.barrierTimeout ≤ s.psg.barrierWait) := by decide

/-- A halted device of a lattice. -/
def latHalted : State :=
  let s := regd [(R.DEVICE_STATE, 1)] (lattice0 8)
  { s with sched := { s.sched with running := false } }

theorem wit_LatticeTicksAndBarriers_commands :
    (let s := allUp r0
     s.serves (.runFrom hdr0) = true ∧ s.serves (.haltBefore hdr0) = true ∧ hdr0.target = none) ∧
    (let h := { hdr0 with target := some 8 }
     let early := { hdr0 with target := some 7 }
     ((allUp r0).serves (.runFrom h) = true ∧ ((allUp r0).begunBy (.runFrom h)).hasImage = false) ∧
     (latHalted.serves (.runFrom h) = true ∧ latHalted.serves (.haltBefore h) = true ∧
       (let u := latHalted.begunBy (.runFrom h)
        u.hasImage = true ∧ u.psg.origin = none ∧ u.isRunning = false ∧ (8 : BitVec 64) = u.sched.nextTick ∧
        (8 : BitVec 64).ult u.sched.nextTick = false ∧ (7 : BitVec 64).ult u.sched.nextTick = true ∧
        (9 : BitVec 64).ult u.sched.nextTick = false ∧ (9 : BitVec 64) ≠ u.sched.nextTick) ∧
       latHalted.serves (.runFrom early) = true ∧
       (let u := latHalted.begunBy (.haltBefore h)
        u.hasImage = true ∧ u.psg.origin = none ∧ (8 : BitVec 64).ult u.sched.nextTick = false ∧ u.isRunning = false)) ∧
     (let s := { latHalted with psg := { latHalted.psg with origin := some (cmdOf hdr0) } }
      s.serves (.runFrom h) = true ∧ (s.begunBy (.runFrom h)).psg.origin.isSome = true ∧
      s.psg.reports.any (fun r => r.1 == 511) = false ∧
      ({ s with sched := { s.sched with now := 3000000000 } } : State).psg.barrierSince + 3000000000 ≤ 3000000000)) := by decide

/-- A state whose staged image is in a state (IMG_STATUS.STATE). -/
def img0 (n : Word) (s : State) : State := regd [(R.IMG_STATUS, n)] (allUp s)

/-- A stage that still reads the host's bytes. -/
def staging (f : Loader → Loader) : State := { img0 1 r0 with img := f { r0.img with hostLeft := 256 } }

/-- What STAGE_END judges after the bytes `bs`. -/
def judged (bs : List Byte) (s : State) : State := (((s.hostBytesIn bs).flushStage.checkHeader).checkSpace).flushStage

theorem wit_ImagesAreStagedAndVerified_stage :
    (allUp r0).serves (.imageStage hdr0 ⟨false, false, buf0 8⟩ 256 0x100 0x10 0x200 0x10) = true ∧
    (allUp r0).serves (.imageStage hdr0 ⟨true, false, buf0 0⟩ 256 0x100 0x10 0x200 0x10) = true ∧
    ((img0 0 r0).takesHost = false ∧ (img0 1 r0).takesHost = true ∧ (img0 0 r0).imgState ≠ 1 ∧ (img0 1 r0).imgState = 1) ∧
    (let u := judged [] (staging (fun x => x))
     u.imgState = 1 ∧ u.img.spaceOk = false ∧ u.fromChain = false) ∧
    (let u := judged [] (staging (fun x => { x with headerOk := true, spaceOk := true, declared := 0 }))
     u.imgState = 1 ∧ u.img.spaceOk = true ∧ u.img.declared ≤ u.img.received) ∧
    (judged [] (staging (fun x => { x with received := 256 }))).imgState ≠ 1 ∧
    (let u := judged [] { regd [(R.IMG_STATUS, 0x11)] (staging (fun x => x)) with pending := [] }
     u.imgState = 1 ∧ u.img.spaceOk = false ∧ u.fromChain = true) ∧
    (r0.receives 15 = false ∧
      (let s := regd [(R.IMG_CHAIN, 0x043C0000)] (port0 5 r0)
       s.bit R.IMG_CHAIN F.IMG_CHAIN_IN_VALID = true ∧ s.fld R.IMG_CHAIN F.IMG_CHAIN_IN_PORT = 15 ∧ s.receives 15 = true)) ∧
    (let s := { img0 0x11 r0 with sched := { r0.sched with now := 150000000 } }
     s.imgState = 1 ∧ s.fromChain = true ∧ s.img.lastBurst + 150000000 ≤ s.sched.now ∧ s.img.headerOk = false) := by decide +kernel

theorem wit_ImagesAreStagedAndVerified_verify :
    (let i : Instr := .imageVerify hdr0
     (img0 4 r0).serves i = true ∧ ((img0 4 r0).begunBy i).imgState = 4 ∧ ((img0 4 r0).begunBy i).imgHeld = false ∧
     ((img0 2 r0).begunBy i).imgState = 2 ∧ ((img0 1 r0).begunBy i).imgState ≤ 1 ∧ ((img0 3 r0).begunBy i).imgState = 3) ∧
    ((img0 3 r0).imgState = 3 ∧ (img0 3 r0).img.waiting = false ∧ r0.imgState ≠ 3) ∧
    (r0.img.results.any (fun r => r.1 == 511) = false ∧
      ({ r0 with img := { r0.img with results := [(511, 0, 0)] } } : State).img.results.any (fun r => r.1 == 511) = true) ∧
    r0.img.waiting = false ∧
    (let a := [(0x18, 5), (0x1A, 2)]
     let s := { r0 with img := { r0.img with waiting := true, bytes := a }, sched := { r0.sched with now := 3000000000 } }
     s.img.waiting = true ∧ s.img.verifyAt + 3000000000 ≤ s.sched.now ∧
     s.positions.find? (fun p => !s.img.results.any (fun r => r.1 == p)) = some 5) := by decide

theorem wit_CommitsAndReloads_commands :
    (let i : Instr := .imageCommit hdr0 true
     (img0 4 r0).serves i = true ∧ ((img0 4 r0).begunBy i).commitRefused false = none ∧
     (img0 0 r0).serves i = true ∧ ((img0 0 r0).begunBy i).commitRefused false = some (0x0A, 0)) ∧
    (let i : Instr := .latticeCommit { hdr0 with target := some 8 } false
     (img0 4 r0).serves (.latticeCommit hdr0 false) = true ∧ (img0 4 r0).serves i = true ∧
     ((img0 4 r0).begunBy i).commitRefused false = none ∧ ((img0 4 r0).begunBy i).isHead = true ∧
     ((img0 4 r0).begunBy i).isRunning = false ∧
     (img0 0 r0).serves i = true ∧ ((img0 0 r0).begunBy i).commitRefused false = some (0x0A, 0) ∧
     (let s := regd [(R.DEVICE_STATE, 2)] (img0 4 r0)
      s.serves i = true ∧ (s.begunBy i).isRunning = true ∧ (s.begunBy i).passed 8 = false ∧
      (let u := { s with sched := { s.sched with nextTick := 9 } }
       u.serves i = true ∧ (u.begunBy i).commitRefused false = none ∧ (u.begunBy i).passed 8 = true)) ∧
     (let s := regd [(R.LTC_ID, 0x80000005)] (img0 4 r0)
      s.serves i = true ∧ (s.begunBy i).commitRefused false = none ∧ (s.begunBy i).isHead = false)) ∧
    (let i : Instr := .regionReload hdr0 9
     (img0 4 r0).serves i = true ∧ ((img0 0 r0).begunBy i).commitRefused true = some (0x0A, 0) ∧ (img0 0 r0).serves i = true ∧
     (let s := { img0 4 r0 with img := { r0.img with bytes := [(6, 1)] } }
      (s.begunBy i).commitRefused true = none ∧ s.serves i = true)) := by decide

/-- A halted device with one boundary action due at once. -/
def acting (a : BoundaryAct) (s : State) : State := { s with sched := { s.sched with pending := [⟨a, none, none, true⟩] } }

/-- The action of `acting`. -/
def act0 (a : BoundaryAct) : Pending := ⟨a, none, none, true⟩

theorem wit_CommitsAndReloads_apply :
    (let s := acting (.commit true false) (img0 0 r0)
     s.sched.engine = false ∧ s.echo.stageDue = false ∧ s.nextDue = some (act0 (.commit true false)) ∧
     (s.dropPending (act0 (.commit true false))).commitFail = some (0x0A, 0)) ∧
    (let s := acting (.commit true false) (img0 4 r0)
     s.nextDue = some (act0 (.commit true false)) ∧ (s.dropPending (act0 (.commit true false))).commitFail = none) ∧
    ({ r0 with sched := { r0.sched with engine := true } } : State).sched.engine = true ∧ r0.sched.engine = false ∧
    (let s (l : Bool) : State := { img0 6 r0 with sched := { r0.sched with engine := true }, img := { r0.img with commitLattice := l } }
     let end0 (s : State) : State :=
       let u := s.toEmpty.sendIdents.detect 0x0E 2 0
       { u with sched := { u.sched with engine := false }, img := { u.img with commitCmd := none } }
     (s true).imgState = 6 ∧ (s true).img.commitDue = false ∧ (end0 (s true)).img.commitLattice = true ∧
     (end0 (s false)).img.commitLattice = false) := by decide

theorem wit_CommitsAndReloads_lattice :
    (r0.receives 15 = false ∧ (port0 5 r0).receives 15 = true ∧ (port0 5 r0).psg.seen.contains (7, 511, 9) = false) ∧
    (let ports (s : State) : List Nat :=
       (List.range 16).filter (fun q => s.portInImage q || ((mapPorts s.stagedMap).testBit q && s.trained q))
     let u (s : State) : State :=
       s.floodOn (ports s) { s.latFlit 7 9 (0 + natOfBool true * 2 ^ 32) with origin := 511 } (some 15)
     ((u (port0 5 r0)).commitRefused false).isSome = true ∧
     ((u (port0 5 (img0 4 r0))).commitRefused false = none ∧ (u (port0 5 (img0 4 r0))).measure4 = 0 ∧
       (u (port0 5 (img0 4 r0))).isRunning = false) ∧
     (let s := regd [(R.DEVICE_STATE, 2)] (port0 5 (img0 4 r0))
      (u s).isRunning = true ∧ (u s).passed 9 = false ∧ s.receives 15 = true ∧
      (let s := { s with sched := { s.sched with nextTick := 10 } }
       (u s).commitRefused false = none ∧ (u s).measure4 = 0 ∧ (u s).isRunning = true ∧ (u s).passed 9 = true))) ∧
    (let i := { r0.img with latCmd := some (cmdOf hdr0), latSpan := (5, 2), commitSince := some 0 }
     let s := { r0 with img := i, sched := { r0.sched with now := 3000000000 } }
     s.img.latCmd.isSome = true ∧ s.img.commitReports.any (fun r => r.1 == 6) = false ∧ s.img.commitSince = some 0 ∧
     0 + 3000000000 ≤ s.sched.now ∧ r0.sched.now < 0 + 3000000000 ∧
     (List.range s.img.latSpan.2).find? (fun i => !s.img.commitReports.any (fun r => r.1 == s.img.latSpan.1 + i)) = some 0) ∧
    r0.img.latCmd = none := by decide

theorem wit_CommitsAndReloads_reload :
    (let s := acting (.reload 9) (img0 4 r0)
     s.nextDue = some (act0 (.reload 9)) ∧ (s.dropPending (act0 (.reload 9))).fab.isolated = [] ∧
     (s.dropPending (act0 (.reload 9))).imgState = 4 ∧ ((acting (.reload 9) (img0 0 r0)).dropPending (act0 (.reload 9))).imgState ≠ 4) ∧
    (r0.imgState ≠ 7 ∧ (img0 7 r0).imgState = 7 ∧ (img0 7 r0).img.reloadWritten = false ∧
      (img0 7 r0).waking (img0 7 r0).img.reloadGals = false) ∧
    (acting .joinRegion r0).nextDue = some (act0 .joinRegion) ∧ (acting .joinRegion r0).sched.engine = false := by decide

/-- DMA channel 31 in a state, its ring of two descriptors. -/
def chan0 (st : Word) : State := regd [(R.DMA_CH_CFG 31, 0x80010002), (R.DMA_CH_STATUS 31, st <<< 29)] r0

theorem canon_chan0 : (∀ st ∈ [(0 : Word), 1, 2, 3, 4], (chan0 st).canon) := by
  simp only [List.mem_cons, List.not_mem_nil, or_false, forall_eq_or_imp, forall_eq]
  exact ⟨⟨by decide, by decide⟩, ⟨by decide, by decide⟩, ⟨by decide, by decide⟩, ⟨by decide, by decide⟩, by decide, by decide⟩

/-- A descriptor of 8 bytes from host address 0 to host address 64, its last bytes read back. -/
def desc0 : Desc := descOf ([8, 0, 0, 0xC0, 0, 0, 0, 0] ++ List.replicate 8 0 ++ [64, 0, 0, 0, 0, 0, 0, 0] ++ List.replicate 40 0)

/-- A channel with a job. -/
def job1 (j : DmaJob) (st : Word) : State := { chan0 st with dma := { r0.dma with jobs := [(31, j)] } }

/-- A channel with a fetched descriptor. -/
def fetched (d : Desc) : State := { chan0 2 with dma := { r0.dma with desc := [(31, d)] } }

theorem wit_DmaChannelCommands :
    (chan0 0).chState 31 = 0 ∧ (chan0 1).chState 31 = 1 ∧ (chan0 2).chState 31 = 2 ∧ (chan0 3).chState 31 = 3 ∧
    (chan0 4).chState 31 = 4 ∧ (job1 (jobOf desc0) 2).job 31 = some (jobOf desc0) ∧ (jobOf desc0).error = none ∧
    (chan0 2).job 31 = none ∧ r0.bit (R.DMA_CH_CFG 31) F.DMA_CH_CFG_ENABLE = false := by decide

theorem wit_DescriptorsAreFetchedAndStarted :
    ((chan0 2).chState 31 = 2 ∧ (chan0 2).job 31 = none ∧ (chan0 2).host.d3hot = false ∧
      (chan0 2).fld (R.DMA_CH_CFG 31) F.DMA_CH_CFG_LOG2_SIZE ≤ 16 ∧ (chan0 2).fetchedDesc 31 = none) ∧
    ((descOf (List.replicate 64 0xFF)).own = true ∧ (descOf (List.replicate 64 0)).own = false ∧
      NMap.get (fun _ => false) (chan0 2).dma.kicked 31 = false ∧
      NMap.get (fun _ => false) ({ chan0 2 with dma := { r0.dma with kicked := [(31, true)] } } : State).dma.kicked 31 = true) ∧
    ((fetched desc0).fetchedDesc 31 = some desc0 ∧ (fetched desc0).chState 31 = 2 ∧ (fetched desc0).job 31 = none ∧
      desc0.len ≠ 0 ∧ descBad desc0 = false ∧ windowLeft desc0.srcSpace desc0.src ≠ 0 ∧
      windowLeft desc0.dstSpace desc0.dst ≠ 0) ∧
    ((fetched { desc0 with len := 0 }).fetchedDesc 31 = some { desc0 with len := 0 } ∧ desc0.controlSet = false) ∧
    (descBad { desc0 with reservedSet := true } = true ∧
      (fetched { desc0 with reservedSet := true }).fetchedDesc 31 = some { desc0 with reservedSet := true }) ∧
    (descBad { desc0 with dstSpace := 1, dst := 2 ^ 35 } = false ∧ windowLeft 1 (2 ^ 35) = 0) := by decide

/-- The job of `desc0` with one read outstanding. -/
def reading : DmaJob := { jobOf desc0 with next := 8, reads := [(0, 8)] }

/-- The job of a descriptor that writes the Deep Store of device 511, with one write outstanding. -/
def writing : DmaJob :=
  { jobOf { desc0 with dstSpace := 1, dstRemote := true, dstDev := 511 } with next := 8, writes := [(0, List.replicate 8 0)] }

/-- The job of `desc0` with every byte written. -/
def written : DmaJob := { jobOf desc0 with next := 8, done := [(0, 8)] }

theorem wit_DmaDataMovesAndCompletes :
    ((job1 reading 2).host.d3hot = false ∧ (job1 reading 2).job 31 = some reading ∧
      (job1 reading 2).fld (R.DMA_CH_CFG 31) F.DMA_CH_CFG_LOG2_SIZE ≤ 16 ∧
      reading.reads.find? (fun y => y.1 == 0) = some (0, 8) ∧ reading.desc.srcSpace = 0 ∧ reading.desc.srcRemote = false ∧
      stopped reading = false ∧ reading.desc.dstSpace = 0 ∧ stopped { reading with aborted := true } = true) ∧
    (let s := regd [(R.LTC_ROUTE 127, 0x8F000000)] (job1 writing 2)
     s.job 31 = some writing ∧ writing.writes.find? (fun y => y.1 == 0) = some (0, List.replicate 8 0) ∧
     s.farSide writing.desc.dstRemote writing.desc.dstDev = true ∧ (s.routePort writing.desc.dstDev).isSome = true) ∧
    (written.desc.dstSpace = 0 ∧ written.desc.dstRemote = false ∧ wantsReadBack written = true ∧ stopped written = false ∧
      written.limited = none ∧ (job1 written 2).job 31 = some written) ∧
    (let j := { jobOf desc0 with aborted := true }
     stopped j = true ∧ quiet j = true ∧ wantsReadBack j = false ∧ (job1 j 3).job 31 = some j) := by decide +kernel

set_option maxRecDepth 20000 in
/-- No source of the CIC pends after reset. -/
theorem reset_pends_none : ∀ m < 512, r0.cicPending m = false := by decide +kernel

theorem not_eligible (s : State) (t m : Nat) (h : s.cicPending m = false) : s.eligible t m = false := by
  simp [State.eligible, h]

/-- A state in which source 24 of priority 10, for target 4, pends. -/
def pend24 : State := { r0 with cic := { r0.cic with edge := [(24, true)] } }

set_option maxRecDepth 20000 in
theorem pend24_pends : ∀ m < 512, m ≠ 24 → pend24.cicPending m = false := by decide +kernel

theorem pend24_cores : ∀ t < 4, pend24.eligible t 24 = false := by decide

theorem pend24_host : pend24.eligible 4 24 = true := by decide

theorem wit_ClaimsGoToTheLowestTarget : r0.canon ∧ (∀ t, t < 5 → r0.IsBest t 0) ∧ pend24.canon ∧
    (∀ t, t < 5 → pend24.IsBest t (if t = 4 then 24 else 0)) := by
  refine ⟨⟨by decide, by decide⟩, fun t _ m h => not_eligible _ _ _ (reset_pends_none m h), ⟨by decide, by decide⟩, ?_⟩
  intro t ht
  by_cases h4 : t = 4
  · subst h4
    refine ⟨by decide, pend24_host, fun m hm he hne => ?_⟩
    rw [not_eligible _ _ _ (pend24_pends m hm hne)] at he
    exact absurd he (by decide)
  · rw [if_neg h4]
    intro m hm
    by_cases h : m = 24
    · subst h
      exact pend24_cores t (by omega)
    · exact not_eligible _ _ _ (pend24_pends m hm h)

theorem wit_CompletionsEndServices :
    r0.canon ∧ (serving 4 511 r0).canon ∧ pend24.canon ∧
    (0 : Fin 5).val ≠ 4 ∧ (511 : BitVec 9) ≠ 0 ∧
    (serving 4 511 r0).cic.service.any (fun v => v.target == 4 && v.src == 511) = true ∧
    pend24.cic.service.any (fun v => v.target == 0 && v.src == 24) = false ∧ pend24.cicPending 24 = true ∧
    r0.cicPending 1 = false := by
  exact ⟨⟨by decide, by decide⟩, ⟨by decide, by decide⟩, ⟨by decide, by decide⟩, by decide⟩

theorem wit_SourcesPendAndAreConfigured : r0.canon ∧ ¬(35 ≤ (511 : Fin 512).val ∧ (511 : Fin 512).val ≤ 38) ∧
    cicListed (511 : Fin 512).val = true ∧ (cicListed 511 && r0.cicIsEdge 511) = true ∧
    (cicListed 17 && r0.cicIsEdge 17) = false ∧ NMap.wf (fun _ => false) r0.cic.edge = true ∧
    NMap.wf (fun _ => false) r0.wiu.pend = true ∧ r0.isOff (63 : Gal).val = false ∧ wiuLevel 31 = false ∧
    ¬(12 ≤ (31 : Fin 32).val ∧ (31 : Fin 32).val ≤ 15) := by
  exact ⟨⟨by decide, by decide⟩, by decide⟩

/-- Gallery 63's Warden with sources 31 (Normal, priority 7) and 30 (Fast) enabled and pending. -/
def warden0 (pend : NMap Bool) (l : List WardenFrame) : State :=
  let s := regd [(R.WIU_ENABLE 63, 0xC0000000), (R.WIU_CLASS 63, 0x40000000), (R.WIU_PRIO 63 3, 0x71111111)] r0
  { s with wiu := { s.wiu with pend := pend, stack := [(63, l)] } }

/-- A Normal handler of source 16 at level 3, in its entry until period 5. -/
def frame0 : WardenFrame := ⟨16, 3, false, 5⟩

theorem wit_WardenHandlersNest_normal :
    (warden0 [(2047, true)] []).galPower 63 = 0 ∧
    (∀ f ∈ (warden0 [(2047, true)] []).wiuStack 63, f.fast = false ∧ f.ends ≤ (warden0 [(2047, true)] []).sched.now) ∧
    ((warden0 [(2047, true)] []).wiuStack 63).length < 7 ∧ (warden0 [(2047, true)] []).nextFast 63 = none ∧
    (warden0 [(2047, true)] []).IsNextNormal 63 (levelOf []) 31 ∧
    (∀ i, i < 32 → (warden0 [] []).normalAbove 63 (levelOf []) i = false) ∧
    (∀ i, i < 32 → (warden0 [] []).fastPends 63 i = false) := by
  unfold State.IsNextNormal
  decide

theorem wit_WardenHandlersNest_fast :
    (warden0 [(2046, true)] []).IsNextFast 63 30 ∧
    ((warden0 [(2046, true)] [frame0]).wiuStack 63 = frame0 :: [] ∧ (warden0 [(2046, true)] [frame0]).galPower 63 = 0 ∧
      (∀ x ∈ (warden0 [(2046, true)] [frame0]).wiuStack 63, x.fast = false) ∧
      (warden0 [(2046, true)] [frame0]).sched.now < frame0.ends ∧ (warden0 [(2046, true)] [frame0]).IsNextFast 63 30 ∧
      30 ≠ frame0.src ∧ NMap.wf (fun _ => false) (warden0 [(2046, true)] [frame0]).wiu.pend = true ∧
      wiuLevel frame0.src = false) := by
  unfold State.IsNextFast
  decide

theorem wit_WardenHandlersNest_exit :
    (let s := warden0 [(2047, true)] [⟨16, 3, false, 0⟩]
     s.wiuStack 63 = ⟨16, 3, false, 0⟩ :: [] ∧ (0 : Nat) ≤ s.sched.now ∧ s.IsNextNormal 63 (levelOf []) 31) ∧
    (let s := warden0 [(2046, true)] [⟨30, 0, true, 0⟩]
     s.wiuStack 63 = ⟨30, 0, true, 0⟩ :: [] ∧ s.IsNextFast 63 30) := by
  simp only [State.IsNextNormal, State.IsNextFast]
  decide

theorem wit_TimeAdjustmentsHaveOneOwner :
    r0.canon ∧ r0.tbOwner .core = false ∧ r0.tbOwner .host = true ∧ r0.stepAllowed = true ∧
    r0.bit R.TB_STATUS F.TB_STATUS_CLAMPED = false ∧
    ((image 2 r0).isRunning = true ∧ (image 2 r0).free = false) ∧ (0 : Nat) < incrLow ∧ incrHigh < 2 ^ 32 - 1 := by
  exact ⟨⟨by decide, by decide⟩, by decide⟩

theorem wit_TimeAndEthernet_time :
    (let s := { r0 with sched := { r0.sched with dtc := 2 ^ 80 - 1 } }
     s.sched.dtc / 2 ^ 64 < (s.sched.dtc + (s.reg R.TB_INCR).toNat) / 2 ^ 64 ∧ s.sched.dtc < 2 ^ 80 ∧ s.tb.slew = 0 ∧
      s.tb.stepDue = 0) ∧
    (let s := { r0 with tb := { r0.tb with slew := -5 } }
     s.tb.slew ≠ 0 ∧ s.tb.slew.natAbs ≤ (s.reg R.TB_INCR).toNat / 2048) ∧
    (let s := { regd [(R.TB_CFG, 1), (R.TB_STATUS, 1)] r0 with sched := { r0.sched with now := 0x1000000 } }
     s.alwaysLocked = false ∧
      s.tb.lastSample + 4 * (if s.tbSrc = 2 then 11718750 else 1500 * 2 ^ min 10 (s.fld R.TB_CFG F.TB_CFG_LT_LOG2)) ≤ s.sched.now) ∧
    ((regd [(R.TB_CFG, 1)] r0).tbKey = (regd [(R.TB_CFG, 1)] r0).tbKey ∧ (regd [(R.TB_CFG, 1)] r0).tbKey ≠ r0.tbKey) := by decide

/-- A Sync message over Ethernet. -/
def ptp0 : PtpMsg := ⟨0, 0, .ethernet, 0, 0, []⟩

/-- Both Ethernet ports up, in a PTP role, transport Ethernet. -/
def eth0 (cfg : Word) : State :=
  regd [(R.ETH_CFG 0, cfg), (R.ETH_CFG 1, cfg), (R.ETH_STATUS 0, 0xFFFFFFFF), (R.ETH_STATUS 1, 0xFFFFFFFF)] r0

theorem wit_TimeAndEthernet_ethernet :
    ((eth0 0xA1000000).ethRuns 1 = true ∧ (eth0 0xA1000000).ptpRole 1 = 2 ∧ (eth0 0xA1000000).ptpRole (1 - 1) = 2 ∧
      r0.ptpRole (1 - 1) ≠ 2 ∧ r0.ethRuns 1 = false) ∧
    (let s := regd [(R.TB_CFG, 2)] (eth0 0x91000000)
     s.takesPtp 1 ptp0 = true ∧ s.ptpRole 1 = 1 ∧ s.tbSrc = 2 ∧ s.stampOf 1 ptp0 ≠ none) ∧ r0.takesPtp 1 ptp0 = false := by decide

/-- A TIME flit. -/
def time0 : TimeFlit := { sub := 1, origin := 511, seq := 5, wrap := 0, time := 7, corr := 0, hops := 30 }

theorem wit_LatticeTimeIsForwarded :
    (regd [(R.TB_CFG, 0xFFFF0011)] r0).bit R.TB_CFG F.TB_CFG_MASTER = true ∧ r0.bit R.TB_CFG F.TB_CFG_MASTER = false ∧
    r0.intervalOver r0.tb.lastSync = true ∧ r0.intervalOver (some 0) = false ∧ r0.receives 15 = false ∧
    (let s := regd [(R.TB_CFG, 0x0001F001)] (port0 5 r0)
     s.receives 15 = true ∧ time0.sub = 1 ∧ s.fld R.TB_CFG F.TB_CFG_UP_PORT ≠ 14 ∧ ({ time0 with hops := 31 } : TimeFlit).hops = 31 ∧
     s.bit R.TB_CFG F.TB_CFG_MASTER = false ∧ s.fld R.TB_CFG F.TB_CFG_UP_PORT = 15 ∧
     time0.hops ≠ 31 ∧ s.tbSrc = 1) ∧
    r0.tbSrc ≠ 3 ∧ (regd [(R.TB_CFG, 3)] r0).tbSrc = 3 ∧ r0.intervalOver r0.tb.lastPtm = true := by decide

/-- Galleries 15 and 63 requested at `req` and standing at `st`. -/
def galAt (req st : Word) (s : State) : State :=
  regd [(R.PWR_GAL_REQ 0, req <<< 30), (R.PWR_GAL_REQ 3, req <<< 30), (R.PWR_GAL_STATE 0, st <<< 30),
    (R.PWR_GAL_STATE 3, st <<< 30)] s

/-- Gallery 63 in the image. -/
def imaged (s : State) : State := regd [(R.GAL_MODE 63, 0xFFFFFFFF)] s

theorem wit_GalleryPowerTransitions_request :
    bitsOf 31 30 (0xC0000000 : Word).toNat = 3 ∧
    (bitsOf 31 30 (0x80000000 : Word).toNat = 2 ∧ (galAt 0 2 r0).galPower 63 = 2) ∧
    ((galAt 0 0 r0).galBusy 63 = false ∧ (galAt 0 0 r0).galPower 63 ≠ 2 ∧
      (galAt 0 0 (imaged r0)).galRefuses 63 2 = true ∧ (galAt 0 0 r0).galRefuses 63 2 = false ∧
      (galAt 0 0 r0).isOff 63 = false ∧ NMap.wf (fun _ => false) (galAt 0 0 r0).wiu.pend = true) := by decide

theorem wit_GalleryPowerTransitions_moves :
    (let s := galAt 1 0 (imaged r0)
     s.galReq 63 = 1 ∧ s.galPower 63 = 0 ∧ s.galBusy 63 = false ∧ s.galRefuses 63 1 = false) ∧
    ((galAt 0 1 r0).galReq 63 = 0 ∧ (galAt 0 1 r0).galPower 63 = 1) ∧
    (let s := galAt 2 1 r0
     s.galReq 63 = 2 ∧ s.galPower 63 < 2 ∧ s.galBusy 63 = false ∧ s.galRefuses 63 2 = false ∧
      s.mem.bankQ.any (fun r => r.gal == 63 && r.since.isSome) = false ∧
      s.host.netQ.any (fun r => r.gal == 63 && r.taken) = false) ∧
    ((galAt 1 2 r0).galReq 63 ≠ 2 ∧ (galAt 1 2 r0).isOff 63 = true) := by decide

theorem wit_ResetsLeaveWhatTheyLeave :
    r0.canon ∧ R.TB_INCR ≠ R.LNT_STATUS ∧ ¬(0x200000 ≤ R.TB_INCR ∧ R.TB_INCR < 0x400000) ∧
    (0x200000 ≤ R.LNT_STATUS ∧ R.LNT_STATUS < 0x400000 ∧ R.LNT_STATUS ∉ [R.PWR_STATUS, R.PWR_GAL_STATE 0,
      R.PWR_GAL_STATE 1, R.PWR_GAL_STATE 2, R.PWR_GAL_STATE 3]) ∧ (0x20000 ≤ R.DMA_ENGINE ∧ R.DMA_ENGINE < 0x30000) := by
  exact ⟨⟨by decide, by decide⟩, by decide⟩

/-- Power good or not, with every rail up. -/
def rails (pg : Word) (s : State) : State := regd [(R.PWR_STATUS, 0x3F + (pg <<< 31))] s

theorem wit_BringUpAndLinks :
    (r0.host.perstHigh = false ∧ (rails 1 r0).bit R.PWR_STATUS F.PWR_STATUS_PGOOD = true ∧
      r0.bit R.PWR_STATUS F.PWR_STATUS_PGOOD = false) ∧
    (let s := { rails 0 r0 with lnt := { r0.lnt with inRom := false }, sched := { r0.sched with now := 1500000 }
                                pwr := { r0.pwr with vaux := true, railsOk := some 0, vcoreFrom := (0, 0) } }
     s.bit R.PWR_STATUS F.PWR_STATUS_PGOOD = false ∧ s.lnt.inRom = false ∧ s.pwr.vaux = true ∧
      s.fld R.PWR_STATUS F.PWR_STATUS_RAIL_OK = 63 ∧ s.pwr.railsOk = some 0 ∧ 0 + 1500000 ≤ s.sched.now ∧
      s.vcoreNow = s.fld R.PWR_STATUS F.PWR_STATUS_VCORE_TARGET ∧
      ({ s with host := { s.host with perstHigh := true } } : State).host.perstHigh = true) ∧
    (r0.pwr.d2dRate = 0 ∧ ({ r0.pwr with d2dFails := 5 } : Power).d2dFails < 6 ∧
      ({ r0.pwr with d2dRate := 32 } : Power).d2dRate ≠ 0) := by decide

/-- Tracing on, with source 67 enabled, running (3) or not (1), and `l` in its FIFO. -/
def traced (st : Word) (l : List Dword) (s : State) : State :=
  let s := regd [(R.TRC_CTL, 1), (R.TRC_SRC_CFG 67, 0xFFFFFFFF), (R.TRC_SRC_STATUS 67, st <<< 30)] s
  { s with trc := { s.trc with fifo := if l = [] then [] else [(67, l)], last := 66 } }

/-- Source 67's comparators 0 and 1 at 0x1000, with an action each. -/
def compared (a : Word) (s : State) : State :=
  regd [(R.TRC_CMP_CTL 67, a), (R.TRC_CMP_LO 67 0, 0x1000), (R.TRC_CMP_LO 67 1, 0x1000)] s

theorem wit_TraceIsWrittenAndBuffered_encoders :
    F.TRC_SRC_CFG_ENABLE.of 0xFFFFFFFF = 1 ∧ (2 ≤ ({ r0.part with debugLock := 2 } : Part).debugLock) ∧
    (r0.part.debugLock < 2 ∧ r0.bit (R.TRC_SRC_CFG 67) F.TRC_SRC_CFG_ENABLE = false ∧
      (regd [(R.TRC_CTL, 1)] r0).bit R.TRC_CTL F.TRC_CTL_ENABLE = true ∧ F.TRC_SRC_CFG_RUN_AT_ENABLE.of 0xFFFFFFFF = 1 ∧
      (NMap.get (fun _ => []) r0.trc.fifo 67).length + 2 ≤ 30) ∧
    (let s := compared 4 (traced 1 [] r0)
     s.bit R.TRC_CTL F.TRC_CTL_ENABLE = true ∧ s.bit (R.TRC_SRC_CFG 67) F.TRC_SRC_CFG_ENABLE = true ∧
      s.cmpFirst 67 (srcAddr 67 0xFFFF00001003) 2 = none ∧ s.cmpFirst 67 (srcAddr 67 0xFFFF00001003) 1 = some 1 ∧
      s.bit (R.TRC_SRC_STATUS 67) F.TRC_SRC_STATUS_RUNNING = false ∧ (NMap.get (fun _ => []) s.trc.fifo 67).length + 3 ≤ 30 ∧
      NMap.wf (fun _ => 0) s.trc.addr = true) ∧
    (let s := compared 9 (traced 3 [5] r0)
     s.cmpFirst 67 (srcAddr 67 0x1000) 2 = some 1 ∧ s.bit (R.TRC_SRC_STATUS 67) F.TRC_SRC_STATUS_RUNNING = true ∧
      (NMap.get (fun _ => []) s.trc.fifo 67).length + 2 ≤ 30) ∧
    (let s := traced 3 [] r0
     s.bit (R.TRC_SRC_STATUS 67) F.TRC_SRC_STATUS_CLOCKED = true ∧ s.tracing 67 = true ∧
      (NMap.get (fun _ => []) s.trc.outcomes 67).length < 45 ∧
      NMap.get (fun _ => 0) s.trc.count 67 + 3 < s.syncEvery 67 ∧ (NMap.get (fun _ => []) s.trc.fifo 67).length + 3 ≤ 30 ∧
      NMap.wf (fun _ => []) s.trc.outcomes = true) ∧
    (let s := { traced 3 [] r0 with sched := { r0.sched with dtc := 1024000 * 2 ^ 32 } }
     s.tracing 67 = true ∧ s.stampAt 67 = 1 ∧ s.stampAt 67 ≠ NMap.get (fun _ => 0) s.trc.stamps 67 ∧
      ({ s with sched := { s.sched with dtc := 1024000 * 2 ^ 32 - 1 } } : State).stampAt 67 =
        NMap.get (fun _ => 0) s.trc.stamps 67) ∧
    (let s := { traced 3 [] r0 with trc := { (traced 3 [] r0).trc with outcomes := [(67, List.replicate 45 true)] } }
     s.tracing 67 = true ∧ (NMap.get (fun _ => []) s.trc.outcomes 67).length = 45 ∧
      NMap.wf (fun _ => []) s.trc.outcomes = true) ∧ (traced 1 [] r0).tracing 67 = false := by decide

theorem wit_TraceIsWrittenAndBuffered_buffer :
    ((traced 3 [7, 8] r0).trcTurn = some 67 ∧ NMap.get (fun _ => []) (traced 3 [7, 8] r0).trc.fifo 67 = 7 :: [8] ∧
      (traced 3 [7, 8] r0).trcRoom = true ∧ (traced 3 [7, 8] r0).trcTook < 2 ∧ NMap.wf (fun _ => []) (traced 3 [7, 8] r0).trc.fifo = true) ∧
    ((traced 3 (List.replicate 30 1) r0).tracing 67 = true ∧
      30 ≤ (NMap.get (fun _ => []) (traced 3 (List.replicate 30 1) r0).trc.fifo 67).length) ∧
    (let s := { r0 with trc := { r0.trc with lost := [(67, 0x10001)] } }
     NMap.get (fun _ => 0) s.trc.lost 67 ≠ 0 ∧ NMap.get (fun _ => []) s.trc.outcomes 67 = [] ∧
      (NMap.get (fun _ => []) s.trc.fifo 67).length + 0 ≤ 29) ∧
    (let s := { r0 with trc := { r0.trc with clearing := true } }
     s.trc.clearing = true ∧ s.bit R.TRC_CTL F.TRC_CTL_MODE = false) := by decide

/-- A buffer of host memory of zeros. -/
def zeros (n : Nat) : HostBuf := ⟨n, List.replicate n 0, none⟩

theorem hostBytes_whole (n : Nat) (bs : List Byte) (h : bs.length ≤ n) : hostBytes ⟨n, bs, none⟩ n = .inr bs := by
  simp [hostBytes, List.take_of_length_le h]

/-- A firmware image of 8192 bytes for both steppings, of the slot kind, its sections empty. -/
def fw0 (build : Byte) : List Byte :=
  [0x46, 0x52, 0x4D, 0x57, 1, 0, 0x65, 0x0E, 3, 0, 0, 0, build, 0, 0, 0, 0, 0x20, 0, 0] ++ List.replicate 8172 0

/-- The checks on `fw0` that rest on the algorithms no value is known of. -/
def fwTrusted (b : Byte) : Prop :=
  (shake32 (((fw0 b).drop 4096).take 1793) == Config.fwKeyDigest) = true ∧ sigBlockOk (fw0 b) 4096 (fwMeasure (fw0 b)) = true

theorem fw0_header : (allUp r0).fwHeaderOk (fw0 7) 0 = true ∧ natAt (fw0 7) 0x10 8 = 8192 := by decide +kernel

theorem wit_LanternCommandsAnswer_read :
    (let s := allUp r0
     s.serves (.getInfo hdr0 ⟨256, [], none⟩) = true ∧ s.serves (.getInfo hdr0 ⟨255, [], none⟩) = true ∧
     s.serves (.attest hdr0 7 ⟨4608, [], none⟩) = true ∧ s.serves (.attest hdr0 7 ⟨4607, [], none⟩) = true ∧
     s.serves (.logRead hdr0 0 8192 ⟨262144, [], none⟩) = true ∧ s.serves (.logRead hdr0 0 0 ⟨262144, [], none⟩) = true ∧
     s.serves (.logRead hdr0 0 8192 ⟨262143, [], none⟩) = true ∧
     (1 ≤ (8192 : BitVec 16).toNat ∧ (8192 : BitVec 16).toNat ≤ 8192 ∧ (8192 : BitVec 16).toNat * 32 ≤ 262144) ∧
     (let u := s.begunBy (.fwUpdate hdr0 0 0 (zeros 4352) true)
      s.serves (.fwUpdate hdr0 0 0 (zeros 4352) true) = true ∧ s.serves (.fwUpdate hdr0 2 0 (zeros 4352) true) = true ∧
      s.serves (.fwUpdate hdr0 1 1 (zeros 4352) false) = true ∧
      u.lnt.upd.phase = .idle ∧ u.fwRunning = (0 : BitVec 8).toNat ∧ u.fwRunning ≠ (1 : BitVec 8).toNat ∧
      u.fwOk (zeros 4352).bytes 0 = false) ∧
     (let s := { s with lnt := { s.lnt with upd := { s.lnt.upd with phase := .learn } } }
      s.serves (.fwUpdate hdr0 1 0 (zeros 4352) true) = true ∧
      (s.begunBy (.fwUpdate hdr0 1 0 (zeros 4352) true)).lnt.upd.phase ≠ .idle)) := by decide +kernel

theorem wit_LanternCommandsAnswer_bytes : hostBytes (zeros 4352) 4352 = .inr (zeros 4352).bytes :=
  hostBytes_whole _ _ (by decide +kernel)

/-- A slot's update is accepted where the algorithms accept its key and its signature. -/
theorem wit_LanternCommandsAnswer_update (h : fwTrusted 7) :
    ((allUp r0).begunBy (.fwUpdate hdr0 1 1 ⟨8192, fw0 7, none⟩ true)).fwOk (fw0 7) 0 = true := by
  have hh : ((allUp r0).begunBy (.fwUpdate hdr0 1 1 ⟨8192, fw0 7, none⟩ true)).fwHeaderOk (fw0 7) 0 = true := by decide +kernel
  simp only [State.fwOk, hh, fw0_header.2]
  simpa [fwTrusted] using h

theorem wit_LanternCommandsAnswer_inject :
    (allUp r0).serves (.injectStatus hdr0 0x0100 63) = true ∧ (allUp r0).serves (.injectFault hdr0 0x0106 63) = true ∧
    (let u := (allUp r0).begunBy (.injectStatus hdr0 0x0100 63)
     u.injectFail 0x010C 0 false = some 2 ∧ u.injectFail 0x0100 64 false = some 0x32 ∧
     u.injectFail 0x0100 63 false = none ∧ (0x0100 : Word).toNat / 256 ≠ 0x10 ∧
     u.injectFail 0x1001 0 false = none ∧ (0x1001 : Word).toNat / 256 = 0x10) ∧
    (let u := (allUp r0).begunBy (.injectFault hdr0 0x0106 63)
     u.injectFail 0x0106 63 true = none ∧ u.injectFail 0x0105 63 true = some 2) := by decide

/-- A setting's authorisation block of the first setting, with no owner programmed. -/
def auth0 (value signer : Byte) : HostBuf :=
  ⟨4160, value :: List.replicate 51 0 ++ [signer] ++ List.replicate 4107 0, none⟩

theorem wit_CountedFusesAreAuthorised_bytes : hostBytes (auth0 1 0xFF) 4160 = .inr (auth0 1 0xFF).bytes :=
  hostBytes_whole _ _ (by decide +kernel)

theorem wit_CountedFusesAreAuthorised :
    let s := allUp r0
    let u := s.begunBy (fuseInstr 0 hdr0 0 (auth0 1 0xFF))
    (s.serves (fuseInstr 0 hdr0 0 (auth0 1 0xFF)) = true ∧ s.serves (fuseInstr 5 hdr0 0 (auth0 1 0xFF)) = true ∧
      s.serves (.storeKek hdr0 7 (auth0 1 0xFF)) = true) ∧
    ((3 : Fin 6).val = 3 ∧ 3 ≤ ({ s with part := { s.part with debugLock := 3 } } : State).part.debugLock) ∧
    s.part.debugLock < 3 ∧ u.fuseAuth 1 0 (auth0 1 0).bytes = false ∧ u.fuseRule 1 0 (auth0 2 0xFF).bytes = false ∧
    (u.fuseAuth 1 0 (auth0 1 0xFF).bytes = true ∧ u.fuseRule 1 0 (auth0 1 0xFF).bytes = true ∧ u.fuseLeft 1 0 ≠ 0 ∧
      s.part.journal.length < 128) ∧
    (({ s with part := { s.part with used := [(256, 64)] } } : State).fuseLeft 1 0 = 0) ∧
    (u.fuseAuth 0x10 7 (auth0 1 0xFF).bytes = true ∧ (7 : BitVec 8).toNat < 8 ∧ zeroAt (auth0 1 0xFF).bytes 40 8 = true ∧
      zeroAt (auth0 1 0xFF).bytes 0 40 = false ∧ s.part.fuseKek = none) ∧
    (u.fuseAuth 0x10 7 (auth0 0 0xFF).bytes = true ∧ zeroAt (auth0 0 0xFF).bytes 0 40 = true) ∧
    u.fuseAuth 0x10 7 (auth0 1 0).bytes = false := by decide +kernel

/-- A buffer that faults at its byte 5. -/
theorem wit_CountedFusesAreAuthorised_fault : hostBytes ⟨4160, [], some 5⟩ 4160 = .inl 0x33 := by decide +kernel

/-- A key-encryption key that unwraps to `k`, where the algorithm gives one. -/
theorem wit_CountedFusesAreAuthorised_kek (kek k : List Byte) (h : Config.keyUnwrap kek ((auth0 1 0xFF).bytes.take 40) = some k) :
    ∃ s : State, s.serves (.storeKek hdr0 7 (auth0 1 0xFF)) = true ∧ s.part.fuseKek = some kek ∧
      Config.keyUnwrap kek ((auth0 1 0xFF).bytes.take 40) = some k :=
  ⟨{ allUp r0 with part := { (allUp r0).part with fuseKek := some kek } },
    (show (allUp r0).serves (.storeKek hdr0 7 (auth0 1 0xFF)) = true by decide +kernel), rfl, h⟩

/-- Lantern in firmware slot 0. -/
def running0 (s : State) : State := { s with lnt := { s.lnt with inRom := false } }

/-- An event of the log. -/
def ev0 : LogEvent := ⟨0, 0, 1, 0, 0, 2, false, false, false, 0, [], 0⟩

theorem wit_LanternBootsAndWatches_boot :
    (r0.lnt.inRom = true ∧ r0.lnt.armed = [] ∧ r0.flash.active < 2 ∧
      (∀ w ∈ r0.part.journal, w.getLsbD 31 = true → w.getLsbD 30 = true)) ∧
    r0.bootOrder.find? r0.bootable = none ∧
    (let s : State := { running0 r0 with sched := { r0.sched with now := 15000000000 } }
     s.lnt.inRom = false ∧ s.fwRunning < 2 ∧ s.lnt.startedAt + 15000000000 ≤ s.sched.now) := by
  have h0 : r0.bootable 0 = false := by decide +kernel
  have h1 : r0.bootable 1 = false := by decide +kernel
  have h2 : r0.bootable 2 = false := by decide +kernel
  have ho : r0.bootOrder = [0, 1, 2] := by decide
  have hj : r0.part.journal = [] := rfl
  refine ⟨⟨rfl, rfl, by decide, by simp [hj]⟩, ?_, by decide⟩
  rw [ho]
  simp [h0, h1, h2]

/-- A device whose slot 1 holds `fw0 7` boots it where the algorithms accept it. -/
theorem wit_LanternBootsAndWatches_slot (h : fwTrusted 7) :
    let s : State := { r0 with flash := { r0.flash with images := [(1, fw0 7)], active := 1 } }
    s.bootOrder.find? s.bootable = some 1 := by
  intro s
  have hh : s.fwHeaderOk (fw0 7) 0 = true := by decide +kernel
  have hi : s.fwImage 1 = fw0 7 := by rfl
  have hf : Nat.blt (s.fwFails 1) 3 = true := by decide
  have hb : s.bootable 1 = true := by
    simp only [State.bootable, hi, State.fwOk, hh, fw0_header.2, hf]
    simpa [fwTrusted] using h
  have ho : s.bootOrder = [1, 0, 2] := by decide
  simp [ho, hb]

theorem wit_LanternBootsAndWatches_watch :
    (let s := { r0 with lnt := { r0.lnt with logQueue := [ev0] } }
     s.lnt.logQueue = ev0 :: [] ∧ s.lnt.logDropped = 0 ∧ coalesce ev0 s.lnt.log = none) ∧
    (let s := { r0 with lnt := { r0.lnt with logQueue := [ev0], log := [ev0] } }
     (coalesce ev0 s.lnt.log).isSome = true) ∧
    r0.lnt.epochDue ≤ r0.sched.now ∧ detListed (0x0C : BitVec 8).toNat (5 : BitVec 8).toNat = false ∧
    (detListed (0x0C : BitVec 8).toNat (4 : BitVec 8).toNat = true ∧
      unitOk (0x0C : BitVec 8).toNat (4 : BitVec 8).toNat (3 : BitVec 8).toNat = true ∧
      (0x0C : BitVec 8) ≠ 0x10 ∧ detClass 0x0C 4 = 3) ∧
    unitOk (0x0C : BitVec 8).toNat (4 : BitVec 8).toNat (4 : BitVec 8).toNat = false ∧
    detClass 0x0F 1 = 1 ∧ detClass 0x09 0x11 = 2 := by decide

/-- A state in which every gallery sensor reads `v`. -/
def hot (v : Nat) (s : State) : State :=
  { s with regs := galSensors.map (fun i => (R.SNS_VALUE i, 0x80000000 + BitVec.ofNat 32 v)) }

theorem wit_SensorsAndRailsAct :
    (NMap.get (fun _ => 0) r0.lnt.missed 92 < 9 ∧
      NMap.get (fun _ => 0) ({ r0.lnt with missed := [(92, 9)] } : Lantern).missed 92 = 9) ∧
    (∃ i ∈ galSensors, ∃ x, (hot 880 r0).reading i = some x ∧ 880 ≤ x) ∧
    (∀ i ∈ galSensors, ∃ x, (hot 799 r0).reading i = some x ∧ x < 800) ∧
    (let s : State := { r0 with sched := { r0.sched with now := 15000000 } }
     s.pwr.vcoreFrom.2 + 15000000 ≤ s.sched.now) := by
  refine ⟨by decide, ⟨63, by decide, 880, by decide, by decide⟩, ?_, by decide⟩
  have h : ∀ i ∈ galSensors, (hot 799 r0).reading i = some 799 := by decide +kernel
  exact fun i hi => ⟨799, h i hi, by decide⟩

/-- Lantern in its firmware, its update in a phase, with an image of a slot. -/
def upd0 (p : UpdPhase) (applied : Bool) (s : State) : State :=
  { s with lnt := { s.lnt with inRom := false, upd := { s.lnt.upd with phase := p, image := fw0 7, applied := applied } } }

theorem wit_PldmIsAnsweredAndUpdates_answers :
    r0.plainAnswer (.getPdr 93) = some (false, .statePdr) ∧ r0.plainAnswer .getEndpointUuid = some (true, .uuid) ∧
    (running0 r0).lnt.inRom = false ∧ r0.lnt.inRom = true ∧
    (let s := regd [(R.LNT_CTL, 3)] (running0 r0)
     s.lnt.inRom = false ∧ (s.reg R.LNT_CTL).getLsbD 1 = true ∧ s.reg (R.LNT_ETH_IP4 1) = 0) ∧
    (let s := regd [(R.LNT_CTL, 2)] (running0 r0)
     (s.reg R.LNT_CTL).getLsbD 0 = false) := by decide

theorem wit_PldmIsAnsweredAndUpdates_phases :
    (r0.lnt.upd.phase = .idle ∧ r0.bit R.LNT_STATUS F.LNT_STATUS_FW_UPDATING = false) ∧
    (upd0 .learn false r0).lnt.upd.phase = .learn ∧ (upd0 .learn false r0).lnt.upd.phase ≠ .idle ∧
    (upd0 .ready true r0).lnt.upd.phase = .ready ∧ (upd0 .ready true r0).lnt.upd.applied = true ∧
    (upd0 .ready true r0).lnt.upd.phase ≠ .learn ∧ (upd0 .learn true r0).lnt.upd.phase ≠ .ready ∧
    (upd0 .download true r0).lnt.upd.phase = .download ∧
    ((upd0 .verify true r0).lnt.upd.phase = .verify ∧ (upd0 .verify true r0).lnt.upd.verified = false) ∧
    (upd0 .apply true r0).lnt.upd.phase = .apply := by decide

/-- The device in D3hot. -/
def d3 (s : State) : State := { s with host := { s.host with d3hot := true } }

/-- The device with its BARs at 0, 2^32 and 2^34, and Memory Space Enable set. -/
def barsAt (s : State) : State :=
  { s with host := { s.host with cfg := { s.host.cfg with command := 2, bars := [(3, 1), (5, 4)] } } }

/-- A BAR4 aperture mapped to gallery 63's bank (0) or net store (1). -/
def apertured (space : Word) (s : State) : State :=
  regd [(R.BAR4_SEL 15, 0xFFFFFFFF)] s |>.put (R.BAR4_SEL 15) F.BAR4_SEL_SPACE space.toNat

/-- A write of `n` zeros. -/
def hostZeros (n : Nat) : HostOp := .write (List.replicate n (some 0))

theorem wit_HostAccessesAreGatedAndServed :
    (d3 r0).host.d3hot = true ∧ r0.host.cfg.command.getLsbD 1 = false ∧ r0.barOf 0 = none ∧
    (let s := barsAt r0
     s.barOf (0xFFFFFC : BitVec 64).toNat = some 0 ∧ s.barOf (0x100FFFFFF : BitVec 64).toNat = some 2 ∧
     s.barOf (0x400FFFFFF : BitVec 64).toNat = some 4 ∧
     s.badReq .poisoned = some .poisoned ∧
     ({ s with host := { s.host with cfg := { s.host.cfg with aerCtl := 0x100 } } } : State).badReq .ecrc = some .ecrc ∧
     s.malformed 0xFFF (.read 2) = true ∧ s.malformed 0xFFF (.read 1) = false ∧ s.malformed 0 (hostZeros 129) = true ∧
     s.malformed 0 (hostZeros 128) = false ∧
     ((4 : Fin 4097).val = 4 ∧ (0xFFFFFC : BitVec 64).toNat % 4 = 0 ∧ s.blocked (.bar0 0xFFFFFC (.read 4) s.sched.now) = false ∧
       s.blocked (.bar0 0xFFFFFC (hostZeros 4) s.sched.now) = false ∧ s.malformed 0xFFFFFC (.read 4) = false ∧
       s.noc.waiting = [] ∧ acrossD2d (bar0Off 0xFFFFFC) = false ∧ bar0Off 0xFFFFFC < 0x1000000) ∧
     ((16 : Fin 4097).val ≠ 0 ∧ bar0Ok (bar0Off 0x200000) (16 : Fin 4097).val = false ∧ s.malformed 0x200000 (.read 16) = false) ∧
     ([some (0 : Byte)].length ≠ 0 ∧ [some (0 : Byte)].length < 4)) ∧
    (let s := barsAt (allUp r0)
     let a : BitVec 64 := 0x100FFFFFF
     s.malformed a (.read 1) = false ∧ a.toNat % 256 + opLen (.read 1) ≤ 256 ∧ 1 ≤ opLen (.read 1) ∧
      s.bar2Addr (a.toNat % 2 ^ 32) < 2 ^ 35 ∧ s.chanReady (dsChannel (s.bar2Addr (a.toNat % 2 ^ 32))) = true ∧
      s.hostMayRead (s.bar2Addr (a.toNat % 2 ^ 32)) = true ∧
      (s.dsReadBytes (s.bar2Addr (a.toNat % 2 ^ 32)) 1).2.1 = false ∧
      2 ^ 35 ≤ (regd [(R.BAR2_BASE, 0xFFFFFFFF)] s).bar2Addr ((0x101000000 : BitVec 64).toNat % 2 ^ 32)) ∧
    (let sel := R.BAR4_SEL ((0x400FFFF00 : BitVec 64).toNat / 2 ^ 20 % 16)
     (barsAt r0).malformed 0x400FFFF00 (.read 256) = false ∧ opLen (.read 256) ≤ 256 ∧ 256 < opLen (.read 257) ∧
      (barsAt r0).malformed 0x400FFF000 (.read 257) = false ∧ r0.bit sel F.BAR4_SEL_VALID = false ∧
      ((apertured 0 r0).bit sel F.BAR4_SEL_VALID = true ∧ (apertured 0 r0).bit sel F.BAR4_SEL_SPACE = false ∧
        opLen (hostZeros 1) ≠ 0) ∧
      ((apertured 1 r0).bit sel F.BAR4_SEL_VALID = true ∧ (apertured 1 r0).bit sel F.BAR4_SEL_SPACE = true ∧
        (apertured 1 r0).isOff ((apertured 1 r0).fld sel F.BAR4_SEL_GALLERY) = false)) := by decide +kernel

/-- A read, or a write of one byte, of a net-store byte that the gallery's net-store port serves. -/
def netq0 (w : Option (List (Option Byte))) : NetReq := ⟨63, 0, 7, 1, w, [], true, 0⟩

/-- Message 255 enabled and pending. -/
def msi0 (s : State) : State :=
  { s with host := { s.host with msixPend := [(255, true)], msixMask := [(255, false)], msixEnable := true } }

theorem wit_WindowsMessagesAndBarriers_host :
    ((barsAt r0).barsOpen = true ∧ (barsAt r0).barBase 0 % 2 ^ 26 = 0 ∧ (barsAt r0).noc.waiting = [] ∧ r0.barsOpen = false) ∧
    (let s (w : Option (List (Option Byte))) : State := { r0 with host := { r0.host with netQ := [netq0 w] } }
     (s none).netPeriod 63 = true ∧ (s none).nextNet 63 = some (netq0 none) ∧ (netq0 none).left ≤ 8 - (netq0 none).off % 8 ∧
     (s (some [some 5])).nextNet 63 = some (netq0 (some [some 5])) ∧ r0.runState ≤ 1 ∧
     (netq0 (some [some 5])).off % 1024 < 0x100 ∧ NMap.wf (fun _ => false) r0.fab.nsPrev = true ∧
     1 < (regd [(R.DEVICE_STATE, 2)] r0).runState) ∧
    ((d3 (msi0 r0)).host.d3hot = true ∧ NMap.wf (fun _ => false) (d3 (msi0 r0)).host.msixPend = true ∧
      ({ d3 (msi0 r0) with host := { (d3 (msi0 r0)).host with d3hot := false } } : State).msixReady 255 = true) ∧
    (msi0 r0).msixReady 255 = true ∧
    (let s := { r0 with noc := { r0.noc with waiting := [.bar0 0x80000 (.read 4) 0] }, sched := { r0.sched with now := 3000000 } }
     s.overdueReads 0x80000 ≠ [] ∧ r0.overdueReads 0x80000 = []) ∧
    (0x9F : BitVec 8) ≠ 3 ∧ (0x9F : BitVec 8) ≠ 2 ∧
    spiReaches 0x3FFFFC = true ∧ spiReaches 0x400000 = false ∧ (7 : Fin 8) ≠ 0 := by decide

/-- A packet to a node. -/
def pkt0 (kind : PktKind) (dest : BitVec 8) (remote : Bool) : NocPkt :=
  ⟨kind, 0, 1, dest, 0x11, 511, 0, remote, 0, 0, 0, false, 0, 0, 0xFF, 0, 0, 0, []⟩

theorem wit_WindowsMessagesAndBarriers_barriers :
    (regd [(R.NOC_STATUS, 0xFFFFFFFF)] r0).barrierBusy = true ∧ r0.barrierBusy = false ∧
    (let s := { r0 with noc := { r0.noc with barrierSince := some 1 }, sched := { r0.sched with now := 0x3FFFFFFF } }
     s.noc.barrierSince = some 1 ∧ 1 + max 0x400 (s.reg R.NOC_BARRIER_LIMIT).toNat ≤ s.sched.now) ∧
    r0.noc.barrierSince = none ∧
    (let s := { regd [(R.NOC_STATUS, 0xFFFFFFFF)] r0 with sched := { r0.sched with now := 0x3FFFFFFF } }
     s.bit R.NOC_STATUS F.NOC_STATUS_COMPAT_ACTIVE = true ∧ s.noc.compatSince + (s.reg R.NOC_STALL_LIMIT).toNat ≤ s.sched.now ∧
     r0.sched.now < r0.noc.compatSince + (r0.reg R.NOC_STALL_LIMIT).toNat) ∧
    r0.bit R.NOC_STATUS F.NOC_STATUS_COMPAT_ACTIVE = false ∧
    ({ r0 with sched := { r0.sched with restoreBusy := true } } : State).sched.restoreBusy = true ∧
    r0.sched.restoreBusy = false := by decide

theorem wit_PacketsAreRoutedAndServed :
    badHeader (pkt0 .reserved 0x11 false) = true ∧
    (let p := pkt0 .read 0x11 true
     badHeader p = false ∧ p.remote = true ∧ p.destDev.val ≠ r0.devNum ∧ r0.routePort p.destDev.val = none ∧ p.kind = .read ∧
      (regd [(R.LTC_ROUTE 127, 0x8F000000)] r0).routePort p.destDev.val = some 15) ∧
    (let p := pkt0 .write 0x88 false
     badHeader p = false ∧ p.remote = false ∧ r0.blocked (.pkt p) = false ∧ r0.noc.waiting.any (sameLane (.pkt p)) = false ∧
      p.dest.toNat = galNode (63 : Gal).val ∧ (galAt 2 2 r0).isOff (63 : Gal).val = true ∧ p.kind = .write ∧
      (galAt 2 1 r0).blocked (.pkt p) = true) ∧
    (hasEndpoint (pkt0 .read 0xFF false).dest.toNat = false ∧ (pkt0 .read 0xFF false).kind = .read) ∧
    (let p := pkt0 .read 0x11 true
     r0.receives 15 = false ∧ (port0 5 r0).receives 15 = true ∧ 2 ≤ (2 : BitVec 8).toNat ∧ (1 : BitVec 8).toNat ≤ 1 ∧
      p.srcDev.val ≠ (regd [(R.LTC_ID, 0xFFFFFFFF)] r0).devNum ∧
      p.destDev.val = (regd [(R.LTC_ID, 0xFFFFFFFF)] r0).devNum) := by decide

/-! Each check of well-formedness refuses a term. -/

theorem wf_mwr_mask : (Instr.mwr 0 0 (prev 0) ⟨false, false, false⟩).wf = false ∧
    (Instr.mwr 0 0x80 (prev 0) ⟨false, false, false⟩).wf = true := by decide

theorem wf_mdeepwr_mask : (Instr.mdeepwr 0 0 (prev 0) ⟨false, false, false⟩).wf = false := by decide

theorem wf_assert_action : (Instr.assert 0 ⟨true, false, false, false⟩ (prev 0) ⟨false, false, false⟩).wf = false := by decide

theorem wf_packet_data : (Instr.nocPacket { pkt0 .write 0x11 false with len := 1, data := [0, 0, 0, 0, 0] }).wf = false ∧
    (Instr.nocPacket { pkt0 .write 0x11 false with len := 1, data := [0, 0, 0, 0] }).wf = true := by decide

theorem wf_tunnel_ttl : (Instr.nocTunnelPacket 0 17 (pkt0 .read 0x11 true)).wf = false ∧
    (Instr.nocTunnelPacket 0 16 (pkt0 .read 0x11 true)).wf = true := by decide

theorem wf_bank_write_mask : bankOpOk (.write 0 0) = false ∧ bankOpOk (.write 1 0) = true := by decide

theorem wf_host_write_page : hostOpOk (hostZeros 4097) = false ∧
    hostOpOk (hostZeros 4096) = true := by decide +kernel

theorem wf_march_fault : faultOk ⟨1, 0, 0, 2047, 1, false⟩ = false ∧ faultOk ⟨3, 0, 0, 2047, 31, false⟩ = true ∧
    faultOk ⟨4, 0, 0, 256, 0, false⟩ = false ∧ faultOk ⟨2, 0, 0, 1024, 0, false⟩ = false := by decide

theorem wf_entry_bytes : (Instr.commandFetch 0 (some [])).wf = false ∧
    (Instr.commandFetch 0 (some (List.replicate 64 0))).wf = true := by decide

theorem wf_buffer_bytes : (Instr.getInfo hdr0 ⟨1, [0, 0], none⟩).wf = false ∧
    (Instr.attest hdr0 0 ⟨1, [0, 0], none⟩).wf = false ∧ (Instr.storeKek hdr0 0 ⟨2, [0, 0], none⟩).wf = true := by decide

/-! Step words written out field by field from R34 and R35: OP, FN, GA, A, GB, B, GC, C, GD, D, P, S, K. -/

/-- A step word of R34's fields. -/
def word (op : BitVec 5) (fn : BitVec 8) (ga : BitVec 1) (a : BitVec 11) (gb : BitVec 1) (b : BitVec 11) (gc : BitVec 1)
    (c : BitVec 11) (gd : BitVec 1) (d : BitVec 11) (psk : BitVec 3) : BitVec 64 :=
  op ++ fn ++ ga ++ a ++ gb ++ b ++ gc ++ c ++ gd ++ d ++ psk

theorem word_eval : decodeStepWord (word 0b00001 0x10 1 3 1 0 0 1030 1 0 0b010) =
    some ⟨.eval 0x10 (prev 3) (prev 0) (cur 1030) (prev 0), ⟨false, true, false⟩⟩ := by decide

theorem word_resolve : decodeStepWord (word 0b00011 0b00011001 0 1 0 2 0 0 0 0 0b001) =
    some ⟨.resolve false .up .record (cur 1) (cur 2) none, ⟨false, false, true⟩⟩ ∧
    decodeStepWord (word 0b00011 0b00001100 0 1 0 2 0 0 0 0 0) = none := by decide

theorem word_mwr : decodeStepWord (word 0b00111 0x0F 0 2047 0 0 0 0 0 0 0b100) =
    some ⟨.mwr 0x0F (cur 2047), ⟨true, false, false⟩⟩ ∧ decodeStepWord (word 0b00111 0 0 2047 0 0 0 0 0 0 0) = none ∧
    decodeStepWord (word 0b00111 0x0F 0 2047 0 0 0 0 0 1 0) = none := by decide

theorem word_matom : decodeStepWord (word 0b01000 1 1 5 0 0 0 0 0 0 0) = some ⟨.matom true (prev 5), ⟨false, false, false⟩⟩ ∧
    decodeStepWord (word 0b01000 2 1 5 0 0 0 0 0 0 0) = none := by decide

theorem word_pins : decodeStepWord (word 0b01011 191 0 0 0 0 0 0 0 0 0) = some ⟨.pinin 191, ⟨false, false, false⟩⟩ ∧
    decodeStepWord (word 0b01100 191 1 1 0 0 0 0 0 0 0) = some ⟨.pinout 191 (prev 1), ⟨false, false, false⟩⟩ ∧
    decodeStepWord (word 0b01011 192 0 0 0 0 0 0 0 0 0) = none := by decide

theorem word_assert : decodeStepWord (word 0b01101 0b00001001 0 7 0 0 0 0 0 0 0) =
    some ⟨.assert ⟨true, false, false, true⟩ (cur 7), ⟨false, false, false⟩⟩ ∧
    decodeStepWord (word 0b01101 0b00001000 0 7 0 0 0 0 0 0 0) = none := by decide

theorem word_const : decodeStepWord (word 0b10000 0x7F 0 0 0 0 0 0 0 0 0b111) =
    some ⟨.const (.tickBit 63), ⟨true, true, true⟩⟩ ∧ decodeStepWord (word 0b10000 0x04 0 0 0 0 0 0 0 0 0) = none ∧
    decodeStepWord (word 0b10001 0 0 0 0 0 0 0 0 0 0) = none := by decide

/-! The manual's worked examples. -/

/-- 02, the full adder: sum 0 by XOR3, carry 1 by MAJ3, whatever the unused operand. -/
theorem example_full_adder (d : Nv) : evalBit 0xC33CC33C .one .one .one .zero d = .zero ∧
    evalBit 0xFCC0FCC0 .zero .one .one .zero d = .one := by
  rcases d with ⟨v, k⟩
  cases v <;> cases k <;> decide

/-- 02, EVALX with one unknown input: AND2 of 0 and X, of 1 and X; XOR2 of 1 and X. -/
theorem example_evalx : evalx 0xF000F000 .zero .zero .x .zero .zero = .zero ∧
    evalx 0xF000F000 .zero .one .x .zero .zero = .x ∧ evalx 0x0FF00FF0 .zero .one .x .zero .zero = .x := by decide

/-- 02, the bus with three drivers: the five cases, the second step pulled up. -/
theorem example_bus :
    (let bus (d0 e0 d1 e1 d2 e2 : Nv) : Nv × (Nv × Bool) :=
      let first := (resolveBus .z (driver d0 e0) (some (driver d1 e1)) .none).1
      (first, resolveBus first (driver d2 e2) none .up)
     bus .zero .zero .one .one .zero .zero = (.one, .one, false) ∧
     bus .one .zero .zero .zero .one .zero = (.z, .one, false) ∧
     bus .one .one .zero .zero .zero .one = (.one, .x, true) ∧
     bus .one .x .zero .zero .zero .zero = (.x, .x, false) ∧
     bus .x .one .zero .zero .zero .zero = (.x, .x, false)) := by decide

/-- 04, locating a deep word: channel 26, served by node (6, 9). 00, locating a BP: gallery 42, node (3, 6). -/
theorem example_places : dsChannel (0x01234567 * 8) = 26 ∧ nodeChan 0x69 = some 26 ∧ galOf 43210 = 42 ∧
    galNode 42 = 0x36 := by decide

/-- 16, R411 to R413: the balls of lane 3 of port 9, and the balls of all groups together, 72 by 72. -/
theorem example_balls : psgTxBall 9 3 = (69, 42) ∧ psgRxBall 9 3 = (71, 44) ∧ nBall (psgRxBall 9 3) = (72, 44) ∧
    (ballCounts.map (·.2)).sum = 72 * 72 := by decide

end Sys2Proof.Tests
end

/-! Which registers an operation writes: the rules by which the frames over registers are put together (R4). -/

namespace Sys2Proof.Machine

/-- From a canonical state the state stays canonical and registers outside `os` are as before. -/
structure Writes (os : List Nat) (s t : State) : Prop where
  canon : s.canon → t.canon
  reg : s.canon → ∀ o, o ∉ os → t.reg o = s.reg o

section Writes

variable {os : List Nat} {s t u : State}

theorem Writes.refl : Writes os s s := ⟨id, fun _ _ _ => rfl⟩

theorem Writes.trans (h : Writes os s t) (g : Writes os t u) : Writes os s u :=
  ⟨fun hs => g.canon (h.canon hs), fun hs o ho => (g.reg (h.canon hs) o ho).trans (h.reg hs o ho)⟩

theorem Writes.mono {qs : List Nat} (h : Writes qs s t) (hq : qs ⊆ os) : Writes os s t :=
  ⟨h.canon, fun hs o ho => h.reg hs o fun hoq => ho (hq hoq)⟩

/-- What changes no register writes none. -/
theorem Writes.of_touch {m : Nat} (h : Touch m s t) (hm : m.testBit 0 = false := by rfl) : Writes os s t :=
  ⟨h.2.2, fun _ o _ => congrArg (NMap.get regReset · o) (Prod.mk.inj (h.2.1 .regs hm)).1⟩

theorem Writes.setReg {o : Nat} {w : Word} (ho : o ∈ os) : Writes os s (s.setReg o w) :=
  ⟨(s.setReg_touch o w).2.2, fun hs _ hk => s.setReg_reg_of_ne _ _ _ hs.1 fun e => hk (e ▸ ho)⟩

theorem Writes.put {o n : Nat} {f : Field} (ho : o ∈ os) : Writes os s (s.put o f n) := .setReg ho

theorem Writes.bump {o n : Nat} {f : Field} (ho : o ∈ os) : Writes os s (s.bump o f n) := .setReg ho

theorem Writes.raise {o : Nat} {f : Field} (ho : o ∈ os) : Writes os s (s.raise o f) :=
  ⟨(s.raise_touch o f).2.2, (Writes.put (f := f) (n := 1) ho).reg⟩

theorem Writes.ite {c : Prop} [Decidable c] (ht : Writes os s t) (hu : Writes os s u) :
    Writes os s (if c then t else u) := by split <;> assumption

end Writes

end Sys2Proof.Machine

/-! The frame of every command, from the frames of the operations (00, R4, R74, R260). -/

namespace Sys2Proof.Machine

/-- The mask of a list of parts. -/
def Comp.mask (cs : List Comp) : Nat := cs.foldr (fun c m => 2 ^ c.bit ||| m) 0

theorem Comp.bit_injective : Function.Injective Comp.bit :=
  Function.LeftInverse.injective (g := Comp.ofNat) (fun c => by cases c <;> rfl)

/-- A part outside the list has no bit in the list's mask. -/
theorem Comp.testBit_mask_of_notMem {cs : List Comp} {c : Comp} (h : c ∉ cs) : (Comp.mask cs).testBit c.bit = false := by
  induction cs with
  | nil => exact Nat.zero_testBit _
  | cons d ds ih =>
    obtain ⟨hd, hds⟩ := not_or.1 (List.mem_cons.not.1 h)
    have hbit : d.bit ≠ c.bit := fun e => hd (Comp.bit_injective e).symm
    simpa [Comp.mask, hbit] using ih hds

/-- An outcome whose next state, if it is one, differs only in the parts `cs`. -/
def OutFrame (cs : List Comp) (s : State) (o : Out) : Prop := ∀ t, o = .next t → Frame cs s t

/-- A mask of what may change that a list of parts covers gives the frame by that list. -/
theorem OutTouch.within {m : Nat} {cs : List Comp} {s : State} {o : Out} (h : OutTouch m s o)
    (hm : m &&& Comp.mask cs = m := by dsimp only [touches]; rfl) : OutFrame cs s o := by
  intro t ht
  obtain ⟨hp, hc, -⟩ := h t ht
  exact ⟨hp, fun c hcs => hc c (testBit_of_land hm (Comp.testBit_mask_of_notMem hcs))⟩

/-- Each command changes only the parts listed for it: the frame of its own operation lies within them. -/
theorem exec_frame (c : Instr) (s : State) : OutFrame (touches c) s (exec c s) := by
  cases c with
  | tick => exact (execTick_touch s).within
  | stepIssue => exact (execStepIssue_touch s).within
  | nop b m => exact (execNop_touch b m s).within
  | eval b fn x y z u m => exact (execEval_touch b fn x y z u m s).within
  | evalx b fn x y z u m => exact (execEvalx_touch b fn x y z u m s).within
  | resolve b start pull act x y drv1 m => exact (execResolve_touch b start pull act x y drv1 m s).within
  | maddr b fn x y z u m => exact (execMaddr_touch b fn x y z u m s).within
  | mwdat b fn x y z u m => exact (execMwdat_touch b fn x y z u m s).within
  | mrd b en m => exact (execMrd_touch b en m s).within
  | mwr b mask en m => exact (execMwr_touch b mask en m s).within
  | matom b swap en m => exact (execMatom_touch b swap en m s).within
  | mdeeprd b en m => exact (execMdeeprd_touch b en m s).within
  | mdeepwr b mask en m => exact (execMdeepwr_touch b mask en m s).within
  | deepWriteAccept c => exact (execDeepWriteAccept_touch c s).within
  | pinin b pin m => exact (execPinin_touch b pin m s).within
  | pinout b pin x m => exact (execPinout_touch b pin x m s).within
  | assert b act x m => exact (execAssert_touch b act x m s).within
  | trig b leaf x m => exact (execTrig_touch b leaf x m s).within
  | sync b bar m => exact (execSync_touch b bar m s).within
  | const b sel m => exact (execConst_touch b sel m s).within
  | arrival b port step x => exact (execArrival_touch b port step x s).within
  | holdLimit => exact (execHoldLimit_touch s).within
  | turnover => exact (execTurnover_touch s).within
  | echoRecordClose => exact (execEchoRecordClose_touch s).within
  | echoRecordWritten => exact (execEchoRecordWritten_touch s).within
  | generationFlip => exact (execGenerationFlip_touch s).within
  | overrun => exact (execOverrun_touch s).within
  | haltAtBoundary => exact (execHaltAtBoundary_touch s).within
  | contextSwitch => exact (execContextSwitch_touch s).within
  | tickConfigApply => exact (execTickConfigApply_touch s).within
  | sequencerStageComplete => exact (execSequencerStageComplete_touch s).within
  | windowDone => exact (execWindowDone_touch s).within
  | forceApply => exact (execForceApply_touch s).within
  | releaseApply => exact (execReleaseApply_touch s).within
  | snapshotTake => exact (execSnapshotTake_touch s).within
  | snapshotShadowEnd => exact (execSnapshotShadowEnd_touch s).within
  | snapshotCopyEnd => exact (execSnapshotCopyEnd_touch s).within
  | snapDone => exact (execSnapDone_touch s).within
  | snapshotAbort => exact (execSnapshotAbort_touch s).within
  | restoreApply => exact (execRestoreApply_touch s).within
  | pinWordSend retries => exact (execPinWordSend_touch retries s).within
  | pinWordApply late => exact (execPinWordApply_touch late s).within
  | tickStrobe => exact (execTickStrobe_touch s).within
  | inputWordSample => exact (execInputWordSample_touch s).within
  | inputWordComplete dropped => exact (execInputWordComplete_touch dropped s).within
  | wireContention b w => exact (execWireContention_touch b w s).within
  | scrubPass x => exact (execScrubPass_touch x s).within
  | scrubStall => exact (execScrubStall_touch s).within
  | oscLock k => exact (execOscLock_touch k s).within
  | fabricFlashRead => exact (execFabricFlashRead_touch s).within
  | flashDataValid => exact (execFlashDataValid_touch s).within
  | uflProgram => exact (execUflProgram_touch s).within
  | uflErase => exact (execUflErase_touch s).within
  | uflOpEnd => exact (execUflOpEnd_touch s).within
  | spDataWrite p b => exact (execSpDataWrite_touch p b s).within
  | spDataRead p => exact (execSpDataRead_touch p s).within
  | serialByteReceive p b => exact (execSerialByteReceive_touch p b s).within
  | swReset r v => exact (execSwReset_touch r v s).within
  | imageStage h src len b14 s14 b15 s15 => exact (execImageStage_touch h src len b14 s14 b15 s15 s).within
  | headerArrival bs => exact (execHeaderArrival_touch bs s).within
  | stageSpaceCheck bs => exact (execStageSpaceCheck_touch bs s).within
  | stageEnd bs => exact (execStageEnd_touch bs s).within
  | stageTimeout => exact (execStageTimeout_touch s).within
  | imageBurst p off bs => exact (execImageBurst_touch p off bs s).within
  | imageVerify h => exact (execImageVerify_touch h s).within
  | verifyEnd golden => exact (execVerifyEnd_touch golden s).within
  | chainResult pos reason loc => exact (execChainResult_touch pos reason loc s).within
  | chainTimeout => exact (execChainTimeout_touch s).within
  | imageCommit h resume => exact (execImageCommit_touch h resume s).within
  | latticeCommit h resume => exact (execLatticeCommit_touch h resume s).within
  | commitApply => exact (execCommitApply_touch s).within
  | commitEnd => exact (execCommitEnd_touch s).within
  | commitAt p origin t digest resume => exact (execCommitAt_touch p origin t digest resume s).within
  | commitReport pos reason => exact (execCommitReport_touch pos reason s).within
  | regionReload h join => exact (execRegionReload_touch h join s).within
  | reloadIsolate => exact (execReloadIsolate_touch s).within
  | reloadWriteEnd => exact (execReloadWriteEnd_touch s).within
  | regionJoin => exact (execRegionJoin_touch s).within
  | mbxSqTailWrite q v => exact (execMbxSqTailWrite_touch q v s).within
  | mbxCqHeadWrite q v => exact (execMbxCqHeadWrite_touch q v s).within
  | queueEnable q size vector => exact (execQueueEnable_touch q size vector s).within
  | queueDisable q size vector => exact (execQueueDisable_touch q size vector s).within
  | commandFetch q e => exact (execCommandFetch_touch q e s).within
  | progressEntry h done total => exact (execProgressEntry_touch h done total s).within
  | cmdDeadline q => exact (execCmdDeadline_touch q s).within
  | coreFault k => exact (execCoreFault_touch k s).within
  | remoteCommand h e bytes fault ans back => exact (execRemoteCommand_touch h e bytes fault ans back s).within
  | getInfo h buf => exact (execGetInfo_touch h buf s).within
  | getReady h mask ms => exact (execGetReady_touch h mask ms s).within
  | getReadyComplete => exact (execGetReadyComplete_touch s).within
  | getReadyTimeout => exact (execGetReadyTimeout_touch s).within
  | run h => exact (execRun_touch h s).within
  | halt h cancel => exact (execHalt_touch h cancel s).within
  | step h cycles => exact (execStep_touch h cycles s).within
  | setTick h mode policy realign source ns frac => exact (execSetTick_touch h mode policy realign source ns frac s).within
  | selectContext h ctx => exact (execSelectContext_touch h ctx s).within
  | force h n => exact (execForce_touch h n s).within
  | release h n => exact (execRelease_touch h n s).within
  | deposit h n => exact (execDeposit_touch h n s).within
  | stateDeposit h n => exact (execStateDeposit_touch h n s).within
  | peek h n buf => exact (execPeek_touch h n buf s).within
  | memRead h space addr buf => exact (execMemRead_touch h space addr buf s).within
  | memWrite h space addr buf => exact (execMemWrite_touch h space addr buf s).within
  | memAtomic h space addr op d => exact (execMemAtomic_touch h space addr op d s).within
  | echoArm h buf => exact (execEchoArm_touch h buf s).within
  | echoArmApply => exact (execEchoArmApply_touch s).within
  | echoDisarm h => exact (execEchoDisarm_touch h s).within
  | echoRead h off consume buf => exact (execEchoRead_touch h off consume buf s).within
  | echoTrigger h fire => exact (execEchoTrigger_touch h fire s).within
  | snapshot h slot => exact (execSnapshot_touch h slot s).within
  | restore h addr resume => exact (execRestore_touch h addr resume s).within
  | latticeTrain h ports width => exact (execLatticeTrain_touch h ports width s).within
  | latticeMap h buf => exact (execLatticeMap_touch h buf s).within
  | runFrom h => exact (execRunFrom_touch h s).within
  | haltBefore h => exact (execHaltBefore_touch h s).within
  | barrierReport dev reason => exact (execBarrierReport_touch dev reason s).within
  | fwUpdate h slot flags buf readBack => exact (execFwUpdate_touch h slot flags buf readBack s).within
  | attest h nonce buf => exact (execAttest_touch h nonce buf s).within
  | logRead h start count buf => exact (execLogRead_touch h start count buf s).within
  | injectStatus h det unit => exact (execInjectStatus_touch h det unit s).within
  | injectFault h det unit => exact (execInjectFault_touch h det unit s).within
  | fuseSvn h index buf => exact (execFuseSvn_touch h index buf s).within
  | ownerProgram h index buf => exact (execOwnerProgram_touch h index buf s).within
  | ownerRevoke h index buf => exact (execOwnerRevoke_touch h index buf s).within
  | bedrockSelect h index buf => exact (execBedrockSelect_touch h index buf s).within
  | laneReversal h index buf => exact (execLaneReversal_touch h index buf s).within
  | debugLock h index buf => exact (execDebugLock_touch h index buf s).within
  | storeKek h index buf => exact (execStoreKek_touch h index buf s).within
  | powerOn vbat => exact (execPowerOn_touch vbat s).within
  | deviceReset cause => exact (execDeviceReset_touch cause s).within
  | hostReset cause => exact (execHostReset_touch cause s).within
  | perstDeassert => exact (execPerstDeassert_touch s).within
  | lntPgoodRise => exact (execLntPgoodRise_touch s).within
  | d2dTrain ok => exact (execD2dTrain_touch ok s).within
  | dsClear n => exact (execDsClear_touch n s).within
  | startupMarchEnd g found => exact (execStartupMarchEnd_touch g found s).within
  | marchStart g w => exact (execMarchStart_touch g w s).within
  | marchEnd g found => exact (execMarchEnd_touch g found s).within
  | bankRequest g word ops posted => exact (execBankRequest_touch g word ops posted s).within
  | bankAtomic g word swap d => exact (execBankAtomic_touch g word swap d s).within
  | bankServe c => exact (execBankServe_touch c s).within
  | stealTimeout g => exact (execStealTimeout_touch g s).within
  | dripScrub t endOfPass => exact (execDripScrub_touch t endOfPass s).within
  | dripWriteBack t => exact (execDripWriteBack_touch t s).within
  | dsBurst block write waiting crcFails => exact (execDsBurst_touch block write waiting crcFails s).within
  | psgTrain p w => exact (execPsgTrain_touch p w s).within
  | psgDown p w => exact (execPsgDown_touch p w s).within
  | laneEqualised p k => exact (execLaneEqualised_touch p k s).within
  | blockLock p => exact (execBlockLock_touch p s).within
  | latencyMeasured p dmax mean rtt => exact (execLatencyMeasured_touch p dmax mean rtt s).within
  | portTrained p => exact (execPortTrained_touch p s).within
  | trainingFail p => exact (execTrainingFail_touch p s).within
  | laneFail p k => exact (execLaneFail_touch p k s).within
  | blockReceive p b => exact (execBlockReceive_touch p b s).within
  | retryTimeout p => exact (execRetryTimeout_touch p s).within
  | slotFlit p ctx tag flit vals close => exact (execSlotFlit_touch p ctx tag flit vals close s).within
  | linkTimeout p flit close => exact (execLinkTimeout_touch p flit close s).within
  | decisionPoint => exact (execDecisionPoint_touch s).within
  | latticeDone p tick => exact (execLatticeDone_touch p tick s).within
  | latticeHold p origin tick time halt => exact (execLatticeHold_touch p origin tick time halt s).within
  | latticeRelease p origin tick time => exact (execLatticeRelease_touch p origin tick time s).within
  | latticeFault p origin tick time => exact (execLatticeFault_touch p origin tick time s).within
  | latticeCredit p w => exact (execLatticeCredit_touch p w s).within
  | latticeIdent p x own => exact (execLatticeIdent_touch p x own s).within
  | barrierTimeout => exact (execBarrierTimeout_touch s).within
  | nocTunnelPacket port ttl p => exact (execNocTunnelPacket_touch port ttl p s).within
  | timeFlitSend => exact (execTimeFlitSend_touch s).within
  | timeFlit p f resid => exact (execTimeFlit_touch p f resid s).within
  | ptmDialog master delay => exact (execPtmDialog_touch master delay s).within
  | holdover => exact (execHoldover_touch s).within
  | dtcWrap => exact (execDtcWrap_touch s).within
  | tbNowNsRead => exact (execTbNowNsRead_touch s).within
  | tbIncrWrite by' w => exact (execTbIncrWrite_touch by' w s).within
  | tbStepWrite by' w => exact (execTbStepWrite_touch by' w s).within
  | tbSlewWrite by' w => exact (execTbSlewWrite_touch by' w s).within
  | slewEnd => exact (execSlewEnd_touch s).within
  | tbCfgWrite w => exact (execTbCfgWrite_touch w s).within
  | tcForward e m resid => exact (execTcForward_touch e m resid s).within
  | ptpMessage e m sample => exact (execPtpMessage_touch e m sample s).within
  | ethLinkChange e up => exact (execEthLinkChange_touch e up s).within
  | nocPacket p => exact (execNocPacket_touch p s).within
  | nocApply compat => exact (execNocApply_touch compat s).within
  | routerBarrierEnd => exact (execRouterBarrierEnd_touch s).within
  | nocBarrierSlow node => exact (execNocBarrierSlow_touch node s).within
  | nocRspStall src => exact (execNocRspStall_touch src s).within
  | nocRspTimeout addr => exact (execNocRspTimeout_touch addr s).within
  | bar0Access addr op st => exact (execBar0Access_touch addr op st s).within
  | bar2Access addr op st => exact (execBar2Access_touch addr op st s).within
  | bar2BaseWrite w => exact (execBar2BaseWrite_touch w s).within
  | bar4Access addr op st => exact (execBar4Access_touch addr op st s).within
  | netStoreServe g => exact (execNetStoreServe_touch g s).within
  | bar4SelWrite a w => exact (execBar4SelWrite_touch a w s).within
  | msixSend v => exact (execMsixSend_touch v s).within
  | d3hotEntry => exact (execD3hotEntry_touch s).within
  | pcieLinkUp width rate partnerReversed => exact (execPcieLinkUp_touch width rate partnerReversed s).within
  | kick n => exact (execKick_touch n s).within
  | dmaHalt n => exact (execDmaHalt_touch n s).within
  | abort n => exact (execAbort_touch n s).within
  | dmaResume n => exact (execDmaResume_touch n s).within
  | channelEnable n w => exact (execChannelEnable_touch n w s).within
  | dmaHeadWrite n idx => exact (execDmaHeadWrite_touch n idx s).within
  | descriptorFetch n r => exact (execDescriptorFetch_touch n r s).within
  | descriptorStart n w => exact (execDescriptorStart_touch n w s).within
  | dmaReadCompletion n off r => exact (execDmaReadCompletion_touch n off r s).within
  | dmaWriteResponse n off st => exact (execDmaWriteResponse_touch n off st s).within
  | readBack n st w => exact (execReadBack_touch n st w s).within
  | channelHalt n w => exact (execChannelHalt_touch n w s).within
  | sourceEvent n level => exact (execSourceEvent_touch n level s).within
  | cicClaim ts => exact (execCicClaim_touch ts s).within
  | hostForward => exact (execHostForward_touch s).within
  | cicComplete t id host => exact (execCicComplete_touch t id host s).within
  | cicSwSet k w => exact (execCicSwSet_touch k w s).within
  | cicSrcWrite n w => exact (execCicSrcWrite_touch n w s).within
  | wardenSourcePend g idx => exact (execWardenSourcePend_touch g idx s).within
  | normalEntry g => exact (execNormalEntry_touch g s).within
  | fastEntry g => exact (execFastEntry_touch g s).within
  | normalExit g => exact (execNormalExit_touch g s).within
  | fastExit g => exact (execFastExit_touch g s).within
  | wardenTimer g => exact (execWardenTimer_touch g s).within
  | softSet g w => exact (execSoftSet_touch g w s).within
  | galleryPowerRequest k w => exact (execGalleryPowerRequest_touch k w s).within
  | galleryIdle g => exact (execGalleryIdle_touch g s).within
  | galleryOn g => exact (execGalleryOn_touch g s).within
  | galleryPowerDown g => exact (execGalleryPowerDown_touch g s).within
  | galleryWake g => exact (execGalleryWake_touch g s).within
  | wakeClearEnd g found => exact (execWakeClearEnd_touch g found s).within
  | bootRom => exact (execBootRom_touch s).within
  | watchdogExpiry => exact (execWatchdogExpiry_touch s).within
  | failureCountClear => exact (execFailureCountClear_touch s).within
  | sensorSample idx sample => exact (execSensorSample_touch idx sample s).within
  | railFault rail => exact (execRailFault_touch rail s).within
  | refclkLoss => exact (execRefclkLoss_touch s).within
  | vauxLoss => exact (execVauxLoss_touch s).within
  | vcoreReview => exact (execVcoreReview_touch s).within
  | epoch => exact (execEpoch_touch s).within
  | eventLogWrite => exact (execEventLogWrite_touch s).within
  | detectorFire block code unit => exact (execDetectorFire_touch block code unit s).within
  | sensorThresholdWrite idx w => exact (execSensorThresholdWrite_touch idx w s).within
  | spiTransaction cmd off data cut => exact (execSpiTransaction_touch cmd off data cut s).within
  | ethMgmtMessage e m => exact (execEthMgmtMessage_touch e m s).within
  | setEndpointId eid => exact (execSetEndpointId_touch eid s).within
  | getEndpointId => exact (execGetEndpointId_touch s).within
  | getEndpointUuid => exact (execGetEndpointUuid_touch s).within
  | getMctpVersionSupport => exact (execGetMctpVersionSupport_touch s).within
  | getMessageTypeSupport => exact (execGetMessageTypeSupport_touch s).within
  | getTid => exact (execGetTid_touch s).within
  | setTid tid => exact (execSetTid_touch tid s).within
  | getPldmVersion type => exact (execGetPldmVersion_touch type s).within
  | getPldmTypes => exact (execGetPldmTypes_touch s).within
  | getPldmCommands type => exact (execGetPldmCommands_touch type s).within
  | getSensorReading idx => exact (execGetSensorReading_touch idx s).within
  | getSensorThresholds idx => exact (execGetSensorThresholds_touch idx s).within
  | setSensorThresholds idx high low => exact (execSetSensorThresholds_touch idx high low s).within
  | getStateSensorReadings => exact (execGetStateSensorReadings_touch s).within
  | getPdrRepositoryInfo => exact (execGetPdrRepositoryInfo_touch s).within
  | getPdr record => exact (execGetPdr_touch record s).within
  | setEventReceiver eid => exact (execSetEventReceiver_touch eid s).within
  | queryDeviceIdentifiers => exact (execQueryDeviceIdentifiers_touch s).within
  | getFirmwareParameters => exact (execGetFirmwareParameters_touch s).within
  | requestUpdate => exact (execRequestUpdate_touch s).within
  | passComponentTable component => exact (execPassComponentTable_touch component s).within
  | updateComponent component size => exact (execUpdateComponent_touch component size s).within
  | transferComplete bs => exact (execTransferComplete_touch bs s).within
  | verifyComplete => exact (execVerifyComplete_touch s).within
  | applyComplete readBack => exact (execApplyComplete_touch readBack s).within
  | activateFirmware selfContained => exact (execActivateFirmware_touch selfContained s).within
  | getStatus => exact (execGetStatus_touch s).within
  | cancelUpdate => exact (execCancelUpdate_touch s).within
  | traceSourceEnable src w => exact (execTraceSourceEnable_touch src w s).within
  | comparatorMatch src addr mode => exact (execComparatorMatch_touch src addr mode s).within
  | tracePacket => exact (execTracePacket_touch s).within
  | traceDrop src => exact (execTraceDrop_touch src s).within
  | traceOverflowPacket src => exact (execTraceOverflowPacket_touch src s).within
  | traceClear => exact (execTraceClear_touch s).within
  | traceClearEnd => exact (execTraceClearEnd_touch s).within
  | traceWindowRead idx => exact (execTraceWindowRead_touch idx s).within
  | assertPop g => exact (execAssertPop_touch g s).within
  | galClrCe g => exact (execGalClrCe_touch g s).within
  | galClrLost g => exact (execGalClrLost_touch g s).within
  | clrSlip g => exact (execClrSlip_touch g s).within
  | clrDiscard g => exact (execClrDiscard_touch g s).within
  | clrSlipLast g => exact (execClrSlipLast_touch g s).within
  | clrHold => exact (execClrHold_touch s).within
  | clrSync => exact (execClrSync_touch s).within
  | clrOverrun => exact (execClrOverrun_touch s).within
  | clrFec p => exact (execClrFec_touch p s).within
  | clrRetry p => exact (execClrRetry_touch p s).within
  | clrDrop p => exact (execClrDrop_touch p s).within
  | dsErrClr => exact (execDsErrClr_touch s).within
  | clrStretch => exact (execClrStretch_touch s).within
  | echoClrLost => exact (execEchoClrLost_touch s).within
  | dmCeCountClear g => exact (execDmCeCountClear_touch g s).within
  | rimPwCountClear => exact (execRimPwCountClear_touch s).within
  | nocNoepDropClear => exact (execNocNoepDropClear_touch s).within
  | nocOffCountClear g => exact (execNocOffCountClear_touch g s).within
  | doneCountClear n => exact (execDoneCountClear_touch n s).within
  | cicCountsClear => exact (execCicCountsClear_touch s).within
  | wiuCountClear g => exact (execWiuCountClear_touch g s).within
  | errCountClear => exact (execErrCountClear_touch s).within
  | tcForwardedClear e => exact (execTcForwardedClear_touch e s).within
  | schedBarrierReleaseWrite flags => exact (execSchedBarrierReleaseWrite_touch flags s).within
  | registerWrite t w => exact (execRegisterWrite_touch t w s).within
  | macrocellClockEdge t rising samples => exact (execMacrocellClockEdge_touch t rising samples s).within
  | serialByteTransmit p => exact (execSerialByteTransmit_touch p s).within
  | restoreEnd => exact (execRestoreEnd_touch s).within
  | d3hotExit => exact (execD3hotExit_touch s).within
  | latticeCommitTimeout => exact (execLatticeCommitTimeout_touch s).within
  | latticeBarrierTimeout => exact (execLatticeBarrierTimeout_touch s).within
  | encoderPacket src ev => exact (execEncoderPacket_touch src ev s).within
  | timestampInterval src => exact (execTimestampInterval_touch src s).within
  | bankVioChange b v => exact (execBankVioChange_touch b v s).within

/-- Settles O4: every command's operation keeps its frame. -/
theorem commandsKeepTheirFrame : Obligations.CommandsKeepTheirFrame := by
  unfold Obligations.CommandsKeepTheirFrame
  exact fun c s t h => exec_frame c s t h

end Sys2Proof.Machine

/-! Frames over registers, and the commands that clear counts (00, R6; 01, R13). -/

namespace Sys2Proof.Machine

/-- What changes only registers keeps the frame of the registers. -/
theorem Touch.frame_regs {s t : State} (h : Touch 1 s t) : Frame [.regs] s t :=
  (OutTouch.next h).within (cs := [.regs]) rfl t rfl

theorem RegsBut.of_reg {os : List Nat} {s t : State} (hr : ∀ o, o ∉ os → t.reg o = s.reg o) (ht : Touch 1 s t) :
    RegsBut os s t := ⟨hr, ht.frame_regs⟩

/-- Storing one register leaves the others and everything else. -/
theorem State.setReg_regsBut {s : State} (o : Nat) (w : Word) (h : s.canon) : RegsBut [o] s (s.setReg o w) :=
  .of_reg (fun _ hk => s.setReg_reg_of_ne _ _ w h.1 (List.ne_of_not_mem_cons hk)) (s.setReg_touch o w)

/-- Storing one field leaves the other registers and everything else. -/
theorem State.put_regsBut {s : State} (o : Nat) (f : Field) (n : Nat) (h : s.canon) : RegsBut [o] s (s.put o f n) :=
  s.setReg_regsBut o _ h

/-- The registers `os` set to zero, in order. -/
def State.clear (s : State) (os : List Nat) : State := os.foldl (fun s o => s.setReg o 0) s

theorem State.clear_touch (s : State) (os : List Nat) : Touch 1 s (s.clear os) :=
  Touch.foldl (fun t o => t.setReg_touch o 0) os s

/-- After a clear the registers named read zero and the others are as before. -/
theorem State.clear_reg (os : List Nat) {s : State} (h : s.canon) (o : Nat) :
    (s.clear os).reg o = if o ∈ os then 0 else s.reg o := by
  induction os generalizing s with
  | nil => rfl
  | cons a as ih =>
    have hrest : (s.clear (a :: as)).reg o = if o ∈ as then 0 else (s.setReg a 0).reg o :=
      ih ((s.setReg_touch a 0).2.2 h)
    rw [hrest]
    by_cases hoa : o = a
    · subst hoa
      simp [s.setReg_reg_self _ _ h.1]
    · simp [hoa, s.setReg_reg_of_ne _ _ _ h.1 hoa]

theorem State.clear_regsBut (os : List Nat) {s : State} (h : s.canon) : RegsBut os s (s.clear os) :=
  .of_reg (fun o ho => by rw [State.clear_reg os h, if_neg ho]) (s.clear_touch os)

/-- Field `f` set in the register of each of the units `is`, in order: `v` gives the value, which no such store changes. -/
def State.putEach (s : State) (p : Nat → Nat) (f : Field) (v : State → Nat → Nat) (is : List Nat) : State :=
  is.foldl (fun s i => s.put (p i) f (v s i)) s

section PutEach

variable {p : Nat → Nat} {f : Field} {v : State → Nat → Nat} {is : List Nat} {s : State}

theorem State.putEach_touch : Touch 1 s (s.putEach p f v is) := Touch.foldl (fun t i => t.put_touch (p i) f (v t i)) is s

/-- The registers of other units are as before. -/
theorem State.putEach_reg_of_notMem {o : Nat} (h : s.canon) (ho : ∀ i ∈ is, o ≠ p i) :
    (s.putEach p f v is).reg o = s.reg o := by
  induction is generalizing s with
  | nil => rfl
  | cons a as ih =>
    obtain ⟨hoa, hoas⟩ := List.forall_mem_cons.1 ho
    have hrest : (s.putEach p f v (a :: as)).reg o = (s.put (p a) f (v s a)).reg o := ih ((s.put_touch ..).2.2 h) hoas
    rw [hrest, s.put_reg_of_ne _ _ _ _ h.1 hoa]

/-- The register of each unit has its value in the field. -/
theorem State.putEach_reg_of_mem {i : Nat} (hp : Function.Injective p) (hv : ∀ t o f n, v (State.put t o f n) = v t)
    (h : s.canon) (his : is.Nodup) (hi : i ∈ is) : (s.putEach p f v is).reg (p i) = f.put (s.reg (p i)) (v s i) := by
  induction is generalizing s with
  | nil => exact absurd hi List.not_mem_nil
  | cons a as ih =>
    obtain ⟨haas, has⟩ := List.nodup_cons.1 his
    have hcanon : (s.put (p a) f (v s a)).canon := (s.put_touch ..).2.2 h
    rcases List.mem_cons.1 hi with rfl | hias
    · have hrest : (s.putEach p f v (i :: as)).reg (p i) = (s.put (p i) f (v s i)).reg (p i) :=
        State.putEach_reg_of_notMem hcanon fun j hj hij => haas (hp hij ▸ hj)
      rw [hrest, s.put_reg_self _ _ _ h.1]
    · have hne : p i ≠ p a := fun e => haas (hp e ▸ hias)
      have hrest : (s.putEach p f v (a :: as)).reg (p i) =
          f.put ((s.put (p a) f (v s a)).reg (p i)) (v (s.put (p a) f (v s a)) i) := ih hcanon has hias
      rw [hrest, hv, s.put_reg_of_ne _ _ _ _ h.1 hne]

end PutEach

/-- A row of a gallery's register window acts through the window (R13). -/
theorem exec_window {c : Instr} {g : Gal} (s : State) (h : windowOf c = some g) : ∃ f, exec c s = s.window g.val f := by
  unfold windowOf at h
  split at h <;> cases h
  case h_1 => exact ⟨_, (rfl : execClrSlip g s = _)⟩
  case h_2 => exact ⟨_, (rfl : execClrDiscard g s = _)⟩
  case h_3 => exact ⟨_, (rfl : execClrSlipLast g s = _)⟩
  case h_4 => exact ⟨_, (rfl : execGalClrCe g s = _)⟩
  case h_5 => exact ⟨_, (rfl : execGalClrLost g s = _)⟩
  case h_6 => exact ⟨_, (rfl : execAssertPop g s = _)⟩
  case h_7 => exact ⟨_, (rfl : execDmCeCountClear g s = _)⟩
  case h_8 w => exact ⟨_, (rfl : execSoftSet g w s = _)⟩
  case h_9 => exact ⟨_, (rfl : execWiuCountClear g s = _)⟩

/-- A row of the window of an Off gallery is dropped and counted (R13). -/
theorem exec_of_windowOff {c : Instr} {g : Gal} {s : State} (h : windowOf c = some g) (hoff : s.isOff g.val = true) :
    exec c s = .next (s.countOff g.val true) := by
  obtain ⟨f, hf⟩ := exec_window s h
  rw [hf, State.window_off hoff]

/-- A clear of one register of an open window. -/
theorem State.window_clear {s : State} {c : Instr} {g : Gal} (o : Nat) (hc : windowOf c = some g)
    (h : s.windowOpen c = true) : s.window g.val (fun s => s.setReg o 0) = .next (s.clear [o]) :=
  State.window_on (by simpa [State.windowOpen, hc] using h)

/-- Each command that clears counts zeroes the registers listed for it and does nothing else. -/
theorem exec_of_clearedBy {c : Instr} {os : List Nat} {s : State} (h : clearedBy c = some os)
    (hw : s.windowOpen c = true) : exec c s = .next (s.clear os) := by
  unfold clearedBy at h
  split at h <;> cases h
  case h_4 g => exact State.window_clear (R.GAL_SLIP_COUNT g.val) rfl hw
  case h_5 g => exact State.window_clear (R.GAL_RX_DISCARD g.val) rfl hw
  case h_6 g => exact State.window_clear (R.GAL_SLIP_LAST g.val) rfl hw
  case h_7 g => exact State.window_clear (R.GAL_ISTORE_CE_COUNT g.val) rfl hw
  case h_13 g => exact State.window_clear (R.GAL_DM_CE_COUNT g.val) rfl hw
  case h_19 g => exact State.window_clear (R.WIU_COUNT g.val) rfl hw
  case h_11 =>
    rw [State.clear, List.foldl_map]
    rfl
  all_goals rfl

theorem R.GAL_ECHO_STATUS_injective : Function.Injective R.GAL_ECHO_STATUS := by
  intro a b h
  unfold R.GAL_ECHO_STATUS at h
  omega

theorem R.ECHO_LOST_COUNT_ne_GAL_ECHO_STATUS (g : Nat) : R.ECHO_LOST_COUNT ≠ R.GAL_ECHO_STATUS g := by
  unfold R.ECHO_LOST_COUNT R.GAL_ECHO_STATUS
  omega

/-- ECHO_CLR_LOST (R166): the count of lost records is zeroed, then LOST of every gallery's Echo status. -/
def State.clearLost (s : State) : State :=
  (s.setReg R.ECHO_LOST_COUNT 0).putEach R.GAL_ECHO_STATUS F.GAL_ECHO_STATUS_LOST (fun _ _ => 0) (List.range 64)

theorem exec_echoClrLost (s : State) : exec .echoClrLost s = .next s.clearLost := rfl

theorem State.clearLost_touch (s : State) : Touch 1 s s.clearLost := (s.setReg_touch _ _).then State.putEach_touch rfl

/-- Of other registers than the galleries' Echo status only the count changes. -/
theorem State.clearLost_reg {s : State} (h : s.canon) {o : Nat} (ho : ∀ g ∈ List.range 64, o ≠ R.GAL_ECHO_STATUS g) :
    s.clearLost.reg o = if o = R.ECHO_LOST_COUNT then 0 else s.reg o := by
  rw [State.clearLost, State.putEach_reg_of_notMem ((s.setReg_touch _ _).2.2 h) ho]
  split
  case isTrue hc => rw [hc, s.setReg_reg_self _ _ h.1]
  case isFalse hc => rw [s.setReg_reg_of_ne _ _ _ h.1 hc]

theorem State.clearLost_galEchoStatus {s : State} (h : s.canon) (g : Gal) :
    s.clearLost.reg (R.GAL_ECHO_STATUS g.val) = F.GAL_ECHO_STATUS_LOST.put (s.reg (R.GAL_ECHO_STATUS g.val)) 0 := by
  rw [State.clearLost, State.putEach_reg_of_mem R.GAL_ECHO_STATUS_injective (fun _ _ _ _ => rfl)
    ((s.setReg_touch _ _).2.2 h) List.nodup_range (List.mem_range.2 g.isLt),
    s.setReg_reg_of_ne _ _ _ h.1 (R.ECHO_LOST_COUNT_ne_GAL_ECHO_STATUS g.val).symm]

/-- The clear commands that leave other fields of their registers. -/
theorem fieldClears {s : State} (h : s.canon) :
    (∀ g : Gal, s.isOff g.val = false →
      ∃ t, exec (.galClrLost g) s = .next t ∧ RegsBut [R.GAL_ASSERT_STATUS g.val] s t ∧
        t.reg (R.GAL_ASSERT_STATUS g.val) = F.GAL_ASSERT_STATUS_LOST.put (s.reg (R.GAL_ASSERT_STATUS g.val)) 0) ∧
    (∀ e : Fin 2, ∃ t, exec (.tcForwardedClear e) s = .next t ∧ RegsBut [R.ETH_STATUS e.val] s t ∧
      t.reg (R.ETH_STATUS e.val) = F.ETH_STATUS_TC_FORWARDED.put (s.reg (R.ETH_STATUS e.val)) 0) ∧
    (∃ t, exec .echoClrLost s = .next t ∧ t.reg R.ECHO_LOST_COUNT = 0 ∧
      RegsBut (R.ECHO_LOST_COUNT :: (List.range 64).map R.GAL_ECHO_STATUS) s t ∧
      ∀ g : Gal, t.reg (R.GAL_ECHO_STATUS g.val) = F.GAL_ECHO_STATUS_LOST.put (s.reg (R.GAL_ECHO_STATUS g.val)) 0) := by
  refine ⟨fun g hg => ?_, fun e => ?_, ?_⟩
  · exact ⟨_, (State.window_on hg : execGalClrLost g s = _), s.put_regsBut _ _ _ h, s.put_reg_self _ _ _ h.1⟩
  · exact ⟨_, rfl, s.put_regsBut _ _ _ h, s.put_reg_self _ _ _ h.1⟩
  · refine ⟨_, exec_echoClrLost s, ?_, .of_reg (fun o ho => ?_) s.clearLost_touch, s.clearLost_galEchoStatus h⟩
    · rw [State.clearLost_reg h fun g _ => R.ECHO_LOST_COUNT_ne_GAL_ECHO_STATUS g, if_pos rfl]
    · obtain ⟨hcount, hgals⟩ := not_or.1 (List.mem_cons.not.1 ho)
      have hne : ∀ g ∈ List.range 64, o ≠ R.GAL_ECHO_STATUS g := fun g hg e => hgals (e ▸ List.mem_map_of_mem hg)
      rw [State.clearLost_reg h hne, if_neg hcount]

/-- Settles O19: a clear zeroes its registers or its field, and an Off gallery's window drops the row. -/
theorem countersAreCleared : Obligations.CountersAreCleared := by
  unfold Obligations.CountersAreCleared
  refine ⟨fun c os s h hc hw => ?_, fun s h => fieldClears h, fun c g s hc hoff => exec_of_windowOff hc hoff⟩
  refine ⟨s.clear os, exec_of_clearedBy hc hw, fun o ho => ?_, s.clear_regsBut os h⟩
  rw [State.clear_reg os h, if_pos ho]

end Sys2Proof.Machine

/-! The state after reset (00, R7). -/

namespace Sys2Proof.Machine

/-- After reset no register is stored: each reads its reset value. -/
@[simp] theorem State.reset_reg (o : Nat) : State.reset.reg o = regReset o := rfl

@[simp] theorem State.reset_dmWord (c w : Nat) : State.reset.dmWord c w = 0 := rfl

/-- Outside the interrupt routing, the sensor limits and region 0 of the Deep Store a register's reset value is that of
its fields. -/
theorem regReset_of_regRow {o : Nat} {r : RegRow} (h : regRow o = some r) (hcic : ¬(0x10000 ≤ o ∧ o < 0x10800))
    (hsns : ¬(0x201400 ≤ o ∧ o < 0x201574)) (hreg : o ≠ R.DS_REGION 0) (hsize : o ≠ R.DS_REGION_SIZE 0) :
    regReset o = resetWord r.fields := by
  rw [regReset, if_neg hcic, if_neg hsns, if_neg hreg, if_neg hsize, h]

theorem State.reset_runState : State.reset.runState = 0 := by decide

/-- Settles O6: no register is stored at reset, so each reads its reset value. -/
theorem resetGivesTheResetValues : Obligations.ResetGivesTheResetValues := by
  unfold Obligations.ResetGivesTheResetValues
  refine ⟨⟨rfl, rfl⟩, rfl, State.reset_reg, ?_, State.reset_runState, ?_, rfl, ?_, ?_, ?_, State.reset_dmWord⟩
  · exact fun o r h hcic hsns hreg hsize => regReset_of_regRow h hcic hsns hreg hsize
  · simp [State.isRunning, State.reset_runState]
  · decide
  · decide
  · decide

end Sys2Proof.Machine

/-! What a detector may write (R58, R283, R295, R368), and one-bit fields as bits of their word. -/

namespace Sys2Proof.Machine

/-- The registers of the error registry (R368). -/
def errRegs : List Nat := [R.ERR_STATUS, R.ERR_COUNT, R.ERR_FIRST, R.ERR_FIRST_TIME]

/-! A detector that fires, in its stages (R368). -/

/-- The log entry of a detector, with the injection point that fired it disarmed. -/
def State.logDetected (s : State) (block code unit : Nat) (data : List Byte) : State :=
  let inj := s.injectedHere block code unit
  let t := s.logEvent block code unit inj data
  if inj then
    { t with lnt := { t.lnt with
        armed := t.lnt.armed.filter (fun a => !(a.block == block && a.code == code && a.unit == unit && a.used)) } }
  else t

/-- The class summary and the counts. -/
def State.countClass (s : State) (cls block code unit : Nat) : State :=
  match cls with
  | 1 => (s.raise R.ERR_STATUS F.ERR_STATUS_CE).bump R.ERR_COUNT F.ERR_COUNT_CE
  | 2 => (s.raise R.ERR_STATUS F.ERR_STATUS_UE).bump R.ERR_COUNT F.ERR_COUNT_UE
  | 3 => (s.raise R.ERR_STATUS F.ERR_STATUS_FATAL).platformEvent block code unit
  | _ => s

/-- The words of the first-error capture. -/
def State.captureWords (s : State) (cls block code unit : Nat) : State :=
  (((((s.put R.ERR_FIRST F.ERR_FIRST_CLASS cls).put R.ERR_FIRST F.ERR_FIRST_BLOCK block).put
    R.ERR_FIRST F.ERR_FIRST_CODE code).put R.ERR_FIRST F.ERR_FIRST_UNIT unit).raise
    R.ERR_FIRST F.ERR_FIRST_VALID).put R.ERR_FIRST_TIME F.ERR_FIRST_TIME_NS s.ns

/-- The first-error capture, of a class U or F. -/
def State.captureFirst (s : State) (cls block code unit : Nat) : State :=
  if 2 ≤ cls ∧ s.bit R.ERR_FIRST F.ERR_FIRST_VALID = false then s.captureWords cls block code unit else s

/-- Does the detector halt the device at the next T5: ALL_CORES_FAULT, D2D_FAIL? -/
def detHalts (block code : Nat) : Prop := (block = 0x0C ∧ code = 4) ∨ (block = 0x0F ∧ code = 2)

/-- What a detector leaves before the halt it may ask for. -/
def State.detected (s : State) (block code unit : Nat) (data : List Byte) : State :=
  ((s.logDetected block code unit data).countClass (detClass block code) block code unit).captureFirst
    (detClass block code) block code unit

theorem State.detect_eq (s : State) (block code unit : Nat) (data : List Byte) :
    s.detect block code unit data =
      if (block = 0x0C ∧ code = 4) ∨ (block = 0x0F ∧ code = 2) then (s.detected block code unit data).haltAtEnd
      else s.detected block code unit data := rfl

theorem State.detect_of_not_halts {s : State} {block code unit : Nat} {data : List Byte} (h : ¬ detHalts block code) :
    s.detect block code unit data = s.detected block code unit data := by rw [State.detect_eq]; exact if_neg h

theorem State.logDetected_touch (s : State) (block code unit : Nat) (data : List Byte) :
    Touch 131074 s (s.logDetected block code unit data) :=
  .ite (.set_lnt (s.logEvent_touch ..) rfl) (s.logEvent_touch ..)

theorem State.countClass_touch (s : State) (cls block code unit : Nat) :
    Touch 131073 s (s.countClass cls block code unit) := by
  unfold State.countClass
  split
  · exact ((s.raise_touch ..).then (State.bump_touch ..) rfl).mono rfl
  · exact ((s.raise_touch ..).then (State.bump_touch ..) rfl).mono rfl
  · exact ((s.raise_touch ..).mono rfl).then (State.platformEvent_touch ..) rfl
  · exact .refl ..

theorem State.captureWords_writes (s : State) (cls block code unit : Nat) :
    Writes errRegs s (s.captureWords cls block code unit) :=
  ((((Writes.put (by decide)).trans (.put (by decide))).trans (.put (by decide))).trans (.put (by decide))).trans
    (.trans (.raise (by decide)) (.put (by decide)))

theorem State.captureWords_touch (s : State) (cls block code unit : Nat) :
    Touch 1 s (s.captureWords cls block code unit) :=
  (((((s.put_touch ..).then (State.put_touch ..) rfl).then (State.put_touch ..) rfl).then (State.put_touch ..) rfl).then
    (State.raise_touch ..) rfl).then (State.put_touch ..) rfl

theorem State.captureFirst_touch (s : State) (cls block code unit : Nat) :
    Touch 1 s (s.captureFirst cls block code unit) := .ite (s.captureWords_touch ..) (.refl ..)

theorem State.countClass_writes (s : State) (cls block code unit : Nat) :
    Writes errRegs s (s.countClass cls block code unit) := by
  unfold State.countClass
  split
  · exact (Writes.raise (by decide)).trans (.bump (by decide))
  · exact (Writes.raise (by decide)).trans (.bump (by decide))
  · exact (Writes.raise (by decide)).trans (.of_touch (State.platformEvent_touch ..))
  · exact .refl

/-- A detector writes the error registry and no other register. -/
theorem State.detect_writes (s : State) (block code unit : Nat) (data : List Byte) :
    Writes errRegs s (s.detect block code unit data) := by
  have h : Writes errRegs s (s.detected block code unit data) :=
    ((Writes.of_touch (s.logDetected_touch ..)).trans (State.countClass_writes ..)).trans
      (.ite (State.captureWords_writes ..) .refl)
  rw [State.detect_eq]
  exact .ite (h.trans (.of_touch (State.haltAtEnd_touch _))) h

/-- A detector that does not halt leaves ticks and time alone. -/
theorem State.detect_sched {s : State} {block code unit : Nat} {data : List Byte} (h : ¬ detHalts block code) :
    (s.detect block code unit data).sched = s.sched := by
  rw [State.detect_of_not_halts h]
  have hlog := (s.logDetected_touch block code unit data).2.1 .sched rfl
  have hcount := (State.countClass_touch (s.logDetected block code unit data) (detClass block code) block code unit).2.1 .sched rfl
  exact ((State.captureFirst_touch ..).2.1 .sched rfl).trans (hcount.trans hlog)

theorem State.queueEvent_identity (s : State) (e : LogEvent) : (s.queueEvent e).lnt.identity = s.lnt.identity := by
  unfold State.queueEvent
  dsimp only
  by_cases hlocal : e.isLocal
  · rw [if_pos hlocal]
    split <;> rfl
  · rw [if_neg hlocal]
    split <;> rfl

theorem State.logDetected_identity (s : State) (block code unit : Nat) (data : List Byte) :
    (s.logDetected block code unit data).lnt.identity = s.lnt.identity := by
  unfold State.logDetected
  dsimp only
  split <;> exact s.queueEvent_identity _

theorem State.platformEvent_identity (s : State) (block code unit : Nat) :
    (s.platformEvent block code unit).lnt.identity = s.lnt.identity := by
  unfold State.platformEvent
  split <;> rfl

theorem State.countClass_identity (s : State) (cls block code unit : Nat) :
    (s.countClass cls block code unit).lnt.identity = s.lnt.identity := by
  unfold State.countClass
  split
  · rfl
  · rfl
  · exact State.platformEvent_identity ..
  · rfl

/-- No detector changes the identity key. -/
theorem State.detect_identity (s : State) (block code unit : Nat) (data : List Byte) :
    (s.detect block code unit data).lnt.identity = s.lnt.identity := by
  have hcapture := (State.captureFirst_touch ((s.logDetected block code unit data).countClass (detClass block code) block
    code unit) (detClass block code) block code unit).2.1 .lnt rfl
  have h : (s.detected block code unit data).lnt.identity = s.lnt.identity := by
    rw [State.detected, hcapture, State.countClass_identity, State.logDetected_identity]
  rw [State.detect_eq]
  split <;> exact h

/-! One-bit fields. -/

/-- A one-bit field that was put reads as the truth value put. -/
theorem State.bit_of_put {s t : State} {o : Nat} {f : Field} {b : Bool} (h : t.reg o = f.put (s.reg o) (natOfBool b))
    (hf : f.hi = f.lo := by rfl) (hf' : f.hi < 32 := by decide) : t.bit o f = b := by
  have hsize : f.size = 2 := by simp [Field.size, hf]
  rw [State.bit, State.fld, h, Field.of_put f _ _ (by omega) hf', hsize]
  cases b <;> rfl

/-- A bit of a word is its one-bit field. -/
theorem Word.getLsbD_eq_of (w : Word) (n : Nat) : w.getLsbD n = decide (Field.of ⟨n, n⟩ w = 1) := by
  have hsize : Field.size ⟨n, n⟩ = 2 := by simp [Field.size]
  rw [BitVec.getLsbD, Nat.testBit_eq_decide_div_mod_eq, Field.of, hsize]

/-- Storing a one-bit field changes that bit alone. -/
theorem Word.getLsbD_put_bit (w : Word) {n : Nat} (hn : n < 32) (k : Nat) (b : Bool) :
    (Field.put ⟨n, n⟩ w (natOfBool b)).getLsbD k = if k = n then b else w.getLsbD k := by
  rw [Word.getLsbD_eq_of, Word.getLsbD_eq_of w k]
  rcases Nat.lt_trichotomy k n with h | h | h
  · rw [Field.of_put_below _ _ _ _ (by simp) hn (by simp) h, if_neg (Nat.ne_of_lt h)]
  · subst h
    have hsize : Field.size ⟨k, k⟩ = 2 := by simp [Field.size]
    rw [Field.of_put _ _ _ (by simp) hn, if_pos rfl, hsize]
    cases b <;> rfl
  · rw [Field.of_put_above _ _ _ _ (by simp) hn h, if_neg (Nat.ne_of_gt h)]

end Sys2Proof.Machine

/-! What the resets leave (09, R270, R271; 16, R399, R405). -/

namespace Sys2Proof.Machine

/-- A kept entry reads as before, any other as the default. -/
theorem NMap.get_keep {α : Type} [DecidableEq α] (d : Nat → α) {m : NMap α} (p : Nat → Bool) (k : Nat)
    (h : NMap.wf d m = true) : NMap.get d (NMap.keep m p) k = if p k then NMap.get d m k else d k := by
  induction m with
  | nil => simp [NMap.keep, NMap.get]
  | cons e t ih =>
    obtain ⟨k', v⟩ := e
    obtain ⟨-, hlt, ht⟩ := (NMap.wf_cons d _ _ _).1 h
    have hrest : NMap.get d (NMap.keep t p) k = if p k then NMap.get d t k else d k := ih ht
    have hbelow : ∀ j, j ≤ k' → NMap.get d (NMap.keep t p) j = d j := fun j hj =>
      NMap.get_below d _ j fun e he => Nat.lt_of_le_of_lt hj (hlt e (List.mem_filter.1 he).1)
    by_cases hp : p k'
    · have hkeep : NMap.keep ((k', v) :: t) p = (k', v) :: NMap.keep t p := List.filter_cons_of_pos hp
      rw [hkeep, NMap.get, NMap.get, hrest]
      by_cases hk : k = k'
      · subst hk; simp [hp]
      · by_cases hkk : k < k' <;> simp [hk, hkk]
    · have hkeep : NMap.keep ((k', v) :: t) p = NMap.keep t p := List.filter_cons_of_neg hp
      rw [hkeep, NMap.get]
      by_cases hk : k = k'
      · subst hk; simp [hp, hbelow k (Nat.le_refl k)]
      · by_cases hkk : k < k'
        · simp [hk, hkk, hbelow k (Nat.le_of_lt hkk)]
        · simp [hk, hkk, hrest]

/-! POWER_ON. -/

theorem R.RIM_BANK_injective : Function.Injective R.RIM_BANK := by
  intro a b h
  unfold R.RIM_BANK at h
  omega

/-- The state of a POWER_ON before its registers are stored: every register at reset, the identity key derived. -/
def State.powering (s : State) (vbat : Bool) : State :=
  { s.afterReset with
    key := if vbat then s.key else KeyStore.reset, lnt := { Lantern.reset with identity := identityOf s.part.secret } }

/-- The state of a POWER_ON with its straps sampled. -/
def State.powered (s : State) (vbat : Bool) : State :=
  (s.powering vbat).pullStraps.put R.LNT_STATUS F.LNT_STATUS_BOOT_SEL (natOfBool s.part.bootSel)

/-- POWER_ON: the reset with its straps; a lost VBAT is an event besides. -/
theorem exec_powerOn (vbat : Bool) (s : State) :
    exec (.powerOn vbat) s = .next (if vbat then s.powered vbat else (s.powered vbat).detect 0x10 7 0) := rfl

theorem State.powering_canon (s : State) (vbat : Bool) : (s.powering vbat).canon := ⟨rfl, rfl⟩

theorem State.powering_reg (s : State) (vbat : Bool) (o : Nat) : (s.powering vbat).reg o = regReset o := rfl

theorem State.powered_touch (s : State) (vbat : Bool) : Touch 1 (s.powering vbat) (s.powered vbat) :=
  (State.pullStraps_touch _).then (State.put_touch ..) rfl

theorem State.pullStraps_eq (s : State) : s.pullStraps =
    s.putEach R.RIM_BANK F.RIM_BANK_PULL_SEL (fun s b => natOfBool (s.part.pullSel.contains b)) (List.range 8) := rfl

/-- Only the straps' registers are not at reset after a POWER_ON. -/
theorem State.powered_reg (s : State) (vbat : Bool) {o : Nat} (ho : o ≠ R.LNT_STATUS) (hb : ∀ b, b < 8 → o ≠ R.RIM_BANK b) :
    (s.powered vbat).reg o = regReset o := by
  have hcanon := ((s.powering vbat).pullStraps_touch).2.2 (s.powering_canon vbat)
  rw [State.powered, State.put_reg_of_ne _ _ _ _ _ hcanon.1 ho, State.pullStraps_eq,
    State.putEach_reg_of_notMem (s.powering_canon vbat) fun b hb' => hb b (List.mem_range.1 hb'), State.powering_reg]

/-- PULL_SEL of a bank shows its strap after a POWER_ON (R405). -/
theorem State.powered_pullSel (s : State) (vbat : Bool) (b : Fin 8) :
    (s.powered vbat).reg (R.RIM_BANK b.val) =
      F.RIM_BANK_PULL_SEL.put ((s.powering vbat).reg (R.RIM_BANK b.val)) (natOfBool (s.part.pullSel.contains b.val)) := by
  have hcanon := ((s.powering vbat).pullStraps_touch).2.2 (s.powering_canon vbat)
  have hne : R.RIM_BANK b.val ≠ R.LNT_STATUS := by
    unfold R.RIM_BANK R.LNT_STATUS
    omega
  rw [State.powered, State.put_reg_of_ne _ _ _ _ _ hcanon.1 hne, State.pullStraps_eq,
    State.putEach_reg_of_mem R.RIM_BANK_injective (fun _ _ _ _ => rfl) (s.powering_canon vbat) List.nodup_range
      (List.mem_range.2 b.isLt)]
  rfl

theorem R.RIM_BANK_notMem_errRegs (b : Fin 8) : R.RIM_BANK b.val ∉ errRegs := by
  revert b
  decide

/-- What a POWER_ON leaves and sets (R270, R377, R405). -/
theorem powerOn_leaves (s : State) (vbat : Bool) : ∃ t, exec (.powerOn vbat) s = .next t ∧ t.part = s.part ∧
    t.flash = s.flash ∧ t.pending = s.pending ∧ t.key = (if vbat then s.key else KeyStore.reset) ∧
    (vbat = true → ∀ o, o ≠ R.LNT_STATUS → (∀ b, b < 8 → o ≠ R.RIM_BANK b) → t.reg o = regReset o) ∧
    (∀ b : Fin 8, t.bit (R.RIM_BANK b.val) F.RIM_BANK_PULL_SEL = s.part.pullSel.contains b.val) ∧
    t.lnt.identity = identityOf s.part.secret := by
  refine ⟨_, exec_powerOn vbat s, ?_⟩
  have hframe := execPowerOn_touch vbat s _ (exec_powerOn vbat s)
  have hkey : (s.powered vbat).key = if vbat then s.key else KeyStore.reset := (s.powered_touch vbat).2.1 .key rfl
  have hlnt : (s.powered vbat).lnt = (s.powering vbat).lnt := (s.powered_touch vbat).2.1 .lnt rfl
  have hcanon := (s.powered_touch vbat).2.2 (s.powering_canon vbat)
  refine ⟨hframe.2.1 .part rfl, hframe.2.1 .flash rfl, hframe.1, ?_⟩
  cases vbat with
  | true => exact ⟨hkey, fun _ o => s.powered_reg true, fun b => State.bit_of_put (s.powered_pullSel true b),
      congrArg Lantern.identity hlnt⟩
  | false =>
    refine ⟨(((s.powered false).detect_touch 0x10 7 0 []).2.1 .key rfl).trans hkey, fun h => absurd h Bool.false_ne_true, fun b => ?_, ?_⟩
    · refine State.bit_of_put (s := s.powering false) ?_
      exact (((s.powered false).detect_writes 0x10 7 0 []).reg hcanon _ (R.RIM_BANK_notMem_errRegs b)).trans (s.powered_pullSel false b)
    · exact ((s.powered false).detect_identity 0x10 7 0 []).trans (congrArg Lantern.identity hlnt)

end Sys2Proof.Machine

/-! DEVICE_RESET. -/

namespace Sys2Proof.Machine

/-- The registers that hold the galleries' power states. -/
def galStateRegs : List Nat := [R.PWR_GAL_STATE 0, R.PWR_GAL_STATE 1, R.PWR_GAL_STATE 2, R.PWR_GAL_STATE 3]

theorem galStateReg_mem {g : Nat} (hg : g < 64) : R.PWR_GAL_STATE (g / 16) ∈ galStateRegs := by
  have h : g / 16 = 0 ∨ g / 16 = 1 ∨ g / 16 = 2 ∨ g / 16 = 3 := by omega
  rcases h with h | h | h | h <;> rw [h] <;> decide

theorem galReqReg_notMem {g : Nat} (hg : g < 64) : R.PWR_GAL_REQ (g / 16) ∉ galStateRegs := by
  have h : g / 16 = 0 ∨ g / 16 = 1 ∨ g / 16 = 2 ∨ g / 16 = 3 := by omega
  rcases h with h | h | h | h <;> rw [h] <;> decide

theorem State.setGalPower_writes (s : State) {g : Nat} (hg : g < 64) (n : Nat) :
    Writes galStateRegs s (s.setGalPower g n) := .put (galStateReg_mem hg)

/-! The two bits of gallery `g` in its register: `reqField g`, of the requests and of the states alike. -/

theorem reqField_lo_le (g : Nat) : (reqField g).lo ≤ (reqField g).hi := Nat.le_succ _

theorem reqField_hi_lt (g : Nat) : (reqField g).hi < 32 := by
  have := Nat.mod_lt g (show 16 > 0 by decide)
  show 2 * (g % 16) + 1 < 32
  omega

theorem reqField_size (g : Nat) : (reqField g).size = 4 := by
  show 2 ^ (2 * (g % 16) + 1 + 1 - 2 * (g % 16)) = 2 ^ 2
  congr 1
  omega

theorem reqField_hi_lt_lo {g k : Nat} (h : g % 16 < k % 16) : (reqField g).hi < (reqField k).lo := by
  show 2 * (g % 16) + 1 < 2 * (k % 16)
  omega

theorem State.galPower_eq (s : State) (g : Nat) : s.galPower g = s.fld (R.PWR_GAL_STATE (g / 16)) (reqField g) := rfl

theorem State.setGalPower_eq (s : State) (g n : Nat) :
    s.setGalPower g n = s.put (R.PWR_GAL_STATE (g / 16)) (reqField g) n := rfl

theorem State.galReq_lt (s : State) (g : Nat) : s.galReq g < 4 := reqField_size g ▸ Field.of_lt (reqField g) _

/-- The power state just stored. -/
theorem State.galPower_setGalPower_self {s : State} (h : s.canon) (g n : Nat) : (s.setGalPower g n).galPower g = n % 4 := by
  rw [State.galPower_eq, State.setGalPower_eq, State.fld_put _ _ _ _ h.1 (reqField_lo_le g) (reqField_hi_lt g),
    reqField_size]

/-- The power states of the other galleries are as before. -/
theorem State.galPower_setGalPower_of_ne {s : State} (h : s.canon) {g k : Nat} (hk : k ≠ g) (n : Nat) :
    (s.setGalPower g n).galPower k = s.galPower k := by
  rw [State.galPower_eq, State.galPower_eq, State.setGalPower_eq]
  by_cases hreg : R.PWR_GAL_STATE (k / 16) = R.PWR_GAL_STATE (g / 16)
  · have hdiv : k / 16 = g / 16 := by
      unfold R.PWR_GAL_STATE at hreg
      omega
    rw [State.fld, State.fld, hdiv, State.put_reg_self _ _ _ _ h.1]
    rcases Nat.lt_or_gt_of_ne (show k % 16 ≠ g % 16 by omega) with hlt | hgt
    · exact Field.of_put_below _ _ _ _ (reqField_lo_le g) (reqField_hi_lt g) (reqField_lo_le k) (reqField_hi_lt_lo hlt)
    · exact Field.of_put_above _ _ _ _ (reqField_lo_le g) (reqField_hi_lt g) (reqField_hi_lt_lo hgt)
  · exact State.fld_put_of_ne _ _ _ _ _ _ h.1 hreg

/-- What a request of a power state gives after a DEVICE reset: 0b11 comes up On (log 31). -/
def stateOfReq (r : Nat) : Nat := if r = 3 then 0 else r

/-- Galleries `gs` set to the states requested, in order. -/
def State.setRequested (s : State) (gs : List Nat) : State :=
  gs.foldl (fun s g => s.setGalPower g (stateOfReq (s.galReq g))) s

theorem State.setRequested_touch (s : State) (gs : List Nat) : Touch 1 s (s.setRequested gs) :=
  Touch.foldl (fun t g => t.setGalPower_touch g _) gs s

theorem State.setRequested_writes {gs : List Nat} (hgs : ∀ g ∈ gs, g < 64) (s : State) :
    Writes galStateRegs s (s.setRequested gs) := by
  induction gs generalizing s with
  | nil => exact .refl
  | cons a as ih =>
    obtain ⟨ha, has⟩ := List.forall_mem_cons.1 hgs
    exact (s.setGalPower_writes ha _).trans (ih has _)

/-- The requests are not among the states. -/
theorem Writes.galReq {s t : State} (h : Writes galStateRegs s t) (hs : s.canon) {g : Nat} (hg : g < 64) :
    t.galReq g = s.galReq g := congrArg _ (h.reg hs _ (galReqReg_notMem hg))

theorem State.galPower_setRequested_of_notMem {gs : List Nat} {s : State} (h : s.canon) {g : Nat} (hg : g ∉ gs) :
    (s.setRequested gs).galPower g = s.galPower g := by
  induction gs generalizing s with
  | nil => rfl
  | cons a as ih =>
    obtain ⟨hga, hgas⟩ := not_or.1 (List.mem_cons.not.1 hg)
    exact (ih ((s.setGalPower_touch _ _).2.2 h) hgas).trans (State.galPower_setGalPower_of_ne h hga _)

/-- Each gallery of the list has the state it requested. -/
theorem State.galPower_setRequested {gs : List Nat} (hgs : ∀ g ∈ gs, g < 64) (hnodup : gs.Nodup) {s : State} (h : s.canon)
    {g : Nat} (hg : g ∈ gs) : (s.setRequested gs).galPower g = stateOfReq (s.galReq g) % 4 := by
  induction gs generalizing s with
  | nil => exact absurd hg List.not_mem_nil
  | cons a as ih =>
    obtain ⟨haas, has⟩ := List.nodup_cons.1 hnodup
    obtain ⟨halt, haslt⟩ := List.forall_mem_cons.1 hgs
    have hcanon := (s.setGalPower_touch a (stateOfReq (s.galReq a))).2.2 h
    rcases List.mem_cons.1 hg with rfl | hgas
    · exact (State.galPower_setRequested_of_notMem hcanon haas).trans (State.galPower_setGalPower_self h _ _)
    · have hreq := (s.setGalPower_writes halt (stateOfReq (s.galReq a))).galReq h (haslt g hgas)
      exact (ih haslt has hcanon hgas).trans (by rw [hreq])

theorem State.galStates_eq (s : State) : s.galStates false = s.setRequested (List.range 64) := rfl

/-- What a DEVICE reset starts from: the Lantern window and what stands beside the die. -/
def State.deviceKept (s : State) : State :=
  { s.afterReset with
    regs := NMap.keep s.regs inLantern, key := s.key, pwr := { s.pwr with d2dRate := 0, d2dFails := 0 },
    lnt := { s.lnt with armed := [], epoch := 0, lastWrap := 0 } }

/-- Lantern restarts through its boot ROM when an activation waits. -/
def State.restartLantern (s : State) : State :=
  if s.bit R.LNT_STATUS F.LNT_STATUS_ACTIVATE_PENDING then { s with lnt := { s.lnt with inRom := true } } else s

theorem State.deviceReset_eq (s : State) :
    s.deviceReset false = (s.deviceKept.setRequested (List.range 64)).restartLantern := rfl

theorem State.deviceKept_canon {s : State} (h : s.canon) : s.deviceKept.canon := ⟨NMap.wf_keep _ _ _ h.1, rfl⟩

/-- Registers outside the Lantern window are at reset, the others as before. -/
theorem State.deviceKept_reg {s : State} (h : s.canon) (o : Nat) :
    s.deviceKept.reg o = if inLantern o then s.reg o else regReset o := NMap.get_keep _ _ _ h.1

theorem inLantern_iff (o : Nat) : inLantern o = true ↔ 0x200000 ≤ o ∧ o < 0x400000 := by
  simp [inLantern, Nat.blt_eq]

theorem State.restartLantern_touch (s : State) : Touch 131072 s s.restartLantern :=
  .ite (.set_lnt (.refl ..) rfl) (.refl ..)

theorem State.restartLantern_armed (s : State) : s.restartLantern.lnt.armed = s.lnt.armed := by
  unfold State.restartLantern
  split <;> rfl

theorem State.deviceReset_touch_kept (s : State) : Touch 131073 s.deviceKept (s.deviceReset false) :=
  ((s.deviceKept.setRequested_touch _).mono rfl).then (State.restartLantern_touch _) rfl

theorem State.deviceReset_writes (s : State) : Writes galStateRegs s.deviceKept (s.deviceReset false) :=
  (State.setRequested_writes (fun _ => List.mem_range.1) _).trans (.of_touch (State.restartLantern_touch _))

theorem State.deviceReset_armed (s : State) : (s.deviceReset false).lnt.armed = [] :=
  (State.restartLantern_armed _).trans
    (congrArg Lantern.armed ((s.deviceKept.setRequested_touch (List.range 64)).2.1 .lnt rfl))

/-- Each gallery is in its requested state after a DEVICE reset (R399). -/
theorem State.galPower_deviceReset {s : State} (h : s.canon) (g : Gal) :
    (s.deviceReset false).galPower g.val = stateOfReq (s.galReq g.val) := by
  have hk := State.deviceKept_canon h
  have hreq : s.deviceKept.galReq g.val = s.galReq g.val := by
    have hin : inLantern (R.PWR_GAL_REQ (g.val / 16)) = true := by
      rw [inLantern_iff]
      unfold R.PWR_GAL_REQ
      omega
    exact congrArg _ ((State.deviceKept_reg h _).trans (if_pos hin))
  have hlast : (s.deviceReset false).galPower g.val = (s.deviceKept.setRequested (List.range 64)).galPower g.val :=
    congrArg (fun r => Field.of _ (NMap.get regReset r _)) (Prod.mk.inj ((State.restartLantern_touch _).2.1 .regs rfl)).1
  have hlt : stateOfReq (s.galReq g.val) < 4 := by
    have := s.galReq_lt g.val
    unfold stateOfReq
    split <;> omega
  rw [hlast, State.galPower_setRequested (fun _ => List.mem_range.1) List.nodup_range hk (List.mem_range.2 g.isLt), hreq,
    Nat.mod_eq_of_lt hlt]

/-- The registers that a DEVICE reset stores in the Lantern window. -/
def powerRegs : List Nat := R.PWR_STATUS :: galStateRegs

theorem powerRegs_inLantern {o : Nat} (ho : o ∈ powerRegs) : inLantern o = true := by
  revert o
  decide

/-- What a DEVICE reset of `s` leaves and sets in `t`. -/
structure DeviceResetLeaves (s t : State) : Prop where
  canon : t.canon
  fab : t.fab = State.reset.fab
  mem : t.mem = State.reset.mem
  dtc : t.sched.dtc = 0
  key : t.key = s.key
  armed : t.lnt.armed = []
  reg : ∀ o, o ∉ powerRegs → t.reg o = if inLantern o then s.reg o else regReset o
  galPower : ∀ g : Gal, t.galPower g.val = stateOfReq (s.galReq g.val)

theorem State.deviceReset_leaves {s : State} (h : s.canon) : DeviceResetLeaves s (s.deviceReset false) where
  canon := s.deviceReset_writes.canon (State.deviceKept_canon h)
  fab := s.deviceReset_touch_kept.2.1 .fab rfl
  mem := s.deviceReset_touch_kept.2.1 .mem rfl
  dtc := congrArg Sched.dtc (s.deviceReset_touch_kept.2.1 .sched rfl)
  key := s.deviceReset_touch_kept.2.1 .key rfl
  armed := s.deviceReset_armed
  reg o ho := (s.deviceReset_writes.reg (State.deviceKept_canon h) o fun hg => ho (List.mem_cons_of_mem _ hg)).trans
    (State.deviceKept_reg h o)
  galPower := State.galPower_deviceReset h

/-- PGOOD falling (R394) is one register of the window more. -/
theorem DeviceResetLeaves.put_pgood {s t : State} (h : DeviceResetLeaves s t) (n : Nat) :
    DeviceResetLeaves s (t.put R.PWR_STATUS F.PWR_STATUS_PGOOD n) where
  canon := (t.put_touch ..).2.2 h.canon
  fab := h.fab
  mem := h.mem
  dtc := h.dtc
  key := h.key
  armed := h.armed
  reg o ho := (t.put_reg_of_ne _ _ _ _ h.canon.1 (List.ne_of_not_mem_cons (l := galStateRegs) ho)).trans (h.reg o ho)
  galPower g := by
    have hne : R.PWR_GAL_STATE (g.val / 16) ≠ R.PWR_STATUS := by
      unfold R.PWR_GAL_STATE R.PWR_STATUS
      omega
    exact (State.fld_put_of_ne _ _ _ _ _ _ h.canon.1 hne).trans (h.galPower g)

/-- Registers outside the Lantern window are at reset after a DEVICE reset (R270). -/
theorem DeviceResetLeaves.reg_outside {s t : State} (h : DeviceResetLeaves s t) {o : Nat}
    (ho : ¬(0x200000 ≤ o ∧ o < 0x400000)) : t.reg o = regReset o := by
  have hin : ¬ inLantern o = true := fun e => ho ((inLantern_iff o).1 e)
  rw [h.reg o fun hm => hin (powerRegs_inLantern hm), if_neg hin]

/-- Registers of the Lantern window but the power states stay over a DEVICE reset (R270, R357). -/
theorem DeviceResetLeaves.reg_inside {s t : State} (h : DeviceResetLeaves s t) {o : Nat}
    (hlo : 0x200000 ≤ o) (hhi : o < 0x400000) (ho : o ∉ powerRegs) : t.reg o = s.reg o := by
  rw [h.reg o ho, if_pos ((inLantern_iff o).2 ⟨hlo, hhi⟩)]

/-- Either cause of a DEVICE reset ends in such a state. -/
theorem exec_deviceReset (cause : DeviceCause) {s : State} (h : s.canon) :
    ∃ t, exec (.deviceReset cause) s = .next t ∧ DeviceResetLeaves s t := by
  cases cause with
  | perst =>
    have hl := State.deviceReset_leaves (s := { s with host := { s.host with perstHigh := false } }) h
    exact ⟨_, rfl, hl.canon, hl.fab, hl.mem, hl.dtc, hl.key, hl.armed, hl.reg, hl.galPower⟩
  | lantern => exact ⟨_, rfl, (State.deviceReset_leaves h).put_pgood 0⟩

/-- What a DEVICE reset leaves (R270, R357, R399). -/
theorem deviceReset_leaves {s : State} (h : s.canon) (cause : DeviceCause) :
    ∃ t, exec (.deviceReset cause) s = .next t ∧ t.part = s.part ∧ t.flash = s.flash ∧
      t.key = s.key ∧ t.pending = s.pending ∧ t.fab = State.reset.fab ∧ t.mem = State.reset.mem ∧ t.sched.dtc = 0 ∧
      t.lnt.armed = [] ∧ (∀ o, ¬(0x200000 ≤ o ∧ o < 0x400000) → t.reg o = regReset o) ∧
      (∀ o, 0x200000 ≤ o → o < 0x400000 → o ∉ powerRegs → t.reg o = s.reg o) ∧
      (∀ g : Gal, t.galPower g.val = if s.galReq g.val = 3 then 0 else s.galReq g.val) := by
  obtain ⟨t, ht, hl⟩ := exec_deviceReset cause h
  have hframe := execDeviceReset_touch cause s t ht
  exact ⟨t, ht, hframe.2.1 .part rfl, hframe.2.1 .flash rfl, hl.key, hframe.1, hl.fab, hl.mem, hl.dtc, hl.armed,
    fun _ => hl.reg_outside, fun _ => hl.reg_inside, hl.galPower⟩

end Sys2Proof.Machine

/-! HOST_RESET. -/

namespace Sys2Proof.Machine

/-- No command is out, so none completes. -/
theorem State.completeOpt_of_noneOut {s : State} (h : s.mbx.outstanding = []) (c : Option CmdId) (status : Nat)
    (r0 r1 : Dword) (reason : Nat) : s.completeOpt c status r0 r1 reason = s := by
  cases c with
  | none => rfl
  | some c =>
    have hout : s.isOut c = false := by simp [State.isOut, h]
    simp [State.completeOpt, State.complete, hout]

theorem State.cicEvent_service (s : State) (n : Nat) : (s.cicEvent n).cic.service = s.cic.service := by
  unfold State.cicEvent
  split <;> rfl

theorem State.setImgState_service (s : State) (n : Nat) : (s.setImgState n).cic.service = s.cic.service := by
  have hevent : ((s.put R.IMG_STATUS F.IMG_STATUS_STATE n).cicEvent 40).cic.service = s.cic.service :=
    State.cicEvent_service _ _
  unfold State.setImgState
  split
  · rfl
  · dsimp only
    split
    · exact (congrArg Cic.service ((State.sendIdents_touch _).2.1 .cic rfl)).trans hevent
    · exact hevent

/-- The registers of the image's state and of its regions (R228, R232). -/
def stageRegs : List Nat :=
  [R.IMG_STATUS, R.IMG_REASON, R.IMG_SECTION, R.IMG_LOC, R.DS_REGION 14, R.DS_REGION_SIZE 14, R.DS_REGION 15,
    R.DS_REGION_SIZE 15]

theorem State.setImgState_writes (s : State) (n : Nat) : Writes stageRegs s (s.setImgState n) := by
  have hevent : Writes stageRegs s ((s.put R.IMG_STATUS F.IMG_STATUS_STATE n).cicEvent 40) :=
    (Writes.put (by decide)).trans (.of_touch (State.cicEvent_touch ..))
  unfold State.setImgState
  exact .ite .refl (.ite (hevent.trans (.of_touch (State.sendIdents_touch _))) hevent)

theorem State.discard_writes (s : State) : Writes stageRegs s s.discard :=
  (((Writes.setReg (o := R.DS_REGION 14) (by decide)).trans (.setReg (o := R.DS_REGION_SIZE 14) (by decide))).trans
    ((Writes.setReg (o := R.DS_REGION 15) (by decide)).trans (.setReg (o := R.DS_REGION_SIZE 15) (by decide)))).trans
    (.of_touch (Touch.set_img (m := 512) (.refl ..) rfl))

/-- A reason that names no item writes no place. -/
theorem State.setReason_writes (s : State) (reason pos : Nat) : Writes stageRegs s (s.setReason { reason := reason } pos) :=
  (((((Writes.put (by decide)).trans (.put (by decide))).trans (.put (by decide))).trans (.put (by decide))).trans
    (.setReg (by decide)))

/-- The image's state once a stage has failed, before the failure is reported. -/
def State.stageDropped (s : State) (reason : Nat) : State :=
  let t := if s.fromChain then s.report 0 reason else s
  let u := (t.discard.setReason { reason := reason } t.chainPos).setImgState 5
  { u with img := { u.img with stream := s.img.stream } }

theorem State.stageFail_eq (s : State) (reason : Nat) : s.stageFail reason =
    ((s.stageDropped reason).detect 0x0E 0 0 [BitVec.ofNat 8 reason]).completeOpt s.img.cmd 8 0 0 reason := rfl

theorem State.stageDropped_touch (s : State) (reason : Nat) : Touch 17153 s (s.stageDropped reason) := by
  have hreport : Touch 17153 s (if s.fromChain then s.report 0 reason else s) :=
    .ite ((s.report_touch ..).mono rfl) (.refl ..)
  exact .set_img (((hreport.then (State.discard_touch _) rfl).then (State.setReason_touch ..) rfl).then
    (State.setImgState_touch ..) rfl) rfl

theorem State.stageDropped_writes (s : State) (reason : Nat) : Writes stageRegs s (s.stageDropped reason) := by
  have hreport : Writes stageRegs s (if s.fromChain then s.report 0 reason else s) :=
    .ite (.of_touch (s.report_touch ..)) .refl
  exact (((hreport.trans (State.discard_writes _)).trans (State.setReason_writes ..)).trans
    (State.setImgState_writes ..)).trans (.of_touch (Touch.set_img (m := 512) (.refl ..) rfl))

theorem State.stageDropped_service (s : State) (reason : Nat) : (s.stageDropped reason).cic.service = s.cic.service := by
  have hreport : Touch 512 s (if s.fromChain then s.report 0 reason else s) := .ite (s.report_touch ..) (.refl ..)
  have hreason : Touch 513 s ((if s.fromChain then s.report 0 reason else s).discard.setReason { reason := reason }
      (if s.fromChain then s.report 0 reason else s).chainPos) :=
    ((hreport.mono rfl).then (State.discard_touch _) rfl).then (State.setReason_touch ..) rfl
  exact (State.setImgState_service _ 5).trans (congrArg Cic.service (hreason.2.1 .cic rfl))

/-- What is left of the host's work, stage by stage of a HOST reset of `s`: nothing waits in the mailbox or in a DMA
channel, no service of the host's target is held (R271, R316, R328). -/
structure HostCleared (s t : State) : Prop where
  canon : t.canon
  dtc : t.sched.dtc = s.sched.dtc
  outstanding : t.mbx.outstanding = []
  jobs : t.dma.jobs = []
  writeBacks : t.dma.writeBacks = s.dma.writeBacks
  service : ∀ v ∈ t.cic.service, v.target ≠ 4
  threshold : t.reg (R.CIC_THRESHOLD 4) = 0

theorem State.hostResetMbx_dtc (s : State) : s.hostResetMbx.sched.dtc = s.sched.dtc := by
  unfold State.hostResetMbx
  rw [State.detect_sched (by unfold detHalts; decide)]
  rfl

theorem State.hostResetMbx_outstanding (s : State) : s.hostResetMbx.mbx.outstanding = [] :=
  congrArg Mailbox.outstanding ((State.detect_touch ..).2.1 .mbx rfl)

theorem State.hostResetDma_writeBacks (s : State) : s.hostResetDma.dma.writeBacks = s.dma.writeBacks := by
  have hfree : Touch 34 s (s.dma.jobs.foldl (fun s j => s.freeTail j.2 0) s) :=
    Touch.foldl (fun t (j : Nat × DmaJob) => State.freeTail_touch t j.2 0) _ s
  have hdma : (s.dma.jobs.foldl (fun s j => s.freeTail j.2 0) s).dma = s.dma := hfree.2.1 .dma rfl
  show (s.dma.jobs.foldl (fun s j => s.freeTail j.2 0) s).dma.writeBacks = s.dma.writeBacks
  rw [hdma]

/-- The mailbox, the channels and the host's interrupt target are cleared. -/
theorem State.hostCleared {s : State} (h : s.canon) : HostCleared s s.hostResetMbx.hostResetDma.cicHostReset := by
  have hmbx := s.hostResetMbx_touch
  have hdma := s.hostResetMbx.hostResetDma_touch
  have hcic := s.hostResetMbx.hostResetDma.cicHostReset_touch
  have hcanon := hdma.2.2 (hmbx.2.2 h)
  have hdmaSame := hcic.2.1 .dma rfl
  exact {
    canon := hcic.2.2 hcanon
    dtc := (congrArg Sched.dtc ((hcic.2.1 .sched rfl).trans (hdma.2.1 .sched rfl))).trans s.hostResetMbx_dtc
    outstanding := (congrArg Mailbox.outstanding ((hcic.2.1 .mbx rfl).trans (hdma.2.1 .mbx rfl))).trans
      s.hostResetMbx_outstanding
    jobs := congrArg Dma.jobs hdmaSame
    writeBacks := (congrArg Dma.writeBacks hdmaSame).trans
      ((State.hostResetDma_writeBacks _).trans (congrArg Dma.writeBacks (hmbx.2.1 .dma rfl)))
    service := fun v hv => by simpa using (List.mem_filter.1 hv).2
    threshold := State.setReg_reg_self _ _ _ hcanon.1 }

/-- The failure of a stage completes no command that is not out. -/
theorem State.stageFail_of_noneOut {s : State} (h : s.mbx.outstanding = []) (reason : Nat) : s.stageFail reason =
    (s.stageDropped reason).detect 0x0E 0 0 [BitVec.ofNat 8 reason] := by
  rw [State.stageFail_eq, State.completeOpt_of_noneOut]
  rw [(State.detect_touch ..).2.1 .mbx rfl, (State.stageDropped_touch ..).2.1 .mbx rfl, h]

/-- A HOST stage that fails leaves the host's work cleared. -/
theorem HostCleared.stageFail {s t : State} (h : HostCleared s t) (reason : Nat) : HostCleared s (t.stageFail reason) := by
  have hdrop := t.stageDropped_touch reason
  have hdet := (t.stageDropped reason).detect_touch 0x0E 0 0 [BitVec.ofNat 8 reason]
  have hwrites := (t.stageDropped_writes reason)
  have hcanon := hwrites.canon h.canon
  have hdma := (hdet.2.1 .dma rfl).trans (hdrop.2.1 .dma rfl)
  have hservice := (congrArg Cic.service (hdet.2.1 .cic rfl)).trans (t.stageDropped_service reason)
  rw [State.stageFail_of_noneOut h.outstanding]
  exact {
    canon := hdet.2.2 hcanon
    dtc := by
      rw [State.detect_sched (by unfold detHalts; decide), hdrop.2.1 .sched rfl, h.dtc]
    outstanding := (congrArg Mailbox.outstanding ((hdet.2.1 .mbx rfl).trans (hdrop.2.1 .mbx rfl))).trans h.outstanding
    jobs := (congrArg Dma.jobs hdma).trans h.jobs
    writeBacks := (congrArg Dma.writeBacks hdma).trans h.writeBacks
    service := fun v hv => h.service v (hservice ▸ hv)
    threshold := by
      rw [(State.detect_writes ..).reg hcanon _ (by decide), hwrites.reg h.canon _ (by decide), h.threshold] }

/-- The end of a HOST reset: the endpoint, what waits in the mesh, and the registers (R270, R271). -/
def State.hostResetEnd (s : State) (cause : HostCause) : State :=
  let t := { s with host := { HostLink.reset with
    sent := s.host.sent, replies := s.host.replies, perstHigh := s.host.perstHigh,
    linkUp := s.host.linkUp && cause != HostCause.linkDown, width := s.host.width, rate := s.host.rate,
    reversed := s.host.reversed } }
  let u := { t with noc := { t.noc with
    waiting := t.noc.waiting.filter (fun h => match h with | .pkt _ => true | .bar0 .. => false) } }
  (u.keepRegs hostResetKeeps).setReg R.MBX_VERSION (u.reg R.MBX_VERSION)

/-- A stage that the host feeds ends (R270). -/
def State.endHostStage (s : State) : State := if s.imgState = 1 ∧ s.fromChain = false then s.stageFail 0x03 else s

theorem exec_hostReset (cause : HostCause) (s : State) : exec (.hostReset cause) s =
    .next (s.hostResetMbx.hostResetDma.cicHostReset.endHostStage.hostResetEnd cause) := rfl

theorem HostCleared.endHostStage {s t : State} (h : HostCleared s t) : HostCleared s t.endHostStage := by
  unfold State.endHostStage
  split
  · exact h.stageFail 0x03
  · exact h

/-- Registers after a HOST reset: those kept, the version, and the rest at reset. -/
theorem State.hostResetEnd_reg {s : State} (h : s.canon) (cause : HostCause) {o : Nat} (ho : o ≠ R.MBX_VERSION) :
    (s.hostResetEnd cause).reg o = if hostResetKeeps o then s.reg o else regReset o :=
  (State.setReg_reg_of_ne _ _ _ _ (NMap.wf_keep _ _ hostResetKeeps h.1) ho).trans (NMap.get_keep _ _ _ h.1)

theorem hostResetKeeps_dma {o : Nat} (hlo : 0x20000 ≤ o) (hhi : o < 0x30000) : hostResetKeeps o = false := by
  have hle : Nat.ble 0x20000 o = true := Nat.ble_eq_true_of_le hlo
  have hlt : Nat.blt o 0x30000 = true := Nat.ble_eq_true_of_le hhi
  simp [hostResetKeeps, hle, hlt]

/-- What a HOST reset leaves (R270, R271, R316, R328). -/
theorem hostReset_leaves {s : State} (h : s.canon) (cause : HostCause) : ∃ t, exec (.hostReset cause) s = .next t ∧
    t.part = s.part ∧ t.flash = s.flash ∧ t.key = s.key ∧ t.pending = s.pending ∧ t.sched.dtc = s.sched.dtc ∧
    t.mbx.outstanding = [] ∧ t.dma.jobs = [] ∧ t.dma.writeBacks = s.dma.writeBacks ∧
    (∀ v ∈ t.cic.service, v.target ≠ 4) ∧ t.reg (R.CIC_THRESHOLD 4) = 0 ∧
    (∀ o, 0x20000 ≤ o → o < 0x30000 → t.reg o = regReset o) := by
  have hc := (State.hostCleared h).endHostStage
  have hframe := execHostReset_touch cause s _ (exec_hostReset cause s)
  refine ⟨_, exec_hostReset cause s, hframe.2.1 .part rfl, hframe.2.1 .flash rfl, hframe.2.1 .key rfl, hframe.1, hc.dtc,
    hc.outstanding, hc.jobs, hc.writeBacks, hc.service, ?_, fun o hlo hhi => ?_⟩
  · rw [State.hostResetEnd_reg hc.canon cause (by decide), if_pos (by decide), hc.threshold]
  · have hne : o ≠ R.MBX_VERSION := by
      unfold R.MBX_VERSION
      omega
    rw [State.hostResetEnd_reg hc.canon cause hne, hostResetKeeps_dma hlo hhi, if_neg Bool.false_ne_true]

/-- Settles O50: what each of the three resets leaves. -/
theorem resetsLeaveWhatTheyLeave : Obligations.ResetsLeaveWhatTheyLeave := by
  unfold Obligations.ResetsLeaveWhatTheyLeave
  exact fun s h => ⟨powerOn_leaves s, deviceReset_leaves h, hostReset_leaves h⟩

end Sys2Proof.Machine

/-! Errors of the host's port and of the routers (10, R283, R284, R295): what recording one sets and leaves. -/

namespace Sys2Proof.Machine

/-- A bit that hardware sets reads 1. -/
theorem State.getLsbD_raise {s : State} (h : s.canon) (o : Nat) {n : Nat} (hn : n < 32) :
    ((s.raise o ⟨n, n⟩).reg o).getLsbD n = true := by
  have hreg : (s.raise o ⟨n, n⟩).reg o = Field.put ⟨n, n⟩ (s.reg o) (natOfBool true) := s.put_reg_self _ _ _ h.1
  rw [hreg, Word.getLsbD_put_bit _ hn, if_pos rfl]

/-! HOST_ERR. -/

/-- The registers of the first address refused, and the error registry. -/
def hostErrLocRegs : List Nat := [R.HOST_ERR_ADDR_LO, R.HOST_ERR_ADDR_HI] ++ errRegs

/-- The address of the first condition. -/
def State.hostErrLoc (s : State) (bar addr : Nat) : State :=
  if s.bit R.HOST_ERR_ADDR_HI F.HOST_ERR_ADDR_HI_VALID then s
  else
    (((s.put R.HOST_ERR_ADDR_LO F.HOST_ERR_ADDR_LO_ADDR addr).put R.HOST_ERR_ADDR_HI F.HOST_ERR_ADDR_HI_BAR bar).put
      R.HOST_ERR_ADDR_HI F.HOST_ERR_ADDR_HI_ADDR (addr / 2 ^ 32)).raise R.HOST_ERR_ADDR_HI F.HOST_ERR_ADDR_HI_VALID

theorem State.hostErr_eq (s : State) (n bar addr st : Nat) : s.hostErr n bar addr st =
    ((s.raise R.HOST_ERR ⟨n, n⟩).hostErrLoc bar addr).detect 0x09 n 0
      (((s.raise R.HOST_ERR ⟨n, n⟩).hostErrLoc bar addr).regBytes [R.HOST_ERR_ADDR_LO, R.HOST_ERR_ADDR_HI] ++
        [BitVec.ofNat 8 st]) := rfl

theorem State.hostErrLoc_writes (s : State) (bar addr : Nat) : Writes hostErrLocRegs s (s.hostErrLoc bar addr) :=
  .ite .refl ((((Writes.put (by decide)).trans (.put (by decide))).trans (.put (by decide))).trans (.raise (by decide)))

/-- Beside its bit, a condition writes the registers of the first address and the error registry. -/
theorem State.hostErr_writes (s : State) (n bar addr st : Nat) :
    Writes hostErrLocRegs (s.raise R.HOST_ERR ⟨n, n⟩) (s.hostErr n bar addr st) := by
  rw [State.hostErr_eq]
  exact (State.hostErrLoc_writes _ bar addr).trans ((State.detect_writes ..).mono (List.subset_append_right ..))

/-- The bit of the condition is set. -/
theorem State.getLsbD_hostErr {s : State} (h : s.canon) {n : Nat} (hn : n < 32) (bar addr st : Nat) :
    ((s.hostErr n bar addr st).reg R.HOST_ERR).getLsbD n = true := by
  rw [(s.hostErr_writes n bar addr st).reg ((s.raise_touch ..).2.2 h) _ (by decide)]
  exact s.getLsbD_raise h R.HOST_ERR hn

/-! NOC_ERR. -/

/-- The place of the first condition of the routers, and the error registry. -/
def nocErrLocRegs : List Nat := R.NOC_ERR_LOC :: errRegs

/-- The place of the first condition. -/
def State.nocErrLoc (s : State) (n node src : Nat) : State :=
  if s.bit R.NOC_ERR_LOC F.NOC_ERR_LOC_VALID then s
  else
    (((s.put R.NOC_ERR_LOC F.NOC_ERR_LOC_CODE n).put R.NOC_ERR_LOC F.NOC_ERR_LOC_NODE node).put
      R.NOC_ERR_LOC F.NOC_ERR_LOC_SRC src).raise R.NOC_ERR_LOC F.NOC_ERR_LOC_VALID

theorem State.recordNoc_eq (s : State) (n node src : Nat) : s.recordNoc n node src =
    ((s.raise R.NOC_ERR ⟨n, n⟩).nocErrLoc n node src).detect 0x08 n 0
      (((s.raise R.NOC_ERR ⟨n, n⟩).nocErrLoc n node src).regBytes [R.NOC_ERR_LOC]) := rfl

theorem State.nocErrLoc_writes (s : State) (n node src : Nat) : Writes nocErrLocRegs s (s.nocErrLoc n node src) :=
  .ite .refl ((((Writes.put (by decide)).trans (.put (by decide))).trans (.put (by decide))).trans (.raise (by decide)))

theorem State.nocErrLoc_touch (s : State) (n node src : Nat) : Touch 1 s (s.nocErrLoc n node src) :=
  .ite (.refl ..) ((((s.put_touch ..).then (State.put_touch ..) rfl).then (State.put_touch ..) rfl).then
    (State.raise_touch ..) rfl)

theorem State.recordNoc_writes (s : State) (n node src : Nat) :
    Writes nocErrLocRegs (s.raise R.NOC_ERR ⟨n, n⟩) (s.recordNoc n node src) := by
  rw [State.recordNoc_eq]
  exact (State.nocErrLoc_writes ..).trans ((State.detect_writes ..).mono (List.subset_cons_self ..))

/-- The bit of the condition is set. -/
theorem State.getLsbD_recordNoc {s : State} (h : s.canon) {n : Nat} (hn : n < 32) (node src : Nat) :
    ((s.recordNoc n node src).reg R.NOC_ERR).getLsbD n = true := by
  rw [(s.recordNoc_writes n node src).reg ((s.raise_touch ..).2.2 h) _ (by decide)]
  exact s.getLsbD_raise h R.NOC_ERR hn

/-- No condition of the routers halts the device. -/
theorem State.recordNoc_sched (s : State) (n node src : Nat) : (s.recordNoc n node src).sched = s.sched := by
  rw [State.recordNoc_eq, State.detect_sched (by simp [detHalts]), (State.nocErrLoc_touch ..).2.1 .sched rfl,
    State.raise_sched]

/-! AER. -/

/-- The configuration space with an uncorrectable error noted. -/
def State.aerCfg (s : State) (k : UncErr) (hdr : List Word) : Pcie :=
  let c := s.host.cfg
  let b : Word := BitVec.ofNat 32 (2 ^ k.bit)
  let logs := (c.uncMask &&& b) == 0
  let first := (c.uncStatus &&& ~~~c.uncMask) == 0
  { c with uncStatus := c.uncStatus ||| b, headerLog := if logs && first then hdr else c.headerLog,
           aerCtl := if logs && first then c.aerCtl / 32 * 32 + BitVec.ofNat 32 k.bit else c.aerCtl }

/-- The error noted and logged. -/
def State.aerNoted (s : State) (k : UncErr) (hdr : List Word) : State :=
  (({ s with host := { s.host with cfg := s.aerCfg k hdr } } : State).used.used).detect 0x09 0x11 0

/-- An uncorrectable error is noted; a later one may find the Header Log full. -/
theorem State.aer_cases (s : State) (k : UncErr) (hdr : List Word) :
    s.aer k hdr = s.aerNoted k hdr ∨ s.aer k hdr = (s.aerNoted k hdr).aerCor 15 := by
  unfold State.aer
  dsimp only
  split
  · exact .inr rfl
  · exact .inl rfl

/-- Two states that differ in the configuration space, the registry and the log alone, by the same uncorrectable
status. -/
structure AerKeeps (c : Pcie → Word) (s t : State) : Prop where
  host : t.host = { s.host with cfg := t.host.cfg }
  status : t.host.cfg.uncStatus = c s.host.cfg
  sched : t.sched = s.sched
  writes : Writes errRegs s t

theorem State.aerNoted_keeps (s : State) (k : UncErr) (hdr : List Word) :
    AerKeeps (fun c => c.uncStatus ||| BitVec.ofNat 32 (2 ^ k.bit)) s (s.aerNoted k hdr) := by
  have hhost : (s.aerNoted k hdr).host = { s.host with cfg := s.aerCfg k hdr } := (State.detect_touch ..).2.1 .host rfl
  refine ⟨by rw [hhost], by rw [hhost]; rfl, State.detect_sched (by simp [detHalts]), ?_⟩
  have hnote : Touch 4098 s (({ s with host := { s.host with cfg := s.aerCfg k hdr } } : State).used.used) :=
    ((Touch.set_host (Touch.refl 4098 s) rfl).then (State.used_touch _) rfl).then (State.used_touch _) rfl
  exact (Writes.of_touch hnote).trans (State.detect_writes ..)

/-- A correctable error noted. -/
def State.aerCorNoted (s : State) (n : Nat) : State :=
  { s with host := { s.host with cfg := { s.host.cfg with
    corStatus := s.host.cfg.corStatus ||| BitVec.ofNat 32 (2 ^ n) } } }

theorem State.aerCor_eq (s : State) (n : Nat) : s.aerCor n = (s.aerCorNoted n).detect 0x09 0x10 0 := rfl

theorem State.aerCor_keeps (s : State) (n : Nat) : AerKeeps Pcie.uncStatus s (s.aerCor n) := by
  have hnote : Touch 4096 s (s.aerCorNoted n) := Touch.set_host (.refl ..) rfl
  have hhost : (s.aerCor n).host = (s.aerCorNoted n).host := (State.detect_touch ..).2.1 .host rfl
  rw [State.aerCor_eq] at hhost ⊢
  exact ⟨by rw [hhost]; rfl, by rw [hhost]; rfl, State.detect_sched (by simp [detHalts]),
    (Writes.of_touch hnote).trans (State.detect_writes ..)⟩

/-- What AER leaves of an uncorrectable error: its status bit. -/
theorem State.aer_keeps (s : State) (k : UncErr) (hdr : List Word) :
    AerKeeps (fun c => c.uncStatus ||| BitVec.ofNat 32 (2 ^ k.bit)) s (s.aer k hdr) := by
  have hn := s.aerNoted_keeps k hdr
  rcases s.aer_cases k hdr with h | h
  · rw [h]; exact hn
  · have hc := (s.aerNoted k hdr).aerCor_keeps 15
    rw [h]
    exact ⟨by rw [hc.host, hn.host], hc.status.trans hn.status, hc.sched.trans hn.sched, hn.writes.trans hc.writes⟩

end Sys2Proof.Machine

/-! A 32-bit write by the host through BAR0 (10, R12, R276, R278): how it reaches the register. -/

namespace Sys2Proof.Machine

/-! The request's words. -/

theorem leBytes_length (n v : Nat) : (leBytes n v).length = n := by
  induction n generalizing v with
  | zero => rfl
  | succ n ih => simp [leBytes, ih]

/-- The bytes of a number spell it. -/
theorem leNat_leBytes (n v : Nat) : leNat (leBytes n v) = v % 256 ^ n := by
  induction n generalizing v with
  | zero => simp [leBytes, leNat, Nat.mod_one]
  | succ n ih =>
    have hmod : v % 256 ^ (n + 1) = v % 256 + 256 * (v / 256 % 256 ^ n) := by rw [Nat.pow_succ', Nat.mod_mul]
    rw [leBytes, leNat, ih, BitVec.toNat_ofNat, hmod]

/-- A write of a whole word. -/
def wordWrite (w : Word) : HostOp := .write ((leBytes 4 w.toNat).map some)

theorem ofNat_leNat_leBytes (w : Word) : BitVec.ofNat 32 (leNat (leBytes 4 w.toNat)) = w := by
  rw [leNat_leBytes, Nat.mod_eq_of_lt (show w.toNat < 256 ^ 4 from w.isLt), BitVec.ofNat_toNat, BitVec.setWidth_eq]

theorem opLen_wordWrite (w : Word) : opLen (wordWrite w) = 4 := by simp [wordWrite, opLen, leBytes_length]

/-- The one word of the write goes to its register. -/
theorem State.hostWriteWords_word (s : State) (o : Nat) (w : Word) :
    s.hostWriteWords o 1 ((leBytes 4 w.toNat).map some) = s.hostWrite32 o w := by
  have htake : ((leBytes 4 w.toNat).map some).take 4 = (leBytes 4 w.toNat).map some :=
    List.take_of_length_le (by simp [leBytes_length])
  have hget : ((leBytes 4 w.toNat).map some).map (fun b => b.getD 0) = leBytes 4 w.toNat := by simp
  have hsome : ((leBytes 4 w.toNat).map some).all Option.isNone = false := by simp [leBytes]
  simp only [State.hostWriteWords, htake, hget, hsome, ofNat_leNat_leBytes, Bool.false_eq_true, if_false]

/-! The gate (R276, R283, R284). -/

/-- Closed BARs decode nothing. -/
theorem State.barOf_closed {s : State} (h : s.barsOpen = false) (addr : Nat) : s.barOf addr = none := by
  simp [State.barOf, State.decodes, h]

/-- A good request that no BAR decodes is unsupported. -/
theorem State.hostGate_closed {s : State} (h : s.barsOpen = false) (bar : Nat) (addr : BitVec 64) (op : HostOp)
    (f : State → State) : s.hostGate bar addr op .good f = s.unsupported addr op := by
  simp [State.hostGate, State.barOf_closed h, State.badReq]

/-- A good, well-formed request that its BAR decodes is served. -/
theorem State.hostGate_served {s : State} {bar : Nat} {addr : BitVec 64} {op : HostOp} (hbar : s.barOf addr.toNat = some bar)
    (hform : s.malformed addr op = false) (f : State → State) : s.hostGate bar addr op .good f = f s := by
  simp [State.hostGate, hbar, State.badReq, hform]

/-- A request that is unsupported is noted by AER and answered if it is a read. -/
theorem State.unsupported_writes (s : State) (addr : BitVec 64) (op : HostOp) : Writes errRegs s (s.unsupported addr op) := by
  have haer := (s.aer_keeps .unsupported (s.tlpHeader (!isRead op) false addr.toNat (opLen op))).writes
  exact .ite (haer.trans (.of_touch (State.reply_touch ..))) haer

/-- A write through BAR0 while the BARs are closed writes no register but the registry's. -/
theorem State.hostWrites32_closed {s : State} (h : s.barsOpen = false) (o : Nat) (w : Word) :
    Writes errRegs s (s.hostWrites32 o w) := by
  unfold State.hostWrites32
  rw [State.hostGate_closed h]
  exact s.unsupported_writes _ _

/-! A write that is served. -/

section Served

variable {s : State} {o : Nat} {w : Word}

theorem State.barBase_lt (s : State) (b : Nat) : s.barBase b < 2 ^ 64 := by
  have h0 := (NMap.get dZero32 s.host.cfg.bars b).isLt
  have h1 := (NMap.get dZero32 s.host.cfg.bars (b + 1)).isLt
  unfold State.barBase
  omega

/-- The address of an offset of an aligned BAR0. -/
theorem State.bar0_addr (hbase : s.barBase 0 % 2 ^ 26 = 0) (ho : o < 2 ^ 26) :
    (BitVec.ofNat 64 (s.barBase 0 + o)).toNat = s.barBase 0 + o := by
  have := s.barBase_lt 0
  rw [BitVec.toNat_ofNat, Nat.mod_eq_of_lt]
  omega

theorem State.barOf_bar0 (hopen : s.barsOpen = true) (ho : o < 2 ^ 26) : s.barOf (s.barBase 0 + o) = some 0 := by
  have hdec : s.decodes 0 (s.barBase 0 + o) = true := by
    have hle : Nat.ble (s.barBase 0) (s.barBase 0 + o) = true := Nat.ble_eq_true_of_le (Nat.le_add_right _ _)
    have hlt : Nat.blt (s.barBase 0 + o) (s.barBase 0 + barSize 0) = true :=
      Nat.ble_eq_true_of_le (Nat.add_lt_add_left ho _)
    simp [State.decodes, hopen, hle, hlt]
  simp [State.barOf, List.find?, hdec]

/-- An aligned word is well-formed. -/
theorem State.wordWrite_wellFormed {addr : BitVec 64} (h : addr.toNat % 4 = 0) : s.malformed addr (wordWrite w) = false := by
  have hpage : Nat.blt 4096 (addr.toNat % 4096 + 4) = false := by
    rw [← Bool.not_eq_true, Nat.blt_eq]
    omega
  have hpayload : Nat.blt s.maxPayload 4 = false := by
    have : 1 ≤ 2 ^ bitsOf 7 5 s.host.cfg.devCtl.toNat := Nat.one_le_two_pow
    rw [← Bool.not_eq_true, Nat.blt_eq, State.maxPayload]
    omega
  simp [State.malformed, opLen_wordWrite, hpage, hpayload]

/-- Nothing waits in the mesh and the block takes the request: it is served at once. -/
theorem State.arrive_served {h : Held} (hblocked : s.blocked h = false) (hwait : s.noc.waiting = []) :
    s.arrive h = s.serveHeld h := by simp [State.arrive, hblocked, hwait]

/-- A whole word of an aligned offset goes on to its block. -/
theorem State.bar0Request_word {addr : BitVec 64} (h : bar0Off addr % 4 = 0) :
    s.bar0Request addr (wordWrite w) = s.arrive (.bar0 addr (wordWrite w) s.sched.now) := by
  have hok : bar0Ok (bar0Off addr) 4 = true := by simp [bar0Ok, h]
  simp [State.bar0Request, wordWrite, leBytes, hok]

/-- A block on the fabric die that is no gallery's takes a request at once. -/
theorem State.blocked_bar0 {addr : BitVec 64} {op : HostOp} {t : Nat} (hlt : bar0Off addr < 0x1000000)
    (hd2d : acrossD2d (bar0Off addr) = false) : s.blocked (.bar0 addr op t) = false := by
  have hgal : Nat.ble 0x1000000 (bar0Off addr) = false := by
    rw [← Bool.not_eq_true, Nat.ble_eq]
    omega
  simp [State.blocked, hgal, hd2d]

/-- There it writes its word. -/
theorem State.serveBar0_word {addr : BitVec 64} (hlt : bar0Off addr < 0x1000000) (hd2d : acrossD2d (bar0Off addr) = false) :
    s.serveBar0 addr (wordWrite w) = s.hostWrite32 (bar0Off addr) w := by
  have hgal : ¬(0x1000000 ≤ bar0Off addr ∧ bar0Off addr < 0x1400000 ∧ s.isOff (bar0Off addr / 0x10000 - 0x100) = true) := by
    omega
  have hcross : s.crossD2d (bar0Off addr) = s := by simp [State.crossD2d, hd2d]
  have hcount : halfCount ((leBytes 4 w.toNat).map some).length = 1 := by simp [halfCount, leBytes_length]
  unfold State.serveBar0
  rw [if_neg hgal, hcross]
  simp only [wordWrite, hcount]
  exact s.hostWriteWords_word _ w

theorem State.hostWrites32_eq (s : State) (o : Nat) (w : Word) : s.hostWrites32 o w =
    s.hostGate 0 (BitVec.ofNat 64 (s.barBase 0 + o)) (wordWrite w) .good
      (fun s' => s'.bar0Request (BitVec.ofNat 64 (s.barBase 0 + o)) (wordWrite w)) := rfl

/-- A write through an open BAR0 to a block of the fabric die, when nothing waits in the mesh, is a write of the
register. -/
theorem State.hostWrites32_open (hopen : s.barsOpen = true) (hbase : s.barBase 0 % 2 ^ 26 = 0) (hwait : s.noc.waiting = [])
    (ho : o < 0x1000000) (ho4 : o % 4 = 0) (hd2d : acrossD2d o = false) : s.hostWrites32 o w = s.hostWrite32 o w := by
  have haddr : (BitVec.ofNat 64 (s.barBase 0 + o)).toNat = s.barBase 0 + o := State.bar0_addr hbase (by omega)
  have hoff : bar0Off (BitVec.ofNat 64 (s.barBase 0 + o)) = o := by
    rw [bar0Off, haddr]
    omega
  have hbar : s.barOf (BitVec.ofNat 64 (s.barBase 0 + o)).toNat = some 0 := by
    rw [haddr]
    exact State.barOf_bar0 hopen (by omega)
  have hform : s.malformed (BitVec.ofNat 64 (s.barBase 0 + o)) (wordWrite w) = false :=
    State.wordWrite_wellFormed (by rw [haddr]; omega)
  rw [State.hostWrites32_eq, State.hostGate_served hbar hform, State.bar0Request_word (by rw [hoff, ho4]),
    State.arrive_served (State.blocked_bar0 (by rw [hoff]; exact ho) (by rw [hoff]; exact hd2d)) hwait, State.serveHeld,
    State.serveBar0_word (by rw [hoff]; exact ho) (by rw [hoff]; exact hd2d), hoff]

end Served

/-! A register without effects (R4). -/

/-- A store by types writes its register alone. -/
theorem State.typedStore_regsBut {s : State} (h : s.canon) {o : Nat} {r : RegRow} (hr : regRow o = some r) (w : Word) :
    RegsBut [o] s (s.typedStore o w) := by
  rw [State.typedStore, hr]
  exact s.setReg_regsBut o _ h

/-- What a register holds after a store when none of its fields is one that hardware sets. -/
theorem State.typedStore_reg_self {s : State} (h : s.canon) {o : Nat} {r : RegRow} (hr : regRow o = some r) {w : Word}
    (hevent : eventMask r.fields = 0) (hlegal : legalWord o (s.reg o) w = w) :
    (s.typedStore o w).reg o = typedWrite r.fields (s.reg o) w := by
  rw [State.typedStore, hr]
  dsimp only
  rw [State.setReg_reg_self _ _ _ h.1, State.written, hlegal, hevent]
  simp

end Sys2Proof.Machine

/-! The host's window registers (10, R276, R280, R281) and the lock threshold (15): stores without an effect. -/

namespace Sys2Proof.Machine

/-- The BARs are open, BAR0 is aligned and no request waits in the mesh. -/
structure State.HostReady (s : State) : Prop where
  opened : s.barsOpen = true
  aligned : s.barBase 0 % 2 ^ 26 = 0
  served : s.noc.waiting = []

section HostStore

variable {s : State} {w : Word}

theorem State.hostWrite32_of_not_msix {o : Nat} (h : isMsix o = false) : s.hostWrite32 o w = s.writeReg o w .host := by
  rw [State.hostWrite32, h]
  exact if_neg Bool.false_ne_true

theorem State.writeReg_bar2Base : s.writeReg R.BAR2_BASE w .host = s.typedStore R.BAR2_BASE w := rfl

theorem State.writeReg_bar4Sel (a : Fin 16) :
    s.writeReg (R.BAR4_SEL a.val) w .host = s.typedStore (R.BAR4_SEL a.val) w := by
  fin_cases a <;> rfl

theorem State.writeReg_tbLockThresh : s.writeReg R.TB_LOCK_THRESH w .host = s.typedStore R.TB_LOCK_THRESH w := rfl

/-- The host's write of BAR2_BASE is a store. -/
theorem State.hostWrites32_bar2Base (h : s.HostReady) : s.hostWrites32 R.BAR2_BASE w = s.typedStore R.BAR2_BASE w := by
  rw [State.hostWrites32_open h.opened h.aligned h.served (by decide) (by decide) (by decide),
    State.hostWrite32_of_not_msix (by decide), State.writeReg_bar2Base]

/-- The host's write of an aperture selector is a store. -/
theorem State.hostWrites32_bar4Sel (h : s.HostReady) (a : Fin 16) :
    s.hostWrites32 (R.BAR4_SEL a.val) w = s.typedStore (R.BAR4_SEL a.val) w := by
  rw [State.hostWrites32_open h.opened h.aligned h.served (by decide +revert) (by decide +revert) (by decide +revert),
    State.hostWrite32_of_not_msix (by decide +revert), State.writeReg_bar4Sel]

/-- The host's write of the lock threshold is a store. -/
theorem State.hostWrites32_tbLockThresh (h : s.HostReady) :
    s.hostWrites32 R.TB_LOCK_THRESH w = s.typedStore R.TB_LOCK_THRESH w := by
  rw [State.hostWrites32_open h.opened h.aligned h.served (by decide) (by decide) (by decide),
    State.hostWrite32_of_not_msix (by decide), State.writeReg_tbLockThresh]

/-! The rows of these registers. -/

/-- The fields of BAR2_BASE. -/
def bar2BaseRow : RegRow := ⟨"BAR2_BASE", 0x70080, [], [⟨31, 11, .rsv, 0⟩, ⟨10, 0, .rw, 0⟩]⟩

/-- The fields of the aperture selectors. -/
def bar4SelRow : RegRow :=
  ⟨"BAR4_SEL", 0x70100, [(4, 16)],
    [⟨31, 31, .rw, 0⟩, ⟨30, 9, .rsv, 0⟩, ⟨8, 8, .rw, 0⟩, ⟨7, 6, .rsv, 0⟩, ⟨5, 0, .rw, 0⟩]⟩

/-- The field of TB_LOCK_THRESH. -/
def tbLockThreshRow : RegRow := ⟨"TB_LOCK_THRESH", 0x30020, [], [⟨31, 0, .rw, 1000⟩]⟩

theorem regRow_bar2Base : regRow R.BAR2_BASE = some bar2BaseRow := by decide

theorem regRow_bar4Sel (a : Fin 16) : regRow (R.BAR4_SEL a.val) = some bar4SelRow := by decide +revert

theorem regRow_tbLockThresh : regRow R.TB_LOCK_THRESH = some tbLockThreshRow := by decide

/-- No rule of legal values names a register below the ports that is no channel of trace and no gallery request. -/
theorem legalWord_eq {o : Nat} (htrace : ¬(0x61000 ≤ o ∧ o < 0x62100 ∧ (o - 0x61000) % 0x40 = 8))
    (hreq : ¬(R.PWR_GAL_REQ 0 ≤ o ∧ o ≤ R.PWR_GAL_REQ 3)) (heth : ¬(o = R.ETH_CFG 0 ∨ o = R.ETH_CFG 1))
    (hlow : o < 0x80000) (old new : Word) : legalWord o old new = new := by
  have hport : ¬0x80000 ≤ o := by omega
  have hrim : ¬0x100200 ≤ o := by omega
  simp [legalWord, htrace, hreq, heth, hport, hrim]

/-! What the stores leave. -/

theorem State.typedStore_bar2Base (h : s.canon) : (s.typedStore R.BAR2_BASE w).fld R.BAR2_BASE F.BAR2_BASE_BASE =
    F.BAR2_BASE_BASE.of w := by
  rw [State.fld, State.typedStore_reg_self h regRow_bar2Base (by decide)
    (legalWord_eq (by decide) (by decide) (by decide) (by decide) _ _)]
  simp only [bar2BaseRow, typedWrite, List.foldl]
  rw [Field.of_put _ _ _ (by decide) (by decide)]
  exact Nat.mod_eq_of_lt (Field.of_lt _ _)

/-- A field that is the whole word stores the word. -/
theorem Field.put_whole (old new : Word) : Field.put ⟨31, 0⟩ old (Field.of ⟨31, 0⟩ new) = new := by
  have hof : Field.of ⟨31, 0⟩ new = new.toNat := by
    simp only [Field.of, Field.size, Nat.pow_zero, Nat.div_one]
    exact Nat.mod_eq_of_lt new.isLt
  have hold : old.toNat / 2 ^ 32 = 0 := Nat.div_eq_of_lt old.isLt
  apply BitVec.eq_of_toNat_eq
  rw [Field.put_toNat _ _ _ (by decide) (by decide), hof]
  simp only [Field.size, Nat.pow_zero, Nat.mod_one, Nat.mul_one, Nat.zero_add, Nat.sub_zero, Nat.reduceAdd, hold,
    Nat.zero_mul, Nat.add_zero]
  exact Nat.mod_eq_of_lt new.isLt

theorem State.typedStore_tbLockThresh (h : s.canon) : (s.typedStore R.TB_LOCK_THRESH w).reg R.TB_LOCK_THRESH = w := by
  rw [State.typedStore_reg_self h regRow_tbLockThresh (by decide)
    (legalWord_eq (by decide) (by decide) (by decide) (by decide) _ _)]
  exact Field.put_whole _ _

/-- The word an aperture selector holds after a store. -/
def bar4SelWord (old new : Word) : Word :=
  F.BAR4_SEL_GALLERY.put (F.BAR4_SEL_SPACE.put (F.BAR4_SEL_VALID.put old (F.BAR4_SEL_VALID.of new))
    (F.BAR4_SEL_SPACE.of new)) (F.BAR4_SEL_GALLERY.of new)

theorem State.typedStore_bar4Sel (h : s.canon) (a : Fin 16) :
    (s.typedStore (R.BAR4_SEL a.val) w).reg (R.BAR4_SEL a.val) = bar4SelWord (s.reg (R.BAR4_SEL a.val)) w :=
  State.typedStore_reg_self h (regRow_bar4Sel a) (by decide)
    (legalWord_eq (by decide +revert) (by decide +revert) (by decide +revert) (by decide +revert) _ _)

theorem gallery_bar4SelWord (old new : Word) :
    F.BAR4_SEL_GALLERY.of (bar4SelWord old new) = F.BAR4_SEL_GALLERY.of new := by
  rw [bar4SelWord, Field.of_put _ _ _ (by decide) (by decide)]
  exact Nat.mod_eq_of_lt (Field.of_lt _ _)

theorem space_bar4SelWord (old new : Word) : F.BAR4_SEL_SPACE.of (bar4SelWord old new) = F.BAR4_SEL_SPACE.of new := by
  rw [bar4SelWord, Field.of_put_above _ _ _ _ (by decide) (by decide) (by decide), Field.of_put _ _ _ (by decide) (by decide)]
  exact Nat.mod_eq_of_lt (Field.of_lt _ _)

theorem valid_bar4SelWord (old new : Word) : F.BAR4_SEL_VALID.of (bar4SelWord old new) = F.BAR4_SEL_VALID.of new := by
  rw [bar4SelWord, Field.of_put_above _ _ _ _ (by decide) (by decide) (by decide),
    Field.of_put_above _ _ _ _ (by decide) (by decide) (by decide), Field.of_put _ _ _ (by decide) (by decide)]
  exact Nat.mod_eq_of_lt (Field.of_lt _ _)

/-! The commands. -/

theorem exec_bar2BaseWrite_open (h : s.canon) (hs : s.HostReady) : ∃ t, exec (.bar2BaseWrite w) s = .next t ∧
    t.fld R.BAR2_BASE F.BAR2_BASE_BASE = F.BAR2_BASE_BASE.of w ∧ RegsBut [R.BAR2_BASE] s t :=
  ⟨_, congrArg Host.Outcome.next (State.hostWrites32_bar2Base hs), State.typedStore_bar2Base h,
    State.typedStore_regsBut h regRow_bar2Base w⟩

theorem exec_bar4SelWrite_open (h : s.canon) (hs : s.HostReady) (a : Fin 16) : ∃ t,
    exec (.bar4SelWrite a w) s = .next t ∧
    t.fld (R.BAR4_SEL a.val) F.BAR4_SEL_GALLERY = F.BAR4_SEL_GALLERY.of w ∧
    t.bit (R.BAR4_SEL a.val) F.BAR4_SEL_VALID = decide (F.BAR4_SEL_VALID.of w = 1) ∧
    t.bit (R.BAR4_SEL a.val) F.BAR4_SEL_SPACE = decide (F.BAR4_SEL_SPACE.of w = 1) ∧
    RegsBut [R.BAR4_SEL a.val] s t := by
  have hword := State.typedStore_bar4Sel (w := w) h a
  refine ⟨_, congrArg Host.Outcome.next (State.hostWrites32_bar4Sel hs a), ?_, ?_, ?_,
    State.typedStore_regsBut h (regRow_bar4Sel a) w⟩
  · rw [State.fld, hword, gallery_bar4SelWord]
  · rw [State.bit, State.fld, hword, valid_bar4SelWord]
    exact Bool.beq_eq_decide_eq _ _
  · rw [State.bit, State.fld, hword, space_bar4SelWord]
    exact Bool.beq_eq_decide_eq _ _

theorem exec_registerWrite_bar0 (o : BitVec 26) : exec (.registerWrite (.bar0 o) w) s =
    .next (if o.toNat % 4 = 0 then s.hostWrites32 o.toNat w else s) := by
  rw [show exec (.registerWrite (.bar0 o) w) s =
    if o.toNat % 4 = 0 then .next (s.hostWrites32 o.toNat w) else .next s from rfl]
  split <;> rfl

theorem exec_tbLockThreshWrite_open (h : s.canon) (hs : s.HostReady) : ∃ t,
    exec (.registerWrite (.bar0 (BitVec.ofNat 26 R.TB_LOCK_THRESH)) w) s = .next t ∧
    t.reg R.TB_LOCK_THRESH = w ∧ RegsBut [R.TB_LOCK_THRESH] s t := by
  have hoff : (BitVec.ofNat 26 R.TB_LOCK_THRESH).toNat = R.TB_LOCK_THRESH := by decide
  have hexec := exec_registerWrite_bar0 (s := s) (w := w) (BitVec.ofNat 26 R.TB_LOCK_THRESH)
  rw [hoff, if_pos (by decide), State.hostWrites32_tbLockThresh hs] at hexec
  exact ⟨_, hexec, State.typedStore_tbLockThresh h, State.typedStore_regsBut h regRow_tbLockThresh w⟩

theorem exec_bar2BaseWrite_closed (h : s.canon) (hs : s.barsOpen = false) : ∃ t,
    exec (.bar2BaseWrite w) s = .next t ∧ t.reg R.BAR2_BASE = s.reg R.BAR2_BASE :=
  ⟨_, rfl, (State.hostWrites32_closed hs R.BAR2_BASE w).reg h _ (by decide)⟩

theorem exec_bar4SelWrite_closed (h : s.canon) (hs : s.barsOpen = false) (a : Fin 16) : ∃ t,
    exec (.bar4SelWrite a w) s = .next t ∧ t.reg (R.BAR4_SEL a.val) = s.reg (R.BAR4_SEL a.val) :=
  ⟨_, rfl, (State.hostWrites32_closed hs (R.BAR4_SEL a.val) w).reg h _ (by decide +revert)⟩

end HostStore

end Sys2Proof.Machine

/-! A gallery's net store served to the host (02, R20; 10, R281, R282). -/

namespace Sys2Proof.Machine

/-! Stores of many keys. -/

section SetAll

variable {α : Type} [DecidableEq α] {d : Nat → α} {k : Nat}

/-- A key that is not stored reads as before. -/
theorem NMap.get_setAll_of_notMem (l : List (Nat × α)) {m : NMap α} (hm : NMap.wf d m = true) (hk : ∀ e ∈ l, k ≠ e.1) :
    NMap.get d (NMap.setAll d m l) k = NMap.get d m k := by
  induction l generalizing m with
  | nil => rfl
  | cons e l ih =>
    obtain ⟨he, hl⟩ := List.forall_mem_cons.1 hk
    exact (ih (NMap.wf_set d m e.1 e.2 hm) hl).trans (NMap.get_set_of_ne d m _ _ _ hm he)

/-- A key that is stored, always with one value, reads that value. -/
theorem NMap.get_setAll_of_mem {v : α} (l : List (Nat × α)) {m : NMap α} (hm : NMap.wf d m = true)
    (hv : ∀ e ∈ l, e.1 = k → e.2 = v) (hk : ∃ e ∈ l, e.1 = k) : NMap.get d (NMap.setAll d m l) k = v := by
  induction l generalizing m with
  | nil => exact absurd hk (by simp)
  | cons e l ih =>
    obtain ⟨he, hl⟩ := List.forall_mem_cons.1 hv
    have hwf : NMap.wf d (NMap.set d m e.1 e.2) = true := NMap.wf_set d m e.1 e.2 hm
    by_cases hkl : ∃ e ∈ l, e.1 = k
    · exact ih hwf hl hkl
    · have hke : e.1 = k := by
        obtain ⟨e', he', hke'⟩ := hk
        rcases List.mem_cons.1 he' with rfl | hmem
        · exact hke'
        · exact absurd ⟨e', hmem, hke'⟩ hkl
      have hrest : NMap.get d (NMap.setAll d m (e :: l)) k = NMap.get d (NMap.set d m e.1 e.2) k :=
        NMap.get_setAll_of_notMem l hwf fun e' he' h => hkl ⟨e', he', h.symm⟩
      rw [hrest, ← hke, NMap.get_set_self d m _ _ hm]
      exact he hke

end SetAll

/-! A byte of the net store. -/

/-- The bits of a byte from key `k` on. -/
def byteBits (k : Nat) (v : Byte) : List (Nat × Bool) := (List.range 8).map fun i => (k + i, v.getLsbD i)

theorem mem_byteBits {k : Nat} {v : Byte} {e : Nat × Bool} : e ∈ byteBits k v ↔ ∃ i < 8, e = (k + i, v.getLsbD i) := by
  simp [byteBits, eq_comm]

/-- The byte whose bits stand from key `k` on. -/
def byteAt (m : NMap Bool) (k : Nat) : Byte :=
  BitVec.ofNat 8 ((List.range 8).foldl (fun v i => v + natOfBool (NMap.get dFalse m (k + i)) * 2 ^ i) 0)

theorem byteAt_congr {m m' : NMap Bool} {k : Nat} (h : ∀ i < 8, NMap.get dFalse m (k + i) = NMap.get dFalse m' (k + i)) :
    byteAt m k = byteAt m' k := by
  refine congrArg (BitVec.ofNat 8) (List.foldl_ext _ _ _ fun v i hi => ?_)
  rw [h i (List.mem_range.1 hi)]

/-- A byte is the sum of its bits. -/
theorem byte_eq_sum (v : Byte) :
    BitVec.ofNat 8 ((List.range 8).foldl (fun a i => a + natOfBool (v.getLsbD i) * 2 ^ i) 0) = v := by
  decide +revert

section Byte

variable {m : NMap Bool} {k j : Nat} {v : Byte}

/-- The byte that was stored. -/
theorem byteAt_setAll_self (hm : NMap.wf dFalse m = true) : byteAt (NMap.setAll dFalse m (byteBits k v)) k = v := by
  refine Eq.trans (congrArg (BitVec.ofNat 8) (List.foldl_ext _ _ _ fun a i hi => ?_)) (byte_eq_sum v)
  have hbit : NMap.get dFalse (NMap.setAll dFalse m (byteBits k v)) (k + i) = v.getLsbD i := by
    refine NMap.get_setAll_of_mem _ hm (fun e he hke => ?_) ⟨_, mem_byteBits.2 ⟨i, List.mem_range.1 hi, rfl⟩, rfl⟩
    obtain ⟨j, -, rfl⟩ := mem_byteBits.1 he
    rw [Nat.add_left_cancel hke]
  rw [hbit]

/-- Bytes elsewhere. -/
theorem byteAt_setAll_of_apart (hm : NMap.wf dFalse m = true) (hj : j + 8 ≤ k ∨ k + 8 ≤ j) :
    byteAt (NMap.setAll dFalse m (byteBits k v)) j = byteAt m j := by
  refine byteAt_congr fun i hi => NMap.get_setAll_of_notMem _ hm fun e he => ?_
  obtain ⟨i', hi', rfl⟩ := mem_byteBits.1 he
  show j + i ≠ k + i'
  omega

end Byte

section NetStore

variable {s : State} {b n x : Nat} {v : Byte}

/-- The bytes the host writes stand in the side of the previous tick. -/
theorem State.netByte_prev (hx : x < 256) : s.netByte b x = byteAt s.fab.nsPrev (b * 2048 + x * 8) := by
  have hside : x / 256 = 0 := Nat.div_eq_of_lt hx
  have hcol : x % 256 = x := Nat.mod_eq_of_lt hx
  rw [State.netByte, hside, hcol]
  rfl

theorem State.netWrite_none (vs : List (Option Byte)) : s.netWrite b n (none :: vs) = s.netWrite b (n + 1) vs := rfl

theorem State.netWrite_some (vs : List (Option Byte)) :
    s.netWrite b n (some v :: vs) = (s.netPut8 b n v).netWrite b (n + 1) vs := rfl

/-- What a byte's write leaves of the fabric, beside the bad bits. -/
theorem State.netPut8_fab : (s.netPut8 b n v).fab.nsPrev = NMap.setAll dFalse s.fab.nsPrev (byteBits (b * 2048 + n * 8) v) ∧
    (s.netPut8 b n v).fab.nsCur = s.fab.nsCur := ⟨rfl, rfl⟩

theorem State.netPut8_wf (h : NMap.wf dFalse s.fab.nsPrev = true) : NMap.wf dFalse (s.netPut8 b n v).fab.nsPrev = true := by
  rw [State.netPut8_fab.1]
  exact NMap.wf_setAll _ _ _ h

theorem State.netByte_netPut8_self (h : NMap.wf dFalse s.fab.nsPrev = true) (hn : n < 256) :
    (s.netPut8 b n v).netByte b n = v := by
  rw [State.netByte_prev hn, State.netPut8_fab.1, byteAt_setAll_self h]

theorem State.netByte_netPut8_of_ne (h : NMap.wf dFalse s.fab.nsPrev = true) (hx : x < 256) (hne : x ≠ n) :
    (s.netPut8 b n v).netByte b x = s.netByte b x := by
  rw [State.netByte_prev hx, State.netByte_prev hx, State.netPut8_fab.1, byteAt_setAll_of_apart h (by omega)]

/-- A write of bytes leaves the side of the current tick. -/
theorem State.netWrite_nsCur (vs : List (Option Byte)) : (s.netWrite b n vs).fab.nsCur = s.fab.nsCur := by
  induction vs generalizing s n with
  | nil => rfl
  | cons v vs ih =>
    cases v with
    | none => rw [State.netWrite_none, ih]
    | some v => rw [State.netWrite_some, ih, State.netPut8_fab.2]

/-- Bytes before the first one written are as before. -/
theorem State.netByte_netWrite_before (h : NMap.wf dFalse s.fab.nsPrev = true) (hx : x < 256) (hn : x < n)
    (vs : List (Option Byte)) : (s.netWrite b n vs).netByte b x = s.netByte b x := by
  induction vs generalizing s n with
  | nil => rfl
  | cons v vs ih =>
    cases v with
    | none => rw [State.netWrite_none, ih h (by omega)]
    | some v => rw [State.netWrite_some, ih (State.netPut8_wf h) (by omega), State.netByte_netPut8_of_ne h hx (by omega)]

/-- A byte that is written reads as written. -/
theorem State.netByte_netWrite_of_mem (h : NMap.wf dFalse s.fab.nsPrev = true) {vs : List (Option Byte)} {i : Nat}
    (hi : n + i < 256) (hv : vs[i]? = some (some v)) : (s.netWrite b n vs).netByte b (n + i) = v := by
  induction vs generalizing s n i with
  | nil => cases hv
  | cons u us ih =>
    cases i with
    | zero =>
      cases hv
      have hn : n < 256 := hi
      rw [Nat.add_zero, State.netWrite_some, State.netByte_netWrite_before (State.netPut8_wf h) hn (Nat.lt_succ_self n),
        State.netByte_netPut8_self h hn]
    | succ i =>
      have hstep : n + 1 + i = n + (i + 1) := by omega
      rw [← hstep]
      cases u with
      | none => rw [State.netWrite_none, ih h (by omega) hv]
      | some u => rw [State.netWrite_some, ih (State.netPut8_wf h) (by omega) hv]

end NetStore

/-! The service. -/

section Serve

variable {s : State} {g : Gal} {r : NetReq}

/-- The bank is taken and the request's word is served. -/
theorem exec_netStoreServe_of_next (hp : s.netPeriod g.val = true) (hr : s.nextNet g.val = some r) (hl : r.left ≤ 8 - r.off % 8) :
    exec (.netStoreServe g) s = .next ((s.useBank (1024 + g.val)).serveNet r r.left) := by
  rw [show exec (.netStoreServe g) s = execNetStoreServe g s from rfl, execNetStoreServe, hp, hr]
  exact congrArg (fun k => Host.Outcome.next ((s.useBank (1024 + g.val)).serveNet r k)) (Nat.min_eq_left hl)

/-- The request served leaves the queue. -/
def State.netDone (s : State) (r : NetReq) : State :=
  { s with host := { s.host with netQ := replaceNet r [] s.host.netQ } }

/-- The last word of a read answers its bytes. -/
theorem State.serveNet_read (hw : r.write = none) : ∃ len, s.serveNet r r.left =
    (s.netDone r).hostAnswer 4 r.addr len true 0
      (r.got ++ (List.range r.left).map fun i => s.netByte (r.gal * 1024 + r.off / 1024) (r.off % 1024 + i)) := by
  unfold State.serveNet
  simp only [hw, Nat.le_refl, if_true]
  exact ⟨_, rfl⟩

/-- The last word of a write stores its bytes, or is turned away. -/
theorem State.serveNet_write {bs : List (Option Byte)} (hw : r.write = some bs) : s.serveNet r r.left =
    if s.runState ≤ 1 ∧ r.off % 1024 < 0x100 then
      (s.netDone r).netWrite (r.gal * 1024 + r.off / 1024) (r.off % 1024) (bs.take r.left)
    else (s.netDone r).hostErr 3 4 r.addr := by
  unfold State.serveNet
  simp only [hw, Nat.le_refl, if_true]
  rfl

theorem exec_netStoreServe_read (hp : s.netPeriod g.val = true) (hr : s.nextNet g.val = some r) (hw : r.write = none)
    (hl : r.left ≤ 8 - r.off % 8) : ∃ t, exec (.netStoreServe g) s = .next t ∧
      t.host.replies = s.host.replies ++ [.bytes (r.got ++
        (List.range r.left).map (fun i => s.netByte (r.gal * 1024 + r.off / 1024) (r.off % 1024 + i)))] ∧
      t.fab.nsPrev = s.fab.nsPrev := by
  obtain ⟨len, hserve⟩ := State.serveNet_read (s := s.useBank (1024 + g.val)) hw
  rw [exec_netStoreServe_of_next hp hr hl, hserve]
  exact ⟨_, rfl, rfl, rfl⟩

theorem exec_netStoreServe_write (h : s.canon) {bs : List (Option Byte)} (hp : s.netPeriod g.val = true)
    (hr : s.nextNet g.val = some r) (hw : r.write = some bs) (hl : r.left ≤ 8 - r.off % 8) :
    ∃ t, exec (.netStoreServe g) s = .next t ∧ t.host.replies = s.host.replies ∧ t.fab.nsCur = s.fab.nsCur ∧
      (s.runState ≤ 1 → r.off % 1024 < 0x100 → NMap.wf (fun _ => false) s.fab.nsPrev = true →
        ∀ i v, i < r.left → bs[i]? = some (some v) → t.netByte (r.gal * 1024 + r.off / 1024) (r.off % 1024 + i) = v) ∧
      (1 < s.runState ∨ 0x100 ≤ r.off % 1024 → t.fab.nsPrev = s.fab.nsPrev ∧ (t.reg R.HOST_ERR).getLsbD 3 = true) := by
  have hrun : (s.useBank (1024 + g.val)).runState = s.runState := rfl
  rw [exec_netStoreServe_of_next hp hr hl, State.serveNet_write hw, hrun]
  by_cases hstore : s.runState ≤ 1 ∧ r.off % 1024 < 0x100
  · rw [if_pos hstore]
    refine ⟨_, rfl, ?_, State.netWrite_nsCur _, fun _ hn hwf i v hi hv => ?_, fun hno => by omega⟩
    · rw [show (State.netWrite _ _ _ _).host = _ from (State.netWrite_touch _ _ _ _).2.1 .host rfl]
      rfl
    · have hwf' : NMap.wf dFalse ((s.useBank (1024 + g.val)).netDone r).fab.nsPrev = true := hwf
      have hput : (bs.take r.left)[i]? = some (some v) := by rw [List.getElem?_take_of_lt hi, hv]
      rw [State.netByte_netWrite_of_mem hwf' (by omega) hput]
  · rw [if_neg hstore]
    have hhost := (State.hostErr_touch ((s.useBank (1024 + g.val)).netDone r) 3 4 r.addr 0).2.1 .host rfl
    have hfab := (State.hostErr_touch ((s.useBank (1024 + g.val)).netDone r) 3 4 r.addr 0).2.1 .fab rfl
    have hcanon : ((s.useBank (1024 + g.val)).netDone r).canon := h
    refine ⟨_, rfl, ?_, ?_, fun h1 h2 => absurd ⟨h1, h2⟩ hstore, fun _ => ⟨?_, State.getLsbD_hostErr hcanon (by decide) _ _ _⟩⟩
    · rw [hhost]; rfl
    · rw [hfab]; rfl
    · rw [hfab]; rfl

end Serve

end Sys2Proof.Machine

/-! Messages of the host's interrupts (10, R285, R409), host reads without a response (R283), and the other ways to the
registers (R12, R274). -/

namespace Sys2Proof.Machine

/-! MSI-X messages (R285). -/

/-- The message of a vector. -/
def State.msixMessage (s : State) (v : Nat) : Nat × Dword × Word :=
  (v, NMap.get dZero64 s.host.msixAddr v, NMap.get dZero32 s.host.msixData v)

section Msix

variable {s : State} {u v : Nat}

theorem State.msixSend_of_ready (h : s.msixReady v = true) : s.msixSend v =
    { s with host := { s.host with sent := s.host.sent ++ [s.msixMessage v],
                                   msixPend := NMap.set dFalse s.host.msixPend v false } } := by
  rw [State.msixSend, if_pos h]
  rfl

theorem State.msixSend_of_not_ready (h : ¬s.msixReady v = true) : s.msixSend v = s := by rw [State.msixSend, if_neg h]

/-- What sending a message leaves of the host's port. -/
structure MsixKeeps (s t : State) : Prop where
  d3hot : t.host.d3hot = s.host.d3hot
  message : ∀ v, t.msixMessage v = s.msixMessage v
  sent : ∀ e ∈ s.host.sent, e ∈ t.host.sent
  wf : NMap.wf dFalse s.host.msixPend = true → NMap.wf dFalse t.host.msixPend = true

theorem State.msixSend_keeps (s : State) (v : Nat) : MsixKeeps s (s.msixSend v) := by
  by_cases h : s.msixReady v = true
  · rw [State.msixSend_of_ready h]
    exact ⟨rfl, fun _ => rfl, fun e he => List.mem_append_left _ he, fun hwf => NMap.wf_set _ _ _ _ hwf⟩
  · rw [State.msixSend_of_not_ready h]
    exact ⟨rfl, fun _ => rfl, fun e he => he, id⟩

theorem MsixKeeps.trans {s t u : State} (h : MsixKeeps s t) (g : MsixKeeps t u) : MsixKeeps s u :=
  ⟨g.d3hot.trans h.d3hot, fun v => (g.message v).trans (h.message v), fun e he => g.sent e (h.sent e he),
    fun hwf => g.wf (h.wf hwf)⟩

theorem State.foldl_msixSend_keeps (vs : List Nat) (s : State) : MsixKeeps s (vs.foldl State.msixSend s) := by
  induction vs generalizing s with
  | nil => exact ⟨rfl, fun _ => rfl, fun e he => he, id⟩
  | cons v vs ih => exact (s.msixSend_keeps v).trans (ih _)

/-- Sending one message leaves another ready. -/
theorem State.msixReady_msixSend_of_ne (hwf : NMap.wf dFalse s.host.msixPend = true) (hne : v ≠ u)
    (hv : s.msixReady v = true) : (s.msixSend u).msixReady v = true := by
  by_cases h : s.msixReady u = true
  · rw [State.msixSend_of_ready h]
    have hpend : NMap.get dFalse (NMap.set dFalse s.host.msixPend u false) v = NMap.get dFalse s.host.msixPend v :=
      NMap.get_set_of_ne _ _ _ _ _ hwf hne
    rw [State.msixReady] at hv ⊢
    rw [hpend]
    exact hv
  · rw [State.msixSend_of_not_ready h]
    exact hv

/-- A message sent in its turn. -/
theorem State.message_mem_msixSend (hv : s.msixReady v = true) : s.msixMessage v ∈ (s.msixSend v).host.sent := by
  rw [State.msixSend_of_ready hv]
  exact List.mem_append_right _ (List.mem_singleton_self _)

/-- Every message that is ready is sent. -/
theorem State.message_mem_foldl_msixSend {vs : List Nat} (hvs : v ∈ vs) (hwf : NMap.wf dFalse s.host.msixPend = true)
    (hv : s.msixReady v = true) : s.msixMessage v ∈ (vs.foldl State.msixSend s).host.sent := by
  induction vs generalizing s with
  | nil => exact absurd hvs List.not_mem_nil
  | cons u us ih =>
    have hkeeps := s.msixSend_keeps u
    by_cases hvu : v = u
    · subst hvu
      exact (State.foldl_msixSend_keeps us _).sent _ (State.message_mem_msixSend hv)
    · rw [← hkeeps.message v]
      exact ih ((List.mem_cons.1 hvs).resolve_left hvu) (hkeeps.wf hwf) (State.msixReady_msixSend_of_ne hwf hvu hv)

theorem exec_msixSend (v : Fin 256) : exec (.msixSend v) s = .next (if s.msixReady v.val
    then { s with host := { s.host with
      sent := s.host.sent ++ [(v.val, NMap.get (fun _ => 0) s.host.msixAddr v.val, NMap.get (fun _ => 0) s.host.msixData v.val)],
      msixPend := NMap.set (fun _ => false) s.host.msixPend v.val false } }
    else s) := rfl

/-- The device in full power. -/
def State.wakeHost (s : State) : State := { s with host := { s.host with d3hot := false } }

/-- Leaving D3hot sends what waits. -/
theorem exec_d3hotExit (h : s.host.d3hot = true) : ∃ t : State, exec .d3hotExit s = .next t.pumped ∧
    t.host.d3hot = false ∧ (NMap.wf (fun _ => false) s.host.msixPend = true → ∀ v : Fin 256,
      ({ s with host := { s.host with d3hot := false } } : State).msixReady v.val = true →
      (v.val, NMap.get (fun _ => 0) s.host.msixAddr v.val, NMap.get (fun _ => 0) s.host.msixData v.val) ∈ t.host.sent) := by
  have hexec : exec .d3hotExit s = .next ((List.range 256).foldl State.msixSend s.wakeHost).pumped := by
    rw [show exec .d3hotExit s = execD3hotExit s from rfl, execD3hotExit, h]
    rfl
  exact ⟨_, hexec, (State.foldl_msixSend_keeps _ s.wakeHost).d3hot, fun hwf v hv =>
    State.message_mem_foldl_msixSend (s := s.wakeHost) (List.mem_range.2 v.isLt) hwf hv⟩

end Msix

/-! Host reads that have had no response (R283). -/

section Timeout

variable {s : State} {addr : BitVec 64}

/-- The overdue reads at `addr` leave their queues. -/
def State.dropOverdue (s : State) (addr : BitVec 64) : State :=
  { s with
    noc := { s.noc with waiting := s.noc.waiting.filter (fun h => !s.heldRead addr h) },
    mem := { s.mem with bankQ := s.mem.bankQ.map (fun r => if s.bankRead addr.toNat r then { r with who := .noc false } else r) },
    host := { s.host with netQ := s.host.netQ.filter (fun r => !s.netRead addr.toNat r) } }

/-- One read aborted. -/
def State.abortLate (addr : Nat) (s : State) (n : Nat) : State := (s.abortRead addr n).recordNoc 4 0x04 0x04

theorem exec_nocRspTimeout (s : State) (addr : BitVec 64) : exec (.nocRspTimeout addr) s =
    .next ((s.overdueReads addr).foldl (State.abortLate addr.toNat) (s.dropOverdue addr)) := rfl

/-- What aborting `n` reads does to the queues and the answers. -/
structure Aborted (n : Nat) (s t : State) : Prop where
  canon : s.canon → t.canon
  sched : t.sched = s.sched
  noc : t.noc = s.noc
  mem : t.mem = s.mem
  netQ : t.host.netQ = s.host.netQ
  replies : t.host.replies = s.host.replies ++ List.replicate n .abort

theorem State.abortRead_eq (s : State) (addr n : Nat) : s.abortRead addr n =
    (s.aer .completerAbort (s.tlpHeader false false addr n)).reply .abort := rfl

theorem State.abortLate_aborted (s : State) (addr n : Nat) : Aborted 1 s (s.abortLate addr n) := by
  have haer := s.aer_keeps .completerAbort (s.tlpHeader false false addr n)
  have hread := s.abortRead_touch addr n
  have hnoc := (s.abortRead addr n).recordNoc_touch 4 0x04 0x04
  have hhost : (s.abortLate addr n).host = (s.abortRead addr n).host := hnoc.2.1 .host rfl
  have hreply : (s.abortRead addr n).host.netQ = s.host.netQ ∧
      (s.abortRead addr n).host.replies = s.host.replies ++ [.abort] := by
    rw [State.abortRead_eq]
    simp only [State.reply]
    rw [haer.host]
    exact ⟨rfl, rfl⟩
  refine ⟨fun h => hnoc.2.2 (hread.2.2 h), ?_, ?_, ?_, by rw [hhost, hreply.1], by rw [hhost, hreply.2]; rfl⟩
  · rw [State.abortLate, State.recordNoc_sched, State.abortRead_eq]
    exact haer.sched
  · exact (hnoc.2.1 .noc rfl).trans (hread.2.1 .noc rfl)
  · exact (hnoc.2.1 .mem rfl).trans (hread.2.1 .mem rfl)

theorem State.foldl_abortLate_aborted (addr : Nat) (ns : List Nat) (s : State) :
    Aborted ns.length s (ns.foldl (State.abortLate addr) s) := by
  induction ns generalizing s with
  | nil => exact ⟨id, rfl, rfl, rfl, rfl, by simp⟩
  | cons n ns ih =>
    have h := s.abortLate_aborted addr n
    have g := ih (s.abortLate addr n)
    exact ⟨fun hs => g.canon (h.canon hs), g.sched.trans h.sched, g.noc.trans h.noc, g.mem.trans h.mem,
      g.netQ.trans h.netQ, by
        rw [List.foldl_cons, g.replies, h.replies, List.append_assoc, List.replicate_append_replicate, Nat.add_comm 1,
          List.length_cons]⟩

/-- The overdue reads are found in the queues and by the time. -/
theorem State.overdueReads_congr {t : State} (hs : t.sched = s.sched) (hn : t.noc = s.noc) (hm : t.mem = s.mem)
    (hq : t.host.netQ = s.host.netQ) : t.overdueReads addr = s.overdueReads addr := by
  have hdue : t.overdue = s.overdue := by
    funext x
    rw [State.overdue, State.overdue, hs]
  have hheld : t.heldRead addr = s.heldRead addr := by
    funext x
    simp only [State.heldRead, hdue]
  have hbank : t.bankRead addr.toNat = s.bankRead addr.toNat := by
    funext x
    simp only [State.bankRead, hdue]
  have hnet : t.netRead addr.toNat = s.netRead addr.toNat := by
    funext x
    simp only [State.netRead, hdue]
  rw [State.overdueReads, State.overdueReads, hheld, hbank, hnet, hn, hm, hq]

theorem State.overdueReads_eq_nil : s.overdueReads addr = [] ↔ (∀ x ∈ s.noc.waiting, ¬s.heldRead addr x = true) ∧
    (∀ x ∈ s.mem.bankQ, ¬s.bankRead addr.toNat x = true) ∧ ∀ x ∈ s.host.netQ, ¬s.netRead addr.toNat x = true := by
  rw [State.overdueReads, List.append_eq_nil_iff, List.append_eq_nil_iff, List.map_eq_nil_iff, List.map_eq_nil_iff,
    List.map_eq_nil_iff, List.filter_eq_nil_iff, List.filter_eq_nil_iff, List.filter_eq_nil_iff, and_assoc]

/-- What was dropped is overdue no more. -/
theorem State.overdueReads_dropOverdue : (s.dropOverdue addr).overdueReads addr = [] := by
  refine State.overdueReads_eq_nil.2 ⟨fun x hx => ?_, fun x hx => ?_, fun x hx => ?_⟩
  · have hkept := (List.mem_filter.1 hx).2
    rwa [Bool.not_eq_true', ← Bool.not_eq_true] at hkept
  · obtain ⟨y, -, rfl⟩ := List.mem_map.1 hx
    by_cases hy : s.bankRead addr.toNat y = true
    · rw [if_pos hy]
      exact Bool.false_ne_true
    · rw [if_neg hy]
      exact hy
  · have hkept := (List.mem_filter.1 hx).2
    rwa [Bool.not_eq_true', ← Bool.not_eq_true] at hkept

/-- With none overdue nothing is dropped. -/
theorem State.dropOverdue_of_none (h : s.overdueReads addr = []) : s.dropOverdue addr = s := by
  obtain ⟨hheld, hbank, hnet⟩ := State.overdueReads_eq_nil.1 h
  have hwait : s.noc.waiting.filter (fun x => !s.heldRead addr x) = s.noc.waiting :=
    List.filter_eq_self.2 fun x hx => by simpa using hheld x hx
  have hq : s.host.netQ.filter (fun x => !s.netRead addr.toNat x) = s.host.netQ :=
    List.filter_eq_self.2 fun x hx => by simpa using hnet x hx
  have hb : s.mem.bankQ.map (fun r => if s.bankRead addr.toNat r then { r with who := .noc false } else r) = s.mem.bankQ :=
    (List.map_congr_left (g := id) fun x hx => if_neg (hbank x hx)).trans (List.map_id _)
  rw [State.dropOverdue, hwait, hq, hb]

theorem exec_nocRspTimeout_none (h : s.overdueReads addr = []) : exec (.nocRspTimeout addr) s = .next s := by
  rw [exec_nocRspTimeout, h, State.dropOverdue_of_none h]
  rfl

theorem exec_nocRspTimeout_some (hs : s.canon) (h : s.overdueReads addr ≠ []) : ∃ t,
    exec (.nocRspTimeout addr) s = .next t ∧
    t.host.replies = s.host.replies ++ List.replicate (s.overdueReads addr).length .abort ∧
    t.overdueReads addr = [] ∧ (t.reg R.NOC_ERR).getLsbD 4 = true := by
  have hall := State.foldl_abortLate_aborted addr.toNat (s.overdueReads addr) (s.dropOverdue addr)
  refine ⟨_, exec_nocRspTimeout s addr, hall.replies, ?_, ?_⟩
  · rw [State.overdueReads_congr hall.sched hall.noc hall.mem hall.netQ, State.overdueReads_dropOverdue]
  · obtain ⟨ns, n, hns⟩ := (List.eq_nil_or_concat _).resolve_left h
    rw [hns, List.concat_eq_append, List.foldl_concat]
    have hbefore := (State.foldl_abortLate_aborted addr.toNat ns (s.dropOverdue addr)).canon hs
    exact State.getLsbD_recordNoc ((State.abortRead_touch _ _ _).2.2 hbefore) (by decide) 0x04 0x04

end Timeout

/-! The serial port's transactions and the configuration space (R12, R274). -/

section Registers

variable {s : State}

theorem exec_spiTransaction (cmd : BitVec 8) (off : BitVec 24) (data : Word) (cut : Bool) (s : State) :
    exec (.spiTransaction cmd off data cut) s =
      if cmd = 0x03 then
        if spiReaches off.toNat && !cut then .next ((s.readReg off.toNat).2.reply (.data [(s.readReg off.toNat).1]))
        else .next (s.reply (.data [0]))
      else if cmd = 0x02 then
        if spiReaches off.toNat && !cut then .next (s.writeReg off.toNat data .lantern) else .next s
      else .next s := rfl

/-- Other commands do nothing. -/
theorem exec_spiTransaction_other {cmd : BitVec 8} (hread : cmd ≠ 3) (hwrite : cmd ≠ 2) (off : BitVec 24) (data : Word)
    (cut : Bool) : exec (.spiTransaction cmd off data cut) s = .next s := by
  rw [exec_spiTransaction, if_neg hread, if_neg hwrite]

section Spi

variable {off : BitVec 24} {data : Word} {cut : Bool}

/-- A transaction that reaches a register and is not cut. -/
theorem exec_spiTransaction_reaches (h : spiReaches off.toNat = true) (hcut : cut = false) :
    exec (.spiTransaction 0x03 off data cut) s = .next ((s.readReg off.toNat).2.reply (.data [(s.readReg off.toNat).1])) ∧
    exec (.spiTransaction 0x02 off data cut) s = .next (s.writeReg off.toNat data .lantern) := by
  have hok : (spiReaches off.toNat && !cut) = true := by rw [h, hcut]; rfl
  constructor
  · rw [exec_spiTransaction, if_pos rfl, if_pos hok]
  · rw [exec_spiTransaction, if_neg (by decide), if_pos rfl, if_pos hok]

/-- Any other reads zero and writes nothing. -/
theorem exec_spiTransaction_misses (h : spiReaches off.toNat = false ∨ cut = true) :
    exec (.spiTransaction 0x03 off data cut) s = .next (s.reply (.data [0])) ∧
    exec (.spiTransaction 0x02 off data cut) s = .next s := by
  have hok : ¬(spiReaches off.toNat && !cut) = true := by
    rcases h with h | h
    · rw [h, Bool.false_and]
      exact Bool.false_ne_true
    · rw [h, Bool.not_true, Bool.and_false]
      exact Bool.false_ne_true
  constructor
  · rw [exec_spiTransaction, if_pos rfl, if_neg hok]
  · rw [exec_spiTransaction, if_neg (by decide), if_pos rfl, if_neg hok]

end Spi

theorem exec_registerWrite_msixControl (w : Word) : exec (.registerWrite .msixControl w) s =
    .next { s with host := { s.host with msixEnable := w.getLsbD 15, msixFnMask := w.getLsbD 14 } } := rfl

theorem exec_registerWrite_config (r : CfgReg) (w : Word) : exec (.registerWrite (.config 0 r) w) s = .next (s.cfgWrite r w) :=
  rfl

/-- The Memory Space bit decodes the BARs. -/
theorem State.cfgWrite_command_barsOpen (w : Word) : (s.cfgWrite .command w).barsOpen = (!s.host.d3hot && w.getLsbD 1) := by
  have hbit : (w &&& 0x0546).getLsbD 1 = w.getLsbD 1 := by
    rw [BitVec.getLsbD_and]
    exact Bool.and_true _
  exact congrArg (!s.host.d3hot && ·) hbit

theorem State.cfgWrite_uncStatus (w : Word) :
    (s.cfgWrite .uncStatus w).host.cfg.uncStatus = s.host.cfg.uncStatus &&& ~~~w := rfl

/-- The device has one function: a configuration write to another is unsupported. -/
theorem exec_registerWrite_config_other {fn : Fin 8} (h : fn ≠ 0) (r : CfgReg) (w : Word) : ∃ t,
    exec (.registerWrite (.config fn r) w) s = .next t ∧ t.host.replies = s.host.replies ++ [.unsupported] ∧
    t.host.cfg.uncStatus.getLsbD 20 = true := by
  have haer := s.aer_keeps .unsupported [0x44000001, BitVec.ofNat 32 (Config.freeNat s.freeCtr),
    BitVec.ofNat 32 (Config.freeNat (s.freeCtr + 1)), w]
  refine ⟨_, if_neg h, ?_, ?_⟩
  · rw [State.reply, haer.host]
  · have hreply (u : State) : (u.reply .unsupported).host.cfg = u.host.cfg := rfl
    rw [hreply, haer.status, BitVec.getLsbD_or, Bool.or_eq_true]
    exact .inr rfl

end Registers

end Sys2Proof.Machine

/-! The routers' barriers and stalls (10, R293 to R296), the barrier-release flags (02, R80) and the end of a restore
(06, R183). -/

namespace Sys2Proof.Machine

/-! NOC_APPLY (R294, R295). -/

section Barrier

variable {s : State}

/-- COMPAT as the host names it. -/
def State.compatPut (s : State) (compat : Bool) : State := s.put R.NOC_CTL F.NOC_CTL_COMPAT (natOfBool compat)

/-- A held write of NOC_CREDIT takes effect. -/
def State.creditPut (s : State) : State :=
  match s.noc.heldCredit with
  | some c => s.setReg R.NOC_CREDIT c
  | none => s

/-- The barrier begins. -/
def State.barrierBegun (s : State) : State :=
  { s with noc := { s.noc with heldCredit := none, barrierSince := some s.sched.now } }.raise R.NOC_STATUS F.NOC_STATUS_BARRIER_BUSY

theorem exec_nocApply_busy (h : s.barrierBusy = true) (compat : Bool) : exec (.nocApply compat) s = .next s := by
  rw [show exec (.nocApply compat) s = .next (s.writeNocCtl (BitVec.ofNat 32 (2 + natOfBool compat))) from rfl,
    State.writeNocCtl, if_pos h]

theorem exec_nocApply_idle (h : s.barrierBusy = false) (compat : Bool) :
    exec (.nocApply compat) s = .next (s.compatPut compat).creditPut.barrierBegun := by
  have hcompat : F.NOC_CTL_COMPAT.of (BitVec.ofNat 32 (2 + natOfBool compat)) = natOfBool compat := by decide +revert
  have happly : ¬F.NOC_CTL_APPLY.of (BitVec.ofNat 32 (2 + natOfBool compat)) = 0 := by decide +revert
  rw [show exec (.nocApply compat) s = .next (s.writeNocCtl (BitVec.ofNat 32 (2 + natOfBool compat))) from rfl,
    State.writeNocCtl, if_neg (by rw [h]; exact Bool.false_ne_true), if_neg happly, hcompat]
  rfl

theorem State.creditPut_cases (s : State) : s.creditPut = s ∨ ∃ c, s.creditPut = s.setReg R.NOC_CREDIT c := by
  unfold State.creditPut
  split
  · exact .inr ⟨_, rfl⟩
  · exact .inl rfl

theorem State.creditPut_touch (s : State) : Touch 1 s s.creditPut := by
  rcases s.creditPut_cases with h | ⟨c, h⟩
  · rw [h]
    exact .refl ..
  · rw [h]
    exact s.setReg_touch ..

theorem State.creditPut_writes (s : State) : Writes [R.NOC_CREDIT] s s.creditPut := by
  rcases s.creditPut_cases with h | ⟨c, h⟩
  · rw [h]
    exact .refl
  · rw [h]
    exact .setReg (by decide)

theorem State.creditPut_sched (s : State) : s.creditPut.sched = s.sched := s.creditPut_touch.2.1 .sched rfl

theorem State.barrierBegun_writes (s : State) : Writes [R.NOC_STATUS] s s.barrierBegun := ⟨
  fun h => (State.raise_touch _ _ _).2.2 h, fun h _ ho => (Writes.raise (by decide)).reg h _ ho⟩

/-- NOC_APPLY stores COMPAT and begins a barrier. -/
theorem exec_nocApply_begins (hs : s.canon) (h : s.barrierBusy = false) (compat : Bool) : ∃ t,
    exec (.nocApply compat) s = .next t ∧ t.barrierBusy = true ∧ t.bit R.NOC_CTL F.NOC_CTL_COMPAT = compat ∧
    t.noc.barrierSince = some s.sched.now ∧ t.noc.heldCredit = none := by
  have hput : (s.compatPut compat).canon := (s.put_touch ..).2.2 hs
  have hcredit : (s.compatPut compat).creditPut.canon := (State.creditPut_writes _).canon hput
  refine ⟨_, exec_nocApply_idle h compat, ?_, ?_, ?_, rfl⟩
  · have hbusy : (s.compatPut compat).creditPut.barrierBegun.reg R.NOC_STATUS =
        F.NOC_STATUS_BARRIER_BUSY.put ((s.compatPut compat).creditPut.reg R.NOC_STATUS) (natOfBool true) :=
      State.put_reg_self _ _ _ _ hcredit.1
    exact State.bit_of_put hbusy
  · have hword : (s.compatPut compat).creditPut.barrierBegun.reg R.NOC_CTL =
        F.NOC_CTL_COMPAT.put (s.reg R.NOC_CTL) (natOfBool compat) := by
      rw [(State.barrierBegun_writes _).reg hcredit _ (by decide), (State.creditPut_writes _).reg hput _ (by decide)]
      exact s.put_reg_self _ _ _ hs.1
    exact State.bit_of_put hword
  · exact congrArg (fun x => some x.now) (s.compatPut compat).creditPut_sched

/-! The end of a barrier. -/

/-- COMPAT in force and BUSY cleared. -/
def State.compatForced (s : State) : State :=
  (s.put R.NOC_STATUS F.NOC_STATUS_COMPAT_ACTIVE (s.fld R.NOC_CTL F.NOC_CTL_COMPAT)).put R.NOC_STATUS
    F.NOC_STATUS_BARRIER_BUSY 0

/-- The barrier's end. -/
def State.barrierEnded (s : State) : State :=
  { s.compatForced with noc := { s.noc with
      creditActive := creditsOf (s.compatForced.reg R.NOC_CREDIT), barrierSince := none,
      compatSince := if s.bit R.NOC_STATUS F.NOC_STATUS_COMPAT_ACTIVE then s.noc.compatSince else s.sched.now } }

theorem State.withNoc_reg (s : State) (n : Noc) (o : Nat) : { s with noc := n }.reg o = s.reg o := rfl

theorem State.barrierEnded_reg (s : State) (o : Nat) : s.barrierEnded.reg o = s.compatForced.reg o :=
  s.compatForced.withNoc_reg _ o

theorem State.barrierEnded_noc (s : State) : s.barrierEnded.noc = { s.noc with
    creditActive := creditsOf (s.compatForced.reg R.NOC_CREDIT), barrierSince := none,
    compatSince := if s.bit R.NOC_STATUS F.NOC_STATUS_COMPAT_ACTIVE then s.noc.compatSince else s.sched.now } := rfl

theorem State.compatForced_touch (s : State) : Touch 1 s s.compatForced :=
  (s.put_touch ..).then (State.put_touch ..) rfl

/-- A part that is stored and then restored. -/
theorem State.withNoc_withNoc (s : State) (n : Noc) : { { s with noc := n } with noc := s.noc } = s := rfl

/-- Beside the routers the end of a barrier changes the status alone. -/
theorem State.barrierEnded_withNoc (s : State) : { s.barrierEnded with noc := s.noc } = s.compatForced := by
  have hnoc : s.compatForced.noc = s.noc := s.compatForced_touch.2.1 .noc rfl
  rw [← hnoc]
  exact s.compatForced.withNoc_withNoc s.barrierEnded.noc

theorem exec_routerBarrierEnd_idle (h : s.barrierBusy = false) : exec .routerBarrierEnd s = .next s := by
  rw [show exec .routerBarrierEnd s = execRouterBarrierEnd s from rfl, execRouterBarrierEnd, if_pos h]

theorem exec_routerBarrierEnd_busy (h : s.barrierBusy = true) : exec .routerBarrierEnd s = .next s.barrierEnded := by
  rw [show exec .routerBarrierEnd s = execRouterBarrierEnd s from rfl, execRouterBarrierEnd,
    if_neg (by rw [h]; exact Bool.true_eq_false_eq_False)]
  rfl

theorem State.compatForced_writes (s : State) : Writes [R.NOC_STATUS] s s.compatForced :=
  (Writes.put (by decide)).trans (.put (by decide))

theorem State.compatForced_status (hs : s.canon) : s.compatForced.reg R.NOC_STATUS =
    F.NOC_STATUS_BARRIER_BUSY.put (F.NOC_STATUS_COMPAT_ACTIVE.put (s.reg R.NOC_STATUS)
      (natOfBool (s.bit R.NOC_CTL F.NOC_CTL_COMPAT))) (natOfBool false) := by
  have hbit : s.fld R.NOC_CTL F.NOC_CTL_COMPAT = natOfBool (s.bit R.NOC_CTL F.NOC_CTL_COMPAT) := by
    have hlt : s.fld R.NOC_CTL F.NOC_CTL_COMPAT < 2 := Field.of_lt _ _
    rw [State.bit]
    generalize s.fld R.NOC_CTL F.NOC_CTL_COMPAT = n at hlt ⊢
    decide +revert
  have hfirst : (s.put R.NOC_STATUS F.NOC_STATUS_COMPAT_ACTIVE (s.fld R.NOC_CTL F.NOC_CTL_COMPAT)).canon :=
    (s.put_touch ..).2.2 hs
  rw [State.compatForced, State.put_reg_self _ _ _ _ hfirst.1, State.put_reg_self _ _ _ _ hs.1, hbit]
  rfl

/-- The end puts COMPAT and the credits in force. -/
theorem exec_routerBarrierEnd_ends (hs : s.canon) (h : s.barrierBusy = true) : ∃ t,
    exec .routerBarrierEnd s = .next t ∧ t.barrierBusy = false ∧
    t.bit R.NOC_STATUS F.NOC_STATUS_COMPAT_ACTIVE = s.bit R.NOC_CTL F.NOC_CTL_COMPAT ∧
    t.noc = { s.noc with creditActive := t.noc.creditActive, barrierSince := none, compatSince := t.noc.compatSince } ∧
    t.noc.creditActive = creditsOf (s.reg R.NOC_CREDIT) ∧
    t.noc.compatSince = (if s.bit R.NOC_STATUS F.NOC_STATUS_COMPAT_ACTIVE then s.noc.compatSince else s.sched.now) ∧
    RegsBut [R.NOC_STATUS] s { t with noc := s.noc } := by
  have hstatus := (s.barrierEnded_reg R.NOC_STATUS).trans (State.compatForced_status hs)
  refine ⟨s.barrierEnded, exec_routerBarrierEnd_busy h, ?_, ?_, ?_, ?_, ?_, ?_⟩
  · rw [State.barrierBusy, State.bit, State.fld, hstatus, Field.of_put _ _ _ (by decide) (by decide)]
    rfl
  · rw [State.bit, State.fld, hstatus, Field.of_put_above _ _ _ _ (by decide) (by decide) (by decide),
      Field.of_put _ _ _ (by decide) (by decide)]
    cases s.bit R.NOC_CTL F.NOC_CTL_COMPAT <;> rfl
  · rw [s.barrierEnded_noc]
  · rw [s.barrierEnded_noc, s.compatForced_writes.reg hs R.NOC_CREDIT (by decide)]
  · rw [s.barrierEnded_noc]
  · rw [s.barrierEnded_withNoc]
    exact .of_reg (s.compatForced_writes.reg hs) s.compatForced_touch

/-! Slow barriers and stalled responses (R293, R295). -/

theorem exec_nocBarrierSlow_none (h : s.noc.barrierSince = none) (node : BitVec 8) :
    exec (.nocBarrierSlow node) s = .next s := by
  rw [show exec (.nocBarrierSlow node) s = execNocBarrierSlow node s from rfl, execNocBarrierSlow, h]

/-- A node of a barrier older than the limit records BARRIER_SLOW. -/
theorem exec_nocBarrierSlow_late (hs : s.canon) {t0 : Nat} (h : s.noc.barrierSince = some t0)
    (hlate : t0 + max 0x400 (s.reg R.NOC_BARRIER_LIMIT).toNat ≤ s.sched.now) (node : BitVec 8) : ∃ t,
    exec (.nocBarrierSlow node) s = .next t ∧ (t.reg R.NOC_ERR).getLsbD 1 = true ∧ t.noc = s.noc := by
  have hexec : exec (.nocBarrierSlow node) s = .next (s.used.recordNoc 1 node.toNat (s.freeVal 8)) := by
    rw [show exec (.nocBarrierSlow node) s = execNocBarrierSlow node s from rfl, execNocBarrierSlow, h]
    exact if_neg (Nat.not_lt.2 hlate)
  exact ⟨_, hexec, State.getLsbD_recordNoc ((State.used_touch s).2.2 hs) (by decide) _ _,
    (State.recordNoc_touch ..).2.1 .noc rfl⟩

theorem exec_nocRspStall (s : State) (src : BitVec 8) : exec (.nocRspStall src) s =
    if s.bit R.NOC_STATUS F.NOC_STATUS_COMPAT_ACTIVE = true ∧ s.noc.compatSince + (s.reg R.NOC_STALL_LIMIT).toNat ≤ s.sched.now
    then .next (s.recordNoc 0 0x05 src.toNat) else .next s := rfl

/-- A response stalled past its limit in compatibility mode records its condition. -/
theorem exec_nocRspStall_late (hs : s.canon) (hcompat : s.bit R.NOC_STATUS F.NOC_STATUS_COMPAT_ACTIVE = true)
    (hlate : s.noc.compatSince + (s.reg R.NOC_STALL_LIMIT).toNat ≤ s.sched.now) (src : BitVec 8) : ∃ t,
    exec (.nocRspStall src) s = .next t ∧ (t.reg R.NOC_ERR).getLsbD 0 = true ∧ t.noc = s.noc := by
  rw [exec_nocRspStall, if_pos ⟨hcompat, hlate⟩]
  exact ⟨_, rfl, State.getLsbD_recordNoc hs (by decide) _ _, (s.recordNoc_touch ..).2.1 .noc rfl⟩

theorem exec_nocRspStall_none (h : s.bit R.NOC_STATUS F.NOC_STATUS_COMPAT_ACTIVE = false ∨
    s.sched.now < s.noc.compatSince + (s.reg R.NOC_STALL_LIMIT).toNat) (src : BitVec 8) :
    exec (.nocRspStall src) s = .next s := by
  rw [exec_nocRspStall, if_neg]
  rintro ⟨hcompat, hlate⟩
  rcases h with h | h
  · exact Bool.false_ne_true (h.symm.trans hcompat)
  · exact Nat.not_lt.2 hlate h

end Barrier

/-! The barrier-release flags (R80). -/

section Flags

variable {s : State}

/-- The flags that a write names. -/
def namedFlags (flags : BitVec 16) : List Nat := (List.range 16).filter (fun n => flags.getLsbD n)

/-- Those of them that are clear. -/
def State.newFlags (s : State) (flags : BitVec 16) : List Nat :=
  (namedFlags flags).filter (fun n => s.fld R.SCHED_BARRIER_RELEASE ⟨n, n⟩ == 0)

/-- The times of the flags. -/
def State.stampFlags (s : State) (flags : BitVec 16) : State :=
  { s with sched := { s.sched with
    flagsAt := NMap.setAll dZero s.sched.flagsAt ((s.newFlags flags).map (fun n => (n, s.sched.now))),
    flagsSet := NMap.setAll dZero s.sched.flagsSet ((namedFlags flags).map (fun n => (n, s.sched.now + 1))) } }

/-- The flags set, in order. -/
def State.setFlags (s : State) (ns : List Nat) : State := ns.foldl (fun s n => s.put R.SCHED_BARRIER_RELEASE ⟨n, n⟩ 1) s

theorem exec_schedBarrierReleaseWrite (s : State) (flags : BitVec 16) :
    exec (.schedBarrierReleaseWrite flags) s = .next ((s.stampFlags flags).setFlags (s.newFlags flags)) := rfl

theorem State.setFlags_touch (s : State) (ns : List Nat) : Touch 1 s (s.setFlags ns) :=
  Touch.foldl (fun t n => t.put_touch R.SCHED_BARRIER_RELEASE ⟨n, n⟩ 1) ns s

theorem State.setFlags_writes (s : State) (ns : List Nat) : Writes [R.SCHED_BARRIER_RELEASE] s (s.setFlags ns) := by
  induction ns generalizing s with
  | nil => exact .refl
  | cons n ns ih => exact (Writes.put (by decide)).trans (ih _)

/-- The times stand apart from the flags. -/
theorem State.setFlags_withSched (s : State) (x : Sched) (ns : List Nat) :
    ({ s with sched := x } : State).setFlags ns = { s.setFlags ns with sched := x } := by
  induction ns generalizing s with
  | nil => rfl
  | cons n ns ih => exact ih (s.put R.SCHED_BARRIER_RELEASE ⟨n, n⟩ 1)

/-- Beside the times the write sets the flags alone. -/
theorem State.setFlags_stampFlags_withSched (s : State) (flags : BitVec 16) (ns : List Nat) :
    { (s.stampFlags flags).setFlags ns with sched := s.sched } = s.setFlags ns := by
  rw [← State.setFlags_withSched]
  rfl

/-- The flags in the list are set, the others as before. -/
theorem State.getLsbD_setFlags {ns : List Nat} (hns : ∀ n ∈ ns, n < 32) (hs : s.canon) (k : Nat) :
    ((s.setFlags ns).reg R.SCHED_BARRIER_RELEASE).getLsbD k =
      ((s.reg R.SCHED_BARRIER_RELEASE).getLsbD k || decide (k ∈ ns)) := by
  induction ns generalizing s with
  | nil => simp [State.setFlags]
  | cons n ns ih =>
    obtain ⟨hn, hrest⟩ := List.forall_mem_cons.1 hns
    have hput : ((s.put R.SCHED_BARRIER_RELEASE ⟨n, n⟩ 1).reg R.SCHED_BARRIER_RELEASE).getLsbD k =
        if k = n then true else (s.reg R.SCHED_BARRIER_RELEASE).getLsbD k := by
      rw [s.put_reg_self _ _ _ hs.1]
      exact Word.getLsbD_put_bit _ hn k true
    have hstep : (s.setFlags (n :: ns)) = (s.put R.SCHED_BARRIER_RELEASE ⟨n, n⟩ 1).setFlags ns := rfl
    rw [hstep, ih hrest ((s.put_touch ..).2.2 hs), hput]
    by_cases hk : k = n
    · simp [hk]
    · simp [hk]

/-- A flag is clear when its bit is 0. -/
theorem State.mem_newFlags {flags : BitVec 16} {n : Nat} (hn : n < 16) : n ∈ s.newFlags flags ↔
    flags.getLsbD n = true ∧ (s.reg R.SCHED_BARRIER_RELEASE).getLsbD n = false := by
  have hlt : s.fld R.SCHED_BARRIER_RELEASE ⟨n, n⟩ < 2 := by
    have h : s.fld R.SCHED_BARRIER_RELEASE ⟨n, n⟩ < Field.size ⟨n, n⟩ := Field.of_lt _ _
    simpa [Field.size] using h
  have hbit : (s.reg R.SCHED_BARRIER_RELEASE).getLsbD n = decide (s.fld R.SCHED_BARRIER_RELEASE ⟨n, n⟩ = 1) :=
    Word.getLsbD_eq_of _ _
  have hclear : s.fld R.SCHED_BARRIER_RELEASE ⟨n, n⟩ = 0 ↔ ¬s.fld R.SCHED_BARRIER_RELEASE ⟨n, n⟩ = 1 := by omega
  rw [State.newFlags, namedFlags, List.mem_filter, List.mem_filter, List.mem_range, hbit, beq_iff_eq,
    decide_eq_false_iff_not, hclear, and_iff_right hn]

/-- A write of the flags sets those it names and keeps the others. -/
theorem exec_schedBarrierReleaseWrite_sets (hs : s.canon) (flags : BitVec 16) : ∃ t,
    exec (.schedBarrierReleaseWrite flags) s = .next t ∧
    (∀ n, n < 16 → (t.reg R.SCHED_BARRIER_RELEASE).getLsbD n =
      ((s.reg R.SCHED_BARRIER_RELEASE).getLsbD n || flags.getLsbD n)) ∧
    RegsBut [R.SCHED_BARRIER_RELEASE] s { t with sched := s.sched } := by
  have hcanon : (s.stampFlags flags).canon := hs
  have hnew : ∀ n ∈ s.newFlags flags, n < 32 := fun n hn => by
    have := List.mem_range.1 (List.mem_filter.1 (List.mem_filter.1 hn).1).1
    omega
  refine ⟨_, exec_schedBarrierReleaseWrite s flags, fun n hn => ?_, ?_⟩
  · rw [State.getLsbD_setFlags hnew hcanon]
    have hreg : (s.stampFlags flags).reg R.SCHED_BARRIER_RELEASE = s.reg R.SCHED_BARRIER_RELEASE := rfl
    rw [hreg, Bool.eq_iff_iff, Bool.or_eq_true, Bool.or_eq_true, decide_eq_true_iff, State.mem_newFlags hn]
    cases (s.reg R.SCHED_BARRIER_RELEASE).getLsbD n <;> simp
  · rw [State.setFlags_stampFlags_withSched]
    exact .of_reg ((s.setFlags_writes _).reg hs) (s.setFlags_touch _)

end Flags

/-! The end of a restore (R183). -/

section Restore

variable {s : State}

/-- A command that completes is outstanding no more. -/
theorem State.isOut_complete (s : State) (c : CmdId) (status : Nat) (r0 r1 : Dword) (reason : Nat) :
    (s.complete c status r0 r1 reason).isOut c = false := by
  have hdropped (l : List (CmdId × Nat)) : (l.filter (fun p => p.1 != c)).any (fun p => p.1 == c) = false := by
    simp
  unfold State.complete
  dsimp only
  by_cases hout : s.isOut c = false
  · rw [if_pos hout]
    exact hout
  · rw [if_neg hout]
    cases c.origin with
    | some d => exact hdropped _
    | none =>
      dsimp only
      split <;> exact hdropped _

/-- The restore's engine is free. -/
def State.restoreFreed (s : State) : State :=
  { s with sched := { s.sched with
    engine := false, restoreBusy := false, restoreCmd := none, restoreResume := false,
    resume := s.sched.resume || (s.sched.restoreResume && !s.inLattice) } }

theorem exec_restoreEnd_idle (h : s.sched.restoreBusy = false) : exec .restoreEnd s = .next s := by
  rw [show exec .restoreEnd s = execRestoreEnd s from rfl, execRestoreEnd, if_pos h]

theorem exec_restoreEnd_busy (h : s.sched.restoreBusy = true) : exec .restoreEnd s =
    .next (s.completeOpt s.sched.restoreCmd 0 (BitVec.ofNat 64 s.sched.nextTick.toNat)).restoreFreed.afterBoundary := by
  rw [show exec .restoreEnd s = execRestoreEnd s from rfl, execRestoreEnd,
    if_neg (by rw [h]; exact Bool.true_eq_false_eq_False)]
  rfl

/-- The end completes the command and frees the boundary engine. -/
theorem exec_restoreEnd_ends (h : s.sched.restoreBusy = true) : ∃ t : State,
    exec .restoreEnd s = .next t.afterBoundary ∧ t.sched.restoreBusy = false ∧ t.sched.engine = false ∧
    t.sched.restoreCmd = none ∧ ∀ c, s.sched.restoreCmd = some c → t.isOut c = false := by
  refine ⟨_, exec_restoreEnd_busy h, rfl, rfl, rfl, fun c hc => ?_⟩
  rw [hc]
  exact s.isOut_complete c 0 _ 0 0

end Restore

end Sys2Proof.Machine

/-! The host's windows and messages, the routers' barriers, and the end of a restore, together. -/

namespace Sys2Proof.Machine

/-- Settles O59: each clause by the lemma about its command. -/
theorem windowsMessagesAndBarriers : Obligations.WindowsMessagesAndBarriers := by
  unfold Obligations.WindowsMessagesAndBarriers
  refine ⟨fun s hs => ⟨fun hopen hbase hwait => ?_, fun hclosed => ?_, ?_, ?_, exec_msixSend, exec_d3hotExit,
    fun addr => ⟨exec_nocRspTimeout_some hs, exec_nocRspTimeout_none⟩, fun off data cut => ?_,
    exec_registerWrite_msixControl, fun o _ => exec_registerWrite_bar0 o, fun r w => ?_⟩, fun s hs => ?_⟩
  · have hready : s.HostReady := ⟨hopen, hbase, hwait⟩
    exact ⟨fun _ => exec_bar2BaseWrite_open hs hready, fun a _ => exec_bar4SelWrite_open hs hready a,
      fun _ => exec_tbLockThreshWrite_open hs hready⟩
  · exact ⟨fun _ => exec_bar2BaseWrite_closed hs hclosed, fun a _ => exec_bar4SelWrite_closed hs hclosed a⟩
  · exact fun g r => exec_netStoreServe_read
  · exact fun g r bs => exec_netStoreServe_write hs
  · exact ⟨fun cmd hread hwrite => exec_spiTransaction_other hread hwrite off data cut, exec_spiTransaction_reaches,
      exec_spiTransaction_misses⟩
  · exact ⟨exec_registerWrite_config r w, s.cfgWrite_command_barsOpen w, s.cfgWrite_uncStatus w,
      fun fn hfn => exec_registerWrite_config_other hfn r w⟩
  · exact ⟨fun compat => ⟨fun h => exec_nocApply_busy h compat, fun h => exec_nocApply_begins hs h compat⟩,
      exec_routerBarrierEnd_ends hs, exec_routerBarrierEnd_idle,
      fun node => ⟨fun _ h hlate => exec_nocBarrierSlow_late hs h hlate node, fun h => exec_nocBarrierSlow_none h node⟩,
      fun src => ⟨fun hcompat hlate => exec_nocRspStall_late hs hcompat hlate src, fun h => exec_nocRspStall_none h src⟩,
      exec_schedBarrierReleaseWrite_sets hs, exec_restoreEnd_ends, exec_restoreEnd_idle⟩

end Sys2Proof.Machine

/-! Every step keeps registers and memories in canonical form (R11, R95, R114). -/

namespace Sys2Proof.Machine

/-- What each command may change, as the mask of its operation: registers and memories stay canonical in it. -/
theorem exec_touch (c : Instr) (s : State) : ∃ m, OutTouch m s (exec c s) := by
  cases c with
  | tick => exact ⟨_, execTick_touch s⟩
  | stepIssue => exact ⟨_, execStepIssue_touch s⟩
  | nop b m => exact ⟨_, execNop_touch b m s⟩
  | eval b fn x y z u m => exact ⟨_, execEval_touch b fn x y z u m s⟩
  | evalx b fn x y z u m => exact ⟨_, execEvalx_touch b fn x y z u m s⟩
  | resolve b start pull act x y drv1 m => exact ⟨_, execResolve_touch b start pull act x y drv1 m s⟩
  | maddr b fn x y z u m => exact ⟨_, execMaddr_touch b fn x y z u m s⟩
  | mwdat b fn x y z u m => exact ⟨_, execMwdat_touch b fn x y z u m s⟩
  | mrd b en m => exact ⟨_, execMrd_touch b en m s⟩
  | mwr b mask en m => exact ⟨_, execMwr_touch b mask en m s⟩
  | matom b swap en m => exact ⟨_, execMatom_touch b swap en m s⟩
  | mdeeprd b en m => exact ⟨_, execMdeeprd_touch b en m s⟩
  | mdeepwr b mask en m => exact ⟨_, execMdeepwr_touch b mask en m s⟩
  | deepWriteAccept c => exact ⟨_, execDeepWriteAccept_touch c s⟩
  | pinin b pin m => exact ⟨_, execPinin_touch b pin m s⟩
  | pinout b pin x m => exact ⟨_, execPinout_touch b pin x m s⟩
  | assert b act x m => exact ⟨_, execAssert_touch b act x m s⟩
  | trig b leaf x m => exact ⟨_, execTrig_touch b leaf x m s⟩
  | sync b bar m => exact ⟨_, execSync_touch b bar m s⟩
  | const b sel m => exact ⟨_, execConst_touch b sel m s⟩
  | arrival b port step x => exact ⟨_, execArrival_touch b port step x s⟩
  | holdLimit => exact ⟨_, execHoldLimit_touch s⟩
  | turnover => exact ⟨_, execTurnover_touch s⟩
  | echoRecordClose => exact ⟨_, execEchoRecordClose_touch s⟩
  | echoRecordWritten => exact ⟨_, execEchoRecordWritten_touch s⟩
  | generationFlip => exact ⟨_, execGenerationFlip_touch s⟩
  | overrun => exact ⟨_, execOverrun_touch s⟩
  | haltAtBoundary => exact ⟨_, execHaltAtBoundary_touch s⟩
  | contextSwitch => exact ⟨_, execContextSwitch_touch s⟩
  | tickConfigApply => exact ⟨_, execTickConfigApply_touch s⟩
  | sequencerStageComplete => exact ⟨_, execSequencerStageComplete_touch s⟩
  | windowDone => exact ⟨_, execWindowDone_touch s⟩
  | forceApply => exact ⟨_, execForceApply_touch s⟩
  | releaseApply => exact ⟨_, execReleaseApply_touch s⟩
  | snapshotTake => exact ⟨_, execSnapshotTake_touch s⟩
  | snapshotShadowEnd => exact ⟨_, execSnapshotShadowEnd_touch s⟩
  | snapshotCopyEnd => exact ⟨_, execSnapshotCopyEnd_touch s⟩
  | snapDone => exact ⟨_, execSnapDone_touch s⟩
  | snapshotAbort => exact ⟨_, execSnapshotAbort_touch s⟩
  | restoreApply => exact ⟨_, execRestoreApply_touch s⟩
  | pinWordSend retries => exact ⟨_, execPinWordSend_touch retries s⟩
  | pinWordApply late => exact ⟨_, execPinWordApply_touch late s⟩
  | tickStrobe => exact ⟨_, execTickStrobe_touch s⟩
  | inputWordSample => exact ⟨_, execInputWordSample_touch s⟩
  | inputWordComplete dropped => exact ⟨_, execInputWordComplete_touch dropped s⟩
  | wireContention b w => exact ⟨_, execWireContention_touch b w s⟩
  | scrubPass x => exact ⟨_, execScrubPass_touch x s⟩
  | scrubStall => exact ⟨_, execScrubStall_touch s⟩
  | oscLock k => exact ⟨_, execOscLock_touch k s⟩
  | fabricFlashRead => exact ⟨_, execFabricFlashRead_touch s⟩
  | flashDataValid => exact ⟨_, execFlashDataValid_touch s⟩
  | uflProgram => exact ⟨_, execUflProgram_touch s⟩
  | uflErase => exact ⟨_, execUflErase_touch s⟩
  | uflOpEnd => exact ⟨_, execUflOpEnd_touch s⟩
  | spDataWrite p b => exact ⟨_, execSpDataWrite_touch p b s⟩
  | spDataRead p => exact ⟨_, execSpDataRead_touch p s⟩
  | serialByteReceive p b => exact ⟨_, execSerialByteReceive_touch p b s⟩
  | swReset r v => exact ⟨_, execSwReset_touch r v s⟩
  | imageStage h src len b14 s14 b15 s15 => exact ⟨_, execImageStage_touch h src len b14 s14 b15 s15 s⟩
  | headerArrival bs => exact ⟨_, execHeaderArrival_touch bs s⟩
  | stageSpaceCheck bs => exact ⟨_, execStageSpaceCheck_touch bs s⟩
  | stageEnd bs => exact ⟨_, execStageEnd_touch bs s⟩
  | stageTimeout => exact ⟨_, execStageTimeout_touch s⟩
  | imageBurst p off bs => exact ⟨_, execImageBurst_touch p off bs s⟩
  | imageVerify h => exact ⟨_, execImageVerify_touch h s⟩
  | verifyEnd golden => exact ⟨_, execVerifyEnd_touch golden s⟩
  | chainResult pos reason loc => exact ⟨_, execChainResult_touch pos reason loc s⟩
  | chainTimeout => exact ⟨_, execChainTimeout_touch s⟩
  | imageCommit h resume => exact ⟨_, execImageCommit_touch h resume s⟩
  | latticeCommit h resume => exact ⟨_, execLatticeCommit_touch h resume s⟩
  | commitApply => exact ⟨_, execCommitApply_touch s⟩
  | commitEnd => exact ⟨_, execCommitEnd_touch s⟩
  | commitAt p origin t digest resume => exact ⟨_, execCommitAt_touch p origin t digest resume s⟩
  | commitReport pos reason => exact ⟨_, execCommitReport_touch pos reason s⟩
  | regionReload h join => exact ⟨_, execRegionReload_touch h join s⟩
  | reloadIsolate => exact ⟨_, execReloadIsolate_touch s⟩
  | reloadWriteEnd => exact ⟨_, execReloadWriteEnd_touch s⟩
  | regionJoin => exact ⟨_, execRegionJoin_touch s⟩
  | mbxSqTailWrite q v => exact ⟨_, execMbxSqTailWrite_touch q v s⟩
  | mbxCqHeadWrite q v => exact ⟨_, execMbxCqHeadWrite_touch q v s⟩
  | queueEnable q size vector => exact ⟨_, execQueueEnable_touch q size vector s⟩
  | queueDisable q size vector => exact ⟨_, execQueueDisable_touch q size vector s⟩
  | commandFetch q e => exact ⟨_, execCommandFetch_touch q e s⟩
  | progressEntry h done total => exact ⟨_, execProgressEntry_touch h done total s⟩
  | cmdDeadline q => exact ⟨_, execCmdDeadline_touch q s⟩
  | coreFault k => exact ⟨_, execCoreFault_touch k s⟩
  | remoteCommand h e bytes fault ans back => exact ⟨_, execRemoteCommand_touch h e bytes fault ans back s⟩
  | getInfo h buf => exact ⟨_, execGetInfo_touch h buf s⟩
  | getReady h mask ms => exact ⟨_, execGetReady_touch h mask ms s⟩
  | getReadyComplete => exact ⟨_, execGetReadyComplete_touch s⟩
  | getReadyTimeout => exact ⟨_, execGetReadyTimeout_touch s⟩
  | run h => exact ⟨_, execRun_touch h s⟩
  | halt h cancel => exact ⟨_, execHalt_touch h cancel s⟩
  | step h cycles => exact ⟨_, execStep_touch h cycles s⟩
  | setTick h mode policy realign source ns frac => exact ⟨_, execSetTick_touch h mode policy realign source ns frac s⟩
  | selectContext h ctx => exact ⟨_, execSelectContext_touch h ctx s⟩
  | force h n => exact ⟨_, execForce_touch h n s⟩
  | release h n => exact ⟨_, execRelease_touch h n s⟩
  | deposit h n => exact ⟨_, execDeposit_touch h n s⟩
  | stateDeposit h n => exact ⟨_, execStateDeposit_touch h n s⟩
  | peek h n buf => exact ⟨_, execPeek_touch h n buf s⟩
  | memRead h space addr buf => exact ⟨_, execMemRead_touch h space addr buf s⟩
  | memWrite h space addr buf => exact ⟨_, execMemWrite_touch h space addr buf s⟩
  | memAtomic h space addr op d => exact ⟨_, execMemAtomic_touch h space addr op d s⟩
  | echoArm h buf => exact ⟨_, execEchoArm_touch h buf s⟩
  | echoArmApply => exact ⟨_, execEchoArmApply_touch s⟩
  | echoDisarm h => exact ⟨_, execEchoDisarm_touch h s⟩
  | echoRead h off consume buf => exact ⟨_, execEchoRead_touch h off consume buf s⟩
  | echoTrigger h fire => exact ⟨_, execEchoTrigger_touch h fire s⟩
  | snapshot h slot => exact ⟨_, execSnapshot_touch h slot s⟩
  | restore h addr resume => exact ⟨_, execRestore_touch h addr resume s⟩
  | latticeTrain h ports width => exact ⟨_, execLatticeTrain_touch h ports width s⟩
  | latticeMap h buf => exact ⟨_, execLatticeMap_touch h buf s⟩
  | runFrom h => exact ⟨_, execRunFrom_touch h s⟩
  | haltBefore h => exact ⟨_, execHaltBefore_touch h s⟩
  | barrierReport dev reason => exact ⟨_, execBarrierReport_touch dev reason s⟩
  | fwUpdate h slot flags buf readBack => exact ⟨_, execFwUpdate_touch h slot flags buf readBack s⟩
  | attest h nonce buf => exact ⟨_, execAttest_touch h nonce buf s⟩
  | logRead h start count buf => exact ⟨_, execLogRead_touch h start count buf s⟩
  | injectStatus h det unit => exact ⟨_, execInjectStatus_touch h det unit s⟩
  | injectFault h det unit => exact ⟨_, execInjectFault_touch h det unit s⟩
  | fuseSvn h index buf => exact ⟨_, execFuseSvn_touch h index buf s⟩
  | ownerProgram h index buf => exact ⟨_, execOwnerProgram_touch h index buf s⟩
  | ownerRevoke h index buf => exact ⟨_, execOwnerRevoke_touch h index buf s⟩
  | bedrockSelect h index buf => exact ⟨_, execBedrockSelect_touch h index buf s⟩
  | laneReversal h index buf => exact ⟨_, execLaneReversal_touch h index buf s⟩
  | debugLock h index buf => exact ⟨_, execDebugLock_touch h index buf s⟩
  | storeKek h index buf => exact ⟨_, execStoreKek_touch h index buf s⟩
  | powerOn vbat => exact ⟨_, execPowerOn_touch vbat s⟩
  | deviceReset cause => exact ⟨_, execDeviceReset_touch cause s⟩
  | hostReset cause => exact ⟨_, execHostReset_touch cause s⟩
  | perstDeassert => exact ⟨_, execPerstDeassert_touch s⟩
  | lntPgoodRise => exact ⟨_, execLntPgoodRise_touch s⟩
  | d2dTrain ok => exact ⟨_, execD2dTrain_touch ok s⟩
  | dsClear n => exact ⟨_, execDsClear_touch n s⟩
  | startupMarchEnd g found => exact ⟨_, execStartupMarchEnd_touch g found s⟩
  | marchStart g w => exact ⟨_, execMarchStart_touch g w s⟩
  | marchEnd g found => exact ⟨_, execMarchEnd_touch g found s⟩
  | bankRequest g word ops posted => exact ⟨_, execBankRequest_touch g word ops posted s⟩
  | bankAtomic g word swap d => exact ⟨_, execBankAtomic_touch g word swap d s⟩
  | bankServe c => exact ⟨_, execBankServe_touch c s⟩
  | stealTimeout g => exact ⟨_, execStealTimeout_touch g s⟩
  | dripScrub t endOfPass => exact ⟨_, execDripScrub_touch t endOfPass s⟩
  | dripWriteBack t => exact ⟨_, execDripWriteBack_touch t s⟩
  | dsBurst block write waiting crcFails => exact ⟨_, execDsBurst_touch block write waiting crcFails s⟩
  | psgTrain p w => exact ⟨_, execPsgTrain_touch p w s⟩
  | psgDown p w => exact ⟨_, execPsgDown_touch p w s⟩
  | laneEqualised p k => exact ⟨_, execLaneEqualised_touch p k s⟩
  | blockLock p => exact ⟨_, execBlockLock_touch p s⟩
  | latencyMeasured p dmax mean rtt => exact ⟨_, execLatencyMeasured_touch p dmax mean rtt s⟩
  | portTrained p => exact ⟨_, execPortTrained_touch p s⟩
  | trainingFail p => exact ⟨_, execTrainingFail_touch p s⟩
  | laneFail p k => exact ⟨_, execLaneFail_touch p k s⟩
  | blockReceive p b => exact ⟨_, execBlockReceive_touch p b s⟩
  | retryTimeout p => exact ⟨_, execRetryTimeout_touch p s⟩
  | slotFlit p ctx tag flit vals close => exact ⟨_, execSlotFlit_touch p ctx tag flit vals close s⟩
  | linkTimeout p flit close => exact ⟨_, execLinkTimeout_touch p flit close s⟩
  | decisionPoint => exact ⟨_, execDecisionPoint_touch s⟩
  | latticeDone p tick => exact ⟨_, execLatticeDone_touch p tick s⟩
  | latticeHold p origin tick time halt => exact ⟨_, execLatticeHold_touch p origin tick time halt s⟩
  | latticeRelease p origin tick time => exact ⟨_, execLatticeRelease_touch p origin tick time s⟩
  | latticeFault p origin tick time => exact ⟨_, execLatticeFault_touch p origin tick time s⟩
  | latticeCredit p w => exact ⟨_, execLatticeCredit_touch p w s⟩
  | latticeIdent p x own => exact ⟨_, execLatticeIdent_touch p x own s⟩
  | barrierTimeout => exact ⟨_, execBarrierTimeout_touch s⟩
  | nocTunnelPacket port ttl p => exact ⟨_, execNocTunnelPacket_touch port ttl p s⟩
  | timeFlitSend => exact ⟨_, execTimeFlitSend_touch s⟩
  | timeFlit p f resid => exact ⟨_, execTimeFlit_touch p f resid s⟩
  | ptmDialog master delay => exact ⟨_, execPtmDialog_touch master delay s⟩
  | holdover => exact ⟨_, execHoldover_touch s⟩
  | dtcWrap => exact ⟨_, execDtcWrap_touch s⟩
  | tbNowNsRead => exact ⟨_, execTbNowNsRead_touch s⟩
  | tbIncrWrite by' w => exact ⟨_, execTbIncrWrite_touch by' w s⟩
  | tbStepWrite by' w => exact ⟨_, execTbStepWrite_touch by' w s⟩
  | tbSlewWrite by' w => exact ⟨_, execTbSlewWrite_touch by' w s⟩
  | slewEnd => exact ⟨_, execSlewEnd_touch s⟩
  | tbCfgWrite w => exact ⟨_, execTbCfgWrite_touch w s⟩
  | tcForward e m resid => exact ⟨_, execTcForward_touch e m resid s⟩
  | ptpMessage e m sample => exact ⟨_, execPtpMessage_touch e m sample s⟩
  | ethLinkChange e up => exact ⟨_, execEthLinkChange_touch e up s⟩
  | nocPacket p => exact ⟨_, execNocPacket_touch p s⟩
  | nocApply compat => exact ⟨_, execNocApply_touch compat s⟩
  | routerBarrierEnd => exact ⟨_, execRouterBarrierEnd_touch s⟩
  | nocBarrierSlow node => exact ⟨_, execNocBarrierSlow_touch node s⟩
  | nocRspStall src => exact ⟨_, execNocRspStall_touch src s⟩
  | nocRspTimeout addr => exact ⟨_, execNocRspTimeout_touch addr s⟩
  | bar0Access addr op st => exact ⟨_, execBar0Access_touch addr op st s⟩
  | bar2Access addr op st => exact ⟨_, execBar2Access_touch addr op st s⟩
  | bar2BaseWrite w => exact ⟨_, execBar2BaseWrite_touch w s⟩
  | bar4Access addr op st => exact ⟨_, execBar4Access_touch addr op st s⟩
  | netStoreServe g => exact ⟨_, execNetStoreServe_touch g s⟩
  | bar4SelWrite a w => exact ⟨_, execBar4SelWrite_touch a w s⟩
  | msixSend v => exact ⟨_, execMsixSend_touch v s⟩
  | d3hotEntry => exact ⟨_, execD3hotEntry_touch s⟩
  | pcieLinkUp width rate partnerReversed => exact ⟨_, execPcieLinkUp_touch width rate partnerReversed s⟩
  | kick n => exact ⟨_, execKick_touch n s⟩
  | dmaHalt n => exact ⟨_, execDmaHalt_touch n s⟩
  | abort n => exact ⟨_, execAbort_touch n s⟩
  | dmaResume n => exact ⟨_, execDmaResume_touch n s⟩
  | channelEnable n w => exact ⟨_, execChannelEnable_touch n w s⟩
  | dmaHeadWrite n idx => exact ⟨_, execDmaHeadWrite_touch n idx s⟩
  | descriptorFetch n r => exact ⟨_, execDescriptorFetch_touch n r s⟩
  | descriptorStart n w => exact ⟨_, execDescriptorStart_touch n w s⟩
  | dmaReadCompletion n off r => exact ⟨_, execDmaReadCompletion_touch n off r s⟩
  | dmaWriteResponse n off st => exact ⟨_, execDmaWriteResponse_touch n off st s⟩
  | readBack n st w => exact ⟨_, execReadBack_touch n st w s⟩
  | channelHalt n w => exact ⟨_, execChannelHalt_touch n w s⟩
  | sourceEvent n level => exact ⟨_, execSourceEvent_touch n level s⟩
  | cicClaim ts => exact ⟨_, execCicClaim_touch ts s⟩
  | hostForward => exact ⟨_, execHostForward_touch s⟩
  | cicComplete t id host => exact ⟨_, execCicComplete_touch t id host s⟩
  | cicSwSet k w => exact ⟨_, execCicSwSet_touch k w s⟩
  | cicSrcWrite n w => exact ⟨_, execCicSrcWrite_touch n w s⟩
  | wardenSourcePend g idx => exact ⟨_, execWardenSourcePend_touch g idx s⟩
  | normalEntry g => exact ⟨_, execNormalEntry_touch g s⟩
  | fastEntry g => exact ⟨_, execFastEntry_touch g s⟩
  | normalExit g => exact ⟨_, execNormalExit_touch g s⟩
  | fastExit g => exact ⟨_, execFastExit_touch g s⟩
  | wardenTimer g => exact ⟨_, execWardenTimer_touch g s⟩
  | softSet g w => exact ⟨_, execSoftSet_touch g w s⟩
  | galleryPowerRequest k w => exact ⟨_, execGalleryPowerRequest_touch k w s⟩
  | galleryIdle g => exact ⟨_, execGalleryIdle_touch g s⟩
  | galleryOn g => exact ⟨_, execGalleryOn_touch g s⟩
  | galleryPowerDown g => exact ⟨_, execGalleryPowerDown_touch g s⟩
  | galleryWake g => exact ⟨_, execGalleryWake_touch g s⟩
  | wakeClearEnd g found => exact ⟨_, execWakeClearEnd_touch g found s⟩
  | bootRom => exact ⟨_, execBootRom_touch s⟩
  | watchdogExpiry => exact ⟨_, execWatchdogExpiry_touch s⟩
  | failureCountClear => exact ⟨_, execFailureCountClear_touch s⟩
  | sensorSample idx sample => exact ⟨_, execSensorSample_touch idx sample s⟩
  | railFault rail => exact ⟨_, execRailFault_touch rail s⟩
  | refclkLoss => exact ⟨_, execRefclkLoss_touch s⟩
  | vauxLoss => exact ⟨_, execVauxLoss_touch s⟩
  | vcoreReview => exact ⟨_, execVcoreReview_touch s⟩
  | epoch => exact ⟨_, execEpoch_touch s⟩
  | eventLogWrite => exact ⟨_, execEventLogWrite_touch s⟩
  | detectorFire block code unit => exact ⟨_, execDetectorFire_touch block code unit s⟩
  | sensorThresholdWrite idx w => exact ⟨_, execSensorThresholdWrite_touch idx w s⟩
  | spiTransaction cmd off data cut => exact ⟨_, execSpiTransaction_touch cmd off data cut s⟩
  | ethMgmtMessage e m => exact ⟨_, execEthMgmtMessage_touch e m s⟩
  | setEndpointId eid => exact ⟨_, execSetEndpointId_touch eid s⟩
  | getEndpointId => exact ⟨_, execGetEndpointId_touch s⟩
  | getEndpointUuid => exact ⟨_, execGetEndpointUuid_touch s⟩
  | getMctpVersionSupport => exact ⟨_, execGetMctpVersionSupport_touch s⟩
  | getMessageTypeSupport => exact ⟨_, execGetMessageTypeSupport_touch s⟩
  | getTid => exact ⟨_, execGetTid_touch s⟩
  | setTid tid => exact ⟨_, execSetTid_touch tid s⟩
  | getPldmVersion type => exact ⟨_, execGetPldmVersion_touch type s⟩
  | getPldmTypes => exact ⟨_, execGetPldmTypes_touch s⟩
  | getPldmCommands type => exact ⟨_, execGetPldmCommands_touch type s⟩
  | getSensorReading idx => exact ⟨_, execGetSensorReading_touch idx s⟩
  | getSensorThresholds idx => exact ⟨_, execGetSensorThresholds_touch idx s⟩
  | setSensorThresholds idx high low => exact ⟨_, execSetSensorThresholds_touch idx high low s⟩
  | getStateSensorReadings => exact ⟨_, execGetStateSensorReadings_touch s⟩
  | getPdrRepositoryInfo => exact ⟨_, execGetPdrRepositoryInfo_touch s⟩
  | getPdr record => exact ⟨_, execGetPdr_touch record s⟩
  | setEventReceiver eid => exact ⟨_, execSetEventReceiver_touch eid s⟩
  | queryDeviceIdentifiers => exact ⟨_, execQueryDeviceIdentifiers_touch s⟩
  | getFirmwareParameters => exact ⟨_, execGetFirmwareParameters_touch s⟩
  | requestUpdate => exact ⟨_, execRequestUpdate_touch s⟩
  | passComponentTable component => exact ⟨_, execPassComponentTable_touch component s⟩
  | updateComponent component size => exact ⟨_, execUpdateComponent_touch component size s⟩
  | transferComplete bs => exact ⟨_, execTransferComplete_touch bs s⟩
  | verifyComplete => exact ⟨_, execVerifyComplete_touch s⟩
  | applyComplete readBack => exact ⟨_, execApplyComplete_touch readBack s⟩
  | activateFirmware selfContained => exact ⟨_, execActivateFirmware_touch selfContained s⟩
  | getStatus => exact ⟨_, execGetStatus_touch s⟩
  | cancelUpdate => exact ⟨_, execCancelUpdate_touch s⟩
  | traceSourceEnable src w => exact ⟨_, execTraceSourceEnable_touch src w s⟩
  | comparatorMatch src addr mode => exact ⟨_, execComparatorMatch_touch src addr mode s⟩
  | tracePacket => exact ⟨_, execTracePacket_touch s⟩
  | traceDrop src => exact ⟨_, execTraceDrop_touch src s⟩
  | traceOverflowPacket src => exact ⟨_, execTraceOverflowPacket_touch src s⟩
  | traceClear => exact ⟨_, execTraceClear_touch s⟩
  | traceClearEnd => exact ⟨_, execTraceClearEnd_touch s⟩
  | traceWindowRead idx => exact ⟨_, execTraceWindowRead_touch idx s⟩
  | assertPop g => exact ⟨_, execAssertPop_touch g s⟩
  | galClrCe g => exact ⟨_, execGalClrCe_touch g s⟩
  | galClrLost g => exact ⟨_, execGalClrLost_touch g s⟩
  | clrSlip g => exact ⟨_, execClrSlip_touch g s⟩
  | clrDiscard g => exact ⟨_, execClrDiscard_touch g s⟩
  | clrSlipLast g => exact ⟨_, execClrSlipLast_touch g s⟩
  | clrHold => exact ⟨_, execClrHold_touch s⟩
  | clrSync => exact ⟨_, execClrSync_touch s⟩
  | clrOverrun => exact ⟨_, execClrOverrun_touch s⟩
  | clrFec p => exact ⟨_, execClrFec_touch p s⟩
  | clrRetry p => exact ⟨_, execClrRetry_touch p s⟩
  | clrDrop p => exact ⟨_, execClrDrop_touch p s⟩
  | dsErrClr => exact ⟨_, execDsErrClr_touch s⟩
  | clrStretch => exact ⟨_, execClrStretch_touch s⟩
  | echoClrLost => exact ⟨_, execEchoClrLost_touch s⟩
  | dmCeCountClear g => exact ⟨_, execDmCeCountClear_touch g s⟩
  | rimPwCountClear => exact ⟨_, execRimPwCountClear_touch s⟩
  | nocNoepDropClear => exact ⟨_, execNocNoepDropClear_touch s⟩
  | nocOffCountClear g => exact ⟨_, execNocOffCountClear_touch g s⟩
  | doneCountClear n => exact ⟨_, execDoneCountClear_touch n s⟩
  | cicCountsClear => exact ⟨_, execCicCountsClear_touch s⟩
  | wiuCountClear g => exact ⟨_, execWiuCountClear_touch g s⟩
  | errCountClear => exact ⟨_, execErrCountClear_touch s⟩
  | tcForwardedClear e => exact ⟨_, execTcForwardedClear_touch e s⟩
  | schedBarrierReleaseWrite flags => exact ⟨_, execSchedBarrierReleaseWrite_touch flags s⟩
  | registerWrite t w => exact ⟨_, execRegisterWrite_touch t w s⟩
  | macrocellClockEdge t rising samples => exact ⟨_, execMacrocellClockEdge_touch t rising samples s⟩
  | serialByteTransmit p => exact ⟨_, execSerialByteTransmit_touch p s⟩
  | restoreEnd => exact ⟨_, execRestoreEnd_touch s⟩
  | d3hotExit => exact ⟨_, execD3hotExit_touch s⟩
  | latticeCommitTimeout => exact ⟨_, execLatticeCommitTimeout_touch s⟩
  | latticeBarrierTimeout => exact ⟨_, execLatticeBarrierTimeout_touch s⟩
  | encoderPacket src ev => exact ⟨_, execEncoderPacket_touch src ev s⟩
  | timestampInterval src => exact ⟨_, execTimestampInterval_touch src s⟩
  | bankVioChange b v => exact ⟨_, execBankVioChange_touch b v s⟩

/-- A command leaves the queue as it is. -/
theorem exec_pending {c : Instr} {s t : State} (h : exec c s = .next t) : t.pending = s.pending := (exec_frame c s t h).1

/-- A command keeps registers and memories canonical. -/
theorem exec_canon {c : Instr} {s t : State} (hs : s.canon) (h : exec c s = .next t) : t.canon := by
  obtain ⟨m, hm⟩ := exec_touch c s
  exact (hm t h).2.2 hs

theorem step_of_nil {s : State} (h : s.pending = []) : step s = .next s.idlePeriod := by rw [step, h]

theorem step_of_cons {s : State} {c : Instr} {rest : List Instr} (h : s.pending = c :: rest) :
    step s = exec c { s with pending := rest } := by rw [step, h]

/-- Settles O5: by the command at the front of the queue; on an empty queue a period passes. -/
theorem stepKeepsStoresCanonical : Obligations.StepKeepsStoresCanonical := by
  unfold Obligations.StepKeepsStoresCanonical
  intro s t hs h
  cases hp : s.pending with
  | nil =>
    rw [step_of_nil hp] at h
    cases h
    exact s.idlePeriod_touch.2.2 hs
  | cons c rest =>
    rw [step_of_cons hp] at h
    have hrest : { s with pending := rest }.canon := hs
    exact exec_canon hrest h

/-- Settles O1: a step is the command at the front of the queue, which leaves the queue's rest. -/
theorem stepRunsTheFrontCommand : Obligations.StepRunsTheFrontCommand := by
  unfold Obligations.StepRunsTheFrontCommand
  intro c rest s hp
  refine ⟨step_of_cons hp, fun t h => ?_⟩
  rw [step_of_cons hp] at h
  exact exec_pending h

end Sys2Proof.Machine

/-! Step words that do not issue (01, R17, R18; 02, R37; 03, R72, R121). -/

namespace Sys2Proof.Machine

/-- The command of a step word is that word alone. -/
theorem exec_stepInstr (b : Bp) (m : Marks) (op : StepOp) (s : State) :
    exec (stepInstr b m op) s = s.oneWord b.val op m := by cases op <;> rfl

section OneWord

variable {s : State} {b : Nat} {op : StepOp} {m : Marks}

theorem State.stepDue_eq_false (h : s.sched.phase ≠ .steps ∨ s.schedLen ≤ s.sched.step) : s.stepDue = false := by
  rw [State.stepDue, Bool.and_eq_false_iff]
  exact h.imp beq_false_of_ne fun hl => Bool.eq_false_iff.2 fun hlt => (Nat.blt_eq.mp hlt).not_ge hl

theorem State.oneWord_idle (h : s.takesSteps (galOf b) = false ∨ s.stepDue = false) : s.oneWord b op m = .next s := by
  rw [State.oneWord, if_pos h]

theorem State.oneWord_due (htakes : s.takesSteps (galOf b) = true) (hdue : s.stepDue = true) : s.oneWord b op m =
    if legalIn (s.four (galOf b)) (b % 64) op = false then .fault .rejectedWord
    else if s.wordWaits b op then .next (s.hold (s.waitersOf b op) (s.syncWaits b op))
    else .next ((s.runWord b ⟨op, m⟩).useFlag b op) := by
  rw [State.oneWord, if_neg (by simp [htakes, hdue])]

end OneWord

/-- Settles O16: a word outside the steps does nothing, a rejected one is the fault, one that waits holds. -/
theorem wordsThatDoNotIssue : Obligations.WordsThatDoNotIssue := by
  unfold Obligations.WordsThatDoNotIssue
  intro b op m s
  simp only [exec_stepInstr]
  refine ⟨fun h => State.oneWord_idle (h.imp_right State.stepDue_eq_false), fun htakes hdue hlegal => ?_,
    fun htakes hdue hlegal hwaits => ?_⟩
  · rw [State.oneWord_due htakes hdue, if_pos hlegal]
  · have hword : s.wordWaits b.val op = true := hwaits
    rw [State.oneWord_due htakes hdue, if_neg (by simp [hlegal]), if_pos hword]

end Sys2Proof.Machine

/-! What a period leaves of the cycle's place and of the chains (03, R67, R68; 02, R29). -/

namespace Sys2Proof.Machine

/-- Of the schedule's state the time, the queues that hold issue and a halt asked for may have changed; the chains are as
they were. -/
structure PassKeeps (s t : State) : Prop where
  sched : t.sched = { s.sched with
    now := t.sched.now, dtc := t.sched.dtc, haltPending := t.sched.haltPending, backlog := t.sched.backlog,
    counted := t.sched.counted }
  chain : t.fab.chain = s.fab.chain

section PassKeeps

variable {s t u : State}

theorem PassKeeps.refl : PassKeeps s s := ⟨rfl, rfl⟩

theorem PassKeeps.trans (h : PassKeeps s t) (g : PassKeeps t u) : PassKeeps s u :=
  ⟨by rw [g.sched, h.sched], g.chain.trans h.chain⟩

theorem PassKeeps.of_eq (hs : t.sched = s.sched) (hf : t.fab.chain = s.fab.chain) : PassKeeps s t := ⟨by rw [hs], hf⟩

/-- What changes neither the fabric nor the schedule's state keeps both. -/
theorem PassKeeps.of_touch {m : Nat} (h : Touch m s t) (hfab : m.testBit 3 = false := by rfl)
    (hsched : m.testBit 4 = false := by rfl) : PassKeeps s t :=
  .of_eq (h.2.1 .sched hsched) (congrArg Fabric.chain (h.2.1 .fab hfab))

theorem PassKeeps.haltAtEnd : PassKeeps s s.haltAtEnd := ⟨rfl, rfl⟩

theorem PassKeeps.ite {c : Prop} [Decidable c] (ht : PassKeeps s t) (hu : PassKeeps s u) :
    PassKeeps s (if c then t else u) := by split <;> assumption

theorem State.detect_passKeeps {block code unit : Nat} {data : List Byte} (h : ¬ detHalts block code) :
    PassKeeps s (s.detect block code unit data) :=
  .of_eq (State.detect_sched h) (congrArg Fabric.chain ((s.detect_touch ..).2.1 .fab rfl))

theorem State.recordSched_passKeeps (g n : Nat) (l : Loc) (port entry : Nat) :
    PassKeeps s (s.recordSched g n l port entry) := by
  have hdetects : ¬ detHalts 0x02 n := by simp [detHalts]
  unfold State.recordSched
  dsimp only
  refine .ite (.trans (.trans ?_ (State.detect_passKeeps hdetects)) .haltAtEnd)
    (.trans ?_ (State.detect_passKeeps hdetects)) <;>
  exact .ite (.of_eq rfl rfl) (.of_eq rfl rfl)

theorem State.recvParity_passKeeps (b i : Nat) : PassKeeps s (s.recvParity b i) := by
  unfold State.recvParity
  dsimp only
  exact .ite (.trans (.ite (.of_touch (s.useArmed_touch ..)) .refl) (State.recordSched_passKeeps ..))
    (.ite (.of_touch (s.useArmed_touch ..)) .refl)

theorem State.applyForce_passKeeps (b : Nat) (t : ForceTarget) (x : Nv) : PassKeeps s (s.applyForce b t x).2 :=
  .of_touch (s.applyForce_touch b t x)

/-- The arrival noted as landed. -/
def State.noteLanded (s : State) (x : Nat × Nat × Nat) : State :=
  { s with fab := { s.fab with landed := x :: s.fab.landed } }

theorem State.noteLanded_passKeeps (x : Nat × Nat × Nat) : PassKeeps s (s.noteLanded x) := .of_eq rfl rfl

/-- An arrival that lands leaves the cycle's place and the chains. -/
theorem State.land_passKeeps (b : Nat) (port : RxPort) (step : Nat) (x : Nv) : PassKeeps s (s.land b port step x) := by
  unfold State.land
  dsimp only
  refine .ite .refl ?_
  split
  · exact .of_touch (s.rxDiscard_touch _)
  · next i w _ =>
    have hnoted : PassKeeps s ((s.recvParity b i).noteLanded (b, port.code, step)) :=
      (State.recvParity_passKeeps b i).trans (State.noteLanded_passKeeps _)
    refine .ite ((State.recvParity_passKeeps ..).trans (State.recordSched_passKeeps ..)) (.ite ?_ (.ite ?_ ?_))
    · exact hnoted.trans (.of_touch (State.rxDiscard_touch ..))
    · exact hnoted.trans (State.recordSched_passKeeps ..)
    · exact (hnoted.trans (State.applyForce_passKeeps ..)).trans (.of_eq rfl rfl)

theorem landDue_passKeeps (l : List Arrival) (used : List (Nat × Nat)) (s : State) : PassKeeps s (landDue l used s).1 := by
  induction l generalizing used s with
  | nil => exact .refl
  | cons a as ih =>
    unfold landDue
    split
    · exact (State.land_passKeeps ..).trans (ih ..)
    · exact ih ..

end PassKeeps

/-- A period before its landings: time has gone on, values are to pass merge points. -/
def State.timePasses (s : State) : State :=
  let t := dtcAfter s.sched.dtc (s.reg R.TB_INCR).toNat s.tb.slew
  let s := { s with sched := { s.sched with now := s.sched.now + 1, dtc := (((t.1 : Int) + s.tb.stepDue) % 2 ^ 80).toNat },
                    tb := { s.tb with slew := t.2, stepDue := 0 },
                    fab := { s.fab with bankUse := [] }, raised := [] }
  (s.put R.TB_STATUS F.TB_STATUS_SLEW_ACTIVE (natOfBool (s.tb.slew != 0))).setReg R.TB_SLEW
    (BitVec.ofInt 32 (s.tb.slew / 2 ^ 16))

/-- What merge points pass on in this period, and the arrivals at ports. -/
def State.passing (s : State) : List Flight × List Flight × List Arrival :=
  passMerges s.sched.now s.fab.flights [] s.fab.inflight

/-- Values have gone on in line at their merge points. -/
def State.mergesPassed (s : State) : State :=
  { s with fab := { s.fab with flights := s.passing.2.1.foldl (fun q f => insertFlight f q) s.passing.1 } }

/-- What stays in flight after the landings. -/
def State.stayInFlight (s : State) (l : List Arrival) : State := { s with fab := { s.fab with inflight := l } }

/-- The queues that hold issue are counted. -/
def State.countQueues (s : State) : State :=
  { s with sched := { s.sched with backlog := s.sched.counted, counted := s.queuesAfter } }

theorem State.elapse_eq (s : State) : s.elapse =
    ((landDue s.timePasses.passing.2.2 [] s.timePasses.mergesPassed).1.stayInFlight
      (landDue s.timePasses.passing.2.2 [] s.timePasses.mergesPassed).2).countQueues := rfl

/-- A period leaves the place in the cycle and the chains. -/
theorem State.elapse_passKeeps (s : State) : PassKeeps s s.elapse := by
  have hpassed : PassKeeps s s.timePasses.mergesPassed := ⟨rfl, rfl⟩
  rw [State.elapse_eq]
  exact (hpassed.trans (landDue_passKeeps ..)).trans ⟨rfl, rfl⟩

end Sys2Proof.Machine

/-! The emulated cycle (01, R17 to R19; 06, R163): TICK, TURNOVER, ECHO_RECORD_CLOSE and ECHO_RECORD_WRITTEN. -/

namespace Sys2Proof.Machine

variable {s : State}

/-! What the beginning of a tick leaves of the fabric. -/

/-- Of the fabric only the force entries may have changed. -/
def ForcesOnly (f g : Fabric) : Prop := g = { f with forces := g.forces }

theorem ForcesOnly.trans {f g h : Fabric} (hfg : ForcesOnly f g) (hgh : ForcesOnly g h) : ForcesOnly f h := by
  rw [ForcesOnly, hgh, hfg]

theorem State.settleEntries_fab (t : BitVec 64) (dep : Bool) (es : List ForceEntry) :
    (es.foldl (fun s e => s.settleEntry t dep e) s).fab = s.fab := by
  have hentry (s : State) (e : ForceEntry) : Touch 5123 s (s.settleEntry t dep e) :=
    Touch.foldl (fun u c => u.completeOpt_touch ..) _ s
  exact (Touch.foldl hentry es s).2.1 .fab rfl

theorem State.settleForces_fab (s : State) (t : BitVec 64) : ForcesOnly s.fab (s.settleForces t).fab := by
  unfold State.settleForces ForcesOnly
  dsimp only
  rw [State.settleEntries_fab]

theorem State.settleReleases_fab (t : BitVec 64) : ForcesOnly s.fab (s.settleReleases t).fab := by
  unfold State.settleReleases ForcesOnly
  dsimp only
  rw [State.settleEntries_fab]

/-- Forces, deposits and releases of the tick take effect. -/
def State.settled (s : State) (t : BitVec 64) : State := (s.settleForces t).settleReleases t

theorem State.settled_touch (s : State) (t : BitVec 64) : Touch 5131 s (s.settled t) :=
  (s.settleForces_touch t).then (State.settleReleases_touch ..) rfl

theorem State.settled_fab (s : State) (t : BitVec 64) : ForcesOnly s.fab (s.settled t).fab :=
  (s.settleForces_fab t).trans (State.settleReleases_fab t)

/-- A tick that a device held moves the grid at most. -/
theorem State.heldTick_sched (s : State) : s.heldTick.sched = { s.sched with nextGrid := s.heldTick.sched.nextGrid } := by
  unfold State.heldTick
  dsimp only
  split
  · rfl
  · split <;> split
    · rfl
    · rw [State.detect_sched (by simp [detHalts])]
      rfl
    · rfl
    · rw [State.detect_sched (by simp [detHalts])]
      rfl

theorem State.takeEarly_of_nil (h : s.psg.early = []) : s.takeEarly = s := by
  unfold State.takeEarly
  rw [h]
  dsimp only [List.filter_nil, List.foldl_nil]
  rw [← h]

/-- The cycle of the next tick is opened: step 0, chains and leaves clear. -/
def State.opened (s : State) : State :=
  let t := s.sched.nextTick
  { s with
    sched := { s.sched with
      curTick := t, nextTick := t + 1, phase := .steps, step := 0, tickPeriod := s.sched.now,
      tickTime := s.sched.dtc, tickHeld := false, holdsAt := [], cycleHolds := 0, flagsUsed := [], pinFreshAt := none,
      overrun := false, restored := false,
      nextGrid := if s.free then s.sched.nextGrid else (s.sched.nextGrid + s.period) % 2 ^ 80 },
    fab := { s.fab with chain := [], leaves := [] },
    rim := { s.rim with strobeDue := true },
    psg := { s.psg with startAt := none, barrierWait := 0, marked := false },
    echo := { s.echo with
      restored := s.sched.restored, stretched := false, forced := false, deposited := false, asserted := false,
      capturing := s.armed && !s.bit R.ECHO_STATUS F.ECHO_STATUS_FROZEN && !s.echo.windowDue && !s.echo.disarming } }

theorem State.beginTick_eq (s : State) : s.beginTick =
    ((s.settled s.sched.nextTick).heldTick.opened.stampTick.pruneNotices
      (s.settled s.sched.nextTick).heldTick.sched.nextTick).takeEarly := rfl

/-- What the beginning of a tick sets and leaves, when nothing has come early. -/
theorem State.beginTick_begins (hearly : s.psg.early = []) : s.beginTick.sched.curTick = s.sched.nextTick ∧
    s.beginTick.sched.nextTick = s.sched.nextTick + 1 ∧ s.beginTick.sched.phase = .steps ∧ s.beginTick.sched.step = 0 ∧
    s.beginTick.sched.now = s.sched.now ∧ s.beginTick.fab.chain = [] ∧ s.beginTick.fab.leaves = [] ∧
    s.beginTick.fab.nsPrev = s.fab.nsPrev ∧ s.beginTick.fab.nsCur = s.fab.nsCur := by
  have hsettled := s.settled_touch s.sched.nextTick
  have hsched : (s.settled s.sched.nextTick).sched = s.sched := hsettled.2.1 .sched rfl
  have hheld : Touch 131091 (s.settled s.sched.nextTick) (s.settled s.sched.nextTick).heldTick := State.heldTick_touch _
  have hpsg : (s.settled s.sched.nextTick).heldTick.psg = s.psg :=
    (hheld.2.1 .psg rfl).trans (hsettled.2.1 .psg rfl)
  have hfab : ForcesOnly s.fab (s.settled s.sched.nextTick).heldTick.fab := by
    rw [show (s.settled s.sched.nextTick).heldTick.fab = (s.settled s.sched.nextTick).fab from hheld.2.1 .fab rfl]
    exact s.settled_fab _
  have hgrid := (s.settled s.sched.nextTick).heldTick_sched
  rw [hsched] at hgrid
  rw [State.beginTick_eq]
  generalize (s.settled s.sched.nextTick).heldTick = u at hpsg hfab hgrid ⊢
  have hstamp : Touch 1 u.opened u.opened.stampTick := State.stampTick_touch _
  have hprune : (u.opened.stampTick.pruneNotices u.sched.nextTick).psg.early = [] := by
    have hstampPsg : u.opened.stampTick.psg = u.opened.psg := hstamp.2.1 .psg rfl
    exact (congrArg Passage.early hstampPsg).trans ((congrArg Passage.early hpsg).trans hearly)
  rw [State.takeEarly_of_nil hprune]
  have hs : (u.opened.stampTick.pruneNotices u.sched.nextTick).sched = u.opened.sched := hstamp.2.1 .sched rfl
  have hf : (u.opened.stampTick.pruneNotices u.sched.nextTick).fab = u.opened.fab := hstamp.2.1 .fab rfl
  rw [hs, hf]
  have hnext : u.sched.nextTick = s.sched.nextTick := by rw [hgrid]
  have hnow : u.sched.now = s.sched.now := by rw [hgrid]
  have hprev : u.fab.nsPrev = s.fab.nsPrev := by rw [hfab]
  have hcur : u.fab.nsCur = s.fab.nsCur := by rw [hfab]
  exact ⟨hnext, congrArg (· + 1) hnext, rfl, rfl, hnow, rfl, rfl, hprev, hcur⟩

/-! TICK. -/

theorem exec_tick_idle (h : s.sched.phase ≠ .between ∨ s.sched.running = false ∨ s.hasImage = false) :
    exec .tick s = .next s := by
  rw [show exec .tick s = execTick s from rfl, execTick, if_pos (h.imp_right fun h => h.imp_right .inl)]

/-- A tick that waits: a period passes in which it is held. -/
def State.tickWaiting (s : State) : State :=
  { s with sched := { s.sched with tickHeld := true },
           psg := { s.psg with barrierWait := s.psg.barrierWait + natOfBool s.awaitsNotice } }

section DueTick

variable (hphase : s.sched.phase = .between) (hrun : s.sched.running = true) (himage : s.hasImage = true)
  (hengine : s.sched.engine = false) (hdue : s.nextDue = none)
include hphase hrun himage hengine hdue

theorem exec_tick_due : exec .tick s =
    if s.tickWaits then .next s.tickWaiting.elapse else .next s.beginTick := by
  rw [show exec .tick s = execTick s from rfl, execTick, if_neg (by simp [hphase, hrun, himage, hengine, hdue])]
  rfl

/-- A tick that waits stays between cycles and holds the tick; only the wait for notices is counted. -/
theorem exec_tick_waits (hwaits : s.tickWaits = true) : ∃ t, exec .tick s = .next t ∧ t.sched.phase = .between ∧
    t.sched.tickHeld = true ∧ t.sched.nextTick = s.sched.nextTick ∧ t.fab.chain = s.fab.chain ∧
    (s.awaitsNotice = false → t.psg.barrierWait = s.psg.barrierWait) ∧
    (s.awaitsNotice = true → t.psg.barrierWait = s.psg.barrierWait + 1) := by
  have hpass := s.tickWaiting.elapse_passKeeps
  have hpsg : s.tickWaiting.elapse.psg = s.tickWaiting.psg := s.tickWaiting.elapse_touch.2.1 .psg rfl
  refine ⟨_, by rw [exec_tick_due hphase hrun himage hengine hdue, if_pos hwaits], ?_, ?_, ?_, hpass.chain,
    fun hn => ?_, fun hn => ?_⟩
  · rw [hpass.sched]
    exact hphase
  · rw [hpass.sched]
    rfl
  · rw [hpass.sched]
    rfl
  · rw [hpsg, State.tickWaiting, hn]
    rfl
  · rw [hpsg, State.tickWaiting, hn]
    rfl

/-- A tick that waits for nothing begins. -/
theorem exec_tick_begins (hwaits : s.tickWaits = false) (hearly : s.psg.early = []) : ∃ t, exec .tick s = .next t ∧
    t.sched.curTick = s.sched.nextTick ∧ t.sched.nextTick = s.sched.nextTick + 1 ∧ t.sched.phase = .steps ∧
    t.sched.step = 0 ∧ t.sched.now = s.sched.now ∧ t.fab.chain = [] ∧ t.fab.leaves = [] ∧
    t.fab.nsPrev = s.fab.nsPrev ∧ t.fab.nsCur = s.fab.nsCur ∧ t.mem = s.mem ∧ t.pending = s.pending := by
  have hexec : exec .tick s = .next s.beginTick := by
    rw [exec_tick_due hphase hrun himage hengine hdue, if_neg (by simp [hwaits])]
  obtain ⟨hpending, hframe, -⟩ := execTick_touch s s.beginTick hexec
  obtain ⟨hcur, hnext, hsteps, hstep, hnow, hchain, hleaves, hprev, hcurNets⟩ := s.beginTick_begins hearly
  exact ⟨_, hexec, hcur, hnext, hsteps, hstep, hnow, hchain, hleaves, hprev, hcurNets, hframe .mem rfl, hpending⟩

end DueTick

/-! Turnover. -/

theorem exec_turnover_idle (h : s.sched.phase ≠ .steps ∨ s.sched.step < s.schedLen) : exec .turnover s = .next s := by
  rw [show exec .turnover s = execTurnover s from rfl, execTurnover, if_pos h]

theorem exec_turnover_ends (hphase : s.sched.phase = .steps) (hend : s.schedLen ≤ s.sched.step)
    (hhold : s.sched.holdLen = 0) (hpin : s.rim.lastPinout = none) :
    exec .turnover s = .next ((State.elapseN 2 s).setPhase .t2) := by
  rw [show exec .turnover s = execTurnover s from rfl, execTurnover, if_neg (by simp [hphase, hend])]
  simp only [hhold, hpin, if_true]
  rfl

theorem exec_echoRecordClose_idle (h : s.sched.phase ≠ .t2) : exec .echoRecordClose s = .next s := by
  rw [show exec .echoRecordClose s = execEchoRecordClose s from rfl, execEchoRecordClose, if_pos h]

theorem exec_echoRecordClose_none (hphase : s.sched.phase = .t2) (hcap : s.echo.capturing = false)
    (hhold : s.sched.holdLen = 0) : exec .echoRecordClose s = .next (s.elapse.setPhase .t3) := by
  rw [show exec .echoRecordClose s = execEchoRecordClose s from rfl, execEchoRecordClose, if_neg (not_not.2 hphase),
    if_pos hcap, State.toT3, if_pos hhold]
  rfl

theorem exec_echoRecordClose_closes (hphase : s.sched.phase = .t2) (hcap : s.echo.capturing = true) {u : State}
    (hu : s.closeWhole = some u) : exec .echoRecordClose s = .next u.windowStep.toT3 := by
  rw [show exec .echoRecordClose s = execEchoRecordClose s from rfl, execEchoRecordClose, if_neg (not_not.2 hphase),
    if_neg (by simp [hcap]), hu]

theorem exec_echoRecordWritten_none (h : s.echo.recs = []) : exec .echoRecordWritten s = .next s := by
  rw [show exec .echoRecordWritten s = execEchoRecordWritten s from rfl, execEchoRecordWritten, h]

theorem exec_echoRecordWritten_some {r : EchoRec} {rs : List EchoRec} (h : s.echo.recs = r :: rs)
    (htick : r.tick ≠ s.sched.curTick) : exec .echoRecordWritten s = .next (s.recordWritten r).disarmIfIdle := by
  rw [show exec .echoRecordWritten s = execEchoRecordWritten s from rfl, execEchoRecordWritten, h]
  exact if_neg fun hturning => htick hturning.2.1

end Sys2Proof.Machine

/-! The cycle, together. -/

namespace Sys2Proof.Machine

/-- Settles O20: each clause by the lemma about its command. -/
theorem cycleBeginsAndTurnsOver : Obligations.CycleBeginsAndTurnsOver := by
  unfold Obligations.CycleBeginsAndTurnsOver
  exact fun s => ⟨exec_tick_idle, exec_tick_waits, exec_tick_begins, exec_turnover_idle, exec_turnover_ends,
    exec_echoRecordClose_idle, exec_echoRecordClose_none, fun hp hc u hu => exec_echoRecordClose_closes hp hc hu,
    exec_echoRecordWritten_none, fun r rs h ht => exec_echoRecordWritten_some h ht⟩

end Sys2Proof.Machine

/-! The generation flip (01, R19, R25). -/

namespace Sys2Proof.Machine

/-! Stores in which many keys take values of their own. -/

section Stores

variable {α : Type} [DecidableEq α] {d : Nat → α}

/-- Storing at each listed key the value that `v` gives it. -/
theorem NMap.get_foldl_set (v : Nat → α) (ks : List Nat) {m : NMap α} (hm : NMap.wf d m = true) (j : Nat) :
    NMap.get d (ks.foldl (fun m k => NMap.set d m k (v k)) m) j = if j ∈ ks then v j else NMap.get d m j := by
  induction ks generalizing m with
  | nil => rfl
  | cons k ks ih =>
    rw [List.foldl_cons, ih (NMap.wf_set d m k (v k) hm)]
    by_cases hjk : j = k
    · subst hjk
      simp [NMap.get_set_self d m j (v j) hm]
    · simp [hjk, NMap.get_set_of_ne d m k j (v k) hm hjk]

/-- The entries of a canonical store are what its keys read, other than the default. -/
theorem NMap.mem_iff_get {m : NMap α} (hm : NMap.wf d m = true) {k : Nat} {v : α} (hv : v ≠ d k) :
    (k, v) ∈ m ↔ NMap.get d m k = v := by
  induction m with
  | nil => exact ⟨fun h => absurd h List.not_mem_nil, fun h => absurd h.symm hv⟩
  | cons e t ih =>
    obtain ⟨k', v'⟩ := e
    obtain ⟨-, hlt, ht⟩ := (NMap.wf_cons d k' v' t).1 hm
    have hbelow (hk : k ≤ k') : (k, v) ∉ t := fun h => absurd (hlt _ h) (Nat.not_lt.2 hk)
    rcases Nat.lt_trichotomy k k' with hk | rfl | hk
    · have hget : NMap.get d ((k', v') :: t) k = d k := by simp [NMap.get, hk, Nat.ne_of_lt hk]
      simp [hget, hbelow hk.le, Nat.ne_of_lt hk, Ne.symm hv]
    · simp [NMap.get, hbelow le_rfl, eq_comm]
    · have hget : NMap.get d ((k', v') :: t) k = NMap.get d t k := by
        simp [NMap.get, Nat.not_lt.2 hk.le, Nat.ne_of_gt hk]
      simp [hget, Nat.ne_of_gt hk, ih ht]

end Stores

variable {s : State}

/-! The flip of a net. -/

theorem State.mem_taggedKeys (h : NMap.wf dFalse s.fab.nsTag = true) (k : Nat) :
    k ∈ s.taggedKeys ↔ NMap.get dFalse s.fab.nsTag k = true := by
  rw [← NMap.mem_iff_get h (show true ≠ dFalse k from Bool.noConfusion)]
  simp [State.taggedKeys]

/-- An entry of the previous generation after the flip. -/
theorem State.flip_nsPrev (hprev : NMap.wf dFalse s.fab.nsPrev = true) (htag : NMap.wf dFalse s.fab.nsTag = true) (k : Nat) :
    NMap.get dFalse s.flip.fab.nsPrev k =
      if NMap.get dFalse s.fab.nsTag k then NMap.get dFalse s.fab.nsCur k else NMap.get dFalse s.fab.nsPrev k := by
  have hfold : NMap.get dFalse s.flip.fab.nsPrev k =
      if k ∈ s.taggedKeys then NMap.get dFalse s.fab.nsCur k else NMap.get dFalse s.fab.nsPrev k :=
    NMap.get_foldl_set _ _ hprev k
  rw [hfold]
  exact if_congr (s.mem_taggedKeys htag k) rfl rfl

/-- A net whose tag is set takes its current value as previous value; the others keep theirs. -/
theorem State.netGet_flip (hprev : NMap.wf dFalse s.fab.nsPrev = true) (htag : NMap.wf dFalse s.fab.nsTag = true)
    {four : Bool} {b n : Nat} (hpair : four = true →
      tagGet s.fab.nsTag false b (2 * n + 1) = tagGet s.fab.nsTag true b n) :
    netGet s.flip.fab.nsPrev four b n =
      if tagGet s.fab.nsTag four b n then netGet s.fab.nsCur four b n else netGet s.fab.nsPrev four b n := by
  cases four with
  | false =>
    simp only [netGet, tagGet, physV, Bool.false_eq_true, if_false, State.flip_nsPrev hprev htag]
    split <;> rfl
  | true =>
    have hk : NMap.get dFalse s.fab.nsTag (b * 2048 + 2 * n + 1) = NMap.get dFalse s.fab.nsTag (b * 2048 + 2 * n) := by
      simpa [tagGet, physV, Nat.add_assoc] using hpair rfl
    simp only [netGet, tagGet, physV, if_true, State.flip_nsPrev hprev htag, hk]
    split <;> rfl

/-! GENERATION_FLIP. -/

theorem State.flipWaits_eq_false (h : s.sched.holdOver = true ∨ (s.fab.inflight = [] ∧ s.fab.flights = [] ∧
    s.fab.deep.any (fun o => !o.write) = false ∧ s.missingFlits = [] ∧ ∀ j, s.echo.snap = some j → j.phase ≠ 1)) :
    s.flipWaits = false := by
  unfold State.flipWaits
  rcases h with hover | ⟨hinflight, hflights, hdeep, hflits, hsnap⟩
  · rw [hover]
    rfl
  · rw [hinflight, hflights, hdeep, hflits]
    cases hs : s.echo.snap with
    | none => simp
    | some j => simp [hsnap j hs]

theorem exec_generationFlip_idle (h : s.sched.phase ≠ .t3) : exec .generationFlip s = .next s := by
  rw [show exec .generationFlip s = execGenerationFlip s from rfl, execGenerationFlip, if_pos h]

theorem exec_generationFlip_waits (hphase : s.sched.phase = .t3) (hwaits : s.flipWaits = true) :
    exec .generationFlip s = .next (s.hold s.flipWaiters false) := by
  rw [show exec .generationFlip s = execGenerationFlip s from rfl, execGenerationFlip, if_neg (not_not.2 hphase),
    if_pos hwaits]

theorem exec_generationFlip_flips (hphase : s.sched.phase = .t3) (hwaits : s.flipWaits = false) :
    exec .generationFlip s = .next (State.elapseN 2 (if s.sched.holdLen = 0 ∧ s.sched.holdOver = false then s
      else s.endHold).dropLate.flip.freeDeposits.triggerTree).enterT5 := by
  rw [show exec .generationFlip s = execGenerationFlip s from rfl, execGenerationFlip, if_neg (not_not.2 hphase),
    if_neg (by simp [hwaits])]

/-- Settles O21: each clause by the lemma about the command or about the flip. -/
theorem generationFlipCarriesForward : Obligations.GenerationFlipCarriesForward := by
  unfold Obligations.GenerationFlipCarriesForward
  refine fun s => ⟨exec_generationFlip_idle, exec_generationFlip_waits, fun hphase hcalm => ?_, rfl, rfl, rfl, rfl,
    fun hprev htag four b n hpair => State.netGet_flip hprev htag hpair⟩
  have hwaits := State.flipWaits_eq_false hcalm
  refine ⟨hwaits, fun hlen hover => ?_, fun hheld => ?_⟩
  · rw [exec_generationFlip_flips hphase hwaits, if_pos ⟨hlen, hover⟩]
  · rw [exec_generationFlip_flips hphase hwaits, if_neg]
    rintro ⟨hlen, hover⟩
    exact hheld.elim (fun h => absurd hlen h.ne') fun h => by simp [hover] at h

end Sys2Proof.Machine

/-! Registers of a store in any form: what reads other than its reset value keeps what lies up to it (R4, R84). -/

namespace Sys2Proof.Machine

section AnyStore

variable {α : Type} [DecidableEq α] {d : Nat → α}

/-- A key that reads other than the default shields the keys up to it from stores above it. -/
theorem NMap.get_set_of_listed (m : NMap α) {i j k : Nat} (v : α) (hij : i ≤ j) (hjk : j < k)
    (hj : NMap.get d m j ≠ d j) : NMap.get d (NMap.set d m k v) i = NMap.get d m i := by
  induction m with
  | nil => exact absurd rfl hj
  | cons e t ih =>
    obtain ⟨k', v'⟩ := e
    have hkey : k' ≤ j := by
      by_contra hlt
      rw [Nat.not_le] at hlt
      exact hj (by simp [NMap.get, hlt, Nat.ne_of_lt hlt])
    have hset : NMap.set d ((k', v') :: t) k v = (k', v') :: NMap.set d t k v := by
      have hlt : k' < k := Nat.lt_of_le_of_lt hkey hjk
      simp [NMap.set, Nat.not_lt.2 hlt.le, Nat.ne_of_gt hlt]
    rw [hset]
    rcases Nat.lt_trichotomy i k' with hi | rfl | hi
    · simp [NMap.get, hi, Nat.ne_of_lt hi]
    · simp [NMap.get]
    · have htail : NMap.get d t j ≠ d j := by
        have hlt : k' < j := Nat.lt_of_lt_of_le hi hij
        simpa [NMap.get, Nat.not_lt.2 hlt.le, Nat.ne_of_gt hlt] using hj
      simp [NMap.get, Nat.not_lt.2 hi.le, Nat.ne_of_gt hi, ih htail]

/-- A value other than the default is read where it was stored. -/
theorem NMap.get_set_of_ne_default (m : NMap α) {k : Nat} {v : α} (hv : v ≠ d k) :
    NMap.get d (NMap.set d m k v) k = v := by
  induction m with
  | nil => simp [NMap.set, NMap.get, hv]
  | cons e t ih =>
    obtain ⟨k', v'⟩ := e
    rcases Nat.lt_trichotomy k k' with hk | rfl | hk
    · simp [NMap.set, NMap.get, hk, hv]
    · simp [NMap.set, NMap.get, hv]
    · simp [NMap.set, NMap.get, Nat.not_lt.2 hk.le, Nat.ne_of_gt hk, ih]

end AnyStore

/-- A register below `n` that reads other than its reset value, and those up to it, read as before. -/
structure KeepsListed (n : Nat) (s t : State) : Prop where
  reg : ∀ i j, i ≤ j → j < n → s.reg j ≠ regReset j → t.reg i = s.reg i

section KeepsListed

variable {n : Nat} {s t u : State}

theorem KeepsListed.refl : KeepsListed n s s := ⟨fun _ _ _ _ _ => rfl⟩

theorem KeepsListed.trans (h : KeepsListed n s t) (g : KeepsListed n t u) : KeepsListed n s u := ⟨fun i j hij hjn hj => by
  have htj : t.reg j ≠ regReset j := by rwa [h.reg j j le_rfl hjn hj]
  rw [g.reg i j hij hjn htj, h.reg i j hij hjn hj]⟩

theorem KeepsListed.mono {k : Nat} (h : KeepsListed k s t) (hn : n ≤ k) : KeepsListed n s t :=
  ⟨fun i j hij hjn => h.reg i j hij (hjn.trans_le hn)⟩

theorem KeepsListed.of_touch {m : Nat} (h : Touch m s t) (hm : m.testBit 0 = false := by rfl) : KeepsListed n s t :=
  ⟨fun i _ _ _ _ => congrArg (NMap.get regReset · i) (Prod.mk.inj (h.2.1 .regs hm)).1⟩

theorem KeepsListed.put {o v : Nat} {f : Field} (ho : n ≤ o) : KeepsListed n s (s.put o f v) :=
  ⟨fun _ _ hij hjn hj => NMap.get_set_of_listed s.regs _ hij (hjn.trans_le ho) hj⟩

theorem KeepsListed.raise {o : Nat} {f : Field} (ho : n ≤ o) : KeepsListed n s (s.raise o f) :=
  ⟨(KeepsListed.put (f := f) (v := 1) ho).reg⟩

theorem KeepsListed.bump {o v : Nat} {f : Field} (ho : n ≤ o) : KeepsListed n s (s.bump o f v) := KeepsListed.put ho

theorem KeepsListed.ite {c : Prop} [Decidable c] (ht : KeepsListed n s t) (hu : KeepsListed n s u) :
    KeepsListed n s (if c then t else u) := by split <;> assumption

theorem State.countClass_keepsListed (cls block code unit : Nat) :
    KeepsListed R.ERR_STATUS s (s.countClass cls block code unit) := by
  unfold State.countClass
  split
  · exact (KeepsListed.raise le_rfl).trans (.bump (by decide))
  · exact (KeepsListed.raise le_rfl).trans (.bump (by decide))
  · exact (KeepsListed.raise le_rfl).trans (.of_touch (State.platformEvent_touch ..))
  · exact .refl

theorem State.captureFirst_keepsListed (cls block code unit : Nat) :
    KeepsListed R.ERR_STATUS s (s.captureFirst cls block code unit) := by
  have hfirst : R.ERR_STATUS ≤ R.ERR_FIRST := by decide
  exact .ite ((((((KeepsListed.put hfirst).trans (.put hfirst)).trans (.put hfirst)).trans (.put hfirst)).trans
    (.raise hfirst)).trans (.put (by decide))) .refl

/-- A detector writes nothing below the error registry. -/
theorem State.detect_keepsListed (block code unit : Nat) (data : List Byte) :
    KeepsListed R.ERR_STATUS s (s.detect block code unit data) := by
  have hdetected : KeepsListed R.ERR_STATUS s (s.detected block code unit data) :=
    ((KeepsListed.of_touch (s.logDetected_touch ..)).trans (State.countClass_keepsListed ..)).trans
      (State.captureFirst_keepsListed ..)
  rw [State.detect_eq]
  exact .ite (hdetected.trans (.of_touch (State.haltAtEnd_touch _))) hdetected

end KeepsListed

end Sys2Proof.Machine

/-! Overruns (03, R84, R148). -/

namespace Sys2Proof.Machine

variable {s : State}

/-- An overrun counted and shown. -/
def State.overrunShown (s : State) : State :=
  (s.bump R.SCHED_OVERRUN_COUNT F.SCHED_OVERRUN_COUNT_COUNT).raise R.SCHED_STATUS F.SCHED_STATUS_OVERRUN

/-- An overrun logged. -/
def State.overrunLogged (s : State) : State :=
  (s.overrunShown.cicEvent 17).detect 0x07 0 0
    (leBytes 8 s.overrunShown.sched.curTick.toNat ++ leBytes 4 (s.overrunShown.reg R.SCHED_HOLD_COUNT).toNat)

/-- OVERRUN of the running cycle is set. -/
def State.overrunSet (s : State) : State := { s with sched := { s.sched with overrun := true } }

theorem State.takeOverrun_eq (s : State) : s.takeOverrun =
    if s.overrunLogged.overrunSet.bit R.SCHED_TICK_CFG F.SCHED_TICK_CFG_POLICY then s.overrunLogged.overrunSet.haltAtEnd
    else s.overrunLogged.overrunSet := rfl

theorem State.overrunSet_bit (s : State) (o : Nat) (f : Field) : s.overrunSet.bit o f = s.bit o f := rfl

theorem State.overrunLogged_sched (s : State) : s.overrunLogged.sched = s.sched := by
  have hcic : (s.overrunShown.cicEvent 17).sched = s.sched := (State.cicEvent_touch ..).2.1 .sched rfl
  rw [State.overrunLogged, State.detect_sched (by simp [detHalts]), hcic]

theorem State.overrunLogged_keepsListed (s : State) : KeepsListed R.ERR_STATUS s.overrunShown s.overrunLogged :=
  (KeepsListed.of_touch (s.overrunShown.cicEvent_touch 17)).trans (State.detect_keepsListed ..)

theorem State.overrunShown_keepsListed (s : State) : KeepsListed R.SCHED_OVERRUN_COUNT s s.overrunShown :=
  (KeepsListed.bump le_rfl).trans (.raise (by decide))

/-- Of the schedule's state an overrun sets OVERRUN, and under FAULT the halt at T5. -/
theorem State.takeOverrun_sched (s : State) : s.takeOverrun.sched = { s.sched with
    overrun := true,
    haltPending := s.sched.haltPending || s.overrunLogged.bit R.SCHED_TICK_CFG F.SCHED_TICK_CFG_POLICY } := by
  rw [State.takeOverrun_eq, State.overrunSet_bit]
  split
  · next h => simp [State.haltAtEnd, State.overrunSet, s.overrunLogged_sched, h]
  · next h => simp [State.overrunSet, s.overrunLogged_sched, h]

theorem State.takeOverrun_reg (s : State) (o : Nat) : s.takeOverrun.reg o = s.overrunLogged.reg o := by
  rw [State.takeOverrun_eq]
  split <;> rfl

/-- A grid that can be missed has a period in its registers. -/
theorem State.period_listed (h : s.missesGrid 0 = true) :
    s.reg R.SCHED_PERIOD_NS ≠ regReset R.SCHED_PERIOD_NS ∨ s.reg R.SCHED_PERIOD_FRAC ≠ regReset R.SCHED_PERIOD_FRAC := by
  have hperiod : s.period ≠ 0 := by
    simp only [State.missesGrid, State.locked, Bool.and_eq_true, bne_iff_ne] at h
    exact h.1.2
  by_contra hreset
  obtain ⟨hns, hfrac⟩ := not_or.1 hreset
  refine hperiod ?_
  rw [State.period, State.fld, not_not.1 hns, not_not.1 hfrac]
  decide

/-- The policy is read as it was before the overrun. -/
theorem State.overrunLogged_tickCfg (h : s.missesGrid 0 = true) :
    s.overrunLogged.reg R.SCHED_TICK_CFG = s.reg R.SCHED_TICK_CFG := by
  have hkeeps : KeepsListed R.SCHED_OVERRUN_COUNT s s.overrunLogged :=
    s.overrunShown_keepsListed.trans (s.overrunLogged_keepsListed.mono (by decide))
  rcases State.period_listed h with hns | hfrac
  · exact hkeeps.reg _ _ (by decide) (by decide) hns
  · exact hkeeps.reg _ _ (by decide) (by decide) hfrac

theorem State.takeOverrun_haltPending (h : s.missesGrid 0 = true) : s.takeOverrun.sched.haltPending =
    (s.sched.haltPending || s.bit R.SCHED_TICK_CFG F.SCHED_TICK_CFG_POLICY) := by
  rw [s.takeOverrun_sched, State.bit, State.fld, State.overrunLogged_tickCfg h]
  rfl

/-- OVERRUN shows. -/
theorem State.takeOverrun_shown (s : State) : s.takeOverrun.bit R.SCHED_STATUS F.SCHED_STATUS_OVERRUN = true := by
  let t := s.bump R.SCHED_OVERRUN_COUNT F.SCHED_OVERRUN_COUNT_COUNT
  have hfld : Field.of F.SCHED_STATUS_OVERRUN (F.SCHED_STATUS_OVERRUN.put (t.reg R.SCHED_STATUS) 1) = 1 :=
    Field.of_put _ _ _ (by decide) (by decide)
  have hset : F.SCHED_STATUS_OVERRUN.put (t.reg R.SCHED_STATUS) 1 ≠ regReset R.SCHED_STATUS := fun e => by
    rw [e] at hfld
    exact absurd hfld (by decide)
  have hshown : s.overrunShown.reg R.SCHED_STATUS = F.SCHED_STATUS_OVERRUN.put (t.reg R.SCHED_STATUS) 1 :=
    NMap.get_set_of_ne_default t.regs hset
  have hkept : s.overrunLogged.reg R.SCHED_STATUS = s.overrunShown.reg R.SCHED_STATUS :=
    s.overrunLogged_keepsListed.reg _ _ le_rfl (by decide) (hshown ▸ hset)
  rw [State.bit, State.fld, s.takeOverrun_reg, hkept, hshown, hfld]
  rfl

theorem exec_overrun_idle (h : s.sched.running = false ∨ s.sched.phase = .between ∨ s.sched.overrun = true ∨
    s.missesGrid 0 = false) : exec .overrun s = .next s := by
  rw [show exec .overrun s = execOverrun s from rfl, execOverrun, if_pos h]

/-- An overrun that is due is taken; in a lattice it is a late one, and the halt waits for the tick after. -/
theorem exec_overrun_taken (hrun : s.sched.running = true) (hphase : s.sched.phase ≠ .between)
    (hover : s.sched.overrun = false) (hgrid : s.missesGrid 0 = true) :
    let t := s.takeOverrun
    (s.inLattice = false → exec .overrun s = .next t) ∧
    (s.inLattice = true → exec .overrun s =
      .next ({ t with sched := { t.sched with haltPending := s.sched.haltPending } }.lateOverrun s.sched.nextTick)) ∧
    t.sched.overrun = true ∧
    t.sched.haltPending = (s.sched.haltPending || s.bit R.SCHED_TICK_CFG F.SCHED_TICK_CFG_POLICY) ∧
    t.bit R.SCHED_STATUS F.SCHED_STATUS_OVERRUN = true := by
  have hdue : ¬(s.sched.running = false ∨ s.sched.phase = .between ∨ s.sched.overrun = true ∨ s.missesGrid 0 = false) := by
    simp [hrun, hphase, hover, hgrid]
  have hnext : s.takeOverrun.sched.nextTick = s.sched.nextTick := by rw [s.takeOverrun_sched]
  refine ⟨fun hlat => ?_, fun hlat => ?_, by rw [s.takeOverrun_sched], State.takeOverrun_haltPending hgrid,
    s.takeOverrun_shown⟩
  · rw [show exec .overrun s = execOverrun s from rfl, execOverrun, if_neg hdue, if_neg (by simp [hlat])]
  · rw [show exec .overrun s = execOverrun s from rfl, execOverrun, if_neg hdue, if_pos hlat]
    dsimp only
    rw [hnext]

end Sys2Proof.Machine

/-! The actions of a boundary (01, R20; 02, R59; 03, R88 to R90; 06, R175). -/

namespace Sys2Proof.Machine

variable {s : State}

theorem State.turn_of_next {p : Pending} {f : BoundaryAct → Bool} (hengine : s.sched.engine = false)
    (hstage : s.echo.stageDue = false ∨ s.sched.phase ≠ .t5) (hp : s.nextDue = some p) (hf : f p.act = true) :
    s.turn f = some p :=
  State.turn_eq_some.2 ⟨hengine, fun h => hstage.elim (fun hd => by simp [hd] at h) fun hph => hph h.2, hp, hf⟩

theorem State.turn_of_engine {f : BoundaryAct → Bool} (h : s.sched.engine = true) : s.turn f = none := by
  rw [State.turn, if_pos (.inl h)]

theorem exec_contextSwitch_applies {p : Pending} {c : Nat} (hengine : s.sched.engine = false)
    (hstage : s.echo.stageDue = false ∨ s.sched.phase ≠ .t5) (hp : s.nextDue = some p) (hc : p.act = .context c) :
    exec .contextSwitch s = .next (((s.dropPending p).select c).completeOpt p.cmd 0
      (BitVec.ofNat 64 s.sched.nextTick.toNat)).afterBoundary := by
  rw [show exec .contextSwitch s = execContextSwitch s from rfl, execContextSwitch,
    State.turn_of_next hengine hstage hp (by rw [hc])]
  dsimp only
  rw [hc]

theorem exec_tickConfigApply_applies {p : Pending} {c : TickCfg} (hengine : s.sched.engine = false)
    (hstage : s.echo.stageDue = false ∨ s.sched.phase ≠ .t5) (hp : s.nextDue = some p) (hc : p.act = .tickCfg c) :
    exec .tickConfigApply s =
      let u := if s.sched.phase = .t5 then s.pinContext else s
      .next (((u.dropPending p).setTickCfg c).completeOpt p.cmd 0 (BitVec.ofNat 64 u.sched.nextTick.toNat)).afterBoundary := by
  rw [show exec .tickConfigApply s = execTickConfigApply s from rfl, execTickConfigApply,
    State.turn_of_next hengine hstage hp (by rw [hc])]
  dsimp only
  rw [hc]

theorem exec_haltAtBoundary_halts (hengine : s.sched.engine = false) (hstage : s.echo.stageDue = false)
    (hat : s.sched.phase = .t5 ∨ s.sched.running = false)
    (hrest : s.sched.pending.any (fun p => s.isDue p && !isHalt p.act) = false)
    (hdue : s.sched.pending.filter (fun p => s.isDue p && isHalt p.act) ≠ [] ∨
      s.sched.haltPending = true ∧ s.sched.phase = .t5) :
    exec .haltAtBoundary s = .next ((s.sched.pending.filter (fun p => s.isDue p && isHalt p.act)).foldl State.finishHalt
      (if s.sched.phase = .t5 then s.pinContext.haltNow else s)).afterBoundary := by
  have hturn : ¬(s.sched.engine = true ∨ s.sched.pending.any (fun p => s.isDue p && !isHalt p.act) = true ∨
      s.echo.stageDue = true ∨ (s.sched.phase ≠ .t5 ∧ s.sched.running = true)) := by
    rw [hengine, hrest, hstage]
    simpa [or_iff_not_imp_left] using hat
  have hsome : ¬(s.sched.pending.filter (fun p => s.isDue p && isHalt p.act) = [] ∧
      (s.sched.haltPending = false ∨ s.sched.phase ≠ .t5)) := fun ⟨hnil, hnone⟩ =>
    hdue.elim (fun h => h hnil) fun ⟨hpend, hphase⟩ => hnone.elim (fun h => by simp [h] at hpend) fun h => h hphase
  rw [show exec .haltAtBoundary s = execHaltAtBoundary s from rfl, execHaltAtBoundary, if_neg hturn, if_neg hsome]

/-- While an engine works on the boundary no action takes its turn. -/
theorem exec_boundary_engine (h : s.sched.engine = true) : exec .contextSwitch s = .next s ∧
    exec .tickConfigApply s = .next s ∧ exec .haltAtBoundary s = .next s := by
  refine ⟨?_, ?_, ?_⟩
  · rw [show exec .contextSwitch s = execContextSwitch s from rfl, execContextSwitch, State.turn_of_engine h]
  · rw [show exec .tickConfigApply s = execTickConfigApply s from rfl, execTickConfigApply, State.turn_of_engine h]
  · rw [show exec .haltAtBoundary s = execHaltAtBoundary s from rfl, execHaltAtBoundary, if_pos (.inl h)]

theorem State.atBoundary_iff : s.atBoundary = true ↔ s.sched.phase = .between ∨ s.sched.phase = .t5 := by
  simp [State.atBoundary]

theorem exec_forces_atBoundary (h : s.sched.phase = .between ∨ s.sched.phase = .t5) :
    exec .forceApply s = .next (s.settleForces s.sched.nextTick) ∧
    exec .releaseApply s = .next (s.settleReleases s.sched.nextTick) :=
  ⟨if_pos (State.atBoundary_iff.2 h), if_pos (State.atBoundary_iff.2 h)⟩

theorem exec_forces_inSteps (h : s.sched.phase = .steps) :
    exec .forceApply s = .next s ∧ exec .releaseApply s = .next s := by
  have hnot : ¬s.atBoundary = true := by rw [State.atBoundary_iff, h]; simp
  exact ⟨if_neg hnot, if_neg hnot⟩

theorem exec_assertPop_on {g : Gal} (h : s.isOff g.val = false) :
    let q := NMap.get (fun _ => []) s.fab.asserts g.val
    exec (.assertPop g) s =
      .next { s with fab := { s.fab with asserts := NMap.set (fun _ => []) s.fab.asserts g.val q.tail } } :=
  (State.window_on h : execAssertPop g s = _)

/-- Settles O22: each clause by the lemma about its command. -/
theorem boundaryCommands : Obligations.BoundaryCommands := by
  unfold Obligations.BoundaryCommands
  refine fun s => ⟨exec_overrun_idle, exec_overrun_taken, fun hengine hstage p hp => ⟨fun c hc =>
    exec_contextSwitch_applies hengine hstage hp hc, fun c hc => ⟨fun hphase => ?_, fun hphase hnext => ?_⟩⟩,
    fun hengine hstage hat hrest => ⟨fun hphase hdue => ?_, fun hphase hdue => ?_⟩, exec_boundary_engine,
    exec_forces_atBoundary, exec_forces_inSteps, fun g h => exec_assertPop_on h⟩
  · rw [exec_tickConfigApply_applies hengine hstage hp hc, if_neg hphase]
  · rw [exec_tickConfigApply_applies hengine hstage hp hc, if_pos hphase]
    dsimp only
    rw [hnext]
  · rw [exec_haltAtBoundary_halts hengine hstage hat hrest (hdue.imp_right fun h => ⟨h, hphase⟩), if_pos hphase]
  · rw [exec_haltAtBoundary_halts hengine hstage hat hrest (.inl hdue), if_neg hphase]

end Sys2Proof.Machine

/-! BAR accesses of the host (10, R12, R274, R276 to R284): what turns a request away, and how it is served. -/

namespace Sys2Proof.Machine

variable {s : State} {addr : BitVec 64} {op : HostOp}

/-! Uncorrectable errors: what the host sees of one (R283, R284). -/

theorem UncErr.getLsbD_bit (k : UncErr) : (BitVec.ofNat 32 (2 ^ k.bit)).getLsbD k.bit = true := by cases k <;> decide

/-- The status bit of the error is set. -/
theorem State.aer_status (s : State) (k : UncErr) (hdr : List Word) :
    (s.aer k hdr).host.cfg.uncStatus.getLsbD k.bit = true := by
  rw [(s.aer_keeps k hdr).status, BitVec.getLsbD_or, k.getLsbD_bit, Bool.or_true]

theorem State.aer_replies (s : State) (k : UncErr) (hdr : List Word) : (s.aer k hdr).host.replies = s.host.replies := by
  rw [(s.aer_keeps k hdr).host]

theorem State.aer_hostErr (hs : s.canon) (k : UncErr) (hdr : List Word) :
    (s.aer k hdr).reg R.HOST_ERR = s.reg R.HOST_ERR := (s.aer_keeps k hdr).writes.reg hs _ (by decide)

theorem State.hostErr_replies (s : State) (n bar a st : Nat) : (s.hostErr n bar a st).host.replies = s.host.replies :=
  congrArg HostLink.replies ((s.hostErr_touch n bar a st).2.1 .host rfl)

theorem State.hostErr_mem (s : State) (n bar a st : Nat) : (s.hostErr n bar a st).mem = s.mem :=
  (s.hostErr_touch n bar a st).2.1 .mem rfl

theorem State.hostErr_noc (s : State) (n bar a st : Nat) : (s.hostErr n bar a st).noc = s.noc :=
  (s.hostErr_touch n bar a st).2.1 .noc rfl

theorem State.hostErr_canon (hs : s.canon) (n bar a st : Nat) : (s.hostErr n bar a st).canon :=
  (s.hostErr_touch n bar a st).2.2 hs

/-- An aborted read is answered so. -/
theorem State.abortRead_replies (s : State) (a n : Nat) : (s.abortRead a n).host.replies = s.host.replies ++ [.abort] :=
  congrArg (· ++ [HostReply.abort]) (s.aer_replies ..)

theorem State.abortRead_hostErr (hs : s.canon) (a n : Nat) : (s.abortRead a n).reg R.HOST_ERR = s.reg R.HOST_ERR :=
  State.aer_hostErr hs ..

/-- A read that a condition of HOST_ERR turns away is aborted, with the bit of the condition. -/
theorem State.hostErr_abortRead (hs : s.canon) {n : Nat} (hn : n < 32) (bar a len : Nat) :
    ((s.hostErr n bar a).abortRead a len).host.replies = s.host.replies ++ [.abort] ∧
    (((s.hostErr n bar a).abortRead a len).reg R.HOST_ERR).getLsbD n = true := by
  rw [State.abortRead_replies, State.hostErr_replies, State.abortRead_hostErr (State.hostErr_canon hs ..)]
  exact ⟨rfl, State.getLsbD_hostErr hs hn ..⟩

/-! The gate. -/

theorem State.barOf_none (h : s.host.d3hot = true ∨ s.host.cfg.command.getLsbD 1 = false) (a : Nat) :
    s.barOf a = none := by
  refine State.barOf_closed ?_ a
  rcases h with h | h
  · rw [State.barsOpen, h]
    rfl
  · rw [State.barsOpen, h, Bool.and_false]

theorem State.hostGate_none (h : s.barOf addr.toNat = none) (bar : Nat) (f : State → State) :
    s.hostGate bar addr op .good f = s.unsupported addr op := by
  simp [State.hostGate, h, State.badReq]

/-- An address of another BAR is none of this one's. -/
theorem State.hostGate_other {b bar : Nat} (h : s.barOf addr.toNat = some b) (hne : b ≠ bar) (st : ReqState)
    (f : State → State) : s.hostGate bar addr op st f = s := by
  simp [State.hostGate, h, hne]

theorem State.hostGate_bad {bar : Nat} {st : ReqState} {k : UncErr} (h : s.barOf addr.toNat = some bar)
    (hbad : s.badReq st = some k) (f : State → State) : s.hostGate bar addr op st f =
      (s.hostErr 6 bar addr.toNat).aer k (s.tlpHeader (!isRead op) (st == .poisoned) addr.toNat (opLen op)) := by
  simp [State.hostGate, h, hbad]

theorem State.hostGate_malformed {bar : Nat} (h : s.barOf addr.toNat = some bar) (hform : s.malformed addr op = true)
    (f : State → State) : s.hostGate bar addr op .good f =
      s.aer .malformed (s.tlpHeader (!isRead op) (ReqState.good == .poisoned) addr.toNat (opLen op)) := by
  simp [State.hostGate, h, State.badReq, hform]

theorem State.unsupported_replies (s : State) (addr : BitVec 64) (op : HostOp) :
    (s.unsupported addr op).host.replies = s.host.replies ++ (if isRead op then [.unsupported] else []) := by
  have haer := s.aer_replies .unsupported (s.tlpHeader (!isRead op) false addr.toNat (opLen op))
  cases op with
  | read n => exact congrArg (· ++ [HostReply.unsupported]) haer
  | write bs => exact haer.trans (List.append_nil _).symm

theorem State.unsupported_status (s : State) (addr : BitVec 64) (op : HostOp) :
    (s.unsupported addr op).host.cfg.uncStatus.getLsbD 20 = true := by
  have haer := s.aer_status .unsupported (s.tlpHeader (!isRead op) false addr.toNat (opLen op))
  cases op <;> exact haer

/-! The requests of the three BARs. -/

/-- A BAR2 request. -/
def State.bar2Request (s : State) (addr : BitVec 64) (op : HostOp) : State :=
  match op with
  | .read n =>
    if n.val = 0 then s.reply (.bytes [])
    else (bar2Pieces 17 addr.toNat n.val).foldl (fun s p => s.bar2Read p.1 p.2) s
  | .write bs =>
    (bar2Pieces 17 addr.toNat bs.length).foldl (fun s p =>
      s.bar2Write p.1 ((bs.drop (p.1 - addr.toNat)).take p.2)) s

/-- A BAR4 request through aperture selection `sel`. -/
def State.bar4Request (s : State) (addr : BitVec 64) (op : HostOp) : State :=
  let r := addr.toNat % 2 ^ 20
  let sel := R.BAR4_SEL (addr.toNat / 2 ^ 20 % 16)
  let g := s.fld sel F.BAR4_SEL_GALLERY
  if 256 < opLen op then
    (if isRead op then (s.hostErr 4 4 addr.toNat).abortRead addr.toNat (opLen op) else s.hostErr 4 4 addr.toNat)
  else if s.bit sel F.BAR4_SEL_VALID = false then s.hostAnswer 4 addr.toNat (opLen op) (isRead op) 0x0B []
  else if s.bit sel F.BAR4_SEL_SPACE then s.bar4Net g r addr.toNat op
  else s.bar4Dm g r addr.toNat op

theorem exec_bar0Access (addr : BitVec 64) (op : HostOp) (st : ReqState) (s : State) : exec (.bar0Access addr op st) s =
    .next (s.hostGate 0 addr op st (fun s => s.bar0Request addr op)) := rfl

theorem exec_bar2Access (addr : BitVec 64) (op : HostOp) (st : ReqState) (s : State) : exec (.bar2Access addr op st) s =
    .next (s.hostGate 2 addr op st (fun s => s.bar2Request addr op)) := by cases op <;> rfl

theorem exec_bar4Access (addr : BitVec 64) (op : HostOp) (st : ReqState) (s : State) : exec (.bar4Access addr op st) s =
    .next (s.hostGate 4 addr op st (fun s => s.bar4Request addr op)) := rfl

/-- A request that no BAR decodes. -/
theorem exec_barAccess_none (h : s.barOf addr.toNat = none) :
    exec (.bar0Access addr op .good) s = .next (s.unsupported addr op) ∧
    exec (.bar2Access addr op .good) s = .next (s.unsupported addr op) ∧
    exec (.bar4Access addr op .good) s = .next (s.unsupported addr op) ∧
    (s.unsupported addr op).host.replies = s.host.replies ++ (if isRead op then [.unsupported] else []) ∧
    (s.unsupported addr op).host.cfg.uncStatus.getLsbD 20 = true := by
  rw [exec_bar0Access, exec_bar2Access, exec_bar4Access, State.hostGate_none h, State.hostGate_none h,
    State.hostGate_none h]
  exact ⟨rfl, rfl, rfl, s.unsupported_replies addr op, s.unsupported_status addr op⟩

section Decoded

variable {bar : Nat} (hbar : s.barOf addr.toNat = some bar)
include hbar

/-- The request is the commands' of one BAR: at the others it is nothing. -/
theorem exec_barAccess_other : (bar ≠ 0 → ∀ st, exec (.bar0Access addr op st) s = .next s) ∧
    (bar ≠ 2 → ∀ st, exec (.bar2Access addr op st) s = .next s) ∧
    (bar ≠ 4 → ∀ st, exec (.bar4Access addr op st) s = .next s) := by
  refine ⟨fun hne st => ?_, fun hne st => ?_, fun hne st => ?_⟩
  · rw [exec_bar0Access, State.hostGate_other hbar hne]
  · rw [exec_bar2Access, State.hostGate_other hbar hne]
  · rw [exec_bar4Access, State.hostGate_other hbar hne]

/-- What the gate of the decoding BAR makes of a request it does not serve, whichever BAR it is. -/
theorem exec_barAccess_gate {st : ReqState} {t : State}
    (h : ∀ f : State → State, s.hostGate bar addr op st f = t) : (bar = 0 → exec (.bar0Access addr op st) s = .next t) ∧
    (bar = 2 → exec (.bar2Access addr op st) s = .next t) ∧ (bar = 4 → exec (.bar4Access addr op st) s = .next t) := by
  refine ⟨?_, ?_, ?_⟩ <;> rintro rfl
  · rw [exec_bar0Access, h]
  · rw [exec_bar2Access, h]
  · rw [exec_bar4Access, h]

theorem exec_barAccess_bad (hs : s.canon) (st : ReqState) (k : UncErr) (hbad : s.badReq st = some k) : ∃ t,
    (bar = 0 → exec (.bar0Access addr op st) s = .next t) ∧ (bar = 2 → exec (.bar2Access addr op st) s = .next t) ∧
    (bar = 4 → exec (.bar4Access addr op st) s = .next t) ∧ (t.reg R.HOST_ERR).getLsbD 6 = true ∧
    t.host.cfg.uncStatus.getLsbD k.bit = true ∧ t.host.replies = s.host.replies ∧ t.mem = s.mem ∧ t.noc = s.noc := by
  obtain ⟨h0, h2, h4⟩ := exec_barAccess_gate hbar (State.hostGate_bad (op := op) hbar hbad)
  have haer := (s.hostErr 6 bar addr.toNat).aer_touch k
    (s.tlpHeader (!isRead op) (st == .poisoned) addr.toNat (opLen op))
  refine ⟨_, h0, h2, h4, ?_, State.aer_status .., ?_, ?_, ?_⟩
  · rw [State.aer_hostErr (State.hostErr_canon hs ..)]
    exact State.getLsbD_hostErr hs (by decide) ..
  · rw [State.aer_replies, State.hostErr_replies]
  · exact (haer.2.1 .mem rfl).trans (s.hostErr_mem ..)
  · exact (haer.2.1 .noc rfl).trans (s.hostErr_noc ..)

theorem exec_barAccess_malformed (hform : s.malformed addr op = true) : ∃ t,
    (bar = 0 → exec (.bar0Access addr op .good) s = .next t) ∧
    (bar = 2 → exec (.bar2Access addr op .good) s = .next t) ∧
    (bar = 4 → exec (.bar4Access addr op .good) s = .next t) ∧ t.host.cfg.uncStatus.getLsbD 18 = true ∧
    t.host.replies = s.host.replies ∧ t.mem = s.mem ∧ t.noc = s.noc := by
  obtain ⟨h0, h2, h4⟩ := exec_barAccess_gate hbar (State.hostGate_malformed hbar hform)
  have haer := s.aer_touch .malformed (s.tlpHeader (!isRead op) (ReqState.good == .poisoned) addr.toNat (opLen op))
  exact ⟨_, h0, h2, h4, s.aer_status .malformed _, s.aer_replies .., haer.2.1 .mem rfl, haer.2.1 .noc rfl⟩

end Decoded

/-! BAR0 (R12, R278). -/

section Bar0

variable (hbar : s.barOf addr.toNat = some 0) (hform : s.malformed addr op = false)
include hbar hform

theorem exec_bar0Access_served : exec (.bar0Access addr op .good) s = .next (s.bar0Request addr op) := by
  rw [exec_bar0Access, State.hostGate_served hbar hform]

end Bar0

theorem bar0Off_mod_four (h : addr.toNat % 4 = 0) : bar0Off addr % 4 = 0 := by
  unfold bar0Off
  omega

/-- A block of the fabric die that is no gallery's serves a request itself. -/
theorem State.serveBar0_fabric (hlt : bar0Off addr < 0x1000000) (hd2d : acrossD2d (bar0Off addr) = false) :
    s.serveBar0 addr op = match op with
      | .read n => (s.hostReadWords (bar0Off addr / 4 * 4) (halfCount n.val)).2.reply
          (.bytes (((s.hostReadWords (bar0Off addr / 4 * 4) (halfCount n.val)).1.drop (bar0Off addr % 4)).take n.val))
      | .write bs => s.hostWriteWords (bar0Off addr) (halfCount bs.length) bs := by
  have hgal : ¬(0x1000000 ≤ bar0Off addr ∧ bar0Off addr < 0x1400000 ∧ s.isOff (bar0Off addr / 0x10000 - 0x100) = true) := by
    omega
  have hcross : s.crossD2d (bar0Off addr) = s := by simp [State.crossD2d, hd2d]
  unfold State.serveBar0
  rw [if_neg hgal, hcross] <;> cases op <;> rfl

/-- The one word of an aligned read. -/
theorem State.serveBar0_readWord {n : Fin 4097} (hn : n.val = 4) (h4 : addr.toNat % 4 = 0) (hlt : bar0Off addr < 0x1000000)
    (hd2d : acrossD2d (bar0Off addr) = false) : s.serveBar0 addr (.read n) =
      (s.hostRead32 (bar0Off addr)).2.reply (.bytes (leBytes 4 (s.hostRead32 (bar0Off addr)).1.toNat)) := by
  have hoff := bar0Off_mod_four h4
  have hword : bar0Off addr / 4 * 4 = bar0Off addr := Nat.div_mul_cancel (Nat.dvd_of_mod_eq_zero hoff)
  have hcount : halfCount 4 = 1 := rfl
  have hbytes : (leBytes 4 (s.hostRead32 (bar0Off addr)).1.toNat).take 4 = leBytes 4 (s.hostRead32 (bar0Off addr)).1.toNat :=
    List.take_of_length_le (leBytes_length ..).le
  rw [State.serveBar0_fabric hlt hd2d]
  simp only [hword, hcount, hoff, hn, State.hostReadWords, List.append_nil, List.drop_zero, hbytes]

/-- A block writes the four bytes of an aligned word. -/
theorem State.serveBar0_writeWord (b0 b1 b2 b3 : Byte) (hlt : bar0Off addr < 0x1000000)
    (hd2d : acrossD2d (bar0Off addr) = false) : s.serveBar0 addr (.write [some b0, some b1, some b2, some b3]) =
      s.hostWrite32 (bar0Off addr) (BitVec.ofNat 32 (leNat [b0, b1, b2, b3])) := by
  rw [State.serveBar0_fabric hlt hd2d]
  rfl

theorem bar0Ok_four (h4 : addr.toNat % 4 = 0) : bar0Ok (bar0Off addr) 4 = true := by
  simp [bar0Ok, bar0Off_mod_four h4]

/-- A read of an aligned word that nothing delays. -/
theorem exec_bar0Access_readWord {n : Fin 4097} (hbar : s.barOf addr.toNat = some 0)
    (hform : s.malformed addr (.read n) = false) (hn : n.val = 4) (h4 : addr.toNat % 4 = 0)
    (hblocked : s.blocked (.bar0 addr (.read n) s.sched.now) = false) (hwait : s.noc.waiting = [])
    (hd2d : acrossD2d (bar0Off addr) = false) (hlt : bar0Off addr < 0x1000000) : ∃ t,
    exec (.bar0Access addr (.read n) .good) s = .next t ∧
    t.host.replies = (s.hostRead32 (bar0Off addr)).2.host.replies ++
      [.bytes (leBytes 4 (s.hostRead32 (bar0Off addr)).1.toNat)] := by
  have hrequest : s.bar0Request addr (.read n) = s.arrive (.bar0 addr (.read n) s.sched.now) := by
    simp [State.bar0Request, hn, bar0Ok_four h4]
  refine ⟨_, exec_bar0Access_served hbar hform, ?_⟩
  rw [hrequest, State.arrive_served hblocked hwait, State.serveHeld, State.serveBar0_readWord hn h4 hlt hd2d]
  rfl

/-- A read that R278 does not allow. -/
theorem exec_bar0Access_readBad (hs : s.canon) {n : Fin 4097} (hbar : s.barOf addr.toNat = some 0)
    (hform : s.malformed addr (.read n) = false) (hn : n.val ≠ 0) (hok : bar0Ok (bar0Off addr) n.val = false) : ∃ t,
    exec (.bar0Access addr (.read n) .good) s = .next t ∧ t.host.replies = s.host.replies ++ [.abort] ∧
    (t.reg R.HOST_ERR).getLsbD 1 = true := by
  have hrequest : s.bar0Request addr (.read n) = (s.hostErr 1 0 addr.toNat).abortRead addr.toNat n.val := by
    simp [State.bar0Request, hn, hok]
  refine ⟨_, exec_bar0Access_served hbar hform, ?_⟩
  rw [hrequest]
  exact State.hostErr_abortRead hs (by decide) ..

/-- A write of an aligned word that nothing delays. -/
theorem exec_bar0Access_writeWord (b0 b1 b2 b3 : Byte) (hbar : s.barOf addr.toNat = some 0)
    (hform : s.malformed addr (.write [some b0, some b1, some b2, some b3]) = false) (h4 : addr.toNat % 4 = 0)
    (hblocked : s.blocked (.bar0 addr (.write [some b0, some b1, some b2, some b3]) s.sched.now) = false)
    (hwait : s.noc.waiting = []) (hd2d : acrossD2d (bar0Off addr) = false) (hlt : bar0Off addr < 0x1000000) :
    exec (.bar0Access addr (.write [some b0, some b1, some b2, some b3]) .good) s =
      .next (s.hostWrite32 (bar0Off addr) (BitVec.ofNat 32 (leNat [b0, b1, b2, b3]))) := by
  have hrequest : s.bar0Request addr (.write [some b0, some b1, some b2, some b3]) =
      s.arrive (.bar0 addr (.write [some b0, some b1, some b2, some b3]) s.sched.now) := by
    simp [State.bar0Request, bar0Ok_four h4]
  rw [exec_bar0Access_served hbar hform, hrequest, State.arrive_served hblocked hwait, State.serveHeld,
    State.serveBar0_writeWord b0 b1 b2 b3 hlt hd2d]

/-- A write of a part of a word is dropped. -/
theorem exec_bar0Access_writePart (hs : s.canon) {bs : List (Option Byte)} (hbar : s.barOf addr.toNat = some 0)
    (hform : s.malformed addr (.write bs) = false) (hlen : bs.length ≠ 0) (hpart : bs.length < 4) : ∃ t,
    exec (.bar0Access addr (.write bs) .good) s = .next t ∧ (t.reg R.HOST_ERR).getLsbD 0 = true ∧
    t.host.replies = s.host.replies ∧ t.noc = s.noc := by
  have hrequest : s.bar0Request addr (.write bs) = s.hostErr 0 0 addr.toNat := by
    unfold State.bar0Request
    dsimp only
    rw [if_neg hlen, if_pos hpart]
  refine ⟨_, exec_bar0Access_served hbar hform, ?_⟩
  rw [hrequest]
  exact ⟨State.getLsbD_hostErr hs (by decide) .., s.hostErr_replies .., s.hostErr_noc ..⟩

/-! BAR2 (R279, R280). -/

/-- A request within 256 bytes is one piece. -/
theorem bar2Pieces_one {fuel : Nat} (hfuel : 2 ≤ fuel) {o n : Nat} (hn : 1 ≤ n) (hfit : o % 256 + n ≤ 256) :
    bar2Pieces fuel o n = [(o, n)] := by
  obtain ⟨fuel, rfl⟩ := Nat.exists_eq_add_of_le' hfuel
  have hmin : min n (256 - o % 256) = n := by omega
  simp [bar2Pieces, hmin, Nat.ne_of_gt hn]

theorem exec_bar2Access_served (hbar : s.barOf addr.toNat = some 2) (hform : s.malformed addr op = false) :
    exec (.bar2Access addr op .good) s = .next (s.bar2Request addr op) := by
  rw [exec_bar2Access, State.hostGate_served hbar hform]

theorem State.bar2Request_read {n : Fin 4097} (hn : 1 ≤ n.val) (hfit : addr.toNat % 256 + n.val ≤ 256) :
    s.bar2Request addr (.read n) = s.bar2Read addr.toNat n.val := by
  unfold State.bar2Request
  dsimp only
  rw [if_neg (Nat.ne_of_gt hn), bar2Pieces_one (show 2 ≤ 17 by decide) hn hfit, List.foldl_cons, List.foldl_nil]

theorem State.bar2Request_write {bs : List (Option Byte)} (hn : 1 ≤ bs.length)
    (hfit : addr.toNat % 256 + bs.length ≤ 256) : s.bar2Request addr (.write bs) = s.bar2Write addr.toNat bs := by
  unfold State.bar2Request
  dsimp only
  rw [bar2Pieces_one (show 2 ≤ 17 by decide) hn hfit, List.foldl_cons, List.foldl_nil, Nat.sub_self, List.drop_zero,
    List.take_length]

/-- A read of a ready place that the host may read. -/
theorem State.bar2Read_served {o a k : Nat} (hb : s.bar2Addr (o % 2 ^ 32) = a) (ha : a < 2 ^ 35)
    (hready : s.chanReady (dsChannel a) = true) (hmay : s.hostMayRead a = true) (hue : (s.dsReadBytes a k).2.1 = false) :
    s.bar2Read o k = (s.dsReadBytes a k).2.2.reply (.bytes (s.dsReadBytes a k).1) := by
  have hread : s.dmaDsRead a k = (0, (s.dsReadBytes a k).1, (s.dsReadBytes a k).2.2) := by
    simp [State.dmaDsRead, hready, hmay, hue]
  unfold State.bar2Read
  dsimp only
  rw [hb, if_neg (Nat.not_le.2 ha), hread]
  rfl

/-- Beyond the Deep Store a read gives all ones and a write nothing, each with BAR2_REFUSED. -/
theorem State.bar2Request_beyond (hs : s.canon) (hn : 1 ≤ opLen op) (hfit : addr.toNat % 256 + opLen op ≤ 256)
    (ha : 2 ^ 35 ≤ s.bar2Addr (addr.toNat % 2 ^ 32)) : ((s.bar2Request addr op).reg R.HOST_ERR).getLsbD 2 = true ∧
    (s.bar2Request addr op).host.replies = s.host.replies ++ (if isRead op then [.bytes (allOnes (opLen op))] else []) ∧
    (s.bar2Request addr op).mem = s.mem := by
  have hbit : ((s.hostErr 2 2 addr.toNat).reg R.HOST_ERR).getLsbD 2 = true := State.getLsbD_hostErr hs (by decide) ..
  cases op with
  | read n =>
    have hread : s.bar2Read addr.toNat n.val = (s.hostErr 2 2 addr.toNat).reply (.bytes (allOnes n.val)) := if_pos ha
    rw [State.bar2Request_read hn hfit, hread]
    exact ⟨hbit, congrArg (· ++ [HostReply.bytes (allOnes n.val)]) (s.hostErr_replies ..), s.hostErr_mem ..⟩
  | write bs =>
    have hwrite : s.bar2Write addr.toNat bs = s.hostErr 2 2 addr.toNat := if_pos ha
    rw [State.bar2Request_write hn hfit, hwrite]
    exact ⟨hbit, (s.hostErr_replies ..).trans (List.append_nil _).symm, s.hostErr_mem ..⟩

/-! BAR4 (R281). -/

theorem exec_bar4Access_served (hbar : s.barOf addr.toNat = some 4) (hform : s.malformed addr op = false) :
    exec (.bar4Access addr op .good) s = .next (s.bar4Request addr op) := by
  rw [exec_bar4Access, State.hostGate_served hbar hform]

/-- A request above 256 bytes is aborted, or dropped, with its bit. -/
theorem State.bar4Request_long (hs : s.canon) (hlen : 256 < opLen op) :
    ((s.bar4Request addr op).reg R.HOST_ERR).getLsbD 4 = true ∧
    (s.bar4Request addr op).host.replies = s.host.replies ++ (if isRead op then [.abort] else []) := by
  unfold State.bar4Request
  dsimp only
  rw [if_pos hlen]
  cases op with
  | read n => exact (State.hostErr_abortRead hs (by decide) ..).symm
  | write bs =>
    exact ⟨State.getLsbD_hostErr hs (by decide) .., (s.hostErr_replies ..).trans (List.append_nil _).symm⟩

section Aperture

variable (hlen : opLen op ≤ 256)
include hlen

/-- An aperture that is not valid reads zeros. -/
theorem State.bar4Request_invalid (hvalid : s.bit (R.BAR4_SEL (addr.toNat / 2 ^ 20 % 16)) F.BAR4_SEL_VALID = false) :
    s.bar4Request addr op = match op with | .read n => s.reply (.bytes (List.replicate n.val 0)) | .write _ => s := by
  unfold State.bar4Request
  dsimp only
  rw [if_neg (Nat.not_lt.2 hlen), if_pos hvalid]
  cases op <;> rfl

variable (hvalid : s.bit (R.BAR4_SEL (addr.toNat / 2 ^ 20 % 16)) F.BAR4_SEL_VALID = true)
include hvalid

/-- A Design Memory aperture queues the bank accesses of the bytes. -/
theorem State.bar4Request_dm (hspace : s.bit (R.BAR4_SEL (addr.toNat / 2 ^ 20 % 16)) F.BAR4_SEL_SPACE = false)
    (hsome : opLen op ≠ 0) : s.bar4Request addr op =
      s.bankRequest ⟨s.fld (R.BAR4_SEL (addr.toNat / 2 ^ 20 % 16)) F.BAR4_SEL_GALLERY, addr.toNat % 2 ^ 20 / 8,
        hostOps (addr.toNat % 2 ^ 20) op, none, [], 0,
        .host addr.toNat (addr.toNat % 2 ^ 20 % 8) (opLen op) (isRead op) s.sched.now⟩ := by
  unfold State.bar4Request State.bar4Dm
  dsimp only
  rw [if_neg (Nat.not_lt.2 hlen), if_neg (ne_false_of_eq_true hvalid), if_neg (ne_true_of_eq_false hspace), if_neg hsome]

/-- A net-store aperture queues the net-store words of the bytes. -/
theorem State.bar4Request_net (hspace : s.bit (R.BAR4_SEL (addr.toNat / 2 ^ 20 % 16)) F.BAR4_SEL_SPACE = true)
    (hsome : opLen op ≠ 0)
    (hon : s.isOff (s.fld (R.BAR4_SEL (addr.toNat / 2 ^ 20 % 16)) F.BAR4_SEL_GALLERY) = false) :
    ∃ q : NetReq, (s.bar4Request addr op).host.netQ = s.host.netQ ++ [q] ∧
      q.gal = s.fld (R.BAR4_SEL (addr.toNat / 2 ^ 20 % 16)) F.BAR4_SEL_GALLERY ∧
      q.addr = addr.toNat ∧ q.off = addr.toNat % 2 ^ 20 ∧ q.left = opLen op ∧ q.got = [] ∧ q.born = s.sched.now ∧
      q.write = (match op with | .read _ => none | .write bs => some bs) := by
  unfold State.bar4Request State.bar4Net
  dsimp only
  rw [if_neg (Nat.not_lt.2 hlen), if_neg (ne_false_of_eq_true hvalid), if_pos hspace, if_neg (ne_true_of_eq_false hon), if_neg hsome]
  exact ⟨_, rfl, rfl, rfl, rfl, rfl, rfl, rfl, by cases op <;> rfl⟩

end Aperture

end Sys2Proof.Machine

/-! The three BARs, together. -/

namespace Sys2Proof.Machine

/-- Settles O58: the gate, then each BAR by the lemmas about its requests. -/
theorem hostAccessesAreGatedAndServed : Obligations.HostAccessesAreGatedAndServed := by
  unfold Obligations.HostAccessesAreGatedAndServed
  refine fun addr op s hs => ⟨fun h => State.barOf_none h _, exec_barAccess_none, fun bar hbar => ?_, fun hbar hform => ?_,
    fun hbar hform hfit hn => ?_, fun hbar hform => ?_⟩
  · obtain ⟨h0, h2, h4⟩ := exec_barAccess_other (op := op) hbar
    exact ⟨h0, h2, h4, exec_barAccess_bad hbar hs, exec_barAccess_malformed hbar⟩
  · refine ⟨?_, ?_, ?_⟩
    · rintro n rfl
      exact ⟨fun hn h4 hblocked hwait hd2d hlt => exec_bar0Access_readWord hbar hform hn h4 hblocked hwait hd2d hlt,
        exec_bar0Access_readBad hs hbar hform⟩
    · rintro b0 b1 b2 b3 rfl h4 hblocked hwait hd2d hlt
      exact exec_bar0Access_writeWord b0 b1 b2 b3 hbar hform h4 hblocked hwait hd2d hlt
    · rintro bs rfl hlen hpart
      exact exec_bar0Access_writePart hs hbar hform hlen hpart
  · rw [exec_bar2Access_served hbar hform]
    refine ⟨?_, ?_, fun ha => ⟨_, rfl, State.bar2Request_beyond hs hn hfit ha⟩⟩
    · rintro n rfl ha hready hmay hue
      refine ⟨_, rfl, ?_⟩
      rw [State.bar2Request_read hn hfit, State.bar2Read_served rfl ha hready hmay hue]
      rfl
    · rintro bs rfl ha
      rw [State.bar2Request_write hn hfit]
      exact congrArg Host.Outcome.next (if_neg (Nat.not_le.2 ha))
  · rw [exec_bar4Access_served hbar hform]
    refine ⟨fun hlen => ⟨_, rfl, State.bar4Request_long hs hlen⟩, fun hlen => ⟨fun hvalid => ?_,
      fun hvalid hspace hsome => ?_, fun hvalid hspace hsome hon => ?_⟩⟩
    · rw [State.bar4Request_invalid hlen hvalid] <;> cases op <;> rfl
    · exact congrArg Host.Outcome.next (State.bar4Request_dm hlen hvalid hspace hsome)
    · obtain ⟨q, hq⟩ := State.bar4Request_net hlen hvalid hspace hsome hon
      exact ⟨_, q, rfl, hq⟩

end Sys2Proof.Machine

/-! Control NoC packets (01, R10; 05, R154; 10, R287 to R296): answers, routes and nodes. -/

namespace Sys2Proof.Machine

variable {s : State} {p : NocPkt}

/-- Is the requester a node of this device? -/
def State.fromHere (s : State) (p : NocPkt) : Prop := p.remote = false ∨ p.srcDev.val = s.devNum

/-! Responses (R154, R289). -/

/-- The response to a request of this device comes out at its node. -/
def State.answeredHere (s : State) (p : NocPkt) (st : Nat) (data : List Dword) : State :=
  { s with noc := { s.noc with out := s.noc.out ++ [respond p st data] } }

theorem State.answerPkt_here (hkind : p.kind ≠ .posted) (hhere : s.fromHere p) (st : Nat) (data : List Dword) :
    s.answerPkt p st data = s.answeredHere p st data := by
  have hresponse : (respond p st data).remote = false ∨ (respond p st data).destDev.val = s.devNum := hhere
  rw [State.answerPkt, if_neg hkind, State.sendResponse, if_pos hresponse, State.answeredHere]

/-- The response to a request of another device leaves by the port of its route. -/
theorem State.answerPkt_away (hkind : p.kind ≠ .posted) (hremote : p.remote = true) (haway : p.srcDev.val ≠ s.devNum)
    {port : Nat} (hport : s.routePort p.srcDev.val = some port) (st : Nat) (data : List Dword) :
    (s.answerPkt p st data).noc.tunnelQ = s.noc.tunnelQ ++ [(port, 16, respond p st data)] := by
  have hresponse : ¬((respond p st data).remote = false ∨ (respond p st data).destDev.val = s.devNum) :=
    not_or.2 ⟨ne_false_of_eq_true hremote, haway⟩
  have hroute : s.routePort (respond p st data).destDev.val = some port := hport
  rw [State.answerPkt, if_neg hkind, State.sendResponse, if_neg hresponse, hroute]

/-- An answer is no write of a register. -/
theorem State.answerPkt_reg (s : State) (p : NocPkt) (st : Nat) (data : List Dword) (o : Nat) :
    (s.answerPkt p st data).reg o = s.reg o :=
  congrArg (NMap.get regReset · o) (Prod.mk.inj ((s.answerPkt_touch p st data).2.1 .regs rfl)).1

theorem State.fld_answerPkt (s : State) (p : NocPkt) (st : Nat) (data : List Dword) (o : Nat) (f : Field) :
    (s.answerPkt p st data).fld o f = s.fld o f := congrArg f.of (s.answerPkt_reg p st data o)

/-! The proxy of an Off gallery (R296). -/

theorem hasEndpoint_galNode (g : Gal) : hasEndpoint (galNode g.val) = true := by decide +revert

theorem nodeGal_galNode (g : Gal) : nodeGal (galNode g.val) = some g.val := by decide +revert

/-- A counter that saturates. -/
theorem State.fld_bump (h : s.canon) (o : Nat) {f : Field} (hlo : f.lo ≤ f.hi) (hhi : f.hi < 32) :
    (s.bump o f).fld o f = min (f.size - 1) (s.fld o f + 1) := by
  have hsize : 0 < f.size := Nat.two_pow_pos _
  have hsat : satAdd (f.size - 1) (s.fld o f) 1 = min (f.size - 1) (s.fld o f + 1) := by
    unfold satAdd
    split <;> omega
  rw [State.bump, State.fld_put s o f _ h.1 hlo hhi, hsat, Nat.mod_eq_of_lt]
  omega

theorem State.atNode_off {g : Gal} (hdest : p.dest.toNat = galNode g.val) (hoff : s.isOff g.val = true)
    (hkind : p.kind = .read ∨ p.kind = .write) : s.atNode p = (s.countOff g.val false).answerPkt p 2 [] := by
  have hproxy : s.proxyPkt g.val p = (s.countOff g.val false).answerPkt p 2 [] := by
    unfold State.proxyPkt
    rcases hkind with h | h <;> rw [h] <;> rfl
  have hgal : s.galPkt g.val p = s.proxyPkt g.val p := if_pos hoff
  unfold State.atNode
  dsimp only
  rw [hdest, hasEndpoint_galNode, nodeGal_galNode, if_neg Bool.noConfusion]
  rcases hkind with h | h <;> rw [h] <;> exact hgal.trans hproxy

theorem State.countOff_writes (s : State) (g : Nat) (posted : Bool) :
    Writes [R.NOC_OFF_COUNT g] s (s.countOff g posted) :=
  .ite (.bump List.mem_cons_self) (.bump List.mem_cons_self)

/-- The count leaves the device's number and its routes. -/
theorem State.devNum_countOff (hs : s.canon) (g : Gal) (posted : Bool) : (s.countOff g.val posted).devNum = s.devNum := by
  have hne : R.LTC_ID ∉ [R.NOC_OFF_COUNT g.val] := by
    rw [List.mem_singleton]
    unfold R.LTC_ID R.NOC_OFF_COUNT
    omega
  exact congrArg F.LTC_ID_DEVICE_NUM.of ((s.countOff_writes g.val posted).reg hs _ hne)

theorem State.routePort_countOff (hs : s.canon) (g : Gal) (posted : Bool) (d : Fin 512) :
    (s.countOff g.val posted).routePort d.val = s.routePort d.val := by
  have hne : R.LTC_ROUTE (d.val / 4) ∉ [R.NOC_OFF_COUNT g.val] := by
    rw [List.mem_singleton]
    unfold R.LTC_ROUTE R.NOC_OFF_COUNT
    omega
  rw [State.routePort, State.routePort, (s.countOff_writes g.val posted).reg hs _ hne]

theorem kind_ne_posted (h : p.kind = .read ∨ p.kind = .write) : p.kind ≠ .posted := by
  rcases h with h | h <;> rw [h] <;> exact PktKind.noConfusion

/-- The proxy answers a read or a write DOMAIN_OFF and counts it. -/
theorem State.atNode_off_answers (hs : s.canon) {g : Gal} (hdest : p.dest.toNat = galNode g.val)
    (hoff : s.isOff g.val = true) (hkind : p.kind = .read ∨ p.kind = .write) :
    (s.fromHere p → (s.atNode p).noc.out = s.noc.out ++ [respond p 2 []]) ∧
    (p.remote = true → p.srcDev.val ≠ s.devNum → ∀ port, s.routePort p.srcDev.val = some port →
      (s.atNode p).noc.tunnelQ = s.noc.tunnelQ ++ [(port, 16, respond p 2 [])]) ∧
    (s.atNode p).fld (R.NOC_OFF_COUNT g.val) F.NOC_OFF_COUNT_REQUESTS =
      min (F.NOC_OFF_COUNT_REQUESTS.size - 1) (s.fld (R.NOC_OFF_COUNT g.val) F.NOC_OFF_COUNT_REQUESTS + 1) := by
  have hnoc : (s.countOff g.val false).noc = s.noc := (s.countOff_touch g.val false).2.1 .noc rfl
  rw [State.atNode_off hdest hoff hkind]
  refine ⟨fun hhere => ?_, fun hremote haway port hport => ?_, ?_⟩
  · have hcounted : (s.countOff g.val false).fromHere p := hhere.imp_right fun h => h.trans (s.devNum_countOff hs ..).symm
    rw [State.answerPkt_here (kind_ne_posted hkind) hcounted, State.answeredHere, hnoc]
  · rw [State.answerPkt_away (kind_ne_posted hkind) hremote (by rwa [State.devNum_countOff hs])
      (by rwa [State.routePort_countOff hs]), hnoc]
  · rw [State.fld_answerPkt]
    exact State.fld_bump hs _ (by decide) (by decide)

/-! Nodes without an endpoint (R10). -/

theorem State.devNum_recordNoc (hs : s.canon) (n node src : Nat) : (s.recordNoc n node src).devNum = s.devNum := by
  have hraise : (s.raise R.NOC_ERR ⟨n, n⟩).reg R.LTC_ID = s.reg R.LTC_ID := s.put_reg_of_ne _ _ _ _ hs.1 (by decide)
  have hrecord := (s.recordNoc_writes n node src).reg ((s.raise_touch ..).2.2 hs) R.LTC_ID (by decide)
  exact congrArg F.LTC_ID_DEVICE_NUM.of (hrecord.trans hraise)

theorem State.atNode_noEndpoint (hs : s.canon) (hnone : hasEndpoint p.dest.toNat = false)
    (hkind : p.kind = .read ∨ p.kind = .write) (hhere : s.fromHere p) :
    (s.atNode p).noc.out = s.noc.out ++ [respond p 1 []] ∧ ((s.atNode p).reg R.NOC_ERR).getLsbD 2 = true := by
  have hatNode : s.atNode p = (s.recordNoc 2 p.dest.toNat p.src.toNat).answerPkt p 1 [] := by
    have hnode : s.atNode p = s.noEndpoint p := if_pos hnone
    rw [hnode, State.noEndpoint]
    rcases hkind with h | h <;> rw [h]
  have hrecorded : (s.recordNoc 2 p.dest.toNat p.src.toNat).fromHere p :=
    hhere.imp_right fun h => h.trans (s.devNum_recordNoc hs ..).symm
  have hnoc : (s.recordNoc 2 p.dest.toNat p.src.toNat).noc = s.noc := (s.recordNoc_touch ..).2.1 .noc rfl
  rw [hatNode]
  refine ⟨?_, ?_⟩
  · rw [State.answerPkt_here (kind_ne_posted hkind) hrecorded, State.answeredHere, hnoc]
  · rw [State.answerPkt_reg]
    exact State.getLsbD_recordNoc hs (by decide) _ _

/-! NOC_PACKET. -/

/-- A packet with a bad header is recorded and takes no effect. -/
theorem exec_nocPacket_bad (hs : s.canon) (hbad : badHeader p = true) : ∃ t, exec (.nocPacket p) s = .next t ∧
    (t.reg R.NOC_ERR).getLsbD 3 = true ∧ t.noc = s.noc ∧ t.mem = s.mem ∧ t.fab = s.fab := by
  have htouch := s.recordNoc_touch 3 p.src.toNat p.src.toNat
  exact ⟨_, if_pos hbad, State.getLsbD_recordNoc hs (by decide) _ _, htouch.2.1 .noc rfl, htouch.2.1 .mem rfl,
    htouch.2.1 .fab rfl⟩

theorem exec_nocPacket_away (hgood : badHeader p = false) (hremote : p.remote = true) (haway : p.destDev.val ≠ s.devNum) :
    exec (.nocPacket p) s = match s.routePort p.destDev.val with
      | some port => .next (s.tunnel port 16 p)
      | none => .next (s.used.noRoute (s.freeVal 4) p) := by
  rw [show exec (.nocPacket p) s = execNocPacket p s from rfl, execNocPacket, if_neg (ne_true_of_eq_false hgood),
    if_pos ⟨hremote, haway⟩] <;> rfl

theorem exec_nocPacket_local (hgood : badHeader p = false) (hlocal : ¬(p.remote = true ∧ p.destDev.val ≠ s.devNum)) :
    exec (.nocPacket p) s = .next (s.arrive (.pkt p)) := by
  rw [show exec (.nocPacket p) s = execNocPacket p s from rfl, execNocPacket, if_neg (ne_true_of_eq_false hgood),
    if_neg hlocal]

/-- Without a route a request of this device is answered NO_ROUTE. -/
theorem exec_nocPacket_noRoute (hgood : badHeader p = false) (hremote : p.remote = true)
    (haway : p.destDev.val ≠ s.devNum) (hroute : s.routePort p.destDev.val = none)
    (hrequest : p.kind = .read ∨ p.kind = .write ∨ p.kind = .atomic) (hhere : s.fromHere p) :
    ∃ t, exec (.nocPacket p) s = .next t ∧ t.noc.out = s.noc.out ++ [respond p 0x0A []] ∧ t.regs = s.regs := by
  have hkind : p.kind ≠ .posted := by rcases hrequest with h | h | h <;> rw [h] <;> exact PktKind.noConfusion
  have hanswer : s.used.noRoute (s.freeVal 4) p = s.used.answerPkt p 0x0A [] := by
    unfold State.noRoute
    rcases hrequest with h | h | h <;> rw [h]
  have hused : s.used.fromHere p := hhere
  refine ⟨s.used.answeredHere p 0x0A [], ?_, rfl, rfl⟩
  rw [exec_nocPacket_away hgood hremote haway, hroute, hanswer, State.answerPkt_here hkind hused]

theorem not_sentAway (h : p.remote = false ∨ p.destDev.val = s.devNum) : ¬(p.remote = true ∧ p.destDev.val ≠ s.devNum) :=
  fun ⟨hremote, haway⟩ => h.elim (ne_false_of_eq_true hremote) haway

/-- A local packet that nothing delays is served at its node. -/
theorem exec_nocPacket_served (hgood : badHeader p = false) (hlocal : p.remote = false ∨ p.destDev.val = s.devNum)
    (hblocked : s.blocked (.pkt p) = false) (hwait : s.noc.waiting.any (sameLane (.pkt p)) = false) :
    exec (.nocPacket p) s = .next (s.atNode p) := by
  have harrive : s.arrive (.pkt p) = s.serveHeld (.pkt p) := by
    rw [State.arrive, hblocked, hwait]
    rfl
  rw [exec_nocPacket_local hgood (not_sentAway hlocal), harrive, State.serveHeld]

/-- One that is delayed waits. -/
theorem exec_nocPacket_delayed (hgood : badHeader p = false)
    (hlocal : ¬(p.remote = true ∧ p.destDev.val ≠ s.devNum)) (hblocked : s.blocked (.pkt p) = true) :
    exec (.nocPacket p) s = .next { s with noc := { s.noc with waiting := s.noc.waiting ++ [.pkt p] } } := by
  have harrive : s.arrive (.pkt p) = { s with noc := { s.noc with waiting := s.noc.waiting ++ [.pkt p] } } := by
    rw [State.arrive, hblocked]
    rfl
  rw [exec_nocPacket_local hgood hlocal, harrive]

/-! Conditions of a port (R153, R156). -/

/-- The place of the first condition of a port. -/
def State.psgErrLoc (s : State) (p n flit : Nat) : State :=
  if s.bit (R.PSG_ERR_LOC p) F.PSG_ERR_LOC_VALID then s else
    (((s.put (R.PSG_ERR_LOC p) F.PSG_ERR_LOC_CODE n).put (R.PSG_ERR_LOC p) F.PSG_ERR_LOC_FLIT flit).put
      (R.PSG_ERR_LOC p) F.PSG_ERR_LOC_TICK s.tick32).raise (R.PSG_ERR_LOC p) F.PSG_ERR_LOC_VALID

theorem State.recordPsg_eq (s : State) (p n flit : Nat) : s.recordPsg p n flit =
    ((s.raise (R.PSG_ERR p) ⟨n, n⟩).psgErrLoc p n flit).detect 0x05 n p
      (((s.raise (R.PSG_ERR p) ⟨n, n⟩).psgErrLoc p n flit).regBytes [R.PSG_ERR_LOC p]) := rfl

theorem State.psgErrLoc_writes (s : State) (p n flit : Nat) : Writes (R.PSG_ERR_LOC p :: errRegs) s (s.psgErrLoc p n flit) :=
  have hloc : R.PSG_ERR_LOC p ∈ R.PSG_ERR_LOC p :: errRegs := List.mem_cons_self
  .ite .refl ((((Writes.put hloc).trans (.put hloc)).trans (.put hloc)).trans (.raise hloc))

theorem State.recordPsg_writes (s : State) (p n flit : Nat) :
    Writes (R.PSG_ERR_LOC p :: errRegs) (s.raise (R.PSG_ERR p) ⟨n, n⟩) (s.recordPsg p n flit) := by
  rw [State.recordPsg_eq]
  exact (State.psgErrLoc_writes ..).trans ((State.detect_writes ..).mono (List.subset_cons_self ..))

theorem R.PSG_ERR_notMem (port : PortNo) : R.PSG_ERR port.val ∉ R.PSG_ERR_LOC port.val :: errRegs := by decide +revert

/-- The bit of the condition is set. -/
theorem State.getLsbD_recordPsg (hs : s.canon) (port : PortNo) {n : Nat} (hn : n < 32) (flit : Nat) :
    ((s.recordPsg port.val n flit).reg (R.PSG_ERR port.val)).getLsbD n = true := by
  rw [(s.recordPsg_writes port.val n flit).reg ((s.raise_touch ..).2.2 hs) _ (R.PSG_ERR_notMem port)]
  exact s.getLsbD_raise hs _ hn

/-- A posted write that no route takes on is dropped as HOP_LIMIT. -/
theorem State.noRoute_posted (hs : s.canon) (port : PortNo) (hkind : p.kind = .posted) :
    ((s.noRoute port.val p).reg (R.PSG_ERR port.val)).getLsbD 10 = true := by
  unfold State.noRoute
  rw [hkind]
  exact State.getLsbD_recordPsg ((s.bump_touch ..).2.2 hs) port (by decide) 0

/-! NOC_TUNNEL_PACKET (R154). -/

section Tunnel

variable {port : PortNo} {ttl : BitVec 8}

theorem exec_nocTunnelPacket_silent (h : s.receives port.val = false) :
    exec (.nocTunnelPacket port ttl p) s = .next s := if_pos h

variable (hrecv : s.receives port.val = true)
include hrecv

theorem exec_nocTunnelPacket_bad (hs : s.canon) (hbad : badHeader p = true) :
    ∃ t, exec (.nocTunnelPacket port ttl p) s = .next t ∧ (t.reg R.NOC_ERR).getLsbD 3 = true ∧ t.noc = s.noc := by
  have hcredit := s.giveCredit_touch port.val p
  refine ⟨(s.giveCredit port.val p).recordNoc 3 p.src.toNat p.src.toNat, ?_,
    State.getLsbD_recordNoc (hcredit.2.2 hs) (by decide) _ _,
    ((State.recordNoc_touch ..).2.1 .noc rfl).trans (hcredit.2.1 .noc rfl)⟩
  rw [show exec (.nocTunnelPacket port ttl p) s = execNocTunnelPacket port ttl p s from rfl, execNocTunnelPacket,
    if_neg (ne_false_of_eq_true hrecv), if_pos hbad]

variable (hgood : badHeader p = false)
include hgood

theorem exec_nocTunnelPacket_here (hdest : p.destDev.val = s.devNum) :
    exec (.nocTunnelPacket port ttl p) s = .next ((s.giveCredit port.val p).arrive (.pkt p)) := by
  have hcredit : p.destDev.val = (s.giveCredit port.val p).devNum := hdest
  rw [show exec (.nocTunnelPacket port ttl p) s = execNocTunnelPacket port ttl p s from rfl, execNocTunnelPacket,
    if_neg (ne_false_of_eq_true hrecv), if_neg (ne_true_of_eq_false hgood), if_pos hcredit]

variable (hdest : p.destDev.val ≠ s.devNum)
include hdest

/-- A packet for another device goes on with one hop less, or finds no route. -/
theorem exec_nocTunnelPacket_away : exec (.nocTunnelPacket port ttl p) s =
    if ttl.toNat ≤ 1 then .next ((s.giveCredit port.val p).noRoute port.val p)
    else match s.routePort p.destDev.val with
      | some q => .next ((s.giveCredit port.val p).tunnel q (ttl.toNat - 1) p)
      | none => .next ((s.giveCredit port.val p).noRoute port.val p) := by
  have hcredit : ¬p.destDev.val = (s.giveCredit port.val p).devNum := hdest
  rw [show exec (.nocTunnelPacket port ttl p) s = execNocTunnelPacket port ttl p s from rfl, execNocTunnelPacket,
    if_neg (ne_false_of_eq_true hrecv), if_neg (ne_true_of_eq_false hgood), if_neg hcredit]
  rfl

theorem exec_nocTunnelPacket_goesOn (httl : 2 ≤ ttl.toNat) {q : Nat} (hroute : s.routePort p.destDev.val = some q) :
    exec (.nocTunnelPacket port ttl p) s = .next ((s.giveCredit port.val p).tunnel q (ttl.toNat - 1) p) := by
  rw [exec_nocTunnelPacket_away hrecv hgood hdest, if_neg (Nat.not_le.2 httl), hroute]

theorem exec_nocTunnelPacket_stops (h : ttl.toNat ≤ 1 ∨ s.routePort p.destDev.val = none) :
    exec (.nocTunnelPacket port ttl p) s = .next ((s.giveCredit port.val p).noRoute port.val p) := by
  rw [exec_nocTunnelPacket_away hrecv hgood hdest]
  rcases h with h | h
  · rw [if_pos h]
  · rw [h]
    exact ite_self _

end Tunnel

end Sys2Proof.Machine

/-! Packets, together. -/

namespace Sys2Proof.Machine

/-- Settles O60: each clause by the lemma about its command. -/
theorem packetsAreRoutedAndServed : Obligations.PacketsAreRoutedAndServed := by
  unfold Obligations.PacketsAreRoutedAndServed
  refine fun p s hs => ⟨exec_nocPacket_bad hs, fun hgood hremote haway => ⟨fun port hroute => ?_,
    exec_nocPacket_noRoute hgood hremote haway⟩, fun hgood hlocal hblocked hwait =>
    ⟨exec_nocPacket_served hgood hlocal hblocked hwait, fun g hdest hoff hkind => State.atNode_off_answers hs hdest hoff hkind,
      fun hnone hkind hhere => State.atNode_noEndpoint hs hnone hkind hhere⟩, exec_nocPacket_delayed,
    fun port ttl => ⟨exec_nocTunnelPacket_silent, fun hrecv => exec_nocTunnelPacket_bad hrecv hs,
      fun hrecv hgood hdest => exec_nocTunnelPacket_here hrecv hgood hdest, fun hrecv hgood hdest =>
      ⟨fun httl q hroute => exec_nocTunnelPacket_goesOn hrecv hgood hdest httl hroute, fun hstop =>
        ⟨exec_nocTunnelPacket_stops hrecv hgood hdest hstop,
          State.noRoute_posted ((s.giveCredit_touch port.val p).2.2 hs) port⟩⟩⟩⟩
  rw [exec_nocPacket_away hgood hremote haway, hroute]

end Sys2Proof.Machine

/-! Bring-up, the die-to-die link and the PCIe link (R8, R272, R275, R394). -/

namespace Sys2Proof.Machine

/-- The state stays canonical and the registers `qs` are as before. -/
structure Spares (qs : List Nat) (s t : State) : Prop where
  canon : s.canon → t.canon
  reg : s.canon → ∀ q ∈ qs, t.reg q = s.reg q

section Spares

variable {qs : List Nat} {s t u : State}

theorem Spares.refl : Spares qs s s := ⟨id, fun _ _ _ => rfl⟩

theorem Spares.trans (h : Spares qs s t) (g : Spares qs t u) : Spares qs s u :=
  ⟨fun hs => g.canon (h.canon hs), fun hs q hq => (g.reg (h.canon hs) q hq).trans (h.reg hs q hq)⟩

theorem Spares.mono {rs : List Nat} (h : Spares rs s t) (hr : qs ⊆ rs) : Spares qs s t :=
  ⟨h.canon, fun hs q hq => h.reg hs q (hr hq)⟩

/-- An operation spares the registers that are not among those it writes. -/
theorem Spares.of_writes {os : List Nat} (h : Writes os s t) (hd : ∀ q ∈ qs, q ∉ os) : Spares qs s t :=
  ⟨h.canon, fun hs q hq => h.reg hs q (hd q hq)⟩

theorem Spares.of_touch {m : Nat} (h : Touch m s t) (hm : m.testBit 0 = false := by rfl) : Spares qs s t :=
  .of_writes (os := []) (.of_touch h hm) fun _ _ => List.not_mem_nil

theorem Spares.setReg {o : Nat} {w : Word} (ho : o ∉ qs) : Spares qs s (s.setReg o w) :=
  .of_writes (.setReg (List.mem_singleton_self o)) fun _ hq e => ho (List.mem_singleton.1 e ▸ hq)

theorem Spares.put {o n : Nat} {f : Field} (ho : o ∉ qs) : Spares qs s (s.put o f n) := .setReg ho

theorem Spares.raise {o : Nat} {f : Field} (ho : o ∉ qs) : Spares qs s (s.raise o f) :=
  .of_writes (.raise (List.mem_singleton_self o)) fun _ hq e => ho (List.mem_singleton.1 e ▸ hq)

/-- The trace record holds no register. -/
theorem Spares.set_trc {r : Trace} : Spares qs s { s with trc := r } := ⟨id, fun _ _ _ => rfl⟩

/-- A march that is asked for writes nothing yet. -/
theorem Spares.add_march {m : March} : Spares qs s { s with mem := { s.mem with marches := s.mem.marches ++ [m] } } :=
  ⟨id, fun _ _ _ => rfl⟩

theorem Spares.ite {c : Prop} [Decidable c] (ht : c → Spares qs s t) (hu : Spares qs s u) :
    Spares qs s (if c then t else u) := by
  split
  · exact ht ‹_›
  · exact hu

theorem Spares.foldl {α : Type} {f : State → α → State} {l : List α} (hf : ∀ x ∈ l, ∀ t, Spares qs t (f t x)) :
    Spares qs s (l.foldl f s) := by
  induction l generalizing s with
  | nil => exact .refl
  | cons x xs ih =>
    exact (hf x List.mem_cons_self s).trans (ih fun y hy => hf y (List.mem_cons_of_mem x hy))

end Spares

/-! What bring-up leaves alone. -/

/-- The registers whose values bring-up reads or leaves: the function bits of DEVICE_READY, LNT_STATUS, PWR_STATUS. -/
def upRegs : List Nat := [R.DEVICE_READY0 + 12, R.LNT_STATUS, R.PWR_STATUS]

theorem mem_upRegs {o : Nat} : o ∈ upRegs ↔ o = 0x1C ∨ o = 0x200000 ∨ o = 0x203000 := by
  simp [upRegs, R.DEVICE_READY0, R.LNT_STATUS, R.PWR_STATUS]

/-- A register of the trace sources lies below Lantern's window. -/
theorem TRC_SRC_STATUS_notMem_upRegs {k : Nat} (hk : k < 68) : R.TRC_SRC_STATUS k ∉ upRegs := by
  rw [mem_upRegs, R.TRC_SRC_STATUS]; omega

theorem TRC_STATUS_notMem_upRegs : R.TRC_STATUS ∉ upRegs := by decide

theorem MBX_Q_STATUS_notMem_upRegs {q : Nat} (hq : q < 16) : R.MBX_Q_STATUS q ∉ upRegs := by
  rw [mem_upRegs, R.MBX_Q_STATUS]; omega

theorem RIM_BANK_notMem_upRegs {b : Nat} (hb : b < 8) : R.RIM_BANK b ∉ upRegs := by
  rw [mem_upRegs, R.RIM_BANK]; omega

theorem GAL_DM_REPAIR_notMem_upRegs (g c : Nat) : R.GAL_DM_REPAIR g c ∉ upRegs := by
  rw [mem_upRegs, R.GAL_DM_REPAIR]; omega

theorem GAL_MARCH_CTL_notMem_upRegs (g : Nat) : R.GAL_MARCH_CTL g ∉ upRegs := by
  rw [mem_upRegs, R.GAL_MARCH_CTL]; omega

section TracePackets

variable (s : State) {k : Nat}

theorem State.setFifo_spares (hk : k < 68) (l : List Dword) : Spares upRegs s (s.setFifo k l) :=
  Spares.set_trc.trans ((Spares.put (TRC_SRC_STATUS_notMem_upRegs hk)).trans (.put TRC_STATUS_notMem_upRegs))

theorem State.setLost_spares (hk : k < 68) (n : Nat) : Spares upRegs s (s.setLost k n) :=
  Spares.set_trc.trans (.put (TRC_SRC_STATUS_notMem_upRegs hk))

theorem State.dropPacket_spares (hk : k < 68) : Spares upRegs s (s.dropPacket k) :=
  (s.setLost_spares hk _).trans
    (.ite (fun _ => .refl) ((Spares.raise TRC_STATUS_notMem_upRegs).trans (.of_touch (State.cicEvent_touch _ _))))

theorem State.pushPacket_spares (hk : k < 68) (ty payload : Nat) : Spares upRegs s (s.pushPacket k ty payload) :=
  .ite (fun _ => (s.setFifo_spares hk _).trans .set_trc) (s.dropPacket_spares hk)

theorem State.startPackets_spares (hk : k < 68) : Spares upRegs s (s.startPackets k) :=
  (((s.pushPacket_spares hk ..).trans (State.pushPacket_spares _ hk ..)).trans
    .set_trc).trans (.of_touch (State.stamped_touch ..))

theorem State.trcReset_spares (hk : k < 68) (kind : Nat) : Spares upRegs s (s.trcReset k kind) :=
  ((Spares.of_touch (s.setTrcAddr_touch ..)).trans (.of_touch (State.used_touch _))).trans
    ((Spares.raise (TRC_SRC_STATUS_notMem_upRegs hk)).trans
      (.ite (fun _ => (State.pushPacket_spares _ hk ..).trans (State.startPackets_spares _ hk)) .refl))

end TracePackets

theorem State.loadSpare_spares (s : State) (c spare col : Nat) (soft : Bool) :
    Spares upRegs s (s.loadSpare c spare col soft) :=
  ((Spares.put (GAL_DM_REPAIR_notMem_upRegs _ _)).trans (.put (GAL_DM_REPAIR_notMem_upRegs _ _))).trans
    (.put (GAL_DM_REPAIR_notMem_upRegs _ _))

theorem State.loadRepair_spares (s : State) (g : Nat) : Spares upRegs s (s.loadRepair g) :=
  ((Spares.foldl fun _ _ _ => .setReg (GAL_DM_REPAIR_notMem_upRegs _ _)).trans
    (.foldl fun _ _ t => .ite (fun _ => t.loadSpare_spares ..) .refl)).trans
    (.foldl fun _ _ t => .ite (fun _ => t.loadSpare_spares ..) .refl)

theorem State.galleryUp_spares (s : State) {g : Nat} (hg : g < 64) : Spares upRegs s (s.galleryUp g) := by
  have hrepair : Spares upRegs s ((s.loadRepair g).raise (R.GAL_MARCH_CTL g) F.GAL_MARCH_CTL_BUSY) :=
    (s.loadRepair_spares g).trans (.raise (GAL_MARCH_CTL_notMem_upRegs g))
  unfold State.galleryUp
  refine .ite (fun _ => .refl) ((hrepair.trans .add_march).trans (.ite (fun _ => ?_) .refl))
  exact State.trcReset_spares _ (by omega) 2

theorem State.straps_spares (s : State) : Spares upRegs s s.straps :=
  (Spares.foldl fun _ hb _ => .put (RIM_BANK_notMem_upRegs (List.mem_range.1 hb))).trans (.put (by decide))

theorem State.showCores_spares (s : State) : Spares upRegs s s.showCores :=
  .foldl fun _ hq _ => .ite (fun _ => .put (MBX_Q_STATUS_notMem_upRegs (List.mem_range.1 hq))) .refl

/-! The ready bits of the functions: bit `k` of the fourth DEVICE_READY word is that of function 96 + `k`. -/

/-- What a change of ready bits leaves of `upRegs`. -/
def upStatus : List Nat := [R.LNT_STATUS, R.PWR_STATUS]

theorem Spares.toStatus {s t : State} (h : Spares upRegs s t) : Spares upStatus s t := h.mono (by decide)

theorem State.setReady_spares (s : State) {n : Nat} (hn : n < 128) (v : Bool) : Spares upStatus s (s.setReady n v) := by
  refine .put ?_
  simp only [upStatus, R.DEVICE_READY0, R.LNT_STATUS, R.PWR_STATUS, List.mem_cons, List.not_mem_nil, or_false]
  omega

theorem State.setReady_ready {s : State} (h : s.canon) {n : Nat} (hn : 96 ≤ n ∧ n < 128) (v : Bool) (k : Nat) :
    ((s.setReady n v).reg (R.DEVICE_READY0 + 12)).getLsbD k =
      if k + 96 = n then v else (s.reg (R.DEVICE_READY0 + 12)).getLsbD k := by
  have hword : n / 32 * 4 = 12 := by omega
  have hbit : k = n % 32 ↔ k + 96 = n := by omega
  rw [State.setReady, hword, State.put_reg_self _ _ _ _ h.1, Word.getLsbD_put_bit _ (Nat.mod_lt n (by decide))]
  simp only [hbit]

theorem State.coreUp_spares (s : State) {k : Nat} (hk : k < 4) : Spares upStatus s (s.coreUp k) :=
  ((s.setReady_spares (by simp only [coreBit]; omega) true).trans (.of_touch (State.cicCoreUp_touch ..))).trans
    (State.trcReset_spares _ (by omega) 2).toStatus

/-- A core that runs is ready; the other functions are as they were. -/
theorem State.coreUp_ready {s : State} (h : s.canon) {k : Nat} (hk : k < 4) (j : Nat) :
    ((s.coreUp k).reg (R.DEVICE_READY0 + 12)).getLsbD j =
      if j = 16 + k then true else (s.reg (R.DEVICE_READY0 + 12)).getLsbD j := by
  have hset := (s.setReady_touch (coreBit + k) true).2.2 h
  have htrace : Spares upRegs (s.setReady (coreBit + k) true) (s.coreUp k) :=
    (Spares.of_touch (State.cicCoreUp_touch ..)).trans (State.trcReset_spares _ (by omega) 2)
  have hbit : j + 96 = coreBit + k ↔ j = 16 + k := by simp only [coreBit]; omega
  rw [htrace.reg hset _ (by decide), State.setReady_ready h (by simp only [coreBit]; omega)]
  simp only [hbit]

/-- With every core of a list up, those cores are ready and the other functions are as they were. -/
theorem State.coresUp_ready {s : State} (h : s.canon) {ks : List Nat} (hks : ∀ k ∈ ks, k < 4) (j : Nat) :
    ((ks.foldl State.coreUp s).reg (R.DEVICE_READY0 + 12)).getLsbD j =
      if ∃ k ∈ ks, j = 16 + k then true else (s.reg (R.DEVICE_READY0 + 12)).getLsbD j := by
  induction ks generalizing s with
  | nil => simp
  | cons k ks ih =>
    have hk : k < 4 := hks k List.mem_cons_self
    rw [List.foldl_cons, ih ((s.coreUp_touch k).2.2 h) fun x hx => hks x (List.mem_cons_of_mem k hx),
      State.coreUp_ready h hk]
    by_cases hj : j = 16 + k
    · simp [hj]
    · simp [hj]

/-! Bring-up, in its stages (R272). -/

/-- The straps are sampled, the galleries come up, the Control NoC and the time base are ready. -/
def State.functionsUp (s : State) : State :=
  let s := (List.range 64).foldl State.galleryUp s.straps
  (s.setReady 117 true).setReady timeBit (s.bit R.TB_STATUS F.TB_STATUS_LOCKED)

/-- The command cores run as well. -/
def State.coresRun (s : State) : State := [0, 1, 2, 3].foldl State.coreUp s.functionsUp

/-- The cores run the core part of the running firmware. -/
def State.runsCoreFw (s : State) : State :=
  { s with lnt := { s.lnt with coreFw := s.fld R.LNT_STATUS F.LNT_STATUS_RUNNING } }

theorem State.bringUp_eq (s : State) : s.bringUp =
    s.coresRun.showCores.runsCoreFw.put R.MBX_VERSION F.MBX_VERSION_BUILD s.coresRun.showCores.lnt.build := rfl

theorem State.galleriesUp_spares (s : State) : Spares upRegs s ((List.range 64).foldl State.galleryUp s.straps) :=
  s.straps_spares.trans (.foldl fun _ hg t => t.galleryUp_spares (List.mem_range.1 hg))

theorem State.functionsUp_spares (s : State) : Spares upStatus s s.functionsUp :=
  (s.galleriesUp_spares.toStatus.trans (State.setReady_spares _ (by decide) true)).trans
    (State.setReady_spares _ (by decide) _)

theorem State.functionsUp_ready {s : State} (h : s.canon) :
    (s.functionsUp.reg (R.DEVICE_READY0 + 12)).getLsbD 21 = true := by
  have hgals := s.galleriesUp_spares.canon h
  rw [State.functionsUp, State.setReady_ready ((State.setReady_touch ..).2.2 hgals) (by decide), if_neg (by decide),
    State.setReady_ready hgals (by decide), if_pos rfl]

theorem State.coresRun_spares (s : State) : Spares upStatus s s.coresRun :=
  s.functionsUp_spares.trans (.foldl fun k hk t => t.coreUp_spares (by fin_cases hk <;> decide))

/-- After bring-up the Control NoC and the four command cores are ready. -/
theorem State.coresRun_ready {s : State} (h : s.canon) : (s.coresRun.reg (R.DEVICE_READY0 + 12)).getLsbD 21 = true ∧
    ∀ k : Fin 4, (s.coresRun.reg (R.DEVICE_READY0 + 12)).getLsbD (16 + k.val) = true := by
  have hready := State.coresUp_ready (s.functionsUp_spares.canon h) (ks := [0, 1, 2, 3]) (by decide)
  constructor
  · rw [State.coresRun, hready, if_neg (by decide), State.functionsUp_ready h]
  · intro k
    rw [State.coresRun, hready, if_pos ⟨k.val, by fin_cases k <;> decide, rfl⟩]

/-- The steps of bring-up after the cores run leave `upRegs`. -/
theorem State.bringUp_spares_coresRun (s : State) : Spares upRegs s.coresRun s.bringUp :=
  have hfw : Spares upRegs s.coresRun.showCores s.coresRun.showCores.runsCoreFw := ⟨id, fun _ _ _ => rfl⟩
  (State.showCores_spares _).trans (hfw.trans (.put (by decide)))

theorem State.bringUp_spares (s : State) : Spares upStatus s s.bringUp :=
  s.coresRun_spares.trans s.bringUp_spares_coresRun.toStatus

theorem State.bringUp_coreFw {s : State} (h : s.canon) :
    s.bringUp.lnt.coreFw = s.fld R.LNT_STATUS F.LNT_STATUS_RUNNING := by
  have hlnt := (s.coresRun_spares.trans (State.showCores_spares _).toStatus).reg h R.LNT_STATUS (by decide)
  rw [State.bringUp_eq]
  change State.fld _ _ _ = _
  rw [State.fld, hlnt, State.fld]

/-- What bring-up reaches from a state with the running firmware `fw`. -/
structure BroughtUp (fw : Nat) (t : State) : Prop where
  noc : (t.reg (R.DEVICE_READY0 + 12)).getLsbD 21 = true
  cores : ∀ k : Fin 4, (t.reg (R.DEVICE_READY0 + 12)).getLsbD (16 + k.val) = true
  coreFw : t.lnt.coreFw = fw
  perst : t.host.perstHigh = true

theorem State.bringUp_broughtUp {s : State} (h : s.canon) (hp : s.host.perstHigh = true) :
    BroughtUp (s.fld R.LNT_STATUS F.LNT_STATUS_RUNNING) s.bringUp := by
  obtain ⟨hnoc, hcores⟩ := State.coresRun_ready h
  have hword := s.bringUp_spares_coresRun.reg (s.coresRun_spares.canon h) (R.DEVICE_READY0 + 12) (by decide)
  have hhost : s.bringUp.host = s.host := (State.bringUp_touch s).2.1 .host rfl
  exact ⟨by rw [hword, hnoc], fun k => by rw [hword, hcores k], State.bringUp_coreFw h, by rw [hhost, hp]⟩

/-! PERST# and LNT_PGOOD (R272, R394). -/

theorem exec_perstDeassert {s : State} (hp : s.host.perstHigh = false) : exec .perstDeassert s =
    .next (if s.bit R.PWR_STATUS F.PWR_STATUS_PGOOD then { s with host := { s.host with perstHigh := true } }.bringUp
      else { s with host := { s.host with perstHigh := true } }) := by
  rw [show exec .perstDeassert s = execPerstDeassert s from rfl, execPerstDeassert, if_neg (by simp [hp])]
  change (if s.bit R.PWR_STATUS F.PWR_STATUS_PGOOD then _ else _) = _
  split <;> rfl

/-- Every rail has been good for 1 ms and VCORE is at its target. -/
theorem State.railsSettled_of {s : State} {since : Nat} (hr : s.pwr.railsOk = some since)
    (ht : since + 1500000 ≤ s.sched.now) (hv : s.vcoreNow = s.fld R.PWR_STATUS F.PWR_STATUS_VCORE_TARGET) :
    s.railsSettled = true := by
  rw [State.railsSettled, hr, hv, beq_self_eq_true, Bool.and_true]
  exact Nat.ble_eq_true_of_le ht

theorem exec_lntPgoodRise {s : State} (hg : s.bit R.PWR_STATUS F.PWR_STATUS_PGOOD = false) (hrom : s.lnt.inRom = false)
    (hvaux : s.pwr.vaux = true) (hok : s.fld R.PWR_STATUS F.PWR_STATUS_RAIL_OK = 63) (hs : s.railsSettled = true) :
    exec .lntPgoodRise s = .next (if s.host.perstHigh then (s.raise R.PWR_STATUS F.PWR_STATUS_PGOOD).bringUp
      else s.raise R.PWR_STATUS F.PWR_STATUS_PGOOD) := by
  rw [show exec .lntPgoodRise s = execLntPgoodRise s from rfl, execLntPgoodRise,
    if_neg (by simp [hg, hrom, hvaux, hok, hs])]
  change (if s.host.perstHigh then _ else _) = _
  split <;> rfl

/-- LNT_PGOOD is up after its rise, with and without a bring-up. -/
theorem State.pgood_after_rise {s : State} (h : s.canon) :
    State.bit (if s.host.perstHigh then (s.raise R.PWR_STATUS F.PWR_STATUS_PGOOD).bringUp
      else s.raise R.PWR_STATUS F.PWR_STATUS_PGOOD) R.PWR_STATUS F.PWR_STATUS_PGOOD = true := by
  have hraised : (s.raise R.PWR_STATUS F.PWR_STATUS_PGOOD).bit R.PWR_STATUS F.PWR_STATUS_PGOOD = true :=
    State.bit_of_put (b := true) (s.put_reg_self _ _ _ h.1)
  split
  · rw [State.bit, State.fld, (State.bringUp_spares _).reg ((State.raise_touch ..).2.2 h) _ (by decide)]
    exact hraised
  · exact hraised

/-! The die-to-die link (R8). -/

/-- The link is up at `rate` and Rimstone and Lantern show it. -/
def State.d2dUp (s : State) (rate : Nat) : State :=
  (State.setReady { s with pwr := { s.pwr with d2dRate := rate } } 118 true).setReady lanternBit (!s.lnt.inRom)

/-- An attempt to train failed. -/
def State.d2dFailed (s : State) : State := { s with pwr := { s.pwr with d2dFails := s.pwr.d2dFails + 1 } }

theorem exec_d2dTrain_done {s : State} (h : s.pwr.d2dRate ≠ 0) (ok : Bool) : exec (.d2dTrain ok) s = .next s := by
  rw [show exec (.d2dTrain ok) s = execD2dTrain ok s from rfl, execD2dTrain, if_pos (.inl h)]

section D2d

variable {s : State} (hr : s.pwr.d2dRate = 0) (hf : s.pwr.d2dFails < 6)
include hr hf

theorem exec_d2dTrain_up {rate : Nat} (hrate : rate = if s.pwr.d2dFails < 3 then 32 else 16) :
    exec (.d2dTrain true) s = .next (if rate = 16 then (s.d2dUp rate).detect 0x0F 1 0 else s.d2dUp rate) := by
  rw [show exec (.d2dTrain true) s = execD2dTrain true s from rfl, execD2dTrain, if_neg (by omega), if_pos rfl, hrate]
  rfl

theorem exec_d2dTrain_failed : exec (.d2dTrain false) s =
    .next (if s.pwr.d2dFails + 1 = 6 then s.d2dFailed.detect 0x0F 2 0 else s.d2dFailed) := by
  rw [show exec (.d2dTrain false) s = execD2dTrain false s from rfl, execD2dTrain, if_neg (by omega),
    if_neg (by decide)]
  rfl

end D2d

theorem State.d2dUp_rate (s : State) (rate : Nat) : (s.d2dUp rate).pwr.d2dRate = rate := rfl

/-- With the link up Rimstone is ready. -/
theorem State.d2dUp_ready {s : State} (h : s.canon) (rate : Nat) :
    ((s.d2dUp rate).reg (R.DEVICE_READY0 + 12)).getLsbD 22 = true := by
  have hrate : State.canon { s with pwr := { s.pwr with d2dRate := rate } } := h
  rw [State.d2dUp, State.setReady_ready ((State.setReady_touch ..).2.2 hrate) (by decide), if_neg (by decide),
    State.setReady_ready hrate (by decide), if_pos rfl]

/-- A detector leaves the link's record. -/
theorem State.detect_pwr (s : State) (block code unit : Nat) : (s.detect block code unit).pwr = s.pwr :=
  (State.detect_touch ..).2.1 .pwr rfl

theorem exec_d2dTrain_ok {s : State} (h : s.canon) (hr : s.pwr.d2dRate = 0) (hf : s.pwr.d2dFails < 6) :
    ∃ t, exec (.d2dTrain true) s = .next t ∧ t.pwr.d2dRate = (if s.pwr.d2dFails < 3 then 32 else 16) ∧
      (t.reg (R.DEVICE_READY0 + 12)).getLsbD 22 = true := by
  generalize hrate : (if s.pwr.d2dFails < 3 then 32 else 16) = rate
  have hup : (s.d2dUp rate).canon := (State.setReady_touch ..).2.2 ((State.setReady_touch ..).2.2 h)
  refine ⟨_, exec_d2dTrain_up hr hf hrate.symm, ?_⟩
  split
  · rw [State.detect_pwr, (State.detect_writes ..).reg hup _ (by decide)]
    exact ⟨s.d2dUp_rate rate, State.d2dUp_ready h rate⟩
  · exact ⟨s.d2dUp_rate rate, State.d2dUp_ready h rate⟩

theorem exec_d2dTrain_fails {s : State} (hr : s.pwr.d2dRate = 0) (hf : s.pwr.d2dFails < 6) :
    ∃ t, exec (.d2dTrain false) s = .next t ∧ t.pwr.d2dRate = 0 ∧ t.pwr.d2dFails = s.pwr.d2dFails + 1 ∧
      (s.pwr.d2dFails = 5 → t.sched.haltPending = true) := by
  refine ⟨_, exec_d2dTrain_failed hr hf, ?_⟩
  split
  next hlast =>
    rw [State.detect_pwr]
    refine ⟨hr, rfl, fun _ => ?_⟩
    rw [State.detect_eq, if_pos (.inr ⟨rfl, rfl⟩)]
    rfl
  next hmore => exact ⟨hr, rfl, fun h5 => absurd (by rw [h5]) hmore⟩

/-! The PCIe link (R275). -/

theorem exec_pcieLinkUp (width : Fin 5) (rate : Fin 4) (rev : Bool) (s : State) :
    exec (.pcieLinkUp width rate rev) s = .next { s with host := { s.host with
      linkUp := true, width := 2 ^ width.val, rate := 8 * 2 ^ rate.val,
      reversed := if width.val = 4 then rev else s.part.laneReversal } } := by
  have hwidth : [1, 2, 4, 8, 16].getD width.val 1 = 2 ^ width.val := by revert width; decide
  have hrate : [8, 16, 32, 64].getD rate.val 8 = 8 * 2 ^ rate.val := by revert rate; decide
  have hfull : 2 ^ width.val = 16 ↔ width.val = 4 := by revert width; decide
  rw [show exec (.pcieLinkUp width rate rev) s = execPcieLinkUp width rate rev s from rfl, execPcieLinkUp]
  dsimp only
  simp only [hwidth, hrate, hfull]

/-- Settles O51: bring-up spares the registers it is judged by except the ready bits, which it sets one by one; the two
links by their attempt counts and tables. -/
theorem bringUpAndLinks : Obligations.BringUpAndLinks := by
  unfold Obligations.BringUpAndLinks
  intro s h up
  have up_of {t : State} (ht : BroughtUp (s.fld R.LNT_STATUS F.LNT_STATUS_RUNNING) t) : up t :=
    ⟨ht.noc, ht.cores, ht.coreFw, ht.perst⟩
  refine ⟨fun hp hg => ?_, fun hp hg => ?_, fun hg hrom hvaux hok since hr ht hv => ?_, fun hr hf => ?_,
    fun hr => exec_d2dTrain_done hr, fun width rate rev => exec_pcieLinkUp width rate rev s, rfl⟩
  · refine ⟨_, exec_perstDeassert hp, ?_⟩
    rw [if_pos hg]
    exact up_of (State.bringUp_broughtUp (s := { s with host := { s.host with perstHigh := true } }) h rfl)
  · rw [exec_perstDeassert hp, if_neg (ne_true_of_eq_false hg)]
  · have hsettled := State.railsSettled_of hr ht hv
    refine ⟨_, exec_lntPgoodRise hg hrom hvaux hok hsettled, State.pgood_after_rise h, fun hp => ?_⟩
    have hfw : (s.raise R.PWR_STATUS F.PWR_STATUS_PGOOD).fld R.LNT_STATUS F.LNT_STATUS_RUNNING =
        s.fld R.LNT_STATUS F.LNT_STATUS_RUNNING := s.fld_put_of_ne _ _ _ _ _ h.1 (by decide)
    rw [if_pos hp]
    exact up_of (hfw ▸ State.bringUp_broughtUp ((State.raise_touch ..).2.2 h) hp)
  · exact ⟨exec_d2dTrain_ok h hr hf, exec_d2dTrain_fails hr hf⟩

end Sys2Proof.Machine

/-! Clean reads (02, R28, R30, R33): nothing is detected, so the operands and the table are read from the state that the
word finds. -/

namespace Sys2Proof.Machine

section CleanReads

variable {s : State} {b : Nat}

theorem State.isArmed_of_nil (h : s.lnt.armed = []) (block code unit : Nat) : s.isArmed block code unit = false := by
  rw [State.isArmed, h]; rfl

/-- Is operand `o` read with right parity, and written in the cycle if it is a current one (R28, R30)? -/
def State.cleanOpnd (s : State) (b : Nat) (o : Operand) : Bool :=
  !NMap.get dFalse s.fab.nsBad (b * 2048 + physV (s.four (galOf b)) o.addr.toNat) &&
  !NMap.get dFalse s.fab.nsBad (b * 2048 + (physV (s.four (galOf b)) o.addr.toNat + 1)) &&
  (o.prev || tagGet s.fab.nsTag (s.four (galOf b)) b o.addr.toNat)

theorem State.readsClean_iff {op : StepOp} : s.readsClean b op = true ↔ s.lnt.armed = [] ∧
    (∀ o ∈ operandsOf op, s.cleanOpnd b o = true) ∧
    (∀ fn, tableRead op = some fn → NMap.get dFalse s.fab.ftBad (b / 64 * 256 + fn.toNat) = false) := by
  have htable : (match tableRead op with
      | some fn => !NMap.get dFalse s.fab.ftBad (b / 64 * 256 + fn.toNat)
      | none => true) = true ↔
      ∀ fn, tableRead op = some fn → NMap.get dFalse s.fab.ftBad (b / 64 * 256 + fn.toNat) = false := by
    cases tableRead op <;> simp
  rw [← htable, State.readsClean, Bool.and_eq_true, Bool.and_eq_true, List.isEmpty_iff, List.all_eq_true, and_assoc]
  rfl

theorem State.parityCheck_of_clean (harmed : s.lnt.armed = []) {o : Operand} (h : s.cleanOpnd b o = true) :
    s.parityCheck b o.addr.toNat = s := by
  simp only [State.cleanOpnd, Bool.and_eq_true, Bool.not_eq_true'] at h
  obtain ⟨⟨hfirst, hsecond⟩, -⟩ := h
  simp [State.parityCheck, State.isArmed_of_nil harmed, hfirst, hsecond]

theorem State.readOpnd_of_clean (harmed : s.lnt.armed = []) {o : Operand} (h : s.cleanOpnd b o = true) :
    s.readOpnd b o = (s.operandValue b o, s) := by
  have hwritten : (o.prev || tagGet s.fab.nsTag (s.four (galOf b)) b o.addr.toNat) = true :=
    (Bool.and_eq_true_iff.1 h).2
  rw [State.readOpnd, State.operandValue, State.parityCheck_of_clean harmed h]
  cases hprev : o.prev <;> simp_all

theorem State.readAll_of_clean (harmed : s.lnt.armed = []) {os : List Operand}
    (h : ∀ o ∈ os, s.cleanOpnd b o = true) : s.readAll b os = (os.map (s.operandValue b), s) := by
  induction os with
  | nil => rfl
  | cons o os ih =>
    obtain ⟨ho, hos⟩ := List.forall_mem_cons.1 h
    rw [State.readAll, State.readOpnd_of_clean harmed ho, ih hos, List.map_cons]

theorem State.readTable_of_clean (harmed : s.lnt.armed = []) {fn : BitVec 8}
    (h : NMap.get dFalse s.fab.ftBad (b / 64 * 256 + fn.toNat) = false) : s.readTable b fn = (s.tableOf b fn, s) := by
  simp [State.readTable, State.tableOf, State.isArmed_of_nil harmed, h]

/-- The result of a truth-table operation (R39, R40). -/
def State.tableResult (s : State) (b : Nat) (fn : BitVec 8) (x y z u : Operand) (exact : Bool) : Nv :=
  if exact then
    evalx (s.tableOf b fn) (s.chainOf b) (s.operandValue b x) (s.operandValue b y) (s.operandValue b z) (s.operandValue b u)
  else
    evalBit (s.tableOf b fn) (s.chainOf b) (s.operandValue b x) (s.operandValue b y) (s.operandValue b z) (s.operandValue b u)

theorem State.evalWith_of_clean (harmed : s.lnt.armed = []) {fn : BitVec 8} {x y z u : Operand}
    (ho : ∀ o ∈ [x, y, z, u], s.cleanOpnd b o = true)
    (ht : NMap.get dFalse s.fab.ftBad (b / 64 * 256 + fn.toNat) = false) (exact : Bool) :
    s.evalWith b fn [x, y, z, u] exact = (s.tableResult b fn x y z u exact, s) := by
  rw [State.evalWith, State.readTable_of_clean harmed ht, State.readAll_of_clean harmed ho]
  rfl

theorem State.withA_of_clean (harmed : s.lnt.armed = []) {a : Operand} (h : s.cleanOpnd b a = true)
    (f : State → Nv → State) : s.withA b a f = (s.operandValue b a, f s (s.operandValue b a)) := by
  rw [State.withA, State.readOpnd_of_clean harmed h]

theorem State.opResolve_of_clean (harmed : s.lnt.armed = []) (start : Bool) (p : Pull) (act : BusAction) {x y : Operand}
    {d1 : Option (Operand × Operand)} (ho : ∀ o ∈ operandsOf (.resolve start p act x y d1), s.cleanOpnd b o = true) :
    s.opResolve b start p act x y d1 =
      ((s.busOf b start p x y d1).1, s.contention b act (s.busOf b start p x y d1).2) := by
  cases d1 with
  | none =>
    simp only [operandsOf, List.forall_mem_cons] at ho
    obtain ⟨hx, hy, -⟩ := ho
    simp only [State.opResolve, State.readOpnd_of_clean harmed hx, State.readOpnd_of_clean harmed hy]
    rfl
  | some d =>
    simp only [operandsOf, List.forall_mem_cons] at ho
    obtain ⟨hx, hy, hz, hu, -⟩ := ho
    simp only [State.opResolve, State.readOpnd_of_clean harmed hx, State.readOpnd_of_clean harmed hy,
      State.readOpnd_of_clean harmed hz, State.readOpnd_of_clean harmed hu]
    rfl

theorem opConst_eq (s : State) (b : Nat) (c : ConstSel) : opConst s b c = (s.constResult b c, s.constEffect b c) := by
  cases c <;> rfl

/-- With clean reads an operation gives the result and the effect that its row of R35 names. -/
theorem State.runOp_of_clean {op : StepOp} (h : s.readsClean b op = true) :
    s.runOp b op = (s.wordResult b op, s.wordEffect b op) := by
  obtain ⟨harmed, ho, ht⟩ := State.readsClean_iff.1 h
  cases op with
  | nop | pinin _ | sync _ => rfl
  | eval fn x y z u => exact State.evalWith_of_clean harmed ho (ht fn rfl) false
  | evalx fn x y z u => exact State.evalWith_of_clean harmed ho (ht fn rfl) true
  | maddr fn x y z u | mwdat fn x y z u => exact State.evalWith_of_clean harmed ho (ht fn rfl) (s.four (galOf b))
  | resolve start p act x y d1 => exact State.opResolve_of_clean harmed start p act ho
  | mrd a | mwr _ a | matom _ a | mdeeprd a | mdeepwr _ a | pinout _ a | assert _ a | trig _ a =>
    rw [State.runOp, State.withA_of_clean harmed (ho a (List.mem_singleton_self a))]
    rfl
  | const c => exact opConst_eq s b c

end CleanReads

section Issues

variable {s : State} {b : Nat} {op : StepOp} {m : Marks}

theorem State.oneWord_of_issues (h : s.issues b op = true) :
    s.oneWord b op m = .next ((s.runWord b ⟨op, m⟩).useFlag b op) := by
  simp only [State.issues, Bool.and_eq_true, Bool.not_eq_true'] at h
  obtain ⟨⟨⟨hdue, htakes⟩, hlegal⟩, hwaits⟩ := h
  rw [State.oneWord_due htakes hdue, if_neg (by simp [hlegal]), if_neg (by simp [hwaits])]

/-- A word that issues with clean reads: its effect, its result by the marks, the flag used. -/
theorem State.oneWord_of_clean (h : s.issues b op = true) (hclean : s.readsClean b op = true) :
    s.oneWord b op m = .next (((s.wordEffect b op).finish b ⟨op, m⟩ (s.wordResult b op)).useFlag b op) := by
  rw [State.oneWord_of_issues h, State.runWord, State.runOp_of_clean hclean]

end Issues

/-- Settles O12: a word that issues runs its operation, which with clean reads gives its own result and effect. -/
theorem stepWordIssues : Obligations.StepWordIssues := by
  unfold Obligations.StepWordIssues
  intro b op m s hissues hclean
  rw [exec_stepInstr, State.oneWord_of_clean hissues hclean]

end Sys2Proof.Machine

/-! Where a result goes (02, R36, R44; 03, R61 to R64): the stages of the end of a step word. -/

namespace Sys2Proof.Machine

/-! What each stage writes, as a value of its own store. -/

/-- The address staging registers after the deposit of a MADDR (R44): known values, unknown bits. -/
def Fabric.addrVAfter (f : Fabric) (b : Nat) (op : StepOp) (r : Nv) : NMap Word :=
  match op with
  | .maddr .. => NMap.set dZero32 f.addrV (b / 64)
      (Field.put ⟨b % 64, b % 64⟩ (NMap.get dZero32 f.addrV (b / 64)) (natOfBool r.v))
  | _ => f.addrV

def Fabric.addrXAfter (f : Fabric) (b : Nat) (op : StepOp) (r : Nv) : NMap Word :=
  match op with
  | .maddr .. => NMap.set dZero32 f.addrX (b / 64)
      (Field.put ⟨b % 64, b % 64⟩ (NMap.get dZero32 f.addrX (b / 64)) (natOfBool !r.k))
  | _ => f.addrX

/-- The word staging registers after the deposit of a MWDAT (R44): known values, unknown bits. -/
def Fabric.wordVAfter (f : Fabric) (b : Nat) (op : StepOp) (r : Nv) : NMap Dword :=
  match op with
  | .mwdat .. => NMap.set dZero64 f.wordV (b / 64) (putBit (NMap.get dZero64 f.wordV (b / 64)) (b % 64) r.v)
  | _ => f.wordV

def Fabric.wordXAfter (f : Fabric) (b : Nat) (op : StepOp) (r : Nv) : NMap Dword :=
  match op with
  | .mwdat .. => NMap.set dZero64 f.wordX (b / 64) (putBit (NMap.get dZero64 f.wordX (b / 64)) (b % 64) !r.k)
  | _ => f.wordX

/-- The capture registers after the mark P of BP `b` (R158). -/
def State.captureAfter (s : State) (b : Nat) (r : Nv) : NMap (List Bool) :=
  NMap.set (fun _ => []) s.fab.capture b
    (NMap.get (fun _ => []) s.fab.capture b ++ if s.four (galOf b) then [r.v, r.k] else [r.v])

/-- The arrivals in flight after a send along a path: those of a chamber's own BPs come straight (R63, R64). -/
def State.arrivalsAfter (s : State) (path : Option (RxPort × Nat × List Nat)) (r : Nv) : List Arrival :=
  match path with
  | some (.loc, lat, dests) =>
    dests.foldl (fun q d => insertArrival ⟨d, .loc, s.sched.step, r, s.sched.now + lat, 0⟩ q) s.fab.inflight
  | _ => s.fab.inflight

/-- The values at merge points after a send along a path (R60, R63). -/
def State.flightsAfter (s : State) (b : Nat) (path : Option (RxPort × Nat × List Nat)) (r : Nv) : List Flight :=
  match path with
  | some (.loc, _, _) => s.fab.flights
  | some p => insertFlight (flightOf s.sched.now b s.sched.step p r) s.fab.flights
  | none => s.fab.flights

/-- The frame positions after a send; only LINK has no path (R139). -/
def State.framesAfter (s : State) (b : Nat) (path : Option (RxPort × Nat × List Nat)) (w : Word) (r : Nv) : Passage :=
  match path with
  | none => (s.linkPlace (s.four (galOf b)) w r).psg
  | some _ => s.psg

section Finish

variable {s : State} {b : Nat}

theorem State.deposit_eq (s : State) (b : Nat) (op : StepOp) (r : Nv) : s.deposit b op r =
    { s with fab := { s.fab with
        addrV := s.fab.addrVAfter b op r, addrX := s.fab.addrXAfter b op r,
        wordV := s.fab.wordVAfter b op r, wordX := s.fab.wordXAfter b op r } } := by cases op <;> rfl

theorem State.captureBit_eq (s : State) (b : Nat) (r : Nv) :
    s.captureBit b r = { s with fab := { s.fab with capture := s.captureAfter b r } } := rfl

/-- The paths that a slot record can name (R63). -/
theorem route_cases (st : Stepping) (b : Nat) (w : Word) : (∃ lat ds, route st b w = some (.loc, lat, ds)) ∨
    (∃ lat ds, route st b w = some (.gallery, lat, ds)) ∨ (∃ lat ds, route st b w = some (.mesh, lat, ds)) ∨
    route st b w = none := by
  unfold route
  dsimp only
  split
  · exact .inl ⟨_, _, rfl⟩
  · exact .inr (.inl ⟨_, _, rfl⟩)
  · exact .inr (.inr (.inl ⟨_, _, rfl⟩))
  · exact .inr (.inr (.inr rfl))

theorem gapsOf_ne_nil {lat : Nat} {ls : List (List Nat × Nat)} (h : ls ≠ []) : gapsOf lat ls ≠ [] := by
  match ls with
  | [] => exact absurd rfl h
  | [x] => simp [gapsOf]
  | x :: y :: r => simp [gapsOf]

/-- A path through merge points is a flight; a path within the chamber has none on it. -/
theorem State.sendRec_eq (s : State) (b : Nat) (w : Word) (r : Nv) : s.sendRec b w r =
    { s with fab := { s.fab with inflight := s.arrivalsAfter (route s.part.stepping b w) r,
                                 flights := s.flightsAfter b (route s.part.stepping b w) r },
             psg := s.framesAfter b (route s.part.stepping b w) w r } := by
  unfold State.sendRec
  obtain ⟨lat, ds, h⟩ | ⟨lat, ds, h⟩ | ⟨lat, ds, h⟩ | h := route_cases s.part.stepping b w <;> rw [h]
  · rfl
  · rfl
  · have hahead : (flightOf s.sched.now b s.sched.step (.mesh, lat, ds) r).ahead ≠ [] := gapsOf_ne_nil (by simp [lanesOf])
    exact if_neg hahead
  · rfl

/-- The send of a result by slot record `i` is noted for HOLD isolation (R245). -/
def State.noteSend (s : State) (b i : Nat) (r : Nv) : State :=
  { s with fab := { s.fab with lastSend := NMap.set dNv s.fab.lastSend (b * 512 + i) r,
                               sent := NMap.set dFalse s.fab.sent (b * 512 + i) true } }

theorem State.send_eq (s : State) (b : Nat) (r : Nv) : s.send b r =
    ((s.slotParity b (s.slotIndex b s.sched.step)).noteSend b (s.slotIndex b s.sched.step) r).sendOn b
      (s.slotIndex b s.sched.step) r := rfl

theorem State.slotParity_of_clean (harmed : s.lnt.armed = []) {i : Nat}
    (h : NMap.get dFalse s.fab.slotBad (b * 512 + i) = false) : s.slotParity b i = s := by
  simp [State.slotParity, State.isArmed_of_nil harmed, h]

theorem State.send_of_clean (harmed : s.lnt.armed = [])
    (h : NMap.get dFalse s.fab.slotBad (b * 512 + s.slotIndex b s.sched.step) = false) (r : Nv) :
    s.send b r = (s.noteSend b (s.slotIndex b s.sched.step) r).sendRec b (s.slotOf b) r := by
  rw [State.send_eq, State.slotParity_of_clean harmed h]
  rfl

theorem State.sendRec_chain (s : State) (b : Nat) (w : Word) (r : Nv) : (s.sendRec b w r).fab.chain = s.fab.chain := by
  rw [State.sendRec_eq]

theorem State.send_chain (s : State) (b : Nat) (r : Nv) : (s.send b r).fab.chain = s.fab.chain := by
  have hparity : (s.slotParity b (s.slotIndex b s.sched.step)).fab = s.fab := (s.slotParity_touch b _).2.1 .fab rfl
  rw [State.send_eq, State.sendOn, State.sendRec_chain]
  exact (congrArg Fabric.chain hparity :)

/-! The end of a step word. -/

theorem State.applyForce_of_unforced (h : s.unforced b = true) (tg : ForceTarget) (r : Nv) :
    s.applyForce b tg r = (r, s) := by
  have hnone : s.fab.forces.filter (fun e => e.bp == b && e.target == tg) = [] := by
    rw [List.filter_eq_nil_iff]
    intro e he
    have hbp : e.bp ≠ b := by simpa using List.all_eq_true.1 h e he
    simp [hbp]
  rw [State.applyForce, State.forceOn, hnone]
  rfl

/-- The state once the result is the chain value and, of a MADDR or MWDAT, staged (R29, R44). -/
def State.chained (s : State) (b : Nat) (op : StepOp) (r : Nv) : State :=
  { s with fab := { s.fab with
      chain := NMap.set dNv s.fab.chain b r, addrV := s.fab.addrVAfter b op r, addrX := s.fab.addrXAfter b op r,
      wordV := s.fab.wordVAfter b op r, wordX := s.fab.wordXAfter b op r } }

/-- After the mark P. -/
def State.captured (s : State) (b : Nat) (m : Marks) (r : Nv) : State :=
  { s with fab := { s.fab with capture := if m.p then s.captureAfter b r else s.fab.capture } }

/-- After the mark S. -/
def State.sentBy (s : State) (b : Nat) (m : Marks) (r : Nv) : State :=
  if m.s then s.send b r else s

/-- After the mark K (R36): the current generation alone is written. -/
def State.kept (s : State) (b : Nat) (m : Marks) (r : Nv) : State :=
  if m.k then s.writeCur b (s.resultBase + s.sched.step) r else s

theorem State.finish_of_unforced (h : s.unforced b = true) (op : StepOp) (m : Marks) (r : Nv) :
    s.finish b ⟨op, m⟩ r = (((s.chained b op r).captured b m r).sentBy b m r).kept b m r := by
  have hcaptured : (s.chained b op r).captured b m r =
      if m.p then (s.chained b op r).captureBit b r else s.chained b op r := by
    cases hp : m.p <;> simp only [State.captured, hp] <;> rfl
  rw [State.finish, State.applyForce_of_unforced h, hcaptured]
  dsimp only
  rw [State.deposit_eq]
  rfl

/-- The chain value is the result, whatever the slot record's parity (R29). -/
theorem State.finish_chain (h : s.unforced b = true) (op : StepOp) (m : Marks) (r : Nv) :
    (s.finish b ⟨op, m⟩ r).fab.chain = NMap.set dNv s.fab.chain b r := by
  rw [State.finish_of_unforced h]
  cases hs : m.s <;> cases hk : m.k <;>
    simp only [State.kept, State.sentBy, hs, hk, State.writeCur, State.send_chain, if_true, Bool.false_eq_true, if_false] <;> rfl

/-- The state after a step word whose result is `r`: chain, staging, then the marks P, S and K (R36, R44). -/
def State.finished (s : State) (b : Nat) (op : StepOp) (m : Marks) (r : Nv) : State :=
  let i := b * 512 + s.slotIndex b s.sched.step
  let path := route s.part.stepping b (s.slotOf b)
  let n := s.resultBase + s.sched.step
  { s with
    fab := { s.fab with
      chain := NMap.set dNv s.fab.chain b r, addrV := s.fab.addrVAfter b op r, addrX := s.fab.addrXAfter b op r,
      wordV := s.fab.wordVAfter b op r, wordX := s.fab.wordXAfter b op r,
      capture := if m.p then s.captureAfter b r else s.fab.capture,
      lastSend := if m.s then NMap.set dNv s.fab.lastSend i r else s.fab.lastSend,
      sent := if m.s then NMap.set dFalse s.fab.sent i true else s.fab.sent,
      inflight := if m.s then s.arrivalsAfter path r else s.fab.inflight,
      flights := if m.s then s.flightsAfter b path r else s.fab.flights,
      nsCur := if m.k then netPut s.fab.nsCur (s.four (galOf b)) b n r else s.fab.nsCur,
      nsTag := if m.k then tagSet s.fab.nsTag (s.four (galOf b)) b n else s.fab.nsTag },
    psg := if m.s then s.framesAfter b path (s.slotOf b) r else s.psg }

theorem State.finish_of_clean {m : Marks} (h : s.unforced b = true) (hclean : s.sendClean b m = true) (op : StepOp)
    (r : Nv) : s.finish b ⟨op, m⟩ r = s.finished b op m r := by
  obtain ⟨harmed, hparity⟩ := Bool.and_eq_true_iff.1 hclean
  rw [List.isEmpty_iff] at harmed
  have hsent : ((s.chained b op r).captured b m r).sentBy b m r =
      { s.finished b op m r with fab := { (s.finished b op m r).fab with nsCur := s.fab.nsCur, nsTag := s.fab.nsTag } } := by
    cases hs : m.s with
    | false => simp only [State.sentBy, State.finished, hs]; rfl
    | true =>
      have hgood : NMap.get dFalse s.fab.slotBad (b * 512 + s.slotIndex b s.sched.step) = false := by
        simpa [hs] using hparity
      simp only [State.sentBy, State.finished, hs, if_true]
      rw [State.send_of_clean (s := (s.chained b op r).captured b m r) harmed hgood, State.sendRec_eq]
      rfl
  rw [State.finish_of_unforced h, hsent]
  cases hk : m.k <;> simp only [State.kept, State.finished, hk] <;> rfl

end Finish

/-- Settles O13: of the state after a step word's end, store by store; a slot record names a path or LINK. -/
theorem resultGoesByMarks : Obligations.ResultGoesByMarks := by
  unfold Obligations.ResultGoesByMarks
  intro b op m s r hunforced hclean
  dsimp only
  rw [State.finish_of_clean hunforced hclean]
  refine ⟨rfl, rfl, rfl, rfl, rfl, rfl, rfl, rfl, rfl, ?_, ?_, ?_, rfl, rfl, rfl, rfl⟩
  all_goals
    dsimp only [State.finished]
    cases m.s
    · rfl
    · obtain ⟨lat, ds, h⟩ | ⟨lat, ds, h⟩ | ⟨lat, ds, h⟩ | h := route_cases s.part.stepping b (s.slotOf b) <;> rw [h] <;> rfl

end Sys2Proof.Machine

/-! The truth-table operations and RESOLVE (02, R32, R39, R40, R42). -/

namespace Sys2Proof.Machine

/-! Exact X propagation: the indices that agree with the known inputs (R40). -/

/-- Does bit `j` of an index agree with input `n`: is `n` unknown, or the bit its value? -/
def agreesAt (i j : Nat) (n : Nv) : Prop := n.k = true → i.testBit j = n.v

theorem mem_completions {n : Nv} {v : Bool} : v ∈ completions n ↔ (n.k = true → v = n.v) := by
  unfold completions
  cases hk : n.k <;> cases v <;> simp

theorem ttIndex_lt (e a b c d : Bool) : ttIndex e a b c d < 32 := by decide +revert

theorem testBit_ttIndex (e a b c d : Bool) : (ttIndex e a b c d).testBit 4 = e ∧ (ttIndex e a b c d).testBit 3 = a ∧
    (ttIndex e a b c d).testBit 2 = b ∧ (ttIndex e a b c d).testBit 1 = c ∧ (ttIndex e a b c d).testBit 0 = d := by
  decide +revert

theorem ttIndex_testBit {i : Nat} (h : i < 32) :
    ttIndex (i.testBit 4) (i.testBit 3) (i.testBit 2) (i.testBit 1) (i.testBit 0) = i := by decide +revert

/-- The table bits that EVALX weighs are those at the indices below 32 that agree with the inputs. -/
theorem mem_evalxBits {t : Word} {e a b c d : Nv} {bit : Bool} : bit ∈ evalxBits t e a b c d ↔
    ∃ i < 32, (agreesAt i 4 e ∧ agreesAt i 3 a ∧ agreesAt i 2 b ∧ agreesAt i 1 c ∧ agreesAt i 0 d) ∧ ttBit t i = bit := by
  simp only [evalxBits, List.mem_flatMap, List.mem_map, mem_completions]
  constructor
  · rintro ⟨e', he, a', ha, b', hb, c', hc, d', hd, rfl⟩
    obtain ⟨h4, h3, h2, h1, h0⟩ := testBit_ttIndex e' a' b' c' d'
    exact ⟨_, ttIndex_lt .., ⟨fun h => h4.trans (he h), fun h => h3.trans (ha h), fun h => h2.trans (hb h),
      fun h => h1.trans (hc h), fun h => h0.trans (hd h)⟩, rfl⟩
  · rintro ⟨i, hi, ⟨he, ha, hb, hc, hd⟩, rfl⟩
    exact ⟨_, he, _, ha, _, hb, _, hc, _, hd, by rw [ttIndex_testBit hi]⟩

theorem exists_mem_evalxBits (t : Word) (e a b c d : Nv) : ∃ bit, bit ∈ evalxBits t e a b c d := by
  obtain ⟨h4, h3, h2, h1, h0⟩ := testBit_ttIndex e.v a.v b.v c.v d.v
  exact ⟨_, mem_evalxBits.2 ⟨_, ttIndex_lt .., ⟨fun _ => h4, fun _ => h3, fun _ => h2, fun _ => h1, fun _ => h0⟩, rfl⟩⟩

theorem evalx_of_forall {t : Word} {e a b c d : Nv} {bit : Bool} (h : ∀ x ∈ evalxBits t e a b c d, x = bit) :
    evalx t e a b c d = ⟨bit, true⟩ := by
  obtain ⟨y, hy⟩ := exists_mem_evalxBits t e a b c d
  cases bit with
  | true => exact if_pos (List.all_eq_true.2 h)
  | false =>
    have hsome : ¬(evalxBits t e a b c d).all (fun x => x) = true := fun hall =>
      Bool.false_ne_true ((h y hy).symm.trans (List.all_eq_true.1 hall y hy))
    have hall : (evalxBits t e a b c d).all (fun x => !x) = true := List.all_eq_true.2 fun x hx => by rw [h x hx]; rfl
    exact (if_neg hsome).trans (if_pos hall)

theorem evalx_of_both {t : Word} {e a b c d : Nv} (htrue : true ∈ evalxBits t e a b c d)
    (hfalse : false ∈ evalxBits t e a b c d) : evalx t e a b c d = ⟨false, false⟩ := by
  have hone : ¬(evalxBits t e a b c d).all (fun x => x) = true := fun h =>
    Bool.false_ne_true (List.all_eq_true.1 h _ hfalse)
  have hzero : ¬(evalxBits t e a b c d).all (fun x => !x) = true := fun h =>
    Bool.false_ne_true (List.all_eq_true.1 h _ htrue)
  exact (if_neg hone).trans (if_neg hzero)

/-! The tables of R42. -/

theorem driver_nv (data enable : Quad) : driver data.nv enable.nv = (driverTable enable data).nv := by
  cases data <;> cases enable <;> rfl

theorem combine_nv (a b : Quad) : combine a.nv b.nv = ((combineTable a b).1.nv, (combineTable a b).2) := by
  cases a <;> cases b <;> rfl

theorem pulled_nv (p : Pull) (q : Quad) : pulled p q.nv = (pullTable p q).nv := by
  cases p <;> cases q <;> rfl

/-- RESOLVE on four-state values follows the tables, one driver after the other. -/
theorem resolveBus_nv (incoming d0 d1 : Quad) (p : Pull) : resolveBus incoming.nv d0.nv (some d1.nv) p =
    ((pullTable p (combineTable (combineTable incoming d0).1 d1).1).nv,
      (combineTable incoming d0).2 || (combineTable (combineTable incoming d0).1 d1).2) := by
  simp only [resolveBus, combine_nv, pulled_nv]

/-! A step word's result becomes the chain value. -/

section Chain

variable {s : State} {b : Bp} {op : StepOp} {m : Marks}

theorem State.useFlag_fab (s : State) (b : Nat) (op : StepOp) : (s.useFlag b op).fab = s.fab := by
  cases op with
  | sync n => rw [State.useFlag]; split <;> rfl
  | _ => rfl

theorem State.contention_fab (s : State) (b : Nat) (act : BusAction) (hit : Bool) :
    (s.contention b act hit).fab = s.fab := (s.contention_touch b act hit).2.1 .fab rfl

/-- A word without an effect that issues with clean reads leaves its result in the chain register. -/
theorem exec_stepInstr_chain (hissues : s.issues b op = true) (hclean : s.readsClean b op = true)
    (hunforced : s.unforced b = true) (heffect : (s.wordEffect b op).fab = s.fab) :
    ∃ t, exec (stepInstr b m op) s = .next t ∧
      t.fab.chain = NMap.set dNv s.fab.chain b (s.wordResult b op) := by
  have hforces : (s.wordEffect b op).unforced b = true := by rw [State.unforced, heffect]; exact hunforced
  refine ⟨_, (exec_stepInstr ..).trans (State.oneWord_of_clean hissues hclean), ?_⟩
  rw [State.useFlag_fab, State.finish_chain hforces, heffect]

end Chain

/-- Settles O8: the result of EVAL is the table's bit by definition, and goes to the chain register. -/
theorem evalGivesTheTableBit : Obligations.EvalGivesTheTableBit := by
  unfold Obligations.EvalGivesTheTableBit
  intro b m fn x y z u s hissues hclean hunforced _
  exact exec_stepInstr_chain hissues hclean hunforced rfl

/-- Settles O9: the bits that EVALX weighs are those at the indices that agree with the known inputs. -/
theorem evalxGivesTheOnlyBit : Obligations.EvalxGivesTheOnlyBit := by
  unfold Obligations.EvalxGivesTheOnlyBit
  intro b m fn x y z u s hissues hclean hunforced _ inputs agrees table
  obtain ⟨t, ht, hchain⟩ := exec_stepInstr_chain (m := m) hissues hclean hunforced rfl
  have hagrees (i : Nat) : agrees i ↔ agreesAt i 4 (s.chainOf b) ∧ agreesAt i 3 (s.operandValue b x) ∧
      agreesAt i 2 (s.operandValue b y) ∧ agreesAt i 1 (s.operandValue b z) ∧ agreesAt i 0 (s.operandValue b u) := by
    constructor
    · exact fun h => ⟨h 4, h 3, h 2, h 1, h 0⟩
    · rintro ⟨h4, h3, h2, h1, h0⟩ j
      fin_cases j
      exacts [h0, h1, h2, h3, h4]
  have hbits (bit : Bool) : bit ∈ evalxBits (s.tableOf b fn) (s.chainOf b) (s.operandValue b x) (s.operandValue b y)
      (s.operandValue b z) (s.operandValue b u) ↔ ∃ i < 32, agrees i ∧ table i = bit := by
    simp only [mem_evalxBits, hagrees]
    rfl
  refine ⟨t, _, ht, hchain, fun bit hall => evalx_of_forall fun v hv => ?_, ?_⟩
  · obtain ⟨i, hi, hag, rfl⟩ := (hbits v).1 hv
    exact hall i hi hag
  · rintro ⟨i, j, hi, hj, hai, haj, hne⟩
    have hi' := (hbits _).2 ⟨i, hi, hai, rfl⟩
    have hj' := (hbits _).2 ⟨j, hj, haj, rfl⟩
    cases hti : table i <;> cases htj : table j <;> rw [hti] at hi' hne <;> rw [htj] at hj' hne
    · exact absurd rfl hne
    · exact evalx_of_both hj' hi'
    · exact evalx_of_both hi' hj'
    · exact absurd rfl hne

/-- Settles O10: the bus of a RESOLVE by the tables, its contention as the word's effect, its value as the result. -/
theorem resolveFollowsTheTables : Obligations.ResolveFollowsTheTables := by
  unfold Obligations.ResolveFollowsTheTables
  intro b m start p act oa ob oc od a bb c d e s hissues hclean hunforced _ ha hb hc hd he first second result
  have hincoming : (if start then Nv.z else s.chainOf b) = (if start then Quad.z else e).nv := by
    rw [he]; cases start <;> rfl
  have hbus : s.busOf b start p oa ob (some (oc, od)) = (result.nv, first.2 || second.2) := by
    rw [State.busOf, hincoming, Option.map_some, ha, hb, hc, hd, driver_nv, driver_nv, resolveBus_nv]
  have hresult : s.wordResult b (.resolve start p act oa ob (some (oc, od))) = result.nv := congrArg Prod.fst hbus
  have heffect : s.wordEffect b (.resolve start p act oa ob (some (oc, od))) =
      s.contention b act (first.2 || second.2) := congrArg (fun r : Nv × Bool => s.contention b act r.2) hbus
  have hfab := heffect ▸ s.contention_fab b act (first.2 || second.2)
  constructor
  · rw [← hresult, ← heffect]
    exact (exec_stepInstr ..).trans (State.oneWord_of_clean hissues hclean)
  · rw [← hresult]
    exact exec_stepInstr_chain hissues hclean hunforced hfab

end Sys2Proof.Machine

/-! Pins, events and constants (02, R51 to R57). -/

namespace Sys2Proof.Machine

section Events

variable {s : State} {b : Nat}

theorem Nv.isOne_iff (v : Nv) : v.isOne = true ↔ v = Nv.one := by
  obtain ⟨v, k⟩ := v
  cases v <;> cases k <;> decide

theorem opTrig_eq (s : State) (b leaf : Nat) (v : Nv) : opTrig s b leaf v =
    if v = Nv.one then { s with fab := { s.fab with leaves := NMap.set dFalse s.fab.leaves (galOf b * 65 + leaf) true } }
    else s := by
  simp only [opTrig, Nv.isOne_iff]

theorem opAssert_of_not_fires {act : AssertAct} {v : Nv} (h : assertFires act v = false) : opAssert s b act v = s := by
  rw [opAssert, h]; rfl

theorem assertFires_of {act : AssertAct} {v : Nv} (h : v = Nv.one ∨ (act.xfire = true ∧ v.k = false)) :
    assertFires act v = true := by
  obtain rfl | ⟨hx, hk⟩ := h
  · rfl
  · simp [assertFires, hx, hk]

/-- The CIC after an event on source `n` (R319). -/
def State.cicAfter (s : State) (n : Nat) : Cic :=
  if cicListed n && s.cicIsEdge n then { s.cic with edge := NMap.set (fun _ => false) s.cic.edge n true } else s.cic

theorem State.cicEvent_eq (s : State) (n : Nat) : s.cicEvent n = { s with cic := s.cicAfter n } := by
  unfold State.cicEvent State.cicAfter
  split <;> rfl

/-- The ASSERT leaf is set, and Echo's mark of the tick (R53, R168). -/
def State.assertLeaf (s : State) (b : Nat) : State :=
  { s with fab := { s.fab with leaves := NMap.set dFalse s.fab.leaves (galOf b * 65 + 64) true },
           echo := { s.echo with asserted := true } }

/-- The record that an ASSERT pushes (R53). -/
def State.assertRec (s : State) (b : Nat) (act : AssertAct) (v : Nv) : AssertRec :=
  { actions := assertCode act % 8, unknown := !v.k, ctx := s.sched.ctx, step := s.sched.step, bp := b % 64,
    cham := b / 64 % 16, tick := s.tick32 }

/-- The state after an ASSERT that fires while its FIFO has room (R53, R168). -/
def State.asserted (s : State) (b : Nat) (act : AssertAct) (v : Nv) : State :=
  let g := galOf b
  { s with
    fab := { s.fab with
      leaves := NMap.set dFalse s.fab.leaves (g * 65 + 64) true,
      asserts := if act.log then
          NMap.set (fun _ => []) s.fab.asserts g (NMap.get (fun _ => []) s.fab.asserts g ++ [s.assertRec b act v])
        else s.fab.asserts,
      assertPushed := if act.log then NMap.set dZero s.fab.assertPushed g (NMap.get dZero s.fab.assertPushed g + 1)
        else s.fab.assertPushed },
    echo := { s.echo with asserted := true },
    cic := if act.intr then s.cicAfter (128 + g) else s.cic,
    sched := { s.sched with haltPending := act.halt || s.sched.haltPending } }

theorem opAssert_of_fires {act : AssertAct} {v : Nv} (hfires : assertFires act v = true)
    (hroom : (NMap.get (fun _ => []) s.fab.asserts (galOf b)).length < 64) : opAssert s b act v = s.asserted b act v := by
  have hlog : (if act.log then (s.assertLeaf b).pushAssert b act v else s.assertLeaf b) =
      { s.asserted b act v with cic := s.cic, sched := s.sched } := by
    cases hlog : act.log
    · simp only [State.asserted, hlog]; rfl
    · simp only [State.asserted, hlog]; exact if_pos hroom
  have hintr : (if act.intr then State.cicEvent { s.asserted b act v with cic := s.cic, sched := s.sched } (128 + galOf b)
      else { s.asserted b act v with cic := s.cic, sched := s.sched }) = { s.asserted b act v with sched := s.sched } := by
    cases hintr : act.intr
    · simp only [State.asserted, hintr]; rfl
    · rw [if_pos rfl, State.cicEvent_eq]; simp only [State.asserted, hintr]; rfl
  calc opAssert s b act v
    _ = (if act.halt then State.haltAtEnd { s.asserted b act v with sched := s.sched }
          else { s.asserted b act v with sched := s.sched }) := by
      rw [← hintr, ← hlog]; exact if_pos hfires
    _ = s.asserted b act v := by
      cases hhalt : act.halt <;> simp only [State.asserted, hhalt] <;> rfl

end Events

/-- Settles O15: each operation's effect by its own equation; an ASSERT that fires acts once for each of its actions. -/
theorem pinsEventsAndConstants : Obligations.PinsEventsAndConstants := by
  unfold Obligations.PinsEventsAndConstants
  intro b a s v g
  refine ⟨fun pin => ⟨rfl, rfl⟩, fun leaf => opTrig_eq .., fun act h => opAssert_of_not_fires h,
    fun act hfires hroom => ?_, fun c hc => if_neg hc, rfl⟩
  dsimp only
  have heffect : s.wordEffect b (.assert act a) = s.asserted b act v := opAssert_of_fires (assertFires_of hfires) hroom
  rw [heffect, State.cicEvent_eq]
  exact ⟨rfl, rfl, rfl, rfl, rfl, rfl⟩

end Sys2Proof.Machine

/-! Memory operations of the schedule (02, R44 to R50; 04, R95, R96, R104, R114 to R124). -/

namespace Sys2Proof.Machine

/-! Byte masks (R47). -/

theorem getLsbD_byteMask {i : Nat} (hi : i < 64) (j : Nat) : (0xFF#64 <<< (8 * j)).getLsbD i = decide (i / 8 = j) := by
  have hff (k : Nat) : (0xFF#64).getLsbD k = decide (k < 8) := by
    rw [show (0xFF#64) = BitVec.setWidth 64 (BitVec.allOnes 8) from rfl, BitVec.getLsbD_setWidth, BitVec.getLsbD_allOnes]
    by_cases h : k < 8 <;> simp [h]; omega
  simp only [BitVec.getLsbD_shiftLeft, hff, hi, decide_true, Bool.true_and]
  rw [← decide_not, ← Bool.decide_and, decide_eq_decide]
  omega

theorem getLsbD_mergeByte {i : Nat} (hi : i < 64) (j : Nat) (old new : Dword) :
    ((old &&& ~~~(0xFF#64 <<< (8 * j))) ||| (new &&& (0xFF#64 <<< (8 * j)))).getLsbD i =
      if i / 8 = j then new.getLsbD i else old.getLsbD i := by
  rw [BitVec.getLsbD_or, BitVec.getLsbD_and, BitVec.getLsbD_and, BitVec.getLsbD_not, getLsbD_byteMask hi, decide_eq_true hi]
  by_cases h : i / 8 = j <;> simp only [h] <;> simp

/-- The first `n` bytes merged, bit by bit. -/
theorem getLsbD_mergeBytes_range {i : Nat} (hi : i < 64) (mask : BitVec 8) (old new : Dword) (n : Nat) :
    ((List.range n).foldl (fun w j =>
      if mask.getLsbD j then (w &&& ~~~(0xFF#64 <<< (8 * j))) ||| (new &&& (0xFF#64 <<< (8 * j))) else w) old).getLsbD i =
      if i / 8 < n ∧ mask.getLsbD (i / 8) = true then new.getLsbD i else old.getLsbD i := by
  induction n with
  | zero => rw [if_neg (by omega)]; rfl
  | succ n ih =>
    rw [List.range_succ, List.foldl_append, List.foldl_cons, List.foldl_nil,
      apply_ite (fun w : Dword => w.getLsbD i), getLsbD_mergeByte hi, ih]
    by_cases hn : i / 8 = n
    · subst hn
      simp
    · have hlt : i / 8 < n + 1 ↔ i / 8 < n := by omega
      simp [hn, hlt]

/-- Bit `i` of a merge is the new word's where the mask selects its byte (R47). -/
theorem getLsbD_mergeBytes {i : Nat} (hi : i < 64) (mask : BitVec 8) (old new : Dword) :
    (mergeBytes mask old new).getLsbD i = if mask.getLsbD (i / 8) = true then new.getLsbD i else old.getLsbD i := by
  have hbyte : i / 8 < 8 := by omega
  simp only [mergeBytes, getLsbD_mergeBytes_range hi, hbyte, true_and]

theorem mergeBytes_full (old new : Dword) : mergeBytes 0xFF old new = new := by
  refine BitVec.eq_of_getLsbD_eq fun i hi => ?_
  have hff : BitVec.getLsbD (0xFF : BitVec 8) (i / 8) = true := by
    rw [show (0xFF : BitVec 8) = BitVec.allOnes 8 from rfl, BitVec.getLsbD_allOnes, decide_eq_true_eq]; omega
  rw [getLsbD_mergeBytes hi, if_pos hff]
section Access

variable {s : State} {b : Nat}

/-- The chamber's first operation of the step, of a bank or of the Deep Store, is noted (R46). -/
def State.claimed (s : State) (b : Nat) (bank : Bool) : State :=
  { s with fab := { s.fab with memOps := b / 64 :: s.fab.memOps,
                               bankUse := if bank then b / 64 :: s.fab.bankUse else s.fab.bankUse } }

theorem State.claimChamber_first (h : s.fab.memOps.contains (b / 64) = false) (bank : Bool) :
    s.claimChamber b bank = (true, s.claimed b bank) := by
  rw [State.claimChamber]
  exact if_neg (ne_true_of_eq_false h)

theorem State.claimChamber_second (h : s.fab.memOps.contains (b / 64) = true) (bank : Bool) :
    s.claimChamber b bank = (false, s.record (galOf b) 1 (s.locOf b)) := by
  rw [State.claimChamber]
  exact if_pos h

/-! The enable and the address (R45, R119, R124). -/

theorem State.checkAccess_unknown {deep : Bool} {en : Nv} (h : en.k = false) :
    s.checkAccess b deep en = (.refused, s.record (galOf b) 3 (s.locOf b)) := if_pos h

theorem State.checkAccess_zero (deep : Bool) : s.checkAccess b deep Nv.zero = (.disabled, s) := rfl

theorem State.checkAccess_one (h : (s.stagedAddr (b / 64)).2 = 0) (deep : Bool) : s.checkAccess b deep Nv.one =
    if deep then
      if s.granted (galOf b) ((s.stagedAddr (b / 64)).1 * 8) = false then
        (.refused, (s.record (galOf b) 2 (s.locOf b)).recordDm (galOf b) 3 (.schedule (b % 64)) (b / 64 % 16) 0 s.sched.step)
      else if s.chanReady (dsChannel ((s.stagedAddr (b / 64)).1 * 8)) then (.at (s.stagedAddr (b / 64)).1, s)
      else (.down, s.record (galOf b) 2 (s.locOf b))
    else if (s.stagedAddr (b / 64)).1 ≥ 8192 then (.refused, s.record (galOf b) 2 (s.locOf b))
    else (.at (s.stagedAddr (b / 64)).1, s) := by
  have hknown : ¬(s.stagedAddr (b / 64)).2 ≠ 0 := not_not_intro h
  exact if_neg hknown

/-- A bank access with a known 1 as enable and an address of the bank is made at that word. -/
theorem State.checkAccess_bank (hknown : (s.stagedAddr (b / 64)).2 = 0) (hin : (s.stagedAddr (b / 64)).1 < 8192) :
    s.checkAccess b false Nv.one = (.at (s.stagedAddr (b / 64)).1, s) := by
  rw [State.checkAccess_one hknown]
  exact if_neg (not_le.2 hin)

theorem State.checkAccess_outside (hknown : (s.stagedAddr (b / 64)).2 = 0) (hout : 8192 ≤ (s.stagedAddr (b / 64)).1) :
    s.checkAccess b false Nv.one = (.refused, s.record (galOf b) 2 (s.locOf b)) := by
  rw [State.checkAccess_one hknown]
  exact if_pos hout

theorem State.checkAccess_deep (hknown : (s.stagedAddr (b / 64)).2 = 0)
    (hgranted : s.granted (galOf b) ((s.stagedAddr (b / 64)).1 * 8) = true)
    (hready : s.chanReady (dsChannel ((s.stagedAddr (b / 64)).1 * 8)) = true) :
    s.checkAccess b true Nv.one = (.at (s.stagedAddr (b / 64)).1, s) := by
  rw [State.checkAccess_one hknown, if_pos rfl, if_neg (by simp [hgranted]), if_pos hready]

/-! The operations, by what the chamber's claim and the access lead to. -/

section Second

variable (h : s.fab.memOps.contains (b / 64) = true)
include h

theorem opMwr_second (mask : BitVec 8) (en : Nv) : opMwr s b mask en = s.record (galOf b) 1 (s.locOf b) := by
  rw [opMwr, State.claimChamber_second h]; rfl

theorem opMdeepwr_second (mask : BitVec 8) (en : Nv) : opMdeepwr s b mask en = s.record (galOf b) 1 (s.locOf b) := by
  rw [opMdeepwr, State.claimChamber_second h]; rfl

theorem opMrd_second (en : Nv) : opMrd s b en =
    (s.record (galOf b) 1 (s.locOf b)).deliver (b / 64) s.sched.step 6 (fun _ => Nv.zero) := by
  rw [opMrd, State.claimChamber_second h]; rfl

theorem opMatom_second (swap : Bool) (en : Nv) : opMatom s b swap en =
    (s.record (galOf b) 1 (s.locOf b)).deliver (b / 64) s.sched.step 6 (fun _ => Nv.zero) := by
  rw [opMatom, State.claimChamber_second h]; rfl

theorem opMdeeprd_second (en : Nv) : opMdeeprd s b en =
    (s.record (galOf b) 1 (s.locOf b)).deliver (b / 64) s.sched.step 6 (fun _ => Nv.zero) := by
  rw [opMdeeprd, State.claimChamber_second h]; rfl

end Second

section Outcomes

variable {bank deep : State} {en : Nv}

/-- A refused operation records why; a read delivers 0 or X to every lane (R45). -/
theorem State.bank_refused (h : s.fab.memOps.contains (b / 64) = false)
    (ha : (s.claimed b true).checkAccess b false en = (.refused, bank)) :
    (∀ mask, opMwr s b mask en = bank) ∧
    opMrd s b en = bank.deliver (b / 64) s.sched.step 6 (fun _ => absent (s.four (galOf b))) ∧
    ∀ swap, opMatom s b swap en = bank.deliver (b / 64) s.sched.step 6 (fun _ => absent (s.four (galOf b))) := by
  simp only [opMwr, opMrd, opMatom, State.claimChamber_first h, ha]
  exact ⟨fun _ => rfl, rfl, fun _ => rfl⟩

theorem State.deep_refused (h : s.fab.memOps.contains (b / 64) = false)
    (ha : (s.claimed b false).checkAccess b true en = (.refused, deep)) :
    (∀ mask, opMdeepwr s b mask en = deep) ∧
    opMdeeprd s b en = deep.deliver (b / 64) s.sched.step 6 (fun _ => absent (s.four (galOf b))) := by
  simp only [opMdeepwr, opMdeeprd, State.claimChamber_first h, ha]
  exact ⟨fun _ => rfl, rfl⟩

/-- An operation whose enable is 0 does nothing; a read delivers 0 to every lane (R45). -/
theorem State.bank_disabled (h : s.fab.memOps.contains (b / 64) = false)
    (ha : (s.claimed b true).checkAccess b false en = (.disabled, bank)) :
    (∀ mask, opMwr s b mask en = bank) ∧
    opMrd s b en = bank.deliver (b / 64) s.sched.step 6 (fun _ => Nv.zero) ∧
    ∀ swap, opMatom s b swap en = bank.deliver (b / 64) s.sched.step 6 (fun _ => Nv.zero) := by
  simp only [opMwr, opMrd, opMatom, State.claimChamber_first h, ha]
  exact ⟨fun _ => rfl, rfl, fun _ => rfl⟩

theorem State.deep_disabled (h : s.fab.memOps.contains (b / 64) = false)
    (ha : (s.claimed b false).checkAccess b true en = (.disabled, deep)) :
    (∀ mask, opMdeepwr s b mask en = deep) ∧
    opMdeeprd s b en = deep.deliver (b / 64) s.sched.step 6 (fun _ => Nv.zero) := by
  simp only [opMdeepwr, opMdeeprd, State.claimChamber_first h, ha]
  exact ⟨fun _ => rfl, rfl⟩

end Outcomes

/-! Bank words without an error mark (R95, R96, R104). -/

section Bank

variable {c w : Nat}

theorem State.dmRead_good (h : s.dmMark c w = .good) (a : DmAgent) (step : Nat) :
    s.dmRead c w a step = (s.dmWord c w, false, s) := by
  rw [State.dmRead, h]

/-- The bank with word `w` of chamber `c` stored, its check bits fresh, its scrub write-back abandoned. -/
def State.bankStored (s : State) (c w : Nat) (d : Dword) : State :=
  { s with mem := { s.mem with dm := NMap.set dZero64 s.mem.dm (c * 8192 + w) d,
                               dmEcc := NMap.set dGood s.mem.dmEcc (c * 8192 + w) .good,
                               dripBack := s.mem.dripBack.filter (fun e => e != (c, w)) } }

theorem State.dmCommit_unarmed (harmed : s.lnt.armed = []) (d : Dword) : s.dmCommit c w d = s.bankStored c w d := by
  simp only [State.dmCommit]
  rw [State.isArmed_of_nil (s := { s with mem := { s.mem with dripBack := s.mem.dripBack.filter (fun e => e != (c, w)) } })
      harmed, State.isArmed_of_nil
      (s := { s with mem := { s.mem with dripBack := s.mem.dripBack.filter (fun e => e != (c, w)) } }) harmed]
  rfl

theorem State.dmWrite_good (harmed : s.lnt.armed = []) (h : s.dmMark c w = .good) (mask : BitVec 8) (d : Dword)
    (a : DmAgent) (step : Nat) : s.dmWrite c w mask d a step = s.bankStored c w (mergeBytes mask (s.dmWord c w) d) := by
  rw [State.dmWrite]
  split
  · next hfull => rw [hfull, mergeBytes_full, State.dmCommit_unarmed harmed]
  · rw [State.dmRead_good h]
    exact State.dmCommit_unarmed harmed _

theorem State.dmAtomic_good (harmed : s.lnt.armed = []) (h : s.dmMark c w = .good) (swap : Bool) (d : Dword)
    (a : DmAgent) (step : Nat) : s.dmAtomic c w swap d a step =
      (s.dmWord c w, false, s.bankStored c w (atomicResult swap (s.dmWord c w) d)) := by
  rw [State.dmAtomic, State.dmRead_good h]
  exact congrArg (fun t => (s.dmWord c w, false, t)) (State.dmCommit_unarmed harmed _)

end Bank

/-- The word staging register with no unknown bit in an enabled byte. -/
theorem State.stagedWord_known {c : Nat} {mask : BitVec 8} (h : mergeBytes mask 0 (NMap.get dZero64 s.fab.wordX c) = 0) :
    s.stagedWord c mask = (NMap.get dZero64 s.fab.wordV c &&& ~~~NMap.get dZero64 s.fab.wordX c, false) := by
  rw [State.stagedWord, h]
  rfl

section BankAccess

variable (h : s.fab.memOps.contains (b / 64) = false) (hknown : (s.stagedAddr (b / 64)).2 = 0)
  (hin : (s.stagedAddr (b / 64)).1 < 8192) (hgood : s.dmMark (b / 64) (s.stagedAddr (b / 64)).1 = .good)
include hknown hin

theorem State.claimed_access : (s.claimed b true).checkAccess b false Nv.one =
    (.at (s.stagedAddr (b / 64)).1, s.claimed b true) := State.checkAccess_bank (s := s.claimed b true) hknown hin

include h hgood

theorem opMrd_good : opMrd s b Nv.one = (s.claimed b true).deliver (b / 64) s.sched.step 6
    (laneBit (s.dmWord (b / 64) (s.stagedAddr (b / 64)).1)) := by
  have hread : (s.claimed b true).dmRead (b / 64) (s.stagedAddr (b / 64)).1 (.schedule (b % 64)) s.sched.step =
      (s.dmWord (b / 64) (s.stagedAddr (b / 64)).1, false, s.claimed b true) :=
    State.dmRead_good (s := s.claimed b true) hgood ..
  simp only [opMrd, State.claimChamber_first h, State.claimed_access hknown hin, hread, Bool.true_eq_false, if_false]

theorem opMwr_good (harmed : s.lnt.armed = []) {mask : BitVec 8}
    (hword : mergeBytes mask 0 (NMap.get dZero64 s.fab.wordX (b / 64)) = 0) : opMwr s b mask Nv.one =
      (s.claimed b true).bankStored (b / 64) (s.stagedAddr (b / 64)).1
        (mergeBytes mask (s.dmWord (b / 64) (s.stagedAddr (b / 64)).1)
          (NMap.get dZero64 s.fab.wordV (b / 64) &&& ~~~NMap.get dZero64 s.fab.wordX (b / 64))) := by
  have hstaged := State.stagedWord_known (s := s.claimed b true) hword
  have hwrite := State.dmWrite_good (s := s.claimed b true) harmed hgood
  simp only [opMwr, State.claimChamber_first h, State.claimed_access hknown hin, hstaged]
  exact hwrite ..

theorem opMatom_good (harmed : s.lnt.armed = []) (hword : NMap.get dZero64 s.fab.wordX (b / 64) = 0) (swap : Bool) :
    opMatom s b swap Nv.one =
      ((s.claimed b true).bankStored (b / 64) (s.stagedAddr (b / 64)).1
        (atomicResult swap (s.dmWord (b / 64) (s.stagedAddr (b / 64)).1) (NMap.get dZero64 s.fab.wordV (b / 64)))).deliver
        (b / 64) s.sched.step 6 (laneBit (s.dmWord (b / 64) (s.stagedAddr (b / 64)).1)) := by
  have hmask : mergeBytes 0xFF 0 (NMap.get dZero64 s.fab.wordX (b / 64)) = 0 := by rw [hword, mergeBytes_full]
  have hstaged : (s.claimed b true).stagedWord (b / 64) 0xFF = (NMap.get dZero64 s.fab.wordV (b / 64), false) := by
    refine (State.stagedWord_known (s := s.claimed b true) hmask).trans ?_
    rw [show (s.claimed b true).fab.wordX = s.fab.wordX from rfl, hword, BitVec.ofNat_eq_ofNat, BitVec.not_zero,
      BitVec.and_allOnes]
    rfl
  have hatomic (d : Dword) : (s.claimed b true).dmAtomic (b / 64) (s.stagedAddr (b / 64)).1 swap d (.schedule (b % 64))
      s.sched.step = (s.dmWord (b / 64) (s.stagedAddr (b / 64)).1, false, (s.claimed b true).bankStored (b / 64)
        (s.stagedAddr (b / 64)).1 (atomicResult swap (s.dmWord (b / 64) (s.stagedAddr (b / 64)).1) d)) :=
    State.dmAtomic_good (s := s.claimed b true) harmed hgood ..
  simp only [opMatom, State.claimChamber_first h, State.claimed_access hknown hin, hstaged, State.xdata, hatomic,
    Bool.true_eq_false, Bool.false_eq_true, if_false]

end BankAccess

section DeepAccess

variable (h : s.fab.memOps.contains (b / 64) = false) (hknown : (s.stagedAddr (b / 64)).2 = 0)
  (hgranted : s.granted (galOf b) ((s.stagedAddr (b / 64)).1 * 8) = true)
  (hready : s.chanReady (dsChannel ((s.stagedAddr (b / 64)).1 * 8)) = true)
include h hknown hgranted hready

/-- A deep operation becomes outstanding (R121). -/
def State.deepIssued (s : State) (b : Nat) (o : DeepOp) : State :=
  { s with fab := { s.fab with memOps := b / 64 :: s.fab.memOps, deep := s.fab.deep ++ [o] } }

theorem opMdeeprd_granted : opMdeeprd s b Nv.one = s.deepIssued b
    { cham := b / 64, lane := b % 64, step := s.sched.step, word := (s.stagedAddr (b / 64)).1, write := false, mask := 0,
      data := s.deepView (b / 64) (s.stagedAddr (b / 64)).1, tick := s.sched.curTick } := by
  have haccess : (s.claimed b false).checkAccess b true Nv.one = (.at (s.stagedAddr (b / 64)).1, s.claimed b false) :=
    State.checkAccess_deep (s := s.claimed b false) hknown hgranted hready
  simp only [opMdeeprd, State.claimChamber_first h, haccess]
  rfl

theorem opMdeepwr_granted {mask : BitVec 8} (hword : mergeBytes mask 0 (NMap.get dZero64 s.fab.wordX (b / 64)) = 0) :
    opMdeepwr s b mask Nv.one = s.deepIssued b
      { cham := b / 64, lane := b % 64, step := s.sched.step, word := (s.stagedAddr (b / 64)).1, write := true,
        mask := mask, tick := s.sched.curTick,
        data := NMap.get dZero64 s.fab.wordV (b / 64) &&& ~~~NMap.get dZero64 s.fab.wordX (b / 64) } := by
  have haccess : (s.claimed b false).checkAccess b true Nv.one = (.at (s.stagedAddr (b / 64)).1, s.claimed b false) :=
    State.checkAccess_deep (s := s.claimed b false) hknown hgranted hready
  have hstaged := State.stagedWord_known (s := s.claimed b false) hword
  simp only [opMdeepwr, State.claimChamber_first h, haccess, hstaged]
  rfl

end DeepAccess

end Access

/-! A deep write that its channel accepts (R115, R116). -/

section Accept

variable {s : State} {w : Nat}

theorem State.dsCheck_good (hread : s.mem.dsUnread.contains (w / 8) = false) (h : s.dsMark w = .good) :
    s.dsCheck w = (s.dsWord w, false, s) := by
  simp only [State.dsCheck, hread, h]
  rfl

/-- The scrub write-back of word `w` is abandoned (R373). -/
def State.scrubDropped (s : State) (w : Nat) : State :=
  { s with mem := { s.mem with dsBack := s.mem.dsBack.filter (fun b => b != w) } }

/-- The check bits of word `w` are fresh. -/
def State.dsFresh (s : State) (w : Nat) : State :=
  { s with mem := { s.mem with dsEcc := NMap.set dGood s.mem.dsEcc w .good } }

theorem State.dsCommit_unarmed (harmed : s.lnt.armed = []) (mask : BitVec 8) (d : Dword) :
    s.dsCommit w mask d = ((s.scrubDropped w).dsWordPut w mask d).dsFresh w := by
  simp only [State.dsCommit]
  rw [State.isArmed_of_nil (s := { s with mem := { s.mem with dsBack := s.mem.dsBack.filter (fun b => b != w) } }) harmed,
    State.isArmed_of_nil (s := { s with mem := { s.mem with dsBack := s.mem.dsBack.filter (fun b => b != w) } }) harmed]
  rfl

theorem State.dsPutWord_good (harmed : s.lnt.armed = []) (hdrop : s.mem.dsDrop.contains (w / 8) = false)
    (hread : s.mem.dsUnread.contains (w / 8) = false) (h : s.dsMark w = .good) (mask : BitVec 8) (d : Dword) :
    s.dsPutWord w mask d = ((s.scrubDropped w).dsWordPut w mask d).dsFresh w := by
  rw [State.dsPutWord, if_neg (ne_true_of_eq_false hdrop)]
  split
  · exact State.dsCommit_unarmed harmed ..
  · rw [State.dsCheck_good hread h]
    exact State.dsCommit_unarmed harmed ..

theorem State.dsPutAll_dsDrop (bs : List Byte) (s : State) (a : Nat) : (s.dsPutAll a bs).mem.dsDrop = s.mem.dsDrop := by
  induction bs generalizing s a with
  | nil => rfl
  | cons b bs ih => exact ih ..

/-- A burst that is not abandoned ends no abandoned burst (R115). -/
theorem State.writeDone_of_not_dropped (h : s.mem.dsDrop.contains (w / 8) = false) : s.writeDone w 1 = s := by
  have hkeep : s.mem.dsDrop.filter (fun b => Nat.blt b (w / 8) || Nat.ble (w + 1) (b * 8)) = s.mem.dsDrop := by
    rw [List.filter_eq_self]
    intro b hb
    have hne : b ≠ w / 8 := by rintro rfl; simp [hb] at h
    rw [Bool.or_eq_true, Nat.blt_eq, Nat.ble_eq]
    omega
  rw [State.writeDone, hkeep]

theorem State.dsWrite_good (harmed : s.lnt.armed = []) (hdrop : s.mem.dsDrop.contains (w / 8) = false)
    (hread : s.mem.dsUnread.contains (w / 8) = false) (h : s.dsMark w = .good) (mask : BitVec 8) (d : Dword) :
    s.dsWrite w mask d = ((s.scrubDropped w).dsWordPut w mask d).dsFresh w := by
  rw [State.dsWrite, State.dsPutWord_good harmed hdrop hread h]
  have hsame : (((s.scrubDropped w).dsWordPut w mask d).dsFresh w).mem.dsDrop = s.mem.dsDrop :=
    State.dsPutAll_dsDrop _ (s.scrubDropped w) _
  exact State.writeDone_of_not_dropped (by rw [hsame]; exact hdrop)

theorem exec_deepWriteAccept_none {c : Cham} (h : s.nextDeepWrite c = none) :
    exec (.deepWriteAccept c) s = .next s := by
  rw [show exec (.deepWriteAccept c) s = execDeepWriteAccept c s from rfl, execDeepWriteAccept, h]

theorem exec_deepWriteAccept_some {c : Cham} {o : DeepOp} (h : s.nextDeepWrite c = some o) :
    exec (.deepWriteAccept c) s =
      .next ({ s with fab := { s.fab with deep := s.fab.deep.erase o } }.dsWrite o.word o.mask o.data) := by
  rw [show exec (.deepWriteAccept c) s = execDeepWriteAccept c s from rfl, execDeepWriteAccept, h]

end Accept

/-- Settles O14: what the chamber's claim and its access lead to, operation by operation, then the acceptance. -/
theorem bankAndDeepOperations : Obligations.BankAndDeepOperations := by
  unfold Obligations.BankAndDeepOperations
  refine ⟨fun b en s hen hfirst hknown hin harmed => ?_, fun b en mask s hfirst => ?_, fun b en mask swap s hsecond => ?_,
    fun b en s hen hfirst hknown hgranted hready => ?_, fun c s h => exec_deepWriteAccept_none h,
    fun c o s h harmed hdrop hread hgood => ?_⟩
  · intro c w busy lanes stored hgood
    simp only [State.wordEffect, hen]
    refine ⟨opMrd_good hfirst hknown hin hgood, fun mask hword => opMwr_good hfirst hknown hin hgood harmed hword,
      fun hword swap => ?_⟩
    rw [opMatom_good hfirst hknown hin hgood harmed hword]
    rfl
  · intro c g bank deep l lanes
    refine ⟨fun hen => ?_, fun hen => ?_, fun hen hknown hout => ?_⟩
    · obtain ⟨hwr, hrd, hatom⟩ := State.bank_refused hfirst (State.checkAccess_unknown (s := s.claimed b true) hen)
      obtain ⟨hdwr, hdrd⟩ := State.deep_refused hfirst (State.checkAccess_unknown (s := s.claimed b false) hen)
      exact ⟨hwr mask, hdwr mask, hrd, hdrd, hatom⟩
    · simp only [State.wordEffect, hen]
      obtain ⟨hwr, hrd, hatom⟩ := State.bank_disabled hfirst (State.checkAccess_zero (s := s.claimed b true) (b := b) false)
      obtain ⟨hdwr, hdrd⟩ := State.deep_disabled hfirst (State.checkAccess_zero (s := s.claimed b false) (b := b) true)
      exact ⟨hwr mask, hdwr mask, hrd, hdrd, hatom⟩
    · simp only [State.wordEffect, hen]
      obtain ⟨hwr, hrd, -⟩ := State.bank_refused hfirst (State.checkAccess_outside (s := s.claimed b true) hknown hout)
      exact ⟨hwr mask, hrd⟩
  · exact ⟨opMwr_second hsecond .., opMdeepwr_second hsecond .., opMrd_second hsecond .., opMatom_second hsecond ..,
      opMdeeprd_second hsecond ..⟩
  · simp only [State.wordEffect, hen]
    exact ⟨opMdeeprd_granted hfirst hknown hgranted hready,
      fun mask hword => opMdeepwr_granted hfirst hknown hgranted hready hword⟩
  · rw [exec_deepWriteAccept_some h]
    exact congrArg _ (State.dsWrite_good (s := { s with fab := { s.fab with deep := s.fab.deep.erase o } })
      harmed hdrop hread hgood o.mask o.data)

end Sys2Proof.Machine

/-! Step words and their fields (02, R34, R35): decoding names the fields of a word, encoding puts them back. -/

namespace Sys2Proof.Machine

/-- The fields of a step word beside its marks (R34): opcode, FN, the operands A to D. -/
structure WordFields where
  op : Nat
  fn : Nat
  a : Operand
  b : Operand
  c : Operand
  d : Operand

/-- The marks in bits 2:0 of a word. -/
def marksOf (n : Nat) : Marks := ⟨n.testBit 2, n.testBit 1, n.testBit 0⟩

/-- The fields of a word. -/
def fieldsOf (n : Nat) : WordFields := ⟨bitsOf 63 59 n, bitsOf 58 51 n, opndA n, opndB n, opndC n, opndD n⟩

/-- The word that fields and marks make. -/
def WordFields.word (f : WordFields) (m : Marks) : Nat :=
  f.op * 2 ^ 59 + f.fn * 2 ^ 51 + (opndBits f.a 50 + opndBits f.b 38 + opndBits f.c 26 + opndBits f.d 14) +
    natOfBool m.p * 4 + natOfBool m.s * 2 + natOfBool m.k

/-- Do opcode and FN fit their fields? -/
def WordFields.Fits (f : WordFields) : Prop := f.op < 32 ∧ f.fn < 256

/-! A word is its fields. -/

theorem natOfBool_lt (b : Bool) : natOfBool b < 2 := by cases b <;> decide

theorem testBit_eq_of_div {n i : Nat} {b : Bool} (h : n / 2 ^ i % 2 = natOfBool b) : n.testBit i = b := by
  rw [Nat.testBit_eq_decide_div_mod_eq, h]
  cases b <;> rfl

theorem natOfBool_testBit (n i : Nat) : natOfBool (n.testBit i) = n / 2 ^ i % 2 := by
  rw [Nat.testBit_eq_decide_div_mod_eq]
  rcases Nat.mod_two_eq_zero_or_one (n / 2 ^ i) with h | h <;> rw [h] <;> rfl

theorem opndAt_eq {n g : Nat} {o : Operand} (hprev : n / 2 ^ g % 2 = natOfBool o.prev)
    (haddr : n / 2 ^ (g - 11) % 2 ^ 11 = o.addr.toNat) : opndAt n g = o := by
  have h : BitVec.ofNat 11 (n / 2 ^ (g - 11)) = o.addr := BitVec.eq_of_toNat_eq (by rw [BitVec.toNat_ofNat, haddr])
  rw [opndAt, testBit_eq_of_div hprev, h]

theorem opndBits_opndAt (n g : Nat) :
    opndBits (opndAt n g) g = n / 2 ^ g % 2 * 2 ^ g + n / 2 ^ (g - 11) % 2 ^ 11 * 2 ^ (g - 11) := by
  rw [opndBits, opndAt, natOfBool_testBit, BitVec.toNat_ofNat]

theorem div_pow_split (n lo w : Nat) : n / 2 ^ lo = n / 2 ^ (lo + w) * 2 ^ w + n / 2 ^ lo % 2 ^ w := by
  rw [pow_add, ← Nat.div_div_eq_div_mul, Nat.div_add_mod']

/-- A word is put together again from its lowest field up. -/
theorem WordFields.word_fieldsOf {n : Nat} (h : n < 2 ^ 64) : (fieldsOf n).word (marksOf n) = n := by
  have htop : n / 2 ^ 59 % 2 ^ 5 = n / 2 ^ 59 := Nat.mod_eq_of_lt (by omega)
  have hk := div_pow_split n 0 1
  have hs := div_pow_split n 1 1
  have hp := div_pow_split n 2 1
  have hda := div_pow_split n 3 11
  have hdp := div_pow_split n 14 1
  have hca := div_pow_split n 15 11
  have hcp := div_pow_split n 26 1
  have hba := div_pow_split n 27 11
  have hbp := div_pow_split n 38 1
  have haa := div_pow_split n 39 11
  have hap := div_pow_split n 50 1
  have hfn := div_pow_split n 51 8
  simp only [WordFields.word, fieldsOf, marksOf, opndA, opndB, opndC, opndD, opndBits_opndAt, natOfBool_testBit, bitsOf,
    Nat.reduceAdd, Nat.reduceSub, htop] at *
  rw [pow_one, pow_zero, Nat.div_one] at *
  linarith

theorem WordFields.word_lt {f : WordFields} (h : f.Fits) (m : Marks) : f.word m < 2 ^ 64 := by
  obtain ⟨hop, hfn⟩ := h
  have hp := natOfBool_lt m.p
  have hs := natOfBool_lt m.s
  have hk := natOfBool_lt m.k
  have ha := natOfBool_lt f.a.prev
  have hb := natOfBool_lt f.b.prev
  have hc := natOfBool_lt f.c.prev
  have hd := natOfBool_lt f.d.prev
  have haa := f.a.addr.isLt
  have hba := f.b.addr.isLt
  have hca := f.c.addr.isLt
  have hda := f.d.addr.isLt
  simp only [WordFields.word, opndBits]
  omega

/-- The digits of a word in the radices of R34. -/
theorem word_digits {op fn ap aa bp ba cp ca dp da p s k n : Nat} (_ : op < 32) (_ : fn < 256) (_ : ap < 2)
    (_ : aa < 2 ^ 11) (_ : bp < 2) (_ : ba < 2 ^ 11) (_ : cp < 2) (_ : ca < 2 ^ 11) (_ : dp < 2) (_ : da < 2 ^ 11)
    (_ : p < 2) (_ : s < 2) (_ : k < 2)
    (_ : op * 2 ^ 59 + fn * 2 ^ 51 + (ap * 2 ^ 50 + aa * 2 ^ 39 + (bp * 2 ^ 38 + ba * 2 ^ 27) +
      (cp * 2 ^ 26 + ca * 2 ^ 15) + (dp * 2 ^ 14 + da * 2 ^ 3)) + p * 4 + s * 2 + k = n) :
    (n / 2 ^ 59 % 2 ^ 5 = op ∧ n / 2 ^ 51 % 2 ^ 8 = fn) ∧
    ((n / 2 ^ 50 % 2 = ap ∧ n / 2 ^ 39 % 2 ^ 11 = aa) ∧ (n / 2 ^ 38 % 2 = bp ∧ n / 2 ^ 27 % 2 ^ 11 = ba) ∧
      (n / 2 ^ 26 % 2 = cp ∧ n / 2 ^ 15 % 2 ^ 11 = ca) ∧ (n / 2 ^ 14 % 2 = dp ∧ n / 2 ^ 3 % 2 ^ 11 = da)) ∧
    (n / 2 ^ 2 % 2 = p ∧ n / 2 ^ 1 % 2 = s ∧ n / 2 ^ 0 % 2 = k) := by
  refine ⟨⟨?_, ?_⟩, ⟨⟨?_, ?_⟩, ⟨?_, ?_⟩, ⟨?_, ?_⟩, ?_, ?_⟩, ?_, ?_, ?_⟩ <;> omega

theorem fieldsOf_word {f : WordFields} (h : f.Fits) (m : Marks) : fieldsOf (f.word m) = f ∧ marksOf (f.word m) = m := by
  obtain ⟨⟨hop, hfn⟩, ⟨⟨hap, haa⟩, ⟨hbp, hba⟩, ⟨hcp, hca⟩, hdp, hda⟩, hp, hs, hk⟩ :=
    word_digits h.1 h.2 (natOfBool_lt f.a.prev) f.a.addr.isLt (natOfBool_lt f.b.prev) f.b.addr.isLt
      (natOfBool_lt f.c.prev) f.c.addr.isLt (natOfBool_lt f.d.prev) f.d.addr.isLt (natOfBool_lt m.p) (natOfBool_lt m.s)
      (natOfBool_lt m.k) (n := f.word m) rfl
  constructor
  · rw [fieldsOf, bitsOf, bitsOf, hop, hfn, opndA, opndB, opndC, opndD, opndAt_eq hap haa, opndAt_eq hbp hba,
      opndAt_eq hcp hca, opndAt_eq hdp hda]
  · rw [marksOf, testBit_eq_of_div hp, testBit_eq_of_div hs, testBit_eq_of_div hk]

end Sys2Proof.Machine

/-! Decoding against encoding (02, R34, R35, R37, R41, R52, R56). -/

namespace Sys2Proof.Machine

/-- The fields that an operation is encoded in. -/
def opFields : StepOp → WordFields
  | .nop => ⟨0x00, 0, noOpnd, noOpnd, noOpnd, noOpnd⟩
  | .eval f a b c d => ⟨0x01, f.toNat, a, b, c, d⟩
  | .evalx f a b c d => ⟨0x02, f.toNat, a, b, c, d⟩
  | .resolve st p act a b none =>
    ⟨0x03, natOfBool st * 32 + 16 + pullCode p * 4 + busActionCode act, a, b, noOpnd, noOpnd⟩
  | .resolve st p act a b (some (c, d)) => ⟨0x03, natOfBool st * 32 + pullCode p * 4 + busActionCode act, a, b, c, d⟩
  | .maddr f a b c d => ⟨0x04, f.toNat, a, b, c, d⟩
  | .mwdat f a b c d => ⟨0x05, f.toNat, a, b, c, d⟩
  | .mrd a => ⟨0x06, 0, a, noOpnd, noOpnd, noOpnd⟩
  | .mwr m a => ⟨0x07, m.toNat, a, noOpnd, noOpnd, noOpnd⟩
  | .matom sw a => ⟨0x08, natOfBool sw, a, noOpnd, noOpnd, noOpnd⟩
  | .mdeeprd a => ⟨0x09, 0, a, noOpnd, noOpnd, noOpnd⟩
  | .mdeepwr m a => ⟨0x0A, m.toNat, a, noOpnd, noOpnd, noOpnd⟩
  | .pinin p => ⟨0x0B, p.val, noOpnd, noOpnd, noOpnd, noOpnd⟩
  | .pinout p a => ⟨0x0C, p.val, a, noOpnd, noOpnd, noOpnd⟩
  | .assert x a => ⟨0x0D, assertCode x, a, noOpnd, noOpnd, noOpnd⟩
  | .trig l a => ⟨0x0E, l.val, a, noOpnd, noOpnd, noOpnd⟩
  | .sync b => ⟨0x0F, b.val, noOpnd, noOpnd, noOpnd, noOpnd⟩
  | .const c => ⟨0x10, constCode c, noOpnd, noOpnd, noOpnd, noOpnd⟩

theorem opndBits_noOpnd (g : Nat) : opndBits noOpnd g = 0 := by simp [opndBits, noOpnd, natOfBool]

theorem encodeOp_eq (op : StepOp) : encodeOp op = ((opFields op).op, (opFields op).fn,
    opndBits (opFields op).a 50 + opndBits (opFields op).b 38 + opndBits (opFields op).c 26 +
      opndBits (opFields op).d 14) := by
  cases op with
  | eval | evalx | maddr | mwdat => simp only [encodeOp, opFields]
  | resolve st p act a b d1 =>
    rcases d1 with _ | ⟨c, d⟩
    · simp only [encodeOp, opFields, opndBits_noOpnd, add_zero]
    · simp only [encodeOp, opFields]
  | _ => simp only [encodeOp, opFields, opndBits_noOpnd, add_zero]

theorem encodeStepWord_eq (i : StepWord) : encodeStepWord i = BitVec.ofNat 64 ((opFields i.op).word i.m) := by
  rw [encodeStepWord, encodeOp_eq, WordFields.word]

/-! The codes of FN. -/

theorem pullOf_eq_some {k : Nat} {p : Pull} : pullOf k = some p ↔ k = pullCode p := by
  unfold pullOf
  split <;> cases p <;> simp_all [pullCode]

theorem busActionOf_code (act : BusAction) : busActionOf (busActionCode act) = act := by cases act <;> rfl

theorem busActionCode_of {k : Nat} (h : k < 4) : busActionCode (busActionOf k) = k := by decide +revert

theorem busActionCode_lt (act : BusAction) : busActionCode act < 4 := by cases act <;> decide

theorem pullCode_lt (p : Pull) : pullCode p < 3 := by cases p <;> decide

theorem assertOf_code (x : AssertAct) : assertOf (assertCode x) = x := by
  obtain ⟨a, b, c, d⟩ := x
  decide +revert

theorem assertCode_of {fn : Nat} (h : fn < 16) : assertCode (assertOf fn) = fn := by decide +revert

theorem assertCode_lt (x : AssertAct) : assertCode x < 16 := by
  obtain ⟨a, b, c, d⟩ := x
  decide +revert

/-- An ASSERT has an action exactly when the low bits of its FN are not all 0 (R52). -/
theorem assertCode_mod_eight (x : AssertAct) : assertCode x % 8 ≠ 0 ↔ (x.halt || x.intr || x.log) = true := by
  obtain ⟨a, b, c, d⟩ := x
  decide +revert

theorem constOf_eq_some {fn : Nat} {c : ConstSel} : constOf fn = some c ↔ fn = constCode c := by
  constructor
  · unfold constOf
    intro h
    split_ifs at h <;> cases h <;> simp only [constCode] <;> omega
  · rintro rfl
    cases c with
    | tickBit n => revert n; decide
    | _ => rfl

theorem constCode_lt (c : ConstSel) : constCode c < 256 := by
  cases c with
  | tickBit n => simp only [constCode]; omega
  | _ => decide

theorem opFields_fits (op : StepOp) : (opFields op).Fits := by
  unfold WordFields.Fits
  cases op with
  | eval f | evalx f | maddr f | mwdat f | mwr f | mdeepwr f => exact ⟨by simp only [opFields]; decide, f.isLt⟩
  | resolve st p act a b d1 =>
    have := natOfBool_lt st
    have := pullCode_lt p
    have := busActionCode_lt act
    rcases d1 with _ | ⟨c, d⟩ <;> simp only [opFields] <;> omega
  | matom sw => have := natOfBool_lt sw; simp only [opFields]; omega
  | assert x => have := assertCode_lt x; simp only [opFields]; omega
  | const c => exact ⟨by simp only [opFields]; decide, constCode_lt c⟩
  | pinin k | pinout k | trig k | sync k => simp only [opFields]; omega
  | nop | mrd | mdeeprd => simp only [opFields]; omega

/-! Operands that a word does not have. -/

theorem opndAt_eq_noOpnd {n g : Nat} : opndAt n g = noOpnd ↔ n / 2 ^ g % 2 = 0 ∧ n / 2 ^ (g - 11) % 2 ^ 11 = 0 := by
  rw [opndAt, noOpnd, Operand.mk.injEq, Nat.testBit_eq_decide_div_mod_eq, decide_eq_false_iff_not,
    ← BitVec.toNat_inj, BitVec.toNat_ofNat]
  exact and_congr_left' Nat.mod_two_ne_one

theorem belowB_eq_zero {w : Nat} : belowB w = 0 ↔ opndC w = noOpnd ∧ opndD w = noOpnd := by
  simp only [belowB, bitsOf, opndC, opndD, opndAt_eq_noOpnd]
  omega

theorem belowA_eq_zero {w : Nat} : belowA w = 0 ↔ opndB w = noOpnd ∧ belowB w = 0 := by
  simp only [belowA, belowB, bitsOf, opndB, opndAt_eq_noOpnd]
  omega

theorem opndPart_eq_zero {w : Nat} : opndPart w = 0 ↔ opndA w = noOpnd ∧ belowA w = 0 := by
  simp only [opndPart, belowA, bitsOf, opndA, opndAt_eq_noOpnd]
  omega

/-! What decodes. -/

/-- The fields of a word with the opcode and the FN given apart. -/
def fieldsAt (op fn w : Nat) : WordFields := ⟨op, fn, opndA w, opndB w, opndC w, opndD w⟩

section Decode

variable {op fn w : Nat} {x : StepOp}

theorem fieldsAt_eq_none {o f : Nat} :
    fieldsAt op fn w = ⟨o, f, noOpnd, noOpnd, noOpnd, noOpnd⟩ ↔ op = o ∧ fn = f ∧ opndPart w = 0 := by
  rw [fieldsAt, WordFields.mk.injEq, opndPart_eq_zero, belowA_eq_zero, belowB_eq_zero]

theorem fieldsAt_eq_one {o f : Nat} {a : Operand} :
    fieldsAt op fn w = ⟨o, f, a, noOpnd, noOpnd, noOpnd⟩ ↔ op = o ∧ fn = f ∧ opndA w = a ∧ belowA w = 0 := by
  rw [fieldsAt, WordFields.mk.injEq, belowA_eq_zero, belowB_eq_zero]

theorem fieldsAt_eq_two {o f : Nat} {a b : Operand} :
    fieldsAt op fn w = ⟨o, f, a, b, noOpnd, noOpnd⟩ ↔ op = o ∧ fn = f ∧ opndA w = a ∧ opndB w = b ∧ belowB w = 0 := by
  rw [fieldsAt, WordFields.mk.injEq, belowB_eq_zero]

theorem fieldsAt_eq_four {o f : Nat} {a b c d : Operand} : fieldsAt op fn w = ⟨o, f, a, b, c, d⟩ ↔
    op = o ∧ fn = f ∧ opndA w = a ∧ opndB w = b ∧ opndC w = c ∧ opndD w = d := by
  rw [fieldsAt, WordFields.mk.injEq]

theorem toNat_ofNat_fn (h : fn < 256) : (BitVec.ofNat 8 fn).toNat = fn := BitVec.toNat_ofNat .. |>.trans (Nat.mod_eq_of_lt h)

/-- FN of a RESOLVE from its parts (R41). -/
theorem resolve_fn (h : fn / 64 = 0) {p : Pull} (hp : pullOf (bitsOf 3 2 fn) = some p) :
    fn = natOfBool (fn.testBit 5) * 32 + natOfBool (fn.testBit 4) * 16 + pullCode p * 4 +
      busActionCode (busActionOf (bitsOf 1 0 fn)) := by
  have hlow : busActionCode (busActionOf (bitsOf 1 0 fn)) = bitsOf 1 0 fn := busActionCode_of (Nat.mod_lt _ (by decide))
  rw [hlow, ← pullOf_eq_some.1 hp, natOfBool_testBit, natOfBool_testBit]
  simp only [bitsOf]
  omega

theorem natOfBool_true_mul (n : Nat) : natOfBool true * n = n := one_mul n

theorem natOfBool_false_mul (n : Nat) : natOfBool false * n = 0 := zero_mul n

/-- The parts of RESOLVE's FN (R41). -/
theorem resolve_parts {st absent : Bool} {p : Pull} {act : BusAction}
    (h : fn = natOfBool st * 32 + natOfBool absent * 16 + pullCode p * 4 + busActionCode act) :
    fn / 64 = 0 ∧ fn.testBit 5 = st ∧ fn.testBit 4 = absent ∧ pullOf (bitsOf 3 2 fn) = some p ∧
      busActionOf (bitsOf 1 0 fn) = act := by
  have hst := natOfBool_lt st
  have habsent := natOfBool_lt absent
  have hp := pullCode_lt p
  have hact := busActionCode_lt act
  have hlow : bitsOf 1 0 fn = busActionCode act := by simp only [bitsOf]; omega
  refine ⟨by omega, testBit_eq_of_div (by omega), testBit_eq_of_div (by omega), pullOf_eq_some.2 ?_,
    hlow ▸ busActionOf_code act⟩
  simp only [bitsOf]
  omega

theorem ofNat_fn_bne_zero (h : fn < 256) : (BitVec.ofNat 8 fn != 0) = true ↔ fn ≠ 0 := by
  rw [bne_iff_ne, ne_eq, ← BitVec.toNat_inj, toNat_ofNat_fn h]
  rfl

theorem natOfBool_beq_one (h : fn ≤ 1) : natOfBool (fn == 1) = fn := by
  obtain rfl | rfl := Nat.le_one_iff_eq_zero_or_eq_one.1 h <;> rfl

/-- An operation that a word decodes to is well-formed and encoded in the word's fields. -/
theorem decodeOp_sound (hfn : fn < 256) (h : decodeOp op fn w = some x) :
    StepOpWf x = true ∧ fieldsAt op fn w = opFields x := by
  unfold decodeOp at h
  dsimp only at h
  split at h
  case h_1 =>
    obtain ⟨⟨hz, hpart⟩, hx⟩ := Option.ite_none_right_eq_some.1 h
    cases hx
    exact ⟨rfl, fieldsAt_eq_none.2 ⟨rfl, hz, hpart⟩⟩
  case h_2 | h_3 | h_5 | h_6 =>
    cases h
    exact ⟨rfl, fieldsAt_eq_four.2 ⟨rfl, (toNat_ofNat_fn hfn).symm, rfl, rfl, rfl, rfl⟩⟩
  case h_4 =>
    split at h
    · cases h
    next p hp =>
      split_ifs at h with hres habsent hbelow <;> cases h
      · have hcode := resolve_fn (not_not.1 hres) hp
        rw [habsent, natOfBool_true_mul] at hcode
        exact ⟨rfl, fieldsAt_eq_two.2 ⟨rfl, hcode, rfl, rfl, hbelow⟩⟩
      · have hcode := resolve_fn (not_not.1 hres) hp
        rw [eq_false_of_ne_true habsent, natOfBool_false_mul, add_zero] at hcode
        exact ⟨rfl, fieldsAt_eq_four.2 ⟨rfl, hcode, rfl, rfl, rfl, rfl⟩⟩
  case h_7 | h_10 =>
    obtain ⟨⟨hz, hbelow⟩, hx⟩ := Option.ite_none_right_eq_some.1 h
    cases hx
    exact ⟨rfl, fieldsAt_eq_one.2 ⟨rfl, hz, rfl, hbelow⟩⟩
  case h_8 | h_11 =>
    obtain ⟨⟨hz, hbelow⟩, hx⟩ := Option.ite_none_right_eq_some.1 h
    cases hx
    exact ⟨(ofNat_fn_bne_zero hfn).2 hz, fieldsAt_eq_one.2 ⟨rfl, (toNat_ofNat_fn hfn).symm, rfl, hbelow⟩⟩
  case h_9 =>
    obtain ⟨⟨hz, hbelow⟩, hx⟩ := Option.ite_none_right_eq_some.1 h
    cases hx
    exact ⟨rfl, fieldsAt_eq_one.2 ⟨rfl, (natOfBool_beq_one hz).symm, rfl, hbelow⟩⟩
  case h_12 | h_16 =>
    split_ifs at h with hlt hpart
    cases h
    exact ⟨rfl, fieldsAt_eq_none.2 ⟨rfl, rfl, hpart⟩⟩
  case h_13 | h_15 =>
    split_ifs at h with hlt hbelow
    cases h
    exact ⟨rfl, fieldsAt_eq_one.2 ⟨rfl, rfl, rfl, hbelow⟩⟩
  case h_14 =>
    obtain ⟨⟨hhigh, hlow, hbelow⟩, hx⟩ := Option.ite_none_right_eq_some.1 h
    cases hx
    have hcode : assertCode (assertOf fn) = fn := assertCode_of (by omega)
    exact ⟨(assertCode_mod_eight _).1 (by rwa [hcode]), fieldsAt_eq_one.2 ⟨rfl, hcode.symm, rfl, hbelow⟩⟩
  case h_17 =>
    split at h
    next c hc =>
      obtain ⟨hpart, hx⟩ := Option.ite_none_right_eq_some.1 h
      cases hx
      exact ⟨rfl, fieldsAt_eq_none.2 ⟨rfl, constOf_eq_some.1 hc, hpart⟩⟩
    · cases h
  case h_18 => cases h

theorem ofNat_toNat_fn (f : BitVec 8) : BitVec.ofNat 8 f.toNat = f := by rw [BitVec.ofNat_toNat, BitVec.setWidth_eq]

theorem natOfBool_le_one (b : Bool) : natOfBool b ≤ 1 := Nat.le_of_lt_succ (natOfBool_lt b)

theorem natOfBool_eq_one (b : Bool) : (natOfBool b == 1) = b := by cases b <;> rfl

theorem toNat_ne_zero_of_bne {f : BitVec 8} (h : (f != 0) = true) : f.toNat ≠ 0 := fun h0 =>
  bne_iff_ne.1 h (BitVec.eq_of_toNat_eq h0)

/-- The fields of a well-formed operation decode to it. -/
theorem decodeOp_complete (hwf : StepOpWf x = true) (h : fieldsAt op fn w = opFields x) : decodeOp op fn w = some x := by
  cases x with
  | nop =>
    obtain ⟨rfl, rfl, hpart⟩ := fieldsAt_eq_none.1 h
    exact if_pos ⟨rfl, hpart⟩
  | eval f a b c d | evalx f a b c d | maddr f a b c d | mwdat f a b c d =>
    obtain ⟨rfl, rfl, rfl, rfl, rfl, rfl⟩ := fieldsAt_eq_four.1 h
    simp only [decodeOp, ofNat_toNat_fn]
  | resolve st p act a b d1 =>
    rcases d1 with _ | ⟨c, d⟩
    · obtain ⟨rfl, hfn, rfl, rfl, hbelow⟩ := fieldsAt_eq_two.1 h
      obtain ⟨hres, hst, habsent, hp, hact⟩ :=
        resolve_parts (st := st) (absent := true) (p := p) (act := act) (hfn.trans (by rw [natOfBool_true_mul]))
      simp only [decodeOp, hp, hres, habsent, hst, hact, hbelow, ne_eq, not_true_eq_false, if_true, if_false]
    · obtain ⟨rfl, hfn, rfl, rfl, rfl, rfl⟩ := fieldsAt_eq_four.1 h
      obtain ⟨hres, hst, habsent, hp, hact⟩ :=
        resolve_parts (st := st) (absent := false) (p := p) (act := act) (hfn.trans (by rw [natOfBool_false_mul, add_zero]))
      simp only [decodeOp, hp, hres, habsent, hst, hact, ne_eq, not_true_eq_false, Bool.false_eq_true, if_false]
  | mrd a | mdeeprd a =>
    obtain ⟨rfl, rfl, rfl, hbelow⟩ := fieldsAt_eq_one.1 h
    exact if_pos ⟨rfl, hbelow⟩
  | mwr f a | mdeepwr f a =>
    obtain ⟨rfl, rfl, rfl, hbelow⟩ := fieldsAt_eq_one.1 h
    simp only [decodeOp, ofNat_toNat_fn]
    exact if_pos ⟨toNat_ne_zero_of_bne hwf, hbelow⟩
  | matom sw a =>
    obtain ⟨rfl, rfl, rfl, hbelow⟩ := fieldsAt_eq_one.1 h
    simp only [decodeOp, natOfBool_eq_one]
    exact if_pos ⟨natOfBool_le_one sw, hbelow⟩
  | pinin k | sync k =>
    obtain ⟨rfl, rfl, hpart⟩ := fieldsAt_eq_none.1 h
    simp only [decodeOp, k.isLt, dif_pos, hpart, if_true]
  | pinout k a | trig k a =>
    obtain ⟨rfl, rfl, rfl, hbelow⟩ := fieldsAt_eq_one.1 h
    simp only [decodeOp, k.isLt, dif_pos, hbelow, if_true]
  | assert act a =>
    obtain ⟨rfl, rfl, rfl, hbelow⟩ := fieldsAt_eq_one.1 h
    simp only [decodeOp, assertOf_code]
    exact if_pos ⟨Nat.div_eq_of_lt (assertCode_lt act), (assertCode_mod_eight act).2 hwf, hbelow⟩
  | const c =>
    obtain ⟨rfl, rfl, hpart⟩ := fieldsAt_eq_none.1 h
    simp only [decodeOp, constOf_eq_some.2 rfl, hpart, if_true]

end Decode

/-- A word decodes to a step word exactly when it carries its fields and marks, and the operation is well-formed. -/
theorem decodeStepWord_eq_some {w : Dword} {i : StepWord} : decodeStepWord w = some i ↔
    StepOpWf i.op = true ∧ fieldsOf w.toNat = opFields i.op ∧ marksOf w.toNat = i.m := by
  have hfn : bitsOf 58 51 w.toNat < 256 := Nat.mod_lt _ (by decide)
  obtain ⟨op, m⟩ := i
  rw [decodeStepWord]
  dsimp only
  constructor
  · intro h
    split at h
    next x hx =>
      cases h
      obtain ⟨hwf, hfields⟩ := decodeOp_sound hfn hx
      exact ⟨hwf, hfields, rfl⟩
    · cases h
  · rintro ⟨hwf, hfields, rfl⟩
    rw [decodeOp_complete hwf hfields]
    rfl

/-- Settles O7: a step word and its 64 bits have the same fields and marks, and these determine both. -/
theorem stepWordsRoundTrip : Obligations.StepWordsRoundTrip := by
  unfold Obligations.StepWordsRoundTrip
  refine ⟨fun i hwf => ?_, fun w i h => ?_⟩
  · have hword : (encodeStepWord i).toNat = (opFields i.op).word i.m := by
      rw [encodeStepWord_eq, BitVec.toNat_ofNat, Nat.mod_eq_of_lt (WordFields.word_lt (opFields_fits i.op) i.m)]
    rw [decodeStepWord_eq_some, hword]
    exact ⟨hwf, fieldsOf_word (opFields_fits i.op) i.m⟩
  · obtain ⟨hwf, hfields, hmarks⟩ := decodeStepWord_eq_some.1 h
    refine ⟨?_, hwf⟩
    rw [encodeStepWord_eq, ← hfields, ← hmarks, WordFields.word_fieldsOf w.isLt, BitVec.ofNat_toNat, BitVec.setWidth_eq]

end Sys2Proof.Machine

/-! Which commands answer, and which words stop the block (02, R37; log 2). -/

namespace Sys2Proof.Machine

/-- The outcome is a next state. -/
def Answers (o : Out) : Prop := ∃ t, o = .next t

namespace Answers

variable {a b : Out} {s t : State}

theorem next : Answers (.next t) := ⟨t, rfl⟩

theorem ite {c : Prop} [Decidable c] (ha : Answers a) (hb : Answers b) : Answers (if c then a else b) := by
  split
  · exact ha
  · exact hb

theorem command {h : Hdr} {row : Instr} {takesTarget : Bool} {needs : List Nat} {f : CmdId → State → State}
    {always : Bool} {cls : CmdClass} {buf : HostBuf} {ok : Bool} :
    Answers (s.command h row takesTarget needs f always cls buf ok) := by
  refine .ite .next (.ite .next (.ite .next ?_))
  split
  · exact .next
  · exact .next

theorem served {f : State → State} : Answers (s.served f) := .ite .next .next

end Answers

/-- A command that is neither a step word nor STEP_ISSUE answers in every branch of its definition. -/
theorem exec_answers {c : Instr} (hissue : c ≠ .stepIssue) (hword : ∀ b m op, c ≠ stepInstr b m op) (s : State) :
    Answers (exec c s) := by
  cases c with
  | stepIssue => exact absurd rfl hissue
  | nop b m => exact absurd rfl (hword b m .nop)
  | eval b f x y z u m => exact absurd rfl (hword b m (.eval f x y z u))
  | evalx b f x y z u m => exact absurd rfl (hword b m (.evalx f x y z u))
  | resolve b st p act x y d1 m => exact absurd rfl (hword b m (.resolve st p act x y d1))
  | maddr b f x y z u m => exact absurd rfl (hword b m (.maddr f x y z u))
  | mwdat b f x y z u m => exact absurd rfl (hword b m (.mwdat f x y z u))
  | mrd b en m => exact absurd rfl (hword b m (.mrd en))
  | mwr b mask en m => exact absurd rfl (hword b m (.mwr mask en))
  | matom b swap en m => exact absurd rfl (hword b m (.matom swap en))
  | mdeeprd b en m => exact absurd rfl (hword b m (.mdeeprd en))
  | mdeepwr b mask en m => exact absurd rfl (hword b m (.mdeepwr mask en))
  | pinin b pin m => exact absurd rfl (hword b m (.pinin pin))
  | pinout b pin x m => exact absurd rfl (hword b m (.pinout pin x))
  | assert b act x m => exact absurd rfl (hword b m (.assert act x))
  | trig b leaf x m => exact absurd rfl (hword b m (.trig leaf x))
  | sync b bar m => exact absurd rfl (hword b m (.sync bar))
  | const b sel m => exact absurd rfl (hword b m (.const sel))
  | snapshotAbort | uflProgram | uflErase | swReset | queueEnable | queueDisable | powerOn | hostReset | dsClear
  | startupMarchEnd | bankAtomic | psgTrain | psgDown | tbNowNsRead | ethLinkChange | nocApply | nocRspTimeout
  | bar0Access | bar2Access | bar2BaseWrite | bar4Access | bar4SelWrite | msixSend | d3hotEntry | pcieLinkUp
  | channelEnable | cicClaim | cicSwSet | wardenTimer | softSet | galleryPowerRequest | watchdogExpiry | railFault
  | refclkLoss | vauxLoss | sensorThresholdWrite | setEndpointId | getEndpointId | getEndpointUuid
  | getMctpVersionSupport | getMessageTypeSupport | queryDeviceIdentifiers | getFirmwareParameters | getStatus
  | traceWindowRead | assertPop | galClrCe | galClrLost | clrSlip | clrDiscard | clrSlipLast | clrHold | clrSync
  | clrOverrun | clrFec | clrRetry | clrDrop | dsErrClr | clrStretch | echoClrLost | dmCeCountClear
  | rimPwCountClear | nocNoepDropClear | nocOffCountClear | doneCountClear | cicCountsClear | wiuCountClear
  | errCountClear | tcForwardedClear | schedBarrierReleaseWrite | bankVioChange => exact .next
  | getTid | setTid | getPldmVersion | getPldmTypes | getPldmCommands | getSensorReading | getSensorThresholds
  | setSensorThresholds | getStateSensorReadings | getPdrRepositoryInfo | getPdr | setEventReceiver =>
    exact .ite .next .next
  | turnover | sequencerStageComplete | windowDone | forceApply | releaseApply | tickStrobe | inputWordSample
  | wireContention | scrubPass | scrubStall | oscLock | fabricFlashRead | spDataWrite | headerArrival
  | stageSpaceCheck | stageEnd | stageTimeout | imageBurst | verifyEnd | chainResult | commitReport | reloadWriteEnd
  | mbxSqTailWrite | progressEntry | cmdDeadline | coreFault | barrierReport | bankRequest | laneEqualised
  | blockLock | portTrained | trainingFail | laneFail | latticeDone | latticeCredit | barrierTimeout | timeFlitSend
  | ptmDialog | holdover | dtcWrap | tbIncrWrite | tbStepWrite | tbSlewWrite | slewEnd | tbCfgWrite
  | routerBarrierEnd | nocRspStall | dmaHalt | dmaResume | dmaHeadWrite | sourceEvent | cicSrcWrite
  | wardenSourcePend | galleryOn | galleryWake | failureCountClear | vcoreReview | epoch | requestUpdate
  | transferComplete | applyComplete | cancelUpdate | traceDrop | traceOverflowPacket | traceClear | traceClearEnd
  | macrocellClockEdge | restoreEnd | d3hotExit | latticeBarrierTimeout | timestampInterval => exact .ite .next .next
  | tick | generationFlip | overrun | haltAtBoundary | commitEnd | mbxCqHeadWrite | perstDeassert | lntPgoodRise
  | d2dTrain | latencyMeasured | tcForward | galleryIdle | passComponentTable | updateComponent | verifyComplete
  | encoderPacket => exact .ite .next (.ite .next .next)
  | commitAt | marchStart | blockReceive | decisionPoint | latticeHold | latticeFault | timeFlit | cicComplete
  | galleryPowerDown | detectorFire | activateFirmware | traceSourceEnable =>
    exact .ite .next (.ite .next (.ite .next .next))
  | latticeRelease => exact .ite .next (.ite (.ite .next .next) .next)
  | latticeIdent => exact .ite .next (.ite .next (.ite .next (.ite .next (.ite .next .next))))
  | imageStage | imageVerify | imageCommit | latticeCommit | regionReload | getInfo | getReady | run | halt | step
  | setTick | selectContext | force | release | deposit | stateDeposit | peek | memRead | memWrite | memAtomic
  | echoArm | echoDisarm | echoRead | echoTrigger | snapshot | restore | latticeTrain | latticeMap | runFrom
  | haltBefore | fwUpdate | attest | logRead | injectStatus | injectFault | fuseSvn | ownerProgram | ownerRevoke
  | bedrockSelect | laneReversal | debugLock | storeKek =>
    refine .ite .next (.ite .next (.ite .next ?_))
    split
    · exact .next
    · exact .next
  | deepWriteAccept c => show Answers (execDeepWriteAccept c s); fun_cases execDeepWriteAccept <;> exact .next
  | arrival b port step x => show Answers (execArrival b port step x s); fun_cases execArrival <;> exact .next
  | holdLimit => show Answers (execHoldLimit s); fun_cases execHoldLimit <;> exact .next
  | echoRecordClose => show Answers (execEchoRecordClose s); fun_cases execEchoRecordClose <;> exact .next
  | echoRecordWritten => show Answers (execEchoRecordWritten s); fun_cases execEchoRecordWritten <;> exact .next
  | contextSwitch => show Answers (execContextSwitch s); fun_cases execContextSwitch <;> exact .next
  | tickConfigApply => show Answers (execTickConfigApply s); fun_cases execTickConfigApply <;> exact .next
  | snapshotTake => show Answers (execSnapshotTake s); fun_cases execSnapshotTake <;> exact .next
  | snapshotShadowEnd => show Answers (execSnapshotShadowEnd s); fun_cases execSnapshotShadowEnd <;> exact .next
  | snapshotCopyEnd => show Answers (execSnapshotCopyEnd s); fun_cases execSnapshotCopyEnd <;> exact .next
  | snapDone => show Answers (execSnapDone s); fun_cases execSnapDone <;> exact .next
  | restoreApply => show Answers (execRestoreApply s); fun_cases execRestoreApply <;> exact .next
  | pinWordSend retries => show Answers (execPinWordSend retries s); fun_cases execPinWordSend <;> exact .next
  | pinWordApply late => show Answers (execPinWordApply late s); fun_cases execPinWordApply <;> exact .next
  | inputWordComplete dropped =>
    show Answers (execInputWordComplete dropped s); fun_cases execInputWordComplete <;> exact .next
  | flashDataValid => show Answers (execFlashDataValid s); fun_cases execFlashDataValid <;> exact .next
  | uflOpEnd => show Answers (execUflOpEnd s); fun_cases execUflOpEnd <;> exact .next
  | spDataRead p => show Answers (execSpDataRead p s); fun_cases execSpDataRead <;> exact .next
  | serialByteReceive p b =>
    show Answers (execSerialByteReceive p b s); fun_cases execSerialByteReceive <;> exact .next
  | chainTimeout => show Answers (execChainTimeout s); fun_cases execChainTimeout <;> exact .next
  | commitApply => show Answers (execCommitApply s); fun_cases execCommitApply <;> exact .next
  | reloadIsolate => show Answers (execReloadIsolate s); fun_cases execReloadIsolate <;> exact .next
  | regionJoin => show Answers (execRegionJoin s); fun_cases execRegionJoin <;> exact .next
  | commandFetch q e => show Answers (execCommandFetch q e s); fun_cases execCommandFetch <;> exact .next
  | remoteCommand h e bytes fault ans back =>
    show Answers (execRemoteCommand h e bytes fault ans back s); fun_cases execRemoteCommand <;> exact .next
  | getReadyComplete => show Answers (execGetReadyComplete s); fun_cases execGetReadyComplete <;> exact .next
  | getReadyTimeout => show Answers (execGetReadyTimeout s); fun_cases execGetReadyTimeout <;> exact .next
  | echoArmApply => show Answers (execEchoArmApply s); fun_cases execEchoArmApply <;> exact .next
  | deviceReset cause => show Answers (execDeviceReset cause s); fun_cases execDeviceReset <;> exact .next
  | marchEnd g found => show Answers (execMarchEnd g found s); fun_cases execMarchEnd <;> exact .next
  | bankServe c => show Answers (execBankServe c s); fun_cases execBankServe <;> exact .next
  | stealTimeout g => show Answers (execStealTimeout g s); fun_cases execStealTimeout <;> exact .next
  | dripScrub t endOfPass => show Answers (execDripScrub t endOfPass s); fun_cases execDripScrub <;> exact .next
  | dripWriteBack t =>
    cases t with
    | bank => exact .ite .next .next
    | _ => exact .next
  | dsBurst block write waiting crcFails =>
    show Answers (execDsBurst block write waiting crcFails s); fun_cases execDsBurst <;> exact .next
  | retryTimeout p => show Answers (execRetryTimeout p s); fun_cases execRetryTimeout <;> exact .next
  | slotFlit p ctx tag flit vals close =>
    show Answers (execSlotFlit p ctx tag flit vals close s); fun_cases execSlotFlit <;> exact .next
  | linkTimeout p flit close =>
    show Answers (execLinkTimeout p flit close s); fun_cases execLinkTimeout <;> exact .next
  | nocTunnelPacket port ttl p =>
    show Answers (execNocTunnelPacket port ttl p s); fun_cases execNocTunnelPacket <;> exact .next
  | ptpMessage e m sample => show Answers (execPtpMessage e m sample s); fun_cases execPtpMessage <;> exact .next
  | nocPacket p => show Answers (execNocPacket p s); fun_cases execNocPacket <;> exact .next
  | nocBarrierSlow node => show Answers (execNocBarrierSlow node s); fun_cases execNocBarrierSlow <;> exact .next
  | netStoreServe g => show Answers (execNetStoreServe g s); fun_cases execNetStoreServe <;> exact .next
  | kick n => show Answers (execKick n s); fun_cases execKick <;> exact .next
  | abort n => show Answers (execAbort n s); fun_cases execAbort <;> exact .next
  | descriptorFetch n r => show Answers (execDescriptorFetch n r s); fun_cases execDescriptorFetch <;> exact .next
  | descriptorStart n w => show Answers (execDescriptorStart n w s); fun_cases execDescriptorStart <;> exact .next
  | dmaReadCompletion n off r =>
    show Answers (execDmaReadCompletion n off r s); fun_cases execDmaReadCompletion <;> exact .next
  | dmaWriteResponse n off st =>
    show Answers (execDmaWriteResponse n off st s); fun_cases execDmaWriteResponse <;> exact .next
  | readBack n st w => show Answers (execReadBack n st w s); fun_cases execReadBack <;> exact .next
  | channelHalt n w => show Answers (execChannelHalt n w s); fun_cases execChannelHalt <;> exact .next
  | hostForward => show Answers (execHostForward s); fun_cases execHostForward <;> exact .next
  | normalEntry g => show Answers (execNormalEntry g s); fun_cases execNormalEntry <;> exact .next
  | fastEntry g => show Answers (execFastEntry g s); fun_cases execFastEntry <;> exact .next
  | normalExit g => show Answers (execNormalExit g s); fun_cases execNormalExit <;> exact .next
  | fastExit g => show Answers (execFastExit g s); fun_cases execFastExit <;> exact .next
  | wakeClearEnd g found => show Answers (execWakeClearEnd g found s); fun_cases execWakeClearEnd <;> exact .next
  | bootRom => show Answers (execBootRom s); fun_cases execBootRom <;> exact .next
  | sensorSample idx sample =>
    show Answers (execSensorSample idx sample s); fun_cases execSensorSample <;> exact .next
  | eventLogWrite => show Answers (execEventLogWrite s); fun_cases execEventLogWrite <;> exact .next
  | spiTransaction cmd off data cut =>
    show Answers (execSpiTransaction cmd off data cut s); fun_cases execSpiTransaction <;> exact .next
  | ethMgmtMessage e m => show Answers (execEthMgmtMessage e m s); fun_cases execEthMgmtMessage <;> exact .next
  | comparatorMatch src addr mode =>
    show Answers (execComparatorMatch src addr mode s); fun_cases execComparatorMatch <;> exact .next
  | tracePacket => show Answers (execTracePacket s); fun_cases execTracePacket <;> exact .next
  | registerWrite t w => show Answers (execRegisterWrite t w s); fun_cases execRegisterWrite <;> exact .next
  | serialByteTransmit p =>
    show Answers (execSerialByteTransmit p s); fun_cases execSerialByteTransmit <;> exact .next
  | latticeCommitTimeout =>
    show Answers (execLatticeCommitTimeout s); fun_cases execLatticeCommitTimeout <;> exact .next

section StepWords

variable {s : State} {b : Nat} {op : StepOp} {m : Marks}

theorem State.oneWord_answers
    (h : s.stepDue = true → s.takesSteps (galOf b) = true → legalIn (s.four (galOf b)) (b % 64) op = true) :
    Answers (s.oneWord b op m) := by
  by_cases hidle : s.takesSteps (galOf b) = false ∨ s.stepDue = false
  · rw [State.oneWord_idle hidle]
    exact .next
  · obtain ⟨htakes, hdue⟩ := not_or.1 hidle
    rw [Bool.not_eq_false] at htakes hdue
    rw [State.oneWord_due htakes hdue, if_neg (by rw [h hdue htakes]; decide)]
    exact .ite .next .next

theorem State.oneWord_rejected (hdue : s.stepDue = true) (htakes : s.takesSteps (galOf b) = true)
    (hlegal : legalIn (s.four (galOf b)) (b % 64) op = false) : s.oneWord b op m = .fault .rejectedWord := by
  rw [State.oneWord_due htakes hdue, if_pos hlegal]

theorem execStepIssue_answers (h : s.stepDue = true → s.decodeFetched (s.fetchStep false) ≠ none) :
    Answers (execStepIssue s) := by
  fun_cases execStepIssue with
  | case2 hdue fs hnone => exact absurd hnone (h (by simpa using hdue))
  | _ => exact .next

theorem execStepIssue_rejected (hdue : s.stepDue = true) (hnone : s.decodeFetched (s.fetchStep false) = none) :
    execStepIssue s = .fault .rejectedWord := by
  rw [execStepIssue, if_neg (by rw [hdue]; decide)]
  simp only [hnone]

end StepWords

/-- Settles O3: a step word and STEP_ISSUE stop with the fault of log 2, and every other command answers. -/
theorem onlyRejectedWordsStop : Obligations.OnlyRejectedWordsStop := by
  unfold Obligations.OnlyRejectedWordsStop
  refine ⟨fun c s => ?_, fun b m op s hdue htakes hlegal => ?_, fun s h => ⟨_, step_of_nil h⟩⟩
  · by_cases hissue : c = .stepIssue
    · subst hissue
      by_cases hrej : s.stepDue = true ∧ s.decodeFetched (s.fetchStep false) = none
      · obtain ⟨hdue, hnone⟩ := hrej
        exact .inr ⟨execStepIssue_rejected hdue hnone, hdue, .inl ⟨rfl, hnone⟩⟩
      · exact .inl (execStepIssue_answers fun hdue hnone => hrej ⟨hdue, hnone⟩)
    by_cases hword : ∃ b m op, c = stepInstr b m op
    · obtain ⟨b, m, op, rfl⟩ := hword
      rw [exec_stepInstr]
      by_cases hrej : s.stepDue = true ∧ s.takesSteps (galOf b) = true ∧
          legalIn (s.four (galOf b)) (b.val % 64) op = false
      · obtain ⟨hdue, htakes, hlegal⟩ := hrej
        exact .inr ⟨State.oneWord_rejected hdue htakes hlegal, hdue, .inr ⟨b, m, op, rfl, htakes, hlegal⟩⟩
      · refine .inl (State.oneWord_answers fun hdue htakes => ?_)
        exact Bool.eq_true_of_not_eq_false fun hlegal => hrej ⟨hdue, htakes, hlegal⟩
    · exact .inl (exec_answers hissue (fun b m op h => hword ⟨b, m, op, h⟩) s)
  · rw [exec_stepInstr]
    exact State.oneWord_rejected hdue htakes hlegal

end Sys2Proof.Machine

/-! What an arrival leads to at its receive port (03, R64 to R67, R76; 04, R121, R122; 08, R244). -/

namespace Sys2Proof.Machine

section Arrivals

variable {s : State} {b code step off : Nat} {port : RxPort} {x : Nv} {i : Nat} {w : Word}

/-- An arrival for entry `off` of a BP, after the check of its receive record. -/
def State.landAt (s : State) (b code step off : Nat) (x : Nv) : State :=
  let four := s.four (galOf b)
  let n := rxBase four + off
  let t := s.noteLanded (b, code, step)
  let forced := t.applyForce b (.entry off) x
  if s.fab.landed.contains (b, code, step) then s.recordSched (galOf b) 0 (s.locOf b)
  else if s.fab.ended.contains (b, off) then t.rxDiscard (galOf b)
  else if tagGet s.fab.nsTag four b n then t.recordSched (galOf b) 1 (t.locOf b)
  else forced.2.writeCur b n forced.1

theorem State.land_isolated (hiso : s.fab.isolated.contains (galOf b) = true) : s.land b port step x = s := by
  rw [State.land, if_pos hiso]

theorem State.land_unmatched (hiso : s.fab.isolated.contains (galOf b) = false)
    (hrecv : s.recvFor b port.code step = none) : s.land b port step x = s.rxDiscard (galOf b) := by
  rw [State.land, if_neg (ne_true_of_eq_false hiso), hrecv]

theorem State.land_matched (hiso : s.fab.isolated.contains (galOf b) = false)
    (hrecv : s.recvFor b port.code step = some (i, w)) :
    s.land b port step x = (s.recvParity b i).landAt b port.code step (w.toNat % 1024) x := by
  rw [State.land, if_neg (ne_true_of_eq_false hiso), hrecv]
  rfl

theorem State.recvParity_good (harmed : s.lnt.armed = []) (hgood : NMap.get dFalse s.fab.recvBad i = false) :
    s.recvParity b i = s := by
  simp [State.recvParity, State.isArmed, harmed, hgood]

theorem State.landAt_again (h : s.fab.landed.contains (b, code, step) = true) :
    s.landAt b code step off x = s.recordSched (galOf b) 0 (s.locOf b) := if_pos h

/-- The first arrival of its place, at an entry that takes it. -/
theorem State.landAt_first (hfirst : s.fab.landed.contains (b, code, step) = false)
    (hopen : s.fab.ended.contains (b, off) = false) (hunforced : s.unforced b = true)
    (htag : tagGet s.fab.nsTag (s.four (galOf b)) b (rxBase (s.four (galOf b)) + off) = false) :
    s.landAt b code step off x =
      (s.noteLanded (b, code, step)).writeCur b (rxBase (s.four (galOf b)) + off) x := by
  have hforces : (s.noteLanded (b, code, step)).unforced b = true := hunforced
  rw [State.landAt, if_neg (ne_true_of_eq_false hfirst), if_neg (ne_true_of_eq_false hopen), if_neg (ne_true_of_eq_false htag),
    State.applyForce_of_unforced hforces]

end Arrivals

/-! The data of a deep read (R121, R122). -/

section DeepReads

variable {s : State} {b : Bp} {port : RxPort} {step : Fin 1024} {x : Nv} {o : DeepOp}

theorem exec_arrival_ofPort (h : port ≠ .memory ∨
    s.fab.deep.any (fun o => !o.write && o.cham == b.val / 64 && o.step == step.val) = false) :
    exec (.arrival b port step x) s = .next (s.land b port step x) := by
  have hnone : (if port = .memory then
      s.fab.deep.find? (fun o => !o.write && o.cham == b.val / 64 && o.step == step.val) else none) = none := by
    rcases h with hport | hreads
    · exact if_neg hport
    · rw [List.find?_eq_none.2 (by simpa using hreads), ite_self]
  rw [show exec (.arrival b port step x) s = execArrival b port step x s from rfl, execArrival, hnone]

theorem exec_arrival_ofRead
    (h : s.fab.deep.find? (fun o => !o.write && o.cham == b.val / 64 && o.step == step.val) = some o) :
    exec (.arrival b .memory step x) s = .next (s.landDeep o) := by
  rw [show exec (.arrival b .memory step x) s = execArrival b .memory step x s from rfl, execArrival, if_pos rfl, h]

theorem State.readDone_of_none (h : s.mem.dsUnread = []) (w n : Nat) : s.readDone w n = s := by
  rw [State.readDone, h, List.filter_nil, ← h]

/-- A Deep Store word without an error. -/
theorem State.dsRead_good {w : Nat} (hread : s.mem.dsUnread = []) (hmark : s.dsMark w = .good) :
    s.dsRead w = (s.dsWord w, false, s) := by
  have hcheck : s.dsCheck w = (s.dsWord w, false, s) := by
    rw [State.dsCheck, if_neg (by simp [hread]), hmark]
  rw [State.dsRead, hcheck, State.readDone_of_none hread]

/-- A deep read whose word has no error and is as it was read lands bit by bit. -/
theorem State.landDeep_good (hread : s.mem.dsUnread = []) (hmark : s.dsMark o.word = .good)
    (hdata : s.deepMerge o.cham o.word (s.fab.deep.takeWhile (fun p => p != o)) = o.data) :
    s.landDeep o = (List.range 64).foldl (fun t i =>
      t.land (o.cham * 64 + i) .memory o.step (Nv.ofBool (o.data.getLsbD i)))
      { s with fab := { s.fab with deep := s.fab.deep.erase o } } := by
  rw [State.landDeep, State.dsRead_good hread hmark]
  simp only [hdata, if_true, Bool.false_and, Bool.false_eq_true, if_false]
  rfl

end DeepReads

/-- Settles O17: at a port by what its receive record leads to, for a deep read bit by bit. -/
theorem arrivalsLandInTheReceiveArea : Obligations.ArrivalsLandInTheReceiveArea := by
  unfold Obligations.ArrivalsLandInTheReceiveArea
  intro b port step x s
  refine ⟨fun h => ⟨fun hiso => ?_, fun hiso hrecv => ?_, fun i w hiso hrecv harmed hgood => ?_⟩,
    fun o hfind hread hmark hdata => ?_⟩
  · rw [exec_arrival_ofPort h, State.land_isolated hiso]
  · rw [exec_arrival_ofPort h, State.land_unmatched hiso hrecv]
    rfl
  · rw [exec_arrival_ofPort h, State.land_matched hiso hrecv, State.recvParity_good harmed hgood]
    refine ⟨fun hagain => ?_, fun hfirst hopen hunforced htag => ?_⟩
    · rw [State.landAt_again hagain]
    · rw [State.landAt_first hfirst hopen hunforced htag]
      rfl
  · rw [exec_arrival_ofRead hfind, State.landDeep_good hread hmark hdata]

end Sys2Proof.Machine

/-! A period in which no command comes (03, R72; 13, R335, R338). -/

namespace Sys2Proof.Machine

/-- Of the schedule's state only a halt asked for may have changed. -/
structure HaltOnly (s t : State) : Prop where
  sched : t.sched = { s.sched with haltPending := t.sched.haltPending }

section HaltOnly

variable {s t u : State}

theorem HaltOnly.of_eq (h : t.sched = s.sched) : HaltOnly s t := ⟨by rw [h]⟩

theorem HaltOnly.refl : HaltOnly s s := .of_eq rfl

theorem HaltOnly.trans (h : HaltOnly s t) (g : HaltOnly t u) : HaltOnly s u := ⟨by rw [g.sched, h.sched]⟩

theorem HaltOnly.of_touch {m : Nat} (h : Touch m s t) (hsched : m.testBit 4 = false := by rfl) : HaltOnly s t :=
  .of_eq (h.2.1 .sched hsched)

theorem HaltOnly.ite {c : Prop} [Decidable c] (ht : HaltOnly s t) (hu : HaltOnly s u) :
    HaltOnly s (if c then t else u) := by split <;> assumption

theorem State.recordSched_haltOnly (g n : Nat) (l : Loc) (port entry : Nat) :
    HaltOnly s (s.recordSched g n l port entry) := by
  have hdetect {t : State} {data : List Byte} : HaltOnly t (t.detect 0x02 n g data) :=
    .of_eq (State.detect_sched (by simp [detHalts]))
  unfold State.recordSched
  dsimp only
  refine .ite (.trans (.trans ?_ hdetect) ⟨rfl⟩) (.trans ?_ hdetect) <;>
  exact .ite (.of_eq rfl) (.of_eq rfl)

theorem State.recvParity_haltOnly (b i : Nat) : HaltOnly s (s.recvParity b i) := by
  have hused : HaltOnly s (if s.isArmed 0x02 4 (galOf b) then s.useArmed 0x02 4 (galOf b) else s) :=
    .ite (.of_touch (s.useArmed_touch ..)) .refl
  exact .ite (hused.trans (State.recordSched_haltOnly ..)) hused

theorem State.landAt_haltOnly (b code step off : Nat) (x : Nv) : HaltOnly s (s.landAt b code step off x) := by
  have hnoted : HaltOnly s (s.noteLanded (b, code, step)) := .of_eq rfl
  refine .ite (State.recordSched_haltOnly ..) (.ite (hnoted.trans (.of_touch (State.rxDiscard_touch ..)))
    (.ite (hnoted.trans (State.recordSched_haltOnly ..)) ?_))
  exact (hnoted.trans (.of_touch (State.applyForce_touch ..))).trans (.of_eq rfl)

/-- An arrival leaves the schedule's state but for a halt that it may ask for. -/
theorem State.land_haltOnly (b : Nat) (port : RxPort) (step : Nat) (x : Nv) : HaltOnly s (s.land b port step x) := by
  cases hiso : s.fab.isolated.contains (galOf b) with
  | true =>
    rw [State.land_isolated hiso]
    exact .refl
  | false =>
    cases hrecv : s.recvFor b port.code step with
    | none =>
      rw [State.land_unmatched hiso hrecv]
      exact .of_touch (s.rxDiscard_touch _)
    | some e =>
      rw [State.land_matched hiso hrecv]
      exact (State.recvParity_haltOnly ..).trans (State.landAt_haltOnly ..)

theorem landDue_haltOnly (l : List Arrival) (used : List (Nat × Nat)) (s : State) : HaltOnly s (landDue l used s).1 := by
  induction l generalizing used s with
  | nil => exact .refl
  | cons a as ih =>
    unfold landDue
    split
    · exact (State.land_haltOnly ..).trans (ih ..)
    · exact ih ..

end HaltOnly

section IdlePeriod

variable {s : State}

theorem dtcAfter_unslewed (dtc incr : Nat) : dtcAfter dtc incr 0 = ((dtc + incr) % 2 ^ 80, 0) := by
  have hslew : min ((incr / 2048 : Nat) : Int) 0 = 0 := min_eq_right (Int.natCast_nonneg _)
  simp only [dtcAfter, lt_irrefl, if_false, hslew, add_zero, sub_zero]
  rfl

/-- The landings of a period leave its time. -/
theorem State.elapse_time (s : State) :
    s.elapse.sched.now = s.timePasses.sched.now ∧ s.elapse.sched.dtc = s.timePasses.sched.dtc := by
  have hpass : HaltOnly s.timePasses (landDue s.timePasses.passing.2.2 [] s.timePasses.mergesPassed).1 :=
    have hmerges : HaltOnly s.timePasses s.timePasses.mergesPassed := .of_eq rfl
    hmerges.trans (landDue_haltOnly ..)
  exact ⟨congrArg (·.now) hpass.sched, congrArg (·.dtc) hpass.sched⟩

theorem State.timePasses_dtc (hslew : s.tb.slew = 0) (hstep : s.tb.stepDue = 0) :
    s.timePasses.sched.dtc = (s.sched.dtc + (s.reg R.TB_INCR).toNat) % 2 ^ 80 := by
  have hdtc : s.timePasses.sched.dtc =
      ((((dtcAfter s.sched.dtc (s.reg R.TB_INCR).toNat s.tb.slew).1 : Int) + s.tb.stepDue) % 2 ^ 80).toNat := rfl
  rw [hdtc, hslew, hstep, dtcAfter_unslewed]
  omega

/-- With nothing in the mesh a period without a command only lets the time pass. -/
theorem State.idlePeriod_sched (hwait : s.noc.waiting = []) : s.idlePeriod.sched = s.elapse.sched := by
  have hnone : s.elapse.noc.waiting = [] := by rw [s.elapse_touch.2.1 .noc rfl, hwait]
  have hretry : (retryHeld s.elapse.noc.waiting [] s.elapse).sched = s.elapse.sched := by rw [hnone]; rfl
  exact (State.drained_touch _).2.1 .sched rfl |>.trans hretry

end IdlePeriod

/-- Settles O2: no command is in the queue, and time has gone on by TB_INCR. -/
theorem emptyQueueIsAPeriod : Obligations.EmptyQueueIsAPeriod := by
  unfold Obligations.EmptyQueueIsAPeriod
  intro s hp
  refine ⟨step_of_nil hp, s.idlePeriod_touch.1.trans hp, fun hwait hslew hstep => ?_⟩
  obtain ⟨hnow, hdtc⟩ := s.elapse_time
  rw [State.idlePeriod_sched hwait, hnow, hdtc]
  exact ⟨rfl, State.timePasses_dtc hslew hstep⟩

end Sys2Proof.Machine

/-! Periods of the scheduled steps and their holds (03, R72 to R76, R88). -/

namespace Sys2Proof.Machine

section StepPeriods

variable {s : State} {ws : List (Nat × StepWord)}

theorem execStepIssue_decoded (hdue : s.stepDue = true) (hws : s.decodeFetched (s.fetchStep false) = some ws) :
    execStepIssue s = if ws.any (fun w => s.wordWaits w.1 w.2.op) || s.backPressure then
        .next (s.hold (s.stepWaiters ws) (ws.any (fun w => s.syncWaits w.1 w.2.op)))
      else .next (s.issueStep (s.fetchStep false) ws) := by
  rw [execStepIssue, if_neg (by rw [hdue]; decide)]
  simp only [hws]

theorem State.backPressure_iff : s.backPressure = true ↔ s.sched.backlog ≠ [] ∧ s.sched.holdOver = false := by
  simp [State.backPressure, and_comm]

theorem execStepIssue_issues (hdue : s.stepDue = true) (hws : s.decodeFetched (s.fetchStep false) = some ws)
    (hnone : ws.any (fun w => s.wordWaits w.1 w.2.op) = false) (hqueues : s.sched.backlog = []) :
    execStepIssue s = .next (s.issueStep (s.fetchStep false) ws) := by
  have hfree : s.backPressure = false := Bool.eq_false_iff.2 fun h => (State.backPressure_iff.1 h).1 hqueues
  rw [execStepIssue_decoded hdue hws, hnone, hfree]
  rfl

theorem execStepIssue_holds (hdue : s.stepDue = true) (hws : s.decodeFetched (s.fetchStep false) = some ws)
    (hwaits : ws.any (fun w => s.wordWaits w.1 w.2.op) = true ∨ (s.sched.backlog ≠ [] ∧ s.sched.holdOver = false)) :
    execStepIssue s = .next (s.hold (s.stepWaiters ws) (ws.any (fun w => s.syncWaits w.1 w.2.op))) := by
  rw [execStepIssue_decoded hdue hws, if_pos (Bool.or_eq_true_iff.2 (hwaits.imp_right State.backPressure_iff.2))]

/-! HOLD_LIMIT (R76). -/

/-- The hold is over and the device halts at the end of the tick. -/
def State.holdEnded (s : State) : State :=
  { s with sched := { s.sched with haltPending := true, holdOver := true } }

theorem execHoldLimit_early (h : s.sched.holdLen = 0 ∨ s.sched.holdLen < s.sched.holdMax) :
    execHoldLimit s = .next s := if_pos h

theorem execHoldLimit_steps (hlen : 0 < s.sched.holdLen) (hmax : s.sched.holdMax ≤ s.sched.holdLen)
    (hphase : s.sched.phase = .steps) (hws : s.decodeFetched (s.fetchStep false) = some ws) :
    execHoldLimit s = if s.onlyTimeWaits ws then .next s else .next (s.endStepWaits ws).holdEnded := by
  rw [execHoldLimit, if_neg (by omega), hphase]
  simp only [hws]
  rfl

theorem execHoldLimit_t3 (hlen : 0 < s.sched.holdLen) (hmax : s.sched.holdMax ≤ s.sched.holdLen)
    (hphase : s.sched.phase = .t3) : execHoldLimit s = .next s.endFlipWaits.holdEnded := by
  rw [execHoldLimit, if_neg (by omega), hphase]
  rfl

end StepPeriods

/-! The limit of a hold (R88). -/

/-- A value other than the default leaves the other keys of a store in any form as they were. -/
theorem NMap.get_set_other_of_ne_default {α : Type} [DecidableEq α] {d : Nat → α} (m : NMap α) {j k : Nat} {v : α}
    (hv : v ≠ d k) (hjk : j ≠ k) : NMap.get d (NMap.set d m k v) j = NMap.get d m j := by
  induction m with
  | nil => simp [NMap.set, NMap.get, hv, hjk]
  | cons e t ih =>
    obtain ⟨k', v'⟩ := e
    rcases Nat.lt_trichotomy k k' with hk | rfl | hk
    · by_cases hj : j < k
      · have hjk' : j < k' := hj.trans hk
        simp [NMap.set, NMap.get, hk, hv, hjk, hj, hjk', hjk'.ne]
      · simp [NMap.set, NMap.get, hk, hv, hjk, hj]
    · simp [NMap.set, NMap.get, hv, hjk]
    · simp [NMap.set, NMap.get, Nat.not_lt.2 hk.le, hk.ne', ih]

section HoldLimit

variable {s : State}

theorem satAdd_one_bounds {top : Nat} (a : Nat) (htop : 0 < top) : 0 < satAdd top a 1 ∧ satAdd top a 1 ≤ top := by
  unfold satAdd
  split <;> omega

/-- A held period is counted. -/
def State.holdNoted (s : State) : State := s.bump R.SCHED_HOLD_COUNT F.SCHED_HOLD_COUNT_COUNT

/-- A held period is counted for the galleries that wait and for a SYNC that does. -/
def State.holdCounted (s : State) (ws : List Waiter) (sync : Bool) : State :=
  let t := (firstWaiters ws).foldl (fun s w => s.bump (R.GAL_SLIP_COUNT w.gal) F.GAL_SLIP_COUNT_COUNT) s.holdNoted
  if sync then t.bump R.SCHED_SYNC_COUNT F.SCHED_SYNC_COUNT_COUNT else t

/-- A held period has its place in the schedule's records. -/
def State.holdPlaced (s : State) (ws : List Waiter) : State :=
  { s with sched := { s.sched with
      holdLen := s.sched.holdLen + 1, holdMax := if s.sched.holdLen = 0 then s.holdLimit else s.sched.holdMax,
      cycleHolds := s.sched.cycleHolds + 1,
      holdsAt := NMap.set dZero s.sched.holdsAt s.sched.step (NMap.get dZero s.sched.holdsAt s.sched.step + 1),
      slips := (firstWaiters ws).foldl countSlip s.sched.slips } }

theorem State.hold_eq (s : State) (ws : List Waiter) (sync : Bool) :
    s.hold ws sync = ((s.holdCounted ws sync).holdPlaced ws).elapse := rfl

theorem State.holdCounted_touch (s : State) (ws : List Waiter) (sync : Bool) : Touch 1 s (s.holdCounted ws sync) := by
  have hslips := Touch.foldl' (l := firstWaiters ws) (s.bump_touch R.SCHED_HOLD_COUNT F.SCHED_HOLD_COUNT_COUNT 1)
    fun t w => t.bump_touch (R.GAL_SLIP_COUNT w.gal) F.GAL_SLIP_COUNT_COUNT 1
  exact .ite (hslips.then (State.bump_touch ..) rfl) hslips

/-- A counter that has counted is not 0. -/
theorem Field.put_counted_ne_zero (w : Word) :
    Field.put ⟨31, 0⟩ w (satAdd (Field.size ⟨31, 0⟩ - 1) (Field.of ⟨31, 0⟩ w) 1) ≠ 0 := by
  intro hzero
  obtain ⟨hpos, htop⟩ := satAdd_one_bounds (top := Field.size ⟨31, 0⟩ - 1) (Field.of ⟨31, 0⟩ w) (by decide)
  have hfld := (Field.of_put ⟨31, 0⟩ w _ (by decide) (by decide)).trans
    (Nat.mod_eq_of_lt (Nat.lt_of_le_pred (by decide) htop))
  have hof : Field.of ⟨31, 0⟩ 0 = 0 := by decide
  rw [hzero, hof] at hfld
  exact hpos.ne hfld

/-- The word that counts a held period is listed among the registers. -/
theorem State.holdCount_ne_reset (s : State) :
    F.SCHED_HOLD_COUNT_COUNT.put (s.reg R.SCHED_HOLD_COUNT) (satAdd (F.SCHED_HOLD_COUNT_COUNT.size - 1)
      (s.fld R.SCHED_HOLD_COUNT F.SCHED_HOLD_COUNT_COUNT) 1) ≠ regReset R.SCHED_HOLD_COUNT := by
  have hreset : regReset R.SCHED_HOLD_COUNT = 0 := by decide
  exact hreset ▸ Field.put_counted_ne_zero _

theorem foldl_bumpSlip_keepsListed (ws : List Waiter) (s : State) : KeepsListed R.SCHED_SYNC_COUNT s
    (ws.foldl (fun s w => s.bump (R.GAL_SLIP_COUNT w.gal) F.GAL_SLIP_COUNT_COUNT) s) := by
  induction ws generalizing s with
  | nil => exact .refl
  | cons w ws ih =>
    have hslip : R.SCHED_SYNC_COUNT ≤ R.GAL_SLIP_COUNT w.gal := by simp only [R.SCHED_SYNC_COUNT, R.GAL_SLIP_COUNT]; omega
    exact (KeepsListed.bump hslip).trans (ih _)

/-- The counts of a held period leave the hold limit: that of held periods lies above it and is not 0, the others lie
above that one. -/
theorem State.holdCounted_limit (s : State) (ws : List Waiter) (sync : Bool) :
    (s.holdCounted ws sync).reg R.SCHED_HOLD_LIMIT = s.reg R.SCHED_HOLD_LIMIT := by
  have hslips := foldl_bumpSlip_keepsListed (firstWaiters ws) s.holdNoted
  have hkeeps : KeepsListed R.SCHED_SYNC_COUNT s.holdNoted (s.holdCounted ws sync) :=
    .ite (hslips.trans (.bump le_rfl)) hslips
  have hcount : s.holdNoted.reg R.SCHED_HOLD_COUNT ≠ regReset R.SCHED_HOLD_COUNT :=
    (NMap.get_set_of_ne_default s.regs s.holdCount_ne_reset).trans_ne s.holdCount_ne_reset
  have hnoted : s.holdNoted.reg R.SCHED_HOLD_LIMIT = s.reg R.SCHED_HOLD_LIMIT :=
    NMap.get_set_other_of_ne_default s.regs s.holdCount_ne_reset (by decide)
  exact (hkeeps.reg R.SCHED_HOLD_LIMIT R.SCHED_HOLD_COUNT (by decide) (by decide) hcount).trans hnoted

/-- A hold takes its limit in its first period. -/
theorem State.hold_holdMax (s : State) (ws : List Waiter) (sync : Bool) :
    (s.hold ws sync).sched.holdMax = if s.sched.holdLen = 0 then s.holdLimit else s.sched.holdMax := by
  have hsched : (s.holdCounted ws sync).sched = s.sched := (s.holdCounted_touch ws sync).2.1 .sched rfl
  have hlimit : (s.holdCounted ws sync).holdLimit = s.holdLimit := by
    rw [State.holdLimit, State.fld, s.holdCounted_limit]
    rfl
  rw [State.hold_eq, (State.elapse_passKeeps _).sched]
  simp only [State.holdPlaced, hsched, hlimit]

end HoldLimit

/-- Settles O18: a period by what its step waits for, HOLD_LIMIT by what the hold is in, the limit by its register. -/
theorem stepAndHoldPeriods : Obligations.StepAndHoldPeriods := by
  unfold Obligations.StepAndHoldPeriods
  refine fun s => ⟨fun hidle => if_pos (State.stepDue_eq_false hidle), execStepIssue_rejected, fun ws hdue hws =>
    ⟨execStepIssue_issues hdue hws, execStepIssue_holds hdue hws⟩, execHoldLimit_early, fun hlen hmax =>
    ⟨fun ws hphase hws => ⟨fun htime => ?_, fun hends => ?_⟩, execHoldLimit_t3 hlen hmax⟩, s.hold_holdMax⟩
  · exact (execHoldLimit_steps hlen hmax hphase hws).trans (if_pos htime)
  · exact (execHoldLimit_steps hlen hmax hphase hws).trans (if_neg (ne_true_of_eq_false hends))

end Sys2Proof.Machine

/-! Running and halting the device (09, R257, R263; 03, R81, R88 to R90; 04, R109). -/

namespace Sys2Proof.Machine

section Running

variable {s : State} {h : Hdr} {c : CmdId}

/-- The state with another next grid instant. -/
def State.withGrid (s : State) (g : Nat) : State := { s with sched := { s.sched with nextGrid := g } }

theorem State.withGrid_nextTick (s : State) (g : Nat) : (s.withGrid g).sched.nextTick = s.sched.nextTick := rfl

theorem State.regrid_of_locked (h : s.free = false) :
    s.regrid = s.withGrid (gridAfter s.sched.nextGrid s.period s.sched.dtc) := if_neg (ne_true_of_eq_false h)

theorem State.regrid_nextTick (s : State) : s.regrid.sched.nextTick = s.sched.nextTick := by
  cases hfree : s.free with
  | true => exact congrArg (·.sched.nextTick) (if_pos hfree : s.regrid = s)
  | false => exact (congrArg (·.sched.nextTick) (State.regrid_of_locked hfree)).trans (s.withGrid_nextTick _)

/-- A device that starts has the tick count that it had halted with. -/
theorem State.goRunning_nextResult (s : State) : s.goRunning.nextResult = s.nextResult := by
  have hwake : s.wakeIdle.sched = s.sched := s.wakeIdle_touch.2.1 .sched rfl
  have hstart : s.goRunning.sched = { s.wakeIdle.regrid.sched with
      running := true, phase := .between, step := 0, tickHeld := false } := (State.put_touch ..).2.1 .sched rfl
  rw [State.nextResult, hstart]
  dsimp only
  rw [State.regrid_nextTick, hwake, State.nextResult]

theorem State.startRun_run (hrun : s.isRunning = false) : s.startRun c none = s.goRunning.complete c 0 s.nextResult := by
  rw [State.startRun, if_neg (ne_true_of_eq_false hrun)]

theorem State.startRun_step (hrun : s.isRunning = false) (n : Nat) : s.startRun c (some n) =
    { s.goRunning with sched := { s.goRunning.sched with stepsLeft := some n, stepCmd := some c } } := by
  rw [State.startRun, if_neg (ne_true_of_eq_false hrun)]

theorem exec_run_served (hs : s.serves (.run h) = true) : exec (.run h) s = .next (
    let u := s.begunBy (.run h)
    if u.hasImage = false then u.complete (cmdOf h) 6 else if u.inLattice then u.complete (cmdOf h) 0x27
    else if u.isRunning then u.complete (cmdOf h) 0 u.nextResult
    else if u.keepMarch then u.awaitMarch (cmdOf h) none else u.startRun (cmdOf h) none) := by
  rw [show exec (.run h) s = execRun h s from rfl, execRun]
  exact State.command_of_form (F := { hdr := h, cls := .prompt }) _ rfl hs

theorem exec_step_served {cycles : Word} (hs : s.serves (.step h cycles) = true) : exec (.step h cycles) s = .next (
    let u := s.begunBy (.step h cycles)
    if cycles = 0 then u.complete (cmdOf h) 2 else if u.hasImage = false then u.complete (cmdOf h) 6
    else if u.isRunning then u.complete (cmdOf h) 7 else if u.inLattice then u.complete (cmdOf h) 0x27
    else if u.keepMarch then u.awaitMarch (cmdOf h) (some cycles.toNat)
    else u.startRun (cmdOf h) (some cycles.toNat)) := by
  rw [show exec (.step h cycles) s = execStep h cycles s from rfl, execStep]
  exact State.command_of_form (F := { hdr := h, cls := .long }) _ rfl hs

theorem exec_halt_served {cancel : Bool} (hs : s.serves (.halt h cancel) = true) : exec (.halt h cancel) s = .next (
    let u := s.begunBy (.halt h cancel)
    if u.hasImage = false then u.complete (cmdOf h) 6
    else if !u.isRunning && (h.target.isNone || h.target == some u.sched.nextTick) then
      u.finishHalt { act := .halt cancel, target := none, cmd := some (cmdOf h), now := true }
    else u.awaitCmd (.halt cancel) h.target (cmdOf h)) := by
  rw [show exec (.halt h cancel) s = execHalt h cancel s from rfl, execHalt]
  exact State.command_of_form (F := { hdr := h, target := true, cls := .prompt }) _ rfl hs

theorem State.haltsAtOnce {u : State} (hrun : u.isRunning = false)
    (htarget : h.target = none ∨ h.target = some u.sched.nextTick) :
    (!u.isRunning && (h.target.isNone || h.target == some u.sched.nextTick)) = true := by
  simpa [hrun] using htarget

theorem State.not_haltsAtOnce {u : State}
    (hwaits : u.isRunning = true ∨ ∃ t, h.target = some t ∧ t ≠ u.sched.nextTick) :
    ¬(!u.isRunning && (h.target.isNone || h.target == some u.sched.nextTick)) = true := by
  rcases hwaits with hrun | ⟨t, htarget, hne⟩
  · simp [hrun]
  · simp [htarget, hne]

theorem exec_selectContext_served {ctx : BitVec 8} (hs : s.serves (.selectContext h ctx) = true) :
    exec (.selectContext h ctx) s = .next (
      let u := s.begunBy (.selectContext h ctx)
      if u.fld R.SCHED_TICK_CFG F.SCHED_TICK_CFG_CTX_SOURCE = 1 then u.complete (cmdOf h) 0x0E
      else if u.hasImage ∧ u.pace = false then u.complete (cmdOf h) 0x0F
      else if u.resident ctx.toNat = false then u.complete (cmdOf h) 0x0D
      else if h.target.any (fun t => u.passed t) then u.complete (cmdOf h) 5
      else if u.selecting then u.complete (cmdOf h) 4
      else if h.target.isNone then u.awaitT5 (.context ctx.toNat) (cmdOf h)
      else u.awaitCmd (.context ctx.toNat) h.target (cmdOf h)) := by
  rw [show exec (.selectContext h ctx) s = execSelectContext h ctx s from rfl, execSelectContext]
  exact State.command_of_form (F := { hdr := h, target := true, cls := .prompt }) _ rfl hs

theorem exec_setTick_served {mode policy realign source : BitVec 8} {ns : Word} {frac : BitVec 16}
    (hs : s.serves (.setTick h mode policy realign source ns frac) = true) :
    exec (.setTick h mode policy realign source ns frac) s = .next (
      let u := s.begunBy (.setTick h mode policy realign source ns frac)
      if 1 < mode.toNat ∨ 1 < policy.toNat ∨ 1 < realign.toNat ∨ 1 < source.toNat then u.complete (cmdOf h) 2
      else if mode = 0 ∧ 3 * (ns.toNat * 2 ^ 32 + frac.toNat * 2 ^ 16) < 2 * u.periodLimit * 2 ^ 32 then u.complete (cmdOf h) 0x10
      else u.awaitCmd (.tickCfg ⟨mode == 1, policy.toNat, realign.toNat, source.toNat, ns.toNat, frac.toNat⟩) h.target (cmdOf h)) := by
  rw [show exec (.setTick h mode policy realign source ns frac) s = execSetTick h mode policy realign source ns frac s
    from rfl, execSetTick]
  exact State.command_of_form
    (F := { hdr := h, target := true, needs := if mode = 0 ∧ s.inLattice then [timeBit] else [] }) _ rfl hs

end Running

end Sys2Proof.Machine

/-! Forces, deposits and peeks as served commands (06, R173 to R176; 09, R262). -/

namespace Sys2Proof.Machine

section Forces

variable {s : State} {h : Hdr} {c : CmdId} {n : NetBlock} {e : Nat} {t : BitVec 64}

/-- What FORCE, RELEASE and DEPOSIT share: refused, late, or acting in a tick. -/
def State.judged (s : State) (c : CmdId) (refusal : Option Nat) (tick : Option (BitVec 64)) (act : BitVec 64 → State) :
    State :=
  match refusal, tick with
  | some e, _ => s.complete c e
  | none, none => s.complete c 5
  | none, some t => act t

/-- A FORCE that acts in tick `x.tick` (R173). -/
def State.forced (s : State) (c : CmdId) (n : NetBlock) (x : ForceChange) : State :=
  match s.forceEntry (blockBp n) (blockTarget n) with
  | some e => ((s.setChanges e (putChange x e.changes)).completeOpt
      ((e.changes.find? (sameChange x)).bind (fun y => y.cmd)) 0 (BitVec.ofNat 64 x.tick.toNat)).settleNow
  | none => (s.claimForce c ⟨blockBp n, blockTarget n, false, [x]⟩).settleNow

/-- A RELEASE that acts in tick `x.tick` (R175). -/
def State.released (s : State) (c : CmdId) (n : NetBlock) (x : ForceChange) : State :=
  match s.forceEntry (blockBp n) (blockTarget n) with
  | none => s.complete c 0x15
  | some e =>
    ((e.changes.filterMap (fun y => if y.val.isNone then y.cmd else none)).foldl
      (fun s d => s.complete d 0 (BitVec.ofNat 64 x.tick.toNat))
      (s.setChanges e (putChange x (e.changes.filter (fun y => y.val.isSome))))).settleNow

theorem exec_force_served (hs : s.serves (.force h n) = true) : exec (.force h n) s = .next (
    let u := s.begunBy (.force h n)
    u.judged (cmdOf h) (u.forceRefused n) (u.forceTick h.target) fun t =>
      u.forced (cmdOf h) n ⟨t, some (blockVal n), some (cmdOf h), h.target.isNone⟩) := by
  rw [show exec (.force h n) s = execForce h n s from rfl, execForce]
  exact State.command_of_form (F := { hdr := h, target := true, cls := .prompt }) _ rfl hs

theorem exec_release_served (hs : s.serves (.release h n) = true) : exec (.release h n) s = .next (
    let u := s.begunBy (.release h n)
    u.judged (cmdOf h) (u.forceRefused { n with value := 0 }) (u.forceTick h.target) fun t =>
      u.released (cmdOf h) n ⟨t, none, some (cmdOf h), h.target.isNone⟩) := by
  rw [show exec (.release h n) s = execRelease h n s from rfl, execRelease]
  exact State.command_of_form (F := { hdr := h, target := true, cls := .prompt }) _ rfl hs

theorem exec_deposit_served (hs : s.serves (.deposit h n) = true) : exec (.deposit h n) s = .next (
    let u := s.begunBy (.deposit h n)
    u.judged (cmdOf h) (u.forceRefused n) (u.forceTick h.target) fun t =>
      (u.claimForce (cmdOf h) ⟨blockBp n, blockTarget n, true, [⟨t, some (blockVal n), some (cmdOf h), h.target.isNone⟩]⟩).settleNow) := by
  rw [show exec (.deposit h n) s = execDeposit h n s from rfl, execDeposit]
  exact State.command_of_form (F := { hdr := h, target := true, cls := .prompt }) _ rfl hs

/-- What STATE_DEPOSIT and PEEK share: a net block that is refused. -/
def State.netJudged (s : State) (c : CmdId) (n : NetBlock) (act : State) : State :=
  match s.netRefused n with
  | some e => s.complete c e
  | none => act

theorem exec_stateDeposit_served (hs : s.serves (.stateDeposit h n) = true) : exec (.stateDeposit h n) s = .next (
    let u := s.begunBy (.stateDeposit h n)
    u.netJudged (cmdOf h) n
      (if 4 ≤ n.value.toNat ∨ u.netCount n ≤ n.addr.toNat then u.complete (cmdOf h) 2
      else if u.netFour n = false ∧ 2 ≤ n.value.toNat then u.complete (cmdOf h) 0x11
      else if u.halted = false then u.complete (cmdOf h) 7
      else (u.writePrev (blockBp n) n.addr.toNat (blockVal n)).complete (cmdOf h) 0 u.nextResult)) := by
  rw [show exec (.stateDeposit h n) s = execStateDeposit h n s from rfl, execStateDeposit]
  exact State.command_of_form (F := { hdr := h, cls := .prompt }) _ rfl hs

/-- The values that a PEEK reads (R176). -/
def State.peekVals (s : State) (n : NetBlock) : List Nv :=
  (List.range n.count.toNat).map (fun i => s.prevNet (blockBp n) (n.addr.toNat + i))

/-- A PEEK of a net block that is not refused (R262): inline, or in the buffer. -/
def State.peeked (s : State) (c : CmdId) (n : NetBlock) (buf : HostBuf) : State :=
  let four := s.netFour n
  let k := n.count.toNat
  let v := bitsNat ((s.peekVals n).map (fun x => x.v))
  let t := BitVec.ofNat 64 s.peekTick.toNat
  let bs := bitBytes ((s.peekVals n).map (fun x => x.v)) ++ (if four then bitBytes ((s.peekVals n).map (fun x => x.k)) else [])
  if k = 0 ∨ 2048 < k ∨ s.netCount n < n.addr.toNat + k ∨ n.kind ≠ 0 ∧ n.kind ≠ 1 then s.complete c 2
  else if buf.len = 0 then
    (if (if four then 32 else 64) < k then s.complete c 2
    else s.complete c 0 (BitVec.ofNat 64 (if four then v + bitsNat ((s.peekVals n).map (fun x => x.k)) * 2 ^ 32 else v)) t)
  else if buf.len < bs.length then s.complete c 2
  else if buf.fault.any (fun a => Nat.blt a bs.length) then s.complete c 0x33
  else (s.toHost c bs).complete c 0 0 t

theorem exec_peek_served {buf : HostBuf} (hs : s.serves (.peek h n buf) = true) : exec (.peek h n buf) s = .next (
    let u := s.begunBy (.peek h n buf)
    u.netJudged (cmdOf h) n (u.peeked (cmdOf h) n buf)) := by
  rw [show exec (.peek h n buf) s = execPeek h n buf s from rfl, execPeek]
  exact State.command_of_form (F := { hdr := h, cls := .prompt, buf := buf }) _ rfl hs

/-! What they do when they are not refused. -/

theorem State.judged_refused {act : BitVec 64 → State} {refusal : Option Nat} (tick : Option (BitVec 64))
    (he : refusal = some e) : s.judged c refusal tick act = s.complete c e := by rw [he]; rfl

theorem State.judged_late {act : BitVec 64 → State} {refusal : Option Nat} {tick : Option (BitVec 64)}
    (hok : refusal = none) (hlate : tick = none) : s.judged c refusal tick act = s.complete c 5 := by rw [hok, hlate]; rfl

theorem State.judged_acts {act : BitVec 64 → State} {refusal : Option Nat} {tick : Option (BitVec 64)}
    (hok : refusal = none) (ht : tick = some t) : s.judged c refusal tick act = act t := by rw [hok, ht]; rfl

theorem State.netJudged_refused {act : State} (he : s.netRefused n = some e) : s.netJudged c n act = s.complete c e := by
  rw [State.netJudged, he]

theorem State.netJudged_acts {act : State} (hok : s.netRefused n = none) : s.netJudged c n act = act := by
  rw [State.netJudged, hok]

theorem State.claimForce_full {f : ForceEntry} (hfull : 4 ≤ (s.fab.forces.filter (fun x => x.bp == f.bp)).length) :
    s.claimForce c f = s.complete c 0x12 := if_pos hfull

theorem State.claimForce_free {f : ForceEntry} (hfree : ¬4 ≤ (s.fab.forces.filter (fun x => x.bp == f.bp)).length) :
    s.claimForce c f = { s with fab := { s.fab with forces := s.fab.forces ++ [f] } } := if_neg hfree

theorem State.forced_new {x : ForceChange} (hnew : s.forceEntry (blockBp n) (blockTarget n) = none) :
    s.forced c n x = (s.claimForce c ⟨blockBp n, blockTarget n, false, [x]⟩).settleNow := by
  rw [State.forced, hnew]

theorem State.forced_again {x : ForceChange} {f : ForceEntry} (hold : s.forceEntry (blockBp n) (blockTarget n) = some f) :
    s.forced c n x = ((s.setChanges f (putChange x f.changes)).completeOpt
      ((f.changes.find? (sameChange x)).bind (fun y => y.cmd)) 0 (BitVec.ofNat 64 x.tick.toNat)).settleNow := by
  rw [State.forced, hold]

theorem State.released_none {x : ForceChange} (hnone : s.forceEntry (blockBp n) (blockTarget n) = none) :
    s.released c n x = s.complete c 0x15 := by
  rw [State.released, hnone]

/-- The first release of a target that is forced. -/
theorem State.released_first {x : ForceChange} {f : ForceEntry} (hold : s.forceEntry (blockBp n) (blockTarget n) = some f)
    (hforces : f.changes.all (fun y => y.val.isSome) = true) :
    s.released c n x = (s.setChanges f (putChange x f.changes)).settleNow := by
  have hsome : ∀ y ∈ f.changes, y.val.isSome = true := List.all_eq_true.1 hforces
  have hwaiting : f.changes.filterMap (fun y => if y.val.isNone then y.cmd else none) = [] := by
    refine List.filterMap_eq_nil_iff.2 fun y hy => if_neg ?_
    rw [Option.isNone_iff_eq_none, ← Option.not_isSome_iff_eq_none, hsome y hy]
    exact not_not_intro rfl
  have hkept : f.changes.filter (fun y => y.val.isSome) = f.changes := List.filter_eq_self.2 hsome
  rw [State.released, hold]
  dsimp only
  rw [hwaiting, hkept]
  rfl

theorem State.settleNow_running (hrun : s.isRunning = true) : s.settleNow = s := if_pos hrun

theorem State.peekVals_map_v (s : State) (n : NetBlock) : (s.peekVals n).map (fun x => x.v) =
    (List.range n.count.toNat).map (fun i => (s.prevNet (blockBp n) (n.addr.toNat + i)).v) := List.map_map ..

section TwoState

variable {buf : HostBuf} (hfour : s.netFour n = false) (hcount : 0 < n.count.toNat)
  (hrange : n.addr.toNat + n.count.toNat ≤ 2048) (hkind : n.kind = 0 ∨ n.kind = 1)

include hfour hcount hrange hkind

theorem State.peek_allowed : ¬(n.count.toNat = 0 ∨ 2048 < n.count.toNat ∨ s.netCount n < n.addr.toNat + n.count.toNat ∨
    n.kind ≠ 0 ∧ n.kind ≠ 1) := by
  have hnets : s.netCount n = 2048 := by rw [State.netCount, hfour]; rfl
  rw [hnets]
  rintro (h | h | h | ⟨h0, h1⟩)
  · omega
  · omega
  · omega
  · exact hkind.elim h0 h1

theorem State.peeked_inline (hlen : buf.len = 0) (hfit : n.count.toNat ≤ 64) : s.peeked c n buf =
    s.complete c 0 (BitVec.ofNat 64 (bitsNat ((s.peekVals n).map (fun x => x.v)))) (BitVec.ofNat 64 s.peekTick.toNat) := by
  rw [State.peeked, if_neg (State.peek_allowed hfour hcount hrange hkind), if_pos hlen, hfour]
  exact if_neg hfit.not_gt

theorem State.peeked_toHost (hlen : 0 < buf.len) (hfit : (bitBytes ((s.peekVals n).map (fun x => x.v))).length ≤ buf.len)
    (hgood : buf.fault = none) : s.peeked c n buf =
    (s.toHost c (bitBytes ((s.peekVals n).map (fun x => x.v)))).complete c 0 0 (BitVec.ofNat 64 s.peekTick.toNat) := by
  rw [State.peeked, if_neg (State.peek_allowed hfour hcount hrange hkind), if_neg hlen.ne', hfour, hgood]
  simp only [Bool.false_eq_true, if_false, List.append_nil, if_neg hfit.not_gt, Option.any_none]

end TwoState

end Forces

/-- Settles O25: each command, once it is served, by what it does in the state in which it has started. -/
theorem runsForcesAndPeeks : Obligations.RunsForcesAndPeeks := by
  unfold Obligations.RunsForcesAndPeeks
  refine ⟨fun h s => ⟨fun hs => ?run, fun cycles hs => ?step, fun cancel hs => ?halt, fun ctx hs => ?context,
      fun mode policy realign source ns frac hs => ?tick⟩,
    fun h n s => ⟨fun hs => ?force, fun hs => ?release, fun hs => ?deposit, fun u => State.settleNow_running,
      fun hs => ?stateDeposit, fun buf hs => ?peek⟩⟩
  case run =>
    rw [exec_run_served hs]
    refine ⟨fun himage => ?_, fun himage hlat => ?_, fun himage hlat hrun => ?_, fun himage hlat hrun hmarch => ?_,
      fun himage hlat hrun hmarch => ?_⟩
    · rw [if_pos himage]
    · simp only [himage, hlat, Bool.true_eq_false, if_true, if_false]
    · simp only [himage, hlat, hrun, Bool.true_eq_false, Bool.false_eq_true, if_true, if_false]
    · simp only [himage, hlat, hrun, hmarch, Bool.true_eq_false, Bool.false_eq_true, if_false, State.startRun_run,
        State.goRunning_nextResult]
    · simp only [himage, hlat, hrun, hmarch, Bool.true_eq_false, Bool.false_eq_true, if_true, if_false]
      rfl
  case step =>
    rw [exec_step_served hs]
    generalize s.begunBy (.step h cycles) = u
    cases hrun : u.isRunning with
    | true => simp only [hrun, if_true]
    | false =>
      simp only [hrun, State.startRun_step hrun]
      rfl
  case halt =>
    rw [exec_halt_served hs]
    generalize s.begunBy (.halt h cancel) = u
    refine ⟨fun himage => ?_, fun himage hwaits => ?_, fun himage hrun htarget => ?_⟩
    · rw [if_pos himage]
    · rw [if_neg (by simp [himage]), if_neg (State.not_haltsAtOnce hwaits)]
    · rw [if_neg (by simp [himage]), if_pos (State.haltsAtOnce hrun htarget)]
  case context =>
    rw [exec_selectContext_served hs]
    simp only [Option.isNone_iff_eq_none]
  case tick => exact exec_setTick_served hs
  case force =>
    rw [exec_force_served hs]
    generalize s.begunBy (.force h n) = u
    refine ⟨fun e he => ?_, fun hok hlate => ?_, fun t hok ht => ⟨fun hnew hfull => ?_, fun hnew hfree => ?_, fun f hold => ?_⟩⟩
    · rw [State.judged_refused _ he]
    · rw [State.judged_late hok hlate]
    · rw [State.judged_acts hok ht, State.forced_new hnew, State.claimForce_full hfull]
    · rw [State.judged_acts hok ht, State.forced_new hnew, State.claimForce_free hfree]
    · rw [State.judged_acts hok ht, State.forced_again hold]
  case release =>
    rw [exec_release_served hs]
    generalize s.begunBy (.release h n) = u
    refine ⟨fun e he => ?_, fun hok => ⟨fun hlate => ?_, fun t ht => ⟨fun hnone => ?_, fun f hold hforces => ?_⟩⟩⟩
    · rw [State.judged_refused _ he]
    · rw [State.judged_late hok hlate]
    · rw [State.judged_acts hok ht, State.released_none hnone]
    · rw [State.judged_acts hok ht, State.released_first hold hforces]
  case deposit =>
    rw [exec_deposit_served hs]
    generalize s.begunBy (.deposit h n) = u
    refine ⟨fun e he => ?_, fun hok hlate => ?_, fun t hok ht => ⟨fun hfull => ?_, fun hfree => ?_⟩⟩
    · rw [State.judged_refused _ he]
    · rw [State.judged_late hok hlate]
    · rw [State.judged_acts hok ht, State.claimForce_full hfull]
    · rw [State.judged_acts hok ht, State.claimForce_free hfree]
  case stateDeposit =>
    rw [exec_stateDeposit_served hs]
    generalize s.begunBy (.stateDeposit h n) = u
    refine ⟨fun e he => ?_, fun hok hvalue haddr => ⟨fun hhalted => ?_, fun hruns => ?_⟩⟩
    · rw [State.netJudged_refused he]
    · rw [State.netJudged_acts hok, if_neg (by omega), if_neg (by omega), if_neg (by simp [hhalted])]
    · rw [State.netJudged_acts hok, if_neg (by omega), if_neg (by omega), if_pos hruns]
  case peek =>
    rw [exec_peek_served hs]
    generalize s.begunBy (.peek h n buf) = u
    refine ⟨fun e he => ?_, fun hok hfour hcount hrange hkind => ?_⟩
    · rw [State.netJudged_refused he]
    · rw [State.netJudged_acts hok, ← State.peekVals_map_v]
      exact ⟨fun hlen hfit => congrArg _ (State.peeked_inline hfour hcount hrange hkind hlen hfit),
        fun hlen hfit hgood => congrArg _ (State.peeked_toHost hfour hcount hrange hkind hlen hfit hgood)⟩

end Sys2Proof.Machine

/-! Bank requests beside the schedule (04, R97 to R104, R110; 10, R296). -/

namespace Sys2Proof.Machine

section BankQueue

variable {s : State} {r : BankReq}

/-! What a request meets at its gallery (R99, R110, R244, R296). -/

theorem State.bankRequest_off (hoff : s.isOff r.gal = true) :
    s.bankRequest r = (s.countOff r.gal r.who.posted).answerBank { r with data := [] } 2 := if_pos hoff

theorem State.bankRequest_testing (hon : s.isOff r.gal = false) (htest : s.testing r.gal = true) :
    s.bankRequest r = s.answerBank { r with data := [] } 4 := by
  rw [State.bankRequest, if_neg (ne_true_of_eq_false hon), if_pos htest]

theorem State.bankRequest_isolated (hon : s.isOff r.gal = false) (htest : s.testing r.gal = false)
    (hiso : s.fab.isolated.contains r.gal = true) : s.bankRequest r = s.answerBank { r with data := [] } 5 := by
  rw [State.bankRequest, if_neg (ne_true_of_eq_false hon), if_neg (ne_true_of_eq_false htest), if_pos hiso]

theorem State.bankRequest_queues (hon : s.isOff r.gal = false) (htest : s.testing r.gal = false)
    (hiso : s.fab.isolated.contains r.gal = false) (hops : r.left ≠ []) : s.bankRequest r =
      ({ s with mem := { s.mem with bankQ := s.mem.bankQ ++ [r] } }).fillQueue r.gal := by
  rw [State.bankRequest, if_neg (ne_true_of_eq_false hon), if_neg (ne_true_of_eq_false htest),
    if_neg (ne_true_of_eq_false hiso), if_neg hops]

/-! Acceptance into the queue of 32 (R99). -/

/-- The last request of a list in which nothing else of its gallery waits is accepted while the queue has room. -/
theorem acceptReqs_append {g now n : Nat} {q : List BankReq} (hq : q.all (fun x => x.gal != g || x.since.isSome) = true)
    (hgal : r.gal = g) (hnew : r.since = none) (hroom : n < 32) :
    acceptReqs g now n (q ++ [r]) = q ++ [{ r with since := some now }] := by
  induction q with
  | nil => simp [acceptReqs, hgal, hnew, hroom]
  | cons x xs ih =>
    rw [List.all_cons, Bool.and_eq_true] at hq
    obtain ⟨hx, hxs⟩ := hq
    have hskip : ¬(x.gal = g ∧ x.since = none) := by
      rintro ⟨hxg, hxn⟩
      simp [hxg, hxn] at hx
    rw [List.cons_append, acceptReqs, if_neg hskip, ih hxs, List.cons_append]

theorem State.fillQueue_open {g : Nat} (hopen : s.portCloses g = false) : s.fillQueue g =
    { s with mem := { s.mem with bankQ := acceptReqs g s.sched.now (s.accepted g).length s.mem.bankQ } } :=
  if_neg (ne_true_of_eq_false hopen)

/-- A request that comes to an open port is accepted at once while the queue has room. -/
theorem State.fillQueue_append (hopen : s.portCloses r.gal = false) (hroom : (s.accepted r.gal).length < 32)
    (hq : s.mem.bankQ.all (fun x => x.gal != r.gal || x.since.isSome) = true) (hnew : r.since = none) :
    ({ s with mem := { s.mem with bankQ := s.mem.bankQ ++ [r] } }).fillQueue r.gal =
      { s with mem := { s.mem with bankQ := s.mem.bankQ ++ [{ r with since := some s.sched.now }] } } := by
  have haccepted : State.accepted { s with mem := { s.mem with bankQ := s.mem.bankQ ++ [r] } } r.gal =
      s.accepted r.gal := by simp [State.accepted, hnew]
  rw [State.fillQueue_open (s := { s with mem := { s.mem with bankQ := s.mem.bankQ ++ [r] } }) hopen, haccepted]
  exact congrArg (fun q => { s with mem := { s.mem with bankQ := q } }) (acceptReqs_append hq rfl hnew hroom)

/-- A request leaves the queue. -/
def State.withdraw (s : State) (r : BankReq) : State :=
  { s with mem := { s.mem with bankQ := replaceReq r none s.mem.bankQ } }

end BankQueue

section BankRows

variable {s : State} {g : Gal} {word : Fin 131072} {ops : List BankOp} {posted : Bool} {c : Cham} {r : BankReq}

theorem exec_bankRequest_outside (h : 131072 < word.val + ops.length) : exec (.bankRequest g word ops posted) s =
    .next (s.answerBank (nocReq g.val word.val ops (!posted)) 0x0B) := if_pos h

theorem exec_bankRequest_inside (h : word.val + ops.length ≤ 131072) : exec (.bankRequest g word ops posted) s =
    .next (s.bankRequest (nocReq g.val word.val ops (!posted))) := if_neg h.not_gt

theorem exec_bankAtomic (swap : Bool) (d : Dword) : exec (.bankAtomic g word swap d) s =
    .next (s.bankRequest (nocReq g.val word.val [.atomic swap d] true)) := rfl

/-! One access in an idle period (R97, R98). -/

theorem exec_bankServe_busy (h : s.bankIdle c.val = false) : exec (.bankServe c) s = .next s := if_pos h

/-- The last access of the oldest request ends it: it leaves the queue and is answered. -/
theorem exec_bankServe_last {op : BankOp} (hidle : s.bankIdle c.val = true) (hengine : s.engineBusy = false)
    (hnext : s.nextReq c.val = some r) (hstatus : r.status = 0) (hleft : r.left = [op]) {data : List Dword}
    {t : State} (hserve : (s.useBank c.val).serveOp c.val (r.word % 8192) op = (0, data, t)) :
    exec (.bankServe c) s =
      .next (((t.withdraw r).fillQueue r.gal).answerBank { r with left := [], data := r.data ++ data } 0) := by
  rw [show exec (.bankServe c) s = execBankServe c s from rfl, execBankServe, if_neg (by simp [hidle]),
    if_neg (ne_true_of_eq_false hengine), hnext]
  simp only [hleft, hstatus, hserve, if_true]
  rfl

theorem State.serveOp_read {b w : Nat} (hgood : s.dmMark b w = .good) :
    s.serveOp b w .read = (0, [s.dmWord b w], s) := by
  rw [State.serveOp, State.dmRead_good hgood]
  rfl

theorem State.serveOp_write {b w : Nat} (harmed : s.lnt.armed = []) (hgood : s.dmMark b w = .good) (mask : BitVec 8)
    (d : Dword) : s.serveOp b w (.write mask d) = (0, [], s.bankStored b w (mergeBytes mask (s.dmWord b w) d)) := by
  rw [State.serveOp, State.dmWrite_good harmed hgood, hgood]
  simp

/-! A request past its limit (R103). -/

theorem exec_stealTimeout_none (h : s.mem.bankQ = []) : exec (.stealTimeout g) s = .next s := by
  rw [show exec (.stealTimeout g) s = execStealTimeout g s from rfl, execStealTimeout, State.accepted, h]
  rfl

theorem exec_stealTimeout_some {p : Nat} (hq : s.mem.bankQ = [r]) (hgal : r.gal = g.val) (hsince : r.since = some p)
    (hlate : p + s.stealLimit g.val ≤ s.sched.now) : exec (.stealTimeout g) s = .next
      ((((s.withdraw r).recordDm g.val 2 .noc (r.word / 8192) (r.word % 8192) 0).fillQueue g.val).answerBank r 3) := by
  have haccepted : s.accepted g.val = [r] := by simp [State.accepted, hq, hgal, hsince]
  rw [show exec (.stealTimeout g) s = execStealTimeout g s from rfl, execStealTimeout, haccepted]
  simp only [List.find?, hsince, Nat.ble_eq_true_of_le hlate]
  rfl

theorem State.withdraw_only (hq : s.mem.bankQ = [r]) : s.withdraw r = { s with mem := { s.mem with bankQ := [] } } := by
  rw [State.withdraw, hq, replaceReq, if_pos rfl]

end BankRows

/-- Settles O31: a request by what it meets at its gallery, an idle period by the access it serves. Where a row does
nothing, it does so by log 10. -/
theorem bankRequestsAreQueuedAndServed : Obligations.BankRequestsAreQueuedAndServed := by
  unfold Obligations.BankRequestsAreQueuedAndServed
  refine ⟨fun g word ops posted s => ⟨exec_bankRequest_outside, fun hin hoff => ?off, fun hin hon htest => ?testing,
      fun hin hon htest hiso => ?isolated, fun hin hon htest hiso hopen hops hroom hq => ?queues⟩,
    fun g word swap d s => exec_bankAtomic swap d, fun c s => exec_bankServe_busy,
    fun c r s hidle hengine hnext hstatus hgood harmed => ⟨fun hleft => ?read, fun mask d hleft => ?write⟩,
    fun g s => exec_stealTimeout_none, fun g r p s hq hgal hsince hlate => ?late⟩
  case off =>
    have hposted : (nocReq g.val word.val ops (!posted)).who.posted = posted := Bool.not_not posted
    rw [exec_bankRequest_inside hin,
      State.bankRequest_off (r := nocReq g.val word.val ops (!posted)) hoff, hposted]
    rfl
  case testing =>
    rw [exec_bankRequest_inside hin,
      State.bankRequest_testing (r := nocReq g.val word.val ops (!posted)) hon htest]
    rfl
  case isolated =>
    rw [exec_bankRequest_inside hin,
      State.bankRequest_isolated (r := nocReq g.val word.val ops (!posted)) hon htest hiso]
    rfl
  case queues =>
    rw [exec_bankRequest_inside hin,
      State.bankRequest_queues (r := nocReq g.val word.val ops (!posted)) hon htest hiso hops]
    exact congrArg _ (State.fillQueue_append (r := nocReq g.val word.val ops (!posted)) hopen hroom hq rfl)
  case read =>
    rw [exec_bankServe_last hidle hengine hnext hstatus hleft (State.serveOp_read (s := s.useBank c.val) hgood)]
    rfl
  case write =>
    rw [exec_bankServe_last hidle hengine hnext hstatus hleft
      (State.serveOp_write (s := s.useBank c.val) harmed hgood mask d)]
    rfl
  case late =>
    rw [exec_stealTimeout_some hq hgal hsince hlate, State.withdraw_only hq]

end Sys2Proof.Machine

/-! The Deep Store's channels and Drip beside the schedule (04, R105, R115, R120, R414; 14, R372, R373). -/

namespace Sys2Proof.Machine

section DeepChannels

variable {s : State}

/-! A channel that is cleared (R414). -/

/-- The memories with channel `n` cleared. -/
def State.dsCleared (s : State) (n : Nat) : State :=
  { s with mem := { s.mem with
      ds := NMap.keep s.mem.ds (fun a => dsChannel a != n),
      dsEcc := NMap.keep s.mem.dsEcc (fun w => dsChannel (w * 8) != n),
      dsUnread := s.mem.dsUnread.filter (fun b => dsChannel (b * 64) != n),
      dsDrop := s.mem.dsDrop.filter (fun b => dsChannel (b * 64) != n) } }

theorem exec_dsClear (n : Chan) (s : State) :
    exec (.dsClear n) s = .next ((s.dsCleared n.val).put R.DEVICE_READY2 ⟨n.val, n.val⟩ 1) := rfl

/-- Its bytes read 0, the others as before. -/
theorem State.dsByte_dsCleared (h : s.canon) (n a : Nat) :
    (s.dsCleared n).dsByte a = if dsChannel a = n then 0 else s.dsByte a := by
  obtain ⟨-, -, hds, -⟩ := (Memory.wf_iff _).1 h.2
  have hkeep : (s.dsCleared n).dsByte a = if dsChannel a != n then s.dsByte a else dByte a :=
    NMap.get_keep dByte (fun a => dsChannel a != n) a hds
  rw [hkeep]
  by_cases hn : dsChannel a = n <;> simp [hn, dByte]

theorem State.chanReady_put (h : NMap.wf regReset s.regs = true) (n : Chan) :
    (s.put R.DEVICE_READY2 ⟨n.val, n.val⟩ 1).chanReady n.val = true :=
  State.bit_of_put (b := true) (s.put_reg_self _ _ _ h) rfl n.isLt

/-! A burst (R115, R120). -/

/-- The channel of a burst goes to its next slot. -/
def State.nextSlot (s : State) (ch : Nat) : State :=
  { s with mem := { s.mem with dsSlot := NMap.set dZero s.mem.dsSlot ch ((NMap.get dZero s.mem.dsSlot ch + 1) % 10) } }

/-- The claimant that the channel has served. -/
def State.slotServed (s : State) (ch : Nat) (c : DsClass) : State :=
  { s with mem := { s.mem with dsServed := NMap.set dZero s.mem.dsServed ch (dsClassCode c + 1) } }

/-- The claimant that a slot serves: the first in its order that has work. -/
def State.claimant (s : State) (ch : Nat) (waiting : List DsClass) : Option DsClass :=
  (slotOrder (NMap.get dZero s.mem.dsSlot ch)).find? (fun c => waiting.contains c)

variable {b : Fin 536870912} {write : Bool} {waiting : List DsClass}

theorem State.claimant_nil (ch : Nat) : s.claimant ch [] = none := List.find?_eq_none.2 fun _ _ => Bool.false_ne_true

theorem exec_dsBurst_idle (hnone : s.claimant (dsChannel (b.val * 64)) waiting = none) (crcFails : Fin 6) :
    exec (.dsBurst b write waiting crcFails) s = .next (s.nextSlot (dsChannel (b.val * 64))) := by
  rw [State.claimant] at hnone
  rw [show exec (.dsBurst b write waiting crcFails) s = execDsBurst b write waiting crcFails s from rfl, execDsBurst]
  simp only [hnone]
  rfl

/-- A burst whose transfers all pass their CRC serves its claimant and nothing more. -/
theorem exec_dsBurst_passes {c : DsClass} (hsome : s.claimant (dsChannel (b.val * 64)) waiting = some c)
    (harmed : s.lnt.armed = []) : exec (.dsBurst b write waiting 0) s =
      .next ((s.nextSlot (dsChannel (b.val * 64))).slotServed (dsChannel (b.val * 64)) c) := by
  have hunarmed (code : Nat) := State.isArmed_of_nil
    (s := (s.nextSlot (dsChannel (b.val * 64))).slotServed (dsChannel (b.val * 64)) c) harmed 0x04 code
      (dsChannel (b.val * 64))
  rw [State.claimant] at hsome
  rw [State.slotServed, State.nextSlot] at hunarmed
  rw [show exec (.dsBurst b write waiting 0) s = execDsBurst b write waiting 0 s from rfl, execDsBurst]
  simp only [hsome, hunarmed]
  rfl

/-- What touches the memories alone leaves every register. -/
theorem RegsBut.of_mem (m : Mem) : RegsBut [] { s with mem := m } { s with mem := m } :=
  ⟨fun _ _ => rfl, (Touch.refl 1 _).frame_regs⟩

end DeepChannels

section Drip

variable {s : State} {x : DripTarget}

/-! A check of Drip (R372, R373). -/

theorem exec_dripScrub_waits (h : s.dripMay x = false) (pass : Bool) : exec (.dripScrub x pass) s = .next s := if_pos h

theorem exec_dripScrub_item (h : s.dripMay x = true) : exec (.dripScrub x false) s = .next (s.drip x) := by
  rw [show exec (.dripScrub x false) s = execDripScrub x false s from rfl, execDripScrub, if_neg (by simp [h])]
  rfl

/-- The count of the passes to which an item belongs. -/
def passField : DripTarget → Field
  | .deep _ => F.DRIP_STATUS_DS_PASSES
  | _ => F.DRIP_STATUS_FABRIC_PASSES

theorem exec_dripScrub_pass (h : s.dripMay x = true) :
    exec (.dripScrub x true) s = .next ((s.drip x).bump R.DRIP_STATUS (passField x)) := by
  rw [show exec (.dripScrub x true) s = execDripScrub x true s from rfl, execDripScrub, if_neg (by simp [h])]
  cases x <;> rfl

/-! A write-back (R105, R373). -/

theorem exec_dripWriteBack_bank {c : Cham} {w : Fin 8192} (hwaits : s.mem.dripBack.contains (c.val, w.val) = true)
    (hmay : s.dripMay (.bank c w) = true) : exec (.dripWriteBack (.bank c w)) s =
      .next ((s.useBank c.val).bankStored c.val w.val (s.dmWord c.val w.val)) := by
  rw [show exec (.dripWriteBack (.bank c w)) s = execDripWriteBack (.bank c w) s from rfl, execDripWriteBack,
    hwaits, hmay]
  rfl

theorem State.dmMark_bankStored (h : s.canon) (c w : Nat) (d : Dword) : (s.bankStored c w d).dmMark c w = .good := by
  obtain ⟨-, hecc, -⟩ := (Memory.wf_iff _).1 h.2
  exact NMap.get_set_self _ _ _ _ hecc

/-- A word stored as it stands leaves every word as it was. -/
theorem State.dmWord_bankStored_same (h : s.canon) (c w e v : Nat) :
    (s.bankStored c w (s.dmWord c w)).dmWord e v = s.dmWord e v := by
  obtain ⟨hdm, -⟩ := (Memory.wf_iff _).1 h.2
  by_cases hkey : e * 8192 + v = c * 8192 + w
  · have hword : s.dmWord e v = s.dmWord c w := by rw [State.dmWord, hkey]; rfl
    rw [hword, State.dmWord, hkey]
    exact NMap.get_set_self _ _ _ _ hdm
  · exact NMap.get_set_of_ne _ _ _ _ _ hdm hkey

/-- Fresh check bits change no byte and no register. -/
theorem foldl_dsFresh_keeps (ws : List Nat) (s : State) :
    (ws.foldl State.dsFresh s).mem.ds = s.mem.ds ∧ (ws.foldl State.dsFresh s).regs = s.regs := by
  induction ws generalizing s with
  | nil => exact ⟨rfl, rfl⟩
  | cons w ws ih => exact ih (s.dsFresh w)

theorem exec_dripWriteBack_deep (b : Fin 536870912) (s : State) : ∃ t, exec (.dripWriteBack (.deep b)) s = .next t ∧
    t.mem.ds = s.mem.ds ∧ t.regs = s.regs :=
  ⟨_, rfl, foldl_dsFresh_keeps (s.mem.dsBack.filter (fun w => w / 8 == b.val)) s⟩

end Drip

/-- Settles O33: what a clear leaves byte by byte, the slot of a burst, and Drip's rows by what it may do. Where a row
does nothing, it does so by log 10. -/
theorem deepStoreClearsAndScrubs : Obligations.DeepStoreClearsAndScrubs := by
  unfold Obligations.DeepStoreClearsAndScrubs
  refine fun s hs => ⟨fun n => ⟨_, exec_dsClear n s, State.chanReady_put hs.1 n, rfl,
      State.dsByte_dsCleared hs n.val, rfl, rfl, rfl⟩,
    fun b write => ⟨exec_dsBurst_idle (State.claimant_nil _) 0, fun waiting harmed => ?burst⟩,
    fun x pass hmay => exec_dripScrub_waits hmay pass, fun x hmay => ⟨exec_dripScrub_item hmay, ?pass⟩,
    fun c w hwaits hmay => ?back, fun b => exec_dripWriteBack_deep b s⟩
  case burst =>
    cases hclaim : s.claimant (dsChannel (b.val * 64)) waiting with
    | none => exact ⟨_, exec_dsBurst_idle hclaim 0, rfl, rfl, rfl, .of_mem _⟩
    | some c => exact ⟨_, exec_dsBurst_passes hclaim harmed, rfl, rfl, rfl, .of_mem _⟩
  case pass =>
    rw [exec_dripScrub_pass hmay]
    cases x <;> rfl
  case back =>
    have hused : (s.useBank c.val).canon := hs
    exact ⟨_, exec_dripWriteBack_bank hwaits hmay, State.dmMark_bankStored hused ..,
      fun d v => State.dmWord_bankStored_same hused .., rfl, rfl⟩

end Sys2Proof.Machine

/-! Marches (04, R107 to R113): their start, and how one that finds nothing ends. -/

namespace Sys2Proof.Machine

section MarchStart

variable {s : State} {g : Gal} {w : Word}

/-- A write of GAL_MARCH_CTL stores its fields by their types. -/
def State.marchWritten (s : State) (g : Nat) (w : Word) : State :=
  s.setReg (R.GAL_MARCH_CTL g)
    (s.written (R.GAL_MARCH_CTL g) (match regRow (R.GAL_MARCH_CTL g) with | some r => r.fields | none => []) w)

/-- The gallery is busy with its march: a snapshot's copy ends, what waits at its banks is answered, and a march that
keeps nothing takes the gallery out of the image (R107, R110, R181). -/
def State.marchMade (s : State) (g : Nat) (keep : Bool) : State :=
  let t := (s.raise (R.GAL_MARCH_CTL g) F.GAL_MARCH_CTL_BUSY).abortSnapPhase2.flushQueue g 4
  if keep then t else t.put (R.GAL_MODE g) F.GAL_MODE_IN_IMAGE 0

/-- The march that a write asks for. -/
def State.askedMarch (s : State) (g : Nat) (keep : Bool) : March :=
  { gal := g, keep := keep, arrays := s.fld (R.GAL_MARCH_CTL g) F.GAL_MARCH_CTL_ARRAYS, wake := false, start := false }

/-- A march is under way. -/
def State.addMarch (s : State) (m : March) : State := { s with mem := { s.mem with marches := s.mem.marches ++ [m] } }

theorem exec_marchStart_on (hon : s.isOff g.val = false) : exec (.marchStart g w) s =
    let u := s.marchWritten g.val w
    let keep := F.GAL_MARCH_CTL_MODE.of w == 1
    if F.GAL_MARCH_CTL_START.of w = 0 then .next u
    else if u.bit (R.GAL_MARCH_CTL g.val) F.GAL_MARCH_CTL_BUSY ∨ s.testing g.val ∨
        u.marchAllowed g.val keep = false then
      .next (u.raise (R.GAL_MARCH_CTL g.val) F.GAL_MARCH_CTL_REFUSED)
    else .next ((u.marchMade g.val keep).addMarch (u.askedMarch g.val keep)) := by
  rw [show exec (.marchStart g w) s = execMarchStart g w s from rfl, execMarchStart, if_neg (ne_true_of_eq_false hon)]
  rfl

/-- What decides whether a march is allowed is not written with GAL_MARCH_CTL. -/
theorem State.marchAllowed_marchWritten (h : s.canon) (g k : Nat) (keep : Bool) :
    (s.marchWritten g w).marchAllowed k keep = s.marchAllowed k keep := by
  have hmode : R.GAL_MODE k ≠ R.GAL_MARCH_CTL g := by simp only [R.GAL_MODE, R.GAL_MARCH_CTL]; omega
  have hstate : R.DEVICE_STATE ≠ R.GAL_MARCH_CTL g := by simp only [R.DEVICE_STATE, R.GAL_MARCH_CTL]; omega
  have himage : (s.marchWritten g w).inImage k = s.inImage k := by
    rw [State.inImage, State.bit, State.fld, State.marchWritten, State.setReg_reg_of_ne _ _ _ _ h.1 hmode]
    rfl
  have hrun : (s.marchWritten g w).runState = s.runState := by
    rw [State.runState, State.fld, State.marchWritten, State.setReg_reg_of_ne _ _ _ _ h.1 hstate]
    rfl
  rw [State.marchAllowed, himage, hrun, State.marchAllowed]

theorem exec_marchStart_stores (hon : s.isOff g.val = false) (hstart : F.GAL_MARCH_CTL_START.of w = 0) :
    exec (.marchStart g w) s = .next (s.marchWritten g.val w) := by
  rw [exec_marchStart_on hon]
  exact if_pos hstart

theorem exec_marchStart_refused (h : s.canon) (hon : s.isOff g.val = false) (hstart : F.GAL_MARCH_CTL_START.of w = 1)
    (hno : (s.marchWritten g.val w).bit (R.GAL_MARCH_CTL g.val) F.GAL_MARCH_CTL_BUSY = true ∨
      s.testing g.val = true ∨ s.marchAllowed g.val (F.GAL_MARCH_CTL_MODE.of w == 1) = false) :
    exec (.marchStart g w) s =
      .next ((s.marchWritten g.val w).raise (R.GAL_MARCH_CTL g.val) F.GAL_MARCH_CTL_REFUSED) := by
  rw [exec_marchStart_on hon]
  dsimp only
  rw [State.marchAllowed_marchWritten h, if_neg (by omega), if_pos hno]

theorem exec_marchStart_begins (h : s.canon) (hon : s.isOff g.val = false) (hstart : F.GAL_MARCH_CTL_START.of w = 1)
    (hbusy : (s.marchWritten g.val w).bit (R.GAL_MARCH_CTL g.val) F.GAL_MARCH_CTL_BUSY = false)
    (htest : s.testing g.val = false) (hallowed : s.marchAllowed g.val (F.GAL_MARCH_CTL_MODE.of w == 1) = true) :
    exec (.marchStart g w) s =
      let u := s.marchWritten g.val w
      let keep := F.GAL_MARCH_CTL_MODE.of w == 1
      .next ((u.marchMade g.val keep).addMarch (u.askedMarch g.val keep)) := by
  rw [exec_marchStart_on hon]
  dsimp only
  rw [State.marchAllowed_marchWritten h, if_neg (by omega), hbusy, htest, hallowed, if_neg (by simp)]

end MarchStart

/-! The arrays that a march leaves zero (R107). -/

section Zeroed

variable {s : State}

/-- The banks of gallery `g` with every word 0. -/
def State.zeroBanks (s : State) (g : Nat) : State :=
  { s with mem := { s.mem with
      dm := NMap.keep s.mem.dm (fun k => k / (16 * 8192) != g),
      dmEcc := NMap.keep s.mem.dmEcc (fun k => k / (16 * 8192) != g),
      drip := s.mem.drip.filter (fun e => e.1 / 16 != g), dripBack := s.mem.dripBack.filter (fun e => e.1 / 16 != g) } }

theorem State.zeroArrays_mem (s : State) (g arrays : Nat) :
    (s.zeroArrays g arrays).mem = if arrays.testBit 0 then (s.zeroBanks g).mem else s.mem := by
  unfold State.zeroArrays
  dsimp only
  split_ifs <;> rfl

theorem State.zeroArrays_sched (s : State) (g arrays : Nat) : (s.zeroArrays g arrays).sched = s.sched := by
  unfold State.zeroArrays
  dsimp only
  split_ifs <;> rfl

/-- A march that tests the banks leaves those of its gallery zero and the others as they were. -/
theorem State.dmWord_zeroArrays (h : s.canon) {g arrays : Nat} (hbanks : arrays.testBit 0 = true) (c : Cham)
    (w : Fin 8192) :
    (s.zeroArrays g arrays).dmWord c.val w.val = if c.val / 16 = g then 0 else s.dmWord c.val w.val := by
  obtain ⟨hdm, -⟩ := (Memory.wf_iff _).1 h.2
  have hgal : (c.val * 8192 + w.val) / (16 * 8192) = c.val / 16 := by omega
  have hkeep := NMap.get_keep dZero64 (fun k => k / (16 * 8192) != g) (c.val * 8192 + w.val) hdm
  rw [State.dmWord, State.zeroArrays_mem, if_pos hbanks]
  refine hkeep.trans ?_
  by_cases hg : c.val / 16 = g <;> simp [hgal, hg, dZero64, State.dmWord]

/-- The banks of the other galleries stay. -/
theorem State.dmWord_zeroArrays_other (h : s.canon) (g arrays : Nat) (c : Cham) (w : Fin 8192) (hg : c.val / 16 ≠ g) :
    (s.zeroArrays g arrays).dmWord c.val w.val = s.dmWord c.val w.val := by
  cases hbanks : arrays.testBit 0 with
  | true => rw [State.dmWord_zeroArrays h hbanks, if_neg hg]
  | false => rw [State.dmWord, State.zeroArrays_mem, hbanks]; rfl

end Zeroed

/-! The end of a march that has found nothing (R107, R108). -/

section MarchPassed

variable {s : State} {g : Nat} {m : March}

/-- GAL_MARCH_RESULT and GAL_MARCH_CTL after a march of gallery `g` that has passed. -/
def State.passNoted (s : State) (g : Nat) : State :=
  (((s.setReg (R.GAL_MARCH_RESULT g) 0).setReg (R.GAL_MARCH_WORD g) 0).put (R.GAL_MARCH_CTL g)
    F.GAL_MARCH_CTL_BUSY 0).raise (R.GAL_MARCH_CTL g) F.GAL_MARCH_CTL_DONE

/-- No march of gallery `g` is under way. -/
def State.marchOver (s : State) (g : Nat) : State :=
  { s with mem := { s.mem with marches := s.mem.marches.filter (fun x => x.gal != g) } }

/-- The arrays that a march leaves. -/
def State.marched (s : State) (m : March) : State := if m.keep then s else s.zeroArrays m.gal m.arrays

/-- The state in which a march that has found nothing ends. -/
def State.marchPassed (s : State) (m : March) : State := ((s.marched m).passNoted m.gal).marchOver m.gal

theorem State.finishMarch_nil (s : State) (m : March) : s.finishMarch m [] = (true, s.marchPassed m) := by
  have hnone : m.inOrder [] = [] := by simp [March.inOrder]
  rw [State.finishMarch, hnone]
  rfl

/-- The registers in which a march ends. -/
def marchRegs (g : Nat) : List Nat := [R.GAL_MARCH_RESULT g, R.GAL_MARCH_WORD g, R.GAL_MARCH_CTL g]

theorem State.passNoted_writes (s : State) (g : Nat) : Writes (marchRegs g) s (s.passNoted g) :=
  (((Writes.setReg (by simp [marchRegs])).trans (.setReg (by simp [marchRegs]))).trans
    (.put (by simp [marchRegs]))).trans (.raise (by simp [marchRegs]))

theorem State.marched_canon (h : s.canon) (m : March) : (s.marched m).canon := by
  unfold State.marched
  split
  · exact h
  · exact (s.zeroArrays_touch ..).2.2 h

theorem State.marched_keeping (hkeep : m.keep = true) : s.marched m = s := if_pos hkeep

theorem State.marched_zeroing (hkeep : m.keep = false) : s.marched m = s.zeroArrays m.gal m.arrays :=
  if_neg (ne_true_of_eq_false hkeep)

/-- A march changes neither what runs nor what waits. -/
theorem State.marchPassed_sched (s : State) (m : March) : (s.marchPassed m).sched = s.sched := by
  unfold State.marchPassed State.marched
  split
  · rfl
  · exact State.zeroArrays_sched ..

/-- The words are those that the march leaves in the arrays. -/
theorem State.dmWord_marchPassed (s : State) (m : March) (c w : Nat) :
    (s.marchPassed m).dmWord c w = (s.marched m).dmWord c w := rfl

theorem State.dmWord_marched_other (h : s.canon) (m : March) (c : Cham) (w : Fin 8192) (hg : c.val / 16 ≠ m.gal) :
    (s.marched m).dmWord c.val w.val = s.dmWord c.val w.val := by
  cases hkeep : m.keep with
  | true => rw [State.marched_keeping hkeep]
  | false => rw [State.marched_zeroing hkeep, State.dmWord_zeroArrays_other h _ _ c w hg]

/-- A march that keeps nothing and tests the banks leaves those of its gallery zero. -/
theorem State.dmWord_marchPassed_zeroed (h : s.canon) (hkeep : m.keep = false) (hbanks : m.arrays.testBit 0 = true)
    (c : Cham) (w : Fin 8192) :
    (s.marchPassed m).dmWord c.val w.val = if c.val / 16 = m.gal then 0 else s.dmWord c.val w.val := by
  rw [State.dmWord_marchPassed, State.marched_zeroing hkeep, State.dmWord_zeroArrays h hbanks]

theorem State.marchOver_only (hm : s.mem.marches = [m]) : (s.marchOver m.gal).mem.marches = [] := by
  simp [State.marchOver, hm]

theorem State.marched_marches (s : State) (m : March) : (s.marched m).mem.marches = s.mem.marches := by
  unfold State.marched
  split
  · rfl
  · rw [State.zeroArrays_mem]
    split <;> rfl

/-- The only march has ended. -/
theorem State.marchPassed_marches (hm : s.mem.marches = [m]) : (s.marchPassed m).mem.marches = [] :=
  State.marchOver_only ((s.marched_marches m).trans hm)

theorem State.marchPassed_canon (h : s.canon) (m : March) : (s.marchPassed m).canon :=
  ((State.marched s m).passNoted_writes m.gal).canon (State.marched_canon h m)

/-- A march that keeps its gallery's content leaves the run state. -/
theorem State.marchPassed_isRunning (h : s.canon) (hkeep : m.keep = true) :
    (s.marchPassed m).isRunning = s.isRunning := by
  have hstate : R.DEVICE_STATE ∉ marchRegs m.gal := by
    simp only [marchRegs, R.DEVICE_STATE, R.GAL_MARCH_RESULT, R.GAL_MARCH_WORD, R.GAL_MARCH_CTL, List.mem_cons,
      List.not_mem_nil, or_false]
    omega
  have hreg : (s.marchPassed m).reg R.DEVICE_STATE = s.reg R.DEVICE_STATE := by
    rw [State.marchPassed, State.marched_keeping hkeep]
    exact (s.passNoted_writes m.gal).reg h _ hstate
  rw [State.isRunning, State.runState, State.fld, hreg]
  rfl

/-- GAL_MARCH_RESULT reports no failure. -/
theorem State.passNoted_fail (h : s.canon) :
    (s.passNoted g).bit (R.GAL_MARCH_RESULT g) F.GAL_MARCH_RESULT_FAIL = false := by
  have hword : R.GAL_MARCH_RESULT g ≠ R.GAL_MARCH_WORD g := by simp only [R.GAL_MARCH_RESULT, R.GAL_MARCH_WORD]; omega
  have hctl : R.GAL_MARCH_RESULT g ≠ R.GAL_MARCH_CTL g := by simp only [R.GAL_MARCH_RESULT, R.GAL_MARCH_CTL]; omega
  have hzero := (s.setReg_touch (R.GAL_MARCH_RESULT g) 0).2.2 h
  have hrest : Writes [R.GAL_MARCH_WORD g, R.GAL_MARCH_CTL g] (s.setReg (R.GAL_MARCH_RESULT g) 0) (s.passNoted g) :=
    ((Writes.setReg (by simp)).trans (.put (by simp))).trans (.raise (by simp))
  rw [State.bit, State.fld, hrest.reg hzero _ (by simp [hword, hctl]), State.setReg_reg_self _ _ _ h.1]
  decide

/-- GAL_MARCH_CTL shows a march that is done and no longer busy. -/
theorem State.passNoted_ctl (h : s.canon) :
    (s.passNoted g).bit (R.GAL_MARCH_CTL g) F.GAL_MARCH_CTL_BUSY = false ∧
    (s.passNoted g).bit (R.GAL_MARCH_CTL g) F.GAL_MARCH_CTL_DONE = true := by
  have hresult := (s.setReg_touch (R.GAL_MARCH_RESULT g) 0).2.2 h
  have hword := ((s.setReg (R.GAL_MARCH_RESULT g) 0).setReg_touch (R.GAL_MARCH_WORD g) 0).2.2 hresult
  have hbusy := (State.put_touch _ (R.GAL_MARCH_CTL g) F.GAL_MARCH_CTL_BUSY 0).2.2 hword
  have hdone := State.put_reg_self _ (R.GAL_MARCH_CTL g) F.GAL_MARCH_CTL_DONE 1 hbusy.1
  refine ⟨?_, State.bit_of_put (b := true) hdone⟩
  have hbelow := State.fld_put _ (R.GAL_MARCH_CTL g) F.GAL_MARCH_CTL_BUSY 0 hword.1 (by decide) (by decide)
  have hsame : (s.passNoted g).fld (R.GAL_MARCH_CTL g) F.GAL_MARCH_CTL_BUSY = 0 := by
    refine Eq.trans ?_ (hbelow.trans (Nat.zero_mod _))
    exact (congrArg F.GAL_MARCH_CTL_BUSY.of hdone).trans
      (Field.of_put_below _ _ _ _ (by decide) (by decide) (by decide) (by decide))
  rw [State.bit, hsame]
  rfl

end MarchPassed

/-! MARCH_END and the run commands that waited for it (R109). -/

section MarchEnd

variable {s : State} {m : March} {g : Gal} {c : CmdId}

theorem exec_marchEnd_none (h : s.mem.marches = []) (found : List MarchFault) :
    exec (.marchEnd g found) s = .next s := by
  rw [show exec (.marchEnd g found) s = execMarchEnd g found s from rfl, execMarchEnd, h]
  rfl

theorem exec_marchEnd_passes (hm : s.mem.marches = [m]) (hgal : m.gal = g.val) (hwake : m.wake = false)
    (hstart : m.start = false) : exec (.marchEnd g []) s = .next (s.marchPassed m).afterMarch := by
  have hfind : s.mem.marches.find? (fun m => m.gal == g.val && !m.wake && !m.start) = some m := by
    simp [hm, hgal, hwake, hstart]
  rw [show exec (.marchEnd g []) s = execMarchEnd g [] s from rfl, execMarchEnd, hfind]
  dsimp only
  rw [State.finishMarch_nil]

/-- Without a command that waits nothing starts. -/
theorem State.afterMarch_idle (hwaits : s.sched.runWaits = []) (hresume : s.sched.resume = false) :
    s.afterMarch = s := by
  have hsame : { s with sched := { s.sched with runWaits := [] } } = s := by rw [← hwaits]
  have hres : s.resumeIf = s := by rw [State.resumeIf, hresume]; rfl
  rw [State.afterMarch, hwaits, hsame]
  show (if _ then s else if _ then s.resumeIf else s) = s
  rw [hres, ite_self, ite_self]

/-- The commands that wait for a march are no longer noted. -/
def State.waitsTaken (s : State) : State := { s with sched := { s.sched with runWaits := [] } }

/-- The device runs, no command waits for a march, and command `c` is not outstanding. -/
structure RunsWithout (c : CmdId) (s : State) : Prop where
  running : s.sched.running = true
  runWaits : s.sched.runWaits = []
  isOut : s.isOut c = false

theorem State.withGrid_runWaits (s : State) (n : Nat) : (s.withGrid n).sched.runWaits = s.sched.runWaits := rfl

theorem State.regrid_runWaits (s : State) : s.regrid.sched.runWaits = s.sched.runWaits := by
  cases hfree : s.free with
  | true => exact congrArg (·.sched.runWaits) (if_pos hfree : s.regrid = s)
  | false => exact (congrArg (·.sched.runWaits) (State.regrid_of_locked hfree)).trans (s.withGrid_runWaits _)

theorem State.goRunning_sched (s : State) : s.goRunning.sched = { s.wakeIdle.regrid.sched with
    running := true, phase := .between, step := 0, tickHeld := false } := (State.put_touch ..).2.1 .sched rfl

theorem State.goRunning_running (s : State) : s.goRunning.sched.running = true :=
  congrArg Sched.running s.goRunning_sched

theorem State.goRunning_runWaits (s : State) : s.goRunning.sched.runWaits = s.sched.runWaits := by
  have hwake : s.wakeIdle.sched = s.sched := s.wakeIdle_touch.2.1 .sched rfl
  exact (congrArg Sched.runWaits s.goRunning_sched).trans ((State.regrid_runWaits _).trans (by rw [hwake]))

theorem State.goRunning_runs (hwaits : s.sched.runWaits = []) (hout : s.isOut c = false) :
    RunsWithout c s.goRunning := by
  have hmbx : s.goRunning.mbx = s.mbx := s.goRunning_touch.2.1 .mbx rfl
  exact ⟨s.goRunning_running, s.goRunning_runWaits.trans hwaits, by rw [State.isOut, hmbx]; exact hout⟩

theorem RunsWithout.resumeIf (h : RunsWithout c s) : RunsWithout c s.resumeIf := by
  unfold State.resumeIf
  split
  · exact State.goRunning_runs (s := { s with sched := { s.sched with resume := false } }) h.runWaits h.isOut
  · exact h

/-- A RUN that has waited for the march starts the device and completes. -/
theorem State.afterMarch_runs (hmarches : s.mem.marches = []) (hwaits : s.sched.runWaits = [(c, none)])
    (hrun : s.isRunning = false) : RunsWithout c s.afterMarch := by
  have hkeep : s.keepMarch = false := by rw [State.keepMarch, hmarches]; rfl
  have hstart : s.waitsTaken.startRun c none = s.waitsTaken.goRunning.complete c 0 s.waitsTaken.nextResult :=
    State.startRun_run hrun
  have hsched : (s.waitsTaken.startRun c none).sched = s.waitsTaken.goRunning.sched := by
    rw [hstart]
    exact (State.complete_touch ..).2.1 .sched rfl
  have hruns : RunsWithout c (s.waitsTaken.startRun c none) :=
    ⟨by rw [hsched, State.goRunning_running], by rw [hsched, State.goRunning_runWaits]; rfl,
      by rw [hstart]; exact State.isOut_complete ..⟩
  rw [State.afterMarch, hkeep, hwaits]
  show RunsWithout c (if _ then (s.waitsTaken.startRun c none).resumeIf else s.waitsTaken.startRun c none)
  split
  · exact hruns.resumeIf
  · exact hruns

end MarchEnd

/-! A gallery that is ready: what writes other registers leaves it so (R112, R113, R268). -/

section Ready

variable {s t : State} {g : Nat}

theorem State.setGalReady_ready (h : NMap.wf regReset s.regs = true) (hg : g < 64) (v : Bool) :
    (s.setGalReady g v).galReady g = v := by
  unfold State.galReady State.setGalReady
  split
  · exact State.bit_of_put (s.put_reg_self _ _ _ h) rfl ‹_›
  · exact State.bit_of_put (s.put_reg_self _ _ _ h) rfl (by show g - 32 < 32; omega)

theorem Writes.galReady {os : List Nat} (h : Writes os s t) (hs : s.canon) (hlow : R.DEVICE_READY0 ∉ os)
    (hhigh : R.DEVICE_READY1 ∉ os) : t.galReady g = s.galReady g := by
  rw [State.galReady, State.galReady, State.fld, State.fld, h.reg hs _ hlow, h.reg hs _ hhigh]
  rfl

/-- The registers that a trace source's packets write. -/
def traceRegs (k : Nat) : List Nat := [R.TRC_SRC_STATUS k, R.TRC_STATUS]

section TraceWrites

variable (s : State) (k : Nat)

theorem mem_traceRegs : R.TRC_SRC_STATUS k ∈ traceRegs k ∧ R.TRC_STATUS ∈ traceRegs k := by simp [traceRegs]

/-- The trace record holds no register. -/
theorem Writes.set_trc {os : List Nat} {r : Trace} : Writes os s { s with trc := r } := ⟨id, fun _ _ _ => rfl⟩

theorem State.setFifo_writes (l : List Dword) : Writes (traceRegs k) s (s.setFifo k l) :=
  (Writes.set_trc s).trans ((Writes.put (mem_traceRegs k).1).trans (.put (mem_traceRegs k).2))

theorem State.dropPacket_writes : Writes (traceRegs k) s (s.dropPacket k) :=
  ((Writes.set_trc s).trans (.put (mem_traceRegs k).1)).trans
    (.ite .refl ((Writes.raise (mem_traceRegs k).2).trans (.of_touch (State.cicEvent_touch _ _))))

theorem State.pushPacket_writes (ty payload : Nat) : Writes (traceRegs k) s (s.pushPacket k ty payload) :=
  .ite ((s.setFifo_writes k _).trans (Writes.set_trc _)) (s.dropPacket_writes k)

theorem State.startPackets_writes : Writes (traceRegs k) s (s.startPackets k) :=
  (((s.pushPacket_writes k ..).trans (State.pushPacket_writes _ k ..)).trans (Writes.set_trc _)).trans
    (.of_touch (State.stamped_touch ..))

theorem State.trcReset_writes (kind : Nat) : Writes (traceRegs k) s (s.trcReset k kind) :=
  ((Writes.of_touch (s.setTrcAddr_touch ..)).trans (.of_touch (State.used_touch _))).trans
    ((Writes.raise (mem_traceRegs k).1).trans
      (.ite ((State.pushPacket_writes _ k ..).trans (State.startPackets_writes _ k)) .refl))

end TraceWrites

/-- The registers of a gallery that comes On. -/
def wardenRegs (g : Nat) : List Nat := R.PWR_GAL_STATE (g / 16) :: traceRegs (4 + g)

theorem State.wardenUp_writes (s : State) (g : Nat) : Writes (wardenRegs g) s (s.wardenUp g) :=
  (Writes.put List.mem_cons_self).trans ((State.trcReset_writes _ _ 1).mono (List.subset_cons_self ..))

/-- A gallery that comes On is as ready as it was. -/
theorem State.galReady_wardenUp (h : s.canon) (k : Nat) : (s.wardenUp k).galReady g = s.galReady g := by
  refine (s.wardenUp_writes k).galReady h ?_ ?_ <;>
  · simp only [wardenRegs, traceRegs, R.PWR_GAL_STATE, R.TRC_SRC_STATUS, R.TRC_STATUS, R.DEVICE_READY0,
      R.DEVICE_READY1, List.mem_cons, List.not_mem_nil, or_false]
    omega

end Ready

/-! The start-up march, and the clear or march of a wake (R112, R113). -/

section Wakes

variable {s : State} {m : March} {g : Gal}

/-- The start-up march of gallery `g`: every array. -/
def startupMarch (g : Nat) : March := { gal := g, keep := false, arrays := 15, wake := false, start := true }

theorem exec_startupMarchEnd_passes (g : Gal) (s : State) : exec (.startupMarchEnd g []) s =
    .next ((s.marchPassed (startupMarch g.val)).setGalReady g.val true) := by
  rw [show exec (.startupMarchEnd g []) s = execStartupMarchEnd g [] s from rfl, execStartupMarchEnd]
  exact congrArg (fun r : Bool × State => Host.Outcome.next (r.2.setGalReady g.val r.1))
    (s.finishMarch_nil (startupMarch g.val))

theorem exec_wakeClearEnd_none (h : s.mem.marches = []) (found : List MarchFault) :
    exec (.wakeClearEnd g found) s = .next s := by
  rw [show exec (.wakeClearEnd g found) s = execWakeClearEnd g found s from rfl, execWakeClearEnd, h]
  rfl

theorem State.commitIfReady_none (h : s.img.commitDue = false) : s.commitIfReady = s := by
  rw [State.commitIfReady, h]
  rfl

/-- No commit waits: a wake ends with its gallery alone. -/
theorem exec_wakeClearEnd_ends (hm : s.mem.marches = [m]) (hgal : m.gal = g.val) (hwake : m.wake = true)
    (hcommit : s.img.commitDue = false) : exec (.wakeClearEnd g []) s = .next (s.wakeEnd m []) := by
  have hfind : s.mem.marches.find? (fun m => m.gal == g.val && m.wake) = some m := by simp [hm, hgal, hwake]
  have himg : (s.wakeEnd m []).img = s.img := (s.wakeEnd_touch m []).2.1 .img rfl
  rw [show exec (.wakeClearEnd g []) s = execWakeClearEnd g [] s from rfl, execWakeClearEnd, hfind]
  exact congrArg _ (State.commitIfReady_none (by rw [himg]; exact hcommit))

/-- Is it a register outside the function tables of gallery `g`? -/
def outsideTables (g o : Nat) : Bool := !(Nat.ble (R.GAL_FTABLE g 0 0) o && Nat.blt o (R.GAL_FTABLE g 16 0))

/-- The banks and net stores of a gallery that wakes without a march are zero, and so are its function tables (R113). -/
def State.wakeCleared (s : State) (g : Nat) : State :=
  let t := s.zeroArrays g 0b0011
  { t with regs := NMap.keep t.regs (outsideTables g) }

theorem State.wakeEnd_march (harrays : m.arrays = 15) :
    s.wakeEnd m [] = ((s.marchPassed m).setGalReady m.gal true).wardenUp m.gal := by
  rw [State.wakeEnd, if_pos harrays, State.finishMarch_nil]

theorem State.wakeEnd_clear (harrays : m.arrays ≠ 15) :
    s.wakeEnd m [] = (((s.wakeCleared m.gal).marchOver m.gal).setGalReady m.gal true).wardenUp m.gal := if_neg harrays

theorem State.wakeCleared_canon (h : s.canon) (g : Nat) : (s.wakeCleared g).canon :=
  have hzero := (s.zeroArrays_touch g 0b0011).2.2 h
  ⟨NMap.wf_keep regReset (s.zeroArrays g 0b0011).regs (outsideTables g) hzero.1, hzero.2⟩

/-- Every word of gallery `g` is 0 and the others are as they were. -/
def BanksZeroed (g : Nat) (s t : State) : Prop :=
  ∀ (c : Cham) (w : Fin 8192), t.dmWord c.val w.val = if c.val / 16 = g then 0 else s.dmWord c.val w.val

/-- What a wake leaves: no march, a ready gallery, and its banks zero. -/
structure Woken (g : Nat) (s t : State) : Prop where
  marches : t.mem.marches = []
  ready : t.galReady g = true
  words : BanksZeroed g s t

/-- A gallery whose banks are zero becomes ready and comes On. -/
theorem Woken.of_zeroed {g : Nat} {t : State} (hg : g < 64) (ht : t.canon) (hm : t.mem.marches = [])
    (hwords : BanksZeroed g s t) :
    Woken g s ((t.setGalReady g true).wardenUp g) := by
  have hready := (t.setGalReady_touch g true).2.2 ht
  have hmem : ((t.setGalReady g true).wardenUp g).mem = t.mem :=
    ((State.wardenUp_touch ..).2.1 .mem rfl).trans ((t.setGalReady_touch ..).2.1 .mem rfl)
  refine ⟨by rw [hmem, hm], ?_, fun c w => ?_⟩
  · rw [State.galReady_wardenUp hready, State.setGalReady_ready ht.1 hg]
  · rw [State.dmWord, hmem]
    exact hwords c w

theorem State.wakeEnd_woken (h : s.canon) (hm : s.mem.marches = [m]) (hg : m.gal < 64) (hkeep : m.keep = false) :
    Woken m.gal s (s.wakeEnd m []) := by
  by_cases hfull : m.arrays = 15
  · rw [State.wakeEnd_march hfull]
    exact .of_zeroed hg (State.marchPassed_canon h m) (State.marchPassed_marches hm)
      (State.dmWord_marchPassed_zeroed h hkeep (by rw [hfull]; rfl))
  · rw [State.wakeEnd_clear hfull]
    refine .of_zeroed hg (State.wakeCleared_canon h m.gal) (State.marchOver_only ?_)
      (State.dmWord_zeroArrays h (by decide : (0b0011 : Nat).testBit 0 = true))
    show (s.zeroArrays m.gal 0b0011).mem.marches = [m]
    rw [State.zeroArrays_mem]
    exact hm

end Wakes

/-- Settles O32: a start by what GAL_MARCH_CTL says, an end by what a march that finds nothing leaves. Where a row does
nothing, it does so by log 10. -/
theorem marchesTestAndZero : Obligations.MarchesTestAndZero := by
  unfold Obligations.MarchesTestAndZero
  intro g s hs
  refine ⟨fun w hon => ⟨exec_marchStart_stores hon, fun hstart => ⟨exec_marchStart_refused hs hon hstart,
      exec_marchStart_begins hs hon hstart⟩⟩,
    fun found hm => ⟨exec_marchEnd_none hm found, exec_wakeClearEnd_none hm found⟩,
    fun m hm hgal hwake hstart hwaits hresume => ?ends,
    fun m c hm hgal hkeep hwake hstart hwaits hrun => ?runs, ?startup,
    fun m hm hgal hwake hkeep _ hcommit => ?wakes⟩
  case ends =>
    have hsched := s.marchPassed_sched m
    have hmarched := State.marched_canon hs m
    have hctl := State.passNoted_ctl (g := m.gal) hmarched
    refine ⟨s.marchPassed m, ?_, State.marchPassed_marches hm, ?_, ?_, ?_, fun hkeep => ?_,
      fun hkeep hbanks c w hc => ?_, fun c w hc => ?_⟩
    · rw [exec_marchEnd_passes hm hgal hwake hstart,
        State.afterMarch_idle (by rw [hsched]; exact hwaits) (by rw [hsched]; exact hresume)]
    · rw [← hgal]
      exact State.passNoted_fail hmarched
    · rw [← hgal]
      exact hctl.1
    · rw [← hgal]
      exact hctl.2
    · rw [State.marchPassed, State.marched_keeping hkeep]
      exact ⟨rfl, rfl⟩
    · rw [State.dmWord_marchPassed_zeroed hs hkeep hbanks, if_pos (hc.trans hgal.symm)]
    · rw [State.dmWord_marchPassed, State.dmWord_marched_other hs m c w (hgal ▸ hc)]
  case runs =>
    have hsched := s.marchPassed_sched m
    have hruns : RunsWithout c (s.marchPassed m).afterMarch :=
      State.afterMarch_runs (State.marchPassed_marches hm) (by rw [hsched]; exact hwaits)
        (State.marchPassed_isRunning hs hkeep ▸ hrun)
    exact ⟨_, exec_marchEnd_passes hm hgal hwake hstart, hruns.running, hruns.runWaits, hruns.isOut⟩
  case startup =>
    refine ⟨_, exec_startupMarchEnd_passes g s,
      State.setGalReady_ready (State.marchPassed_canon hs _).1 g.isLt true, fun c w => ?_⟩
    have hmem : ((s.marchPassed (startupMarch g.val)).setGalReady g.val true).mem =
        (s.marchPassed (startupMarch g.val)).mem := (State.setGalReady_touch ..).2.1 .mem rfl
    rw [State.dmWord, hmem]
    exact State.dmWord_marchPassed_zeroed hs rfl (by decide : (15 : Nat).testBit 0 = true) c w
  case wakes =>
    have hwoken := State.wakeEnd_woken hs hm (by rw [hgal]; exact g.isLt) hkeep
    rw [hgal] at hwoken
    exact ⟨_, exec_wakeClearEnd_ends hm hgal hwake hcommit, hwoken.marches, hwoken.ready, hwoken.words⟩

end Sys2Proof.Machine

/-! The memory commands (04, R101, R119; 09, R260, R261, R415). -/

namespace Sys2Proof

/-! What the host's buffer gives (R260). -/

/-- Does the host fault within the buffer? -/
def HostBuf.faults (b : HostBuf) : Bool := b.fault.any (fun f => Nat.blt f b.len)

/-- The bytes that the host gives: up to the one at which it faults. -/
def HostBuf.given (b : HostBuf) : List Byte := b.bytes.take (if b.faults then b.fault.getD 0 else b.len)

section HostBuffer

variable {b : HostBuf} {f : Nat}

theorem HostBuf.whole (h : b.fault = none) : b.faults = false ∧ b.given = b.bytes.take b.len := by
  have hfaults : b.faults = false := by rw [HostBuf.faults, h]; rfl
  exact ⟨hfaults, by rw [HostBuf.given, hfaults]; rfl⟩

theorem HostBuf.cut (h : b.fault = some f) (hf : f < b.len) : b.faults = true ∧ b.given = b.bytes.take f := by
  have hfaults : b.faults = true := by simp [HostBuf.faults, h, hf]
  exact ⟨hfaults, by rw [HostBuf.given, hfaults, h]; rfl⟩

end HostBuffer

end Sys2Proof

namespace Sys2Proof.Machine

section MemoryCommands

variable {s : State} {h : Hdr} {space : BitVec 8} {addr : Dword} {buf : HostBuf} {c : CmdId} {a n x f : Nat}

/-- What MEM_READ and MEM_WRITE share: a space or a length that is not allowed, a range outside its space (R261,
R415). -/
def State.memAccess (s : State) (c : CmdId) (space : BitVec 8) (a n : Nat) (dm ds : State) : State :=
  if 1 < space.toNat ∨ memLen n = false then s.complete c 2
  else if space = 0 then (if dmRange a n = false then s.complete c 2 else dm)
  else if 2 ^ 35 < a + n then s.complete c 2 else ds

theorem State.memAccess_refused {dm ds : State} (hbad : 1 < space.toNat ∨ memLen n = false) :
    s.memAccess c space a n dm ds = s.complete c 2 := if_pos hbad

section Allowed

variable {dm ds : State} (hlen : memLen n = true)
include hlen

theorem State.memAccess_dmOutside (hspace : space = 0) (hout : dmRange a n = false) :
    s.memAccess c space a n dm ds = s.complete c 2 := by
  rw [State.memAccess, if_neg (by simp [hspace, hlen]), if_pos hspace, if_pos hout]

theorem State.memAccess_dm (hspace : space = 0) (hin : dmRange a n = true) : s.memAccess c space a n dm ds = dm := by
  rw [State.memAccess, if_neg (by simp [hspace, hlen]), if_pos hspace, if_neg (by simp [hin])]

theorem State.memAccess_dsOutside (hspace : space = 1) (hout : 2 ^ 35 < a + n) :
    s.memAccess c space a n dm ds = s.complete c 2 := by
  rw [State.memAccess, if_neg (by simp [hspace, hlen]), if_neg (by simp [hspace]), if_pos hout]

theorem State.memAccess_ds (hspace : space = 1) (hin : a + n ≤ 2 ^ 35) : s.memAccess c space a n dm ds = ds := by
  rw [State.memAccess, if_neg (by simp [hspace, hlen]), if_neg (by simp [hspace]), if_neg hin.not_gt]

end Allowed

/-! MEM_READ. -/

/-- Who waits for a read of Design Memory: the command, with the bytes that the host takes. -/
def bankReader (c : CmdId) (a : Nat) (buf : HostBuf) : Requester :=
  match buf.fault with
  | some f => if f < buf.len then .cmd c 3 (a % 8) f else .cmd c 0 (a % 8) buf.len
  | none => .cmd c 0 (a % 8) buf.len

/-- A read of a Design Memory range asks its gallery's banks for its words. -/
def State.readBanks (s : State) (c : CmdId) (a : Nat) (buf : HostBuf) : State :=
  s.bankRequest (cmdReq a (List.replicate ((a % 8 + buf.len + 7) / 8) .read) (bankReader c a buf))

/-- What has been read of the Deep Store goes to the host's buffer, up to the byte at which the host faults. -/
def State.handOver (s : State) (c : CmdId) (bs : List Byte) (buf : HostBuf) : State :=
  match buf.fault with
  | some f => if f < buf.len then (s.toHost c (bs.take f)).complete c 0x33
              else (s.toHost c bs).complete c 0 (BitVec.ofNat 64 buf.len)
  | none => (s.toHost c bs).complete c 0 (BitVec.ofNat 64 buf.len)

/-- A read of a Deep Store range that the grants allow. -/
def State.readGranted (s : State) (c : CmdId) (a : Nat) (buf : HostBuf) : State :=
  if (s.dsReadBytes a buf.len).2.1 then (s.dsReadBytes a buf.len).2.2.complete c 0x22
  else (s.dsReadBytes a buf.len).2.2.handOver c (s.dsReadBytes a buf.len).1 buf

/-- What a Deep Store range comes to, by the first address without a grant. -/
def State.byGrant (s : State) (c : CmdId) (denied : Option Nat) (granted : State) : State :=
  match denied with
  | some x => (s.denyDs x).complete c 0x23
  | none => granted

theorem State.byGrant_some {denied : Option Nat} {granted : State} (hx : denied = some x) :
    s.byGrant c denied granted = (s.denyDs x).complete c 0x23 := by rw [hx]; rfl

theorem State.byGrant_none {denied : Option Nat} {granted : State} (hok : denied = none) :
    s.byGrant c denied granted = granted := by rw [hok]; rfl

/-- MEM_READ, once it has started. -/
def State.readMemory (s : State) (c : CmdId) (space : BitVec 8) (a : Nat) (buf : HostBuf) : State :=
  s.memAccess c space a buf.len (s.readBanks c a buf)
    (s.byGrant c (deniedAt s.hostMayRead a buf.len) (s.readGranted c a buf))

theorem exec_memRead_served (hs : s.serves (.memRead h space addr buf) = true) : exec (.memRead h space addr buf) s =
    .next ((s.begunBy (.memRead h space addr buf)).readMemory (cmdOf h) space addr.toNat buf) := by
  rw [show exec (.memRead h space addr buf) s = execMemRead h space addr buf s from rfl, execMemRead]
  refine (State.command_of_form (F := { hdr := h, needs := memNeeds space.toNat addr.toNat buf.len, buf := buf }) _ rfl
    hs).trans (congrArg Host.Outcome.next ?_)
  generalize s.begunBy (.memRead h space addr buf) = u
  unfold State.readMemory State.memAccess
  generalize deniedAt u.hostMayRead addr.toNat buf.len = denied
  cases denied <;> rfl

theorem State.readBanks_whole (hfault : buf.fault = none) : s.readBanks c a buf =
    s.bankRequest (cmdReq a (List.replicate ((a % 8 + buf.len + 7) / 8) .read) (.cmd c 0 (a % 8) buf.len)) := by
  rw [State.readBanks, bankReader, hfault]

theorem State.readGranted_ue (hue : (s.dsReadBytes a buf.len).2.1 = true) :
    s.readGranted c a buf = (s.dsReadBytes a buf.len).2.2.complete c 0x22 := if_pos hue

theorem State.readGranted_good (hgood : (s.dsReadBytes a buf.len).2.1 = false) :
    s.readGranted c a buf = (s.dsReadBytes a buf.len).2.2.handOver c (s.dsReadBytes a buf.len).1 buf :=
  if_neg (ne_true_of_eq_false hgood)

theorem State.handOver_whole {bs : List Byte} (hfault : buf.fault = none) :
    s.handOver c bs buf = (s.toHost c bs).complete c 0 (BitVec.ofNat 64 buf.len) := by
  rw [State.handOver, hfault]

theorem State.handOver_cut {bs : List Byte} (hfault : buf.fault = some f) (hf : f < buf.len) :
    s.handOver c bs buf = (s.toHost c (bs.take f)).complete c 0x33 := by
  rw [State.handOver, hfault]
  exact if_pos hf

/-! MEM_WRITE. -/

/-- A write of a Design Memory range asks its gallery's banks to store the bytes that the host gives. -/
def State.writeBanks (s : State) (c : CmdId) (a : Nat) (buf : HostBuf) : State :=
  if buf.given = [] then s.complete c 0x33
  else s.bankRequest (cmdReq a (spanWrites (a % 8) buf.given) (.cmd c (if buf.faults then 4 else 1) 0 buf.len))

/-- A write of a Deep Store range that the grants allow. -/
def State.writeGranted (s : State) (c : CmdId) (a : Nat) (buf : HostBuf) : State :=
  if buf.faults then (s.dsWriteBytes a buf.given).complete c 0x33
  else if s.partUe a buf.given.length then (s.dsWriteBytes a buf.given).complete c 0x22
  else (s.dsWriteBytes a buf.given).complete c 0 (BitVec.ofNat 64 buf.len)

/-- MEM_WRITE, once it has started. -/
def State.writeMemory (s : State) (c : CmdId) (space : BitVec 8) (a : Nat) (buf : HostBuf) : State :=
  s.memAccess c space a buf.len (s.writeBanks c a buf)
    (s.byGrant c (deniedAt s.hostMayWrite a buf.len) (s.writeGranted c a buf))

theorem exec_memWrite_served (hs : s.serves (.memWrite h space addr buf) = true) : exec (.memWrite h space addr buf) s =
    .next ((s.begunBy (.memWrite h space addr buf)).writeMemory (cmdOf h) space addr.toNat buf) := by
  rw [show exec (.memWrite h space addr buf) s = execMemWrite h space addr buf s from rfl, execMemWrite]
  refine (State.command_of_form (F := { hdr := h, needs := memNeeds space.toNat addr.toNat buf.len, buf := buf }) _ rfl
    hs).trans (congrArg Host.Outcome.next ?_)
  generalize s.begunBy (.memWrite h space addr buf) = u
  unfold State.writeMemory State.memAccess
  generalize deniedAt u.hostMayWrite addr.toNat buf.len = denied
  cases denied <;> rfl

theorem State.writeBanks_whole (hfault : buf.fault = none) (hsome : buf.bytes.take buf.len ≠ []) :
    s.writeBanks c a buf =
      s.bankRequest (cmdReq a (spanWrites (a % 8) (buf.bytes.take buf.len)) (.cmd c 1 0 buf.len)) := by
  obtain ⟨hfaults, hgiven⟩ := HostBuf.whole hfault
  rw [State.writeBanks, hgiven, if_neg hsome, hfaults]
  rfl

theorem State.writeBanks_cut (hfault : buf.fault = some f) (hf : f < buf.len) (hsome : buf.bytes.take f ≠ []) :
    s.writeBanks c a buf =
      s.bankRequest (cmdReq a (spanWrites (a % 8) (buf.bytes.take f)) (.cmd c 4 0 buf.len)) := by
  obtain ⟨hfaults, hgiven⟩ := HostBuf.cut hfault hf
  rw [State.writeBanks, hgiven, if_neg hsome, hfaults]
  rfl

theorem State.writeGranted_whole (hfault : buf.fault = none) : s.writeGranted c a buf =
    if s.partUe a (buf.bytes.take buf.len).length then (s.dsWriteBytes a (buf.bytes.take buf.len)).complete c 0x22
    else (s.dsWriteBytes a (buf.bytes.take buf.len)).complete c 0 (BitVec.ofNat 64 buf.len) := by
  obtain ⟨hfaults, hgiven⟩ := HostBuf.whole hfault
  rw [State.writeGranted, hgiven, if_neg (ne_true_of_eq_false hfaults)]

theorem State.writeGranted_cut (hfault : buf.fault = some f) (hf : f < buf.len) :
    s.writeGranted c a buf = (s.dsWriteBytes a (buf.bytes.take f)).complete c 0x33 := by
  obtain ⟨hfaults, hgiven⟩ := HostBuf.cut hfault hf
  rw [State.writeGranted, hgiven, if_pos hfaults]

/-! MEM_ATOMIC. -/

theorem exec_memAtomic_served {op : BitVec 8} {d : Dword} (hs : s.serves (.memAtomic h space addr op d) = true) :
    exec (.memAtomic h space addr op d) s = .next (
      let u := s.begunBy (.memAtomic h space addr op d)
      if space ≠ 0 ∨ 1 < op.toNat ∨ dmRange addr.toNat 8 = false ∨ addr.toNat % 8 ≠ 0 then
        u.complete (cmdOf h) 2
      else u.bankRequest (cmdReq addr.toNat [.atomic (op == 1) d] (.cmd (cmdOf h) 2 0 8))) := by
  rw [show exec (.memAtomic h space addr op d) s = execMemAtomic h space addr op d s from rfl, execMemAtomic]
  exact State.command_of_form
    (F := { hdr := h, needs := memNeeds space.toNat addr.toNat 8, cls := .prompt }) _ rfl hs

end MemoryCommands

end Sys2Proof.Machine

/-! Queues, their fetches, progress entries and deadlines, core faults, remote commands and readiness (09, R247 to R253,
R256, R258, R259, R269). -/

namespace Sys2Proof.Machine

section Queues

variable {s : State} {q : Fin 16} {v : BitVec 10}

/-! Doorbells (R249, R250). -/

theorem exec_mbxSqTailWrite_moves (hon : s.qOn q.val = true) (hv : v.toNat < s.qSize q.val) :
    exec (.mbxSqTailWrite q v) s =
      .next ((s.put (R.MBX_SQ_TAIL q.val) F.MBX_SQ_TAIL_TAIL v.toNat).cicEvent (1 + q.val)) :=
  if_neg (by simp [hon, hv])

theorem exec_mbxSqTailWrite_dropped (hbad : s.qOn q.val = false ∨ s.qSize q.val ≤ v.toNat) :
    exec (.mbxSqTailWrite q v) s = .next (s.dbErr q.val) := if_pos hbad

theorem exec_mbxCqHeadWrite_dropped (hbad : s.qOn q.val = false ∨ s.qSize q.val ≤ v.toNat) :
    exec (.mbxCqHeadWrite q v) s = .next (s.dbErr q.val) := if_pos hbad

/-- The entries that a CQ head releases. -/
def State.cqFreed (s : State) (q v : Nat) : Nat :=
  (v + s.qSize q - s.fld (R.MBX_CQ_HEAD q) F.MBX_CQ_HEAD_HEAD % s.qSize q) % s.qSize q

theorem exec_mbxCqHeadWrite_frees (hon : s.qOn q.val = true) (hv : v.toNat < s.qSize q.val)
    (hfree : s.cqFreed q.val v.toNat ≤ s.cqUsed q.val) : exec (.mbxCqHeadWrite q v) s =
      let u := s.put (R.MBX_CQ_HEAD q.val) F.MBX_CQ_HEAD_HEAD v.toNat
      .next { u with mbx := { u.mbx with
        cqUsed := NMap.set dZero s.mbx.cqUsed q.val (s.cqUsed q.val - s.cqFreed q.val v.toNat) } } := by
  rw [show exec (.mbxCqHeadWrite q v) s = execMbxCqHeadWrite q v s from rfl, execMbxCqHeadWrite]
  dsimp only
  rw [if_neg (by simp [hon, hv])]
  exact if_neg (Nat.not_lt.2 hfree)

/-! Fetching (R249). -/

theorem exec_commandFetch_takes (hfetch : s.canFetch q.val = true) (e : List Byte) :
    exec (.commandFetch q (some e)) s = .next (s.takeEntry q.val e) := by
  rw [show exec (.commandFetch q (some e)) s = execCommandFetch q (some e) s from rfl, execCommandFetch,
    if_neg (by simp [hfetch])]

theorem exec_commandFetch_none (hno : s.canFetch q.val = false) (e : Option (List Byte)) :
    exec (.commandFetch q e) s = .next s := if_pos hno

/-! Progress entries and deadlines (R258). -/

variable {h : Hdr} {done total : Dword} {x : Started}

/-- Is command `c`, as started, a Long one that is due for a progress entry? -/
def State.progressDue (s : State) (c : CmdId) (x : Started) : Bool :=
  x.cmd == c && x.cls == .long && Nat.ble x.next s.sched.now

theorem State.progressDue_iff {c : CmdId} :
    s.progressDue c x = true ↔ x.cmd = c ∧ x.cls = .long ∧ x.next ≤ s.sched.now := by
  simp [State.progressDue, and_assoc]

theorem exec_progressEntry_eq : exec (.progressEntry h done total) s =
    if s.isOut (cmdOf h) = false ∨ (cmdOf h).origin.isSome ∨ s.mbx.started.any (s.progressDue (cmdOf h)) = false ∨
        s.qSize h.queue.val ≤ s.outstanding h.queue.val + s.cqUsed h.queue.val then .next s
    else .next ({ s with mbx := { s.mbx with started := s.mbx.started.map (fun x =>
      if s.progressDue (cmdOf h) x then { x with next := x.next + 150000000 } else x) } }.writeCq (cmdOf h) 0 0 true
        done total) := rfl

theorem exec_progressEntry_posts (hout : s.isOut (cmdOf h) = true) (hlocal : h.origin = none)
    (hstarted : s.mbx.started = [x]) (hdue : s.progressDue (cmdOf h) x = true)
    (hroom : s.outstanding h.queue.val + s.cqUsed h.queue.val < s.qSize h.queue.val) :
    exec (.progressEntry h done total) s =
      .next ({ s with mbx := { s.mbx with started := [{ x with next := x.next + 150000000 }] } }.writeCq
        (cmdOf h) 0 0 true done total) := by
  have horigin : (cmdOf h).origin = none := by rw [cmdOf, hlocal]; rfl
  rw [exec_progressEntry_eq, if_neg (by simp [hout, horigin, hstarted, hdue, hroom]), hstarted, List.map_singleton,
    if_pos hdue]

theorem exec_progressEntry_none (hnone : ∀ x ∈ s.mbx.started, s.progressDue (cmdOf h) x = false) :
    exec (.progressEntry h done total) s = .next s := by
  rw [exec_progressEntry_eq]
  exact if_pos (.inr (.inr (.inl (List.any_eq_false.2 fun x hx => ne_true_of_eq_false (hnone x hx)))))

theorem exec_cmdDeadline_missed (hx : x ∈ s.mbx.started) (hq : x.cmd.queue = q.val) (hmissed : s.missed x = true) :
    exec (.cmdDeadline q) s = .next (s.detect 0x0C 1 q.val) :=
  if_pos (List.any_eq_true.2 ⟨x, hx, by simp [hq, hmissed]⟩)

theorem exec_cmdDeadline_none (hnone : ∀ x ∈ s.mbx.started, s.missed x = false) :
    exec (.cmdDeadline q) s = .next s :=
  if_neg fun h => by
    obtain ⟨x, hx, hmissed⟩ := List.any_eq_true.1 h
    simp [hnone x hx] at hmissed

theorem State.missed_of_late (hwaits : s.waitsBoundary x.cmd = false)
    (hlate : x.cls = .prompt ∧ x.since + 375000 ≤ s.sched.now ∨
      x.cls = .normal ∧ x.since + 15000000 ≤ s.sched.now) :
    s.missed x = true := by
  rcases hlate with ⟨hcls, hlate⟩ | ⟨hcls, hlate⟩ <;> simp [State.missed, hwaits, hcls, hlate]

/-- Nothing misses a deadline that is Long or has run for less than a Prompt command's time. -/
theorem State.missed_eq_false (h : x.cls = .long ∨ s.sched.now < x.since + 375000) : s.missed x = false := by
  rw [Bool.eq_false_iff]
  intro hmissed
  rw [State.missed, Bool.and_eq_true] at hmissed
  obtain ⟨-, hlate⟩ := hmissed
  cases hcls : x.cls with
  | long => simp [hcls] at hlate
  | prompt =>
    have hnow : s.sched.now < x.since + 375000 := h.resolve_left (by simp [hcls])
    simp only [hcls, Nat.ble_eq] at hlate
    omega
  | normal =>
    have hnow : s.sched.now < x.since + 375000 := h.resolve_left (by simp [hcls])
    simp only [hcls, Nat.ble_eq] at hlate
    omega

end Queues

/-! A core fault with nothing outstanding (R252). -/

section CoreFault

variable {s : State} {k : Fin 4}

theorem exec_coreFault_unready (h : s.readyBit (112 + k.val) = false) : exec (.coreFault k) s = .next s := if_pos h

/-- The core leaves the ready state and its trace source goes. -/
def State.coreLost (s : State) (k : Nat) : State :=
  (((s.setReady (coreBit + k) false).detect 0x0C 2 k).cicCoreDown k).trcOff k

/-- Without a ready core the device halts. -/
def State.coresJudged (s : State) (k : Nat) : State := if s.lowestCore.isNone then s.detect 0x0C 4 k else s

theorem State.coreLost_touch (s : State) (k : Nat) : Touch 1196051 s (s.coreLost k) :=
  ((((Touch.refl _ s).then (s.setReady_touch ..) rfl).then (State.detect_touch ..) rfl).then
    (State.cicCoreDown_touch ..) rfl).then (State.trcOff_touch ..) rfl

theorem State.coresJudged_touch (s : State) (k : Nat) : Touch 131091 s (s.coresJudged k) :=
  .ite (s.detect_touch ..) (.refl ..)

/-- No command completes: the queues of the core move and its functions go. -/
theorem exec_coreFault_idle (hready : s.readyBit (112 + k.val) = true) (hnone : s.mbx.outstanding = []) :
    ∃ p, exec (.coreFault k) s = .next ((((s.dropWaits p).forget p).coreLost k.val).showCores.coresJudged k.val) := by
  refine ⟨fun c => ([] : List CmdId).contains c, ?_⟩
  rw [show exec (.coreFault k) s = execCoreFault k s from rfl, execCoreFault, if_neg (by simp [coreBit, hready]), hnone]
  rfl

theorem exec_coreFault_keeps (hready : s.readyBit (112 + k.val) = true) (hnone : s.mbx.outstanding = []) : ∃ t,
    exec (.coreFault k) s = .next t ∧ t.mem = s.mem ∧ t.mbx.cq = s.mbx.cq ∧ t.pending = s.pending := by
  obtain ⟨p, hexec⟩ := exec_coreFault_idle hready hnone
  have hwaits := s.dropWaits_touch p
  have hforget := (s.dropWaits p).forget_touch p
  have hlost : Touch 1196051 ((s.dropWaits p).forget p)
      ((((s.dropWaits p).forget p).coreLost k.val).showCores.coresJudged k.val) :=
    ((State.coreLost_touch ..).then (State.showCores_touch _) rfl).then (State.coresJudged_touch ..) rfl
  refine ⟨_, hexec, ?_, ?_, ?_⟩
  · exact (hlost.2.1 .mem rfl).trans ((hforget.2.1 .mem rfl).trans (hwaits.2.1 .mem rfl))
  · have hmbx := hlost.2.1 .mbx rfl
    exact (congrArg Mailbox.cq hmbx).trans rfl
  · exact hlost.1.trans (hforget.1.trans hwaits.1)

end CoreFault

/-! Remote commands (R154, R259). -/

section Remote

variable {s : State} {h : Hdr} {e bytes back : List Byte} {fault : Option Nat}

/-- The identity of a command for another device. -/
def remoteCmd (h : Hdr) : CmdId := { cmdOf h with remote := true }

/-- May the remote command of `h` start, its entry not fetched as another? -/
structure RemoteStarts (s : State) (h : Hdr) : Prop where
  barred : s.barred (remoteCmd h) = false
  forwarded : s.mbx.forwarded.any (fun f => f.1 == remoteCmd h) = false
  fetched : s.fetchedEntry (remoteCmd h) = none

/-- Can the lattice take the remote command of entry `e`? -/
structure RemoteRoutes (u : State) (h : Hdr) (e : List Byte) : Prop where
  core : u.lowestCore.isSome = true
  good : remoteBad e = false
  mapped : u.bit R.LTC_ID F.LTC_ID_MAPPED = true
  route : (u.routePort (entryDev e)).isSome = true
  origin : h.origin = none

/-- Does the host fault in the data of a remote MEM_WRITE? -/
def remoteFaults (e : List Byte) (fault : Option Nat) : Bool :=
  entryOp e == 0x41 && fault.any (fun a => Nat.blt a (entryLen e))

/-- The host data that goes with a remote command. -/
def remoteData (e bytes : List Byte) (fault : Option Nat) : List Byte :=
  if entryOp e = 0x41 then bytes.take (if remoteFaults e fault then fault.getD 0 else entryLen e) else []

theorem exec_remoteCommand_routes (hstarts : RemoteStarts s h)
    (hroutes : RemoteRoutes (s.begin (remoteCmd h) (entryClass e)) h e) :
    exec (.remoteCommand h e bytes fault none back) s =
      let u := s.begin (remoteCmd h) (entryClass e)
      let t := u.forward e (remoteData e bytes fault)
      if remoteFaults e fault then .next (t.complete (remoteCmd h) 0x33)
      else .next { t with mbx := { t.mbx with forwarded := u.mbx.forwarded ++ [(remoteCmd h, entryDev e)] } } := by
  obtain ⟨hbarred, hforwarded, hfetched⟩ := hstarts
  obtain ⟨hcore, hgood, hmapped, hroute, horigin⟩ := hroutes
  rw [show exec (.remoteCommand h e bytes fault none back) s =
    execRemoteCommand h e bytes fault none back s from rfl, execRemoteCommand]
  rw [remoteCmd] at *
  dsimp only
  rw [hbarred, hforwarded, hfetched, if_neg (by simp), if_neg (by simp [← Option.not_isSome, hcore]),
    if_neg (ne_true_of_eq_false hgood), if_neg (by simp [hmapped, ← Option.not_isSome, hroute, horigin])]
  rfl

theorem State.begin_forwarded (s : State) (c : CmdId) (cls : CmdClass) :
    (s.begin c cls).mbx.forwarded = s.mbx.forwarded := by
  unfold State.begin State.start
  dsimp only
  split <;> rfl

theorem remoteFaults_eq_false (h : fault = none ∨ entryOp e ≠ 0x41) : remoteFaults e fault = false := by
  rcases h with rfl | h <;> simp [remoteFaults, *]

theorem exec_remoteCommand_answered {a : RemoteAnswer}
    (hforwarded : s.mbx.forwarded.any (fun f => f.1 == remoteCmd h) = true) :
    exec (.remoteCommand h e bytes fault (some a) []) s = .next ({ s with mbx := { s.mbx with
      forwarded := s.mbx.forwarded.filter (fun f => f.1 != remoteCmd h) } }.complete (remoteCmd h) a.status.toNat
        a.result0 a.result1 a.reason.toNat) := by
  rw [show exec (.remoteCommand h e bytes fault (some a) []) s =
    execRemoteCommand h e bytes fault (some a) [] s from rfl, execRemoteCommand]
  exact if_neg (by rw [remoteCmd] at hforwarded; simp [hforwarded])

end Remote

/-! GET_READY (R269). -/

section Ready

variable {s : State} {h : Hdr} {mask : BitVec 128} {ms : Word} {w : ReadyWait}

theorem exec_getReady_served (hs : s.serves (.getReady h mask ms) = true) : exec (.getReady h mask ms) s = .next (
    let u := s.begunBy (.getReady h mask ms)
    if u.allReady mask then u.readyDone (cmdOf h) 0
    else { u with mbx := { u.mbx with
      waits := u.mbx.waits ++ [⟨cmdOf h, mask, u.sched.now + (if ms = 0 then 1 else ms.toNat) * 1500000⟩] } }) := by
  rw [show exec (.getReady h mask ms) s = execGetReady h mask ms s from rfl, execGetReady]
  exact State.command_of_form (F := { hdr := h, cls := .prompt, always := true }) _ rfl hs

theorem exec_getReadyComplete_some (hw : s.mbx.waits.find? (fun w => s.allReady w.mask) = some w) :
    exec .getReadyComplete s = .next (s.endWaitFor w 0) := by
  rw [show exec .getReadyComplete s = execGetReadyComplete s from rfl, execGetReadyComplete, hw]

theorem exec_getReadyTimeout_some (hw : s.mbx.waits.find? (fun w => Nat.ble w.timeout s.sched.now) = some w) :
    exec .getReadyTimeout s = .next (s.endWaitFor w 0x2C) := by
  rw [show exec .getReadyTimeout s = execGetReadyTimeout s from rfl, execGetReadyTimeout, hw]

end Ready

/-- Settles O26: the memory commands by their range, their grants and what the host gives; the rows of the queues by
what lets each act. A remote command's data up to the host's fault is log 55; where a row does nothing, it does so by
log 10. -/
theorem memoryCommandsAndQueues : Obligations.MemoryCommandsAndQueues := by
  unfold Obligations.MemoryCommandsAndQueues
  refine ⟨fun h space addr buf s => ⟨fun hs => ?read, fun hs => ?write, fun op d hs => ?atomic⟩,
    fun s => ⟨fun q v => exec_mbxSqTailWrite_moves, fun q v hbad =>
      ⟨exec_mbxSqTailWrite_dropped hbad, exec_mbxCqHeadWrite_dropped hbad⟩, fun q v => exec_mbxCqHeadWrite_frees,
    fun q size vector => ⟨rfl, rfl⟩,
    fun q e => ⟨fun hfetch => exec_commandFetch_takes hfetch e, fun hno => exec_commandFetch_none hno _⟩,
    fun h done total x hout hlocal hstarted hx hlong hnext hroom =>
      exec_progressEntry_posts hout hlocal hstarted (State.progressDue_iff.2 ⟨hx, hlong, hnext⟩) hroom,
    fun h done total hnone => exec_progressEntry_none fun x hx => ?progress,
    fun q x hx hq hwaits hlate => exec_cmdDeadline_missed hx hq (State.missed_of_late hwaits hlate),
    fun q hnone => exec_cmdDeadline_none fun x hx => State.missed_eq_false (hnone x hx),
    fun k => exec_coreFault_unready, fun k => exec_coreFault_keeps,
    fun h e bytes back fault => ?remote, fun h e bytes fault a => exec_remoteCommand_answered,
    fun h mask ms hs => ?ready, fun w => exec_getReadyComplete_some, fun w => exec_getReadyTimeout_some⟩⟩
  case read =>
    rw [exec_memRead_served hs]
    generalize s.begunBy (.memRead h space addr buf) = u
    rw [State.readMemory]
    refine ⟨fun hbad => ?_, fun hspace hlen hout => ?_, fun hspace hlen hin hfault => ?_, fun hspace hlen hout => ?_,
      fun hspace hlen hin => ⟨fun x hx => ?_, fun hok => ⟨fun hue => ?_, fun hgood hfault => ?_,
        fun f hgood hfault hf => ?_⟩⟩⟩
    · rw [State.memAccess_refused hbad]
    · rw [State.memAccess_dmOutside hlen hspace hout]
    · rw [State.memAccess_dm hlen hspace hin, State.readBanks_whole hfault]
    · rw [State.memAccess_dsOutside hlen hspace hout]
    · rw [State.memAccess_ds hlen hspace hin, State.byGrant_some hx]
    · rw [State.memAccess_ds hlen hspace hin, State.byGrant_none hok, State.readGranted_ue hue]
    · rw [State.memAccess_ds hlen hspace hin, State.byGrant_none hok, State.readGranted_good hgood,
        State.handOver_whole hfault]
    · rw [State.memAccess_ds hlen hspace hin, State.byGrant_none hok, State.readGranted_good hgood,
        State.handOver_cut hfault hf]
  case write =>
    rw [exec_memWrite_served hs]
    generalize s.begunBy (.memWrite h space addr buf) = u
    rw [State.writeMemory]
    refine ⟨fun hbad => ?_, fun hspace hlen hin hsome hfault => ?_, fun hspace hlen hin f hfault hf hsome => ?_,
      fun hspace hlen hin => ⟨fun x hx => ?_, fun hok hfault => ?_, fun f hok hfault hf => ?_⟩⟩
    · rw [State.memAccess_refused hbad]
    · rw [State.memAccess_dm hlen hspace hin, State.writeBanks_whole hfault hsome]
    · rw [State.memAccess_dm hlen hspace hin, State.writeBanks_cut hfault hf hsome]
    · rw [State.memAccess_ds hlen hspace hin, State.byGrant_some hx]
    · rw [State.memAccess_ds hlen hspace hin, State.byGrant_none hok, State.writeGranted_whole hfault]
    · rw [State.memAccess_ds hlen hspace hin, State.byGrant_none hok, State.writeGranted_cut hfault hf]
  case atomic =>
    rw [exec_memAtomic_served hs]
    refine ⟨fun hspace hop hin halign => ?_, fun hbad => ?_⟩
    · dsimp only
      rw [if_neg (by simp [hspace, hin, halign, Nat.not_lt.2 hop])]
    · dsimp only
      rw [if_pos hbad]
  case progress =>
    rw [Bool.eq_false_iff]
    intro hdue
    obtain ⟨hcmd, hlong, hnext⟩ := State.progressDue_iff.1 hdue
    rcases hnone x hx hcmd with hcls | hnow
    · exact hcls hlong
    · exact absurd hnext (Nat.not_le.2 hnow)
  case remote =>
    intro c u hbarred hforwarded hfetched hcore hgood hmapped hroute horigin
    have hstarts : RemoteStarts s h := ⟨hbarred, hforwarded, hfetched⟩
    have hroutes : RemoteRoutes u h e := ⟨hcore, hgood, hmapped, hroute, horigin⟩
    rw [exec_remoteCommand_routes hstarts hroutes]
    refine ⟨fun hfault => ?_, fun n hfault hop hn => ?_⟩
    · dsimp only
      rw [remoteData, remoteFaults_eq_false hfault, State.begin_forwarded]
      rfl
    · have hfaults : remoteFaults e fault = true := by simp [remoteFaults, hfault, hop, hn]
      dsimp only
      rw [remoteData, hfaults, if_pos hop, hfault]
      rfl
  case ready =>
    rw [exec_getReady_served hs]
    generalize s.begunBy (.getReady h mask ms) = u
    refine ⟨fun hall => ?_, fun hnot => ?_⟩
    · dsimp only
      rw [if_pos hall, State.readyDone]
    · dsimp only
      rw [if_neg (ne_true_of_eq_false hnot)]

end Sys2Proof.Machine

/-! Training of the ports (05, R125, R132 to R135, R153, R156). -/

namespace Sys2Proof.Machine

section Ports

variable {s : State} {p : PortNo}

/-! The state of a port, in a register store of any form (R4). -/

theorem portState_reset (p : PortNo) : F.PSG_STATUS_STATE.of (regReset (R.PSG_STATUS p.val)) = 0 := by decide +revert

/-- A word of PSG_STATUS with a state other than OFF is listed, so it reads as it was stored. -/
theorem State.portState_setReg {w : Word} (hw : F.PSG_STATUS_STATE.of w ≠ 0) :
    (s.setReg (R.PSG_STATUS p.val) w).portState p.val = F.PSG_STATUS_STATE.of w := by
  have hlisted : w ≠ regReset (R.PSG_STATUS p.val) := fun h => hw (h ▸ portState_reset p)
  exact congrArg F.PSG_STATUS_STATE.of (NMap.get_set_of_ne_default s.regs hlisted)

theorem State.portState_setPort {n : Nat} (hn : n % 16 ≠ 0) : (s.setPort p.val n).portState p.val = n % 16 := by
  have hof : F.PSG_STATUS_STATE.of (F.PSG_STATUS_STATE.put (s.reg (R.PSG_STATUS p.val)) n) = n % 16 :=
    Field.of_put _ _ _ (by decide) (by decide)
  exact (State.portState_setReg (hof ▸ hn)).trans hof

/-- The fields of PSG_STATUS below the state leave it. -/
theorem State.portState_put_below {f : Field} (n : Nat) (hs : s.portState p.val ≠ 0) (hf : f.lo ≤ f.hi := by decide)
    (hbelow : f.hi < F.PSG_STATUS_STATE.lo := by decide) :
    (s.put (R.PSG_STATUS p.val) f n).portState p.val = s.portState p.val := by
  have hof : F.PSG_STATUS_STATE.of (f.put (s.reg (R.PSG_STATUS p.val)) n) = s.portState p.val :=
    Field.of_put_above _ _ _ _ hf (hbelow.trans (by decide)) hbelow
  exact (State.portState_setReg (hof ▸ hs)).trans hof

theorem State.portState_put_peer (f : Field) (n : Nat) (hs : s.portState p.val ≠ 0) :
    (s.put (R.PSG_PEER p.val) f n).portState p.val = s.portState p.val := by
  have hlisted : s.reg (R.PSG_STATUS p.val) ≠ regReset (R.PSG_STATUS p.val) :=
    fun h => hs ((congrArg F.PSG_STATUS_STATE.of h).trans (portState_reset p))
  have hbelow : R.PSG_STATUS p.val < R.PSG_PEER p.val := by simp only [R.PSG_STATUS, R.PSG_PEER]; omega
  exact congrArg F.PSG_STATUS_STATE.of (NMap.get_set_of_listed s.regs _ le_rfl hbelow hlisted)

/-- An attempt begins in the first state of training. -/
theorem State.portState_attempt : (s.attempt p.val).portState p.val = 1 := by
  have hone : (s.setPort p.val 1).portState p.val = 1 := State.portState_setPort (by decide)
  have hlanes := (State.portState_put_below (f := F.PSG_STATUS_LANES_OK) 0 (hone.trans_ne Nat.one_ne_zero)).trans hone
  have hwidth := (State.portState_put_below (f := F.PSG_STATUS_WIDTH) 0 (hlanes.trans_ne Nat.one_ne_zero)).trans hlanes
  exact (State.portState_put_peer F.PSG_PEER_VALID 0 (hwidth.trans_ne Nat.one_ne_zero)).trans hwidth

/-! Writes of PSG_CTL (R156). -/

theorem legalWord_psgCtl (p : PortNo) (old new : Word) : legalWord (R.PSG_CTL p.val) old new =
    if 2 ≤ F.PSG_CTL_WIDTH_REQ.of new then F.PSG_CTL_WIDTH_REQ.put new (F.PSG_CTL_WIDTH_REQ.of old) else new := by
  have hports : 0x80000 ≤ R.PSG_CTL p.val ∧ R.PSG_CTL p.val < 0x90000 ∧ R.PSG_CTL p.val % 0x1000 = 0 := by
    simp only [R.PSG_CTL]; omega
  obtain ⟨hlow, hhigh, hpage⟩ := hports
  have htrace : ¬R.PSG_CTL p.val < 0x62100 := by omega
  have hreq : ¬(R.PWR_GAL_REQ 0 ≤ R.PSG_CTL p.val ∧ R.PSG_CTL p.val ≤ R.PWR_GAL_REQ 3) := by decide +revert
  have heth : ¬(R.PSG_CTL p.val = R.ETH_CFG 0 ∨ R.PSG_CTL p.val = R.ETH_CFG 1) := by decide +revert
  have hrim : ¬0x100200 ≤ R.PSG_CTL p.val := by omega
  simp [legalWord, htrace, hreq, heth, hlow, hhigh, hpage, hrim]

/-- What PSG_CTL cannot store as a width leaves TRAIN. -/
theorem legalWord_psgCtl_train (p : PortNo) (old new : Word) :
    (legalWord (R.PSG_CTL p.val) old new).getLsbD 1 = new.getLsbD 1 := by
  rw [legalWord_psgCtl]
  split
  · rw [Word.getLsbD_eq_of, Word.getLsbD_eq_of new,
      Field.of_put_below _ _ _ _ (by decide) (by decide) (by decide) (by decide)]
  · rfl

theorem State.writePsgCtl_inImage (h : s.portInImage p.val = true) (w : Word) :
    s.writePsgCtl p.val w = s.detect 0x05 0x12 p.val := if_pos h

theorem State.writePsgCtl_train (h : s.portInImage p.val = false) {w : Word} (hw : w.getLsbD 1 = true) :
    (s.writePsgCtl p.val w).portState p.val = 1 := by
  rw [State.writePsgCtl, if_neg (ne_true_of_eq_false h)]
  dsimp only
  rw [legalWord_psgCtl_train, if_pos hw]
  exact State.portState_attempt

theorem exec_psgTrain (w : Word) : exec (.psgTrain p w) s = .next (s.writePsgCtl p.val (w ||| 2)) := rfl

theorem exec_psgDown (w : Word) : exec (.psgDown p w) s = .next (s.writePsgCtl p.val (w ||| 4)) := rfl

/-! An attempt, state by state (R125, R132 to R135). -/

section Attempt

variable {k : Fin 4} {dmax : Word}

theorem exec_laneEqualised_other (h : s.portState p.val ≠ 1) : exec (.laneEqualised p k) s = .next s := if_pos h

theorem exec_laneEqualised (h : s.portState p.val = 1) : exec (.laneEqualised p k) s =
    .next (s.put (R.PSG_STATUS p.val) F.PSG_STATUS_LANES_OK
      (s.fld (R.PSG_STATUS p.val) F.PSG_STATUS_LANES_OK ||| 2 ^ k.val)) := if_neg (not_not_intro h)

theorem exec_blockLock_other (h : s.portState p.val ≠ 1 ∨ s.widthOf p.val = 0) : exec (.blockLock p) s = .next s :=
  if_pos h

theorem exec_blockLock (h : s.portState p.val = 1) (hwidth : s.widthOf p.val ≠ 0) : exec (.blockLock p) s = .next
    ((((s.put (R.PSG_STATUS p.val) F.PSG_STATUS_WIDTH (s.widthOf p.val)).resetLink p.val).setPort p.val 2).sendIdent
      p.val) :=
  if_neg (not_or.2 ⟨not_not_intro h, hwidth⟩)

theorem exec_latencyMeasured_other (h : s.portState p.val ≠ 3) (mean rtt : Word) :
    exec (.latencyMeasured p dmax mean rtt) s = .next s := if_pos h

theorem exec_latencyMeasured_over (h : s.portState p.val = 3) (hover : 700000 < s.delayOf p.val dmax) (mean rtt : Word) :
    exec (.latencyMeasured p dmax mean rtt) s = .next (s.attemptFails p.val) :=
  (if_neg (not_not_intro h)).trans (if_pos hover)

theorem exec_latencyMeasured (h : s.portState p.val = 3) (hwithin : s.delayOf p.val dmax ≤ 700000) (mean rtt : Word) :
    exec (.latencyMeasured p dmax mean rtt) s = .next ((((s.setReg (R.PSG_RTT p.val) rtt).setReg
      (R.TB_PSG_DELAY p.val) mean).put (R.LAT_PORT p.val) F.LAT_PORT_STEPS
        ((3 * s.delayOf p.val dmax + 1999) / 2000 + 4)).setPort p.val 4) :=
  (if_neg (not_not_intro h)).trans (if_neg (Nat.not_lt.2 hwithin))

/-- A port as it becomes trained: valid, held and ready. -/
def State.becomesTrained (s : State) (p : Nat) : State :=
  (((s.setPort p 5).raise (R.LAT_PORT p) F.LAT_PORT_VALID).setHeld p).setReady (portBit p) true

theorem exec_portTrained_other (h : s.portState p.val ≠ 4) : exec (.portTrained p) s = .next s := if_pos h

theorem exec_portTrained (h : s.portState p.val = 4) : exec (.portTrained p) s =
    .next (((if (s.becomesTrained p.val).bit (R.PSG_HELD p.val) F.PSG_HELD_OVER_BUDGET
      then (s.becomesTrained p.val).detect 0x07 0x09 p.val else s.becomesTrained p.val).trainOver p.val true).drained) :=
  if_neg (not_not_intro h)

theorem exec_trainingFail (h : s.inTraining p.val = true) : exec (.trainingFail p) s = .next (s.attemptFails p.val) :=
  if_pos h

theorem exec_trainingFail_other (h : s.inTraining p.val = false) : exec (.trainingFail p) s = .next s :=
  if_neg (ne_true_of_eq_false h)

theorem exec_laneFail_other (h : s.trained p.val = false ∨ s.laneActive p.val k.val = false) :
    exec (.laneFail p k) s = .next s := if_pos h

theorem exec_laneFail (h : s.trained p.val = true) (hactive : s.laneActive p.val k.val = true) :
    exec (.laneFail p k) s = .next (((s.put (R.PSG_STATUS p.val) F.PSG_STATUS_LANES_OK
      (if (s.fld (R.PSG_STATUS p.val) F.PSG_STATUS_LANES_OK).testBit k.val
        then s.fld (R.PSG_STATUS p.val) F.PSG_STATUS_LANES_OK - 2 ^ k.val
        else s.fld (R.PSG_STATUS p.val) F.PSG_STATUS_LANES_OK)).recordPsg p.val 2).portDown p.val) :=
  if_neg (by simp [h, hactive])

end Attempt

/-! The peer's IDENT (R133, R136). -/

section Peer

variable {x : Ident} {own : Bool}

theorem exec_latticeIdent_ignored
    (h : (s.portState p.val ≠ 2 ∧ s.trained p.val = false) ∨ s.psg.discarding.contains p.val = true) :
    exec (.latticeIdent p x own) s = .next s := if_pos h

variable (hkeeps : s.psg.discarding.contains p.val = false) (hlink : s.portState p.val = 2 ∨ s.trained p.val = true)
include hkeeps hlink

theorem State.hearsIdent :
    ¬((s.portState p.val ≠ 2 ∧ s.trained p.val = false) ∨ s.psg.discarding.contains p.val = true) := by
  rintro (⟨hstate, htrained⟩ | hdiscards)
  · exact hlink.elim hstate (ne_true_of_eq_false htrained)
  · exact absurd hdiscards (ne_true_of_eq_false hkeeps)

theorem exec_latticeIdent_family (hfamily : x.family ≠ 0x0E65) : exec (.latticeIdent p x own) s =
    .next (((s.setPeer p.val x).recordPsg p.val 7).portDown p.val) :=
  (if_neg (State.hearsIdent hkeeps hlink)).trans (if_pos hfamily)

variable (hfamily : x.family = 0x0E65)
include hfamily

theorem exec_latticeIdent_differs (hpeer : (s.setPeer p.val x).peerDiffers p.val = true) :
    exec (.latticeIdent p x own) s = .next ((((s.setPeer p.val x).recordLtc 0).recordPsg p.val 7).portDown p.val) :=
  (if_neg (State.hearsIdent hkeeps hlink)).trans ((if_neg (not_not_intro hfamily)).trans (if_pos hpeer))

/-- The peer is the one that the map expects, and the port is not trained yet. -/
theorem exec_latticeIdent_agrees (hpeer : (s.setPeer p.val x).peerDiffers p.val = false)
    (hnew : (s.setPeer p.val x).trained p.val = false) : exec (.latticeIdent p x own) s =
      if own = true ∧ (s.setPeer p.val x).bit (R.PSG_CTL p.val) F.PSG_CTL_LOOPBACK = false
      then .next ((s.setPeer p.val x).attemptFails p.val)
      else .next (((s.setPeer p.val x).put (R.PSG_STATUS p.val) F.PSG_STATUS_LOOPBACK_ACTIVE (natOfBool own)).setPort
        p.val 3) :=
  (if_neg (State.hearsIdent hkeeps hlink)).trans ((if_neg (not_not_intro hfamily)).trans
    ((if_neg (ne_true_of_eq_false hpeer)).trans (if_neg (ne_true_of_eq_false hnew))))

end Peer

end Ports

/-- Settles O34: each row by the state of its port. Where a row does nothing, it does so by log 10; a loop-back that is not
allowed fails the attempt by log 18. -/
theorem portsTrainStepByStep : Obligations.PortsTrainStepByStep := by
  unfold Obligations.PortsTrainStepByStep
  refine fun p s => ⟨fun w => ⟨fun himage => ?refused, fun hfree => ⟨exec_psgTrain w, exec_psgDown w, ?begins⟩⟩,
    fun k => ⟨exec_laneEqualised_other, exec_laneEqualised⟩, exec_blockLock_other, exec_blockLock,
    fun x own => ⟨exec_latticeIdent_ignored, fun hkeeps => ⟨exec_latticeIdent_family hkeeps,
      exec_latticeIdent_differs hkeeps,
      fun hstate hfamily hpeer hnew => ⟨fun hallowed => ?advances, fun hown hloop => ?loops⟩⟩⟩,
    fun dmax mean rtt => ⟨fun h => exec_latencyMeasured_other h mean rtt,
      fun h hover => exec_latencyMeasured_over h hover mean rtt, fun h hwithin => exec_latencyMeasured h hwithin mean rtt⟩,
    exec_portTrained_other, fun h => ⟨fun hwithin => ?within, fun hover => ?overBudget⟩, exec_trainingFail,
    exec_trainingFail_other, fun k => exec_laneFail_other, fun k => exec_laneFail⟩
  case refused =>
    rw [exec_psgTrain, exec_psgDown, State.writePsgCtl_inImage himage, State.writePsgCtl_inImage himage]
    exact ⟨rfl, rfl⟩
  case begins =>
    have htrain : (w ||| 2).getLsbD 1 = true := by simp
    exact State.writePsgCtl_train hfree htrain
  case advances =>
    rw [exec_latticeIdent_agrees hkeeps (.inl hstate) hfamily hpeer hnew, if_neg]
    rintro ⟨hown, hloop⟩
    simp [hown, hloop] at hallowed
  case loops =>
    rw [exec_latticeIdent_agrees hkeeps (.inl hstate) hfamily hpeer hnew, if_pos ⟨hown, hloop⟩]
  case within =>
    rw [exec_portTrained h]
    exact congrArg (fun u => Host.Outcome.next (State.drained (State.trainOver u p.val true)))
      (if_neg (ne_true_of_eq_false hwithin))
  case overBudget =>
    rw [exec_portTrained h]
    exact congrArg (fun u => Host.Outcome.next (State.drained (State.trainOver u p.val true))) (if_pos hover)

end Sys2Proof.Machine

/-! Blocks of the ports, their retry, and the commands of the ports (05, R127 to R132, R136; 09, R267). -/

namespace Sys2Proof.Machine

section Blocks

variable {s : State}

/-! A block that is sent (R127 to R129, R131). -/

theorem State.useFec_psg (s : State) (p : Nat) : (s.useFec p).psg = s.psg := (s.useFec_touch p).2.1 .psg rfl

theorem State.useFec_sched (s : State) (p : Nat) : (s.useFec p).sched = s.sched := (s.useFec_touch p).2.1 .sched rfl

theorem State.txBlock_retry (s : State) (p seq : Nat) (flits : List BlockFlit) :
    (s.txBlock p seq flits).psg.retry = s.psg.retry := by
  rw [State.txBlock]
  dsimp only
  split <;> rfl

theorem State.txBlock_sched (s : State) (p seq : Nat) (flits : List BlockFlit) :
    (s.txBlock p seq flits).sched = s.sched := (s.txBlock_touch p seq flits).2.1 .sched rfl

/-- A block acknowledges the last one taken, and carries NAK where one is due. -/
theorem State.txBlock_blocks (s : State) (p seq : Nat) (flits : List BlockFlit) :
    (s.txBlock p seq flits).psg.blocks = s.psg.blocks ++
      [⟨p, seq, (s.gotBlocks p + 255) % 256, s.gotBlocks p != 0, s.psg.nakDue.contains p, flits⟩] := by
  rw [State.txBlock]
  dsimp only
  split <;> rfl

/-- The flits of the next block of a port, what it is then still to send, and the rest of its stream packet. -/
def State.nextFlits (s : State) (p : Nat) : List BlockFlit × List TxFlit × List (BitVec 256) :=
  fillBlock (NMap.get (fun _ => []) s.psg.stream p) (s.psg.out.filter (fun f => f.port == p))

/-- The flits of the next block have left the queue of the port. -/
def State.flitsTaken (s : State) (p : Nat) : State :=
  { s with psg := { s.psg with out := s.psg.out.filter (fun f => !(f.port == p)) ++ (s.nextFlits p).2.1,
                               stream := NMap.set (fun _ => []) s.psg.stream p (s.nextFlits p).2.2 } }

/-- The block that has left is kept with its time until it is acknowledged. -/
def State.blockKept (s : State) (p n : Nat) (flits : List BlockFlit) : State :=
  { s with psg := { s.psg with txSeq := NMap.set dZero s.psg.txSeq p (n + 1),
                               retry := s.psg.retry ++ [⟨p, n % 256, 0, s.sched.now, flits⟩] } }

theorem State.sendBlock_full {p : Nat} (h : 128 ≤ (s.psg.retry.filter (fun b => b.port == p)).length) :
    s.sendBlock p = s := if_pos h

theorem State.sendBlock_sends {p : Nat} (h : (s.psg.retry.filter (fun b => b.port == p)).length < 128) :
    s.sendBlock p = (((s.flitsTaken p).useFec p).txBlock p (s.sentBlocks p % 256) (s.nextFlits p).1).blockKept p
      (s.sentBlocks p) (s.nextFlits p).1 := if_neg (Nat.not_le.2 h)

theorem State.sendBlock_retry {p : Nat} (h : (s.psg.retry.filter (fun b => b.port == p)).length < 128) :
    (s.sendBlock p).psg.retry = s.psg.retry ++ [⟨p, s.sentBlocks p % 256, 0, s.sched.now, (s.nextFlits p).1⟩] := by
  rw [State.sendBlock_sends h, State.blockKept]
  dsimp only
  rw [State.txBlock_retry, State.useFec_psg, State.txBlock_sched, State.useFec_sched]
  rfl

theorem State.sendBlock_blocks {p : Nat} (h : (s.psg.retry.filter (fun b => b.port == p)).length < 128) :
    (s.sendBlock p).psg.blocks = s.psg.blocks ++ [⟨p, s.sentBlocks p % 256, (s.gotBlocks p + 255) % 256,
      s.gotBlocks p != 0, s.psg.nakDue.contains p, (s.nextFlits p).1⟩] := by
  rw [State.sendBlock_sends h, State.blockKept]
  dsimp only
  rw [State.txBlock_blocks, State.gotBlocks, State.useFec_psg]
  rfl

/-! BLOCK_RECEIVE (R127 to R131). -/

section Receive

variable {p : PortNo} {b : BlockIn}

/-- A block is counted as taken. -/
def State.countTaken (s : State) (p : Nat) : State :=
  { s with psg := { s.psg with rxSeq := NMap.set dZero s.psg.rxSeq p (s.gotBlocks p + 1) } }

/-- The next block in sequence without errors ends a discard, and its acknowledgement is obeyed. -/
def State.takeBlock (s : State) (p : Nat) (b : BlockIn) : State :=
  if b.ackValid then ((s.setDiscard p false).countTaken p).acked p b.ack.toNat else (s.setDiscard p false).countTaken p

theorem State.takeBlock_linked (s : State) (p : Nat) (b : BlockIn) : (s.takeBlock p b).linked p = s.linked p := by
  have hregs : (s.takeBlock p b).regs = s.regs := by
    unfold State.takeBlock
    split
    · exact (Prod.mk.inj ((State.acked_touch ..).2.1 .regs rfl)).1
    · rfl
  rw [State.linked, State.portState, State.fld, State.reg, hregs]
  rfl

theorem exec_blockReceive_unlinked (h : s.linked p.val = false) : exec (.blockReceive p b) s = .next s := if_pos h

variable (hlink : s.linked p.val = true)
include hlink

theorem exec_blockReceive_lost (hfec : b.fec = .lost) : exec (.blockReceive p b) s = .next (
    let u := (s.bump (R.PSG_FEC_UE p.val) F.PSG_FEC_UE_COUNT).detect 0x05 0x11 p.val
    ({ u with psg := { u.psg with nakDue := p.val :: u.psg.nakDue.filter (fun q => q != p.val) } }.setDiscard p.val
      true).sendBlock p.val) :=
  (if_neg (ne_false_of_eq_true hlink)).trans (if_pos hfec)

variable (hfec : b.fec = .clean)
include hfec

theorem exec_blockReceive_outOfSequence (hseq : b.seq.toNat ≠ s.gotBlocks p.val % 256) :
    exec (.blockReceive p b) s = .next ((s.setDiscard p.val true).sendBlock p.val) := by
  rw [show exec (.blockReceive p b) s = execBlockReceive p b s from rfl, execBlockReceive]
  simp only [hlink, hfec]
  exact if_pos hseq

theorem exec_blockReceive_next (hseq : b.seq.toNat = s.gotBlocks p.val % 256) (hbad : b.bad = 0)
    (hpattern : b.pattern = false) (hnak : b.nak = false) :
    exec (.blockReceive p b) s = .next ((s.takeBlock p.val b).sendBlock p.val) := by
  rw [show exec (.blockReceive p b) s = execBlockReceive p b s from rfl, execBlockReceive]
  simp only [hlink, hfec, hbad, hpattern, hnak]
  refine (if_neg (not_not_intro hseq)).trans ?_
  exact congrArg Host.Outcome.next (if_pos ((s.takeBlock_linked p.val b).trans hlink))

end Receive

/-! RETRY_TIMEOUT (R129). -/

section Retry

variable {p : PortNo} {b : RetryBlock}

theorem exec_retryTimeout_due (hb : s.psg.retry.find? (fun b => b.port == p.val) = some b)
    (hlink : s.linked p.val = true) (hold : b.since + 3000 ≤ s.sched.now) :
    exec (.retryTimeout p) s = .next (s.resend p.val) := by
  rw [show exec (.retryTimeout p) s = execRetryTimeout p s from rfl, execRetryTimeout, hb]
  exact if_pos ⟨hlink, hold⟩

theorem exec_retryTimeout_waits (hb : s.psg.retry.find? (fun b => b.port == p.val) = some b)
    (hnot : s.linked p.val = false ∨ s.sched.now < b.since + 3000) : exec (.retryTimeout p) s = .next s := by
  rw [show exec (.retryTimeout p) s = execRetryTimeout p s from rfl, execRetryTimeout, hb]
  refine if_neg ?_
  rintro ⟨hlink, hold⟩
  rcases hnot with hdown | hnew
  · exact absurd hlink (ne_true_of_eq_false hdown)
  · exact absurd hold (Nat.not_le.2 hnew)

theorem exec_retryTimeout_none (hnone : s.psg.retry.find? (fun b => b.port == p.val) = none) :
    exec (.retryTimeout p) s = .next s := by
  rw [show exec (.retryTimeout p) s = execRetryTimeout p s from rfl, execRetryTimeout, hnone]

end Retry

/-! LATTICE_TRAIN and LATTICE_MAP (R132, R136, R267). -/

section Commands

variable {h : Hdr}

theorem exec_latticeTrain_served {ports : BitVec 16} {width : BitVec 8}
    (hs : s.serves (.latticeTrain h ports width) = true) :
    exec (.latticeTrain h ports width) s = .next (
      let u := s.begunBy (.latticeTrain h ports width)
      let ps := (List.range 16).filter (fun p => ports.getLsbD p)
      if 2 ≤ width.toNat then u.complete (cmdOf h) 2 else if ps.any u.portInImage then u.complete (cmdOf h) 0x25
      else if u.psg.training.isSome then u.complete (cmdOf h) 4 else if ps = [] then u.complete (cmdOf h) 0
      else ps.foldl (fun s p => (s.put (R.PSG_CTL p) F.PSG_CTL_WIDTH_REQ width.toNat).train p)
        { u with psg := { u.psg with training := some (cmdOf h), trainPorts := ps, trainDone := [] } }) := by
  rw [show exec (.latticeTrain h ports width) s = execLatticeTrain h ports width s from rfl, execLatticeTrain]
  exact State.command_of_form (F := { hdr := h, cls := .long }) _ rfl hs

variable {buf : HostBuf} (hs : s.serves (.latticeMap h buf) = true)

theorem hostBytes_whole {n : Nat} (hlen : n ≤ buf.len) (hfault : buf.fault = none) :
    hostBytes buf n = .inr (buf.bytes.take n) := by
  rw [hostBytes, if_neg (Nat.not_lt.2 hlen), hfault]
  rfl

include hs

theorem exec_latticeMap_running (hrun : (s.begunBy (.latticeMap h buf)).isRunning = true) :
    exec (.latticeMap h buf) s = .next ((s.begunBy (.latticeMap h buf)).complete (cmdOf h) 7) := by
  rw [show exec (.latticeMap h buf) s = execLatticeMap h buf s from rfl, execLatticeMap]
  exact (State.command_of_form (F := { hdr := h, buf := buf }) _ rfl hs).trans (congrArg Host.Outcome.next (if_pos hrun))

variable (hrun : (s.begunBy (.latticeMap h buf)).isRunning = false)
include hrun

theorem exec_latticeMap_short (hlen : buf.len < 576) :
    exec (.latticeMap h buf) s = .next ((s.begunBy (.latticeMap h buf)).complete (cmdOf h) 2) := by
  rw [show exec (.latticeMap h buf) s = execLatticeMap h buf s from rfl, execLatticeMap]
  exact (State.command_of_form (F := { hdr := h, buf := buf }) _ rfl hs).trans
    (congrArg Host.Outcome.next ((if_neg (ne_true_of_eq_false hrun)).trans (if_pos hlen)))

/-- A table that the host gives whole is judged, and applies where it is valid. -/
theorem exec_latticeMap_whole (hlen : 576 ≤ buf.len) (hfault : buf.fault = none) : exec (.latticeMap h buf) s = .next (
    let u := s.begunBy (.latticeMap h buf)
    if mapReserved (buf.bytes.take 576) = false ∨ mapStageBad (buf.bytes.take 576) = true then u.complete (cmdOf h) 2
    else
      let v := (u.applyMap (buf.bytes.take 576)).sendIdents
      let bad := ((List.range 16).filter v.trained).filter v.peerDiffers
      (bad.foldl State.dropPeer v).complete (cmdOf h) 0 (BitVec.ofNat 64 (bitSet bad))) := by
  rw [show exec (.latticeMap h buf) s = execLatticeMap h buf s from rfl, execLatticeMap]
  refine (State.command_of_form (F := { hdr := h, buf := buf }) _ rfl hs).trans (congrArg Host.Outcome.next ?_)
  dsimp only
  rw [if_neg (ne_true_of_eq_false hrun), if_neg (Nat.not_lt.2 hlen), hostBytes_whole hlen hfault]

end Commands

end Blocks

/-- Settles O35: a block by its FEC and its sequence number, a retry by its oldest block, the commands by what they meet. A
block that is sent for each that comes is log 52, a second LATTICE_TRAIN answered BUSY log 18. -/
theorem blocksAreCheckedAndRetried : Obligations.BlocksAreCheckedAndRetried := by
  unfold Obligations.BlocksAreCheckedAndRetried
  refine fun s => ⟨fun p b => ⟨exec_blockReceive_unlinked, exec_blockReceive_lost, exec_blockReceive_outOfSequence,
      exec_blockReceive_next⟩,
    fun p b hb => ⟨exec_retryTimeout_due hb, exec_retryTimeout_waits hb⟩, fun p => exec_retryTimeout_none,
    fun p => ⟨State.sendBlock_full, fun hroom => ⟨_, State.sendBlock_retry hroom, State.sendBlock_blocks hroom⟩⟩,
    fun h ports width hs => exec_latticeTrain_served hs,
    fun h buf hs => ⟨exec_latticeMap_running hs, exec_latticeMap_short hs,
      fun hrun hlen hfault hwrong => ?wrong, fun hrun hlen hfault hzero hstage => ?applies⟩⟩
  case wrong =>
    rw [exec_latticeMap_whole hs hrun hlen hfault]
    exact congrArg Host.Outcome.next (if_pos hwrong)
  case applies =>
    rw [exec_latticeMap_whole hs hrun hlen hfault]
    exact congrArg Host.Outcome.next (if_neg (by simp [hzero, hstage]))

end Sys2Proof.Machine

/-! Slot flits, overdue flits, the decision point, notices and barriers of a lattice (05, R142 to R154; 09, R257, R264,
R269). -/

namespace Sys2Proof.Machine

section Lattice

variable {s : State} {p : PortNo}

/-! Slot flits (R142, R150, R153). -/

section SlotFlits

variable {ctx tag : Fin 8} {flit : Fin 64} {vals : BitVec 240} {close : Fin 1024}

/-- How many ticks a tick tag lies ahead of the tick after the present one, modulo 8. -/
def State.ticksAhead (s : State) (tag : Fin 8) : Nat := (tag.val + 8 - s.sched.nextTick.toNat % 8) % 8

/-- The flit that arrives at port `p`. -/
def slotOf (p : PortNo) (ctx tag : Fin 8) (flit : Fin 64) (vals : BitVec 240) : SlotFlit :=
  ⟨p.val, ctx.val, tag.val, flit.val, (List.range 240).map (fun i => vals.getLsbD i)⟩

theorem exec_slotFlit_deaf (h : s.receives p.val = false) : exec (.slotFlit p ctx tag flit vals close) s = .next s :=
  if_pos h

variable (hrecv : s.receives p.val = true)
include hrecv

theorem exec_slotFlit_received : exec (.slotFlit p ctx tag flit vals close) s =
    if s.ticksAhead tag = 0 then
      .next { s with psg := { s.psg with early := s.psg.early ++ [(slotOf p ctx tag flit vals, close.val)] } }
    else if s.ticksAhead tag = 7 then
      (if s.landing then .next (s.takeFlit (slotOf p ctx tag flit vals) close.val) else .next s)
    else if s.ticksAhead tag ≤ 2 then .next ((s.recordPsg p.val 6 flit.val).recordPsg p.val 3 flit.val)
    else .next (s.recordPsg p.val 3 flit.val) := if_neg (ne_false_of_eq_true hrecv)

theorem exec_slotFlit_early (h : s.ticksAhead tag = 0) : exec (.slotFlit p ctx tag flit vals close) s =
    .next { s with psg := { s.psg with early := s.psg.early ++ [(slotOf p ctx tag flit vals, close.val)] } } :=
  (exec_slotFlit_received hrecv).trans (if_pos h)

theorem exec_slotFlit_current (h : s.ticksAhead tag = 7) : exec (.slotFlit p ctx tag flit vals close) s =
    .next (if s.landing then s.takeFlit (slotOf p ctx tag flit vals) close.val else s) := by
  rw [exec_slotFlit_received hrecv, if_neg (h.trans_ne (by decide)), if_pos h]
  exact (apply_ite Host.Outcome.next _ _ _).symm

theorem exec_slotFlit_tooEarly (h : s.ticksAhead tag = 1 ∨ s.ticksAhead tag = 2) :
    exec (.slotFlit p ctx tag flit vals close) s =
      .next ((s.recordPsg p.val 6 flit.val).recordPsg p.val 3 flit.val) := by
  rw [exec_slotFlit_received hrecv, if_neg (by omega), if_neg (by omega), if_pos (by omega)]

theorem exec_slotFlit_stale (hlow : 2 < s.ticksAhead tag) (hhigh : s.ticksAhead tag < 7) :
    exec (.slotFlit p ctx tag flit vals close) s = .next (s.recordPsg p.val 3 flit.val) := by
  rw [exec_slotFlit_received hrecv, if_neg (by omega), if_neg (by omega), if_neg (by omega)]

end SlotFlits

/-! Overdue flits (R152). -/

section Overdue

variable {flit : Fin 64} {close : Fin 1024}

theorem exec_linkTimeout_runs (h : s.sched.holdLen = 0) : exec (.linkTimeout p flit close) s = .next s := if_pos (.inl h)

/-- The flit is expected, has not come, and its deadline has passed in a period that is held. -/
structure State.FlitOverdue (s : State) (p flit close : Nat) : Prop where
  held : s.sched.holdLen ≠ 0
  expected : s.flitExpected p flit = true
  missing : s.psg.got.contains (p, flit) = false
  due : s.sched.tickPeriod + close + s.fld (R.PSG_HELD p) F.PSG_HELD_HELD +
    s.heldBefore (close + s.fld (R.PSG_HELD p) F.PSG_HELD_HELD) + s.linkTimeout ≤ s.sched.now

theorem State.FlitOverdue.judged {p flit close : Nat} (h : s.FlitOverdue p flit close) :
    ¬(s.sched.holdLen = 0 ∨ s.flitExpected p flit = false ∨ s.psg.got.contains (p, flit) = true ∨
      s.sched.now < s.sched.tickPeriod + close + s.fld (R.PSG_HELD p) F.PSG_HELD_HELD +
        s.heldBefore (close + s.fld (R.PSG_HELD p) F.PSG_HELD_HELD) + s.linkTimeout) := by
  simp only [not_or, Nat.not_lt, Bool.not_eq_false, Bool.not_eq_true]
  exact ⟨h.held, h.expected, h.missing, h.due⟩

variable (hdue : s.FlitOverdue p.val flit.val close.val)
include hdue

theorem exec_linkTimeout_t3 (hphase : s.sched.phase = .t3) : exec (.linkTimeout p flit close) s = .next (
    let u := s.endFlit p.val flit.val (fun e => !s.fab.ended.contains e)
    { u with psg := { u.psg with got := (p.val, flit.val) :: u.psg.got } }.markTick p.val flit.val) := by
  rw [show exec (.linkTimeout p flit close) s = execLinkTimeout p flit close s from rfl, execLinkTimeout]
  dsimp only
  rw [if_neg hdue.judged, hphase]

variable (hphase : s.sched.phase = .steps)
include hphase

theorem exec_linkTimeout_steps : exec (.linkTimeout p flit close) s =
    if (s.flitEntries p.val flit.val).any (fun e => s.awaitedNow.contains e) = false then .next s
    else .next ((s.endFlit p.val flit.val (fun e => s.awaitedNow.contains e)).markTick p.val flit.val) := by
  rw [show exec (.linkTimeout p flit close) s = execLinkTimeout p flit close s from rfl, execLinkTimeout]
  dsimp only
  rw [if_neg hdue.judged, hphase]

theorem exec_linkTimeout_awaited (h : (s.flitEntries p.val flit.val).any (fun e => s.awaitedNow.contains e) = true) :
    exec (.linkTimeout p flit close) s =
      .next ((s.endFlit p.val flit.val (fun e => s.awaitedNow.contains e)).markTick p.val flit.val) :=
  (exec_linkTimeout_steps hdue hphase).trans (if_neg (ne_false_of_eq_true h))

theorem exec_linkTimeout_unawaited (h : (s.flitEntries p.val flit.val).any (fun e => s.awaitedNow.contains e) = false) :
    exec (.linkTimeout p flit close) s = .next s :=
  (exec_linkTimeout_steps hdue hphase).trans (if_pos h)

end Overdue

/-! The decision point (R146). -/

section Decision

/-- The device has decided on its next tick. -/
def State.decides (s : State) : State := { s with psg := { s.psg with decided := some s.sched.nextTick } }

/-- A device that will miss the grid of tick `t` floods HOLD and notes its own. -/
def State.floodHold (s : State) (t : BitVec 64) : State :=
  let v := s.takeOverrun.flood (s.latFlit 2 t)
  { v with psg := { v.psg with holdsSent := t :: v.psg.holdsSent, holds := (v.devNum, t) :: v.psg.holds } }

theorem exec_decisionPoint_meets (h : s.missesGrid s.margin = false) : exec .decisionPoint s = .next s :=
  if_pos (by simp [h])

/-- A device of a locked lattice comes to the decision point of a tick. -/
structure State.AtDecision (s : State) : Prop where
  inLattice : s.inLattice = true
  locked : s.locked = true
  running : s.sched.running = true
  within : s.sched.phase ≠ .between
  fresh : s.psg.decided ≠ some s.sched.nextTick
  misses : s.missesGrid s.margin = true

variable (h : s.AtDecision)
include h

theorem exec_decisionPoint_projects : exec .decisionPoint s =
    if s.decides.missesGrid (s.decides.periodsLeft - 1) = false ∨ s.decides.sched.overrun = true then .next s.decides
    else if s.decides.bit R.SCHED_TICK_CFG F.SCHED_TICK_CFG_POLICY = true then
      .next (s.decides.takeOverrun.floodFault s.decides.sched.curTick)
    else .next (s.decides.floodHold s.sched.nextTick) := by
  refine if_neg ?_
  rintro (hc | hc | hc | hc | hc | hc)
  · exact absurd h.inLattice (ne_true_of_eq_false hc)
  · exact absurd h.locked (ne_true_of_eq_false hc)
  · exact absurd h.running (ne_true_of_eq_false hc)
  · exact h.within hc
  · exact h.fresh hc
  · exact absurd h.misses (ne_true_of_eq_false hc)

theorem exec_decisionPoint_inTime (hmeets : s.decides.missesGrid (s.decides.periodsLeft - 1) = false) :
    exec .decisionPoint s = .next s.decides := (exec_decisionPoint_projects h).trans (if_pos (.inl hmeets))

variable (hmisses : s.decides.missesGrid (s.decides.periodsLeft - 1) = true) (hfirst : s.decides.sched.overrun = false)
include hmisses hfirst

theorem exec_decisionPoint_overrun : exec .decisionPoint s =
    if s.decides.bit R.SCHED_TICK_CFG F.SCHED_TICK_CFG_POLICY = true then
      .next (s.decides.takeOverrun.floodFault s.decides.sched.curTick)
    else .next (s.decides.floodHold s.sched.nextTick) :=
  (exec_decisionPoint_projects h).trans
    (if_neg (not_or.2 ⟨ne_false_of_eq_true hmisses, ne_true_of_eq_false hfirst⟩))

theorem exec_decisionPoint_fault (hpolicy : s.decides.bit R.SCHED_TICK_CFG F.SCHED_TICK_CFG_POLICY = true) :
    exec .decisionPoint s = .next (s.decides.takeOverrun.floodFault s.decides.sched.curTick) :=
  (exec_decisionPoint_overrun h hmisses hfirst).trans (if_pos hpolicy)

theorem exec_decisionPoint_hold (hpolicy : s.decides.bit R.SCHED_TICK_CFG F.SCHED_TICK_CFG_POLICY = false) :
    exec .decisionPoint s = .next (s.decides.floodHold s.sched.nextTick) :=
  (exec_decisionPoint_overrun h hmisses hfirst).trans (if_neg (ne_true_of_eq_false hpolicy))

end Decision

/-! Notices (R146 to R151, R154). -/

section Notices

variable {origin : Fin 512} {tick : BitVec 64} {time : BitVec 48} {halt : Bool} {f : LatFlit}

theorem exec_latticeDone_heard (h : s.hears p.val = false ∨ s.psg.doneFrom.contains (p.val, tick) = true) :
    exec (.latticeDone p tick) s = .next s := if_pos h

theorem exec_latticeDone_new (hhears : s.hears p.val = true) (hnew : s.psg.doneFrom.contains (p.val, tick) = false) :
    exec (.latticeDone p tick) s =
      .next { s with psg := { s.psg with doneFrom := (p.val, tick) :: s.psg.doneFrom } } :=
  if_neg (by simp only [hhears, hnew]; decide)

theorem exec_latticeHold_deaf (h : s.hears p.val = false) : exec (.latticeHold p origin tick time halt) s = .next s :=
  if_pos (.inl h)

theorem exec_latticeRelease_deaf (h : s.hears p.val = false) : exec (.latticeRelease p origin tick time) s = .next s :=
  if_pos (.inl h)

theorem exec_latticeFault_deaf (h : s.hears p.val = false) : exec (.latticeFault p origin tick time) s = .next s :=
  if_pos (.inl h)

theorem exec_latticeCredit_deaf (h : s.receives p.val = false) (w : Word) : exec (.latticeCredit p w) s = .next s :=
  if_pos h

theorem exec_latticeCredit (h : s.receives p.val = true) (w : Word) : exec (.latticeCredit p w) s = .next
    ((List.range 4).foldl (fun s v => s.creditBack p.val v (bitsOf (8 * v + 7) (8 * v) w.toNat)) s).drained :=
  if_neg (ne_false_of_eq_true h)

variable (hhears : s.hears p.val = true)
include hhears

theorem State.noticeTaken (hnew : s.heard f = false) : ¬(s.hears p.val = false ∨ s.heard f = true) := by
  simp [hhears, hnew]

/-- A HOLD heard for the first time is flooded on, and acts. -/
theorem exec_latticeHold_new (hnew : s.heard (relayed 2 origin tick time.toNat (natOfBool halt)) = false) :
    exec (.latticeHold p origin tick time halt) s =
      let u := s.flood (relayed 2 origin tick time.toNat (natOfBool halt)) (some p.val)
      if (u.sched.running && u.begun tick) = true then .next (u.lateOverrun u.sched.curTick)
      else if halt = true then .next (u.holdBefore origin.val tick)
      else .next { u with psg := { u.psg with holds := (origin.val, tick) :: u.psg.holds } } :=
  if_neg (State.noticeTaken hhears hnew)

/-- A RELEASE heard for the first time is flooded on; on a halted device of an image that holds nothing of its origin and tick
it is the start of a RUN_FROM. -/
theorem exec_latticeRelease_new (hnew : s.heard (relayed 3 origin tick time.toNat 0) = false) :
    exec (.latticeRelease p origin tick time) s =
      let u := s.flood (relayed 3 origin tick time.toNat 0) (some p.val)
      if u.sched.running = false ∧ u.hasImage = true ∧ u.psg.holds.contains (origin.val, tick) = false then
        if u.sched.nextTick = tick then .next ((u.startAtTime (u.dtcNear time.toNat)).reportTo origin.val 0)
        else .next (u.reportTo origin.val 0x28)
      else .next { u with psg := { u.psg with releases := (origin.val, tick, u.dtcNear time.toNat) :: u.psg.releases } } :=
  if_neg (State.noticeTaken hhears hnew)

/-- A FAULT heard for the first time by a running device is flooded on and recorded, and acts. -/
theorem exec_latticeFault_new (hnew : s.heard (relayed 4 origin tick time.toNat 0) = false)
    (hrun : (s.flood (relayed 4 origin tick time.toNat 0) (some p.val)).sched.running = true) :
    exec (.latticeFault p origin tick time) s =
      let u := (s.flood (relayed 4 origin tick time.toNat 0) (some p.val)).recordLtc 2
      if u.begun (tick + 1) = true then .next (u.lateOverrun u.sched.curTick) else .next (u.stopBefore (tick + 1)) :=
  (if_neg (State.noticeTaken hhears hnew)).trans (if_neg (ne_false_of_eq_true hrun))

end Notices

/-! The wait for notices (R151). -/

theorem exec_barrierTimeout_notWaiting (h : s.awaitsNotice = false) : exec .barrierTimeout s = .next s :=
  if_pos (by simp [h])

theorem exec_barrierTimeout (hlattice : s.inLattice = true) (hrun : s.sched.running = true)
    (hphase : s.sched.phase = .between) (hwaits : s.awaitsNotice = true) (hlong : s.barrierTimeout ≤ s.psg.barrierWait) :
    exec .barrierTimeout s = .next
      (((s.silentPorts.foldl State.nameSilent (s.recordLtc 1)).floodFault s.sched.nextTick).haltNow) :=
  if_neg (by simp [hlattice, hrun, hphase, hwaits, Nat.not_lt.2 hlong])

end Lattice

/-! LATTICE_BARRIER (R257, R264, R269). -/

section Barrier

variable {s : State} {h : Hdr} {c : CmdId} {t : BitVec 64}

/-- RUN_FROM of tick `t` (R264). -/
def State.startFrom (s : State) (c : CmdId) (t : BitVec 64) : State :=
  if s.hasImage = false then s.complete c 6
  else if s.psg.origin.isSome then s.complete c 4
  else if t.ult s.sched.nextTick then s.complete c 5
  else if s.isRunning ∨ t ≠ s.sched.nextTick then s.complete c 0x28
  else ((s.ownBarrier c true).startLattice).reportTo ((s.ownBarrier c true).startLattice).devNum 0

/-- Can a notice no longer reach the lattice before tick `t` (R257, R264)? -/
def State.lateFor (s : State) (t : BitVec 64) : Bool :=
  t.ult s.sched.nextTick || (s.isRunning && Nat.blt t.toNat (s.sched.curTick.toNat + s.noticeTicks))

/-- HALT_BEFORE tick `t` (R264). -/
def State.haltFrom (s : State) (c : CmdId) (t : BitVec 64) : State :=
  let v := (s.ownBarrier c false).flood ((s.ownBarrier c false).latFlit 2 t 1)
  if s.hasImage = false then s.complete c 6
  else if s.psg.origin.isSome then s.complete c 4
  else if s.lateFor t then s.complete c 5
  else v.holdBefore v.devNum t

/-- The form of the barrier commands. -/
def barrierForm (s : State) (h : Hdr) : MailboxForm :=
  { hdr := h, target := true, needs := s.barrierNeeds, cls := .long }

theorem exec_runFrom_noTarget (hs : s.serves (.runFrom h) = true) (ht : h.target = none) :
    exec (.runFrom h) s = .next ((s.begunBy (.runFrom h)).complete (cmdOf h) 2) := by
  rw [show exec (.runFrom h) s = execRunFrom h s from rfl, execRunFrom]
  refine (State.command_of_form (F := barrierForm s h) _ rfl hs).trans ?_
  rw [ht]
  rfl

theorem exec_runFrom_target (hs : s.serves (.runFrom h) = true) (ht : h.target = some t) :
    exec (.runFrom h) s = .next ((s.begunBy (.runFrom h)).startFrom (cmdOf h) t) := by
  rw [show exec (.runFrom h) s = execRunFrom h s from rfl, execRunFrom]
  refine (State.command_of_form (F := barrierForm s h) _ rfl hs).trans ?_
  rw [ht]
  rfl

theorem exec_haltBefore_noTarget (hs : s.serves (.haltBefore h) = true) (ht : h.target = none) :
    exec (.haltBefore h) s = .next ((s.begunBy (.haltBefore h)).complete (cmdOf h) 2) := by
  rw [show exec (.haltBefore h) s = execHaltBefore h s from rfl, execHaltBefore]
  refine (State.command_of_form (F := barrierForm s h) _ rfl hs).trans ?_
  rw [ht]
  rfl

theorem exec_haltBefore_target (hs : s.serves (.haltBefore h) = true) (ht : h.target = some t) :
    exec (.haltBefore h) s = .next ((s.begunBy (.haltBefore h)).haltFrom (cmdOf h) t) := by
  rw [show exec (.haltBefore h) s = execHaltBefore h s from rfl, execHaltBefore]
  refine (State.command_of_form (F := barrierForm s h) _ rfl hs).trans (congrArg Host.Outcome.next ?_)
  rw [ht, State.haltFrom]
  refine if_congr Iff.rfl rfl (if_congr Iff.rfl rfl (if_congr ?_ rfl rfl))
  simp [State.lateFor]

theorem State.startFrom_noImage (himage : s.hasImage = false) : s.startFrom c t = s.complete c 6 := if_pos himage

theorem State.haltFrom_noImage (himage : s.hasImage = false) : s.haltFrom c t = s.complete c 6 := if_pos himage

section HasImage

variable (himage : s.hasImage = true)
include himage

theorem State.startFrom_busy (hbusy : s.psg.origin.isSome = true) : s.startFrom c t = s.complete c 4 :=
  (if_neg (ne_false_of_eq_true himage)).trans (if_pos hbusy)

theorem State.haltFrom_busy (hbusy : s.psg.origin.isSome = true) : s.haltFrom c t = s.complete c 4 :=
  (if_neg (ne_false_of_eq_true himage)).trans (if_pos hbusy)

variable (hfree : s.psg.origin = none)
include hfree

theorem State.startFrom_free : s.startFrom c t =
    if t.ult s.sched.nextTick then s.complete c 5
    else if s.isRunning ∨ t ≠ s.sched.nextTick then s.complete c 0x28
    else ((s.ownBarrier c true).startLattice).reportTo ((s.ownBarrier c true).startLattice).devNum 0 := by
  rw [State.startFrom, if_neg (ne_false_of_eq_true himage), if_neg (by simp [hfree])]

theorem State.haltFrom_free : s.haltFrom c t =
    if s.lateFor t then s.complete c 5
    else ((s.ownBarrier c false).flood ((s.ownBarrier c false).latFlit 2 t 1)).holdBefore
      ((s.ownBarrier c false).flood ((s.ownBarrier c false).latFlit 2 t 1)).devNum t := by
  rw [State.haltFrom, if_neg (ne_false_of_eq_true himage), if_neg (by simp [hfree])]

theorem State.startFrom_late (hlate : t.ult s.sched.nextTick = true) : s.startFrom c t = s.complete c 5 :=
  (State.startFrom_free himage hfree).trans (if_pos hlate)

theorem State.startFrom_mismatch (hlate : t.ult s.sched.nextTick = false)
    (hother : s.isRunning = true ∨ t ≠ s.sched.nextTick) : s.startFrom c t = s.complete c 0x28 :=
  (State.startFrom_free himage hfree).trans ((if_neg (ne_true_of_eq_false hlate)).trans (if_pos hother))

theorem State.startFrom_starts (hrun : s.isRunning = false) (ht : t = s.sched.nextTick) : s.startFrom c t =
    ((s.ownBarrier c true).startLattice).reportTo ((s.ownBarrier c true).startLattice).devNum 0 := by
  rw [State.startFrom_free himage hfree, if_neg (by simp [ht, BitVec.ult]), if_neg (by simp [hrun, ht])]

end HasImage

theorem exec_barrierReport_new {dev : Fin 512} (horigin : s.psg.origin.isSome = true)
    (hnew : s.psg.reports.any (fun r => r.1 == dev.val) = false) (reason : BitVec 8) : exec (.barrierReport dev reason) s =
      .next { s with psg := { s.psg with reports := s.psg.reports ++ [(dev.val, reason.toNat)] } }.judgeBarrier := by
  refine if_neg ?_
  rw [hnew, Option.isNone_iff_eq_none]
  simp [Option.ne_none_iff_isSome.2 horigin]

theorem exec_barrierReport_none (h : s.psg.origin = none) (dev : Fin 512) (reason : BitVec 8) :
    exec (.barrierReport dev reason) s = .next s := if_pos (.inl (by rw [h]; rfl))

theorem exec_latticeBarrierTimeout (horigin : s.psg.origin.isSome = true)
    (hlong : s.psg.barrierSince + 3000000000 ≤ s.sched.now) : exec .latticeBarrierTimeout s = .next (s.endBarrier 0x29) := by
  refine if_neg ?_
  rw [Option.isNone_iff_eq_none]
  simp [Option.ne_none_iff_isSome.2 horigin, Nat.not_lt.2 hlong]

theorem exec_latticeBarrierTimeout_waits (h : s.psg.origin = none ∨ s.sched.now < s.psg.barrierSince + 3000000000) :
    exec .latticeBarrierTimeout s = .next s := if_pos (by rwa [Option.isNone_iff_eq_none])

end Barrier

/-- Settles O36: each row by what the device and the tick are in, the commands by what they meet once they have started.
Where a row does nothing, it does so by log 10; the outcomes of RUN_FROM and RELEASE are log 17, a tag one or two ticks ahead
log 18, and a FAULT that is late log 52. -/
theorem latticeTicksAndBarriers : Obligations.LatticeTicksAndBarriers := by
  unfold Obligations.LatticeTicksAndBarriers
  refine ⟨fun p s => ⟨fun ctx tag flit vals close => ⟨exec_slotFlit_deaf, exec_slotFlit_early, exec_slotFlit_current,
        exec_slotFlit_tooEarly, exec_slotFlit_stale⟩,
      fun flit close => exec_linkTimeout_runs,
      fun flit close hheld hexpected hmissing hpast => ⟨exec_linkTimeout_t3 ⟨hheld, hexpected, hmissing, hpast⟩,
        fun hphase => ⟨exec_linkTimeout_awaited ⟨hheld, hexpected, hmissing, hpast⟩ hphase,
          exec_linkTimeout_unawaited ⟨hheld, hexpected, hmissing, hpast⟩ hphase⟩⟩,
      exec_decisionPoint_meets,
      fun hlattice hlocked hrun hwithin hfresh hmisses => ?decision,
      fun tick => ⟨exec_latticeDone_heard, exec_latticeDone_new⟩,
      fun origin tick time => ⟨fun hdeaf => ⟨fun halt => exec_latticeHold_deaf hdeaf, exec_latticeRelease_deaf hdeaf,
          exec_latticeFault_deaf hdeaf⟩,
        fun halt hhears hnew => ⟨fun hlate => ?holdLate, fun htimely => ⟨fun hstretch => ?hold, fun hhalt => ?holdHalts⟩⟩,
        fun hhears hnew => ⟨fun hrun => ?release, fun hrun himage hholds => ?starts⟩,
        fun hhears hnew hrun => ⟨fun htimely => ?fault, fun hlate => ?faultLate⟩⟩,
      fun w => ⟨fun hdeaf => exec_latticeCredit_deaf hdeaf w, fun hrecv => exec_latticeCredit hrecv w⟩,
      exec_barrierTimeout_notWaiting, exec_barrierTimeout⟩,
    fun s => ⟨fun h => ⟨fun hs => ⟨exec_runFrom_noTarget hs, fun t ht => ?runFrom⟩,
        fun hs => ⟨exec_haltBefore_noTarget hs, fun t ht => ?haltBefore⟩⟩,
      fun dev reason => ⟨fun horigin hnew => exec_barrierReport_new horigin hnew reason,
        fun hnone => exec_barrierReport_none hnone dev reason⟩,
      exec_latticeBarrierTimeout, exec_latticeBarrierTimeout_waits⟩⟩
  case decision =>
    have hdecides : s.AtDecision := ⟨hlattice, hlocked, hrun, hwithin, hfresh, hmisses⟩
    exact ⟨exec_decisionPoint_inTime hdecides, fun hover hfirst => ⟨exec_decisionPoint_fault hdecides hover hfirst,
      exec_decisionPoint_hold hdecides hover hfirst⟩⟩
  case holdLate => exact (exec_latticeHold_new hhears hnew).trans (if_pos hlate)
  case hold =>
    exact (exec_latticeHold_new hhears hnew).trans
      ((if_neg (ne_true_of_eq_false htimely)).trans (if_neg (ne_true_of_eq_false hstretch)))
  case holdHalts =>
    exact (exec_latticeHold_new hhears hnew).trans ((if_neg (ne_true_of_eq_false htimely)).trans (if_pos hhalt))
  case release =>
    refine (exec_latticeRelease_new hhears hnew).trans (if_neg ?_)
    rintro ⟨hhalted, -⟩
    exact absurd hrun (ne_true_of_eq_false hhalted)
  case starts =>
    exact (exec_latticeRelease_new hhears hnew).trans
      ((if_pos ⟨hrun, himage, hholds⟩).trans (apply_ite Host.Outcome.next _ _ _).symm)
  case fault => exact (exec_latticeFault_new hhears hnew hrun).trans (if_neg (ne_true_of_eq_false htimely))
  case faultLate => exact (exec_latticeFault_new hhears hnew hrun).trans (if_pos hlate)
  case runFrom =>
    rw [exec_runFrom_target hs ht]
    exact ⟨fun himage => congrArg _ (State.startFrom_noImage himage),
      fun himage hbusy => congrArg _ (State.startFrom_busy himage hbusy),
      fun himage hfree hlate => congrArg _ (State.startFrom_late himage hfree hlate),
      fun himage hfree hlate hother => congrArg _ (State.startFrom_mismatch himage hfree hlate hother),
      fun himage hfree hrun ht => congrArg _ (State.startFrom_starts himage hfree hrun ht)⟩
  case haltBefore =>
    rw [exec_haltBefore_target hs ht]
    exact ⟨fun himage => congrArg _ (State.haltFrom_noImage himage),
      fun himage hbusy => congrArg _ (State.haltFrom_busy himage hbusy),
      fun himage hfree => ⟨fun hlate => congrArg _ ((State.haltFrom_free himage hfree).trans (if_pos hlate)),
        fun htimely => congrArg _ ((State.haltFrom_free himage hfree).trans (if_neg (ne_true_of_eq_false htimely)))⟩⟩

end Sys2Proof.Machine

/-! Staging and verification of images (05, R155; 08, R224 to R232). -/

namespace Sys2Proof.Machine

section Staging

variable {s : State}

/-! IMAGE_STAGE (R224, R225, R228, R261). -/

/-- Does the host fault within the list of a stage? -/
theorem faultsWithin_iff (buf : HostBuf) :
    buf.fault.any (fun a => Nat.blt a buf.len) = true ↔ ∃ a, buf.fault = some a ∧ a < buf.len := by
  cases buf.fault <;> simp

section Command

variable {h : Hdr} {src : StageSource} {len : BitVec 64} {b14 s14 b15 s15 : BitVec 16}

theorem exec_imageStage_served (hs : s.serves (.imageStage h src len b14 s14 b15 s15) = true) :
    exec (.imageStage h src len b14 s14 b15 s15) s = .next (
      let u := s.begunBy (.imageStage h src len b14 s14 b15 s15)
      let r : StageRegs := ⟨b14.toNat, s14.toNat, b15.toNat, s15.toNat⟩
      if u.imgState = 3 ∨ 6 ≤ u.imgState ∨ u.imgHeld then u.complete (cmdOf h) 4
      else if len = 0 then (u.completeOpt u.img.cmd 0x2B).toEmpty.complete (cmdOf h) 0
      else if !src.chain && u.part.chainRole then u.complete (cmdOf h) 0x0B
      else if u.imgState = 1 then u.complete (cmdOf h) 4
      else if r.unusable ∨ (src.chain ∧ u.bit R.IMG_CHAIN F.IMG_CHAIN_IN_VALID = false) then u.complete (cmdOf h) 2
      else if u.stageOverlap r then u.complete (cmdOf h) 0x18
      else if !src.chain && src.sgl && src.buf.fault.any (fun a => Nat.blt a src.buf.len) then u.complete (cmdOf h) 0x33
      else u.startStage src.chain len.toNat r (some (cmdOf h)) (stageBytes src.sgl src.buf)) := by
  rw [show exec (.imageStage h src len b14 s14 b15 s15) s = execImageStage h src len b14 s14 b15 s15 s from rfl,
    execImageStage]
  exact State.command_of_form (F := { hdr := h, needs := s.stageNeeds src.chain, cls := .long, buf := src.buf }) _ rfl hs

end Command

/-! Bytes from the host (R224 to R229). -/

section Arrival

variable {bs : List Byte}

section Other

variable (htakes : s.takesHost = false)
include htakes

theorem exec_headerArrival_other : exec (.headerArrival bs) s = .next s := if_pos htakes

theorem exec_stageSpaceCheck_other : exec (.stageSpaceCheck bs) s = .next s := if_pos htakes

theorem exec_stageEnd_other : exec (.stageEnd bs) s = .next s := if_pos htakes

end Other

section Takes

variable (htakes : s.takesHost = true)
include htakes

theorem exec_headerArrival_takes :
    exec (.headerArrival bs) s = .next (s.hostBytesIn bs).flushStage.checkHeader.flushStage :=
  if_neg (ne_false_of_eq_true htakes)

theorem exec_stageSpaceCheck_takes :
    exec (.stageSpaceCheck bs) s = .next (s.hostBytesIn bs).flushStage.checkSpace.flushStage :=
  if_neg (ne_false_of_eq_true htakes)

theorem exec_stageEnd_takes : exec (.stageEnd bs) s = .next (
    let v := ((s.hostBytesIn bs).flushStage.checkHeader.checkSpace).flushStage
    { v with img := { v.img with stream := none } }.endStage) :=
  if_neg (ne_false_of_eq_true htakes)

end Takes

theorem State.endStage_other (h : s.imgState ≠ 1) : s.endStage = s := if_pos h

theorem State.endStage_whole (h : s.imgState = 1) (hspace : s.img.spaceOk = true)
    (hall : s.img.declared ≤ s.img.received) : s.endStage = s.staged :=
  (if_neg (not_not_intro h)).trans (if_pos (by simp [hspace, hall]))

/-- A stage that has not all of its image fails from the host, and from the chain waits for more. -/
theorem State.endStage_short (h : s.imgState = 1) (hshort : s.img.spaceOk = false ∨ s.img.received < s.img.declared) :
    s.endStage = if s.fromChain then s else s.stageFail 0x03 := by
  have hnot : ¬(s.img.spaceOk && Nat.ble s.img.declared s.img.received) = true := by
    rcases hshort with hspace | hless
    · simp [hspace]
    · simp [hless]
  exact (if_neg (not_not_intro h)).trans (if_neg hnot)

end Arrival

/-! Bytes from the chain (R155, R227). -/

section Chain

variable {p : PortNo} {off : BitVec 40} {bs : List Byte}

theorem exec_imageBurst_deaf (h : s.receives p.val = false) : exec (.imageBurst p off bs) s = .next s :=
  if_pos (.inr (.inr h))

theorem exec_imageBurst_chainIn (hvalid : s.bit R.IMG_CHAIN F.IMG_CHAIN_IN_VALID = true)
    (hport : s.fld R.IMG_CHAIN F.IMG_CHAIN_IN_PORT = p.val) (hrecv : s.receives p.val = true) :
    exec (.imageBurst p off bs) s = .next ((s.streamOut off.toNat bs).ownBurst off.toNat bs) :=
  if_neg (by simp [hvalid, hport, hrecv])

theorem exec_stageTimeout_other (h : s.imgState ≠ 1) : exec .stageTimeout s = .next s := if_neg fun hc => h hc.1

theorem exec_stageTimeout_silent (h : s.imgState = 1) (hchain : s.fromChain = true)
    (hsilent : s.img.lastBurst + 150000000 ≤ s.sched.now)
    (hshort : s.img.headerOk = false ∨ s.img.received < s.img.declared) :
    exec .stageTimeout s = .next (s.stageFail 0x03) := if_pos ⟨h, hchain, hsilent, hshort⟩

end Chain

end Staging

section Verification

variable {s : State}

/-! IMAGE_VERIFY (R228, R230). -/

section Command

variable {h : Hdr} {c : CmdId}

/-- IMAGE_VERIFY by the state of the staged image. -/
def State.verifyImage (s : State) (c : CmdId) : State :=
  if s.imgState = 4 ∧ s.imgHeld = false then s.complete c 0 (BitVec.ofNat 64 (leNat (s.img.measurement.take 8)))
  else if s.imgState = 3 ∨ 6 ≤ s.imgState ∨ s.imgHeld = true then s.complete c 4
  else if s.imgState = 2 then { s with img := { s.img with verifyCmd := some c } }.setImgState 3
  else s.complete c 9

theorem exec_imageVerify_served (hs : s.serves (.imageVerify h) = true) :
    exec (.imageVerify h) s = .next ((s.begunBy (.imageVerify h)).verifyImage (cmdOf h)) := by
  rw [show exec (.imageVerify h) s = execImageVerify h s from rfl, execImageVerify]
  exact State.command_of_form (F := { hdr := h, needs := chanBits, cls := .long }) _ rfl hs

theorem State.verifyImage_busy (h : s.imgState = 3 ∨ 6 ≤ s.imgState ∨ s.imgHeld = true) :
    s.verifyImage c = s.complete c 4 := by
  refine (if_neg ?_).trans (if_pos h)
  rintro ⟨hverified, hfree⟩
  simp [hverified, hfree] at h

variable (hfree : s.imgHeld = false)
include hfree

theorem State.verifyImage_verified (h : s.imgState = 4) : s.verifyImage c =
    s.complete c 0 (BitVec.ofNat 64 (leNat (s.img.measurement.take 8))) := if_pos ⟨h, hfree⟩

theorem State.verifyImage_staged (h : s.imgState = 2) : s.verifyImage c =
    { s with img := { s.img with verifyCmd := some c } }.setImgState 3 := by
  simp only [State.verifyImage, h, hfree]
  rfl

theorem State.verifyImage_other (h : s.imgState ≤ 1 ∨ s.imgState = 5) : s.verifyImage c = s.complete c 9 := by
  have hnone : s.imgState ≠ 4 ∧ ¬(s.imgState = 3 ∨ 6 ≤ s.imgState) ∧ s.imgState ≠ 2 := by omega
  obtain ⟨hverified, hbusy, hstaged⟩ := hnone
  rw [State.verifyImage, if_neg fun hc => hverified hc.1, if_neg, if_neg hstaged]
  rw [← or_assoc, not_or]
  exact ⟨hbusy, ne_true_of_eq_false hfree⟩

end Command

/-! The end of the checks, and the results of a chain (R230, R232). -/

theorem exec_verifyEnd_other (h : s.imgState ≠ 3 ∨ s.img.waiting = true) (golden : Bool) :
    exec (.verifyEnd golden) s = .next s := if_pos h

theorem exec_verifyEnd_judges (h : s.imgState = 3) (hfirst : s.img.waiting = false) (golden : Bool) :
    exec (.verifyEnd golden) s = .next ((s.verifyAll golden).2.ownVerdict (s.verifyAll golden).1) :=
  if_neg (by simp [h, hfirst])

section Results

variable {pos : Fin 512}

theorem exec_chainResult_again (h : s.img.results.any (fun r => r.1 == pos.val) = true) (reason : BitVec 8) (loc : Word) :
    exec (.chainResult pos reason loc) s = .next s := if_pos h

theorem exec_chainResult_first (h : s.img.results.any (fun r => r.1 == pos.val) = false) (reason : BitVec 8) (loc : Word) :
    exec (.chainResult pos reason loc) s =
      .next { s with img := { s.img with results := s.img.results ++ [(pos.val, reason.toNat, loc)] } }.judgeChain :=
  if_neg (ne_true_of_eq_false h)

theorem exec_chainTimeout_waits (h : s.img.waiting = false ∨ s.sched.now < s.img.verifyAt + 3000000000) :
    exec .chainTimeout s = .next s := if_pos h

theorem exec_chainTimeout_silent {n : Nat} (hwaits : s.img.waiting = true)
    (hlong : s.img.verifyAt + 3000000000 ≤ s.sched.now)
    (hsilent : s.positions.find? (fun p => !s.img.results.any (fun r => r.1 == p)) = some n) :
    exec .chainTimeout s = .next ((s.setReason { reason := 0x16 } n).verifyFailed 0x16) := by
  rw [show exec .chainTimeout s = execChainTimeout s from rfl, execChainTimeout,
    if_neg (by simp [hwaits, Nat.not_lt.2 hlong]), hsilent]

end Results

end Verification

/-- Settles O37: each row by the state of the staged image. Where a row does nothing, it does so by log 10; a head that stays
in verification until its chain answers, a chained stage without a port and a stage that fails and forwards are log 19. -/
theorem imagesAreStagedAndVerified : Obligations.ImagesAreStagedAndVerified := by
  unfold Obligations.ImagesAreStagedAndVerified
  refine fun s => ⟨fun h src len b14 s14 b15 s15 hs => ?stage,
    fun bs => ⟨fun htakes => ⟨exec_headerArrival_other htakes, exec_stageSpaceCheck_other htakes,
        exec_stageEnd_other htakes⟩,
      fun htakes => ⟨exec_headerArrival_takes htakes, exec_stageSpaceCheck_takes htakes, ?stageEnd⟩,
      fun p off => ⟨exec_imageBurst_deaf, exec_imageBurst_chainIn⟩⟩,
    exec_stageTimeout_other, exec_stageTimeout_silent, fun h hs => ?verify,
    fun golden => ⟨fun hother => exec_verifyEnd_other hother golden, fun hstate hfirst => ?verdict⟩,
    fun pos reason loc => ⟨fun hagain => exec_chainResult_again hagain reason loc,
      fun hfirst => exec_chainResult_first hfirst reason loc⟩,
    exec_chainTimeout_waits, fun n => exec_chainTimeout_silent⟩
  case stage =>
    refine (exec_imageStage_served hs).trans (congrArg Host.Outcome.next ?_)
    refine if_congr Iff.rfl rfl (if_congr Iff.rfl rfl (if_congr ?role rfl (if_congr Iff.rfl rfl (if_congr Iff.rfl rfl
      (if_congr Iff.rfl rfl (if_congr ?fault rfl rfl))))))
    case role => rw [Bool.and_eq_true, Bool.not_eq_true']
    case fault => rw [Bool.and_eq_true, Bool.and_eq_true, Bool.not_eq_true', faultsWithin_iff, and_assoc]
  case stageEnd =>
    rw [exec_stageEnd_takes htakes]
    exact ⟨fun hother => congrArg _ (State.endStage_other hother),
      fun hstate hspace hall => congrArg _ (State.endStage_whole hstate hspace hall),
      fun hstate hshort => ⟨fun hhost => congrArg _ ((State.endStage_short hstate hshort).trans
          (if_neg (ne_true_of_eq_false hhost))),
        fun hchain => congrArg _ ((State.endStage_short hstate hshort).trans (if_pos hchain))⟩⟩
  case verify =>
    rw [exec_imageVerify_served hs]
    exact ⟨fun hbusy => congrArg _ (State.verifyImage_busy hbusy),
      fun hfree => ⟨fun hverified => congrArg _ (State.verifyImage_verified hfree hverified),
        fun hstaged => congrArg _ (State.verifyImage_staged hfree hstaged),
        fun hother => congrArg _ (State.verifyImage_other hfree hother)⟩⟩
  case verdict =>
    rw [exec_verifyEnd_judges hstate hfirst]
    cases (s.verifyAll golden).1 <;> rfl

end Sys2Proof.Machine

/-! Echo's captures: the sequencer, the window, arming and the ring (06, R164 to R172; 09, R265, R266). -/

namespace Sys2Proof.Machine

section Echo

variable {s : State}

/-! The sequencer and the window (R170 to R172). -/

theorem exec_sequencerStageComplete_idle (h : s.echo.stageDue = false ∨ s.sched.phase ≠ .t5) :
    exec .sequencerStageComplete s = .next s := if_pos h

/-- A stage that is complete at T5 gives way to the next one, or fires if it is the last. -/
theorem exec_sequencerStageComplete_due (hdue : s.echo.stageDue = true) (hphase : s.sched.phase = .t5) :
    exec .sequencerStageComplete s = .next (
      let u := if s.stages ≤ s.echo.stage + 1 then
          { s with echo := { s.echo with stageDue := false, count := 0 } }.fire
        else { s with echo := { s.echo with stageDue := false, count := 0, stage := s.echo.stage + 1 } }
      (u.onRecord (fun r => { r with stage := u.shownStage })).afterBoundary) := by
  rw [show exec .sequencerStageComplete s = execSequencerStageComplete s from rfl, execSequencerStageComplete,
    if_neg (by simp [hdue, hphase])]
  by_cases hlast : s.stages ≤ s.echo.stage + 1
  · simp only [Nat.ble_eq_true_of_le hlast, if_pos hlast, if_true]
  · simp only [Nat.ble_eq, if_neg hlast]

theorem exec_windowDone_idle (h : s.echo.windowDue = false ∨ s.echo.recs ≠ []) : exec .windowDone s = .next s :=
  if_pos (h.imp_right List.isEmpty_eq_false_iff.2)

theorem exec_windowDone_ends (hdue : s.echo.windowDue = true) (hrecs : s.echo.recs = []) :
    let u := { s with echo := { s.echo with windowDue := false } }
    exec .windowDone s = .next (((u.raise R.ECHO_STATUS F.ECHO_STATUS_FROZEN).raise R.ECHO_STATUS
      F.ECHO_STATUS_WINDOW_DONE).cicEvent 25) := if_neg (by simp [hdue, hrecs])

/-! Arming and disarming (R164, R265). -/

section Apply

variable {p : Pending} (hengine : s.sched.engine = false) (hstage : s.echo.stageDue = false ∨ s.sched.phase ≠ .t5)
  (hp : s.nextDue = some p)
include hengine hstage hp

theorem exec_echoArmApply_arm {b : List Byte} (hact : p.act = .arm b) :
    let u := s.dropPending p
    (u.armFail b = none → exec .echoArmApply s =
      .next ((u.arm b).completeOpt p.cmd 0 (BitVec.ofNat 64 (u.recMax * 64))).afterBoundary) ∧
    (∀ st, u.armFail b = some st → exec .echoArmApply s = .next (u.completeOpt p.cmd st).afterBoundary) := by
  rw [show exec .echoArmApply s = execEchoArmApply s from rfl, execEchoArmApply,
    State.turn_of_next hengine hstage hp (by rw [hact])]
  dsimp only
  rw [hact]
  dsimp only
  exact ⟨fun hok => by rw [hok], fun st hfail => by rw [hfail]⟩

theorem exec_echoArmApply_disarms (hact : p.act = .disarm) :
    exec .echoArmApply s = .next ((s.dropPending p).beginDisarm p.cmd).afterBoundary := by
  rw [show exec .echoArmApply s = execEchoArmApply s from rfl, execEchoArmApply,
    State.turn_of_next hengine hstage hp (by rw [hact])]
  dsimp only
  rw [hact]

end Apply

section Commands

variable {h : Hdr} {buf : HostBuf} {c : CmdId}

/-- An arm block that was read is checked and waits for its boundary. -/
def State.judgeArm (s : State) (c : CmdId) (target : Option (BitVec 64)) (b : List Byte) : State :=
  match s.armFail b with
  | some st => s.complete c st
  | none => s.awaitCmd (.arm b) target c

theorem State.judgeArm_fails {target : Option (BitVec 64)} {b : List Byte} {st : Nat} (hfail : s.armFail b = some st) :
    s.judgeArm c target b = s.complete c st := by rw [State.judgeArm, hfail]

theorem State.judgeArm_waits {target : Option (BitVec 64)} {b : List Byte} (hok : s.armFail b = none) :
    s.judgeArm c target b = s.awaitCmd (.arm b) target c := by rw [State.judgeArm, hok]

theorem exec_echoArm_armed (hs : s.serves (.echoArm h buf) = true) (harmed : (s.begunBy (.echoArm h buf)).armed = true) :
    exec (.echoArm h buf) s = .next ((s.begunBy (.echoArm h buf)).complete (cmdOf h) 4) := by
  rw [show exec (.echoArm h buf) s = execEchoArm h buf s from rfl, execEchoArm]
  exact (State.command_of_form (F := { hdr := h, target := true, needs := chanBits, buf := buf }) _ rfl hs).trans
    (congrArg Host.Outcome.next (if_pos harmed))

theorem hostBytes_of_noFault {n : Nat} (hlen : n ≤ buf.len) (hfault : buf.fault = none) :
    hostBytes buf n = .inr (buf.bytes.take n) := by simp [hostBytes, hfault, Nat.not_lt.2 hlen]

theorem exec_echoArm_judged (hs : s.serves (.echoArm h buf) = true)
    (harmed : (s.begunBy (.echoArm h buf)).armed = false) (hlen : 3136 ≤ buf.len) (hfault : buf.fault = none) :
    exec (.echoArm h buf) s =
      .next ((s.begunBy (.echoArm h buf)).judgeArm (cmdOf h) h.target (buf.bytes.take 3136)) := by
  rw [show exec (.echoArm h buf) s = execEchoArm h buf s from rfl, execEchoArm]
  refine (State.command_of_form (F := { hdr := h, target := true, needs := chanBits, buf := buf }) _ rfl hs).trans
    (congrArg Host.Outcome.next ?_)
  rw [if_neg (ne_true_of_eq_false harmed), hostBytes_of_noFault hlen hfault]
  rfl

theorem exec_echoDisarm_served (hs : s.serves (.echoDisarm h) = true) : exec (.echoDisarm h) s = .next (
    let u := s.begunBy (.echoDisarm h)
    if u.armed = false then u.complete (cmdOf h) 0x17
    else if h.target.isSome then u.awaitCmd .disarm h.target (cmdOf h)
    else u.beginDisarm (some (cmdOf h))) := by
  rw [show exec (.echoDisarm h) s = execEchoDisarm h s from rfl, execEchoDisarm]
  exact State.command_of_form (F := { hdr := h, target := true, needs := chanBits }) _ rfl hs

/-! The trigger from the host (R170, R266). -/

/-- FIRE makes the HOST input 1. -/
def State.hostFires (s : State) (fire : Bool) : State :=
  if fire then { s with echo := { s.echo with hostTrig := true } } else s

/-- ECHO_TRIGGER answers the status, the stage and the tick of the trigger. -/
def State.reportTrigger (s : State) (c : CmdId) : State :=
  s.complete c 0 (BitVec.ofNat 64 ((s.reg R.ECHO_STATUS).toNat + s.shownStage * 2 ^ 32))
    (BitVec.ofNat 64 ((s.reg R.ECHO_TRIG_TICK_LO).toNat + (s.reg R.ECHO_TRIG_TICK_HI).toNat * 2 ^ 32))

theorem exec_echoTrigger_served {fire : Bool} (hs : s.serves (.echoTrigger h fire) = true) :
    exec (.echoTrigger h fire) s = .next (
      let u := s.begunBy (.echoTrigger h fire)
      if u.armed = false then u.complete (cmdOf h) 0x17 else (u.hostFires fire).reportTrigger (cmdOf h)) := by
  rw [show exec (.echoTrigger h fire) s = execEchoTrigger h fire s from rfl, execEchoTrigger]
  exact State.command_of_form (F := { hdr := h, cls := .prompt }) _ rfl hs

/-! Reading the ring (R266). -/

/-- ECHO_READ of ring bytes that are ready: to the host, unless one is uncorrectable. -/
def State.answerRing (s : State) (c : CmdId) (a : Nat) (consume : Bool) (n : Nat) : State :=
  let r := s.ringBytes a n
  if r.2.1 then r.2.2.complete c 0x22
  else
    let v := r.2.2.toHost c r.1
    let w := if consume && v.stream then
      v.put R.ECHO_RD_PTR F.ECHO_RD_PTR_OFFSET ((a + n) % s.regionSize 12 / 64) else v
    w.complete c 0 (BitVec.ofNat 64 (w.reg R.ECHO_WR_PTR).toNat)

/-- ECHO_READ, once it has started. -/
def State.readRing (s : State) (c : CmdId) (a : Nat) (consume : Bool) (buf : HostBuf) : State :=
  if s.armed = false then s.complete c 0x17
  else if a % 64 ≠ 0 ∨ s.regionSize 12 ≤ a ∨ 2 ^ 20 < buf.len ∨ s.regionSize 12 < buf.len ∨
    (consume ∧ s.stream ∧ buf.len % 64 ≠ 0) then s.complete c 2
  else if s.ringReady a buf.len = false then s.complete c 0x24
  else if buf.faults then s.complete c 0x33
  else s.answerRing c a consume buf.len

theorem exec_echoRead_served {off : BitVec 64} {consume : Bool} (hs : s.serves (.echoRead h off consume buf) = true) :
    exec (.echoRead h off consume buf) s =
      .next ((s.begunBy (.echoRead h off consume buf)).readRing (cmdOf h) off.toNat consume buf) := by
  rw [show exec (.echoRead h off consume buf) s = execEchoRead h off consume buf s from rfl, execEchoRead]
  exact State.command_of_form (F := { hdr := h, buf := buf }) _ rfl hs

section Range

variable {a : Nat} {consume : Bool} (harmed : s.armed = true) (halign : a % 64 = 0) (hstart : a < s.regionSize 12)
  (hmax : buf.len ≤ 2 ^ 20) (hring : buf.len ≤ s.regionSize 12)
  (hconsume : (consume && s.stream) = true → buf.len % 64 = 0)
include harmed halign hstart hmax hring hconsume

/-- A range that suits the ring is read if its channels are ready. -/
theorem State.readRing_inRange : s.readRing c a consume buf =
    if s.ringReady a buf.len = false then s.complete c 0x24
    else if buf.faults then s.complete c 0x33 else s.answerRing c a consume buf.len := by
  have hallowed : ¬(a % 64 ≠ 0 ∨ s.regionSize 12 ≤ a ∨ 2 ^ 20 < buf.len ∨ s.regionSize 12 < buf.len ∨
      (consume = true ∧ s.stream = true ∧ buf.len % 64 ≠ 0)) := by
    rintro (halign' | hstart' | hmax' | hring' | ⟨hc, hstream, hend⟩)
    · exact halign' halign
    · exact Nat.not_le.2 hstart hstart'
    · exact Nat.not_lt.2 hmax hmax'
    · exact Nat.not_lt.2 hring hring'
    · exact hend (hconsume (by rw [hc, hstream]; rfl))
  rw [State.readRing, if_neg (by simp [harmed]), if_neg hallowed]

theorem State.readRing_notReady (hready : s.ringReady a buf.len = false) :
    s.readRing c a consume buf = s.complete c 0x24 := by
  rw [State.readRing_inRange harmed halign hstart hmax hring hconsume, if_pos hready]

theorem State.readRing_ready (hready : s.ringReady a buf.len = true) (hfault : buf.fault = none) :
    s.readRing c a consume buf = s.answerRing c a consume buf.len := by
  rw [State.readRing_inRange harmed halign hstart hmax hring hconsume, if_neg (by simp [hready]),
    if_neg (by simp [(HostBuf.whole hfault).1])]

end Range

end Commands

end Echo

end Sys2Proof.Machine

/-! Snapshots and restores (06, R177 to R183). -/

namespace Sys2Proof.Machine

section Snapshots

variable {s : State}

/-! The phases of a snapshot (R179, R181). -/

theorem exec_snapshotPhases_none (h : s.echo.snap = none) : exec .snapshotShadowEnd s = .next s ∧
    exec .snapshotCopyEnd s = .next s ∧ exec .snapDone s = .next s := by
  refine ⟨?_, ?_, ?_⟩
  · rw [show exec .snapshotShadowEnd s = execSnapshotShadowEnd s from rfl, execSnapshotShadowEnd, h]
  · rw [show exec .snapshotCopyEnd s = execSnapshotCopyEnd s from rfl, execSnapshotCopyEnd, h]
  · rw [show exec .snapDone s = execSnapDone s from rfl, execSnapDone, h]

section Phases

variable {j : SnapJob}

/-- The slot of a snapshot that has drained: its sections, and last its header with the digest of what it covers (R179). -/
def State.writeSlot (s : State) (j : SnapJob) : State :=
  let w := (snapSections j).foldl (fun t e => t.dsPut (j.base + e.1) e.2)
    (s.dsZero j.base (j.base + 0x6000000 + j.emuLen))
  w.dsWriteUp j.base (snapHeader j (shake32 (w.covered j.base j.emuLen)))

/-- A snapshot that is done leaves Echo, and its slot and tick show (R179). -/
def State.closeSnap (s : State) (j : SnapJob) : State :=
  let y := { s with echo := { s.echo with snap := none } }.snapEnded j.slot 1
  (y.put R.SNAP_TICK_LO F.SNAP_TICK_LO_TICK j.nextTick.toNat).put R.SNAP_TICK_HI F.SNAP_TICK_HI_TICK
    (j.nextTick.toNat / 2 ^ 32)

variable (hj : s.echo.snap = some j)
include hj

theorem exec_snapshotShadowEnd_some : exec .snapshotShadowEnd s =
    if j.phase ≠ 1 then .next s
    else if s.fab.isolated.isEmpty = false then .next s.abortSnap
    else .next (((s.setSnap { j with phase := 2 }).put R.SNAP_STATUS F.SNAP_STATUS_SHADOW 0).raise
      R.SNAP_STATUS F.SNAP_STATUS_COPYING) := by
  rw [show exec .snapshotShadowEnd s = execSnapshotShadowEnd s from rfl, execSnapshotShadowEnd, hj]

theorem exec_snapshotCopyEnd_some : exec .snapshotCopyEnd s =
    if j.phase ≠ 2 then .next s else .next (s.copyEnd j) := by
  rw [show exec .snapshotCopyEnd s = execSnapshotCopyEnd s from rfl, execSnapshotCopyEnd, hj]

theorem exec_snapDone_some : exec .snapDone s =
    if j.phase ≠ 3 then .next s
    else .next (((((s.writeSlot j).closeSnap j).cicEvent 27).completeOpt j.cmd 0
      (BitVec.ofNat 64 j.nextTick.toNat)).disarmIfIdle) := by
  rw [show exec .snapDone s = execSnapDone s from rfl, execSnapDone, hj]
  rfl

theorem exec_snapshotShadowEnd_copies (hphase : j.phase = 1) (hgals : s.fab.isolated = []) :
    exec .snapshotShadowEnd s = .next (((s.setSnap { j with phase := 2 }).put R.SNAP_STATUS F.SNAP_STATUS_SHADOW 0).raise
      R.SNAP_STATUS F.SNAP_STATUS_COPYING) := by
  rw [exec_snapshotShadowEnd_some hj, if_neg (not_not_intro hphase), if_neg (by simp [hgals])]

/-- A gallery in isolation ends the snapshot in its first phase (R181). -/
theorem exec_snapshotShadowEnd_isolated (hphase : j.phase = 1) (hgals : s.fab.isolated ≠ []) :
    exec .snapshotShadowEnd s = .next s.abortSnap := by
  rw [exec_snapshotShadowEnd_some hj, if_neg (not_not_intro hphase), if_pos (List.isEmpty_eq_false_iff.2 hgals)]

end Phases

/-! SNAPSHOT and its boundary (R178, R179, R181). -/

section Boundary

/-- A snapshot that comes due while another is in progress: BUSY, or SKIPPED if the trigger asked for it (R181). -/
def State.skipSnap (s : State) : Option CmdId → State
  | some c => s.complete c 4
  | none => s.put R.SNAP_STATUS F.SNAP_STATUS_RESULT 3

/-- A snapshot at its boundary. -/
def State.dueSnap (s : State) (slot : Nat) (emu : Bool) (cmd : Option CmdId) : State :=
  if s.armed = false then s.completeOpt cmd 0x17
  else if s.echo.snap.isSome then s.skipSnap cmd
  else s.takeSnap slot emu cmd

section Due

variable {slot : Nat} {emu : Bool} {cmd : Option CmdId}

theorem State.dueSnap_disarmed (h : s.armed = false) : s.dueSnap slot emu cmd = s.completeOpt cmd 0x17 := if_pos h

theorem State.dueSnap_busy (h : s.armed = true) (hsnap : s.echo.snap.isSome = true) :
    s.dueSnap slot emu cmd = s.skipSnap cmd := by
  rw [State.dueSnap, if_neg (by simp [h]), if_pos hsnap]

theorem State.dueSnap_taken (h : s.armed = true) (hsnap : s.echo.snap = none) :
    s.dueSnap slot emu cmd = s.takeSnap slot emu cmd := by
  rw [State.dueSnap, if_neg (by simp [h]), if_neg (by simp [hsnap])]

end Due

/-! RESTORE at its boundary (R182, R183). -/

/-- A restore that is due halts a device that runs (R183). -/
def State.haltIfRunning (s : State) : State := if s.sched.running then s.haltNow else s

/-- The state after the snapshot at `a` was read. -/
def State.snapRead (s : State) (a : Nat) : State := s.readErrors a (snapEmuLen (s.dsBytes a 128))

section Turn

variable {p : Pending} (hengine : s.sched.engine = false) (hstage : s.echo.stageDue = false ∨ s.sched.phase ≠ .t5)
  (hp : s.nextDue = some p)
include hengine hstage hp

theorem exec_snapshotTake_due {slot : Nat} {emu : Bool} (hact : p.act = .snapshot slot emu) :
    exec .snapshotTake s = .next ((s.dropPending p).dueSnap slot emu p.cmd).afterBoundary := by
  rw [show exec .snapshotTake s = execSnapshotTake s from rfl, execSnapshotTake,
    State.turn_of_next hengine hstage hp (by rw [hact])]
  dsimp only
  rw [hact, State.dueSnap, apply_ite State.afterBoundary, apply_ite Host.Outcome.next, apply_ite State.afterBoundary,
    apply_ite Host.Outcome.next]
  cases p.cmd <;> rfl

/-- A restore that is due: refused without an image or for what its snapshot shows, else it gives the device the next tick
and the context of the snapshot, keeps no record of the lattice's from the abandoned run (log 52), and sets the engine to
work on the load. -/
theorem exec_restoreApply_due {a : Nat} {resume : Bool} (hact : p.act = .restore a resume) :
    let u := (s.dropPending p).haltIfRunning
    let v := u.snapRead a
    (u.hasImage = false → exec .restoreApply s = .next (u.completeOpt p.cmd 6).afterBoundary) ∧
    (u.hasImage = true →
      (∀ st, v.restoreFail a = some st → exec .restoreApply s = .next (v.completeOpt p.cmd st).afterBoundary) ∧
      (v.restoreFail a = none → ∃ t, exec .restoreApply s = .next t ∧
        t.sched.nextTick = BitVec.ofNat 64 (armNat (v.dsBytes a 128) 8 8) ∧
        t.sched.ctx = armNat (v.dsBytes a 128) 0x18 1 ∧ t.sched.restored = true ∧ t.sched.engine = true ∧
        t.sched.restoreCmd = p.cmd ∧ t.sched.restoreResume = resume ∧ t.rim.restorePulse = 4 ∧
        t.psg.early = [] ∧ t.psg.holds = [])) := by
  rw [show exec .restoreApply s = execRestoreApply s from rfl, execRestoreApply,
    State.turn_of_next hengine hstage hp (by rw [hact])]
  dsimp only
  rw [hact]
  dsimp only
  rw [← State.haltIfRunning, ← State.snapRead]
  refine ⟨fun himage => if_pos himage, fun himage => ?_⟩
  rw [if_neg (ne_false_of_eq_true himage)]
  refine ⟨fun st hfail => by rw [hfail], fun hok => ?_⟩
  rw [hok]
  exact ⟨_, rfl, rfl, rfl, rfl, rfl, rfl, rfl, rfl, rfl, rfl⟩

end Turn

end Boundary

section Commands

variable {h : Hdr} {slot : BitVec 8} {addr : BitVec 64} {resume : Bool}

theorem exec_snapshot_served (hs : s.serves (.snapshot h slot) = true) : exec (.snapshot h slot) s = .next (
    let u := s.begunBy (.snapshot h slot)
    if u.armed = false then u.complete (cmdOf h) 0x17
    else if u.fld R.ECHO_CTL F.ECHO_CTL_SNAP_SLOTS ≤ slot.toNat then u.complete (cmdOf h) 0x19
    else if u.echo.snap.isSome then u.complete (cmdOf h) 4
    else u.awaitCmd (.snapshot slot.toNat (u.echo.emuMask != 0)) h.target (cmdOf h)) := by
  rw [show exec (.snapshot h slot) s = execSnapshot h slot s from rfl, execSnapshot]
  exact State.command_of_form (F := { hdr := h, target := true, needs := chanBits, cls := .long }) _ rfl hs

/-- An address that RESTORE takes (R182, log 21). -/
theorem State.restoreAddr_allowed {a : Nat} (halign : a % 2 ^ 24 = 0) (hlow : a < 2 ^ 35)
    (hplace : s.inRegion 13 a = true ∨ s.kindAt a = 0) :
    ¬(a % 2 ^ 24 ≠ 0 ∨ 2 ^ 35 ≤ a ∨ (!(s.inRegion 13 a || s.kindAt a == 0)) = true) := by
  rintro (halign' | hlow' | hplace')
  · exact halign' halign
  · exact Nat.not_le.2 hlow hlow'
  · rw [Bool.not_eq_true', Bool.or_eq_false_iff, beq_eq_false_iff_ne] at hplace'
    exact hplace.elim (fun h => by simp [h] at hplace') hplace'.2

theorem exec_restore_served (hs : s.serves (.restore h addr resume) = true) : exec (.restore h addr resume) s = .next (
    let u := s.begunBy (.restore h addr resume)
    let a := addr.toNat
    if u.hasImage = false then u.complete (cmdOf h) 6
    else if a % 2 ^ 24 ≠ 0 ∨ 2 ^ 35 ≤ a ∨ !(u.inRegion 13 a || u.kindAt a == 0) then u.complete (cmdOf h) 2
    else u.awaitCmd (.restore a resume) h.target (cmdOf h)) := by
  rw [show exec (.restore h addr resume) s = execRestore h addr resume s from rfl, execRestore]
  exact State.command_of_form (F := { hdr := h, target := true, needs := chanBits }) _ rfl hs

end Commands

end Snapshots

/-- Settles O27: each row by the state of Echo, of the snapshot in progress or of the action that is due, the commands by
what they meet once they have started. Where a row does nothing, it does so by log 10; what arming resets, what a snapshot
copies and where a restore may read are log 21, and that a restore forgets the lattice's records of the abandoned run is
log 52. -/
theorem echoCapturesAndSnapshots : Obligations.EchoCapturesAndSnapshots := by
  unfold Obligations.EchoCapturesAndSnapshots
  refine ⟨fun s => ⟨fun hdue hphase hmore => ?advances, fun hdue hphase hlast => ?fires,
      exec_sequencerStageComplete_idle, exec_windowDone_ends, exec_windowDone_idle,
      fun p hengine hstage hp => ⟨fun b hact => exec_echoArmApply_arm hengine hstage hp hact,
        exec_echoArmApply_disarms hengine hstage hp⟩,
      fun h => ⟨fun buf hs => ⟨exec_echoArm_armed hs, fun harmed hlen hfault => ?arm⟩, fun hs => ?disarm,
        fun fire hs => ?trigger, fun off consume buf hs => ?read⟩⟩,
    fun s => ⟨exec_snapshotPhases_none, fun j hj => ⟨exec_snapshotShadowEnd_copies hj, exec_snapshotShadowEnd_isolated hj,
        fun hphase => ?copied, fun hphase => ?drained, fun hphase => ?notShadowing, fun hphase => ?notCopying,
        fun hphase => ?notDraining⟩,
      rfl,
      fun p hengine hstage hp => ⟨fun slot emu hact => ?take, fun a resume hact =>
        exec_restoreApply_due hengine hstage hp hact⟩,
      fun h => ⟨fun slot hs => ?snapshot, fun addr resume hs => ?restore⟩⟩⟩
  case advances =>
    rw [exec_sequencerStageComplete_due hdue hphase, if_neg (Nat.not_le.2 hmore)]
  case fires =>
    rw [exec_sequencerStageComplete_due hdue hphase, if_pos hlast]
  case arm =>
    rw [exec_echoArm_judged hs harmed hlen hfault]
    exact ⟨fun st hfail => congrArg _ (State.judgeArm_fails hfail), fun hok => congrArg _ (State.judgeArm_waits hok)⟩
  case disarm =>
    rw [exec_echoDisarm_served hs]
    cases h.target <;> rfl
  case trigger =>
    rw [exec_echoTrigger_served hs]
    exact ⟨fun hidle => congrArg _ (if_pos hidle), fun harmed => congrArg _ (if_neg (ne_false_of_eq_true harmed))⟩
  case read =>
    rw [exec_echoRead_served hs]
    refine ⟨fun hidle => congrArg _ (if_pos hidle), fun harmed halign hstart hmax hring hconsume =>
      ⟨fun hready => congrArg _ (State.readRing_notReady harmed halign hstart hmax hring hconsume hready),
        fun hready hfault => ?_⟩⟩
    rw [State.readRing_ready harmed halign hstart hmax hring hconsume hready hfault]
    exact ⟨fun hue => congrArg _ (if_pos hue), fun hgood => congrArg _ (if_neg (ne_true_of_eq_false hgood))⟩
  case copied => exact (exec_snapshotCopyEnd_some hj).trans (if_neg (not_not_intro hphase))
  case drained => exact (exec_snapDone_some hj).trans (if_neg (not_not_intro hphase))
  case notShadowing => exact (exec_snapshotShadowEnd_some hj).trans (if_pos hphase)
  case notCopying => exact (exec_snapshotCopyEnd_some hj).trans (if_pos hphase)
  case notDraining => exact (exec_snapDone_some hj).trans (if_pos hphase)
  case take =>
    rw [exec_snapshotTake_due hengine hstage hp hact]
    refine ⟨fun hidle => ?_, fun harmed hfree => ?_, fun c harmed hbusy hcmd => ?_, fun harmed hbusy hcmd => ?_⟩
    · rw [State.dueSnap_disarmed hidle]
    · rw [State.dueSnap_taken harmed hfree]
    · rw [State.dueSnap_busy harmed hbusy, hcmd, State.skipSnap]
    · rw [State.dueSnap_busy harmed hbusy, hcmd, State.skipSnap]
  case snapshot =>
    rw [exec_snapshot_served hs]
    exact congrArg _ (if_congr Iff.rfl rfl (if_congr Iff.rfl rfl (if_congr Option.isSome_iff_ne_none rfl rfl)))
  case restore =>
    rw [exec_restore_served hs]
    refine ⟨fun himage => congrArg _ (if_pos himage), fun himage => ⟨fun halign hlow hplace => ?_, fun hbad => ?_⟩⟩
    · dsimp only
      rw [if_neg (by simp [himage]), if_neg (State.restoreAddr_allowed halign hlow hplace)]
    · dsimp only
      rw [if_neg (by simp [himage]), if_pos (hbad.imp_right .inl)]

end Sys2Proof.Machine

/-! Pin words and the tick strobe (07, R200 to R204, R211, R212). -/

namespace Sys2Proof.Machine

section PinWords

variable {s : State} {w : PinWord}

/-! A word that leaves (R200, R203). -/

section Send

variable {retries : Option Nat} {ready : Nat} {rest : List (Nat × PinWord)}

theorem State.leaveWord_lost (h : retries = none ∨ s.pwr.d2dRate = 0) :
    s.leaveWord w retries = s.pwLost F.RIM_PW_COUNT_OUT_DROP := by
  cases retries with
  | none => rfl
  | some delay => exact if_pos (h.resolve_left nofun)

/-- A word of the current cycle that goes alone, at the full rate of the link. -/
theorem State.leaveWord_alone {delay : Nat} (hrate : s.pwr.d2dRate = 32) (hq : s.rim.outQ = [])
    (htick : w.tick = s.sched.curTick) : s.leaveWord w (some delay) = { s with rim := { s.rim with outQ :=
      [{ w with bytes := pinWordBytes w.tick w.vals, arrives := s.sched.now + 48 + delay, strobe := none }] } } := by
  simp [State.leaveWord, hrate, hq, htick]

theorem exec_pinWordSend_early (hq : s.rim.sendQ = (ready, w) :: rest) (h : s.sched.now < ready) :
    exec (.pinWordSend retries) s = .next s := by
  rw [show exec (.pinWordSend retries) s = execPinWordSend retries s from rfl, execPinWordSend, hq]
  exact if_pos h

theorem exec_pinWordSend_ready (hq : s.rim.sendQ = (ready, w) :: rest) (h : ready ≤ s.sched.now) :
    exec (.pinWordSend retries) s =
      .next ({ s with rim := { s.rim with sendQ := rest } }.leaveWord w retries) := by
  rw [show exec (.pinWordSend retries) s = execPinWordSend retries s from rfl, execPinWordSend, hq]
  exact if_neg (Nat.not_lt.2 h)

theorem exec_pinWordSend_pinouts {p : Nat} (hq : s.rim.sendQ = []) (hlast : s.rim.lastPinout = some p)
    (hdone : s.pinoutsDone = true) (h : p + 12 ≤ s.sched.now) : exec (.pinWordSend retries) s =
      .next ({ s with rim := { s.rim with lastPinout := none } }.leaveWord
        { tick := s.sched.curTick, vals := s.rim.outVals } retries) := by
  rw [show exec (.pinWordSend retries) s = execPinWordSend retries s from rfl, execPinWordSend, hq, hlast]
  exact if_neg (not_or.2 ⟨ne_false_of_eq_true hdone, Nat.not_lt.2 h⟩)

theorem exec_pinWordSend_none (hq : s.rim.sendQ = []) (hlast : s.rim.lastPinout = none) :
    exec (.pinWordSend retries) s = .next s := by
  rw [show exec (.pinWordSend retries) s = execPinWordSend retries s from rfl, execPinWordSend, hq, hlast]

end Send

/-! The oldest word that waits (R201, R211). -/

section Apply

variable {rest : List PinWord} {late : Bool}

/-- The words that wait are `q`. -/
def State.withOutQ (s : State) (q : List PinWord) : State := { s with rim := { s.rim with outQ := q } }

theorem exec_pinWordApply_none (hq : s.rim.outQ = []) : exec (.pinWordApply late) s = .next s := by
  rw [show exec (.pinWordApply late) s = execPinWordApply late s from rfl, execPinWordApply, hq]

theorem exec_pinWordApply_off (hq : s.rim.outQ = w :: rest) (hoff : s.rimOn = false) (h : w.arrives ≤ s.sched.now) :
    exec (.pinWordApply late) s = .next (s.withOutQ rest) := by
  rw [show exec (.pinWordApply late) s = execPinWordApply late s from rfl, execPinWordApply, hq]
  exact (if_pos hoff).trans (if_pos h)

/-- A word whose clock is `n`, late or in time, is applied by its own event from that clock on, and by no other. -/
theorem exec_pinWordApply_due {n : Nat} {l : Bool} (hq : s.rim.outQ = w :: rest) (hon : s.rimOn = true)
    (hdue : s.wordDue w = some (n, l)) : exec (.pinWordApply late) s =
      if s.rim.pwCount < n ∨ l ≠ late then .next s else .next ((s.withOutQ rest).applyWord w late) := by
  rw [show exec (.pinWordApply late) s = execPinWordApply late s from rfl, execPinWordApply, hq]
  dsimp only
  rw [if_neg (ne_false_of_eq_true hon), hdue]
  rfl

section Due

variable {n : Nat} {l : Bool} (hq : s.rim.outQ = w :: rest) (hon : s.rimOn = true) (hdue : s.wordDue w = some (n, l))
include hq hon hdue

theorem exec_pinWordApply_other (h : l ≠ late) : exec (.pinWordApply late) s = .next s :=
  (exec_pinWordApply_due hq hon hdue).trans (if_pos (.inr h))

theorem exec_pinWordApply_early (h : s.rim.pwCount < n) : exec (.pinWordApply late) s = .next s :=
  (exec_pinWordApply_due hq hon hdue).trans (if_pos (.inl h))

theorem exec_pinWordApply_applies (h : n ≤ s.rim.pwCount) :
    exec (.pinWordApply l) s = .next ((s.withOutQ rest).applyWord w l) :=
  (exec_pinWordApply_due hq hon hdue).trans (if_neg (not_or.2 ⟨Nat.not_lt.2 h, not_not_intro rfl⟩))

end Due

theorem State.wordDue_arrival {e : Nat} (hmode : s.bit R.RIM_PW_CFG F.RIM_PW_CFG_OUT_MODE = false)
    (hseen : w.seen = some e) : s.wordDue w = some (e + s.fld R.RIM_PW_CFG F.RIM_PW_CFG_OUT_OFFSET, false) := by
  simp [State.wordDue, hmode, hseen]

section Tick

variable {e k : Nat} (hmode : s.bit R.RIM_PW_CFG F.RIM_PW_CFG_OUT_MODE = true) (hseen : w.seen = some e)
  (hstrobe : w.strobe = some k)
include hmode hseen hstrobe

theorem State.wordDue_late (h : k + 1 + s.fld R.RIM_PW_CFG F.RIM_PW_CFG_OUT_OFFSET < e) :
    s.wordDue w = some (e + s.fld R.RIM_PW_CFG F.RIM_PW_CFG_OUT_OFFSET, true) := by
  simp [State.wordDue, hmode, hseen, hstrobe, h]

theorem State.wordDue_inTime (h : e ≤ k + 1 + s.fld R.RIM_PW_CFG F.RIM_PW_CFG_OUT_OFFSET) :
    s.wordDue w = some (k + 1 + s.fld R.RIM_PW_CFG F.RIM_PW_CFG_OUT_OFFSET, false) := by
  simp [State.wordDue, hmode, hseen, hstrobe, Nat.not_lt.2 h]

end Tick

end Apply

/-! The strobe and the input words (R202 to R204). -/

section Input

theorem exec_tickStrobe_none (h : s.rim.strobeDue = false) : exec .tickStrobe s = .next s :=
  if_neg (ne_true_of_eq_false h)

theorem exec_inputWordSample_off (h : s.rimOn = false) : exec .inputWordSample s = .next s := if_pos (.inl h)

/-- A sample that is due joins the words in flight, and the STREAM sequence goes on to its next clock. -/
theorem exec_inputWordSample_due (hon : s.rimOn = true)
    (hruns : s.treeRuns (s.fld R.RIM_PW_CFG F.RIM_PW_CFG_PW_CLK) = true) (hdue : s.sampleDue = true) :
    exec .inputWordSample s = .next ({ s with rim := { s.rim with
      inFlight := s.rim.inFlight ++ [s.inputWord], inSampled := true,
      streamNext := s.rim.streamNext.map (fun n => n + s.fld R.RIM_PW_CFG F.RIM_PW_CFG_IN_ARG) } }.usedN 256) :=
  if_neg (by simp [hon, hruns, hdue])

theorem State.sampleDue_tick (hmode : s.bit R.RIM_PW_CFG F.RIM_PW_CFG_IN_MODE = false) (honce : s.rim.inSampled = false)
    (h : s.rim.strobeEdge + s.fld R.RIM_PW_CFG F.RIM_PW_CFG_IN_ARG ≤ s.rim.pwCount) : s.sampleDue = true := by
  simp [State.sampleDue, hmode, honce, Nat.ble_eq, h]

theorem State.sampleDue_stream {n : Nat} (hmode : s.bit R.RIM_PW_CFG F.RIM_PW_CFG_IN_MODE = true)
    (hnext : s.rim.streamNext = some n) (h : n ≤ s.rim.pwCount) : s.sampleDue = true := by
  simp [State.sampleDue, hmode, hnext, Nat.ble_eq, h]

theorem exec_inputWordComplete_none {dropped : Bool} (h : s.rim.inFlight = []) :
    exec (.inputWordComplete dropped) s = .next s := by
  rw [show exec (.inputWordComplete dropped) s = execInputWordComplete dropped s from rfl, execInputWordComplete, h]

section Oldest

variable {i : InWord} {rest : List InWord} {dropped : Bool}

/-- The input words in flight are `q`. -/
def State.withInFlight (s : State) (q : List InWord) : State := { s with rim := { s.rim with inFlight := q } }

/-- The latest input word is `i`. -/
def State.inWordSeen (s : State) (i : InWord) : State :=
  { s with rim := { s.rim with inWord := some i } }.raise R.RIM_PW_STATUS F.RIM_PW_STATUS_IN_SEEN

/-- The moment from which the pins are fresh is `since`. -/
def State.withFresh (s : State) (since : Option Nat) : State :=
  { s with sched := { s.sched with pinFreshAt := since } }

variable (hq : s.rim.inFlight = i :: rest) (hon : s.rimOn = true)
include hq hon

theorem exec_inputWordComplete_lost (h : dropped = true ∨ s.pwr.d2dRate = 0) :
    exec (.inputWordComplete dropped) s = .next ((s.withInFlight rest).pwLost F.RIM_PW_COUNT_IN_DROP) := by
  rw [show exec (.inputWordComplete dropped) s = execInputWordComplete dropped s from rfl, execInputWordComplete, hq]
  exact (if_neg (ne_false_of_eq_true hon)).trans (if_pos h)

theorem exec_inputWordComplete_seen (hkept : dropped = false) (hlink : s.pwr.d2dRate ≠ 0) :
    exec (.inputWordComplete dropped) s = .next (((s.withInFlight rest).inWordSeen i).withFresh
      (if Nat.blt s.sched.tickPeriod i.sampledAt && s.sched.pinFreshAt.isNone then some s.sched.now
        else s.sched.pinFreshAt)) := by
  rw [show exec (.inputWordComplete dropped) s = execInputWordComplete dropped s from rfl, execInputWordComplete, hq]
  exact (if_neg (ne_false_of_eq_true hon)).trans (if_neg (not_or.2 ⟨ne_true_of_eq_false hkept, hlink⟩))

end Oldest

end Input

end PinWords

/-- Settles O28: words out by their queues and clocks, words in by the strobe or the sequence. The places in the frame and
the times of sending and applying are log 54; a row out of its condition changes nothing (log 10). -/
theorem pinWordsAndStrobes : Obligations.PinWordsAndStrobes := by
  unfold Obligations.PinWordsAndStrobes
  refine fun s => ⟨fun retries ready w rest hq => ⟨exec_pinWordSend_early hq, fun hready => ?send⟩,
    fun retries p => exec_pinWordSend_pinouts, fun retries => exec_pinWordSend_none,
    fun w rest hq => ⟨fun hoff harrived late => exec_pinWordApply_off hq hoff harrived,
      fun e hon hmode hseen => ?arrival, fun e k hon hmode hseen hstrobe => ⟨fun hlate => ?late, fun hin => ?inTime⟩⟩,
    fun hq late => exec_pinWordApply_none hq, exec_tickStrobe_none, fun hdue => if_pos hdue,
    fun hon hruns hmode honce hclock hnext => ?tick, fun n hon hruns hmode hnext hclock => ?stream,
    exec_inputWordSample_off, fun dropped => exec_inputWordComplete_none,
    fun i rest dropped hq hon => ⟨exec_inputWordComplete_lost hq hon, fun hkept hlink => ?complete⟩⟩
  case send =>
    rw [exec_pinWordSend_ready hq hready]
    refine ⟨fun hlost => congrArg _ (State.leaveWord_lost hlost), ?_⟩
    rintro delay rfl hrate hout htick
    exact congrArg _ (State.leaveWord_alone hrate hout htick)
  case arrival =>
    have hdue := State.wordDue_arrival hmode hseen
    exact ⟨exec_pinWordApply_other hq hon hdue Bool.false_ne_true, exec_pinWordApply_early hq hon hdue,
      exec_pinWordApply_applies hq hon hdue⟩
  case late =>
    have hdue := State.wordDue_late hmode hseen hstrobe hlate
    exact ⟨exec_pinWordApply_other hq hon hdue Bool.false_ne_true.symm, exec_pinWordApply_early hq hon hdue,
      exec_pinWordApply_applies hq hon hdue⟩
  case inTime =>
    have hdue := State.wordDue_inTime hmode hseen hstrobe hin
    exact ⟨exec_pinWordApply_other hq hon hdue Bool.false_ne_true, exec_pinWordApply_early hq hon hdue,
      exec_pinWordApply_applies hq hon hdue⟩
  case tick =>
    rw [exec_inputWordSample_due hon hruns (State.sampleDue_tick hmode honce hclock), hnext, Option.map_none, ← hnext]
  case stream =>
    rw [exec_inputWordSample_due hon hruns (State.sampleDue_stream hmode hnext hclock), hnext, Option.map_some]
  case complete =>
    rw [exec_inputWordComplete_seen hq hon hkept hlink]
    refine ⟨fun hbefore => congrArg _ ?_, fun hafter hstale => congrArg _ ?_⟩
    · rw [if_neg (by simp [hbefore])]
      rfl
    · rw [if_pos (by simp [hafter, hstale])]
      rfl

end Sys2Proof.Machine

/-! The serial FIFOs and the user flash (07, R194, R195). -/

namespace Sys2Proof.Machine

section Serial

variable {s : State} {p : Sp} {b : Byte} {rest : List Byte}

/-- Serial port `p` with the transmit FIFO `q`. -/
def State.withTx (s : State) (p : Nat) (q : List Byte) : State :=
  { s with rim := { s.rim with tx := NMap.set dNoBytes s.rim.tx p q } }

/-- Serial port `p` with the receive FIFO `q`. -/
def State.withRx (s : State) (p : Nat) (q : List Byte) : State :=
  { s with rim := { s.rim with rx := NMap.set dNoBytes s.rim.rx p q } }

/-- Serial port `p` with the bytes `q` shifted in. -/
def State.withRxDone (s : State) (p : Nat) (q : List Byte) : State :=
  { s with rim := { s.rim with rxDone := NMap.set dNoBytes s.rim.rxDone p q } }

/-- Serial port `p` has sent a byte: `q` is left, and no bit of it is out. -/
def State.byteSent (s : State) (p : Nat) (q : List Byte) : State :=
  { s with rim := { s.rim with tx := NMap.set dNoBytes s.rim.tx p q, txClk := NMap.set dZero s.rim.txClk p 0 } }

theorem exec_spDataWrite_room (h : (NMap.get dNoBytes s.rim.tx p.val).length < 64) :
    exec (.spDataWrite p b) s = .next (s.withTx p.val (NMap.get dNoBytes s.rim.tx p.val ++ [b])).settle := if_pos h

theorem exec_spDataWrite_full (h : 64 ≤ (NMap.get dNoBytes s.rim.tx p.val).length) :
    exec (.spDataWrite p b) s = .next (s.raise (R.SP_STATUS p.val) F.SP_STATUS_TX_OVF).settle := if_neg (Nat.not_lt.2 h)

theorem exec_spDataRead_empty (h : NMap.get dNoBytes s.rim.rx p.val = []) :
    exec (.spDataRead p) s = .next (s.reply (.data [0])) := by
  rw [show exec (.spDataRead p) s = execSpDataRead p s from rfl, execSpDataRead, h]

theorem exec_spDataRead_oldest (h : NMap.get dNoBytes s.rim.rx p.val = b :: rest) : exec (.spDataRead p) s =
    .next ((s.withRx p.val rest).settle.reply (.data [BitVec.ofNat 32 b.toNat])) := by
  rw [show exec (.spDataRead p) s = execSpDataRead p s from rfl, execSpDataRead, h]
  rfl

/-- A byte that the port has not shifted in does not come. -/
theorem exec_serialByteReceive_other (h : ∀ more, NMap.get dNoBytes s.rim.rxDone p.val ≠ b :: more) :
    exec (.serialByteReceive p b) s = .next s := by
  rw [show exec (.serialByteReceive p b) s = execSerialByteReceive p b s from rfl, execSerialByteReceive]
  cases hgot : NMap.get dNoBytes s.rim.rxDone p.val with
  | nil => rfl
  | cons x more =>
    have hother : x ≠ b := fun hx => h more (hx ▸ hgot)
    exact if_pos hother

theorem exec_serialByteReceive_shifted (h : NMap.get dNoBytes s.rim.rxDone p.val = b :: rest) :
    exec (.serialByteReceive p b) s =
      let u := s.withRxDone p.val rest
      let q := NMap.get dNoBytes s.rim.rx p.val
      if q.length < 64 then .next (u.withRx p.val (q ++ [b])).settle
      else .next (u.raise (R.SP_STATUS p.val) F.SP_STATUS_RX_OVF).settle := by
  rw [show exec (.serialByteReceive p b) s = execSerialByteReceive p b s from rfl, execSerialByteReceive, h]
  exact if_neg (not_not_intro rfl)

theorem exec_serialByteTransmit_idle (h : s.bit (R.SP_CTL p.val) F.SP_CTL_ENABLE = false ∨ s.spSent p.val = false) :
    exec (.serialByteTransmit p) s = .next s := if_pos h

section Sent

variable (hon : s.bit (R.SP_CTL p.val) F.SP_CTL_ENABLE = true) (hsent : s.spSent p.val = true)
  (hq : NMap.get dNoBytes s.rim.tx p.val = b :: rest)
include hon hsent hq

/-- The oldest byte leaves; the write of SP_CTL that waits is in force when no byte is left. -/
theorem exec_serialByteTransmit_sent : exec (.serialByteTransmit p) s =
    let u := s.byteSent p.val rest
    match (generalizing := false) rest, s.rim.spDefer.find? (fun d => d.1 == p.val) with
    | [], some d => .next ({ u with rim := { u.rim with
        spDefer := s.rim.spDefer.filter (fun x => x.1 != p.val) } }.setReg (R.SP_CTL p.val) d.2).settle
    | _, _ => .next u.settle := by
  rw [show exec (.serialByteTransmit p) s = execSerialByteTransmit p s from rfl, execSerialByteTransmit,
    if_neg (by simp [hon, hsent]), hq]
  rfl

theorem exec_serialByteTransmit_leaves (h : rest ≠ [] ∨ s.rim.spDefer.any (fun d => d.1 == p.val) = false) :
    exec (.serialByteTransmit p) s = .next (s.byteSent p.val rest).settle := by
  rw [exec_serialByteTransmit_sent hon hsent hq]
  cases rest with
  | cons x more => rfl
  | nil =>
    have hnone : s.rim.spDefer.find? (fun d => d.1 == p.val) = none := by
      rw [List.find?_eq_none]
      exact List.any_eq_false.1 (h.resolve_left (not_not_intro rfl))
    rw [hnone]

theorem exec_serialByteTransmit_deferred {w : Word} (hlast : rest = []) (hdefer : s.rim.spDefer = [(p.val, w)]) :
    exec (.serialByteTransmit p) s =
      let u := s.byteSent p.val rest
      .next ({ u with rim := { u.rim with spDefer := [] } }.setReg (R.SP_CTL p.val) w).settle := by
  rw [exec_serialByteTransmit_sent hon hsent hq, hdefer, hlast]
  simp

end Sent

end Serial

section Flash

variable {s : State}

theorem State.uflStart_idle (op : UflOp) (h : s.rim.uflOp = .idle) :
    s.uflStart op = { s with rim := { s.rim with uflOp := op } }.raise R.UFL_CTL F.UFL_CTL_BUSY := if_pos h

theorem State.uflStart_busy (op : UflOp) (h : s.rim.uflOp ≠ .idle) : s.uflStart op = s.detect 0x0B 8 0xFF := if_neg h

theorem exec_uflOpEnd_idle (h : s.rim.uflOp = .idle) : exec .uflOpEnd s = .next s := by
  rw [show exec .uflOpEnd s = execUflOpEnd s from rfl, execUflOpEnd, h]

/-- The operation of the user flash has ended and has left `m` in it. -/
def State.uflEnded (s : State) (m : NMap Word) : State :=
  let t := s.put R.UFL_CTL F.UFL_CTL_BUSY 0
  { t with rim := { t.rim with uflOp := .idle, ufl := m } }

theorem exec_uflOpEnd_program {w : Nat} {d : Word} (h : s.rim.uflOp = .program w d) :
    exec .uflOpEnd s = .next (s.uflEnded (NMap.set dErased s.rim.ufl w d)) := by
  rw [show exec .uflOpEnd s = execUflOpEnd s from rfl, execUflOpEnd, h]
  rfl

theorem exec_uflOpEnd_erase {k : Nat} (h : s.rim.uflOp = .erase k) :
    exec .uflOpEnd s = .next (s.uflEnded (NMap.keep s.rim.ufl (fun w => w / 1024 != k))) := by
  rw [show exec .uflOpEnd s = execUflOpEnd s from rfl, execUflOpEnd, h]
  rfl

theorem exec_flashDataValid_ends {a : Nat} (hread : s.rim.uflRead = some a) (hidle : s.rim.uflOp = .idle) :
    exec .flashDataValid s = .next { s with rim := { s.rim with
      uflRead := none, uflOut := NMap.get dErased s.rim.ufl a, uflValid := true } }.settle := by
  rw [show exec .flashDataValid s = execFlashDataValid s from rfl, execFlashDataValid, hread, hidle]

theorem exec_flashDataValid_none (hread : s.rim.uflRead = none) : exec .flashDataValid s = .next s := by
  rw [show exec .flashDataValid s = execFlashDataValid s from rfl, execFlashDataValid, hread]

theorem exec_fabricFlashRead_stopped (h : s.bankRuns 7 = false) : exec .fabricFlashRead s = .next s :=
  if_neg (by simp [h])

theorem exec_fabricFlashRead_strobed (hruns : s.bankRuns 7 = true) (hstrobe : s.blkIn s.pool 95 17 = true)
    (hrise : s.rim.uflStrobe = false) : exec .fabricFlashRead s =
      let a := (List.range 17).foldl (fun n i => n + natOfBool (s.blkIn s.pool 95 i) * 2 ^ i) 0
      .next ({ s with rim := { s.rim with uflStrobe := true, uflRead := some a, uflValid := false } }.usedN 256) :=
  if_pos (by simp [hruns, hstrobe, hrise])

end Flash

/-- Settles O29: the FIFOs by their room, the flash by its operation. A program stores its word whatever the place held
(log 48); the form of the serial lines is log 8. -/
theorem serialPortsAndUserFlash : Obligations.SerialPortsAndUserFlash := by
  unfold Obligations.SerialPortsAndUserFlash
  refine fun s => ⟨fun p b => ⟨exec_spDataWrite_room, exec_spDataWrite_full, exec_serialByteReceive_other, ?receive,
      exec_serialByteTransmit_idle, exec_spDataRead_empty, fun t => exec_spDataRead_oldest,
      fun t hon hsent hq => ⟨exec_serialByteTransmit_leaves hon hsent hq,
        fun w => exec_serialByteTransmit_deferred hon hsent hq⟩⟩,
    fun hidle => ⟨congrArg _ (State.uflStart_idle _ hidle), congrArg _ (State.uflStart_idle _ hidle),
      exec_uflOpEnd_idle hidle⟩,
    fun hbusy => ⟨congrArg _ (State.uflStart_busy _ hbusy), congrArg _ (State.uflStart_busy _ hbusy)⟩,
    fun hufl => ⟨fun w d hop => ?program, fun k hop => ?erase⟩,
    fun a => exec_flashDataValid_ends, exec_flashDataValid_none, exec_fabricFlashRead_stopped,
    exec_fabricFlashRead_strobed⟩
  case receive =>
    intro more hgot
    rw [exec_serialByteReceive_shifted hgot]
    exact ⟨fun hroom => if_pos hroom, fun hfull => if_neg (Nat.not_lt.2 hfull)⟩
  case program =>
    exact ⟨_, exec_uflOpEnd_program hop, rfl, NMap.get_set_self _ _ _ _ hufl,
      fun v hv => NMap.get_set_of_ne _ _ _ _ _ hufl hv, rfl⟩
  case erase =>
    have hkept (v : Nat) := NMap.get_keep dErased (fun w => w / 1024 != k) v hufl
    exact ⟨_, exec_uflOpEnd_erase hop, rfl, fun v hv => (hkept v).trans (if_neg (by simp [hv])),
      fun v hv => (hkept v).trans (if_pos (by simp [hv]))⟩

end Sys2Proof.Machine

/-! Clocks, resets, supplies, contention and scrubbing of Rimstone (07, R189 to R193, R207 to R212; 16, R393). -/

namespace Sys2Proof.Machine

/-! Oscillators and supplies (R193, R212). -/

section Supplies

variable {s : State}

theorem exec_oscLock_locks {k : Fin 4} (hon : s.rimOn = true)
    (henable : s.bit (R.RIM_OSC k.val) F.RIM_OSC_ENABLE = true) :
    exec (.oscLock k) s = .next (s.raise (R.RIM_OSC k.val) F.RIM_OSC_LOCKED) := if_pos (by simp [hon, henable])

theorem exec_oscLock_stays {k : Fin 4} (h : s.rimOn = false ∨ s.bit (R.RIM_OSC k.val) F.RIM_OSC_ENABLE = false) :
    exec (.oscLock k) s = .next s := if_neg (by rcases h with h | h <;> simp [h])

/-- The measured VIO of bank `b` is `v`. -/
def State.withVio (s : State) (b v : Nat) : State :=
  { s with rim := { s.rim with vio := NMap.set dZero s.rim.vio b v } }

theorem exec_bankVioChange_lost (b : Bank) : exec (.bankVioChange b 0) s =
    .next ((((s.withVio b.val 0).clearBank b.val).setVioOk b.val).usedN 256).settle := rfl

theorem exec_bankVioChange_present {b : Bank} {v : Fin 6} (h : v ≠ 0) : exec (.bankVioChange b v) s =
    .next (((s.withVio b.val v.val).setVioOk b.val).usedN 256).settle :=
  congrArg (fun u : State => Host.Outcome.next ((u.setVioOk b.val).usedN 256).settle) (if_neg (Fin.val_ne_of_ne h))

end Supplies

/-! Clock edges (R189, R191, R197). -/

section ClockEdges

variable {s : State} {t : Fin 4} {rising : Bool}

/-- Is macrocell `m` of a running bank clocked by tree `t`? -/
def State.onTree (s : State) (t m : Nat) : Bool := s.bankRuns (m / 192) && s.fld (mcOff m) F.BLK_MC_CLK == t

/-- The registers among `clocked` take their edge and the latches of `closing` close, all from the values of `s`. -/
def State.clockMcs (s : State) (clocked closing : List Nat) : State :=
  closing.foldl (State.closeLatch s)
    ((clocked.filter (fun m => s.mcMode m == 1 || s.mcMode m == 2)).foldl (State.clockMc s) s)

/-- Tree `t` is at the level that its edge leaves. -/
def State.treeLevel (s : State) (t : Nat) (high : Bool) : State :=
  { s with rim := { s.rim with clkHigh :=
      let others := s.rim.clkHigh.filter (fun x => x != t)
      if high then t :: others else others } }

/-- An edge clocks the macrocells alone when it is falling, or when its tree clocks no pin and no pin word and is not
tree 0. -/
def State.clocksOnlyMcs (s : State) (t : Nat) (rising : Bool) : Prop :=
  rising = true → t ≠ 0 ∧ s.fld R.RIM_PW_CFG F.RIM_PW_CFG_PW_CLK ≠ t ∧
    ∀ b, b < 8 → s.fld (R.RIM_BANK b) F.RIM_BANK_IO_CLK ≠ t

/-- No bank has tree `t` as its IO clock, so no pin has an edge of it. -/
theorem State.pinsClocked_eq_nil {t : Nat} (h : ∀ b, b < 8 → s.fld (R.RIM_BANK b) F.RIM_BANK_IO_CLK ≠ t) :
    (List.range 192).filter (fun p => s.bankRuns (p / 24) && s.fld (R.RIM_BANK (p / 24)) F.RIM_BANK_IO_CLK == t) = [] := by
  rw [List.filter_eq_nil_iff]
  intro p hp
  have hbank : p / 24 < 8 := by have := List.mem_range.1 hp; omega
  simp [h _ hbank]

theorem State.clockTree_mcs {t : Nat} (h : s.clocksOnlyMcs t rising) (samples : List (Fin 192 × BitVec 16)) :
    s.clockTree t rising samples = (((s.clockMcs
      (s.mcs.filter (fun m => s.onTree t m && rising != s.bit (mcOff m) F.BLK_MC_CLK_INV))
      (s.mcs.filter (fun m => s.onTree t m && rising == s.bit (mcOff m) F.BLK_MC_CLK_INV && s.mcMode m == 3))).treeLevel
        t rising).usedN 4096).settle := by
  unfold State.clockTree
  cases rising with
  | false =>
    simp only [Bool.and_false, Bool.false_eq_true, if_false, and_false]
    rfl
  | true =>
    obtain ⟨htree, hword, hbanks⟩ := h rfl
    simp only [if_true, State.pinsClocked_eq_nil hbanks, beq_eq_false_iff_ne.2 hword, htree, Bool.false_and,
      Bool.false_eq_true, if_false, false_and]
    rfl

theorem exec_macrocellClockEdge_none (h : s.treeEdge t.val rising = false) :
    exec (.macrocellClockEdge t rising []) s = .next s := if_pos h

theorem exec_macrocellClockEdge_edge (h : s.treeEdge t.val rising = true) :
    exec (.macrocellClockEdge t rising []) s = .next (s.clockTree t.val rising []) := if_neg (ne_false_of_eq_true h)

end ClockEdges

/-! Contention of wires (R207). -/

section Contention

variable {s : State} {b : Bank} {w : Fin 64}

/-- An upset makes one more macrocell of bank `b` drive wire `w`; its frame has a double error. -/
def State.driverUpset (s : State) (b w : Nat) : State :=
  { s with rim := { s.rim with
      extraDriver := NMap.set dZero s.rim.extraDriver (b * 64 + w) (NMap.get dZero s.rim.extraDriver (b * 64 + w) + 1),
      frameBad := NMap.set dGood s.rim.frameBad (128 + 128 * b) .double } }

theorem exec_wireContention_single (h : (s.driverUpset b.val w.val).wireCount b.val w.val ≤ 1) :
    exec (.wireContention b w) s = .next (s.driverUpset b.val w.val) := if_pos (.inl h)

theorem exec_wireContention_double (hcount : 1 < (s.driverUpset b.val w.val).wireCount b.val w.val)
    (hdriven : s.rim.wiresOff.any (fun x => x.1 == b.val * 64 + w.val) = false) : exec (.wireContention b w) s =
      let u := s.driverUpset b.val w.val
      let v := { u with rim := { u.rim with wiresOff := u.rim.wiresOff ++ [(b.val * 64 + w.val, 0)] } }
      .next (((v.raise R.RIM_WIRE_STATUS F.RIM_WIRE_STATUS_SEEN).wireStatus).detect 0x0B 0 b.val
        [BitVec.ofNat 8 w.val]) :=
  if_neg (not_or.2 ⟨Nat.not_le.2 hcount, ne_true_of_eq_false hdriven⟩)

end Contention

/-! Scrubbing (R208 to R210). -/

section Scrubbing

variable {s : State} {x : ScrubFinding}

theorem exec_scrubStall_stalls (h : s.rim.scrubAt + (3 * s.scrubInterval + 2) * 1500000 ≤ s.sched.now) :
    exec .scrubStall s = .next (({ s with rim := { s.rim with scrubAt := s.sched.now } }.raise R.RIM_STATUS
      F.RIM_STATUS_SCRUB_FAULT).detect 0x0B 6 0xFF) := if_neg (Nat.not_lt.2 h)

theorem exec_scrubStall_early (h : s.sched.now < s.rim.scrubAt + (3 * s.scrubInterval + 2) * 1500000) :
    exec .scrubStall s = .next s := if_pos h

/-- Without an armed point nothing is injected. -/
theorem State.scrubInject_of_nil (harmed : s.lnt.armed = []) (code unit : Nat) (e : EccMark) :
    s.scrubInject code unit e = s := by
  rw [State.scrubInject, State.isArmed_of_nil harmed]
  rfl

/-- The pass injects each point of the scrubber, unit by unit. -/
theorem State.foldl_scrubInject_of_nil (harmed : s.lnt.armed = []) (units : List Nat) :
    units.foldl (fun s u => (s.scrubInject 2 u .single).scrubInject 3 u .double) s = s :=
  List.foldl_fixed' (fun u => by rw [State.scrubInject_of_nil harmed, State.scrubInject_of_nil harmed]) units

/-- One more pass is counted (R209). -/
def State.passCounted (s : State) : State :=
  let u := s.put R.RIM_SCRUB_STATUS F.RIM_SCRUB_STATUS_PASSES
    ((s.fld R.RIM_SCRUB_STATUS F.RIM_SCRUB_STATUS_PASSES + 1) % 65536)
  { u with rim := { u.rim with scrubAt := s.sched.now } }

section Votes

variable (hvotes : x.votes.val = 0)
include hvotes

theorem exec_scrubPass_disabled (hoff : F.RIM_SCRUB_CTL_ENABLE.of s.scrubCtl = 0) : exec (.scrubPass x) s = .next s := by
  rw [show exec (.scrubPass x) s = execScrubPass x s from rfl, execScrubPass, hvotes]
  exact if_pos hoff

theorem exec_scrubPass_clean (hon : F.RIM_SCRUB_CTL_ENABLE.of s.scrubCtl ≠ 0) (harmed : s.lnt.armed = [])
    (hframes : s.rim.frameBad = []) (hwires : s.rim.wiresOff = []) (hmaps : s.goldenArea.maps = [])
    (hsingle : x.single = []) (hmulti : x.multi = []) (hbad : x.mapBad.val ≠ 2) :
    exec (.scrubPass x) s = .next s.passCounted.wireStatus := by
  have hgood : (x.mapBad.val == 2 || !(s.goldenArea.maps.isEmpty || s.goldenArea.maps.any mapCopyOk)) = false := by
    simp [hmaps, hbad]
  have hnone : s.rim.frameBad.map (fun e => e.1) = [] := List.map_eq_nil_iff.2 hframes
  rw [show exec (.scrubPass x) s = execScrubPass x s from rfl, execScrubPass, hvotes]
  simp only [List.range_zero, List.foldl_nil, if_neg hon, State.foldl_scrubInject_of_nil harmed, hsingle, hmulti, hgood,
    hnone, Bool.false_eq_true, if_false]
  exact congrArg (fun wires : List (Nat × Nat) =>
    Host.Outcome.next (wires.foldl State.recheckWire s.passCounted).wireStatus) hwires

end Votes

end Scrubbing

/-- Settles O30: clocks by the edges that a tree gives, wires by the count of their drivers, passes by what they find.
Samples act as changes of the pins (log 54); the frame of the upset driver stands for its bank (logs 14 and 26). -/
theorem rimstoneFaultsAndClocks : Obligations.RimstoneFaultsAndClocks := by
  unfold Obligations.RimstoneFaultsAndClocks
  refine fun s => ⟨fun k => ⟨exec_oscLock_locks, exec_oscLock_stays⟩, fun r v => rfl,
    fun b => ⟨exec_bankVioChange_lost b, fun v => exec_bankVioChange_present⟩,
    fun t rising => exec_macrocellClockEdge_none, fun t rising x xs hnone => if_pos hnone,
    fun t hedge => ?falling, fun t hedge htree hword hbanks => ?rising,
    fun b w => ⟨exec_wireContention_single, exec_wireContention_double⟩,
    exec_scrubStall_stalls, exec_scrubStall_early, fun x => exec_scrubPass_disabled,
    fun hon harmed hframes hwires hmaps x hvotes hsingle hmulti hbad =>
      exec_scrubPass_clean hvotes hon harmed hframes hwires hmaps hsingle hmulti hbad⟩
  case falling =>
    rw [exec_macrocellClockEdge_edge hedge, State.clockTree_mcs (fun h => absurd h Bool.false_ne_true)]
    simp only [Bool.false_bne, Bool.false_beq]
    rfl
  case rising =>
    rw [exec_macrocellClockEdge_edge hedge,
      State.clockTree_mcs (fun _ => ⟨fun h => htree (Fin.ext h), hword, hbanks⟩)]
    simp only [Bool.true_bne, Bool.true_beq]
    rfl

end Sys2Proof.Machine

/-! Commits of images, of a lattice and of regions (08, R228 to R246; 05, R155). -/

namespace Sys2Proof.Machine

section Commits

variable {s : State}

/-! What the staged image turns away (R228). -/

/-- A commit or reload that the staged image does not allow is refused, another goes on as `act`. -/
def State.unlessRefused (s : State) (reload : Bool) (c : CmdId) (act : State) : State :=
  match s.commitRefused reload with
  | some r => s.complete c r.1 0 0 r.2
  | none => act

section Refusals

variable {reload : Bool} {c : CmdId} {act : State}

theorem State.unlessRefused_some {r : Nat × Nat} (hr : s.commitRefused reload = some r) :
    s.unlessRefused reload c act = s.complete c r.1 0 0 r.2 := by rw [State.unlessRefused, hr]

theorem State.unlessRefused_none (hr : s.commitRefused reload = none) : s.unlessRefused reload c act = act := by
  rw [State.unlessRefused, hr]

end Refusals

/-! The commands (R233, R239, R243). -/

section Commands

variable {h : Hdr} {resume : Bool}

theorem exec_imageCommit_served (hs : s.serves (.imageCommit h resume) = true) : exec (.imageCommit h resume) s = .next (
    let u := s.begunBy (.imageCommit h resume)
    u.unlessRefused false (cmdOf h) (if u.isRunning then u.awaitCmd (.commit resume false) h.target (cmdOf h)
      else u.await (.commit resume false) none (some (cmdOf h)))) := by
  rw [show exec (.imageCommit h resume) s = execImageCommit h resume s from rfl, execImageCommit]
  exact State.command_of_form (F := { hdr := h, target := true }) _ rfl hs

theorem exec_regionReload_served {join : BitVec 64} (hs : s.serves (.regionReload h join) = true) :
    exec (.regionReload h join) s = .next (
      let u := s.begunBy (.regionReload h join)
      u.unlessRefused true (cmdOf h) (if join.ule u.sched.nextTick then u.complete (cmdOf h) 5
        else u.await (.reload join) none (some (cmdOf h)))) := by
  rw [show exec (.regionReload h join) s = execRegionReload h join s from rfl, execRegionReload]
  exact State.command_of_form (F := { hdr := h }) _ rfl hs

/-- The ports on which a lattice commit is flooded (log 18): those of the image, and the trained ones of the staged image. -/
def State.commitPorts (s : State) : List Nat :=
  (List.range 16).filter (fun p => s.portInImage p || ((mapPorts s.stagedMap).testBit p && s.trained p))

/-- The head has flooded the target and the digest of its lattice commit, and waits for the reports (R239, R240). -/
def State.floodCommit (s : State) (c : CmdId) (resume : Bool) (t : BitVec 64) : State :=
  let v := s.floodOn s.commitPorts (s.latFlit 7 t (s.measure4 + natOfBool resume * 2 ^ 32)) none
  { v with img := { v.img with latCmd := some c, latResume := resume, latSpan := (v.hFirst, v.hCount),
                               commitReports := [], commitSince := none } }

/-- A lattice commit of tick `t` that the staged image allows. -/
def State.startCommit (s : State) (c : CmdId) (resume : Bool) (t : BitVec 64) : State :=
  if s.isHead = false then s.complete c 2
  else if s.isRunning ∧ s.passed t then s.complete c 5
  else (s.floodCommit c resume t).await (.commit resume true)
    (if (s.floodCommit c resume t).isRunning then some t else none) (some c)

/-- The form of LATTICE_COMMIT. -/
def latticeCommitForm (s : State) (h : Hdr) : MailboxForm :=
  { hdr := h, target := true, needs := s.imagePorts.map portBit, cls := .long }

section Lattice

variable (hs : s.serves (.latticeCommit h resume) = true)
include hs

theorem exec_latticeCommit_noTarget (ht : h.target = none) : exec (.latticeCommit h resume) s =
    .next ((s.begunBy (.latticeCommit h resume)).complete (cmdOf h) 2) := by
  rw [show exec (.latticeCommit h resume) s = execLatticeCommit h resume s from rfl, execLatticeCommit]
  refine (State.command_of_form (F := latticeCommitForm s h) _ rfl hs).trans ?_
  rw [ht]
  rfl

theorem exec_latticeCommit_target {t : BitVec 64} (ht : h.target = some t) : exec (.latticeCommit h resume) s = .next (
    let u := s.begunBy (.latticeCommit h resume)
    u.unlessRefused false (cmdOf h) (u.startCommit (cmdOf h) resume t)) := by
  rw [show exec (.latticeCommit h resume) s = execLatticeCommit h resume s from rfl, execLatticeCommit]
  refine (State.command_of_form (F := latticeCommitForm s h) _ rfl hs).trans (congrArg Host.Outcome.next ?_)
  rw [ht]
  cases hr : (s.begunBy (.latticeCommit h resume)).commitRefused false with
  | some r =>
    rw [State.unlessRefused_some hr]
    rfl
  | none =>
    rw [State.unlessRefused_none hr]
    rfl

end Lattice

section Start

variable {c : CmdId} {t : BitVec 64}

theorem State.startCommit_member (hhead : s.isHead = false) : s.startCommit c resume t = s.complete c 2 := if_pos hhead

variable (hhead : s.isHead = true)
include hhead

theorem State.startCommit_late (hrun : s.isRunning = true) (hpast : s.passed t = true) :
    s.startCommit c resume t = s.complete c 5 :=
  (if_neg (ne_false_of_eq_true hhead)).trans (if_pos ⟨hrun, hpast⟩)

theorem State.startCommit_floods (htimely : s.isRunning = false ∨ s.passed t = false) : s.startCommit c resume t =
    (s.floodCommit c resume t).await (.commit resume true)
      (if (s.floodCommit c resume t).isRunning then some t else none) (some c) := by
  refine (if_neg (ne_false_of_eq_true hhead)).trans (if_neg ?_)
  rintro ⟨hrun, hpast⟩
  simp [hrun, hpast] at htimely

end Start

end Commands

/-! COMMIT_AT at a member (R239, R241). -/

section CommitAt

variable {p : PortNo} {origin : Fin 512} {t : BitVec 64} {digest : Word} {resume : Bool}

/-- A member passes the notice of a lattice commit on. -/
def State.passCommitOn (s : State) (p : PortNo) (origin : Fin 512) (t : BitVec 64) (digest : Word) (resume : Bool) : State :=
  s.floodOn s.commitPorts { s.latFlit 7 t (digest.toNat + natOfBool resume * 2 ^ 32) with origin := origin.val } (some p.val)

/-- A member takes a lattice commit that it hears for the first time. -/
def State.takeCommit (s : State) (t : BitVec 64) (digest : Word) (resume : Bool) : State :=
  if (s.commitRefused false).isSome ∨ s.measure4 ≠ digest.toNat then s.report 2 0x13
  else if s.isRunning ∧ s.passed t then
    (((s.setReason { reason := 0x3C } s.chainPos).report 2 0x3C).floodFault s.sched.curTick).haltAtEnd
  else s.await (.commit resume true) (if s.isRunning then some t else none) none

theorem exec_commitAt_unheard (h : s.receives p.val = false ∨ s.psg.seen.contains (7, origin.val, t) = true) :
    exec (.commitAt p origin t digest resume) s = .next s := if_pos h

theorem exec_commitAt_heard (hrecv : s.receives p.val = true) (hnew : s.psg.seen.contains (7, origin.val, t) = false) :
    exec (.commitAt p origin t digest resume) s =
      .next ((s.passCommitOn p origin t digest resume).takeCommit t digest resume) := by
  refine (if_neg (not_or.2 ⟨ne_false_of_eq_true hrecv, ne_true_of_eq_false hnew⟩)).trans ?_
  rw [State.takeCommit, apply_ite Host.Outcome.next, apply_ite Host.Outcome.next]
  rfl

theorem State.takeCommit_differs (h : (s.commitRefused false).isSome = true ∨ s.measure4 ≠ digest.toNat) :
    s.takeCommit t digest resume = s.report 2 0x13 := if_pos h

section Same

variable (hok : s.commitRefused false = none) (hsame : s.measure4 = digest.toNat)
include hok hsame

theorem State.takeCommit_same : s.takeCommit t digest resume =
    if s.isRunning ∧ s.passed t then
      (((s.setReason { reason := 0x3C } s.chainPos).report 2 0x3C).floodFault s.sched.curTick).haltAtEnd
    else s.await (.commit resume true) (if s.isRunning then some t else none) none :=
  if_neg (by simp [hok, hsame])

theorem State.takeCommit_late (hrun : s.isRunning = true) (hpast : s.passed t = true) : s.takeCommit t digest resume =
    (((s.setReason { reason := 0x3C } s.chainPos).report 2 0x3C).floodFault s.sched.curTick).haltAtEnd :=
  (State.takeCommit_same hok hsame).trans (if_pos ⟨hrun, hpast⟩)

theorem State.takeCommit_waits (hrun : s.isRunning = true) (htimely : s.passed t = false) :
    s.takeCommit t digest resume = s.await (.commit resume true) (some t) none := by
  rw [State.takeCommit_same hok hsame, if_neg (by simp [htimely]), if_pos hrun]

theorem State.takeCommit_halted (hrun : s.isRunning = false) :
    s.takeCommit t digest resume = s.await (.commit resume true) none none := by
  rw [State.takeCommit_same hok hsame, if_neg (by simp [hrun]), if_neg (ne_true_of_eq_false hrun)]

end Same

end CommitAt

/-! The commit at its boundary, and its end (R234 to R236, R240). -/

/-- While an engine works on the boundary no commit or reload takes its turn. -/
theorem exec_commits_engine (h : s.sched.engine = true) : exec .commitApply s = .next s ∧
    exec .reloadIsolate s = .next s ∧ exec .regionJoin s = .next s := by
  refine ⟨?_, ?_, ?_⟩
  · rw [show exec .commitApply s = execCommitApply s from rfl, execCommitApply, State.turn_of_engine h]
  · rw [show exec .reloadIsolate s = execReloadIsolate s from rfl, execReloadIsolate, State.turn_of_engine h]
  · rw [show exec .regionJoin s = execRegionJoin s from rfl, execRegionJoin, State.turn_of_engine h]

theorem exec_commitEnd_other (h : s.sched.engine = false ∨ s.imgState ≠ 6 ∨ s.img.commitDue = true) :
    exec .commitEnd s = .next s := if_pos h

/-- The halt of a commit has ended: the stage is empty and the engine at rest. -/
def State.commitOver (s : State) : State :=
  let u := s.toEmpty.sendIdents.detect 0x0E 2 0
  { u with sched := { u.sched with engine := false }, img := { u.img with commitCmd := none } }

/-- A commit of this device alone completes with the image's latency; with RESUME the device runs on, unless it is in a
lattice (log 17). -/
def State.finishCommit (s : State) (c : Option CmdId) : State :=
  let w := s.completeOpt c 0 (BitVec.ofNat 64 (s.reg R.IMG_LAT).toNat) 0
  { w with sched := { w.sched with resume := w.sched.resume || (w.img.commitResume && !w.inLattice) } }

theorem exec_commitEnd_ends (hengine : s.sched.engine = true) (hstate : s.imgState = 6)
    (hwritten : s.img.commitDue = false) : exec .commitEnd s =
    if s.commitOver.img.commitLattice then .next (s.commitOver.ownCommit 0).afterBoundary
    else .next (s.commitOver.finishCommit s.img.commitCmd).afterBoundary :=
  if_neg (by simp [hengine, hstate, hwritten])

/-! Reports to the head of a lattice commit (R240). -/

section Reports

variable {pos : Fin 512}

theorem exec_commitReport_new (hcmd : s.img.latCmd.isSome = true)
    (hnew : s.img.commitReports.any (fun r => r.1 == pos.val) = false) (reason : BitVec 8) :
    exec (.commitReport pos reason) s = .next
      { s with img := { s.img with commitReports := s.img.commitReports ++ [(pos.val, reason.toNat)] } }.judgeCommit := by
  refine if_neg ?_
  rw [hnew, Option.isNone_iff_eq_none]
  simp [Option.ne_none_iff_isSome.2 hcmd]

theorem exec_commitReport_none (h : s.img.latCmd = none) (reason : BitVec 8) :
    exec (.commitReport pos reason) s = .next s := if_pos (.inl (by rw [h]; rfl))

theorem exec_latticeCommitTimeout_none (h : s.img.latCmd = none) : exec .latticeCommitTimeout s = .next s := by
  rw [show exec .latticeCommitTimeout s = execLatticeCommitTimeout s from rfl, execLatticeCommitTimeout, h]

theorem exec_latticeCommitTimeout_silent {c : CmdId} {t i : Nat} (hcmd : s.img.latCmd = some c)
    (hsince : s.img.commitSince = some t) (hsilent : (List.range s.img.latSpan.2).find?
      (fun i => !s.img.commitReports.any (fun r => r.1 == s.img.latSpan.1 + i)) = some i) :
    exec .latticeCommitTimeout s = if s.sched.now < t + 3000000000 then .next s
      else .next (s.latticeDone 0x16 (s.img.latSpan.1 + i)) := by
  rw [show exec .latticeCommitTimeout s = execLatticeCommitTimeout s from rfl, execLatticeCommitTimeout, hcmd, hsince,
    hsilent]

end Reports

/-! The write of a reload (R243). -/

/-- The region's sections as they are read from region 15. -/
def State.regionBodies (s : State) : List (Sec × List Byte) × Bool × State := s.readPlain false s.writeOrder

/-- The region's sections are written. -/
def State.writeRegion (s : State) : State :=
  let bodies := s.regionBodies.1
  let u := s.regionBodies.2.2.loadTables s.pace s.stagedLens s.stagedMap bodies
  let u := (bodies.filter (fun x => x.1.kind == 0x0C)).foldl (fun u x => u.loadDevSec 0x0C x.1.unit x.2) u
  (((rimSecs bodies).foldl (fun u x => ((u.clearRim x.1.unit).freshFrames x.1.unit).writeFrames x.1.unit x.2)
    u).wireStatus).setProgress (bodies.foldl (fun n x => n + x.2.length) 0)

/-- The join that follows the write: at its tick, or at the first boundary when that has passed. -/
def State.joinAfter (s : State) : Pending :=
  { act := .joinRegion, target := if s.passed s.img.reloadJoin then none else some s.img.reloadJoin, cmd := s.img.reloadCmd }

theorem State.writeRegion_touch (s : State) : Touch 131515 s s.writeRegion := by
  have hread : Touch 131515 s s.regionBodies.2.2 := (s.readPlain_touch _ _).mono rfl
  have hdev (u : State) (x : Sec × List Byte) : Touch 131515 u (u.loadDevSec 0x0C x.1.unit x.2) :=
    (u.loadDevSec_touch ..).mono rfl
  have hrim (u : State) (x : Sec × List Byte) :
      Touch 131515 u (((u.clearRim x.1.unit).freshFrames x.1.unit).writeFrames x.1.unit x.2) :=
    (((u.clearRim_touch _).mono rfl).then (State.freshFrames_touch ..) rfl).then (State.writeFrames_touch ..) rfl
  have htables := hread.then (State.loadTables_touch _ s.pace s.stagedLens s.stagedMap s.regionBodies.1) rfl
  exact (((htables.foldl' hdev).foldl' hrim).then (State.wireStatus_touch _) rfl).then (State.setProgress_touch ..) rfl

theorem exec_reloadWriteEnd_other (h : s.imgState ≠ 7 ∨ s.img.reloadWritten = true ∨ s.waking s.img.reloadGals = true) :
    exec .reloadWriteEnd s = .next s := if_pos h

theorem exec_reloadWriteEnd_writes (hstate : s.imgState = 7) (hfirst : s.img.reloadWritten = false)
    (hawake : s.waking s.img.reloadGals = false) : exec .reloadWriteEnd s = .next (
      let u := s.writeRegion
      { u with
        img := { u.img with reloadWritten := true,
                            golden := if (rimSecs s.regionBodies.1).isEmpty then u.img.golden else 1 - u.img.golden },
        sched := { u.sched with pending := u.sched.pending ++ [u.joinAfter] } }) := by
  rw [show exec .reloadWriteEnd s = execReloadWriteEnd s from rfl, execReloadWriteEnd,
    if_neg (by simp [hstate, hfirst, hawake])]
  dsimp only [State.writeRegion, State.regionBodies, State.joinAfter]
  rfl

theorem State.joinAfter_writeRegion (s : State) : s.writeRegion.joinAfter.cmd = s.img.reloadCmd ∧
    (s.writeRegion.joinAfter.target = some s.img.reloadJoin ∨ s.writeRegion.joinAfter.target = none) := by
  have himg : s.writeRegion.img = s.img := s.writeRegion_touch.2.1 .img rfl
  rw [State.joinAfter, himg]
  refine ⟨rfl, ?_⟩
  dsimp only
  split
  · exact .inr rfl
  · exact .inl rfl

/-! Galleries stay in isolation, or out of it, as a boundary ends (R20, R243). -/

section Isolation

variable {t : State}

theorem Touch.isolated {m : Nat} (h : Touch m s t) (hfab : m.testBit 3 = false := by rfl) :
    t.fab.isolated = s.fab.isolated := congrArg Fabric.isolated (h.2.1 .fab hfab)

theorem State.isolated_landAt (s : State) (b code step off : Nat) (x : Nv) :
    (s.landAt b code step off x).fab.isolated = s.fab.isolated := by
  unfold State.landAt
  dsimp only
  split_ifs
  · exact (State.recordSched_touch ..).isolated
  · exact (State.rxDiscard_touch (s.noteLanded _) _).isolated
  · exact (State.recordSched_touch (s.noteLanded _) ..).isolated
  · exact (State.applyForce_touch (s.noteLanded _) ..).isolated

theorem State.isolated_land (s : State) (b : Nat) (port : RxPort) (step : Nat) (x : Nv) :
    (s.land b port step x).fab.isolated = s.fab.isolated := by
  cases hiso : s.fab.isolated.contains (galOf b) with
  | true => rw [State.land_isolated hiso]
  | false =>
    cases hrecv : s.recvFor b port.code step with
    | none =>
      rw [State.land_unmatched hiso hrecv]
      exact (s.rxDiscard_touch _).isolated
    | some e =>
      rw [State.land_matched hiso hrecv, State.isolated_landAt]
      exact (s.recvParity_touch ..).isolated

theorem isolated_landDue (l : List Arrival) (used : List (Nat × Nat)) (s : State) :
    (landDue l used s).1.fab.isolated = s.fab.isolated := by
  induction l generalizing used s with
  | nil => rfl
  | cons a as ih =>
    unfold landDue
    split
    · exact (ih ..).trans (State.isolated_land ..)
    · exact ih ..

theorem State.isolated_elapse (s : State) : s.elapse.fab.isolated = s.fab.isolated := by
  rw [State.elapse_eq]
  exact isolated_landDue s.timePasses.passing.2.2 [] s.timePasses.mergesPassed

theorem State.isolated_elapseN (n : Nat) (s : State) : (State.elapseN n s).fab.isolated = s.fab.isolated := by
  induction n generalizing s with
  | zero => rfl
  | succ n ih => exact (ih s.elapse).trans s.isolated_elapse

/-- T6 and T7 are over. -/
def State.cycleClosed (s : State) : State :=
  { s with sched := { s.sched with phase := .between, step := 0, pinSampled := false, flagsUsed := [] } }

theorem State.wrapUp_eq (s : State) : s.wrapUp =
    (State.elapseN 2 s.pinContext.showState.clearFlags.elapse.postDone).cycleClosed.sendRelease.realign.disarmIfIdle := rfl

theorem State.isolated_wrapUp (s : State) : s.wrapUp.fab.isolated = s.fab.isolated := by
  rw [State.wrapUp_eq, (State.disarmIfIdle_touch _).isolated, (State.realign_touch _).isolated,
    (State.sendRelease_touch _).isolated]
  exact (State.isolated_elapseN ..).trans <| (State.postDone_touch _).isolated.trans <| (State.isolated_elapse _).trans <|
    (State.clearFlags_touch _).isolated.trans <| (State.showState_touch _).isolated.trans (s.pinContext_touch).isolated

theorem State.isolated_afterBoundary (s : State) : s.afterBoundary.fab.isolated = s.fab.isolated := by
  unfold State.afterBoundary
  split
  · rfl
  · split
    · split
      · rfl
      · rw [(State.resumeIf_touch _).isolated, State.isolated_wrapUp]
    · exact (s.resumeIf_touch).isolated
    · rfl

end Isolation

/-! Commits, reloads and joins that take their turn (R234, R235, R243, R257). -/

/-- The region leaves isolation: IMAGE_DIGEST covers the reload, its banks are released. -/
def State.endIsolation (s : State) : State :=
  let u := s.setDigest R.IMG_DIGEST (shake32 (s.imageDigest ++ s.img.measurement))
  let u := u.img.reloadBanks.foldl State.releaseBank u
  { u with fab := { u.fab with isolated := [], region := .none } }

/-- The join shows, the stage is empty and no reload is under way. -/
def State.showJoin (s : State) (t : BitVec 64) : State :=
  let u := ((s.setCommitTick t).put R.DEVICE_STATE F.DEVICE_STATE_RUN_STATE
    (if s.sched.running then 2 else 1)).toEmpty.detect 0x0E 3 0
  { u with img := { u.img with reloadCmd := none, reloadGals := [], reloadBanks := [], reloadWritten := false } }

/-- A command that completes at its boundary leaves the Image Loader. -/
theorem State.img_afterCompletion (s : State) (c : Option CmdId) (st : Nat) (r0 r1 : Dword) :
    (s.completeOpt c st r0 r1).afterBoundary.img = s.img :=
  ((State.afterBoundary_touch _).2.1 .img rfl).trans ((s.completeOpt_touch ..).2.1 .img rfl)

theorem State.isolated_showJoin (s : State) (t : BitVec 64) : (s.showJoin t).fab.isolated = s.fab.isolated :=
  (State.detect_touch ..).isolated.trans <| (State.toEmpty_touch _).isolated.trans <|
    (State.put_touch ..).isolated.trans (s.setCommitTick_touch t).isolated

/-- The region of a verified reload image goes into isolation, and its galleries and banks are made ready. -/
def State.isolateRegion (s : State) (c : Option CmdId) (join : BitVec 64) : State :=
  let gals := mapGals s.stagedMap
  let banks := bankList (mapBanks s.stagedMap)
  let a := s.abortSnapPhase2
  let u := { a with
    fab := { a.fab with isolated := gals, region := a.isoTables gals,
                        leaves := NMap.keep a.fab.leaves (fun k => !gals.contains (k / 65)) },
    img := { a.img with reloadCmd := c, reloadJoin := join, reloadGals := gals, reloadBanks := banks,
                        reloadWritten := false } }
  let v := gals.foldl (fun s g => ((s.bringOn g).clearAsserts g).flushQueue g 5)
    (u.clearForces (fun b => gals.contains (b / 1024)))
  let w := banks.foldl (fun s b => s.stopBank b 1) v
  (if w.isRunning then w.put R.DEVICE_STATE F.DEVICE_STATE_RUN_STATE 3 else w).setImgState 7

section Turn

variable {p : Pending} (hengine : s.sched.engine = false) (hstage : s.echo.stageDue = false ∨ s.sched.phase ≠ .t5)
  (hp : s.nextDue = some p)
include hengine hstage hp

theorem exec_commitApply_due {resume lattice : Bool} (hact : p.act = .commit resume lattice) :
    let d := s.dropPending p
    (∀ st r, d.commitFail = some (st, r) →
      exec .commitApply s = .next (d.commitRefuse lattice p.cmd st r).afterBoundary) ∧
    (d.commitFail = none →
      let u := (if d.sched.running then d.haltNow else d).cancelTargets
      let v := { u with
        sched := { u.sched with engine := true },
        img := { u.img with commitCmd := p.cmd, commitResume := resume, commitLattice := lattice, commitDue := true } }
      exec .commitApply s = .next (v.setImgState 6).commitPrepare.commitIfReady) := by
  rw [show exec .commitApply s = execCommitApply s from rfl, execCommitApply,
    State.turn_of_next hengine hstage hp (by rw [hact])]
  dsimp only
  rw [hact]
  dsimp only
  exact ⟨fun st r hfail => by rw [hfail], fun hok => by rw [hok]⟩

theorem exec_reloadIsolate_due {join : BitVec 64} (hact : p.act = .reload join) : exec .reloadIsolate s =
    let d := s.dropPending p
    if d.fab.isolated.isEmpty = false ∨ d.imgState ≠ 4 then .next (d.completeOpt p.cmd 4).afterBoundary
    else .next (d.isolateRegion p.cmd join).afterBoundary := by
  rw [show exec .reloadIsolate s = execReloadIsolate s from rfl, execReloadIsolate,
    State.turn_of_next hengine hstage hp (by rw [hact])]
  dsimp only
  rw [hact]
  rfl

theorem exec_regionJoin_joins (hact : p.act = .joinRegion) : exec .regionJoin s =
    .next (((s.dropPending p).endIsolation.showJoin s.sched.nextTick).completeOpt p.cmd
      (if s.sched.nextTick != s.img.reloadJoin then 0x0C else 0) 0
      (BitVec.ofNat 64 s.sched.nextTick.toNat)).afterBoundary := by
  rw [show exec .regionJoin s = execRegionJoin s from rfl, execRegionJoin,
    State.turn_of_next hengine hstage hp (by rw [hact])]
  rfl

/-- At a join the reload is over, and no gallery is in isolation. -/
theorem exec_regionJoin_over (hact : p.act = .joinRegion) : ∃ t, exec .regionJoin s = .next t ∧
    t.img.reloadCmd = none ∧ t.img.reloadGals = [] ∧ t.fab.isolated = [] ∧ t.pending = s.pending := by
  have hjoins := exec_regionJoin_joins hengine hstage hp hact
  have hpending := (execRegionJoin_touch s _ hjoins).1
  refine ⟨_, hjoins, congrArg Loader.reloadCmd (State.img_afterCompletion ..),
    congrArg Loader.reloadGals (State.img_afterCompletion ..), ?_, hpending⟩
  rw [State.isolated_afterBoundary, (State.completeOpt_touch ..).isolated, State.isolated_showJoin]
  rfl

end Turn

end Commits

/-- Settles O38: each row by the state of the staged image, by the action that is due or by the reports that the head has,
the commands by what they meet once they have started. Where a row does nothing, it does so by log 10; a lattice commit
without a target or not at the head, the ports of its flood and the reason of a silent position are log 18; how early a
reload may join, its failed reads and a lattice commit that meets it are log 19. -/
theorem commitsAndReloads : Obligations.CommitsAndReloads := by
  unfold Obligations.CommitsAndReloads
  refine fun s => ⟨fun h resume hs => ?commit, fun h resume hs => ⟨exec_latticeCommit_noTarget hs, fun t ht => ?lattice⟩,
    fun h join hs => ?reload, fun p resume lattice hengine hstage hp => exec_commitApply_due hengine hstage hp,
    exec_commits_engine, exec_commitEnd_other, fun hengine hstate hwritten => ?ends,
    fun p origin t digest resume => ⟨exec_commitAt_unheard, fun hrecv hnew => ?hears⟩,
    fun pos reason => ⟨fun hcmd hnew => exec_commitReport_new hcmd hnew reason,
      fun hnone => exec_commitReport_none hnone reason⟩,
    exec_latticeCommitTimeout_none, fun c t i hcmd hsince hsilent => ?silent,
    fun p join hengine hstage hp hact => ?isolates, exec_reloadWriteEnd_other, fun hstate hfirst hawake => ?writes,
    fun p => exec_regionJoin_over⟩
  case commit =>
    rw [exec_imageCommit_served hs]
    exact ⟨fun r hr => congrArg _ (State.unlessRefused_some hr), fun hr => congrArg _ (State.unlessRefused_none hr)⟩
  case lattice =>
    rw [exec_latticeCommit_target hs ht]
    refine ⟨fun r hr => congrArg _ (State.unlessRefused_some hr), fun hr => ?_⟩
    dsimp only
    rw [State.unlessRefused_none hr]
    exact ⟨fun hmember => congrArg _ (State.startCommit_member hmember),
      fun hhead hrun hpast => congrArg _ (State.startCommit_late hhead hrun hpast),
      fun hhead htimely => congrArg _ (State.startCommit_floods hhead htimely)⟩
  case reload =>
    rw [exec_regionReload_served hs]
    exact ⟨fun r hr => congrArg _ (State.unlessRefused_some hr), fun hr => congrArg _ (State.unlessRefused_none hr)⟩
  case ends =>
    rw [exec_commitEnd_ends hengine hstate hwritten]
    exact ⟨fun hlattice => if_pos hlattice, fun hown => if_neg (ne_true_of_eq_false hown)⟩
  case hears =>
    rw [exec_commitAt_heard hrecv hnew]
    exact ⟨fun hdiffers => congrArg _ (State.takeCommit_differs hdiffers),
      fun hok hsame => ⟨fun hrun hpast => congrArg _ (State.takeCommit_late hok hsame hrun hpast),
        fun hrun htimely => congrArg _ (State.takeCommit_waits hok hsame hrun htimely),
        fun hrun => congrArg _ (State.takeCommit_halted hok hsame hrun)⟩⟩
  case silent =>
    rw [exec_latticeCommitTimeout_silent hcmd hsince hsilent]
    exact ⟨fun hearly => if_pos hearly, fun hlong => if_neg (Nat.not_lt.2 hlong)⟩
  case isolates =>
    rw [exec_reloadIsolate_due hengine hstage hp hact]
    exact ⟨fun hbusy => if_pos (hbusy.imp_left List.isEmpty_eq_false_iff.2),
      fun hnone hstate => if_neg (by simp [hnone, hstate])⟩
  case writes =>
    obtain ⟨hcmd, htarget⟩ := s.joinAfter_writeRegion
    exact ⟨_, s.writeRegion.joinAfter, exec_reloadWriteEnd_writes hstate hfirst hawake, rfl, rfl, hcmd, htarget,
      List.getLast?_concat⟩

end Sys2Proof.Machine

/-! What every command of the mailbox table checks first (09, R253, R256, R260, R269; 14, R354). -/

namespace Sys2Proof.Machine

section Gates

variable {s : State} {i : Instr} {f : MailboxForm} {act : CmdId → State → State}

/-- The command of a form, which does `act` once its checks have passed. -/
def State.gated (s : State) (i : Instr) (f : MailboxForm) (act : CmdId → State → State) : Out :=
  s.command f.hdr i f.target f.needs act f.always f.cls f.buf f.ok

/-- Every command of the mailbox table runs through the checks of its own form. -/
theorem exec_of_mailboxForm (hform : s.mailboxForm i = some f) : ∃ act, exec i s = s.gated i f act := by
  cases i with
  | getInfo | getReady | run | stateDeposit | echoTrigger | peek | step | latticeTrain | echoRead | latticeMap
  | regionReload | halt | selectContext | force | release | deposit | imageCommit | setTick | echoArm | echoDisarm
  | restore | snapshot | imageVerify | latticeCommit | runFrom | haltBefore | fwUpdate | attest | logRead
  | injectStatus | injectFault | fuseSvn | ownerProgram | ownerRevoke | bedrockSelect | laneReversal | debugLock
  | storeKek =>
    cases hform
    exact ⟨_, rfl⟩
  -- These four name parts of their operands first, so the equation goes by their own definitions.
  | memRead h space addr buf =>
    cases hform
    exact ⟨_, (rfl : exec _ s = execMemRead h space addr buf s)⟩
  | memWrite h space addr buf =>
    cases hform
    exact ⟨_, (rfl : exec _ s = execMemWrite h space addr buf s)⟩
  | memAtomic h space addr op d =>
    cases hform
    exact ⟨_, (rfl : exec _ s = execMemAtomic h space addr op d s)⟩
  | imageStage h src len b14 s14 b15 s15 =>
    cases hform
    exact ⟨_, (rfl : exec _ s = execImageStage h src len b14 s14 b15 s15 s)⟩
  | _ => cases hform

theorem State.gate_eq : (s.barred (cmdOf f.hdr) || !s.spelled f.hdr i f.buf f.ok) = !s.mayStart f i := by
  rw [State.mayStart, Bool.not_and, Bool.not_not]

/-- A command whose turn has not come, or that the entry fetched under its identity does not spell, does nothing. -/
theorem State.gated_waits (hwaits : s.mayStart f i = false) : s.gated i f act = .next s :=
  if_pos (by rw [State.gate_eq, hwaits, Bool.not_false])

theorem State.not_unserved (hfw : (s.begin (cmdOf f.hdr) f.cls).lnt.coreFw ≠ 2 ∨ f.always = true) :
    ¬((s.begin (cmdOf f.hdr) f.cls).lnt.coreFw = 2 ∧ f.always = false) := by
  simpa [imp_iff_not_or] using hfw

section Started

variable (hstart : s.mayStart f i = true)
include hstart

theorem State.not_gate : ¬(s.barred (cmdOf f.hdr) || !s.spelled f.hdr i f.buf f.ok) = true := by
  rw [State.gate_eq, hstart, Bool.not_true]
  exact Bool.false_ne_true

theorem State.gated_unserved (hfw : (s.begin (cmdOf f.hdr) f.cls).lnt.coreFw = 2) (hnever : f.always = false) :
    s.gated i f act = .next ((s.begin (cmdOf f.hdr) f.cls).used.complete (cmdOf f.hdr)
      ((s.begin (cmdOf f.hdr) f.cls).freeVal 16)) :=
  (if_neg (State.not_gate hstart)).trans (if_pos ⟨hfw, hnever⟩)

section Served

variable (hfw : (s.begin (cmdOf f.hdr) f.cls).lnt.coreFw ≠ 2 ∨ f.always = true)
include hfw

theorem State.gated_targeted (htarget : f.hdr.target.isSome = true) (hnone : f.target = false) :
    s.gated i f act = .next ((s.begin (cmdOf f.hdr) f.cls).complete (cmdOf f.hdr) 2) :=
  (if_neg (State.not_gate hstart)).trans ((if_neg (State.not_unserved hfw)).trans
    (if_pos (by rw [htarget, hnone, Bool.not_false, Bool.and_true])))

theorem State.gated_unready (htarget : f.hdr.target = none ∨ f.target = true) {n : Nat}
    (hn : (s.begin (cmdOf f.hdr) f.cls).firstUnready f.needs = some n) :
    s.gated i f act = .next ((s.begin (cmdOf f.hdr) f.cls).complete (cmdOf f.hdr) 3 (BitVec.ofNat 64 n)) := by
  have hallowed : ¬(f.hdr.target.isSome && !f.target) = true := by
    rcases htarget with hnone | htakes
    · simp [hnone]
    · simp [htakes]
  rw [State.gated, State.command, if_neg (State.not_gate hstart)]
  dsimp only
  rw [if_neg (State.not_unserved hfw), if_neg hallowed, hn]

end Served

end Started

end Gates

/-- Settles O23: the command runs through the checks of its form, each by its lemma. The status of a command that the
firmware on the cores does not serve is free (log 3); a command that may not start does nothing by log 10. -/
theorem mailboxCommandsAreGated : Obligations.MailboxCommandsAreGated := by
  unfold Obligations.MailboxCommandsAreGated
  intro i f s hform
  obtain ⟨act, hexec⟩ := exec_of_mailboxForm hform
  rw [hexec]
  exact ⟨State.gated_waits, fun hstart => ⟨State.gated_unserved hstart, fun hfw =>
    ⟨State.gated_targeted hstart hfw, fun htarget _ => State.gated_unready hstart hfw htarget⟩⟩⟩

end Sys2Proof.Machine

/-! Information, firmware, attestation, the event log and error injection (09, R261; 14, R357, R367, R369, R370, R378). -/

namespace Sys2Proof.Machine

/-! What completing a command, or its start, leaves alone (R249, R254). -/

section Started

variable (s : State) (c : CmdId)

theorem State.queueStatus_writes (q : Nat) : Writes [R.MBX_Q_STATUS q] s (s.queueStatus q) :=
  .trans (.put (List.mem_singleton_self _)) (.put (List.mem_singleton_self _))

/-- The mailbox's records hold no register. -/
theorem Writes.set_mbx {os : List Nat} {m : Mailbox} : Writes os s { s with mbx := m } := ⟨id, fun _ _ _ => rfl⟩

/-- Of the registers a completion writes the status of its queue. -/
theorem State.complete_writes (status : Nat) (r0 r1 : Dword) (reason : Nat) :
    Writes [R.MBX_Q_STATUS c.queue] s (s.complete c status r0 r1 reason) := by
  unfold State.complete
  refine .ite .refl ?_
  cases c.origin with
  | some d => exact .set_mbx s
  | none =>
    have hposted {m : Mailbox} : Writes [R.MBX_Q_STATUS c.queue] s ({ s with mbx := m }.queueStatus c.queue) :=
      (Writes.set_mbx s).trans (State.queueStatus_writes _ c.queue)
    exact .ite (hposted.trans (.of_touch (State.msixDue_touch ..))) hposted

/-- A completion gives the host no bytes of results. -/
theorem State.complete_hostOut (status : Nat) (r0 r1 : Dword) (reason : Nat) :
    (s.complete c status r0 r1 reason).mbx.hostOut = s.mbx.hostOut := by
  unfold State.complete
  dsimp only
  split
  · rfl
  · cases c.origin with
    | some d => rfl
    | none =>
      dsimp only
      split <;> rfl

theorem State.complete_lnt (status : Nat) (r0 r1 : Dword) (reason : Nat) :
    (s.complete c status r0 r1 reason).lnt = s.lnt := (State.complete_touch ..).2.1 .lnt rfl

theorem State.complete_flash (status : Nat) (r0 r1 : Dword) (reason : Nat) :
    (s.complete c status r0 r1 reason).flash = s.flash := (State.complete_touch ..).2.1 .flash rfl

theorem State.begunBy_touch (i : Instr) : Touch 1025 s (s.begunBy i) := by
  unfold State.begunBy
  split
  · exact s.begin_touch ..
  · exact .refl ..

theorem State.begin_hostOut (cls : CmdClass) : (s.begin c cls).mbx.hostOut = s.mbx.hostOut := by
  unfold State.begin State.start
  dsimp only
  split <;> rfl

theorem State.begunBy_hostOut (i : Instr) : (s.begunBy i).mbx.hostOut = s.mbx.hostOut := by
  unfold State.begunBy
  split
  · exact s.begin_hostOut ..
  · rfl

end Started

/-! GET_INFO, ATTEST and LOG_READ (R261, R367, R378). -/

section Results

variable {s : State} {h : Hdr} {buf : HostBuf}

theorem exec_getInfo_served (hs : s.serves (.getInfo h buf) = true) : exec (.getInfo h buf) s = .next (
    let u := s.begunBy (.getInfo h buf)
    if buf.len < 256 then u.complete (cmdOf h) 0x2D
    else u.giveHost (cmdOf h) buf u.infoBlock (BitVec.ofNat 64 (3 + u.lnt.build * 2 ^ 16)) 0) := by
  rw [show exec (.getInfo h buf) s = execGetInfo h buf s from rfl, execGetInfo]
  exact State.command_of_form (F := { hdr := h, cls := .prompt, buf := buf, always := true }) _ rfl hs

theorem exec_attest_served {nonce : BitVec 256} (hs : s.serves (.attest h nonce buf) = true) :
    exec (.attest h nonce buf) s = .next (
      let u := s.begunBy (.attest h nonce buf)
      if buf.len < 4608 then u.complete (cmdOf h) 0x2D
      else u.extend.giveHost (cmdOf h) buf (u.report4608 (leBytes 32 nonce.toNat)) 4608 0) := by
  rw [show exec (.attest h nonce buf) s = execAttest h nonce buf s from rfl, execAttest]
  exact State.command_of_form (F := { hdr := h, needs := [lanternBit], buf := buf, always := true }) _ rfl hs

/-- The bytes of LOG_READ: the entries, then zeros to the buffer's end. -/
def logBytes (es : List LogEvent) (n : Nat) : List Byte :=
  es.flatMap LogEvent.bytes ++ List.replicate (n - (es.flatMap LogEvent.bytes).length) 0

/-- LOG_READ of `count` entries from `start`, once it has started. -/
def State.readLog (s : State) (c : CmdId) (start count : Nat) (buf : HostBuf) : State :=
  s.giveHost c buf (logBytes (s.logRead start count).1 buf.len) (BitVec.ofNat 64 (s.logRead start count).2.2)
    (BitVec.ofNat 64 (s.logRead start count).2.1)

theorem exec_logRead_served {start : Word} {count : BitVec 16} (hs : s.serves (.logRead h start count buf) = true) :
    exec (.logRead h start count buf) s = .next (
      let u := s.begunBy (.logRead h start count buf)
      if count = 0 ∨ 8192 < count.toNat then u.complete (cmdOf h) 2
      else if buf.len < count.toNat * 32 then u.complete (cmdOf h) 0x2D
      else u.readLog (cmdOf h) start.toNat count.toNat buf) := by
  rw [show exec (.logRead h start count buf) s = execLogRead h start count buf s from rfl, execLogRead]
  exact State.command_of_form (F := { hdr := h, needs := [lanternBit], buf := buf, always := true }) _ rfl hs

theorem logCount_allowed {count : BitVec 16} (hlow : 1 ≤ count.toNat) (hhigh : count.toNat ≤ 8192) :
    ¬(count = 0 ∨ 8192 < count.toNat) := by
  rintro (rfl | hover)
  · exact absurd hlow (by decide)
  · exact hover.not_ge hhigh

/-- Results go to a buffer without a fault whole, and the command is outstanding no more. -/
theorem State.readLog_whole {c : CmdId} {start count : Nat} (hfault : buf.fault = none) :
    (s.readLog c start count buf).mbx.hostOut =
      s.mbx.hostOut ++ [(c, logBytes (s.logRead start count).1 buf.len)] ∧
    (s.readLog c start count buf).lnt = s.lnt ∧ (s.readLog c start count buf).isOut c = false := by
  unfold State.readLog State.giveHost
  rw [hfault]
  exact ⟨State.complete_hostOut .., State.complete_lnt .., State.isOut_complete ..⟩

end Results

/-! FW_UPDATE (R357, R358). -/

section Firmware

variable {s : State} {h : Hdr} {c : CmdId} {slot flags : BitVec 8} {buf : HostBuf} {readBack : Bool}

/-- The checks of FW_UPDATE before it looks at the buffer. -/
def State.judgeUpdate (s : State) (c : CmdId) (slot flags : Nat) (goes : State) : State :=
  if 2 ≤ slot ∨ 2 ≤ flags then s.complete c 2
  else if s.lnt.upd.phase ≠ UpdPhase.idle then s.complete c 4
  else if s.fwRunning = slot then s.complete c 0x30
  else goes

/-- A command with the bytes of its buffer, or with the status in place of them. -/
def State.withBytes (s : State) (c : CmdId) (got : Nat ⊕ List Byte) (goes : List Byte → State) : State :=
  match got with
  | .inl st => s.complete c st
  | .inr bs => goes bs

theorem exec_fwUpdate_served (hs : s.serves (.fwUpdate h slot flags buf readBack) = true) :
    exec (.fwUpdate h slot flags buf readBack) s = .next (
      let u := s.begunBy (.fwUpdate h slot flags buf readBack)
      u.judgeUpdate (cmdOf h) slot.toNat flags.toNat (u.withBytes (cmdOf h) (hostBytes buf buf.len)
        (u.fwUpdate (cmdOf h) slot.toNat (flags.getLsbD 0) · readBack))) := by
  rw [show exec (.fwUpdate h slot flags buf readBack) s = execFwUpdate h slot flags buf readBack s from rfl, execFwUpdate]
  refine (State.command_of_form
    (F := { hdr := h, needs := [lanternBit], cls := .long, buf := buf, ok := readBack, always := true }) _ rfl hs).trans
      (congrArg Host.Outcome.next ?_)
  dsimp only [State.judgeUpdate]
  generalize hostBytes buf buf.len = got
  cases got <;> rfl

section Judged

variable {slot flags : Nat} {goes : State}

theorem State.judgeUpdate_badParam (hbad : 2 ≤ slot ∨ 2 ≤ flags) : s.judgeUpdate c slot flags goes = s.complete c 2 :=
  if_pos hbad

variable (hslot : slot < 2) (hflags : flags < 2)
include hslot hflags

theorem State.judgeUpdate_allowed : s.judgeUpdate c slot flags goes =
    if s.lnt.upd.phase ≠ UpdPhase.idle then s.complete c 4
    else if s.fwRunning = slot then s.complete c 0x30 else goes := if_neg (by omega)

theorem State.judgeUpdate_busy (hbusy : s.lnt.upd.phase ≠ .idle) : s.judgeUpdate c slot flags goes = s.complete c 4 :=
  (State.judgeUpdate_allowed hslot hflags).trans (if_pos hbusy)

theorem State.judgeUpdate_active (hidle : s.lnt.upd.phase = .idle) (hactive : s.fwRunning = slot) :
    s.judgeUpdate c slot flags goes = s.complete c 0x30 :=
  (State.judgeUpdate_allowed hslot hflags).trans ((if_neg (not_not.2 hidle)).trans (if_pos hactive))

theorem State.judgeUpdate_goes (hidle : s.lnt.upd.phase = .idle) (hother : s.fwRunning ≠ slot) :
    s.judgeUpdate c slot flags goes = goes :=
  (State.judgeUpdate_allowed hslot hflags).trans ((if_neg (not_not.2 hidle)).trans (if_neg hother))

end Judged

section Image

variable {slot : Nat} {activate : Bool} {bs : List Byte}

theorem State.fwUpdate_bad (hbad : s.fwOk bs 0 = false) : s.fwUpdate c slot activate bs readBack = s.complete c 0x2F :=
  if_pos hbad

/-- A slot that does not read back as its image is left empty. -/
theorem State.fwUpdate_unread (hok : s.fwOk bs 0 = true) :
    s.fwUpdate c slot activate bs false = (s.setFwImage slot []).complete c 0x2F := by
  rw [State.fwUpdate, if_neg (ne_false_of_eq_true hok)]
  rfl

/-- A slot with a good image: programmed, and made active if asked. -/
def State.imageTaken (s : State) (slot : Nat) (activate : Bool) (bs : List Byte) : State :=
  if activate then (s.programSlot slot bs true).activateSlot slot else s.programSlot slot bs true

theorem State.fwUpdate_good (hok : s.fwOk bs 0 = true) : s.fwUpdate c slot activate bs true =
    (s.imageTaken slot activate bs).complete c 0 (BitVec.ofNat 64 (fwBuild bs)) := by
  rw [State.fwUpdate, if_neg (ne_false_of_eq_true hok)]
  rfl

theorem State.imageTaken_images : (s.imageTaken slot activate bs).flash.images =
    NMap.set dBytes s.flash.images slot (bs.take (natAt bs 0x10 8)) := by
  cases activate <;> rfl

theorem State.activateSlot_pending (hs : s.canon) :
    (s.activateSlot slot).bit R.LNT_STATUS F.LNT_STATUS_ACTIVATE_PENDING = true :=
  State.bit_of_put (b := true) (State.put_reg_self _ _ _ _ hs.1)

theorem LNT_STATUS_notMem_queueStatus (q : Nat) : R.LNT_STATUS ∉ [R.MBX_Q_STATUS q] := by
  simp only [R.LNT_STATUS, R.MBX_Q_STATUS, List.mem_singleton]
  omega

/-- A slot that was made active shows the activation when the command has completed. -/
theorem State.imageTaken_pending (hs : s.canon) (r0 : Dword) :
    ((s.imageTaken slot true bs).complete c 0 r0).bit R.LNT_STATUS F.LNT_STATUS_ACTIVATE_PENDING = true := by
  have hprogrammed : (s.programSlot slot bs true).canon := (s.programSlot_touch ..).2.2 hs
  have htaken : (s.imageTaken slot true bs).canon := (State.activateSlot_touch ..).2.2 hprogrammed
  have hkept := ((s.imageTaken slot true bs).complete_writes c 0 r0 0 0).reg htaken _ (LNT_STATUS_notMem_queueStatus _)
  rw [State.bit, State.fld, hkept]
  exact State.activateSlot_pending hprogrammed

/-- What FW_UPDATE of a good image leaves when it has completed. -/
theorem State.imageTaken_completed (hs : s.canon) (flags : BitVec 8) (r0 : Dword) :
    let t := (s.imageTaken slot (flags.getLsbD 0) bs).complete c 0 r0
    t.flash.images = NMap.set dBytes s.flash.images slot (bs.take (natAt bs 0x10 8)) ∧ t.isOut c = false ∧
    (flags = 1 → t.flash.active = slot ∧ t.bit R.LNT_STATUS F.LNT_STATUS_ACTIVATE_PENDING = true) ∧
    (flags = 0 → t.flash.active = s.flash.active) := by
  refine ⟨?_, State.isOut_complete .., fun hflag => ?_, fun hflag => ?_⟩
  · rw [State.complete_flash, State.imageTaken_images]
  · subst hflag
    exact ⟨congrArg Flash.active (State.complete_flash ..), State.imageTaken_pending hs r0⟩
  · subst hflag
    exact (congrArg Flash.active (State.complete_flash ..)).trans rfl

end Image

end Firmware

end Sys2Proof.Machine

/-! Error injection (14, R369, R370): what a detector's status leaves alone, and how an injection ends. -/

namespace Sys2Proof.Machine

section Spares

variable {qs : List Nat} {s t u : State} {o n : Nat} {f : Field}

theorem Spares.andPut (h : Spares qs s t) (ho : o ∉ qs) : Spares qs s (t.put o f n) := h.trans (.put ho)

theorem Spares.bump (ho : o ∉ qs) : Spares qs s (s.bump o f n) := .setReg ho

/-- A further step that a condition allows. -/
theorem Spares.andIf {c : Prop} [Decidable c] (h : Spares qs s t) (hu : Spares qs t u) :
    Spares qs s (if c then u else t) := h.trans (.ite (fun _ => hu) .refl)

/-- A further step unless a condition holds. -/
theorem Spares.andUnless {c : Prop} [Decidable c] (h : Spares qs s t) (hu : Spares qs t u) :
    Spares qs s (if c then t else u) := h.trans (.ite (fun _ => .refl) hu)

theorem Spares.set_sched {r : Sched} : Spares qs s { s with sched := r } := ⟨id, fun _ _ _ => rfl⟩

end Spares

/-- The register of the last injection. -/
def injRegs : List Nat := [R.ERR_INJ_LAST]

/-- A register of a row that begins after ERR_INJ_LAST. -/
theorem notMem_injRegs_of_lt {base off : Nat} (h : R.ERR_INJ_LAST < base := by decide) : base + off ∉ injRegs :=
  fun hmem => (Nat.ne_of_gt (Nat.lt_of_lt_of_le h (Nat.le_add_right base off))) (List.mem_singleton.1 hmem)

/-- A register of a row of at most 32 that ends before ERR_INJ_LAST. -/
theorem notMem_injRegs_of_gt {base stride k : Nat} (hk : k < 32)
    (h : base + 32 * stride < R.ERR_INJ_LAST := by decide) : base + k * stride ∉ injRegs := by
  intro hmem
  have hle : k * stride ≤ 32 * stride := Nat.mul_le_mul_right stride hk.le
  have heq := List.mem_singleton.1 hmem
  omega

section Detectors

variable (s : State)

theorem State.detect_sparesInj (block code unit : Nat) (data : List Byte) :
    Spares injRegs s (s.detect block code unit data) := .of_writes (s.detect_writes ..) (by decide)

theorem State.complete_sparesInj (c : CmdId) (status : Nat) (r0 r1 : Dword) (reason : Nat) :
    Spares injRegs s (s.complete c status r0 r1 reason) := by
  refine .of_writes (s.complete_writes c status r0 r1 reason) fun q hq => ?_
  rw [List.mem_singleton.1 hq]
  simp only [R.ERR_INJ_LAST, R.MBX_Q_STATUS, List.mem_singleton]
  omega

theorem State.record_sparesInj (g n : Nat) (l : Loc) : Spares injRegs s (s.record g n l) := by
  have hloc : R.GAL_ERR_LOC0 g ∉ injRegs := notMem_injRegs_of_lt
  have htick : R.GAL_ERR_LOC1 g ∉ injRegs := notMem_injRegs_of_lt
  unfold State.record
  refine .andIf (.trans ?_ (State.detect_sparesInj ..)) (.of_touch (State.haltAtEnd_touch _))
  exact .andUnless (.raise notMem_injRegs_of_lt) ((((((Spares.put hloc).andPut hloc).andPut hloc).andPut hloc).andPut
    hloc).trans ((Spares.raise hloc).andPut htick))

theorem State.recordSched_sparesInj (g n : Nat) (l : Loc) : Spares injRegs s (s.recordSched g n l) := by
  have hloc : R.GAL_SCHED_LOC0 g ∉ injRegs := notMem_injRegs_of_lt
  have htick : R.GAL_SCHED_LOC1 g ∉ injRegs := notMem_injRegs_of_lt
  have hport : R.GAL_SCHED_LOC2 g ∉ injRegs := notMem_injRegs_of_lt
  unfold State.recordSched
  refine .andIf (.trans ?_ (State.detect_sparesInj ..)) (.of_touch (State.haltAtEnd_touch _))
  exact .andUnless (.raise notMem_injRegs_of_lt) ((((((Spares.put hloc).andPut hloc).andPut hloc).andPut hloc).andPut
    hloc).trans ((((Spares.raise hloc).andPut htick).andPut hport).andPut hport))

theorem State.recordDm_sparesInj (g n lane cham word step : Nat) :
    Spares injRegs s (s.recordDm g n (.schedule lane) cham word step) := by
  have hloc : R.GAL_DM_LOC g ∉ injRegs := notMem_injRegs_of_lt
  have hstep : R.GAL_DM_LOC_STEP g ∉ injRegs := notMem_injRegs_of_lt
  have htick : R.GAL_DM_LOC_TICK g ∉ injRegs := notMem_injRegs_of_lt
  unfold State.recordDm
  refine .andIf (.trans ?_ (State.detect_sparesInj ..)) (.of_touch (State.haltAtEnd_touch _))
  refine .andIf (.raise notMem_injRegs_of_lt) ?_
  exact ((((Spares.put hloc).andPut hloc).andPut hloc).andPut hloc).trans (((Spares.raise hloc).trans
    (.setReg hstep)).trans (((((Spares.raise hstep).andPut hstep).andPut hstep).andPut hstep).andPut htick))

theorem State.fireDm_sparesInj (g n : Nat) : Spares injRegs s (s.fireDm g n) := by
  unfold State.fireDm
  exact .andIf (.trans (.andIf .refl (.bump notMem_injRegs_of_lt)) (State.recordDm_sparesInj ..))
    (.put notMem_injRegs_of_lt)

theorem State.fireDs_sparesInj {k : Nat} (hk : k < 32) (n : Nat) : Spares injRegs s (s.fireDs k n) := by
  have hchan : R.DS_CH_ERR k ∉ injRegs := notMem_injRegs_of_gt hk
  unfold State.fireDs
  refine .trans ?_ (State.detect_sparesInj ..)
  split
  · exact .bump hchan
  · exact .bump hchan
  · exact .bump hchan
  · exact .bump hchan
  · exact .refl

theorem State.recordPsg_sparesInj (p n flit : Nat) : Spares injRegs s (s.recordPsg p n flit) := by
  have hloc : R.PSG_ERR_LOC p ∉ injRegs := notMem_injRegs_of_lt
  refine .trans (.raise notMem_injRegs_of_lt) (.of_writes (s.recordPsg_writes p n flit) fun q hq hmem => ?_)
  rcases List.mem_cons.1 hmem with rfl | herr
  · exact hloc hq
  · exact (by decide : ∀ q ∈ injRegs, q ∉ errRegs) q hq herr

theorem State.firePsg_sparesInj (p n : Nat) : Spares injRegs s (s.firePsg p n) := by
  unfold State.firePsg
  refine .ite (fun _ => s.recordPsg_sparesInj ..) (.trans ?_ (State.detect_sparesInj ..))
  exact .ite (fun _ => .bump notMem_injRegs_of_lt) (.ite (fun _ => .bump notMem_injRegs_of_lt) .refl)

theorem State.recordLtc_sparesInj (n : Nat) : Spares injRegs s (s.recordLtc n) :=
  .trans (.raise (by decide)) (State.detect_sparesInj ..)

theorem State.fireSched_sparesInj (n u : Nat) : Spares injRegs s (s.fireSched n u) := by
  unfold State.fireSched
  refine .andIf (.trans ?_ (State.detect_sparesInj ..)) (.of_touch (State.haltAtEnd_touch _))
  split
  · exact .trans (.raise (by decide)) (.of_touch (State.cicEvent_touch ..))
  · exact .raise (by decide)
  · exact .raise (by decide)
  · exact .raise (by decide)
  · exact .raise notMem_injRegs_of_lt
  · exact .refl

theorem State.recordNoc_sparesInj (n node src : Nat) : Spares injRegs s (s.recordNoc n node src) :=
  .trans (.raise (by decide)) (.of_writes (s.recordNoc_writes ..) (by decide))

theorem State.hostErr_sparesInj (n bar addr st : Nat) : Spares injRegs s (s.hostErr n bar addr st) :=
  .trans (.raise (by decide)) (.of_writes (s.hostErr_writes ..) (by decide))

theorem State.latch_sparesInj {k : Nat} (hk : k < 32) (e : DmaError) : Spares injRegs s (s.latch k e) := by
  have hinfo : R.DMA_CH_ERR_INFO k ∉ injRegs := notMem_injRegs_of_gt hk
  have hlow : R.DMA_CH_ERR_ADDR_LO k ∉ injRegs := notMem_injRegs_of_gt hk
  have hhigh : R.DMA_CH_ERR_ADDR_HI k ∉ injRegs := notMem_injRegs_of_gt hk
  unfold State.latch
  refine .andUnless .refl (.andUnless ?_ (.trans (.setReg hlow) (.setReg hhigh)))
  exact ((((((Spares.setReg hinfo).andPut hinfo).andPut hinfo).andPut hinfo).andPut hinfo).andPut hinfo).trans
    (.raise hinfo)

theorem State.fireRim_sparesInj (n u : Nat) : Spares injRegs s (s.fireRim n u) := by
  unfold State.fireRim
  refine .trans ?_ (State.detect_sparesInj ..)
  split
  · exact .raise (by decide)
  · exact .raise (by decide)
  · exact .bump (by decide)
  · exact .bump (by decide)
  · exact .raise (by decide)
  · exact .raise (by decide)
  · exact .bump (by decide)
  · exact .raise (by decide)
  · exact .refl

theorem State.fireTb_sparesInj (n : Nat) : Spares injRegs s (s.fireTb n) := by
  unfold State.fireTb
  refine .trans ?_ (State.detect_sparesInj ..)
  split
  · exact .raise (by decide)
  · exact .raise (by decide)
  · exact .raise (by decide)
  · exact .raise (by decide)
  · exact .refl

/-- The status of a detector outside Lantern, set for a unit in range, spares the register of the last injection. -/
theorem State.fireDetector_sparesInj {block n u : Nat} (hunit : unitOk block n u = true) (hblock : block ≠ 0x10) :
    Spares injRegs s (s.fireDetector block n u) := by
  unfold State.fireDetector
  split
  · exact .trans (.andIf .refl (.bump notMem_injRegs_of_lt)) (State.record_sparesInj ..)
  · exact s.recordSched_sparesInj ..
  · exact s.fireDm_sparesInj ..
  · exact s.fireDs_sparesInj (by simpa [unitOk] using hunit) _
  · exact s.firePsg_sparesInj ..
  · exact s.recordLtc_sparesInj _
  · exact s.fireSched_sparesInj ..
  · exact s.recordNoc_sparesInj ..
  · exact .ite (fun _ => s.hostErr_sparesInj ..) (s.detect_sparesInj ..)
  · exact (s.latch_sparesInj (by simpa [unitOk] using hunit) _).trans (State.detect_sparesInj ..)
  · exact s.fireRim_sparesInj ..
  · exact s.fireTb_sparesInj _
  · exact absurd rfl hblock
  · exact s.detect_sparesInj ..

theorem State.atZero_sparesInj {f : State → State} (hf : ∀ t, Spares injRegs t (f t)) : Spares injRegs s (s.atZero f) :=
  (Spares.set_sched.trans (hf _)).trans .set_sched

end Detectors

section Injection

variable {s : State} {h : Hdr} {c : CmdId} {det unit : Nat} {fault : Bool}

/-- The word of ERR_INJ_LAST. -/
def injWord (det unit : Nat) (fault : Bool) : Word :=
  BitVec.ofNat 32 (natOfBool fault * 0xC0000000 + det / 256 % 256 * 2 ^ 16 + det % 256 * 2 ^ 8 + unit % 256)

theorem State.noteInject_last (hs : s.canon) : (s.noteInject det unit fault).reg R.ERR_INJ_LAST = injWord det unit fault :=
  ((State.detect_sparesInj ..).reg ((s.setReg_touch ..).2.2 hs) _ (List.mem_singleton_self _)).trans
    (s.setReg_reg_self _ _ hs.1)

/-- A turned-away injection ends with its status, any other goes on. -/
def State.judgeInject (s : State) (c : CmdId) (fail : Option Nat) (goes : State) : State :=
  match fail with
  | some st => s.complete c st
  | none => goes

theorem State.judgeInject_some {fail : Option Nat} {st : Nat} {goes : State} (hfail : fail = some st) :
    s.judgeInject c fail goes = s.complete c st := by rw [hfail]; rfl

theorem State.judgeInject_none {fail : Option Nat} {goes : State} (hfail : fail = none) :
    s.judgeInject c fail goes = goes := by rw [hfail]; rfl

/-- An accepted STATUS injection. -/
def State.injectedStatus (s : State) (c : CmdId) (det unit : Nat) : State :=
  if det / 256 = 0x10 then ((s.noteInject det unit false).complete c 0).fireLantern (det % 256) unit
  else ((s.noteInject det unit false).atZero (fun s => s.fireDetector (det / 256) (det % 256) unit)).complete c 0

/-- The point that a FAULT injection arms. -/
def armedPoint (det unit : Nat) : ArmedPoint := { block := det / 256, code := det % 256, unit := unit, used := false }

/-- An accepted FAULT injection: noted, its point armed. -/
def State.injectedFault (s : State) (det unit : Nat) : State :=
  { s.noteInject det unit true with
    lnt := { (s.noteInject det unit true).lnt with armed := (s.noteInject det unit true).lnt.armed ++ [armedPoint det unit] } }

theorem exec_injectStatus_served {det : Word} {unit : BitVec 16} (hs : s.serves (.injectStatus h det unit) = true) :
    exec (.injectStatus h det unit) s = .next (
      let u := s.begunBy (.injectStatus h det unit)
      u.judgeInject (cmdOf h) (u.injectFail det.toNat unit.toNat false)
        (u.injectedStatus (cmdOf h) det.toNat unit.toNat)) := by
  rw [show exec (.injectStatus h det unit) s = execInjectStatus h det unit s from rfl, execInjectStatus]
  refine (State.command_of_form (F := { hdr := h, needs := [lanternBit] }) _ rfl hs).trans
    (congrArg Host.Outcome.next ?_)
  dsimp only
  generalize (s.begunBy (.injectStatus h det unit)).injectFail det.toNat unit.toNat false = fail
  cases fail <;> rfl

theorem exec_injectFault_served {det : Word} {unit : BitVec 16} (hs : s.serves (.injectFault h det unit) = true) :
    exec (.injectFault h det unit) s = .next (
      let u := s.begunBy (.injectFault h det unit)
      u.judgeInject (cmdOf h) (u.injectFail det.toNat unit.toNat true)
        ((u.injectedFault det.toNat unit.toNat).complete (cmdOf h) 0)) := by
  rw [show exec (.injectFault h det unit) s = execInjectFault h det unit s from rfl, execInjectFault]
  refine (State.command_of_form (F := { hdr := h, needs := [lanternBit] }) _ rfl hs).trans
    (congrArg Host.Outcome.next ?_)
  dsimp only
  generalize (s.begunBy (.injectFault h det unit)).injectFail det.toNat unit.toNat true = fail
  cases fail <;> rfl

/-- An accepted injection names a unit in range. -/
theorem State.unitOk_of_accepted (hok : s.injectFail det unit fault = none) : unitOk (det / 256) (det % 256) unit = true := by
  unfold State.injectFail at hok
  by_contra hunit
  rw [Bool.not_eq_true] at hunit
  dsimp only at hok
  rw [if_pos hunit] at hok
  split at hok <;> cases hok

/-- The status of another block's detector is noted as the last injection, and the command completes. -/
theorem State.injectedStatus_noted (hs : s.canon) (hok : s.injectFail det unit false = none) (hblock : det / 256 ≠ 0x10) :
    (s.injectedStatus c det unit).isOut c = false ∧
    (s.injectedStatus c det unit).reg R.ERR_INJ_LAST = injWord det unit false := by
  have hnoted : (s.noteInject det unit false).canon := (State.noteInject_touch ..).2.2 hs
  have hfired : Spares injRegs (s.noteInject det unit false) (s.injectedStatus c det unit) := by
    rw [State.injectedStatus, if_neg hblock]
    exact (State.atZero_sparesInj _ fun t => t.fireDetector_sparesInj (State.unitOk_of_accepted hok) hblock).trans
      (State.complete_sparesInj ..)
  refine ⟨?_, (hfired.reg hnoted _ (List.mem_singleton_self _)).trans (State.noteInject_last hs)⟩
  rw [State.injectedStatus, if_neg hblock]
  exact State.isOut_complete ..

/-- The point of an accepted FAULT injection is armed when the command has completed. -/
theorem State.isArmed_injectedFault : ((s.injectedFault det unit).complete c 0).isArmed (det / 256) (det % 256) unit = true := by
  rw [State.isArmed, State.complete_lnt, State.injectedFault, List.any_append]
  simp [armedPoint]

end Injection

/-- Settles O53: GET_INFO, ATTEST and LOG_READ by their buffer, FW_UPDATE by its checks and then its image, an injection by
what turns it away. The slot is programmed in one step, with the read-back's outcome as the operand (log 38). -/
theorem lanternCommandsAnswer : Obligations.LanternCommandsAnswer := by
  unfold Obligations.LanternCommandsAnswer
  refine fun h s hs => ⟨fun buf hserved => exec_getInfo_served hserved, fun nonce buf hserved => exec_attest_served hserved,
    fun start count buf hserved => ?log, fun slot flags buf rb hserved => ?update,
    fun det unit => ⟨fun hserved => ?status, fun hserved => ?fault⟩⟩
  case log =>
    rw [exec_logRead_served hserved]
    refine ⟨fun hbad => congrArg _ (if_pos hbad), fun hlow hhigh hsmall => ?_, fun hlow hhigh hfits hfault => ?_⟩
    · exact congrArg _ ((if_neg (logCount_allowed hlow hhigh)).trans (if_pos hsmall))
    · obtain ⟨hout, hlnt, hdone⟩ := State.readLog_whole (s := s.begunBy (.logRead h start count buf)) (c := cmdOf h)
        (start := start.toNat) (count := count.toNat) hfault
      refine ⟨_, congrArg _ ((if_neg (logCount_allowed hlow hhigh)).trans (if_neg hfits.not_gt)), ?_, ?_, hdone⟩
      · rw [hout, s.begunBy_hostOut]
        rfl
      · rw [hlnt, (s.begunBy_touch _).2.1 .lnt rfl]
  case update =>
    rw [exec_fwUpdate_served hserved]
    have hcanon := (s.begunBy_touch (.fwUpdate h slot flags buf rb)).2.2 hs
    have hflash : (s.begunBy (.fwUpdate h slot flags buf rb)).flash = s.flash := (s.begunBy_touch _).2.1 .flash rfl
    generalize s.begunBy (.fwUpdate h slot flags buf rb) = u at hcanon hflash ⊢
    refine ⟨fun hbad => congrArg _ (State.judgeUpdate_badParam hbad),
      fun hslot hflags hbusy => congrArg _ (State.judgeUpdate_busy hslot hflags hbusy),
      fun hslot hflags hidle hactive => congrArg _ (State.judgeUpdate_active hslot hflags hidle hactive),
      fun hslot hflags hidle hother => ?_⟩
    dsimp only
    rw [State.judgeUpdate_goes hslot hflags hidle hother]
    refine ⟨fun st hst => by rw [hst]; rfl, fun bs hbs => ?_⟩
    rw [hbs]
    refine ⟨fun hbad => congrArg _ (State.fwUpdate_bad hbad), fun hok hunread => ?_, fun hok hread => ?_⟩
    · rw [hunread]
      exact congrArg _ (State.fwUpdate_unread hok)
    · rw [hread]
      rw [← hflash]
      exact ⟨_, congrArg _ (State.fwUpdate_good hok), State.imageTaken_completed hcanon flags _⟩
  case status =>
    rw [exec_injectStatus_served hserved]
    have hcanon := (s.begunBy_touch (.injectStatus h det unit)).2.2 hs
    generalize s.begunBy (.injectStatus h det unit) = u at hcanon ⊢
    refine ⟨fun st hfail => congrArg _ (State.judgeInject_some hfail), fun hok hblock => ?_, fun hok hblock => ?_⟩
    · exact congrArg _ ((State.judgeInject_none hok).trans (if_pos hblock))
    · obtain ⟨hdone, hlast⟩ := State.injectedStatus_noted (c := cmdOf h) hcanon hok hblock
      refine ⟨_, congrArg _ (State.judgeInject_none hok), hdone, hlast.trans ?_⟩
      rw [injWord, natOfBool, if_neg Bool.false_ne_true, Nat.zero_mul, Nat.zero_add]
  case fault =>
    rw [exec_injectFault_served hserved]
    exact ⟨fun st hfail => congrArg _ (State.judgeInject_some hfail), fun hok => ⟨_,
      congrArg _ (State.judgeInject_none hok), State.isOut_complete .., State.isArmed_injectedFault⟩⟩

end Sys2Proof.Machine

/-! What an operation leaves of one field. -/

namespace Sys2Proof.Machine

/-- From a canonical state the state stays canonical and field `f` of register `o` is as before. -/
structure KeepsFld (o : Nat) (f : Field) (s t : State) : Prop where
  canon : s.canon → t.canon
  fld : s.canon → t.fld o f = s.fld o f

section KeepsFld

variable {o : Nat} {f p : Field} {s t u : State}

theorem KeepsFld.refl : KeepsFld o f s s := ⟨id, fun _ => rfl⟩

theorem KeepsFld.trans (h : KeepsFld o f s t) (h' : KeepsFld o f t u) : KeepsFld o f s u :=
  ⟨fun hs => h'.canon (h.canon hs), fun hs => (h'.fld (h.canon hs)).trans (h.fld hs)⟩

theorem KeepsFld.ite {c : Prop} [Decidable c] (ht : KeepsFld o f s t) (hu : KeepsFld o f s u) :
    KeepsFld o f s (if c then t else u) := by split <;> assumption

/-- What writes other registers keeps it. -/
theorem KeepsFld.of_writes {os : List Nat} (h : Writes os s t) (ho : o ∉ os) : KeepsFld o f s t :=
  ⟨h.canon, fun hs => congrArg f.of (h.reg hs o ho)⟩

theorem KeepsFld.of_touch {m : Nat} (h : Touch m s t) (hm : m.testBit 0 = false := by rfl) : KeepsFld o f s t :=
  .of_writes (os := []) (.of_touch h hm) List.not_mem_nil

theorem KeepsFld.put_other {k n : Nat} (hk : o ≠ k) : KeepsFld o f s (s.put k p n) :=
  .of_writes (.put (List.mem_singleton_self k)) (List.mem_singleton.not.2 hk)

theorem KeepsFld.raise_other {k : Nat} (hk : o ≠ k) : KeepsFld o f s (s.raise k p) :=
  .of_writes (.raise (List.mem_singleton_self k)) (List.mem_singleton.not.2 hk)

/-- A field stored below it in its own register leaves it. -/
theorem KeepsFld.put_below {n : Nat} (hp : p.lo ≤ p.hi := by decide) (hp' : p.hi < 32 := by decide)
    (hf : p.hi < f.lo := by decide) : KeepsFld o f s (s.put o p n) :=
  ⟨(s.put_touch ..).2.2, fun hs => by
    rw [State.fld, State.fld, State.put_reg_self _ _ _ _ hs.1, Field.of_put_above _ _ _ _ hp hp' hf]⟩

theorem KeepsFld.bit (h : KeepsFld o f s t) (hs : s.canon) : t.bit o f = s.bit o f := congrArg (· == 1) (h.fld hs)

/-- A bit that hardware sets reads 1. -/
theorem State.bit_raise (hs : s.canon) (hf : f.hi = f.lo := by rfl) (hf' : f.hi < 32 := by decide) :
    (s.raise o f).bit o f = true := State.bit_of_put (b := true) (s.put_reg_self o f 1 hs.1) hf hf'

end KeepsFld

end Sys2Proof.Machine

/-! Gallery power (10, R296; 16, R397, R398): the two bits of a gallery, and what a request of another gallery leaves. -/

namespace Sys2Proof.Machine

section PowerFields

variable {s t : State} {g k : Nat}

theorem State.galPower_lt (s : State) (g : Nat) : s.galPower g < 4 := reqField_size g ▸ Field.of_lt (reqField g) _

/-- The request just stored. -/
theorem State.galReq_put_self (h : s.canon) (g n : Nat) :
    (s.put (R.PWR_GAL_REQ (g / 16)) (reqField g) n).galReq g = n % 4 := by
  rw [State.galReq, State.fld_put _ _ _ _ h.1 (reqField_lo_le g) (reqField_hi_lt g), reqField_size]

/-- The requests of the other galleries are as before. -/
theorem State.putReq_keepsReq (s : State) (hk : k ≠ g) (n : Nat) :
    KeepsFld (R.PWR_GAL_REQ (k / 16)) (reqField k) s (s.put (R.PWR_GAL_REQ (g / 16)) (reqField g) n) := by
  by_cases hreg : R.PWR_GAL_REQ (k / 16) = R.PWR_GAL_REQ (g / 16)
  · have hmod : k % 16 ≠ g % 16 := by
      unfold R.PWR_GAL_REQ at hreg
      omega
    refine ⟨(s.put_touch ..).2.2, fun hs => ?_⟩
    rw [State.fld, State.fld, hreg, State.put_reg_self _ _ _ _ hs.1]
    rcases Nat.lt_or_gt_of_ne hmod with hlt | hgt
    · exact Field.of_put_below _ _ _ _ (reqField_lo_le g) (reqField_hi_lt g) (reqField_lo_le k) (reqField_hi_lt_lo hlt)
    · exact Field.of_put_above _ _ _ _ (reqField_lo_le g) (reqField_hi_lt g) (reqField_hi_lt_lo hgt)
  · exact .put_other hreg

/-- An operation that does not write a gallery's state register leaves its power state. -/
theorem Writes.galPower {os : List Nat} (h : Writes os s t) (hs : s.canon) (hg : R.PWR_GAL_STATE (g / 16) ∉ os) :
    t.galPower g = s.galPower g := congrArg _ (h.reg hs _ hg)

/-- The registers that requests of power states write: the requests, and the refusal. -/
def galReqRegs : List Nat := [R.PWR_GAL_REQ 0, R.PWR_GAL_REQ 1, R.PWR_GAL_REQ 2, R.PWR_GAL_REQ 3, R.PWR_EVENT]

theorem galReqReg_mem (hg : g < 64) : R.PWR_GAL_REQ (g / 16) ∈ galReqRegs := by
  have h : g / 16 = 0 ∨ g / 16 = 1 ∨ g / 16 = 2 ∨ g / 16 = 3 := by omega
  rcases h with h | h | h | h <;> rw [h] <;> decide

theorem galReqReg_ne_event (hg : g < 64) : R.PWR_GAL_REQ (g / 16) ≠ R.PWR_EVENT := by
  unfold R.PWR_GAL_REQ R.PWR_EVENT
  omega

theorem galStateReg_notMem (hg : g < 64) : R.PWR_GAL_STATE (g / 16) ∉ galReqRegs := by
  simp only [galReqRegs, R.PWR_GAL_STATE, R.PWR_GAL_REQ, R.PWR_EVENT, List.mem_cons, List.not_mem_nil, or_false]
  omega

theorem galMode_notMem (g : Nat) : R.GAL_MODE g ∉ galReqRegs := by
  simp only [galReqRegs, R.GAL_MODE, R.PWR_GAL_REQ, R.PWR_EVENT, List.mem_cons, List.not_mem_nil, or_false]
  omega

end PowerFields

/-! What a request turns on: whether the gallery is busy, its power state, whether the request is refused. -/

/-- A change from `s` to `t` by requests: their registers and Warden events alone. -/
structure ByRequests (s t : State) : Prop where
  writes : Writes galReqRegs s t
  mem : t.mem = s.mem
  fab : t.fab = s.fab

section Requests

variable {s t u : State} {g k r : Nat}

theorem ByRequests.refl : ByRequests s s := ⟨.refl, rfl, rfl⟩

theorem ByRequests.trans (h : ByRequests s t) (h' : ByRequests t u) : ByRequests s u :=
  ⟨h.writes.trans h'.writes, h'.mem.trans h.mem, h'.fab.trans h.fab⟩

theorem ByRequests.canon (h : ByRequests s t) (hs : s.canon) : t.canon := h.writes.canon hs

theorem ByRequests.galPower (h : ByRequests s t) (hs : s.canon) (hg : g < 64) : t.galPower g = s.galPower g :=
  h.writes.galPower hs (galStateReg_notMem hg)

theorem ByRequests.isOff (h : ByRequests s t) (hs : s.canon) (hg : g < 64) : t.isOff g = s.isOff g :=
  congrArg (· == 2) (h.galPower hs hg)

theorem ByRequests.galBusy (h : ByRequests s t) (g : Nat) : t.galBusy g = s.galBusy g := by
  rw [State.galBusy, State.galBusy, State.testing, State.testing, h.mem, h.fab]

theorem ByRequests.galRefuses (h : ByRequests s t) (hs : s.canon) (g r : Nat) : t.galRefuses g r = s.galRefuses g r := by
  have himage : t.inImage g = s.inImage g :=
    congrArg (fun w => F.GAL_MODE_IN_IMAGE.of w == 1) (h.writes.reg hs _ (galMode_notMem g))
  have hrun : t.isRunning = s.isRunning :=
    congrArg (fun w => F.DEVICE_STATE_RUN_STATE.of w == 2 || F.DEVICE_STATE_RUN_STATE.of w == 3)
      (h.writes.reg hs R.DEVICE_STATE (by decide))
  rw [State.galRefuses, State.galRefuses, himage, hrun]

/-! One request. -/

theorem State.putReq_byRequests (s : State) (hg : g < 64) (n : Nat) :
    ByRequests s (s.put (R.PWR_GAL_REQ (g / 16)) (reqField g) n) := ⟨.put (galReqReg_mem hg), rfl, rfl⟩

theorem State.refuseGal_byRequests (s : State) (hg : g < 64) : ByRequests s (s.refuseGal g) :=
  ⟨((Writes.put (galReqReg_mem hg)).trans (.raise (by decide))).trans (.put (by decide)), rfl, rfl⟩

theorem State.wardenPend_byRequests (s : State) (g i : Nat) : ByRequests s (s.wardenPend g i) :=
  ⟨.of_touch (s.wardenPend_touch g i), (s.wardenPend_touch g i).2.1 .mem rfl, (s.wardenPend_touch g i).2.1 .fab rfl⟩

theorem State.requestGal_reserved (s : State) (g : Nat) : s.requestGal g 3 = s := if_pos rfl

theorem State.requestGal_held (hs : s.canon) (hg : g < 64) (hr : r ≠ 3) (hheld : s.galBusy g = true ∨ s.galPower g = r) :
    s.requestGal g r = s.put (R.PWR_GAL_REQ (g / 16)) (reqField g) r := by
  have hput := s.putReq_byRequests hg r
  rw [← hput.galBusy, ← hput.galPower hs hg] at hheld
  exact (if_neg hr).trans (if_pos hheld)

theorem State.requestGal_goes (hs : s.canon) (hg : g < 64) (hr : r ≠ 3) (hidle : s.galBusy g = false)
    (hne : s.galPower g ≠ r) : s.requestGal g r =
      if s.galRefuses g r then (s.put (R.PWR_GAL_REQ (g / 16)) (reqField g) r).refuseGal g
      else (s.put (R.PWR_GAL_REQ (g / 16)) (reqField g) r).wardenPend g 10 := by
  have hput := s.putReq_byRequests hg r
  rw [← hput.galBusy] at hidle
  rw [← hput.galPower hs hg] at hne
  rw [← hput.galRefuses hs]
  exact (if_neg hr).trans (if_neg (not_or.2 ⟨Bool.eq_false_iff.1 hidle, hne⟩))

/-- A request ends in one of four ways (R398). -/
theorem State.requestGal_cases (s : State) (g r : Nat) :
    let u := s.put (R.PWR_GAL_REQ (g / 16)) (reqField g) r
    s.requestGal g r = s ∨ s.requestGal g r = u ∨ s.requestGal g r = u.refuseGal g ∨
      s.requestGal g r = u.wardenPend g 10 := by
  unfold State.requestGal
  dsimp only
  split
  · exact .inl rfl
  · split
    · exact .inr (.inl rfl)
    · split
      · exact .inr (.inr (.inl rfl))
      · exact .inr (.inr (.inr rfl))

theorem State.requestGal_byRequests (s : State) (hg : g < 64) (r : Nat) : ByRequests s (s.requestGal g r) := by
  have hput := s.putReq_byRequests hg r
  rcases s.requestGal_cases g r with h | h | h | h <;> rw [h]
  · exact .refl
  · exact hput
  · exact hput.trans (State.refuseGal_byRequests _ hg)
  · exact hput.trans (State.wardenPend_byRequests ..)

/-- A refused gallery requests the state that it is in, and PWR_EVENT shows it. -/
theorem State.refuseGal_refuses (hs : s.canon) (hg : g < 64) :
    (s.refuseGal g).galReq g = s.galPower g ∧ (s.refuseGal g).bit R.PWR_EVENT F.PWR_EVENT_REFUSED = true := by
  have hput := (s.put_touch (R.PWR_GAL_REQ (g / 16)) (reqField g) (s.galPower g)).2.2 hs
  have hraise := (State.raise_touch _ R.PWR_EVENT F.PWR_EVENT_REFUSED).2.2 hput
  constructor
  · have hreg := (State.put_reg_of_ne _ R.PWR_EVENT _ F.PWR_EVENT_GALLERY g hraise.1 (galReqReg_ne_event hg)).trans
      (State.put_reg_of_ne _ R.PWR_EVENT _ F.PWR_EVENT_REFUSED 1 hput.1 (galReqReg_ne_event hg))
    exact (congrArg (reqField g).of hreg).trans
      ((State.galReq_put_self hs g _).trans (Nat.mod_eq_of_lt (s.galPower_lt g)))
  · exact (KeepsFld.bit .put_below hraise).trans (State.bit_raise hput)

/-- A later refusal or none: a refusal stays on record. -/
theorem State.requestGal_refused (hs : s.canon) (hg : g < 64) (r : Nat)
    (h : s.bit R.PWR_EVENT F.PWR_EVENT_REFUSED = true) : (s.requestGal g r).bit R.PWR_EVENT F.PWR_EVENT_REFUSED = true := by
  have hput := (s.putReq_byRequests hg r).canon hs
  have hbit : (s.put (R.PWR_GAL_REQ (g / 16)) (reqField g) r).bit R.PWR_EVENT F.PWR_EVENT_REFUSED = true :=
    (KeepsFld.bit (.put_other (galReqReg_ne_event hg).symm) hs).trans h
  rcases s.requestGal_cases g r with e | e | e | e <;> rw [e]
  · exact h
  · exact hbit
  · exact (State.refuseGal_refuses hput hg).2
  · exact (KeepsFld.bit (.of_touch (State.wardenPend_touch ..)) hput).trans hbit

/-! Events of the Wardens. -/

/-- An event of a gallery that is not Off pends. -/
theorem State.wardenPend_pends (hon : s.isOff g = false) {i : Nat} (hi : i < 12) :
    NMap.get (fun _ => false) (s.wardenPend g i).wiu.pend (g * 32 + i) = true := by
  have hlisted : ¬(s.isOff g = true ∨ (12 ≤ i ∧ i ≤ 15) ∨ 32 ≤ i) := by
    rw [hon]
    simp only [Bool.false_eq_true, false_or]
    omega
  rw [State.wardenPend, if_neg hlisted]
  exact NMap.get_set_of_ne_default _ Bool.noConfusion

/-- What pends stays so when another event comes. -/
theorem State.wardenPend_keeps (s : State) (g i : Nat) {n : Nat} (h : NMap.get (fun _ => false) s.wiu.pend n = true) :
    NMap.get (fun _ => false) (s.wardenPend g i).wiu.pend n = true := by
  unfold State.wardenPend
  split
  · exact h
  · by_cases hn : n = g * 32 + i
    · rw [hn]
      exact NMap.get_set_of_ne_default _ Bool.noConfusion
    · exact (NMap.get_set_other_of_ne_default _ Bool.noConfusion hn).trans h

theorem State.requestGal_pends (s : State) (g r : Nat) {n : Nat} (h : NMap.get (fun _ => false) s.wiu.pend n = true) :
    NMap.get (fun _ => false) (s.requestGal g r).wiu.pend n = true := by
  rcases s.requestGal_cases g r with e | e | e | e <;> rw [e]
  · exact h
  · exact h
  · exact h
  · exact State.wardenPend_keeps _ _ _ h

/-! Requests of the galleries beside `g`. -/

/-- A change by requests that leaves the request of gallery `g` and takes back no refusal and none of its events. -/
structure Bystander (g : Nat) (s t : State) : Prop extends ByRequests s t where
  req : s.canon → t.galReq g = s.galReq g
  refused : s.canon → s.bit R.PWR_EVENT F.PWR_EVENT_REFUSED = true → t.bit R.PWR_EVENT F.PWR_EVENT_REFUSED = true
  pends : ∀ n, NMap.get (fun _ => false) s.wiu.pend n = true → NMap.get (fun _ => false) t.wiu.pend n = true

theorem Bystander.refl : Bystander g s s := ⟨.refl, fun _ => rfl, fun _ => id, fun _ => id⟩

theorem Bystander.trans (h : Bystander g s t) (h' : Bystander g t u) : Bystander g s u where
  toByRequests := h.toByRequests.trans h'.toByRequests
  req hs := (h'.req (h.canon hs)).trans (h.req hs)
  refused hs hr := h'.refused (h.canon hs) (h.refused hs hr)
  pends n hn := h'.pends n (h.pends n hn)

theorem Bystander.foldl {α : Type} {f : State → α → State} {l : List α} (hf : ∀ x ∈ l, ∀ t, Bystander g t (f t x)) :
    Bystander g s (l.foldl f s) := by
  induction l generalizing s with
  | nil => exact .refl
  | cons x xs ih => exact (hf x List.mem_cons_self s).trans (ih fun y hy => hf y (List.mem_cons_of_mem x hy))

/-- The request of gallery `k` leaves that of gallery `g`. -/
theorem State.requestGal_keepsReq (s : State) (hg : g < 64) (hne : g ≠ k) (r : Nat) :
    KeepsFld (R.PWR_GAL_REQ (g / 16)) (reqField g) s (s.requestGal k r) := by
  have hput := s.putReq_keepsReq hne r
  have hevent := galReqReg_ne_event hg
  rcases s.requestGal_cases k r with e | e | e | e <;> rw [e]
  · exact .refl
  · exact hput
  · exact hput.trans (((State.putReq_keepsReq _ hne _).trans (.raise_other hevent)).trans (.put_other hevent))
  · exact hput.trans (.of_touch (State.wardenPend_touch ..))

theorem State.requestGal_bystander (s : State) (hk : k < 64) (hg : g < 64) (hne : g ≠ k) (r : Nat) :
    Bystander g s (s.requestGal k r) where
  toByRequests := s.requestGal_byRequests hk r
  req := (s.requestGal_keepsReq hg hne r).fld
  refused hs := s.requestGal_refused hs hk r
  pends _ := s.requestGal_pends k r

/-! What the request of gallery `g` leads to (R398). -/

/-- How `t` answers the request of state `r` that gallery `g` met in `s` (R398): no request moves the power state, 0b11
changes nothing, a busy gallery keeps its request, and any other request is refused or pends the POWER source. -/
structure GalAnswered (g r : Nat) (s t : State) : Prop where
  power : t.galPower g = s.galPower g
  reserved : r = 3 → t.galReq g = s.galReq g
  held : r ≠ 3 → (s.galBusy g = true ∨ s.galPower g = r) → t.galReq g = r
  refused : r ≠ 3 → s.galBusy g = false → s.galPower g ≠ r → s.galRefuses g r = true →
    t.galReq g = s.galPower g ∧ t.bit R.PWR_EVENT F.PWR_EVENT_REFUSED = true
  pends : r ≠ 3 → s.galBusy g = false → s.galPower g ≠ r → s.galRefuses g r = false → t.galReq g = r ∧
    (s.isOff g = false → NMap.get (fun _ => false) t.wiu.pend (g * 32 + 10) = true)

theorem State.requestGal_answered (hs : s.canon) (hg : g < 64) (hr : r < 4) : GalAnswered g r s (s.requestGal g r) := by
  have hput := s.putReq_byRequests hg r
  have hcanon := hput.canon hs
  have hreq := (State.galReq_put_self hs g r).trans (Nat.mod_eq_of_lt hr)
  refine ⟨(s.requestGal_byRequests hg r).galPower hs hg, ?_, ?_, ?_, ?_⟩
  · rintro rfl
    rw [s.requestGal_reserved]
  · intro hne hheld
    rw [State.requestGal_held hs hg hne hheld, hreq]
  · intro hne hidle hmoves href
    rw [State.requestGal_goes hs hg hne hidle hmoves, if_pos href, ← hput.galPower hs hg]
    exact State.refuseGal_refuses hcanon hg
  · intro hne hidle hmoves href
    rw [State.requestGal_goes hs hg hne hidle hmoves, href, if_neg Bool.false_ne_true]
    have hpend := (s.put (R.PWR_GAL_REQ (g / 16)) (reqField g) r).wardenPend_touch g 10
    exact ⟨((KeepsFld.of_touch hpend).fld hcanon).trans hreq,
      fun hon => State.wardenPend_pends ((hput.isOff hs hg).trans hon) (by decide)⟩

/-- Requests of the other galleries, before and after, leave the answer. -/
theorem GalAnswered.between {v : State} (hs : s.canon) (hg : g < 64) (h : GalAnswered g r t u) (hb : Bystander g s t)
    (ha : Bystander g u v) (hu : u.canon) : GalAnswered g r s v := by
  have hpower := hb.galPower hs hg
  have hbusy := hb.galBusy g
  have hoff := hb.isOff hs hg
  have hrefuses := hb.galRefuses hs g r
  obtain ⟨hstays, hreserved, hheld, hrefused, hpends⟩ := h
  rw [hpower] at hstays hheld hrefused hpends
  rw [hbusy] at hheld hrefused hpends
  rw [hrefuses] at hrefused hpends
  rw [hb.req hs] at hreserved
  rw [hoff] at hpends
  rw [← ha.req hu] at hreserved hheld hrefused hpends
  rw [← ha.galPower hu hg] at hstays
  exact ⟨hstays, hreserved, hheld,
    fun hne hidle hm href => ⟨(hrefused hne hidle hm href).1, ha.refused hu (hrefused hne hidle hm href).2⟩,
    fun hne hidle hm href => ⟨(hpends hne hidle hm href).1, fun hon => ha.pends _ ((hpends hne hidle hm href).2 hon)⟩⟩

end Requests

/-- The field of a request that a write of PWR_GAL_REQ holds. -/
def askedState (w : Word) (j : Nat) : Nat := bitsOf (2 * j + 1) (2 * j) w.toNat

theorem askedState_lt (w : Word) (j : Nat) : askedState w j < 4 := by
  have hwidth : 2 * j + 1 + 1 - 2 * j = 2 := by omega
  rw [askedState, bitsOf, hwidth]
  exact Nat.mod_lt _ (by decide)

/-- The requests of a write of PWR_GAL_REQ_`k`, in order. -/
def State.askGals (s : State) (k : Nat) (w : Word) (js : List Nat) : State :=
  js.foldl (fun s j => s.requestGal (16 * k + j) (askedState w j)) s

theorem exec_galleryPowerRequest (k : Fin 4) (w : Word) (s : State) :
    exec (.galleryPowerRequest k w) s = .next (s.askGals k.val w (List.range 16)) := rfl

theorem State.askGals_bystander {k j : Nat} {js : List Nat} (s : State) (hk : k < 4) (hj : j < 16) (w : Word)
    (hjs : ∀ i ∈ js, i < 16 ∧ i ≠ j) : Bystander (16 * k + j) s (s.askGals k w js) := by
  refine .foldl fun i hi t => t.requestGal_bystander ?_ ?_ ?_ _ <;>
  · obtain ⟨hi16, hne⟩ := hjs i hi
    omega

/-- Each gallery of the write has the answer to its own request. -/
theorem State.askGals_answered {s : State} (hs : s.canon) (k : Fin 4) (w : Word) (j : Fin 16) :
    GalAnswered (16 * k.val + j.val) (askedState w j.val) s (s.askGals k.val w (List.range 16)) := by
  have hg : 16 * k.val + j.val < 64 := by omega
  obtain ⟨before, after, hsplit⟩ := List.append_of_mem (List.mem_range.2 j.isLt)
  have hnodup : (before ++ j.val :: after).Nodup := hsplit ▸ List.nodup_range
  have hrange : ∀ i ∈ before ++ j.val :: after, i < 16 := fun i hi => List.mem_range.1 (hsplit ▸ hi)
  have hothers : ∀ i, i ∈ before ∨ i ∈ after → i ≠ j.val := by
    rw [List.nodup_middle, List.nodup_cons] at hnodup
    rintro i hi rfl
    exact hnodup.1 (List.mem_append.2 hi)
  have hb := s.askGals_bystander k.isLt j.isLt w
    fun i hi => ⟨hrange i (List.mem_append_left _ hi), hothers i (.inl hi)⟩
  have hcanon := hb.canon hs
  have hmid := State.requestGal_answered hcanon hg (askedState_lt w j.val)
  have hkeep := State.requestGal_byRequests (s.askGals k.val w before) hg (askedState w j.val)
  have ha := State.askGals_bystander ((s.askGals k.val w before).requestGal (16 * k.val + j.val) (askedState w j.val))
    k.isLt j.isLt w fun i hi => ⟨hrange i (List.mem_append_right _ (List.mem_cons_of_mem _ hi)), hothers i (.inr hi)⟩
  have hall : s.askGals k.val w (List.range 16) = ((s.askGals k.val w before).requestGal (16 * k.val + j.val)
      (askedState w j.val)).askGals k.val w after := by
    rw [hsplit, State.askGals, List.foldl_append]
    rfl
  rw [hall]
  exact hmid.between hs hg hb ha (hkeep.canon hcanon)

end Sys2Proof.Machine

/-! Clocks of the galleries (15, R387; 16, R397): CLOCKED follows, and the power state is stored. -/

namespace Sys2Proof.Machine

section Clocks

variable {s : State} {g k : Nat}

/-- Field CLOCKED of source `k` is as before. -/
abbrev KeepsClocked (k : Nat) : State → State → Prop := KeepsFld (R.TRC_SRC_STATUS k) F.TRC_SRC_STATUS_CLOCKED

theorem traceSource_ne_status (k : Nat) : R.TRC_SRC_STATUS k ≠ R.TRC_STATUS := by
  unfold R.TRC_SRC_STATUS R.TRC_STATUS
  omega

theorem galStateReg_ne_traceSource (g : Nat) (hk : k < 68) : R.TRC_SRC_STATUS k ≠ R.PWR_GAL_STATE (g / 16) := by
  unfold R.TRC_SRC_STATUS R.PWR_GAL_STATE
  omega

theorem galStateReg_notMem_traceRegs (g : Nat) (hk : k < 68) : R.PWR_GAL_STATE (g / 16) ∉ traceRegs k := by
  simp only [traceRegs, R.PWR_GAL_STATE, R.TRC_SRC_STATUS, R.TRC_STATUS, List.mem_cons, List.not_mem_nil, or_false]
  omega

/-- The trace record holds no register. -/
theorem KeepsFld.set_trc {o : Nat} {f : Field} {r : Trace} : KeepsFld o f s { s with trc := r } := ⟨id, fun _ => rfl⟩

theorem State.setFifo_keepsClocked (s : State) (k : Nat) (l : List Dword) : KeepsClocked k s (s.setFifo k l) :=
  (KeepsFld.set_trc.trans .put_below).trans (.put_other (traceSource_ne_status k))

theorem State.dropPacket_keepsClocked (s : State) (k : Nat) : KeepsClocked k s (s.dropPacket k) :=
  (KeepsFld.set_trc.trans .put_below).trans
    (.ite .refl ((KeepsFld.raise_other (traceSource_ne_status k)).trans (.of_touch (State.cicEvent_touch ..))))

/-- A packet leaves CLOCKED of its source. -/
theorem State.pushPacket_keepsClocked (s : State) (k ty payload : Nat) : KeepsClocked k s (s.pushPacket k ty payload) :=
  .ite ((s.setFifo_keepsClocked k _).trans .set_trc) (s.dropPacket_keepsClocked k)

theorem State.startPackets_keepsClocked (s : State) (k : Nat) : KeepsClocked k s (s.startPackets k) :=
  (((s.pushPacket_keepsClocked k ..).trans (State.pushPacket_keepsClocked _ k ..)).trans .set_trc).trans
    (.of_touch (State.stamped_touch ..))

theorem State.flushBranch_writes (s : State) (k : Nat) : Writes (traceRegs k) s (s.flushBranch k) :=
  .ite .refl ((Writes.of_touch (s.setOutcomes_touch k _)).trans (State.pushPacket_writes _ k ..))

/-- The packets of a source that stops, before CLOCKED clears. -/
def State.stopPackets (s : State) (k : Nat) : State :=
  if s.tracing k then (s.flushBranch k).pushPacket k 6 s.trcTime else s

theorem State.trcStop_eq (s : State) (k : Nat) :
    s.trcStop k = (s.stopPackets k).put (R.TRC_SRC_STATUS k) F.TRC_SRC_STATUS_CLOCKED 0 := rfl

theorem State.stopPackets_writes (s : State) (k : Nat) : Writes (traceRegs k) s (s.stopPackets k) :=
  .ite ((s.flushBranch_writes k).trans (State.pushPacket_writes _ k ..)) .refl

theorem State.trcStop_clocked (hs : s.canon) (k : Nat) :
    (s.trcStop k).bit (R.TRC_SRC_STATUS k) F.TRC_SRC_STATUS_CLOCKED = false := by
  rw [State.trcStop_eq]
  exact State.bit_of_put (b := false) (State.put_reg_self _ _ _ _ ((s.stopPackets_writes k).canon hs).1)

/-- The packets of a source that runs again, once CLOCKED is set. -/
def State.upPackets (s : State) (k kind : Nat) : State :=
  if s.tracing k then (s.pushPacket k 7 kind).startPackets k else s

theorem State.trcStart_eq (s : State) (k kind : Nat) :
    s.trcStart k kind = (s.raise (R.TRC_SRC_STATUS k) F.TRC_SRC_STATUS_CLOCKED).upPackets k kind := rfl

theorem State.upPackets_keepsClocked (s : State) (k kind : Nat) : KeepsClocked k s (s.upPackets k kind) :=
  .ite ((s.pushPacket_keepsClocked k ..).trans (State.startPackets_keepsClocked _ k)) .refl

theorem State.upPackets_writes (s : State) (k kind : Nat) : Writes (traceRegs k) s (s.upPackets k kind) :=
  .ite ((s.pushPacket_writes k ..).trans (State.startPackets_writes _ k)) .refl

theorem State.trcStart_writes (s : State) (k kind : Nat) : Writes (traceRegs k) s (s.trcStart k kind) :=
  (Writes.raise (mem_traceRegs k).1).trans (State.upPackets_writes _ k kind)

theorem State.trcStart_clocked (hs : s.canon) (k kind : Nat) :
    (s.trcStart k kind).bit (R.TRC_SRC_STATUS k) F.TRC_SRC_STATUS_CLOCKED = true := by
  rw [State.trcStart_eq, (State.upPackets_keepsClocked _ k kind).bit ((s.raise_touch ..).2.2 hs)]
  exact State.bit_raise hs

/-! GALLERY_IDLE and GALLERY_ON. -/

/-- A gallery whose clock is gated (R397, R387). -/
theorem exec_galleryIdle_gates (hs : s.canon) (g : Gal) (hreq : s.galReq g.val = 1) (hon : s.galPower g.val = 0)
    (hidle : s.galBusy g.val = false) (hallowed : s.galRefuses g.val 1 = false) :
    ∃ t, exec (.galleryIdle g) s = .next t ∧ t.galPower g.val = 1 ∧
      t.bit (R.TRC_SRC_STATUS (4 + g.val)) F.TRC_SRC_STATUS_CLOCKED = false ∧ t.fab = s.fab ∧ t.mem = s.mem := by
  have hstop := s.trcStop_touch (4 + g.val)
  have hframe := hstop.then ((s.trcStop (4 + g.val)).setGalPower_touch g.val 1) rfl
  have hcanon := hstop.2.2 hs
  have hexec : exec (.galleryIdle g) s = .next ((s.trcStop (4 + g.val)).setGalPower g.val 1) := by
    rw [show exec (.galleryIdle g) s = execGalleryIdle g s from rfl, execGalleryIdle, if_neg (by simp [hreq, hon, hidle]),
      if_neg (by simp [hallowed])]
  have hkeep : KeepsClocked (4 + g.val) (s.trcStop (4 + g.val)) ((s.trcStop (4 + g.val)).setGalPower g.val 1) :=
    .put_other (galStateReg_ne_traceSource g.val (by omega))
  exact ⟨_, hexec, State.galPower_setGalPower_self hcanon .., (hkeep.bit hcanon).trans (State.trcStop_clocked hs _),
    hframe.2.1 .fab rfl, hframe.2.1 .mem rfl⟩

/-- A gallery whose clock resumes (R397, R387). -/
theorem exec_galleryOn_resumes (hs : s.canon) (g : Gal) (hreq : s.galReq g.val = 0) (hidle : s.galPower g.val = 1) :
    ∃ t, exec (.galleryOn g) s = .next t ∧ t.galPower g.val = 0 ∧
      t.bit (R.TRC_SRC_STATUS (4 + g.val)) F.TRC_SRC_STATUS_CLOCKED = true ∧ t.fab = s.fab ∧ t.mem = s.mem := by
  have hcanon := (s.setGalPower_touch g.val 0).2.2 hs
  have hframe := ((s.setGalPower_touch g.val 0).mono (n := 1064961) rfl).then
    ((s.setGalPower g.val 0).trcStart_touch (4 + g.val) 0) rfl
  have hexec : exec (.galleryOn g) s = .next ((s.setGalPower g.val 0).trcStart (4 + g.val) 0) := by
    rw [show exec (.galleryOn g) s = execGalleryOn g s from rfl, execGalleryOn, if_neg (by simp [hreq, hidle])]
  have hpower := ((s.setGalPower g.val 0).trcStart_writes (4 + g.val) 0).galPower hcanon
    (galStateReg_notMem_traceRegs g.val (by omega))
  exact ⟨_, hexec, hpower.trans (State.galPower_setGalPower_self hs ..), State.trcStart_clocked hcanon ..,
    hframe.2.1 .fab rfl, hframe.2.1 .mem rfl⟩

/-! GALLERY_WAKE. -/

/-- The clear or march with which a gallery wakes (R113). -/
def State.wakeMarch (s : State) (g : Nat) : March :=
  { gal := g, keep := false, wake := true, start := false,
    arrays := if s.bit (R.GAL_DM_CFG g) F.GAL_DM_CFG_MARCH_ON_WAKE then 15 else 3 }

/-- The gallery in transition, its repair entries loaded. -/
def State.wakePowered (s : State) (g : Nat) : State := (s.loadRepair g).setGalPower g 3

/-- The same with BUSY shown for a march. -/
def State.wakeBegins (s : State) (g : Nat) : State :=
  if (s.wakeMarch g).arrays = 15 then (s.wakePowered g).raise (R.GAL_MARCH_CTL g) F.GAL_MARCH_CTL_BUSY
  else s.wakePowered g

theorem State.startWake_eq (s : State) (g : Nat) : s.startWake g =
    { s.wakeBegins g with
      mem := { (s.wakeBegins g).mem with marches := (s.wakeBegins g).mem.marches ++ [s.wakeMarch g] } } := rfl

theorem State.wakeBegins_mem (s : State) (g : Nat) : (s.wakeBegins g).mem = s.mem := by
  have hpowered : Touch 1 s (s.wakePowered g) := (s.loadRepair_touch g).then (State.setGalPower_touch ..) rfl
  have hwaking : Touch 1 (s.wakePowered g) (s.wakeBegins g) := .ite (State.raise_touch ..) (.refl ..)
  exact (hpowered.then hwaking rfl).2.1 .mem rfl

theorem State.wakeBegins_galPower (hs : s.canon) (g : Nat) : (s.wakeBegins g).galPower g = 3 := by
  have hload := (s.loadRepair_touch g).2.2 hs
  have hcanon : (s.wakePowered g).canon := (State.setGalPower_touch ..).2.2 hload
  have hne : R.PWR_GAL_STATE (g / 16) ≠ R.GAL_MARCH_CTL g := by
    unfold R.PWR_GAL_STATE R.GAL_MARCH_CTL
    omega
  have hkeep : KeepsFld (R.PWR_GAL_STATE (g / 16)) (reqField g) (s.wakePowered g) (s.wakeBegins g) :=
    .ite (.raise_other hne) .refl
  exact (hkeep.fld hcanon).trans (State.galPower_setGalPower_self hload g 3)

/-- A gallery that wakes is in transition, and its clear or march begins (R297, R397). -/
theorem exec_galleryWake_wakes (hs : s.canon) (g : Gal) (hreq : s.galReq g.val ≠ 2) (hoff : s.isOff g.val = true) :
    ∃ t, exec (.galleryWake g) s = .next t ∧ t.galPower g.val = 3 ∧
      t.mem.marches = s.mem.marches ++ [s.wakeMarch g.val] := by
  have hexec : exec (.galleryWake g) s = .next (s.startWake g.val) := by
    rw [show exec (.galleryWake g) s = execGalleryWake g s from rfl, execGalleryWake, if_neg (by simp [hreq, hoff])]
  refine ⟨_, hexec, State.wakeBegins_galPower hs g.val, ?_⟩
  rw [State.startWake_eq, ← s.wakeBegins_mem g.val]

end Clocks

end Sys2Proof.Machine

/-! GALLERY_POWER_DOWN (10, R296; 12, R334): what refusing the waiting requests leaves, and what the gallery loses. -/

namespace Sys2Proof.Machine

/-! Answers write no register of a gallery's power. -/

/-- The registers of a host access that is refused. -/
def hostRefusalRegs : List Nat := R.HOST_ERR :: hostErrLocRegs

section Refusals

variable (s : State)

theorem State.hostErr_writesAll (n bar addr st : Nat) : Writes hostRefusalRegs s (s.hostErr n bar addr st) :=
  (Writes.raise List.mem_cons_self).trans ((s.hostErr_writes n bar addr st).mono (List.subset_cons_self ..))

theorem State.reply_writes (r : HostReply) : Writes hostRefusalRegs s (s.reply r) := .of_touch (s.reply_touch r)

theorem State.abortRead_writes (addr len : Nat) : Writes hostRefusalRegs s (s.abortRead addr len) :=
  ((s.aer_keeps ..).writes.mono (by decide)).trans (State.reply_writes _ _)

/-- A further answer to a read. -/
theorem Writes.andIf {os : List Nat} {s t u : State} {c : Prop} [Decidable c] (h : Writes os s t) (hu : Writes os t u) :
    Writes os s (if c then u else t) := h.trans (.ite hu .refl)

/-- An answer to the host writes at most its error registers. -/
theorem State.hostAnswer_writes (bar addr len : Nat) (read : Bool) (st : Nat) (bs : List Byte) :
    Writes hostRefusalRegs s (s.hostAnswer bar addr len read st bs) := by
  have hrefused : Writes hostRefusalRegs s (s.refusedBit bar addr st) :=
    .ite (s.hostErr_writesAll ..) (.ite (s.hostErr_writesAll ..) .refl)
  refine .ite ?ok (.ite ?zeroed (.ite ?poisoned (.ite ?aborted (.ite ?silent ?refused))))
  case ok => exact .andIf .refl (s.reply_writes _)
  case zeroed => exact .andIf .refl (s.reply_writes _)
  case poisoned => exact .andIf (s.hostErr_writesAll ..) (State.reply_writes _ _)
  case aborted => exact .andIf (s.hostErr_writesAll ..) (State.abortRead_writes _ ..)
  case silent => exact .andIf .refl (s.abortRead_writes ..)
  case refused => exact .andIf hrefused (State.reply_writes _ _)

/-- The power states and ready bits of the galleries. -/
def offRegs : List Nat := [R.DEVICE_READY0, R.DEVICE_READY1] ++ galStateRegs

theorem mem_offRegs {o : Nat} : o ∈ offRegs ↔ o = 0x10 ∨ o = 0x14 ∨ o = 0x203020 ∨ o = 0x203024 ∨ o = 0x203028 ∨
    o = 0x20302C := by
  simp [offRegs, galStateRegs, R.DEVICE_READY0, R.DEVICE_READY1, R.PWR_GAL_STATE]

theorem NOC_OFF_COUNT_notMem_offRegs {g : Nat} (hg : g < 64) : R.NOC_OFF_COUNT g ∉ offRegs := by
  rw [mem_offRegs, R.NOC_OFF_COUNT]
  omega

theorem MBX_Q_STATUS_notMem_offRegs (q : Nat) : R.MBX_Q_STATUS q ∉ offRegs := by
  rw [mem_offRegs, R.MBX_Q_STATUS]
  omega

theorem State.hostAnswer_sparesOff (bar addr len : Nat) (read : Bool) (st : Nat) (bs : List Byte) :
    Spares offRegs s (s.hostAnswer bar addr len read st bs) := .of_writes (s.hostAnswer_writes ..) (by decide)

theorem State.complete_sparesOff (c : CmdId) (status : Nat) (r0 r1 : Dword) (reason : Nat) :
    Spares offRegs s (s.complete c status r0 r1 reason) :=
  .of_writes (s.complete_writes c status r0 r1 reason) fun _ hq e =>
    MBX_Q_STATUS_notMem_offRegs c.queue (List.mem_singleton.1 e ▸ hq)

theorem State.countOff_sparesOff {g : Nat} (hg : g < 64) (posted : Bool) : Spares offRegs s (s.countOff g posted) :=
  .of_writes (s.countOff_writes g posted) fun _ hq e => NOC_OFF_COUNT_notMem_offRegs hg (List.mem_singleton.1 e ▸ hq)

/-- An answer to any requester of a bank. -/
theorem State.answerBank_sparesOff (r : BankReq) (st : Nat) : Spares offRegs s (s.answerBank r st) := by
  unfold State.answerBank
  split
  · exact .of_touch (s.answerPkt_touch ..)
  · exact .ite (fun _ => ⟨id, fun _ _ _ => rfl⟩) .refl
  · exact s.hostAnswer_sparesOff ..
  · refine .ite (fun _ => s.complete_sparesOff ..) ?_
    split
    · exact (Spares.of_touch (s.toHost_touch ..)).trans (State.complete_sparesOff ..)
    · exact s.complete_sparesOff ..
    · exact (Spares.of_touch (s.toHost_touch ..)).trans (State.complete_sparesOff ..)
    · exact s.complete_sparesOff ..
    · exact s.complete_sparesOff ..
  · exact ⟨id, fun _ _ _ => rfl⟩

theorem State.proxyPkt_sparesOff {g : Nat} (hg : g < 64) (p : NocPkt) : Spares offRegs s (s.proxyPkt g p) := by
  have hother : Spares offRegs s (s.bump (R.NOC_OFF_COUNT g) F.NOC_OFF_COUNT_OTHER) :=
    .bump (NOC_OFF_COUNT_notMem_offRegs hg)
  unfold State.proxyPkt
  split
  · exact hother
  · exact hother
  · exact hother
  · exact (s.countOff_sparesOff hg _).trans (.of_touch (State.answerPkt_touch ..))

theorem State.proxyBar0_sparesOff {g : Nat} (hg : g < 64) (addr : BitVec 64) (op : HostOp) :
    Spares offRegs s (s.proxyBar0 g addr op) := by
  cases op with
  | read n => exact (Spares.foldl fun _ _ t => t.countOff_sparesOff hg _).trans (State.hostAnswer_sparesOff _ ..)
  | write bs => exact .foldl fun _ _ t => t.countOff_sparesOff hg _

/-- A bank request that is answered for its gallery; the proxy of a gallery that is Off counts it. -/
def refuseBank (g st : Nat) (s : State) (r : BankReq) : State :=
  (if st = 2 then s.countOff g r.who.posted else s).answerBank r st

/-- No bank request of the gallery is in the queue. -/
def State.unqueued (g : Nat) : State :=
  { s with mem := { s.mem with bankQ := s.mem.bankQ.filter (fun r => r.gal != g) } }

theorem State.flushQueue_eq (g st : Nat) : s.flushQueue g st =
    (s.mem.bankQ.filter (fun r => r.gal == g)).foldl (refuseBank g st) (s.unqueued g) := rfl

theorem State.flushQueue_sparesOff {g : Nat} (hg : g < 64) (st : Nat) : Spares offRegs s (s.flushQueue g st) := by
  have hrefuse (t : State) (r : BankReq) : Spares offRegs t (refuseBank g st t r) :=
    .trans (.ite (fun _ => t.countOff_sparesOff hg _) .refl) (State.answerBank_sparesOff _ ..)
  have hqueue : Spares offRegs s (s.unqueued g) := ⟨id, fun _ _ _ => rfl⟩
  rw [State.flushQueue_eq]
  exact hqueue.trans (.foldl fun r _ t => hrefuse t r)

/-- A net-store access that the proxy of its gallery refuses. -/
def refuseNet (g : Nat) (s : State) (r : NetReq) : State :=
  (s.countOff g r.write.isSome).hostAnswer 4 r.addr (r.got.length + r.left) r.write.isNone 2 []

/-- A request held in the mesh that reaches the proxy of its gallery. -/
def refuseHeld (g : Nat) (s : State) : Held → State
  | .pkt p => s.proxyPkt g p
  | .bar0 addr op _ => s.proxyBar0 g addr op

/-- Nothing waits for the gallery. -/
def State.unawaited (g : Nat) : State :=
  { s with host := { s.host with netQ := s.host.netQ.filter (fun r => r.gal != g) },
           noc := { s.noc with waiting := s.noc.waiting.filter (fun h => !heldFor g h) } }

theorem State.flushNet_eq (g : Nat) : s.flushNet g = (s.noc.waiting.filter (heldFor g)).foldl (refuseHeld g)
    ((s.host.netQ.filter (fun r => r.gal == g)).foldl (refuseNet g) (s.unawaited g)) := rfl

theorem State.flushNet_sparesOff {g : Nat} (hg : g < 64) : Spares offRegs s (s.flushNet g) := by
  have hnet (t : State) (r : NetReq) : Spares offRegs t (refuseNet g t r) :=
    (t.countOff_sparesOff hg _).trans (State.hostAnswer_sparesOff _ ..)
  have hheld (t : State) (h : Held) : Spares offRegs t (refuseHeld g t h) := by
    cases h with
    | pkt p => exact t.proxyPkt_sparesOff hg p
    | bar0 addr op _ => exact t.proxyBar0_sparesOff hg addr op
  have hqueues : Spares offRegs s (s.unawaited g) := ⟨id, fun _ _ _ => rfl⟩
  rw [State.flushNet_eq]
  exact (hqueues.trans (.foldl fun r _ t => hnet t r)).trans (.foldl fun h _ t => hheld t h)

end Refusals

/-! What a gallery that loses power forgets. -/

/-- A key that is not kept reads as the default, whatever the form of the store. -/
theorem NMap.get_keep_of_dropped {α : Type} (d : Nat → α) (m : NMap α) {p : Nat → Bool} {k : Nat} (hk : p k = false) :
    NMap.get d (NMap.keep m p) k = d k := by
  induction m with
  | nil => rfl
  | cons e t ih =>
    obtain ⟨k', v⟩ := e
    by_cases hp : p k'
    · have hkeep : NMap.keep ((k', v) :: t) p = (k', v) :: NMap.keep t p := List.filter_cons_of_pos hp
      have hne : k ≠ k' := fun h => Bool.false_ne_true (hk.symm.trans (h ▸ hp))
      rw [hkeep, NMap.get, if_neg hne, ih, ite_self]
    · have hkeep : NMap.keep ((k', v) :: t) p = NMap.keep t p := List.filter_cons_of_neg hp
      rw [hkeep, ih]

/-- The Warden with what it holds of gallery `g` dropped. -/
def Warden.without (w : Warden) (g : Nat) : Warden :=
  { w with pend := NMap.keep w.pend (fun k => k / 32 != g), stack := NMap.keep w.stack (fun k => k != g),
           msgs := NMap.keep w.msgs (fun k => k != g) }

theorem State.wiuReset_wiu (s : State) (g : Nat) : (s.wiuReset g).wiu = s.wiu.without g := rfl

theorem Warden.without_stack (w : Warden) (g : Nat) : NMap.get (fun _ => []) (w.without g).stack g = [] :=
  NMap.get_keep_of_dropped (p := (· != g)) _ w.stack (bne_self_eq_false g)

theorem Warden.without_pend (w : Warden) (g : Nat) {i : Nat} (hi : i < 32) :
    NMap.get (fun _ => false) (w.without g).pend (g * 32 + i) = false := by
  have hgal : (g * 32 + i) / 32 = g := by omega
  refine NMap.get_keep_of_dropped (p := (· / 32 != g)) _ w.pend ?_
  rw [hgal, bne_self_eq_false]

section PowerDown

variable {s : State} {g : Nat}

/-- The gallery's encoder stopped, its Warden reset, its contents gone. -/
def State.emptied (s : State) (g : Nat) : State := ((s.abortSnapPhase2.trcOff (4 + g)).wiuReset g).clearGal g

/-- The ready bit of gallery `g` cleared and its assert records dropped. -/
def State.unready (s : State) (g : Nat) : State :=
  let t := s.setGalReady g false
  { t with fab := { t.fab with asserts := NMap.keep t.fab.asserts (fun k => k != g) } }

/-- The gallery Off, before what waits for it is refused. -/
def State.turnedOff (s : State) (g : Nat) : State := ((s.emptied g).unready g).setGalPower g 2

theorem exec_galleryPowerDown_goes (g : Gal) (hreq : s.galReq g.val = 2) (hpowered : s.galPower g.val < 2)
    (hidle : s.galBusy g.val = false) (hallowed : s.galRefuses g.val 2 = false)
    (hbanks : s.mem.bankQ.any (fun r => r.gal == g.val && r.since.isSome) = false)
    (hnets : s.host.netQ.any (fun r => r.gal == g.val && r.taken) = false) :
    exec (.galleryPowerDown g) s = .next (((s.turnedOff g.val).flushQueue g.val 2).flushNet g.val) := by
  have hgoes : ¬(s.galReq g.val ≠ 2 ∨ 2 ≤ s.galPower g.val ∨ s.galBusy g.val = true) := by
    rw [hreq, hidle]
    simp only [ne_eq, not_true_eq_false, Bool.false_eq_true, or_false, false_or]
    omega
  rw [show exec (.galleryPowerDown g) s = execGalleryPowerDown g s from rfl, execGalleryPowerDown, if_neg hgoes,
    if_neg (Bool.eq_false_iff.1 hallowed), if_neg (not_or.2 ⟨Bool.eq_false_iff.1 hbanks, Bool.eq_false_iff.1 hnets⟩)]
  rfl

theorem State.emptied_canon (hs : s.canon) (g : Nat) : (s.emptied g).canon :=
  (State.clearGal_touch ..).2.2 ((State.wiuReset_touch ..).2.2 ((State.trcOff_touch ..).2.2
    (s.abortSnapPhase2_touch.2.2 hs)))

theorem State.emptied_wiu (s : State) (g : Nat) : (s.emptied g).wiu = s.wiu.without g := by
  have hbefore : (s.abortSnapPhase2.trcOff (4 + g)).wiu = s.wiu :=
    ((State.trcOff_touch ..).2.1 .wiu rfl).trans (s.abortSnapPhase2_touch.2.1 .wiu rfl)
  exact ((State.clearGal_touch ..).2.1 .wiu rfl).trans
    ((State.wiuReset_wiu ..).trans (congrArg (Warden.without · g) hbefore))

theorem State.unready_canon (hs : s.canon) (g : Nat) : (s.unready g).canon := (s.setGalReady_touch g false).2.2 hs

/-- The ready bit of the gallery in its word of DEVICE_READY. -/
theorem State.unready_ready (hs : s.canon) (hg : g < 64) :
    ((s.unready g).reg (R.DEVICE_READY0 + g / 32 * 4)).getLsbD (g % 32) = false := by
  have hbit (o : Nat) {n : Nat} (hn : n < 32) : ((s.put o ⟨n, n⟩ (natOfBool false)).reg o).getLsbD n = false := by
    rw [State.put_reg_self _ _ _ _ hs.1, Word.getLsbD_put_bit _ hn, if_pos rfl]
  show ((s.setGalReady g false).reg _).getLsbD _ = false
  by_cases hlow : g < 32
  · rw [State.setGalReady, if_pos hlow, Nat.div_eq_of_lt hlow, Nat.mod_eq_of_lt hlow]
    exact hbit R.DEVICE_READY0 hlow
  · have hdiv : g / 32 = 1 := by omega
    have hmod : g % 32 = g - 32 := by omega
    rw [State.setGalReady, if_neg hlow, hdiv, hmod]
    exact hbit R.DEVICE_READY1 (by omega)

theorem State.unready_asserts (s : State) (g : Nat) : NMap.get (fun _ => []) (s.unready g).fab.asserts g = [] :=
  NMap.get_keep_of_dropped (p := (· != g)) _ (s.setGalReady g false).fab.asserts (bne_self_eq_false g)

/-- What a gallery gone Off has lost (R296, R334). -/
structure GalLost (g : Nat) (t : State) : Prop where
  off : t.isOff g = true
  unready : (t.reg (R.DEVICE_READY0 + g / 32 * 4)).getLsbD (g % 32) = false
  stack : t.wiuStack g = []
  pend : ∀ i, i < 32 → NMap.get (fun _ => false) t.wiu.pend (g * 32 + i) = false
  asserts : NMap.get (fun _ => []) t.fab.asserts g = []

theorem readyReg_mem_offRegs (hg : g < 64) : R.DEVICE_READY0 + g / 32 * 4 ∈ offRegs := by
  rw [mem_offRegs, R.DEVICE_READY0]
  omega

/-- What spares the registers, the Wardens and the assert records leaves a gallery Off. -/
theorem GalLost.after {t : State} (h : GalLost g s) (hs : s.canon) (hg : g < 64) (hregs : Spares offRegs s t)
    (hwiu : t.wiu = s.wiu) (hfab : t.fab = s.fab) : GalLost g t where
  off := by
    have hstate : R.PWR_GAL_STATE (g / 16) ∈ offRegs := List.mem_append_right _ (galStateReg_mem hg)
    exact (congrArg (fun w => (reqField g).of w == 2) (hregs.reg hs _ hstate)).trans h.off
  unready := by
    rw [hregs.reg hs _ (readyReg_mem_offRegs hg)]
    exact h.unready
  stack := by
    rw [State.wiuStack, hwiu]
    exact h.stack
  pend := by
    rw [hwiu]
    exact h.pend
  asserts := by
    rw [hfab]
    exact h.asserts

theorem State.turnedOff_lost (hs : s.canon) (hg : g < 64) : GalLost g (s.turnedOff g) := by
  have hempty := State.emptied_canon hs g
  have hcanon := State.unready_canon hempty g
  have hwiu : (s.turnedOff g).wiu = s.wiu.without g :=
    (State.setGalPower_touch ..).2.1 .wiu rfl |>.trans
      (((s.emptied g).setGalReady_touch g false).2.1 .wiu rfl |>.trans (s.emptied_wiu g))
  have hne : R.DEVICE_READY0 + g / 32 * 4 ∉ [R.PWR_GAL_STATE (g / 16)] := by
    rw [List.mem_singleton, R.DEVICE_READY0, R.PWR_GAL_STATE]
    omega
  have hset : Writes [R.PWR_GAL_STATE (g / 16)] ((s.emptied g).unready g) (s.turnedOff g) := .put (List.mem_singleton_self _)
  refine ⟨congrArg (· == 2) (State.galPower_setGalPower_self hcanon g 2), ?_, ?_, fun i hi => ?_, ?_⟩
  · rw [hset.reg hcanon _ hne]
    exact State.unready_ready hempty hg
  · rw [State.wiuStack, hwiu]
    exact s.wiu.without_stack g
  · rw [hwiu]
    exact s.wiu.without_pend g hi
  · exact (s.emptied g).unready_asserts g

/-- Refusing what waits for the gallery gives nothing back. -/
theorem State.poweredDown_lost (hs : s.canon) (hg : g < 64) :
    GalLost g (((s.turnedOff g).flushQueue g 2).flushNet g) := by
  have hqueue := (s.turnedOff g).flushQueue_touch g 2
  have hnet := ((s.turnedOff g).flushQueue g 2).flushNet_touch g
  have hcanon : (s.turnedOff g).canon := (State.setGalPower_touch ..).2.2 (State.unready_canon (State.emptied_canon hs g) g)
  exact ((State.turnedOff_lost hs hg).after hcanon hg (State.flushQueue_sparesOff _ hg 2) (hqueue.2.1 .wiu rfl)
    (hqueue.2.1 .fab rfl)).after (hqueue.2.2 hcanon) hg (State.flushNet_sparesOff _ hg) (hnet.2.1 .wiu rfl)
    (hnet.2.1 .fab rfl)

end PowerDown

/-- Settles O49: a request by the lemma about its gallery, whatever the other requests of the same write; the moves by
what each stores. The Warden's POWER source pends with the request itself (log 47). -/
theorem galleryPowerTransitions : Obligations.GalleryPowerTransitions := by
  unfold Obligations.GalleryPowerTransitions
  refine fun s hs => ⟨fun k w => ⟨_, exec_galleryPowerRequest k w s, fun j => ?request⟩, fun g =>
    ⟨exec_galleryIdle_gates hs g, exec_galleryOn_resumes hs g, ?down, exec_galleryWake_wakes hs g⟩⟩
  case request =>
    obtain ⟨hpower, hreserved, hheld, hrefused, hpends⟩ := State.askGals_answered hs k w j
    exact ⟨hpower, hreserved, hheld, hrefused, fun hr hidle hmoves href =>
      ⟨(hpends hr hidle hmoves href).1, fun hon _ => (hpends hr hidle hmoves href).2 hon⟩⟩
  case down =>
    intro hreq hpowered hidle hallowed hbanks hnets
    obtain ⟨hoff, hready, hstack, hpend, hasserts⟩ := State.poweredDown_lost hs g.isLt
    exact ⟨_, exec_galleryPowerDown_goes g hreq hpowered hidle hallowed hbanks hnets, hoff, hready, hstack, hpend,
      hasserts⟩

end Sys2Proof.Machine
